-- ==== Sys2Proof/Word.lean ====
section
/-! DEFINITION. The word types of the QM-6400 and their plainest conversions. Registers are 32 bits wide and
little-endian (R8); engine buses carry 64 or 128 bits (R254). -/

namespace Sys2Proof

/-- A byte. -/
abbrev Byte := BitVec 8

/-- A register word. -/
abbrev Word := BitVec 32

/-- A doubleword: counters, times, node IDs. -/
abbrev W64 := BitVec 64

/-- A value on a transport bus of a data engine; the other classes use its low 64 bits. -/
abbrev BusVal := BitVec 128

/-- Bytes of `v`, least significant first. -/
def leBytes : Nat → Nat → List Byte
  | 0, _ => []
  | n + 1, v => BitVec.ofNat 8 v :: leBytes n (v / 256)

/-- The number whose bytes, least significant first, are the list's. -/
def leNat : List Byte → Nat
  | [] => 0
  | b :: bs => b.toNat + 256 * leNat bs

/-- Bytes of `v`, most significant first (line order). -/
def beBytes (n v : Nat) : List Byte := (leBytes n v).reverse

/-- The number whose bytes, most significant first, are the list's. -/
def beNat (bs : List Byte) : Nat := bs.foldl (fun a b => a * 256 + b.toNat) 0

/-- 1 or 0. -/
def b2n (b : Bool) : Nat := if b then 1 else 0

end Sys2Proof
end

