-- ==== Sys2Proof/Syntax.lean ====
section
/-! DEFINITION. The commands of the module: one constructor for each row of the table of operations and events. -/

namespace Sys2Proof

/-- Register masters (R401, R413): each holds its own selectors, check results and counter shadow. -/
inductive Master where
  | host | me0 | me1 | twin | debug
  deriving DecidableEq, Repr

/-- Masters of the crossbar, in the order of R413. -/
inductive XMaster where
  | host | me0 | me1 | ke0 | ke1 | ke2 | ke3 | dmaR | dmaW | twin | debug
  deriving DecidableEq, Repr

/-- Targets of the crossbar (R413). -/
inductive XTarget where
  | sram | context | buffer | regs | mailbox | flash | dflt
  deriving DecidableEq, Repr

/-- The three core PLLs (R476). -/
inductive Pll where
  | d | k | c
  deriving DecidableEq, Repr

/-- Reference clocks (R475). -/
inductive RefClk where
  | c | l | p
  deriving DecidableEq, Repr

/-- The lane registers whose writes are checked alike (R55). -/
inductive LaneReg where
  | pol | txMap | rxMap
  deriving DecidableEq, Repr

/-- The occupancy thresholds (R55). -/
inductive ThrReg where
  | expLimit | xoff | xon
  deriving DecidableEq, Repr

/-- What a lane lost (R60). -/
inductive LaneFail where
  | signal | cdr | align
  deriving DecidableEq, Repr

/-- Blocks with a selector and a window (R70, R122, R249, R288, R410, R442, R529). -/
inductive SelBlock where
  | port | ch | fab | eng | mem | dma | hlth
  deriving DecidableEq, Repr

/-- The two halves of a channel's context (R124). -/
inductive Half where
  | egress | ingress
  deriving DecidableEq, Repr

/-- The banks of an engine (R259). -/
inductive Bank where
  | a | b | c
  deriving DecidableEq, Repr

/-- Operand forms of the integer units (R321, R323): 32 bits, 64 bits, and 128 bits for the shifts of a data engine. -/
inductive Form where
  | w | d | q
  deriving DecidableEq, Repr

/-- Bytes fed to a CRC unit at a time (R330). -/
inductive CrcLen where
  | n1 | n4 | n8 | n16
  deriving DecidableEq, Repr

/-- DMA ring registers whose writes are checked (R441). -/
inductive RingReg where
  | cfg | ringLo | ringHi | head
  deriving DecidableEq, Repr

/-- PWR registers whose writes are checked (R489, R493). -/
inductive PwrReg where
  | cfg | wakeEn | wakeTimer | io
  deriving DecidableEq, Repr

/-- What wakes the module from ESCAPEMENT (R485). -/
inductive WakeSrc where
  | gpio (i : Fin 16) | pps | perst | timer | autostart
  deriving DecidableEq, Repr

/-- Resets that arrive over PCIe (R537). -/
inductive PcieReset where
  | perst | hot | flr
  deriving DecidableEq, Repr

/-- Tamper sensors (R494). -/
inductive Sensor where
  | mesh | light | voltage | temperature | clock | loop (n : Fin 4) | zeroizeN
  | backup (vbak : BitVec 16)
  deriving DecidableEq, Repr

/-- How the flash answers where an image in a slot is read: at every place, not in its header and section table, or not in a
section (R375, R387). -/
inductive FlashRead where
  | good | badHead | badSection
  deriving DecidableEq, Repr

/-- Faults inside the Silo (R503). -/
inductive FatalKind where
  | granary | lockstep | rom
  deriving DecidableEq, Repr

/-- GPIO registers that software writes (R543). -/
inductive GpioReg where
  | dir | out
  deriving DecidableEq, Repr

/-- Requests to configuration space: the writes that change how MSI-X messages are delivered, and the read of a double word
(R531). -/
inductive CfgReq where
  | msixControl (enable functionMask : Bool)
  | powerState (d3hot : Bool)
  | read (dword : BitVec 10)
  | write (dword : BitVec 10) (v : Word)
  deriving DecidableEq, Repr

/-- High-water marks of a channel (R240): the three HIGH values and the sixteen counters in order. -/
structure Marks where
  ch : Fin 16384
  nextSeq : W64
  highs : List W64
  otnGroup : W64
  counters : List W64
  deriving DecidableEq, Repr

/-- A mirror record of the ACTIVE member (R240). -/
inductive MirrorRec where
  | root (c : Fin 16384) (root : List Byte) (life : Nat) (made : W64) (initiator : Bool) (firstTx firstRx suite baleV : Nat)
      (peer : W64) (peerCh : Nat)
  | install (c : Fin 16384) (h : Half) (epoch : Word)
  /-- Bits `mask` of the word at a window offset. -/
  | field (c : Fin 16384) (off : BitVec 12) (mask v : Word)
  | chState (c : Fin 16384) (state : BitVec 3) (egCur : BitVec 1) (igCur : BitVec 2) (suite : BitVec 16) (baleV1 : Bool)
      (peerCh : BitVec 14) (rootEnd : W64)
  | reservation (c : Fin 16384) (resEnd : W64)
  | heartbeat (marks : List Marks)
  /-- A channel of the full mirror: its state and the 1,024 bytes of its context. -/
  | full (c : Fin 16384) (state : BitVec 3) (bytes : List Byte)
  /-- PORT_CFG of a port with bit 31 set, 0 where the port is not provisioned (R245). -/
  | port (p : Fin 64) (cfg : Word)
  /-- An imported SAK, for the installs that follow: KEY, AUX and AN (R240). -/
  | sak (c : Fin 16384) (key aux : List Byte) (an : BitVec 2)
  deriving DecidableEq, Repr

/-- An acknowledgement of the SHADOW (R241), and the state of its SYNC (R253). -/
inductive MirrorAck where
  | install (c : Fin 16384) (h : Half) (epoch : Word)
  | reservation (c : Fin 16384) (resEnd : W64)
  | sync (on : Bool)
  deriving DecidableEq, Repr

/-- A burst on the crossbar (R413, R417): up to 16 beats of 32 bytes with one enable per byte. -/
structure XReq where
  master : XMaster
  write : Bool
  addr : BitVec 48
  /-- Beats, 1 to 16. -/
  beats : Nat
  /-- Bytes of a write, 32 for each beat. -/
  data : List Byte
  /-- Byte enables, 32 for each beat. -/
  enables : List Bool
  deriving DecidableEq, Repr

/-- Codewords that a port's FEC decoder has seen since the port's last frame or group: corrected, uncorrectable, and
symbols corrected (R48, R79). -/
structure FecCount where
  corr : Nat
  uncorr : Nat
  sym : Nat
  deriving DecidableEq, Repr

def FecCount.zero : FecCount := ⟨0, 0, 0⟩

/-- What the code of the slice buffer finds as a frame leaves it: nothing, a corrected bit of a word, or a word that cannot
be corrected, with its wrong bits (R408). -/
inductive Staged where
  | clean
  | corrected (word bit : Nat)
  | bad (word : Nat) (wrong : List Nat)
  deriving DecidableEq, Repr

/-- An entry of a small table (R408): the egress and the ingress classifier's entry of a channel, a key of a hash table of
an engine, the route to an address. -/
inductive TableEnt where
  | egress (c : Fin 16384)
  | ingress (c : Fin 16384)
  | hash (e : Fin 70) (tbl : Fin 16) (key : Nat)
  | route (a : BitVec 12)
  deriving DecidableEq, Repr

/-- Areas of the Granary (R501). -/
inductive GranaryArea where
  | identity | domain | fabric | custody
  | importKey (i : Nat)
  | pin (i : Nat)
  deriving DecidableEq, Repr

/-- Small RAMs of an engine that hold copies (R408). -/
inductive LineRam where
  | cache | fetch | loop | streamX | streamY
  deriving DecidableEq, Repr

/-- Where a soft error strikes: bits of a word of a memory region (R389; of the Granary, words of copy 0 and then of copy 1),
one copy of a word's valid bit (R391), the custody-store entry of a channel, found bad in one copy or in both (R407, R501); of
the small RAMs: entry `i` of an engine's copies, a table entry, the FIFOs of the engine that holds a transmit slot's unit, place
`i` of a link's transmit or receive queue. -/
inductive SoftError where
  | word (k : Fin 75) (word : Nat) (bits : List Nat) (stuck : Bool)
  | vote (k : Fin 75) (word : Nat) (copy : Fin 3)
  | granaryRoot (c : Fin 16384) (both : Bool)
  | line (e : Fin 70) (r : LineRam) (i : Nat)
  | table (t : TableEnt)
  | unit (e : Fin 70) (tslot : BitVec 16)
  | titheTx (l : Fin 34) (i : Nat)
  | titheRx (l : Fin 34) (i : Nat)
  deriving DecidableEq, Repr

/-- What comes with a received Ethernet frame. -/
structure RxNote where
  fec : FecCount
  staged : Staged
  deriving DecidableEq, Repr

def RxNote.none : RxNote := ⟨FecCount.zero, .clean⟩

/-- Overhead of frames of one OTUC slice (R47): OPUC overhead, 8 bytes a frame (columns 15 and 16, rows 1–4); ODUC
overhead, 42 bytes a frame (columns 1–14, rows 2–4); section monitoring, 3 bytes a frame. -/
structure OtnOh where
  opuc : List Byte
  oduc : List Byte
  sm : List Byte
  deriving DecidableEq, Repr

/-- A group of one OPUC at a receiver, with what its port has seen since the group before: codewords, FlexO frames received,
and FlexO frames that the port opposite has sent (R79). -/
structure OtnIn where
  payload : List Byte
  oh : OtnOh
  fec : FecCount
  rxFlexo : Nat
  txFlexo : Nat
  deriving DecidableEq, Repr

/-- The commands, in the order of the table. -/
inductive Instr where
  | clientFrameRx (p : Fin 64) (f : List Byte) (note : RxNote)
  | pauseRepeat (p : Fin 64)
  | macControlFrameRx (p : Fin 64) (f : List Byte)
  | pauseQuantaExpiry (p : Fin 64) (pri : BitVec 8)
  | transmitOpportunity (p : Fin 64)
  | egressSlotRetire (c : Fin 16384)
  | reorderEmit (p : Fin 64)
  | baleTimeout (c : Fin 16384)
  | tfcSendInstant (c : Fin 16384)
  | lineFrameRx (p : Fin 64) (f : List Byte) (note : RxNote)
  | macsecFrameRx (p : Fin 64) (f : List Byte)
  | baleRx (p : Fin 64) (f : List Byte)
  | prevHoldExpiry (c : Fin 16384)
  | otnDescriptorRx (p : Fin 64) (i : Fin 16) (opuc : List Byte)
  | otnGroupRx (p : Fin 64) (i : Fin 16) (g : OtnIn)
  | otnGroupTx (p : Fin 64) (i : Fin 16) (g : OtnIn)
  | clientDelivery (p : Fin 64)
  | contextCounterFlush (c : Fin 16384)
  | sliceWakeDone (sl : Fin 32)
  | keyEngineWake (k : Fin 4)
  | pllLock (pll : Pll)
  | portProvision (m : Master) (v : Word)
  | portDeprovision (m : Master) (v : Word)
  | portLoopbackSet (m : Master) (v : Word)
  | portCfgWrite (m : Master) (v : Word)
  | portLaneMapWrite (m : Master) (r : LaneReg) (v : Word)
  | portFcWrite (m : Master) (v : Word)
  | portThresholdWrite (m : Master) (r : ThrReg) (v : Word)
  | portTxeqWrite (m : Master) (i : Fin 8) (v : Word)
  | portCntClr (m : Master) (v : Word)
  | cdrLock (p : Fin 64)
  | rxAdaptationDone (p : Fin 64)
  | portAlignment (p : Fin 64)
  | upHoldExpiry (p : Fin 64)
  | laneFailure (p : Fin 64) (lane : Fin 8) (k : LaneFail)
  | downHoldExpiry (p : Fin 64)
  | unmappedWindowAccess (m : Master) (b : SelBlock) (write : Bool)
  | counterLoRead (m : Master) (a : Word)
  | readClearAccess (m : Master) (a : Word)
  | registerWrite (m : Master) (a : Word) (v : Word)
  | sakStartTime (c : Fin 16384)
  | chKey (m : Master) (v : Word)
  | chEnable (m : Master) (v : Word)
  | chDisable (m : Master) (v : Word)
  | chEpochNow (m : Master) (v : Word)
  | chRemap (m : Master) (v : Word)
  | chContextWrite (m : Master) (off : BitVec 12) (v : Word)
  | chCntClr (m : Master) (v : Word)
  | channelDrainEnd (c : Fin 16384)
  | epochKeyInstall (c : Fin 16384) (h : Half)
  | rerootDue (c : Fin 16384)
  | rootExpiry (c : Fin 16384)
  | hello (p : Fin 64) (msg : List Byte)
  | offer (p : Fin 64) (msg : List Byte)
  | accept (p : Fin 64) (msg : List Byte)
  | confirm (p : Fin 64) (msg : List Byte)
  | helloRetransmit (c : Fin 16384)
  | acceptRetransmit (c : Fin 16384)
  | responderSessionExpiry (c : Fin 16384)
  | rerootRetry (c : Fin 16384)
  | jobRes (e : Fin 70) (v : W64)
  | entropySrcFail (i : Fin 8) (raw : List Byte)
  | drbgReseedDue (i : Fin 5)
  | titheFrameTx (l : Fin 34)
  | titheFrameRx (l : Fin 34) (f : List Byte)
  | titheReassemblyTimeout (l : Fin 34) (src : BitVec 12) (id : Word)
  | fabricMessageRx (l : Fin 34) (cls : BitVec 3) (lk : Bool) (msg : List Byte)
  | nhello (l : Fin 34) (node : W64) (addr : BitVec 12) (ver : BitVec 4) (num : BitVec 8)
  | lsa (l : Fin 34) (node : W64) (addr : BitVec 12) (seq : W64) (nbrs : List (W64 × Nat))
  | lsaAck (l : Fin 34) (node : W64) (seq : W64)
  | addrReq (l : Fin 34) (node : W64) (pref : BitVec 12)
  | addrGrant (l : Fin 34) (node : W64) (addr : BitVec 12)
  | kill (l : Fin 34) (orig : W64) (body : List Byte)
  | killAck (l : Fin 34) (orig : W64) (seq : W64) (result : BitVec 8)
  | alarm (l : Fin 34) (orig : W64) (seq : W64) (code : BitVec 16) (subject : W64) (ch : BitVec 14)
  | nhelloTimer
  | neighbourTimeout (l : Fin 34)
  | addrReqTimer
  | lsaRefresh
  | lsaRetransmit (l : Fin 34) (node : W64)
  | lsaExpiry (node : W64)
  | fabricKeyPrevExpiry
  | fabRouteWrite (m : Master) (a : BitVec 12) (v : Word)
  | fabCfgWrite (m : Master) (v : Word)
  | fabKill (m : Master) (v : Word)
  | killRepeat (c : Fin 16384)
  | killTimeout (c : Fin 16384)
  | twnCfgWrite (m : Master) (v : Word)
  | handover (m : Master) (v : Word)
  | takeover (m : Master) (v : Word)
  /-- A handshake message of the association arrives on a twin link. The two facts are what no message of R182–R187 tells:
  the partner's committed POLICY and PORTMAP equal this module's (R237), and it is ACTIVE or SOLO (R239). -/
  | twinAssociation (k : Fin 2) (msg : List Byte) (sections : List Byte) (partnerActive : Bool)
  | twinReassociateTimer
  | twinHeartbeat
  | twinLinkTimeout (k : Fin 2)
  | split
  /-- A sealed frame on a twin link that is RELINQUISH. -/
  | relinquish (k : Fin 2) (frame : List Byte)
  | takeoverForcedSwitch (c : Fin 16384)
  /-- A sealed frame on a twin link that carries a mirror record. -/
  | mirrorRecord (k : Fin 2) (frame : List Byte) (r : MirrorRec)
  | mirrorAck (k : Fin 2) (frame : List Byte) (a : MirrorAck)
  | fullMirrorDone
  | partnerDeadInput
  | bundleIssue (e : Fin 70)
  | unitResultLand (e : Fin 70)
  | blockingOpDone (e : Fin 70)
  | interruptAccept (e : Fin 70)
  | exception (e : Fin 70) (code : BitVec 8)
  | engineReset (m : Master) (v : Word)
  | engineResetDone (e : Fin 70)
  | engCntClr (m : Master) (v : Word)
  | engineTimerExpiry (e : Fin 70)
  | jump (e : Fin 70) (t : Word)
  | call (e : Fin 70) (t : Word)
  | ret (e : Fin 70)
  | reti (e : Fin 70)
  | codeWr (e : Fin 70) (t : Word)
  | syncPush (e : Fin 70)
  | syncPop (e : Fin 70) (g : Fin 64)
  | wait (e : Fin 70)
  | engineWake (e : Fin 70) (line : Fin 8)
  | rpt (e : Fin 70) (v : Word)
  | predFlush (e : Fin 70)
  | predBar (e : Fin 70)
  | trap (e : Fin 70)
  | nopredWrite (e : Fin 70) (v : Word)
  | dbSend (e : Fin 70) (v : W64)
  | doorbellRead (e : Fin 70) (g : Fin 64)
  | ld (e : Fin 70) (bk : Bank) (a : Word)
  | st (e : Fin 70) (bk : Bank) (v : BusVal)
  | storeBufferDrain (e : Fin 70) (bk : Bank)
  | lr (e : Fin 70) (a : W64)
  | sc (e : Fin 70) (v : W64)
  | add (e : Fin 70) (i : Fin 8) (fm : Form) (t : BusVal)
  | sub (e : Fin 70) (i : Fin 8) (fm : Form) (t : BusVal)
  | adds (e : Fin 70) (i : Fin 8) (fm : Form) (t : BusVal)
  | subs (e : Fin 70) (i : Fin 8) (fm : Form) (t : BusVal)
  | addus (e : Fin 70) (i : Fin 8) (fm : Form) (t : BusVal)
  | subus (e : Fin 70) (i : Fin 8) (fm : Form) (t : BusVal)
  | neg (e : Fin 70) (i : Fin 8) (fm : Form) (t : BusVal)
  | negs (e : Fin 70) (i : Fin 8) (fm : Form) (t : BusVal)
  | abs (e : Fin 70) (i : Fin 8) (fm : Form) (t : BusVal)
  | abss (e : Fin 70) (i : Fin 8) (fm : Form) (t : BusVal)
  | min (e : Fin 70) (i : Fin 8) (fm : Form) (t : BusVal)
  | max (e : Fin 70) (i : Fin 8) (fm : Form) (t : BusVal)
  | minu (e : Fin 70) (i : Fin 8) (fm : Form) (t : BusVal)
  | maxu (e : Fin 70) (i : Fin 8) (fm : Form) (t : BusVal)
  | and (e : Fin 70) (i : Fin 8) (t : BusVal)
  | or (e : Fin 70) (i : Fin 8) (t : BusVal)
  | xor (e : Fin 70) (i : Fin 8) (t : BusVal)
  | andn (e : Fin 70) (i : Fin 8) (t : BusVal)
  | not (e : Fin 70) (i : Fin 8) (t : BusVal)
  | pass (e : Fin 70) (i : Fin 8) (t : BusVal)
  | clz (e : Fin 70) (i : Fin 8) (fm : Form) (t : BusVal)
  | popc (e : Fin 70) (i : Fin 8) (fm : Form) (t : BusVal)
  | bswap (e : Fin 70) (i : Fin 8) (fm : Form) (t : BusVal)
  | shl (e : Fin 70) (i : Fin 3) (fm : Form) (t : BusVal)
  | shr (e : Fin 70) (i : Fin 3) (fm : Form) (t : BusVal)
  | sar (e : Fin 70) (i : Fin 3) (fm : Form) (t : BusVal)
  | rol (e : Fin 70) (i : Fin 3) (fm : Form) (t : BusVal)
  | ror (e : Fin 70) (i : Fin 3) (fm : Form) (t : BusVal)
  | cmpEq (e : Fin 70) (i : Fin 3) (fm : Form) (t : BusVal)
  | cmpNe (e : Fin 70) (i : Fin 3) (fm : Form) (t : BusVal)
  | cmpLt (e : Fin 70) (i : Fin 3) (fm : Form) (t : BusVal)
  | cmpLe (e : Fin 70) (i : Fin 3) (fm : Form) (t : BusVal)
  | cmpLtu (e : Fin 70) (i : Fin 3) (fm : Form) (t : BusVal)
  | cmpLeu (e : Fin 70) (i : Fin 3) (fm : Form) (t : BusVal)
  | btst (e : Fin 70) (i : Fin 3) (fm : Form) (t : BusVal)
  | mul (e : Fin 70) (i : Fin 2) (t : BusVal)
  | muls (e : Fin 70) (i : Fin 2) (t : BusVal)
  | mulh (e : Fin 70) (i : Fin 2) (t : BusVal)
  | mulhu (e : Fin 70) (i : Fin 2) (t : BusVal)
  | mulw (e : Fin 70) (i : Fin 2) (t : BusVal)
  | mulwu (e : Fin 70) (i : Fin 2) (t : BusVal)
  | div (e : Fin 70) (fm : Form) (t : BusVal)
  | divu (e : Fin 70) (fm : Form) (t : BusVal)
  | divs (e : Fin 70) (fm : Form) (t : BusVal)
  | kld128 (e : Fin 70) (i : Fin 2) (t : BusVal)
  | kld256 (e : Fin 70) (i : Fin 2) (t : BusVal)
  | enc128 (e : Fin 70) (i : Fin 2) (t : BusVal)
  | enc256 (e : Fin 70) (i : Fin 2) (t : BusVal)
  | dec128 (e : Fin 70) (i : Fin 2) (t : BusVal)
  | dec256 (e : Fin 70) (i : Fin 2) (t : BusVal)
  | ctr128 (e : Fin 70) (i : Fin 2) (t : BusVal)
  | ctr256 (e : Fin 70) (i : Fin 2) (t : BusVal)
  | hset (e : Fin 70) (i : Fin 2) (t : BusVal)
  | gacc (e : Fin 70) (i : Fin 2) (j : Fin 2) (t : BusVal)
  | gclr (e : Fin 70) (i : Fin 2) (j : Fin 2)
  | crcInit (e : Fin 70) (i : Fin 2)
  | crcFeed (e : Fin 70) (i : Fin 2) (n : CrcLen) (t : BusVal)
  | crd (e : Fin 70) (t : BusVal)
  | hashLookup (e : Fin 70) (t : BusVal)
  | complicationTrigger (e : Fin 70) (k : Fin 4) (op : Fin 4) (t : BusVal)
  | inDesc (e : Fin 70) (g : Fin 64)
  | inData (e : Fin 70) (g : Fin 64)
  | outDesc (e : Fin 70) (v : BusVal)
  | outData (e : Fin 70) (v : BusVal)
  | ctxWb (e : Fin 70) (v : BusVal)
  | job (e : Fin 70) (g : Fin 64)
  | xbCmd (e : Fin 70) (v : W64)
  | xbWd (e : Fin 70) (v : W64)
  | xbRd (e : Fin 70) (g : Fin 64)
  | macClr (e : Fin 70) (i : Fin 2) (ctl : W64)
  | macMac (e : Fin 70) (i : Fin 2) (ctl : W64)
  | macMsu (e : Fin 70) (i : Fin 2) (ctl : W64)
  | macMul (e : Fin 70) (i : Fin 2) (ctl : W64)
  | macAddx (e : Fin 70) (i : Fin 2) (ctl : W64)
  | macLdx (e : Fin 70) (i : Fin 2) (ctl : W64)
  | macStz (e : Fin 70) (i : Fin 2) (ctl : W64)
  | macStr (e : Fin 70) (i : Fin 2) (ctl : W64)
  | macStzr (e : Fin 70) (i : Fin 2) (ctl : W64)
  | macRda (e : Fin 70) (i : Fin 2) (ctl : W64)
  | macWra (e : Fin 70) (i : Fin 2) (ctl : W64)
  | macClrf (e : Fin 70) (i : Fin 2) (ctl : W64)
  | butterflyCt (e : Fin 70) (i : Fin 2) (ctl : W64)
  | butterflyGs (e : Fin 70) (i : Fin 2) (ctl : W64)
  | kf (e : Fin 70) (a : Word)
  | mmp (e : Fin 70) (a : Word)
  | mmn (e : Fin 70) (a : Word)
  | comp (e : Fin 70) (a : Word)
  | samplerInit (e : Fin 70)
  | samplerStep (e : Fin 70)
  | drbgSeed (e : Fin 70) (a : Word)
  | drbgGen (e : Fin 70)
  | drbgEnd (e : Fin 70)
  | eccWriteback (k : Fin 75) (word : Nat)
  | scrubPass (k : Fin 75)
  | scrubNow (m : Master) (v : Word)
  | candidateEntryExpiry (k : Fin 75) (word : Nat)
  | retire (m : Master) (v : Word)
  | pageRetired (h : Fin 2) (page : Nat)
  | memCfgWrite (m : Master) (v : Word)
  | memFlipmaskArm (m : Master) (v : Word)
  | pop (m : Master) (v : Word)
  | feClr (m : Master) (v : Word)
  | memCntClr (m : Master) (v : Word)
  | lostClear (m : Master) (v : Word)
  | zeroiseOverwriteDone (k : Fin 75)
  | crossbarRequest (r : XReq)
  | crossbarGrant (t : XTarget) (waiting : List XMaster)
  | start (m : Master) (v : Word)
  | pause (m : Master) (v : Word)
  | resume (m : Master) (v : Word)
  | abort (m : Master) (v : Word)
  | dmaChDoorbell (m : Master) (v : Word)
  | dmaRingConfigWrite (m : Master) (r : RingReg) (v : Word)
  | dmaDescriptorFetch (d : Fin 64)
  | dmaDescriptorComplete (d : Fin 64)
  | dmaPassEnd (d : Fin 64)
  | dmaHalfPass (d : Fin 64)
  | dmaBusError (d : Fin 64)
  | dmaPauseComplete (d : Fin 64) (n : Nat)
  | dmaAbortComplete (d : Fin 64) (n : Nat)
  | eventFire (n : Fin 512)
  | levelSourceDeassert (n : Fin 512)
  | evcSet (m : Master) (v : Word)
  | coalesceTimeExpiry (g : Fin 64)
  | evtClaim (e : Fin 70) (g : Fin 64)
  | evcHclaim (m : Master) (v : Fin 64)
  | evtDone (e : Fin 70) (v : W64)
  | evcHcomplete (m : Master) (v : Word)
  | stormWindowExpiry (n : Fin 512)
  | targetIneligible (t : Fin 3)
  | externalInputChange (i : Fin 17) (level : Bool)
  | wakeLatched
  | evcSrcCfgWrite (m : Master) (n : Fin 512) (v : Word)
  | evcGrpWrite (m : Master) (g : Fin 64) (v : Word)
  | evcCtlWrite (m : Master) (v : Word)
  | evcInCfgWrite (m : Master) (i : Fin 17) (v : Word)
  | feedLost (f : Fin 2) (volt : BitVec 16)
  | feedRestored (f : Fin 2) (volt : BitVec 16)
  | overvolt (f : Fin 2) (volt : BitVec 16)
  | holdup (va : BitVec 16) (vb : BitVec 16)
  | shutdown
  | bakReady (mv : BitVec 16) (vbak : BitVec 16)
  | bakLow (mv : BitVec 16) (vbak : BitVec 16)
  | refclkLost (r : RefClk)
  | refclkRecovered
  | pllUnlock (pll : Pll)
  | clkSscWrite (m : Master) (v : Word)
  | pwrCheckedWrite (m : Master) (r : PwrReg) (v : Word)
  | modeReqOperational (m : Master)
  | modeReqMaintenance (m : Master)
  | modeReqDrain (m : Master)
  | modeReqEscapement (m : Master)
  | drainModeComplete
  | coldStart
  | escapementWake (w : WakeSrc)
  | wakeTimerExpiry
  | selftestDone (ok : Bool) (raw : List (List Byte))
  | load (slotA slotB : FlashRead)
  | modResetN
  | glbReset (m : Master) (v : Word)
  | pcieReset (k : PcieReset)
  | pcieLinkTrainingDone (speed : BitVec 4) (width : BitVec 4)
  | tamperTrip (t : Sensor)
  | tamperTripDormant (t : Sensor)
  | fatalFault (f : FatalKind)
  | enrol (m : Master) (req : List Byte)
  | domainUpdate (m : Master) (req : List Byte)
  | peerAdmit (m : Master) (req : List Byte)
  | peerRemove (m : Master) (req : List Byte)
  | peerDismiss (m : Master) (req : List Byte)
  | fabricKey (m : Master) (req : List Byte)
  | sakImport (m : Master) (req : List Byte)
  | authorise (m : Master) (req : List Byte)
  | authoriseExpiry (i : Fin 4)
  | tamperCfg (m : Master) (req : List Byte)
  | acknowledge (m : Master) (req : List Byte)
  | retireRecord (m : Master) (req : List Byte)
  | getCert (m : Master)
  | quote (m : Master) (req : List Byte)
  | getImportKey (m : Master)
  | importKeyExpiry (id : W64)
  | readDomain (m : Master)
  | readPin (m : Master) (req : List Byte)
  | readLog (m : Master) (req : List Byte)
  | verify (m : Master) (v : Word)
  | activate (m : Master) (v : Word)
  | stage (m : Master) (v : Word)
  | shfOpDone (flash : FlashRead)
  | drain (m : Master) (v : Word)
  | sliceDrained (sl : Fin 32)
  | undrain (m : Master) (v : Word)
  | update (m : Master) (v : Word)
  | revert (m : Master) (v : Word)
  | updateDone (sl : Fin 32)
  | promote (m : Master) (v : Word)
  | abandon (m : Master) (v : Word)
  | erase (m : Master) (v : Word)
  | program (m : Master) (v : Word)
  | read (m : Master) (v : Word)
  | flashDone (ok : Bool)
  | complicationRegionLoaded (r : Fin 64)
  | hourglassUpdate (rails : List (BitVec 16 × BitVec 16))
  | hourglassHourly (osc : List Nat) (esr : Nat)
  | supercapMeasurement (capUF : Nat) (esrMOhm : Nat)
  | hlthPredWrite (m : Master) (i : Fin 8) (v : Word)
  | predictionStale (i : Fin 8)
  | temperatureSample (t : List (BitVec 16))
  | eyeMeasurement (lane : Fin 80) (vert : BitVec 8) (horiz : BitVec 8)
  | i3cPrivateWrite (dest : BitVec 7) (data : List Byte)
  | i3cPrivateRead (dest : BitVec 7) (n : Nat)
  | i3cAddressAssignment (setdasa : Option (BitVec 7)) (a : BitVec 7)
  | hostMemoryWrite (bar2 : Bool) (off : BitVec 26) (data : List Byte) (en : List Bool)
  | hostMemoryRead (bar2 : Bool) (off : BitVec 26) (len : Nat)
  | glbIfverSelWrite (m : Master) (v : Word)
  | glbBar2AperWrite (m : Master) (v : Word)
  | gpioWrite (m : Master) (r : GpioReg) (v : Word)
  | rly1Write (m : Master) (v : Word)
  | todMessage (txt : List Byte)
  | ppsInEdge
  | ppsLost
  | ppsOutSecond
  | todTx
  | glbRtcSetHi (m : Master) (v : Word)
  | lrReservationTimeout (e : Fin 70)
  | complicationFault (e : Fin 70) (k : Fin 4) (integrity : Bool)
  | memorySoftError (x : SoftError)
  | refclkPresent (r : RefClk)
  | configurationRequest (q : CfgReq)
  | pcieLinkDown
  | debugPortConnection (connect : Bool)
  | faultOrderedSetsRx (p : Fin 64) (lf : Bool) (rf : Bool)
  deriving DecidableEq, Repr

end Sys2Proof
end

