-- ==== Sys2Proof/Config.lean ====
section
/-! DEFINITION. What the spec leaves open. Every constant here is opaque: nothing can be proved about its value, and a
statement of the model holds whatever it is. -/

namespace Sys2Proof.Config

/-- A free value, numbered by the state's counter `freeCtr`: the random bytes that the module draws (SESSION, nonces,
DRBG entropy, import keys; R215, R216, R500). -/
opaque freeByte : Nat → Byte

/-- A free yes or no, numbered likewise. -/
opaque freeBool : Nat → Bool

/-- A free number, numbered likewise. -/
opaque freeNat : Nat → Nat

/-- What a word with more wrong bits than its code detects decodes to (R389: it may decode wrongly): none where the
error is noticed. Arguments: strong code, the data, the wrong bit positions. -/
opaque misdecode : Bool → W64 → List Nat → Option W64

/-- Raw syndrome of a set of wrong bits; the spec does not give the check matrices (R401). -/
opaque syndrome : Bool → List Nat → BitVec 16

/-- Whether a check bit that sticks is wrong under some data: the spec does not give the check matrices (R389). -/
opaque stuckCheckWrong : Nat → Bool → W64 → Bool

/-- Source address in the PAUSE and PFC frames that a client port makes; the spec states none (R65). -/
opaque clientAddress : Nat → List Byte

/-- Result of a complication region for a lane of a region word: the customer's circuit, which may hold a state of its own, so
that the same word may give another result another time (R335, R336). Arguments: configuration data, socket, operands A–D,
the operation and value of the word's lanes in trigger order (up to four, absent lanes invalid), number of the word, lane. -/
opaque complication : List Byte → Nat → List BusVal → List (Nat × BusVal) → Nat → Nat → BusVal

/-- Sealing by a complication cipher (R85): the bytes of the ciphertext, then those of the 16-byte tag. Arguments: configuration
data of the region, key, IV, AAD, plaintext. The algorithm is the customer's circuit. -/
opaque complSeal : List Byte → List Byte → List Byte → List Byte → List Byte → Nat → Byte

/-- Opening by a complication cipher: the bytes of the plaintext, none where the tag fails. Arguments: configuration data, key,
IV, AAD, ciphertext, tag. -/
opaque complOpen : List Byte → List Byte → List Byte → List Byte → List Byte → List Byte → Option (Nat → Byte)

/-- Keystream exclusive-or by a complication under OTN Seal (R85), byte by byte. Arguments: configuration data, key, counter
blocks' first 12 bytes, data. -/
opaque complStream : List Byte → List Byte → List Byte → List Byte → Nat → Byte

/-- Message authentication by a complication under OTN Seal: the bytes of the tag. -/
opaque complMac : List Byte → List Byte → List Byte → List Byte → Nat → Byte

/-- Phase of the PN-11 sequence of generic AIS at the first frame that carries it (R115). -/
opaque aisPhase : Nat

/-- Trail trace byte and status byte of the section monitoring that an OTN port sends (R47): ITU-T G.709 gives their
content from management and from the state of the trail, which the spec does not state. Arguments: port, OPUC. -/
opaque otucTrace : Nat → Nat → Byte
opaque otucStatus : Nat → Nat → Byte

/-! ### Identity (R203, R205) -/

/-- Identity private keys that the Silo drew at manufacture: seed of the ML-DSA-87 key (32 bytes), P-384 key (48 bytes). -/
opaque identityMl : List Byte
opaque identityEc : List Byte

/-- Of the identity certificate: serial number (16 bytes), manufacturing time (8 bytes), issuer key identifier (8 bytes) and
the two signatures of the manufacturing authority, whose private keys no module holds (4,723 bytes). -/
opaque certSerial : List Byte
opaque certTime : List Byte
opaque certIssuer : List Byte
opaque certSignatures : List Byte

/-- Public keys of the manufacturing authority by issuer key identifier: ML-DSA-87 and ECDSA (R205). -/
opaque authority : List Byte → Option (List Byte × List Byte)

/-- Alarm code of the message that the fabric broadcasts at a role change; the spec states no codes (R226, R248). -/
opaque roleAlarm : Nat

/-- What the predictor of a Drijo engine foretells for a branch; its tables' contents are not stated bit by bit (R271). -/
opaque predict : Nat → Bool

/-- Entry of a hash-lookup table that the sheaf defines (R332), none on a miss; no section layout gives the tables.
Arguments: digest of the sheaf, engine, table, key. -/
opaque hashLookup : List Byte → Nat → Nat → Nat → Option (BitVec 63)

/-! ### Mask ROM of the Silo (R366, R367, R374) -/

/-- Terori key set by its index: ML-DSA-87, ECDSA P-384 (X ‖ Y) and SLH-DSA-SHA2-256s public keys. -/
opaque teroriKeys : Nat → Option (List Byte × List Byte × List Byte)

/-- Of the recovery image: the class record of the management engines (200 bytes), the code of the management engines
after its first 12 bytes, the bytes of BANKCFG, the bytes of POLICY but for its suites, and its digest. -/
opaque recoveryUnits : List Byte
opaque recoveryCode : List Byte
opaque recoveryBankcfg : List Byte
opaque recoveryPolicy : List Byte
opaque recoveryDigest : List Byte

/-! ### Hourglass (R515, R516) -/

/-- Core-ageing rate above 125 °C, where the table of R516 ends, in the unit of the model; argument: T0 in 1/16 °C. -/
opaque hotRate : Int → Nat

/-- Current of VDD_CORE at full load, all complications active, in 10 mA. -/
opaque coreCurrentFull : Nat

/-- Capacitance in µF and ESR in mΩ of the backup supercapacitor at manufacture. -/
opaque scapMade : Nat × Nat

/-- Consumed life of a lane whose baseline does not lie above the limit of 6 mV; the rule of R515 gives no line there.
Arguments: baseline, sum and number of the samples of 24 h. -/
opaque marginSpent : Nat → Nat → Nat → Nat

end Sys2Proof.Config
end

