-- ==== Sys2Proof/Machine/Bits.lean ====
section
/-! DEFINITION. Bit fields of words, sign extension and lists cut into fields. -/

namespace Sys2Proof.Machine

/-- Field of `n` bits of `v` whose lowest bit is `lo`. -/
def bitsOf (v lo n : Nat) : Nat := (v / 2 ^ lo) % 2 ^ n

/-- `v` with the `n`-bit field at `lo` replaced by `x` (its low `n` bits). -/
def putBits (v lo n x : Nat) : Nat := v - bitsOf v lo n * 2 ^ lo + (x % 2 ^ n) * 2 ^ lo

/-- Bit `i` of `v`. -/
def bitAt (v i : Nat) : Bool := v.testBit i

/-- The signed number that the low `n` bits of `v` stand for in two's complement. -/
def signedOf (n v : Nat) : Int :=
  let x := v % 2 ^ n
  if x < 2 ^ (n - 1) then (x : Int) else (x : Int) - 2 ^ n

/-- The `n`-bit two's-complement pattern of `z`, as a number. -/
def unsignedOf (n : Nat) (z : Int) : Nat := (z % ((2 ^ n : Nat) : Int)).toNat

/-- Value `z` clamped to the signed range of `n` bits. -/
def clampS (n : Nat) (z : Int) : Int := max (-(2 ^ (n - 1) : Nat) : Int) (min z ((2 ^ (n - 1) : Nat) - 1))

/-- Value `z` clamped to the unsigned range of `n` bits. -/
def clampU (n : Nat) (z : Int) : Int := max 0 (min z ((2 ^ n : Nat) - 1))

/-- Addition of counters of `n` bits that stop at all ones. -/
def satAdd (n a b : Nat) : Nat := min (a + b) (2 ^ n - 1)

/-- Byte `i` of a list, zero past its end. -/
def byteAt (l : List Byte) (i : Nat) : Byte := l.getD i 0

/-- `n` bytes of a list from `off`, padded with zeros. -/
def sliceAt (l : List Byte) (off n : Nat) : List Byte := (List.range n).map fun i => byteAt l (off + i)

/-- Little-endian number in `n` bytes of a list from `off`. -/
def leAt (l : List Byte) (off n : Nat) : Nat := leNat (sliceAt l off n)

/-- Big-endian number in `n` bytes of a list from `off`. -/
def beAt (l : List Byte) (off n : Nat) : Nat := beNat (sliceAt l off n)

/-- A list cut into pieces of `n` elements, the last one shorter; `fuel` bounds the number of pieces. -/
def chunks {α : Type} (n : Nat) : Nat → List α → List (List α)
  | 0, _ => []
  | _, [] => []
  | fuel + 1, l => l.take n :: chunks n fuel (l.drop n)

/-- Bytewise exclusive or, as long as the shorter list. -/
def xorBytes (a b : List Byte) : List Byte := List.zipWith (fun x y => x ^^^ y) a b

/-- Element `i` of a list replaced, where it exists. -/
def setAt {α : Type} (l : List α) (i : Nat) (v : α) : List α := l.set i v

/-- Least `i < n` with `p i`, or none. -/
def findNat (p : Nat → Bool) (n : Nat) : Option Nat := (List.range n).find? p

/-- Bytes of an ASCII string. -/
def ascii (t : String) : List Byte := t.toList.map fun c => BitVec.ofNat 8 c.toNat

/-- `n` zero bytes. -/
def zeros (n : Nat) : List Byte := List.replicate n 0

/-- Smaller multiple of `k`s needed to hold `n`. -/
def ceilDiv (n k : Nat) : Nat := (n + k - 1) / k

end Sys2Proof.Machine
end

