-- ==== Sys2Proof/Machine/CtxFields.lean ====
section
/-! DEFINITION. The fields of a channel context (R127, R128). -/

namespace Sys2Proof.Machine

/-- Writer classes of context fields (R124). -/
inductive CtxClass where
  | m | c | k | d
  deriving DecidableEq, Repr

/-- A context field: window offset of its word, lowest bit, width in bits, writer class, and whether an M field may
be written only on a DISABLED channel. -/
structure CtxF where
  off : Nat
  lo : Nat
  len : Nat
  cls : CtxClass
  disabled : Bool
  deriving DecidableEq, Repr

namespace Ctx

def CLIENT_PORT : CtxF := ⟨0x200, 8, 6, .m, true⟩
def LINE_PORT : CtxF := ⟨0x200, 0, 6, .m, true⟩
def VID : CtxF := ⟨0x204, 16, 12, .m, true⟩
def PCP_MASK : CtxF := ⟨0x204, 0, 8, .m, true⟩
def COMPL : CtxF := ⟨0x208, 28, 4, .m, true⟩
def CIPHER : CtxF := ⟨0x208, 24, 4, .m, true⟩
def TFC_EN : CtxF := ⟨0x208, 23, 1, .m, true⟩
def CONF_OFF : CtxF := ⟨0x208, 21, 2, .m, true⟩
def SCI_EXPL : CtxF := ⟨0x208, 20, 1, .m, true⟩
def IMPORT : CtxF := ⟨0x208, 19, 1, .m, true⟩
def SEAL_POS : CtxF := ⟨0x208, 4, 2, .m, true⟩
def OPUC : CtxF := ⟨0x208, 0, 4, .m, true⟩
def TFC_LEN : CtxF := ⟨0x20C, 16, 11, .m, true⟩
def BALE_TMO : CtxF := ⟨0x20C, 0, 10, .m, false⟩
def TFC_PERIOD : CtxF := ⟨0x210, 0, 14, .m, true⟩
def ROOT_LIFE : CtxF := ⟨0x214, 16, 11, .m, false⟩
def EPOCH_BLK : CtxF := ⟨0x214, 0, 6, .m, false⟩
def EPOCH_TIME : CtxF := ⟨0x218, 0, 27, .m, false⟩
def EQ_LIMIT : CtxF := ⟨0x21C, 16, 14, .m, false⟩
def WEIGHT : CtxF := ⟨0x21C, 0, 16, .m, false⟩
def MARK_KIB : CtxF := ⟨0x220, 0, 14, .m, false⟩
def PEER_NODE : CtxF := ⟨0x224, 0, 64, .m, true⟩
def TX_SCI : CtxF := ⟨0x22C, 0, 64, .m, true⟩
def LINE_DA : CtxF := ⟨0x234, 0, 48, .m, true⟩
def LINE_SA : CtxF := ⟨0x23A, 0, 48, .m, true⟩
def SLOT0_KEY : CtxF := ⟨0x240, 0, 256, .k, false⟩
def SLOT0_AUX : CtxF := ⟨0x260, 0, 256, .k, false⟩
def SLOT1_KEY : CtxF := ⟨0x280, 0, 256, .k, false⟩
def SLOT1_AUX : CtxF := ⟨0x2A0, 0, 256, .k, false⟩
def SLOT0_EPOCH : CtxF := ⟨0x2C0, 0, 32, .c, false⟩
def SLOT1_EPOCH : CtxF := ⟨0x2C4, 0, 32, .c, false⟩
def SLOT0_SALT : CtxF := ⟨0x2C8, 0, 32, .k, false⟩
def SLOT1_SALT : CtxF := ⟨0x2CC, 0, 32, .k, false⟩
def ROOT_EXP : CtxF := ⟨0x2D0, 9, 1, .c, false⟩
def ROOT_OK : CtxF := ⟨0x2D0, 8, 1, .c, false⟩
def CUR : CtxF := ⟨0x2D0, 4, 1, .d, false⟩
def VALID : CtxF := ⟨0x2D0, 0, 2, .c, false⟩
def SUITE : CtxF := ⟨0x2D4, 16, 16, .c, false⟩
def BALE_V1 : CtxF := ⟨0x2D4, 15, 1, .c, false⟩
def PEER_CH : CtxF := ⟨0x2D4, 0, 14, .c, false⟩
def ROOT_END : CtxF := ⟨0x2D8, 0, 64, .c, false⟩
def NEXT_SEQ : CtxF := ⟨0x300, 0, 64, .d, false⟩
def EPOCH_BLOCKS : CtxF := ⟨0x308, 0, 64, .d, false⟩
def EPOCH_START : CtxF := ⟨0x310, 0, 64, .d, false⟩
def OTN_GROUP : CtxF := ⟨0x318, 0, 64, .d, false⟩
def RES_END : CtxF := ⟨0x320, 0, 64, .m, false⟩
def OUT_OK : CtxF := ⟨0x340, 0, 64, .d, false⟩
def OUT_OCTETS : CtxF := ⟨0x348, 0, 64, .d, false⟩
def OUT_PAD : CtxF := ⟨0x350, 0, 64, .d, false⟩
def OUT_DROP_Q : CtxF := ⟨0x358, 0, 64, .d, false⟩
def OUT_DROP_NOKEY : CtxF := ⟨0x360, 0, 64, .d, false⟩
def OUT_DROP_DRAIN : CtxF := ⟨0x368, 0, 64, .d, false⟩
def OUT_MARK : CtxF := ⟨0x370, 0, 64, .d, false⟩
def EPOCH_COUNT : CtxF := ⟨0x378, 0, 64, .d, false⟩
def OTN_HOLD : CtxF := ⟨0x400, 16, 1, .m, false⟩
def PREV_HOLD : CtxF := ⟨0x400, 0, 10, .m, false⟩
def REPLAY_WIN : CtxF := ⟨0x404, 0, 31, .m, false⟩
def IQ_LIMIT : CtxF := ⟨0x408, 0, 14, .m, false⟩
def RX_SCI : CtxF := ⟨0x410, 0, 64, .m, true⟩
def IN0_KEY : CtxF := ⟨0x440, 0, 256, .k, false⟩
def IN0_AUX : CtxF := ⟨0x460, 0, 256, .k, false⟩
def IN1_KEY : CtxF := ⟨0x480, 0, 256, .k, false⟩
def IN1_AUX : CtxF := ⟨0x4A0, 0, 256, .k, false⟩
def IN2_KEY : CtxF := ⟨0x4C0, 0, 256, .k, false⟩
def IN2_AUX : CtxF := ⟨0x4E0, 0, 256, .k, false⟩
def IN0_EPOCH : CtxF := ⟨0x500, 0, 32, .c, false⟩
def IN1_EPOCH : CtxF := ⟨0x504, 0, 32, .c, false⟩
def IN2_EPOCH : CtxF := ⟨0x508, 0, 32, .c, false⟩
def IN0_SALT : CtxF := ⟨0x50C, 0, 32, .k, false⟩
def IN1_SALT : CtxF := ⟨0x510, 0, 32, .k, false⟩
def IN2_SALT : CtxF := ⟨0x514, 0, 32, .k, false⟩
def PREV_LIVE : CtxF := ⟨0x518, 8, 1, .d, false⟩
def IN_CUR : CtxF := ⟨0x518, 4, 2, .d, false⟩
def IN_VALID : CtxF := ⟨0x518, 0, 3, .c, false⟩
def ROT_TIME : CtxF := ⟨0x51C, 0, 32, .d, false⟩
def IN0_HIGH : CtxF := ⟨0x520, 0, 64, .d, false⟩
def IN1_HIGH : CtxF := ⟨0x528, 0, 64, .d, false⟩
def IN2_HIGH : CtxF := ⟨0x530, 0, 64, .d, false⟩
def REPLACING : CtxF := ⟨0x538, 8, 1, .d, false⟩
def GOOD_RUN : CtxF := ⟨0x538, 4, 4, .d, false⟩
def BAD_DESC : CtxF := ⟨0x538, 2, 2, .d, false⟩
def SEAL_STATE : CtxF := ⟨0x538, 0, 2, .d, false⟩
def IN_OK : CtxF := ⟨0x540, 0, 64, .d, false⟩
def IN_DROP_NOKEY : CtxF := ⟨0x548, 0, 64, .d, false⟩
def IN_DROP_REPLAY : CtxF := ⟨0x550, 0, 64, .d, false⟩
def IN_DROP_AUTH : CtxF := ⟨0x558, 0, 64, .d, false⟩
def IN_DROP_DELIV : CtxF := ⟨0x560, 0, 64, .d, false⟩
def IN_PAD : CtxF := ⟨0x568, 0, 64, .d, false⟩
def IN_DROP_FMT : CtxF := ⟨0x570, 0, 64, .d, false⟩
def IN_DROP_PACK : CtxF := ⟨0x578, 0, 64, .d, false⟩
def REPLAY_MAP : CtxF := ⟨0x580, 0, 1024, .d, false⟩

end Ctx

/-- Every field of the two maps. -/
def ctxFields : List CtxF :=
  [Ctx.CLIENT_PORT, Ctx.LINE_PORT, Ctx.VID, Ctx.PCP_MASK, Ctx.COMPL, Ctx.CIPHER, Ctx.TFC_EN, Ctx.CONF_OFF, 
   Ctx.SCI_EXPL, Ctx.IMPORT, Ctx.SEAL_POS, Ctx.OPUC, Ctx.TFC_LEN, Ctx.BALE_TMO, Ctx.TFC_PERIOD, 
   Ctx.ROOT_LIFE, Ctx.EPOCH_BLK, Ctx.EPOCH_TIME, Ctx.EQ_LIMIT, Ctx.WEIGHT, Ctx.MARK_KIB, Ctx.PEER_NODE, 
   Ctx.TX_SCI, Ctx.LINE_DA, Ctx.LINE_SA, Ctx.SLOT0_KEY, Ctx.SLOT0_AUX, Ctx.SLOT1_KEY, Ctx.SLOT1_AUX, 
   Ctx.SLOT0_EPOCH, Ctx.SLOT1_EPOCH, Ctx.SLOT0_SALT, Ctx.SLOT1_SALT, Ctx.ROOT_EXP, Ctx.ROOT_OK, Ctx.CUR, 
   Ctx.VALID, Ctx.SUITE, Ctx.BALE_V1, Ctx.PEER_CH, Ctx.ROOT_END, Ctx.NEXT_SEQ, Ctx.EPOCH_BLOCKS, 
   Ctx.EPOCH_START, Ctx.OTN_GROUP] ++
  [Ctx.RES_END, Ctx.OUT_OK, Ctx.OUT_OCTETS, Ctx.OUT_PAD, Ctx.OUT_DROP_Q, Ctx.OUT_DROP_NOKEY, 
   Ctx.OUT_DROP_DRAIN, Ctx.OUT_MARK, Ctx.EPOCH_COUNT, Ctx.OTN_HOLD, Ctx.PREV_HOLD, Ctx.REPLAY_WIN, 
   Ctx.IQ_LIMIT, Ctx.RX_SCI, Ctx.IN0_KEY, Ctx.IN0_AUX, Ctx.IN1_KEY, Ctx.IN1_AUX, Ctx.IN2_KEY, Ctx.IN2_AUX, 
   Ctx.IN0_EPOCH, Ctx.IN1_EPOCH, Ctx.IN2_EPOCH, Ctx.IN0_SALT, Ctx.IN1_SALT, Ctx.IN2_SALT, Ctx.PREV_LIVE, 
   Ctx.IN_CUR, Ctx.IN_VALID, Ctx.ROT_TIME, Ctx.IN0_HIGH, Ctx.IN1_HIGH, Ctx.IN2_HIGH, Ctx.REPLACING, 
   Ctx.GOOD_RUN, Ctx.BAD_DESC, Ctx.SEAL_STATE, Ctx.IN_OK, Ctx.IN_DROP_NOKEY, Ctx.IN_DROP_REPLAY, 
   Ctx.IN_DROP_AUTH, Ctx.IN_DROP_DELIV, Ctx.IN_PAD, Ctx.IN_DROP_FMT, Ctx.IN_DROP_PACK, Ctx.REPLAY_MAP]

/-- Offset within a slot of a window offset (R127, R128). -/
def slotOff (w : Nat) : Nat := w - 0x200

end Sys2Proof.Machine
end

