-- ==== Sys2Proof/Machine/Crypto.lean ====
section
/-! DEFINITION. The symmetric algorithms that the spec names by their standards and that the model computes in full:
AES and GCM (R89, R100, R108, R112, R225, R328, R329), SHA-384 and SHA-512 with HMAC and the counter KDF (R182, R365),
CRC-32, CRC-32C and CRC-8 (R111, R330), Keccak-f (R353) and the AES-256 CTR_DRBG (R216, R358). -/

namespace Sys2Proof.Machine.Crypto

/-- FIPS 197 substitution table: entry `i` stands in bits `[8*i+7 : 8*i]`. -/
def sboxTable : Nat := 0x16bb54b00f2d99416842e6bf0d89a18cdf2855cee9871e9b948ed9691198f8e19e1dc186b95735610ef6034866b53e708a8bbd4b1f74dde8c6b4a61c2e2578ba08ae7a65eaf4566ca94ed58d6d37c8e779e4959162acd3c25c2406490a3a32e0db0b5ede14b8ee4688902a22dc4f816073195d643d7ea7c41744975fec130ccdd2f3ff1021dab6bcf5389d928f40a351a89f3c507f02f94585334d43fbaaefd0cf584c4a39becb6a5bb1fc20ed00d153842fe329b3d63b52a05a6e1b1a2c830975b227ebe28012079a059618c323c7041531d871f1e5a534ccf73f362693fdb7c072a49cafa2d4adf04759fa7dc982ca76abd7fe2b670130c56f6bf27b777c63

/-- FIPS 197 inverse substitution table. -/
def invSboxTable : Nat := 0x7d0c2155631469e126d677ba7e042b17619953833cbbebc8b0f52aae4d3be0a0ef9cc9939f7ae52d0d4ab519a97f51605fec8027591012b131c7078833a8dd1ff45acd78fec0db9a2079d2c64b3e56fc1bbe18aa0e62b76f89c5291d711af1476edf751ce837f9e28535ade72274ac9673e6b4f0cecff297eadc674f4111913a6b8a130103bdafc1020f3fca8f1e2cd00645b3b80558e4f70ad3bc8c00abd890849d8da75746155edab9edfd5048706c92b6655dcc5ca4d41698688664f6f87225d18b6d49a25b76b224d92866a12e084ec3fa420b954cee3d23c2a632947b54cbe9dec444438e3487ff2f9b8239e37cfbd7f3819ea340bf38a53630d56a0952

/-- FIPS 180-4 round constants of SHA-512: constant `i` stands in bits `[64*i+63 : 64*i]`. -/
def sha512K : Nat := 0x6c44198c4a4758175fcb6fab3ad6faec597f299cfc657e2a4cc5d4becb3e42b6431d67c49c100d4c3c9ebe0a15c9bebc32caab7b40c7249328db77f523047d841b710b35131c471b113f9804bef90dae0a637dc5a2c898a606f067aa72176fbaf57d4f7fee6ed178eada7dd6cde0eb1ed186b8c721c0c207ca273eceea26619cc67178f2e372532bbef9a3f7b2c67915a4506cebde82bde990befffa23631e288cc702081a6439ec84c87814a1f0ab7278a5636f43172f60748f82ee5defb2fc682e6ff3d6b2b8a35b9cca4f7763e3734ed8aa4ae3418acb391c0cb3c5c95a6334b0bcb5e19b48a82748774cdf8eeb991e376c085141ab5319a4c116b8d2d0c8106aa07032bbd1b8f40e35855771202ad69906245565a910d192e819d6ef5218c76c51a30654be30c24b8b70d0f89791a81a664bbc423001a2bfe8a14cf1036492722c851482353b81c2c92e47edaee6766a0abb3c77b2a8650a73548baf63de53380d139d95b3df4d2c6dfc5ac42aed2e1b21385c26c92627b70a8546d22ffc142929670a0e6e7006ca6351e003826fd5a79147930aa725c6e00bf33da88fc2bf597fc7beef0ee4b00327c898fb213fa831c66d2db43210983e5152ee66dfab76f988da831153b55cb0a9dcbd41fbd44a7484aa6ea6e4832de92c6f592b0275240ca1cc77ac9c650fc19dc68b8cd5b5efbe4786384f25e3e49b69c19ef14ad2c19bf174cf6926949bdc06a725c7123580deb1fe3b1696b172be5d74f27b896f550c7dc3d5ffb4e2243185be4ee4b28c12835b0145706fbed807aa98a3030242ab1c5ed5da6d8118923f82a4af194f9b59f111f1b605d0193956c25bf348b538e9b5dba58189dbbcb5c0fbcfec4d3b2f7137449123ef65cd428a2f98d728ae22

/-- FIPS 180-4 initial value of SHA-512, word `i` in bits `[64*i+63 : 64*i]`. -/
def sha512Init : Nat := 0x5be0cd19137e21791f83d9abfb41bd6b9b05688c2b3e6c1f510e527fade682d1a54ff53a5f1d36f13c6ef372fe94f82bbb67ae8584caa73b6a09e667f3bcc908

/-- FIPS 180-4 initial value of SHA-384. -/
def sha384Init : Nat := 0x47b5481dbefa4fa4db0c2e0d64f98fa78eb44a876858151167332667ffc00b31152fecd8f70e59399159015a3070dd17629a292a367cd507cbbb9d5dc1059ed8

def sbox (x : Nat) : Nat := bitsOf sboxTable (8 * x) 8
def invSbox (x : Nat) : Nat := bitsOf invSboxTable (8 * x) 8

/-- Multiplication by x in the AES field. -/
def xtime (x : Nat) : Nat := if x < 128 then 2 * x else (2 * x) ^^^ 0x11b

/-- Product of a byte and a small constant in the AES field. -/
def gmul (c x : Nat) : Nat :=
  (if c.testBit 0 then x else 0) ^^^ (if c.testBit 1 then xtime x else 0) ^^^
  (if c.testBit 2 then xtime (xtime x) else 0) ^^^ (if c.testBit 3 then xtime (xtime (xtime x)) else 0)

/-- Word `i` of the key schedule from the words before it (in rising order) and the key length in words. -/
def keyWord (nk i : Nat) (ws : List (List Nat)) : List Nat :=
  let prev := ws.getD (i - 1) []
  let base := ws.getD (i - nk) []
  let rcon := (List.range (i / nk - 1)).foldl (fun r _ => xtime r) 1
  let t :=
    if i % nk = 0 then
      match (prev.drop 1 ++ prev.take 1).map sbox with
      | a :: r => (a ^^^ rcon) :: r
      | [] => []
    else if nk > 6 ∧ i % nk = 4 then prev.map sbox
    else prev
  List.zipWith (· ^^^ ·) base t

/-- Key schedule (FIPS 197): 4 × (rounds + 1) words of 4 bytes. -/
def keySchedule (key : List Nat) : List (List Nat) :=
  let nk := key.length / 4
  let ks := (List.range nk).map fun i => (key.drop (4 * i)).take 4
  (List.range (4 * (nk + 7) - nk)).foldl (fun ws j => ws ++ [keyWord nk (nk + j) ws]) ks

/-- Round key `r` as 16 bytes. -/
def roundKey (ws : List (List Nat)) (r : Nat) : List Nat := ((ws.drop (4 * r)).take 4).flatten

def addKey (a b : List Nat) : List Nat := List.zipWith (· ^^^ ·) a b

/-- ShiftRows on 16 bytes in column order. -/
def shiftRows (s : List Nat) : List Nat :=
  (List.range 16).map fun i => s.getD ((i + 4 * (i % 4)) % 16) 0

def invShiftRows (s : List Nat) : List Nat :=
  (List.range 16).map fun i => s.getD ((i + 16 - 4 * (i % 4)) % 16) 0

/-- MixColumns with the row `c0 c1 c2 c3` of the circulant matrix. -/
def mixWith (c : List Nat) (s : List Nat) : List Nat :=
  (List.range 16).map fun i =>
    (List.range 4).foldl (fun a k => a ^^^ gmul (c.getD ((k + 4 - i % 4) % 4) 0) (s.getD (4 * (i / 4) + k) 0)) 0

def aesRound (ws : List (List Nat)) (s : List Nat) (r : Nat) : List Nat :=
  addKey (mixWith [2, 3, 1, 1] (shiftRows (s.map sbox))) (roundKey ws r)

/-- AES block encryption under a key of 16 or 32 bytes. -/
def aesEnc (key blk : List Byte) : List Byte :=
  let ws := keySchedule (key.map (·.toNat))
  let nr := key.length / 4 + 6
  let s0 := addKey (blk.map (·.toNat)) (roundKey ws 0)
  let s := (List.range (nr - 1)).foldl (fun s r => aesRound ws s (r + 1)) s0
  (addKey (shiftRows (s.map sbox)) (roundKey ws nr)).map (BitVec.ofNat 8)

/-- AES block decryption. -/
def aesDec (key blk : List Byte) : List Byte :=
  let ws := keySchedule (key.map (·.toNat))
  let nr := key.length / 4 + 6
  let s0 := addKey (blk.map (·.toNat)) (roundKey ws nr)
  let s := (List.range (nr - 1)).foldl
    (fun s r => mixWith [14, 11, 13, 9] (addKey ((invShiftRows s).map invSbox) (roundKey ws (nr - 1 - r)))) s0
  (addKey ((invShiftRows s).map invSbox) (roundKey ws 0)).map (BitVec.ofNat 8)

/-- Product in GF(2^128) as GCM writes its blocks: the number's highest bit is the coefficient of 1. -/
def gf128Mul (x y : Nat) : Nat :=
  ((List.range 128).foldl (fun (p : Nat × Nat) i =>
    (if x.testBit (127 - i) then p.1 ^^^ p.2 else p.1,
     if p.2.testBit 0 then (p.2 / 2) ^^^ (0xE1 * 2 ^ 120) else p.2 / 2)) (0, y)).1

/-- Bytes padded with zeros to a multiple of 16. -/
def pad16 (l : List Byte) : List Byte := l ++ zeros ((16 - l.length % 16) % 16)

/-- GHASH of data that is a multiple of 16 bytes. -/
def ghash (h : Nat) (data : List Byte) : Nat :=
  (chunks 16 (data.length / 16) data).foldl (fun a b => gf128Mul (a ^^^ beNat b) h) 0

/-- A counter block increased by `i` in its last 32 bits. -/
def incr32 (blk i : Nat) : Nat := blk - blk % 2 ^ 32 + (blk + i) % 2 ^ 32

/-- AES in counter mode from a counter block. -/
def aesCtr (key : List Byte) (ctr : Nat) (data : List Byte) : List Byte :=
  ((chunks 16 (data.length / 16 + 1) data).zipIdx.map fun (b, i) =>
    xorBytes b (aesEnc key (beBytes 16 (incr32 ctr i)))).flatten

/-- Hash subkey. -/
def gcmH (key : List Byte) : Nat := beNat (aesEnc key (zeros 16))

/-- GCM tag of a message with a 96-bit IV. -/
def gcmTag (key iv aad ct : List Byte) : List Byte :=
  let s := ghash (gcmH key) (pad16 aad ++ pad16 ct ++ beBytes 8 (8 * aad.length) ++ beBytes 8 (8 * ct.length))
  xorBytes (beBytes 16 s) (aesEnc key (iv ++ [0, 0, 0, 1]))

/-- GCM encryption: ciphertext and tag. -/
def gcmSeal (key iv aad pt : List Byte) : List Byte × List Byte :=
  let ct := aesCtr key (beNat (iv ++ [0, 0, 0, 2])) pt
  (ct, gcmTag key iv aad ct)

/-- GCM decryption: the plaintext, where the tag verifies. -/
def gcmOpen (key iv aad ct tag : List Byte) : Option (List Byte) :=
  if gcmTag key iv aad ct = tag then some (aesCtr key (beNat (iv ++ [0, 0, 0, 2])) ct) else none

/-- GMAC: the tag of a message that is all AAD. -/
def gmac (key iv aad : List Byte) : List Byte := gcmTag key iv aad []

def rotr64 (x n : Nat) : Nat := (x / 2 ^ n) ||| ((x * 2 ^ (64 - n)) % 2 ^ 64)

/-- Message schedule of SHA-512, newest word first. -/
def shaSchedule (ws : List Nat) : Nat → List Nat
  | 0 => ws.reverse
  | n + 1 =>
    let w := shaSchedule ws n
    let a := w.getD 14 0
    let b := w.getD 1 0
    ((rotr64 b 19 ^^^ rotr64 b 61 ^^^ (b / 2 ^ 6)) + w.getD 6 0 + (rotr64 a 1 ^^^ rotr64 a 8 ^^^ (a / 2 ^ 7))
      + w.getD 15 0) % 2 ^ 64 :: w

/-- One block of SHA-512 on a state of eight words. -/
def shaBlock (h : List Nat) (blk : List Byte) : List Nat :=
  let ws := (shaSchedule ((List.range 16).map fun i => beAt blk (8 * i) 8) 64).reverse
  let r := (ws.zipIdx).foldl (fun (s : List Nat) (p : Nat × Nat) =>
    match s with
    | [a, b, c, d, e, f, g, hh] =>
      let t1 := hh + (rotr64 e 14 ^^^ rotr64 e 18 ^^^ rotr64 e 41) + ((e &&& f) ^^^ ((2 ^ 64 - 1 - e) &&& g))
        + bitsOf sha512K (64 * p.2) 64 + p.1
      let t2 := (rotr64 a 28 ^^^ rotr64 a 34 ^^^ rotr64 a 39) + ((a &&& b) ^^^ (a &&& c) ^^^ (b &&& c))
      [(t1 + t2) % 2 ^ 64, a, b, c, (d + t1) % 2 ^ 64, e, f, g]
    | s => s) h
  List.zipWith (fun x y => (x + y) % 2 ^ 64) h r

/-- Padding of SHA-512. -/
def shaPad (m : List Byte) : List Byte :=
  m ++ [0x80] ++ zeros ((239 - m.length % 128) % 128) ++ beBytes 16 (8 * m.length)

def shaWords (v : Nat) : List Nat := (List.range 8).map fun i => bitsOf v (64 * i) 64

/-- Hash of a padded message from an initial value. -/
def shaRun (init : List Nat) (m : List Byte) : List Nat :=
  (chunks 128 (m.length / 128) m).foldl shaBlock init

def sha384 (m : List Byte) : List Byte :=
  (((shaRun (shaWords sha384Init) (shaPad m)).map (beBytes 8)).flatten).take 48

def sha512 (m : List Byte) : List Byte :=
  ((shaRun (shaWords sha512Init) (shaPad m)).map (beBytes 8)).flatten

/-- HMAC with SHA-384 (FIPS 198-1). -/
def hmac384 (key m : List Byte) : List Byte :=
  let k := (if key.length > 128 then sha384 key else key)
  let k := k ++ zeros (128 - k.length)
  sha384 (k.map (· ^^^ 0x5c) ++ sha384 (k.map (· ^^^ 0x36) ++ m))

/-- CRC with reflected bits: polynomial `poly` (reflected), running value `crc`. -/
def crcReflByte (poly : Nat) (crc : Nat) (b : Byte) : Nat :=
  (List.range 8).foldl (fun c _ => if c.testBit 0 then (c / 2) ^^^ poly else c / 2) (crc ^^^ b.toNat)

/-- Ethernet FCS: CRC-32 of IEEE 802.3. -/
def crc32 (m : List Byte) : Nat := (m.foldl (crcReflByte 0xEDB88320) 0xFFFFFFFF) ^^^ 0xFFFFFFFF

/-- Frame check sequence as it stands at the end of a frame. -/
def fcs (m : List Byte) : List Byte := leBytes 4 (crc32 m)

/-- CRC-8 of R111: x⁸ + x² + x + 1, initial value zero. -/
def crc8 (m : List Byte) : Byte :=
  BitVec.ofNat 8 (m.foldl (fun c b => (List.range 8).foldl
    (fun c _ => if c ≥ 128 then ((2 * c) % 256) ^^^ 0x07 else 2 * c) (c ^^^ b.toNat)) 0)

/-- Rotation of a 64-bit lane to the left. -/
def rotl64 (x n : Nat) : Nat := rotr64 x (64 - n % 64)

/-- Round constant bit source of FIPS 202: the register after `t` steps. -/
def keccakLfsr : Nat → Nat
  | 0 => 1
  | t + 1 => let r := keccakLfsr t
    if r ≥ 128 then ((2 * r) % 256) ^^^ 0x71 else 2 * r

def keccakRc (round : Nat) : Nat :=
  (List.range 7).foldl (fun a j => if (keccakLfsr (7 * round + j)).testBit 0 then a ||| 2 ^ (2 ^ j - 1) else a) 0

/-- Walk of the ρ and π steps: lane and rotation count. -/
def keccakWalk : Nat → Nat × Nat
  | 0 => (1, 0)
  | t + 1 => let p := keccakWalk t
    (p.2, (2 * p.1 + 3 * p.2) % 5)

def keccakRot (x y : Nat) : Nat :=
  match (List.range 24).find? fun t => keccakWalk t == (x, y) with
  | some t => ((t + 1) * (t + 2) / 2) % 64
  | none => 0

/-- One round of Keccak-f[1600]; lane (x, y) stands at index x + 5y. -/
def keccakRound (a : List Nat) (r : Nat) : List Nat :=
  let lane := fun (l : List Nat) (x y : Nat) => l.getD (x % 5 + 5 * (y % 5)) 0
  let c := (List.range 5).map fun x => (List.range 5).foldl (fun v y => v ^^^ lane a x y) 0
  let d := (List.range 5).map fun x => c.getD ((x + 4) % 5) 0 ^^^ rotl64 (c.getD ((x + 1) % 5) 0) 1
  let a1 := (List.range 25).map fun i => a.getD i 0 ^^^ d.getD (i % 5) 0
  let b := (List.range 25).map fun i =>
    let x := i % 5
    let y := i / 5
    let sx := (x + 3 * y) % 5
    rotl64 (lane a1 sx x) (keccakRot sx x)
  let a2 := (List.range 25).map fun i =>
    let x := i % 5
    let y := i / 5
    lane b x y ^^^ ((2 ^ 64 - 1 - lane b (x + 1) y) &&& lane b (x + 2) y)
  match a2 with
  | l :: ls => (l ^^^ keccakRc r) :: ls
  | [] => []

/-- Keccak-f[1600] on 25 lanes. -/
def keccakF (a : List Nat) : List Nat := (List.range 24).foldl keccakRound a

/-- CTR_DRBG state (SP 800-90A, AES-256, no derivation function). -/
structure Drbg where
  key : List Byte
  v : List Byte
  deriving DecidableEq, Repr

/-- CTR_DRBG output blocks: `n` blocks after `v`. -/
def drbgBlocks (key : List Byte) (v n : Nat) : List Byte :=
  ((List.range n).map fun i => aesEnc key (beBytes 16 ((v + i + 1) % 2 ^ 128))).flatten

/-- CTR_DRBG_Update with 48 bytes of data. -/
def drbgUpdate (d : Drbg) (data : List Byte) : Drbg :=
  let t := xorBytes (drbgBlocks d.key (beNat d.v) 3) data
  ⟨t.take 32, t.drop 32⟩

/-- Instantiate from 48 bytes of entropy. -/
def drbgSeed (entropy : List Byte) : Drbg := drbgUpdate ⟨zeros 32, zeros 16⟩ entropy

/-- `n` blocks of output, without the closing update. -/
def drbgOut (d : Drbg) (n : Nat) : List Byte × Drbg :=
  (drbgBlocks d.key (beNat d.v) n, ⟨d.key, beBytes 16 ((beNat d.v + n) % 2 ^ 128)⟩)

end Sys2Proof.Machine.Crypto
end

