-- ==== Sys2Proof/Machine/Mem.lean ====
section
/-! DEFINITION. Memory as plain data: (address, byte) pairs in canonical form, and words that hold bit errors. -/

namespace Sys2Proof.Machine

/-- Bytes of a memory region. What an unlisted address reads as is a function given beside it. -/
abbrev Mem := List Host.Cell

/-- Unlisted addresses of every region but context memory and flash read as zero (R391). -/
def zeroByte (_ : Nat) : Byte := 0

/-- Context memory after reset: R129's values in every slot, zero elsewhere. -/
def ctxByte (a : Nat) : Byte :=
  match a % 1024 with
  | 0x00C => 20
  | 0x014 => 32
  | 0x016 => 15
  | 0x018 => 0x10
  | 0x019 => 0x27
  | 0x200 => 10
  | _ => 0

/-- Flash pages that hold nothing programmed. -/
def erasedByte (_ : Nat) : Byte := 0xFF

namespace Mem

/-- One byte. -/
def read (d : Nat → Byte) (m : Mem) (a : Nat) : Byte := SMap.get d m a

/-- Write one byte, keeping the canonical form. -/
def write (d : Nat → Byte) (m : Mem) (a : Nat) (b : Byte) : Mem := SMap.set d m a b

/-- The canonical form: addresses strictly rising, no entry equal to what an unlisted address reads as. -/
def wf (d : Nat → Byte) (m : Mem) : Bool := SMap.wf d m

/-- `n` bytes from an address. -/
def bytes (d : Nat → Byte) (m : Mem) (a n : Nat) : List Byte := (List.range n).map fun i => read d m (a + i)

/-- Bytes at rising addresses; `none` leaves a byte as it is. -/
def put (d : Nat → Byte) (m : Mem) (a : Nat) : List (Option Byte) → Mem
  | [] => m
  | none :: bs => put d m (a + 1) bs
  | some b :: bs => put d (write d m a b) (a + 1) bs

end Mem

/-- Errors of one 64-bit word, of its check bits and of the three copies of its valid bit (R389, R391). -/
structure WordErr where
  /-- Positions now wrong, and positions that stick with the level they stick at. -/
  flips : List Nat
  stuck : List (Nat × Bool)
  /-- The copy of the valid bit that disagrees with the other two, which the vote follows. -/
  odd : Option (Fin 3)
  deriving DecidableEq, Repr

/-- A word without errors. -/
def WordErr.none : WordErr := ⟨[], [], .none⟩

/-- One log entry (R401), four words. -/
structure LogEnt where
  w0 : Word
  w1 : Word
  w2 : Word
  w3 : Word
  deriving DecidableEq, Repr

/-- One entry of a controller's table of corrected words (R399). -/
structure Track where
  word : Nat
  count : Nat
  first : W64
  candidate : Bool
  deriving DecidableEq, Repr

/-- What one memory controller holds beside its registers (R393, R398–R402). -/
structure MemCtl where
  /-- Log FIFO, oldest first, at most 16 entries. -/
  fifo : List LogEnt
  tracks : List Track
  /-- Words that wait for their write-back. -/
  writeBack : List Nat
  /-- Pages out of the free-page map, or marked to leave it when their last frame is released. -/
  retired : List Nat
  retiring : List Nat
  /-- An overwrite after zeroisation is running (R392). -/
  overwriting : Bool
  /-- Context memory: the lines of which an engine's context cache holds a copy that no write has taken, with the engine
  (R22). -/
  copies : List (Nat × Nat)
  deriving DecidableEq, Repr

def MemCtl.reset : MemCtl := ⟨[], [], [], [], [], false, []⟩

end Sys2Proof.Machine
end

