-- ==== Sys2Proof/Machine/EngTypes.lean ====
section
/-! DEFINITION. What one Drijo engine holds (R254–R362), as plain data. -/

namespace Sys2Proof.Machine

/-- What comes about when an operation in flight lands (R257, R277). -/
inductive FlyEff where
  /-- The bits of `mask` of a port's value. -/
  | val (key : Nat) (mask v : BusVal)
  /-- An expanded AES key: 4 × unit + slot (R328). -/
  | aesKey (k : Nat) (key : List Byte)
  /-- Data of a Z write at its address (R340). -/
  | zdata (addr : Nat) (bytes : List Byte)
  /-- A load met an uncorrectable word (R284). -/
  | poison
  /-- Socket `k` hands the next result of its region to R (R336). -/
  | sock (k : Nat)
  deriving DecidableEq, Repr

/-- An operation in flight: issue cycles that still have to end. -/
structure Fly where
  left : Nat
  eff : FlyEff
  deriving DecidableEq, Repr

/-- An entry of a bank's store buffer (R313): offset in the bank and bytes; `none` leaves a byte as it is. -/
structure SbEnt where
  off : Nat
  bytes : List (Option Byte)
  deriving DecidableEq, Repr

/-- A SYNC marker (R305): stores of each bank and crossbar writes that it waits for. -/
structure Marker where
  a : Nat
  b : Nat
  c : Nat
  x : Nat
  deriving DecidableEq, Repr

/-- The repeat unit (R306–R311). -/
structure Rep where
  lc : Word
  ls : Word
  le : Word
  active : Bool
  irqOk : Bool
  /-- Register of the pending write: 0 none, 1 LC, 2 LS, 3 LE; its value and its age in issue cycles, at most 2. -/
  pend : Nat
  pendVal : Word
  age : Nat
  /-- Issues that remain of a self-repeating bundle. -/
  srep : Nat
  /-- Boundary now: 0 inside an iteration, 1 before the first one, 2 between two (R276). -/
  edge : Nat
  deriving DecidableEq, Repr

def Rep.reset : Rep := ⟨0, 0, 0, false, false, 0, 0, 0, 0, 0⟩

/-- A branch whose delay slots have not all issued (R269): slots left, the target of a taken one, and whether its path follows
three cycles late, because it was not predicted or not rightly. -/
structure Br where
  slots : Nat
  target : Option Word
  late : Bool
  deriving DecidableEq, Repr

/-- The sampler's buffers (R357): input bytes, output coefficients, coefficients written since INIT. -/
structure Sampler where
  inb : List Byte
  outc : List Word
  count : Nat
  deriving DecidableEq, Repr

/-- The DRBG unit (R358): its state, GENs of the request under way, a reseed is due, the sticky failure, and the requests
since the last seed (R216). -/
structure DrbgUnit where
  st : Option Crypto.Drbg
  gens : Nat
  due : Bool
  failed : Bool
  reqs : Nat
  deriving DecidableEq, Repr

/-- A complication socket (R336). -/
structure Sock where
  /-- Region word under way: operation and value of its triggers, in trigger order, at most four. -/
  word : List (Nat × BusVal)
  /-- Issue cycles since the word's first trigger. -/
  age : Nat
  /-- Results that the region has given back and that have not landed, oldest first. -/
  out : List BusVal
  /-- The socket took a trigger in this issue cycle, and in the one before. -/
  now : Bool
  hot : Bool
  deriving DecidableEq, Repr

def Sock.reset : Sock := ⟨[], 0, [], false, false⟩

/-- A bundle that fetch has read (R264): its address, its 64 bytes, whether one of its words was uncorrectable, and, of a branch
that was predicted as it was fetched, the address of the path that the predictor foretold (R271). -/
structure Fetched where
  addr : Nat
  line : List Byte
  bad : Bool
  guess : Option Nat
  deriving DecidableEq, Repr

/-- For whom the Silo has a job done: a handshake session of a channel, by its identifier, the association of the twin agents, or
another purpose. -/
inductive JobOwner where
  | session (c : Nat) (id : Word)
  | twin
  | other
  deriving DecidableEq, Repr

/-- A job of the Silo for a key engine (R511): its priority (R202), its owner, its TAG and its words, the header first. -/
structure KeyJob where
  rank : Nat
  owner : JobOwner
  tag : Nat
  words : List W64
  deriving DecidableEq, Repr

/-- One engine. -/
structure Eng where
  /-- Bundle due to issue. -/
  pc : Word
  /-- g0–g63. -/
  g : SMap BusVal
  /-- Operand and result ports and the units' hidden values, by port key. -/
  vals : SMap BusVal
  aes : SMap (List Byte)
  fly : List Fly
  /-- A blocking unit runs: what lands when it finishes (R268). -/
  blocked : Option (List FlyEff)
  /-- p1–p7 in bits 1–7. -/
  preds : Nat
  v : Bool
  dz : Bool
  sp : Word
  stkLim : Word
  stkTop : Word
  ie : Bool
  imask : Nat
  ivb : Word
  nopred : Bool
  /-- The predictor's tables hold nothing (R272), and the next branch is not predicted. -/
  predEmpty : Bool
  predBar : Bool
  timer : Word
  timerHit : Bool
  agBank : Nat
  agMode : Nat
  /-- Generator registers: 4 × n + 0 ap, 1 am, 2 al, 3 ab. -/
  ag : SMap Word
  doorbell : Word
  /-- Line 1 is raised by the doorbell. -/
  dbHit : Bool
  rep : Rep
  br : Option Br
  cwd : SMap BusVal
  /-- Responses that LR_R and SC_R hold: value, and response code of R333. -/
  lrR : Option (W64 × Nat)
  scA : W64
  scR : Option (W64 × Nat)
  /-- Reservation: number of the 64-byte granule (R319). -/
  rsv : Option Nat
  sync : List Marker
  inDesc : List BusVal
  inData : List BusVal
  outDesc : List BusVal
  outData : List BusVal
  /-- Words of OUT_DATA that the reorder stage has taken for units without a completion descriptor yet (R333). -/
  outTaken : List BusVal
  ctxWb : List BusVal
  job : List W64
  jobRes : List W64
  xbCmd : List W64
  xbWd : List W64
  /-- Read data words and response words (true), oldest first. -/
  xbRd : List (W64 × Bool)
  /-- What waits to enter IN_DESC, IN_DATA, JOB and XB_RD while they are full (R333). -/
  descFeed : List BusVal
  dataFeed : List BusVal
  jobFeed : List W64
  xbFeed : List (W64 × Bool)
  /-- Job that the Silo has given to a key engine, and the words of its result that the Silo has taken (R286, R511). -/
  running : Option KeyJob
  answer : List W64
  /-- Context lines that the context cache holds, newest first: line number in context memory and bytes (R22). -/
  cache : List (Nat × List Byte)
  /-- Fetch queue, oldest first, and whether it ran empty because the bank of the next line was busy (R264). -/
  fetchQ : List Fetched
  slip : Bool
  /-- Line buffers of streams X and Y: address and bytes, none for those of an uncorrectable word (R341). -/
  lineX : Option (Nat × List (Option Byte))
  lineY : Option (Nat × List (Option Byte))
  /-- Store buffers of banks A, B, C, oldest entry first. -/
  sb : SMap (List SbEnt)
  /-- Line that stream Z gathers: its address and the bytes written (R341). -/
  z : Option (Nat × SMap Byte)
  /-- Save areas in use, and their causes, innermost first: the exception code, 0 for an interrupt. -/
  save : Nat
  causes : List Nat
  /-- Repeat boundary at which each save area in use was taken, innermost first (R276). -/
  edges : List Nat
  /-- The handler's first bundle has not issued (R285). -/
  fresh : Bool
  /-- Loop buffer: bundles by address; whether this iteration fills and uses it, and whether the next one does (R265). -/
  lbuf : SMap (List Byte)
  lbufOk : Bool
  lbufNext : Bool
  samp : Sampler
  drbg : DrbgUnit
  /-- Faults of the complication sockets: bit 2k integrity, bit 2k + 1 function (R337). -/
  cfault : Nat
  socks : SMap Sock
  deriving DecidableEq, Repr

def Eng.reset : Eng where
  pc := 0
  g := []
  vals := []
  aes := []
  fly := []
  blocked := none
  preds := 0
  v := false
  dz := false
  sp := 0
  stkLim := 0
  stkTop := 0
  ie := false
  imask := 0
  ivb := 0
  nopred := false
  predEmpty := true
  predBar := false
  timer := 0
  timerHit := false
  agBank := 0
  agMode := 0
  ag := []
  doorbell := 0
  dbHit := false
  rep := Rep.reset
  br := none
  cwd := []
  lrR := none
  scA := 0
  scR := none
  rsv := none
  sync := []
  inDesc := []
  inData := []
  outDesc := []
  outData := []
  outTaken := []
  ctxWb := []
  job := []
  jobRes := []
  xbCmd := []
  xbWd := []
  xbRd := []
  descFeed := []
  dataFeed := []
  jobFeed := []
  xbFeed := []
  running := none
  answer := []
  cache := []
  fetchQ := []
  slip := false
  lineX := none
  lineY := none
  sb := []
  z := none
  save := 0
  causes := []
  edges := []
  fresh := false
  lbuf := []
  lbufOk := false
  lbufNext := false
  samp := ⟨[], [], 0⟩
  drbg := ⟨none, 0, true, false, 0⟩
  cfault := 0
  socks := []

end Sys2Proof.Machine
end

