-- ==== Sys2Proof/Machine/PubKey.lean ====
section
/-! DEFINITION. The public-key algorithms that R171 names by their standards, computed in full: SHA-3 and SHAKE (FIPS 202),
ML-KEM-1024 (FIPS 203), ML-DSA-87 (FIPS 204), P-384 with ECDH and ECDSA (SP 800-56A, FIPS 186-5), and the verification of
SLH-DSA-SHA2-256s (FIPS 205). Steps and parameters carry the names of the standards. -/

namespace Sys2Proof.Machine.Crypto

/-! ### SHA-3 and SHAKE (FIPS 202) -/

/-- One block of `rate` bytes into the sponge. -/
def absorb (a : List Nat) (blk : List Byte) : List Nat :=
  keccakF (a.zipIdx.map fun p => p.1 ^^^ leNat ((blk.drop (8 * p.2)).take 8))

/-- Output bytes of a sponge state. -/
def lanesOut (a : List Nat) (rate : Nat) : List Byte := ((a.map (leBytes 8)).flatten).take rate

/-- State of the sponge after the padded message; `dom` is the domain byte that the padding starts with. -/
def spongeIn (rate dom : Nat) (m : List Byte) : List Nat :=
  let gap := rate - m.length % rate
  let pad := if gap = 1 then [BitVec.ofNat 8 (dom + 0x80)] else BitVec.ofNat 8 dom :: zeros (gap - 2) ++ [0x80]
  let x := m ++ pad
  (chunks rate (x.length / rate) x).foldl absorb (List.replicate 25 0)

/-- The blocks of output after a state, `n` of them. -/
def squeeze (rate : Nat) : Nat → List Nat → List Byte
  | 0, _ => []
  | n + 1, a => lanesOut a rate ++ squeeze rate n (keccakF a)

def sponge (rate dom : Nat) (m : List Byte) (out : Nat) : List Byte :=
  (squeeze rate (ceilDiv out rate) (spongeIn rate dom m)).take out

def sha3_256 (m : List Byte) : List Byte := sponge 136 6 m 32
def sha3_512 (m : List Byte) : List Byte := sponge 72 6 m 64
def shake256 (m : List Byte) (out : Nat) : List Byte := sponge 136 0x1F m out

/-! ### Polynomials over a prime -/

/-- Value with its `n` bits in reverse order. -/
def bitRev : Nat → Nat → Nat
  | 0, _ => 0
  | n + 1, v => v % 2 * 2 ^ n + bitRev n (v / 2)

/-- `b ^ e` modulo `m` by squaring, over the `n` low bits of `e`. -/
def powMod (m b : Nat) : Nat → Nat → Nat
  | 0, _ => 1 % m
  | n + 1, e =>
    let h := powMod m b n (e / 2)
    if e % 2 = 1 then h * h % m * b % m else h * h % m

/-- Sums and differences of coefficients modulo `q`. -/
def polyAdd (q : Nat) (a b : List Nat) : List Nat := List.zipWith (fun x y => (x + y) % q) a b
def polySub (q : Nat) (a b : List Nat) : List Nat := List.zipWith (fun x y => (x + q - y % q) % q) a b

/-- Sum of polynomials of 256 coefficients. -/
def polySum (q : Nat) (l : List (List Nat)) : List Nat := l.foldl (polyAdd q) (List.replicate 256 0)

/-- `n` layers of the number-theoretic transform from block `i` on; `z` is the power of the root for a block. -/
def nttFrom (q : Nat) (z : Nat → Nat) : Nat → Nat → List Nat → List Nat
  | 0, _, f => f
  | n + 1, i, f =>
    let h := f.length / 2
    let a := f.take h
    let t := (f.drop h).map fun x => z i * x % q
    nttFrom q z n (2 * i) (polyAdd q a t) ++ nttFrom q z n (2 * i + 1) (polySub q a t)

/-- The inverse layers, without the final factor; `z` is the inverse power for a block. -/
def invFrom (q : Nat) (z : Nat → Nat) : Nat → Nat → List Nat → List Nat
  | 0, _, f => f
  | n + 1, i, f =>
    let h := f.length / 2
    let a := invFrom q z n (2 * i) (f.take h)
    let b := invFrom q z n (2 * i + 1) (f.drop h)
    polyAdd q a b ++ (polySub q a b).map fun x => z i * x % q

/-- Coefficients of `d` bits each, packed and unpacked in rising order. -/
def packBits (d : Nat) (l : List Nat) : List Byte :=
  (chunks 8 (l.length / 8) l).flatMap fun c => leBytes d (c.foldr (fun x n => n * 2 ^ d + x) 0)
def unpackBits (d : Nat) (b : List Byte) : List Nat :=
  (chunks d (b.length / d) b).flatMap fun c => (List.range 8).map fun i => bitsOf (leNat c) (d * i) d

/-! ### ML-KEM-1024 (FIPS 203) -/

def kemQ : Nat := 3329
def kemK : Nat := 4

def kemNtt (f : List Nat) : List Nat := nttFrom kemQ (fun i => powMod kemQ 17 8 (bitRev 7 i)) 7 1 f
def kemInv (f : List Nat) : List Nat :=
  (invFrom kemQ (fun i => powMod kemQ 17 9 (256 - bitRev 7 i)) 7 1 f).map fun x => x * 3303 % kemQ

/-- MultiplyNTTs: products of the pairs modulo X² − ζ^(2·BitRev7(i)+1). -/
def kemMul (a b : List Nat) : List Nat :=
  (List.zip (chunks 2 128 a) (chunks 2 128 b)).zipIdx.flatMap fun p =>
    match p.1.1, p.1.2 with
    | [a0, a1], [b0, b1] =>
      [(a0 * b0 + a1 * b1 % kemQ * powMod kemQ 17 8 (2 * bitRev 7 p.2 + 1)) % kemQ, (a0 * b1 + a1 * b0) % kemQ]
    | _, _ => [0, 0]

def kemDot (a b : List (List Nat)) : List Nat := polySum kemQ (List.zipWith kemMul a b)

/-- Coefficients below the modulus in a block of three-byte groups. -/
def kemCoefs (b : List Byte) : List Nat :=
  ((chunks 3 (b.length / 3) b).flatMap fun c => let v := leNat c; [v % 4096, v / 4096]).filter (· < kemQ)

/-- SampleNTT: rejection sampling from SHAKE128. `fuel` bounds the blocks; FIPS 203 allows a bound that 280 blocks do not
fall below. -/
def kemSampleGo : Nat → List Nat → List Nat → List Nat
  | 0, _, acc => acc
  | fuel + 1, a, acc =>
    let acc := acc ++ kemCoefs (lanesOut a 168)
    if acc.length ≥ 256 then acc.take 256 else kemSampleGo fuel (keccakF a) acc
def kemSample (seed : List Byte) : List Nat := kemSampleGo 280 (spongeIn 168 0x1F seed) []

/-- SamplePolyCBD with η = 2. -/
def kemCbd (b : List Byte) : List Nat :=
  b.flatMap fun x => [0, 4].map fun o =>
    let n := bitsOf x.toNat o 4
    (n % 2 + n / 2 % 2 + kemQ - (n / 4 % 2 + n / 8)) % kemQ

/-- PRF with η = 2. -/
def kemNoise (s : List Byte) (n : Nat) : List Nat := kemCbd (shake256 (s ++ [BitVec.ofNat 8 n]) 128)

/-- Matrix Â: row `i`, column `j`. -/
def kemMatrix (rho : List Byte) (i j : Nat) : List Nat := kemSample (rho ++ [BitVec.ofNat 8 j, BitVec.ofNat 8 i])

def kemVec (f : Nat → List Nat) : List (List Nat) := (List.range kemK).map f

def kemCompress (d : Nat) (f : List Nat) : List Nat := f.map fun x => (x * 2 ^ d + 1664) / kemQ % 2 ^ d
def kemDecompress (d : Nat) (f : List Nat) : List Nat := f.map fun y => (kemQ * y + 2 ^ (d - 1)) / 2 ^ d

/-- The four polynomials of a key, from 12-bit fields. -/
def kemDecode12 (b : List Byte) : List (List Nat) := (chunks 384 kemK b).map fun c => (unpackBits 12 c).map (· % kemQ)

/-- ML-KEM.KeyGen_internal on d ‖ z: encapsulation key, decapsulation key. -/
def mlkemKeygen (r : List Byte) : List Byte × List Byte :=
  let g := sha3_512 (r.take 32 ++ [BitVec.ofNat 8 kemK])
  let rho := g.take 32
  let sigma := g.drop 32
  let s := kemVec fun i => kemNtt (kemNoise sigma i)
  let e := kemVec fun i => kemNtt (kemNoise sigma (kemK + i))
  let t := kemVec fun i => polyAdd kemQ (kemDot (kemVec fun j => kemMatrix rho i j) s) (e.getD i [])
  let ek := t.flatMap (packBits 12) ++ rho
  (ek, s.flatMap (packBits 12) ++ ek ++ sha3_256 ek ++ (r.drop 32).take 32)

/-- K-PKE.Encrypt. -/
def kemEncrypt (ek m r : List Byte) : List Byte :=
  let t := kemDecode12 ek
  let rho := ek.drop (384 * kemK)
  let y := kemVec fun i => kemNtt (kemNoise r i)
  let u := kemVec fun i =>
    polyAdd kemQ (kemInv (kemDot (kemVec fun j => kemMatrix rho j i) y)) (kemNoise r (kemK + i))
  let mu := kemDecompress 1 (unpackBits 1 m)
  let v := polyAdd kemQ (polyAdd kemQ (kemInv (kemDot t y)) (kemNoise r (2 * kemK))) mu
  (u.flatMap fun p => packBits 11 (kemCompress 11 p)) ++ packBits 5 (kemCompress 5 v)

/-- K-PKE.Decrypt. -/
def kemDecrypt (dk c : List Byte) : List Byte :=
  let u := (chunks 352 kemK c).map fun b => kemNtt (kemDecompress 11 (unpackBits 11 b))
  let v := kemDecompress 5 (unpackBits 5 (c.drop (352 * kemK)))
  packBits 1 (kemCompress 1 (polySub kemQ v (kemInv (kemDot (kemDecode12 dk) u))))

/-- ML-KEM.Encaps_internal: ciphertext, shared secret. -/
def mlkemEncaps (ek m : List Byte) : List Byte × List Byte :=
  let g := sha3_512 (m ++ sha3_256 ek)
  (kemEncrypt ek m (g.drop 32), g.take 32)

/-- ML-KEM.Decaps_internal, with implicit rejection. -/
def mlkemDecaps (dk c : List Byte) : List Byte :=
  let ek := (dk.drop 1536).take 1568
  let m := kemDecrypt (dk.take 1536) c
  let g := sha3_512 (m ++ (dk.drop 3104).take 32)
  if kemEncrypt ek m (g.drop 32) = c then g.take 32 else shake256 (dk.drop 3136 ++ c) 32

/-- Input checks of FIPS 203 on an encapsulation key: its length, and every coefficient below the modulus (R187). -/
def mlkemKeyOk (ek : List Byte) : Bool :=
  ek.length == 1568 && (chunks 384 kemK ek).all fun c => (unpackBits 12 c).all (· < kemQ)

/-! ### ML-DSA-87 (FIPS 204) -/

def dsaQ : Nat := 8380417
def dsaK : Nat := 8
def dsaL : Nat := 7
/-- γ1, γ2, τ, β, ω. -/
def dsaG1 : Nat := 2 ^ 19
def dsaG2 : Nat := 261888
def dsaTau : Nat := 60
def dsaBeta : Nat := 120
def dsaOmega : Nat := 75

def dsaNtt (f : List Nat) : List Nat := nttFrom dsaQ (fun i => powMod dsaQ 1753 9 (bitRev 8 i)) 8 1 f
def dsaInv (f : List Nat) : List Nat :=
  (invFrom dsaQ (fun i => powMod dsaQ 1753 10 (512 - bitRev 8 i)) 8 1 f).map fun x => x * 8347681 % dsaQ
def dsaMul (a b : List Nat) : List Nat := List.zipWith (fun x y => x * y % dsaQ) a b
def dsaDot (a b : List (List Nat)) : List Nat := polySum dsaQ (List.zipWith dsaMul a b)

/-- Value modulo ± m: the residue in (−m/2, m/2]. -/
def modPm (m x : Nat) : Int := let r := x % m; if 2 * r > m then (r : Int) - m else r

/-- Distance of a residue modulo q from zero. -/
def dsaAbs (x : Nat) : Nat := (modPm dsaQ x).natAbs
def dsaNorm (l : List (List Nat)) : Nat := l.foldl (fun n p => p.foldl (fun n x => max n (dsaAbs x)) n) 0

def dsaNeg (x : Int) : Nat := (x % (dsaQ : Int)).toNat

/-- RejNTTPoly: rejection sampling from SHAKE128. -/
def dsaSampleGo : Nat → List Nat → List Nat → List Nat
  | 0, _, acc => acc
  | fuel + 1, a, acc =>
    let b := lanesOut a 168
    let acc := acc ++ ((chunks 3 56 b).map fun c => leNat c % 2 ^ 23).filter (· < dsaQ)
    if acc.length ≥ 256 then acc.take 256 else dsaSampleGo fuel (keccakF a) acc
def dsaMatrix (rho : List Byte) (r s : Nat) : List Nat :=
  dsaSampleGo 894 (spongeIn 168 0x1F (rho ++ [BitVec.ofNat 8 s, BitVec.ofNat 8 r])) []

/-- RejBoundedPoly with η = 2: rejection sampling from SHAKE256. -/
def dsaBoundedGo : Nat → List Nat → List Nat → List Nat
  | 0, _, acc => acc
  | fuel + 1, a, acc =>
    let zs := (lanesOut a 136).flatMap fun b => [b.toNat % 16, b.toNat / 16]
    let acc := acc ++ (zs.filter (· < 15)).map fun z => (2 + dsaQ - z % 5) % dsaQ
    if acc.length ≥ 256 then acc.take 256 else dsaBoundedGo fuel (keccakF a) acc
def dsaBounded (seed : List Byte) (n : Nat) : List Nat := dsaBoundedGo 481 (spongeIn 136 0x1F (seed ++ leBytes 2 n)) []

/-- Power2Round: high and low part. -/
def dsaPower2 (x : Nat) : Nat × Int := let r0 := modPm 8192 x; (((x : Int) - r0).toNat / 8192, r0)

/-- Decompose: high and low part. -/
def dsaDecompose (x : Nat) : Nat × Int :=
  let r0 := modPm (2 * dsaG2) x
  if (x : Int) - r0 = dsaQ - 1 then (0, r0 - 1) else (((x : Int) - r0).toNat / (2 * dsaG2), r0)
def dsaHigh (x : Nat) : Nat := (dsaDecompose x).1
def dsaLow (x : Nat) : Int := (dsaDecompose x).2

/-- SampleInBall: the signs stand in the first 8 bytes of SHAKE256. `fuel` bounds the bytes drawn. -/
def dsaBallGo (signs : Nat) : Nat → List Byte → Nat → List Nat → List Nat
  | 0, _, _, c => c
  | _ + 1, [], _, c => c
  | fuel + 1, b :: bs, i, c =>
    if i ≥ 256 then c
    else if b.toNat > i then dsaBallGo signs fuel bs i c
    else
      let c := setAt (setAt c i (c.getD b.toNat 0)) b.toNat (if bitAt signs (i + dsaTau - 256) then dsaQ - 1 else 1)
      dsaBallGo signs fuel bs (i + 1) c
def dsaBall (seed : List Byte) : List Nat :=
  let x := shake256 seed 1088
  dsaBallGo (leNat (x.take 8)) 1081 (x.drop 8) (256 - dsaTau) (List.replicate 256 0)

/-- Key pair of a seed: ρ, K, tr, s1, s2, t0 and the public key. -/
structure DsaKey where
  rho : List Byte
  k : List Byte
  tr : List Byte
  s1 : List (List Nat)
  s2 : List (List Nat)
  t0 : List (List Nat)
  pub : List Byte

/-- ML-DSA.KeyGen_internal. -/
def dsaKeygen (xi : List Byte) : DsaKey :=
  let g := shake256 (xi ++ [BitVec.ofNat 8 dsaK, BitVec.ofNat 8 dsaL]) 128
  let rho := g.take 32
  let rp := (g.drop 32).take 64
  let s1 := (List.range dsaL).map fun i => dsaBounded rp i
  let s2 := (List.range dsaK).map fun i => dsaBounded rp (dsaL + i)
  let s1h := s1.map dsaNtt
  let t := (List.range dsaK).map fun i =>
    polyAdd dsaQ (dsaInv (dsaDot ((List.range dsaL).map fun j => dsaMatrix rho i j) s1h)) (s2.getD i [])
  let pub := rho ++ t.flatMap fun p => packBits 10 (p.map fun x => (dsaPower2 x).1)
  ⟨rho, g.drop 96, shake256 pub 64, s1, s2, t.map fun p => p.map fun x => dsaNeg (dsaPower2 x).2, pub⟩

/-- Public key of a seed. -/
def mldsaPublic (xi : List Byte) : List Byte := (dsaKeygen xi).pub

/-- Message of the pure form with a context string. -/
def dsaMessage (context m : List Byte) : List Byte := [0, BitVec.ofNat 8 context.length] ++ context ++ m

def dsaW1 (w : List (List Nat)) : List Byte := w.flatMap fun p => packBits 4 (p.map dsaHigh)

/-- Hints of polynomials packed, with the running counts. -/
def dsaHintPack (h : List (List Bool)) : List Byte :=
  let pos := h.map fun p => ((List.range 256).filter fun j => p.getD j false).map (BitVec.ofNat 8)
  let cnt := (List.range dsaK).map fun i => BitVec.ofNat 8 ((pos.take (i + 1)).flatten).length
  pos.flatten ++ zeros (dsaOmega - pos.flatten.length) ++ cnt

/-- HintBitUnpack: none where it is malformed. -/
def dsaHintUnpack (y : List Byte) : Option (List (List Bool)) :=
  let cnt := 0 :: (y.drop dsaOmega).map (·.toNat)
  let last := cnt.getD dsaK 0
  let part := fun i => ((y.take (cnt.getD (i + 1) 0)).drop (cnt.getD i 0)).map (·.toNat)
  let rising := fun (l : List Nat) => (List.range (l.length - 1)).all fun j => l.getD j 0 < l.getD (j + 1) 0
  if (List.range dsaK).all (fun i => cnt.getD i 0 ≤ cnt.getD (i + 1) 0 && rising (part i)) && last ≤ dsaOmega &&
      ((y.take dsaOmega).drop last).all (· == 0)
  then some ((List.range dsaK).map fun i => (List.range 256).map fun j => (part i).contains j)
  else none

/-- Rejection loop of ML-DSA.Sign_internal; FIPS 204 allows a bound of 814 on its repetitions. -/
def dsaSignGo (key : DsaKey) (a : List (List (List Nat))) (mu rpp : List Byte) : Nat → Nat → List Byte
  | 0, _ => zeros 4627
  | fuel + 1, kappa =>
    let y := (List.range dsaL).map fun i =>
      (unpackBits 20 (shake256 (rpp ++ leBytes 2 (kappa + i)) 640)).map fun v => (dsaG1 + dsaQ - v) % dsaQ
    let yh := y.map dsaNtt
    let w := a.map fun row => dsaInv (dsaDot row yh)
    let ct := shake256 (mu ++ dsaW1 w) 64
    let c := dsaNtt (dsaBall ct)
    let times := fun (l : List (List Nat)) => l.map fun p => dsaInv (dsaMul c (dsaNtt p))
    let z := List.zipWith (polyAdd dsaQ) y (times key.s1)
    let r := List.zipWith (polySub dsaQ) w (times key.s2)
    let low := r.foldl (fun n p => p.foldl (fun n x => max n (dsaLow x).natAbs) n) 0
    let ct0 := times key.t0
    let h := List.zipWith (fun p t => List.zipWith (fun x d => dsaHigh x != dsaHigh ((x + d) % dsaQ)) p t) r ct0
    let ones := h.foldl (fun n p => p.foldl (fun n b => if b then n + 1 else n) n) 0
    if dsaNorm z ≥ dsaG1 - dsaBeta ∨ low ≥ dsaG2 - dsaBeta ∨ dsaNorm ct0 ≥ dsaG2 ∨ ones > dsaOmega then
      dsaSignGo key a mu rpp fuel (kappa + dsaL)
    else
      ct ++ z.flatMap (fun p => packBits 20 (p.map fun x => ((dsaG1 : Int) - modPm dsaQ x).toNat)) ++ dsaHintPack h

/-- Rows of Â. -/
def dsaRows (rho : List Byte) : List (List (List Nat)) :=
  (List.range dsaK).map fun i => (List.range dsaL).map fun j => dsaMatrix rho i j

/-- Hedged ML-DSA-87 signature by the key of seed `xi`: context, message, 32 random bytes. -/
def mldsaSignWith (xi context m rnd : List Byte) : List Byte :=
  let key := dsaKeygen xi
  let mu := shake256 (key.tr ++ dsaMessage context m) 64
  dsaSignGo key (dsaRows key.rho) mu (shake256 (key.k ++ rnd ++ mu) 64) 814 0

/-- UseHint. -/
def dsaUseHint (h : Bool) (x : Nat) : Nat :=
  let d := dsaDecompose x
  if !h then d.1 else if d.2 > 0 then (d.1 + 1) % 16 else (d.1 + 15) % 16

/-- ML-DSA-87 verification: public key, context, message, signature. -/
def mldsaVerify (pub context m sig : List Byte) : Bool :=
  match dsaHintUnpack (sig.drop 4544) with
  | none => false
  | some h =>
    let ct := sig.take 64
    let z := (chunks 640 dsaL ((sig.drop 64).take 4480)).map fun b =>
      (unpackBits 20 b).map fun v => (dsaG1 + dsaQ - v) % dsaQ
    let rho := pub.take 32
    let t1 := (chunks 320 dsaK (pub.drop 32)).map fun b => (unpackBits 10 b).map (· * 8192)
    let mu := shake256 (shake256 pub 64 ++ dsaMessage context m) 64
    let c := dsaNtt (dsaBall ct)
    let zh := z.map dsaNtt
    let w := List.zipWith (fun row t => dsaInv (polySub dsaQ (dsaDot row zh) (dsaMul c (dsaNtt t)))) (dsaRows rho) t1
    let w1 := (List.zipWith (fun hs p => packBits 4 (List.zipWith dsaUseHint hs p)) h w).flatten
    pub.length == 2592 && sig.length == 4627 && dsaNorm z < dsaG1 - dsaBeta && shake256 (mu ++ w1) 64 == ct

/-! ### P-384 (SP 800-186), ECDH and ECDSA -/

def p384P : Nat := 2 ^ 384 - 2 ^ 128 - 2 ^ 96 + 2 ^ 32 - 1
def p384N : Nat := 0xffffffffffffffffffffffffffffffffffffffffffffffffc7634d81f4372ddf581a0db248b0a77aecec196accc52973
def p384B : Nat := 0xb3312fa7e23ee7e4988e056be3f82d19181d9c6efe8141120314088f5013875ac656398d8a2ed19d2a85c8edd3ec2aef
def p384G : Nat × Nat :=
  (0xaa87ca22be8b05378eb1c71ef320ad746e1d3b628ba79b9859f741e082542a385502f25dbf55296c3a545e3872760ab7,
   0x3617de4a96262c6f5d9e98bf9292dc29f8f41dbd289a147ce9da3113b5f0b8c00a60b1ce1d7e819d7a431d7c90ea0e5f)

/-- Inverse modulo a prime of 384 bits. -/
def invMod (m x : Nat) : Nat := powMod m (x % m) 384 (m - 2)

/-- Sum of two points of the curve; none is the point at infinity. -/
def p384Add : Option (Nat × Nat) → Option (Nat × Nat) → Option (Nat × Nat)
  | none, b => b
  | a, none => a
  | some (x1, y1), some (x2, y2) =>
    let p := p384P
    if x1 = x2 ∧ (y1 + y2) % p = 0 then none
    else
      let l := if x1 = x2 then (3 * x1 * x1 + p - 3) * invMod p (2 * y1) % p
        else (y2 + p - y1) * invMod p (x2 + p - x1) % p
      let x := (l * l + 2 * p - x1 - x2) % p
      some (x, (l * (x1 + p - x) + p - y1) % p)

/-- Multiple of a point by the low `n` bits of a number. -/
def p384Times (q : Option (Nat × Nat)) : Nat → Nat → Option (Nat × Nat)
  | 0, _ => none
  | n + 1, k =>
    let h := p384Times q n (k / 2)
    let h := p384Add h h
    if k % 2 = 1 then p384Add h q else h

def pointBytes : Option (Nat × Nat) → List Byte
  | some (x, y) => beBytes 48 x ++ beBytes 48 y
  | none => zeros 96

def pointOf (k : List Byte) : Nat × Nat := (beNat (k.take 48), beNat ((k.drop 48).take 48))

/-- Secret scalar from 48 random bytes: it lies in [1, n − 1] (DESIGN CHOICE, log 10: FIPS 186-5 allows several ways to
draw it). -/
def p384Secret (r : List Byte) : Nat := beNat (r.take 48) % (p384N - 1) + 1

/-- Public key X ‖ Y of 48 random bytes. -/
def p384Public (r : List Byte) : List Byte := pointBytes (p384Times (some p384G) 384 (p384Secret r))

/-- Full public-key validation of a point X ‖ Y (SP 800-56A; the cofactor is 1). -/
def p384KeyOk (k : List Byte) : Bool :=
  let x := (pointOf k).1
  let y := (pointOf k).2
  x < p384P && y < p384P && y * y % p384P == (x * x * x + (p384P - 3) * x + p384B) % p384P

/-- Shared secret: the x-coordinate, 48 bytes. -/
def p384Shared (r pub : List Byte) : List Byte := (pointBytes (p384Times (some (pointOf pub)) 384 (p384Secret r))).take 48

/-- ECDSA signature r ‖ s with SHA-384 by the key of 48 bytes, with 48 random bytes for the nonce. -/
def ecdsaSignWith (key m rnd : List Byte) : List Byte :=
  let k := p384Secret rnd
  let r := beNat ((pointBytes (p384Times (some p384G) 384 k)).take 48) % p384N
  let s := invMod p384N k * (beNat (sha384 m) + r * p384Secret key) % p384N
  beBytes 48 r ++ beBytes 48 s

/-- ECDSA verification: public key X ‖ Y, message, signature. -/
def ecdsaVerify (pub m sig : List Byte) : Bool :=
  let r := beNat (sig.take 48)
  let s := beNat ((sig.drop 48).take 48)
  let w := invMod p384N s
  let q := p384Add (p384Times (some p384G) 384 (beNat (sha384 m) * w % p384N))
    (p384Times (some (pointOf pub)) 384 (r * w % p384N))
  p384KeyOk pub && sig.length == 96 && 0 < r && r < p384N && 0 < s && s < p384N &&
    (match q with | some (x, _) => x % p384N == r | none => false)

/-! ### SHA-256 (FIPS 180-4) -/

/-- Round constants and initial value, word `i` in bits `[32*i+31 : 32*i]`: the high halves of those of SHA-512. -/
def sha256K (i : Nat) : Nat := bitsOf sha512K (64 * i + 32) 32
def sha256Init : List Nat := (List.range 8).map fun i => bitsOf sha512Init (64 * i + 32) 32

def rotr32 (x n : Nat) : Nat := (x / 2 ^ n) ||| ((x * 2 ^ (32 - n)) % 2 ^ 32)

/-- Message schedule, newest word first. -/
def sha256Schedule (ws : List Nat) : Nat → List Nat
  | 0 => ws.reverse
  | n + 1 =>
    let w := sha256Schedule ws n
    let a := w.getD 14 0
    let b := w.getD 1 0
    ((rotr32 b 17 ^^^ rotr32 b 19 ^^^ (b / 2 ^ 10)) + w.getD 6 0 + (rotr32 a 7 ^^^ rotr32 a 18 ^^^ (a / 2 ^ 3))
      + w.getD 15 0) % 2 ^ 32 :: w

def sha256Block (h : List Nat) (blk : List Byte) : List Nat :=
  let ws := (sha256Schedule ((chunks 4 16 blk).map beNat) 48).reverse
  let r := (ws.zipIdx).foldl (fun (s : List Nat) (p : Nat × Nat) =>
    match s with
    | [a, b, c, d, e, f, g, hh] =>
      let t1 := hh + (rotr32 e 6 ^^^ rotr32 e 11 ^^^ rotr32 e 25) + ((e &&& f) ^^^ ((2 ^ 32 - 1 - e) &&& g)) + sha256K p.2 + p.1
      let t2 := (rotr32 a 2 ^^^ rotr32 a 13 ^^^ rotr32 a 22) + ((a &&& b) ^^^ (a &&& c) ^^^ (b &&& c))
      [(t1 + t2) % 2 ^ 32, a, b, c, (d + t1) % 2 ^ 32, e, f, g]
    | s => s) h
  List.zipWith (fun x y => (x + y) % 2 ^ 32) h r

def sha256 (m : List Byte) : List Byte :=
  let x := m ++ [0x80] ++ zeros ((119 - m.length % 64) % 64) ++ beBytes 8 (8 * m.length)
  (((chunks 64 (x.length / 64) x).foldl sha256Block sha256Init).map (beBytes 4)).flatten

/-! ### SLH-DSA-SHA2-256s, verification (FIPS 205) -/

/-- An address: layer, tree, type, and the three words that the type gives a meaning. -/
structure SlhAdrs where
  layer : Nat
  tree : Nat
  type : Nat
  w1 : Nat
  w2 : Nat
  w3 : Nat

/-- Compressed address of the SHA-2 parameter sets: 22 bytes. -/
def SlhAdrs.bytes (a : SlhAdrs) : List Byte :=
  beBytes 1 a.layer ++ beBytes 8 a.tree ++ beBytes 1 a.type ++ beBytes 4 a.w1 ++ beBytes 4 a.w2 ++ beBytes 4 a.w3

/-- F; H and T_l. -/
def slhF (seed : List Byte) (a : SlhAdrs) (m : List Byte) : List Byte := sha256 (seed ++ zeros 32 ++ a.bytes ++ m)
def slhT (seed : List Byte) (a : SlhAdrs) (m : List Byte) : List Byte := (sha512 (seed ++ zeros 96 ++ a.bytes ++ m)).take 32

/-- `n` digits of `b` bits of a byte string, most significant first. -/
def slhBase (b n : Nat) (x : List Byte) : List Nat := (List.range n).map fun i => bitsOf (beNat x) (8 * x.length - b * (i + 1)) b

/-- Chain from step `i`, `s` steps. -/
def slhChain (seed : List Byte) (a : SlhAdrs) (x : List Byte) (i s : Nat) : List Byte :=
  (List.range s).foldl (fun x j => slhF seed { a with w3 := i + j } x) x

/-- Root of a path: node, its index at the lowest level, the siblings from there upward. -/
def slhPath (seed : List Byte) (a : SlhAdrs) (node : List Byte) (idx : Nat) (auth : List (List Byte)) : List Byte :=
  (auth.zipIdx.foldl (fun (n : List Byte) p =>
    let a := { a with w2 := p.2 + 1, w3 := idx / 2 ^ (p.2 + 1) }
    slhT seed a (if idx / 2 ^ p.2 % 2 = 0 then n ++ p.1 else p.1 ++ n)) node)

/-- wots_pkFromSig. -/
def slhWots (seed : List Byte) (layer tree idx : Nat) (sig m : List Byte) : List Byte :=
  let d := slhBase 4 64 m
  let csum := d.foldl (fun n x => n + (15 - x)) 0
  let ds := d ++ slhBase 4 3 (beBytes 2 (csum * 16))
  let tops := (List.zip ds (chunks 32 67 sig)).zipIdx.flatMap fun p =>
    slhChain seed ⟨layer, tree, 0, idx, p.2, 0⟩ p.1.2 p.1.1 (15 - p.1.1)
  slhT seed ⟨layer, tree, 1, idx, 0, 0⟩ tops

/-- xmss_pkFromSig over a tree of height 8. -/
def slhXmss (seed : List Byte) (layer tree idx : Nat) (sig m : List Byte) : List Byte :=
  slhPath seed ⟨layer, tree, 2, 0, 0, 0⟩ (slhWots seed layer tree idx (sig.take 2144) m) idx (chunks 32 8 (sig.drop 2144))

/-- fors_pkFromSig: 22 trees of height 14. -/
def slhFors (seed : List Byte) (tree idx : Nat) (sig md : List Byte) : List Byte :=
  let roots := (List.zip (slhBase 14 22 md) (chunks 480 22 sig)).zipIdx.flatMap fun p =>
    let leaf := p.2 * 2 ^ 14 + p.1.1
    let a : SlhAdrs := ⟨0, tree, 3, idx, 0, leaf⟩
    slhPath seed a (slhF seed a (p.1.2.take 32)) leaf (chunks 32 14 (p.1.2.drop 32))
  slhT seed ⟨0, tree, 4, idx, 0, 0⟩ roots

/-- MGF1 with SHA-512. -/
def mgf512 (x : List Byte) (n : Nat) : List Byte :=
  (((List.range (ceilDiv n 64)).map fun i => sha512 (x ++ beBytes 4 i)).flatten).take n

/-- SLH-DSA-SHA2-256s verification: public key, context, message, signature. -/
def slhdsaVerify (pub context m sig : List Byte) : Bool :=
  let seed := pub.take 32
  let root := pub.drop 32
  let r := sig.take 32
  let digest := mgf512 (r ++ seed ++ sha512 (r ++ seed ++ root ++ dsaMessage context m)) 47
  let tree := beNat ((digest.drop 39).take 7)
  let leaf := beNat (digest.drop 46)
  let fors := slhFors seed tree leaf ((sig.drop 32).take 10560) (digest.take 39)
  let node := (chunks 2400 8 (sig.drop 10592)).zipIdx.foldl (fun n p =>
    let idx := if p.2 = 0 then leaf else tree / 2 ^ (8 * (p.2 - 1)) % 256
    slhXmss seed p.2 (tree / 2 ^ (8 * p.2)) idx p.1 n) fors
  pub.length == 64 && sig.length == 29792 && node == root

/-! ### The module's own keys (R173, R203) -/

/-- Signatures by the identity private keys of this module: hedged ML-DSA-87 with a context, ECDSA. -/
def mldsaSign (context m rnd : List Byte) : List Byte := mldsaSignWith Config.identityMl context m rnd
def ecdsaSign (m rnd : List Byte) : List Byte := ecdsaSignWith Config.identityEc m rnd

/-- Public keys of this module; the ECDSA key carries the prefix 0x04. -/
def ownMl : List Byte := mldsaPublic Config.identityMl
def ownEc : List Byte := 4 :: p384Public Config.identityEc

/-- Node ID of a pair of public keys: the first 8 bytes of their digest, byte 0 most significant (R204). -/
def nodeIdOf (ml ec : List Byte) : W64 := BitVec.ofNat 64 (beNat ((sha384 (ml ++ ec)).take 8))

def ownNode : W64 := nodeIdOf ownMl ownEc

end Sys2Proof.Machine.Crypto
end

