-- ==== Sys2Proof/Machine/Reg.lean ====
section
/-! DEFINITION. The names of every register of BAR0 (R71, R170, R250, R252, R290, R384, R410, R442, R463, R489, R490,
R512, R529, R547 and the field tables beside them): the blocks, the registers, the fields. -/

namespace Sys2Proof.Machine

/-- Register blocks, in the order of R532. -/
inductive Blk where
  | GLB | PWR | CLK | EVC | DMA | MEM | HLTH | FAB | TWN | PORT | CH | ENG | SILO | SHF
  deriving DecidableEq, Repr

/-- How a register is reached: one for the module, one copy per master, one per unit shown in the block's window,
or a row of a table that the block shows whole. -/
inductive RegClass where
  | one | perMaster | window | table
  deriving DecidableEq, Repr

/-- Access types (R9). `derived` reads are worked out from the state and never stored. -/
inductive Access where
  | ro | rw | w1c | wo | derived
  deriving DecidableEq, Repr

/-- The registers. A register that a table of the spec numbers (TXEQ0–7, FAB_ROUTE0–4095) is one name. -/
inductive Reg where
  | PORT_SEL | PORT_SEL_ERR | PORT_CFG | PORT_CTL | PORT_CHECK | PORT_STATUS | PORT_EVT | PORT_EVT_EN | PORT_LANE_POL
  | PORT_TX_MAP | PORT_RX_MAP | PORT_HOLD | PORT_FC | PORT_EXP_LIMIT | PORT_XOFF | PORT_XON | PORT_EXP_OCC
  | PORT_TXEQ | PORT_CNT_CLR | CH_SEL | CH_SEL_ERR | CH_CTL | CH_CHECK | CH_STATUS | CH_EVT | CH_EVT_EN | CH_REMAP
  | CH_CNT_CLR | CH_SPARE | CH_EVT_SUM | FAB_LINK_SEL | FAB_LINK_SEL_ERR | FAB_CFG | FAB_CTL | FAB_CHECK | FAB_STATUS
  | FAB_NODES | FAB_EVT | FAB_EVT_EN | FAB_LINK_STATUS | FAB_LINK_NEIGH | FAB_LINK_TITHE | FAB_ROUTE | TWN_CFG
  | TWN_CTL | TWN_CHECK | TWN_STATUS | TWN_PARTNER | TWN_EVT | TWN_EVT_EN | TWN_LAST_FO | TWN_LAG | ENG_SEL
  | ENG_SEL_ERR | ENG_CTL | ENG_STATUS | ENG_EXC | ENG_EXC_PC | ENG_EVT | ENG_EVT_EN | ENG_UNITS | SHF_CTL
  | SHF_CHECK | SHF_STATUS | SHF_BOOT | SHF_SVN | SHF_FLOOR | SHF_FUSE | SHF_DRAINED | SHF_SLICE_CODE | SHF_EVT
  | SHF_EVT_EN | SHF_DIGEST | SHF_STAGED_DIGEST | SHF_FL_SRC | SHF_FL_DST | SHF_FL_LEN | SHF_FL_CMD | SHF_FL_STATUS
  | MEM_SEL | MEM_SEL_ERR | MEM_CTL | MEM_CHECK | MEM_CFG | MEM_STATUS | MEM_EVT | MEM_EVT_EN | MEM_OVF | MEM_LOG_CTL
  | MEM_FLIPMASK | MEM_FLIPDATA | MEM_CAPACITY | MEM_BANKSZ | MEM_RETIRED | MEM_FE | MEM_LOG | DMA_SEL | DMA_SEL_ERR
  | DMA_BUSY | DMA_CH_CFG | DMA_CH_CTL | DMA_CH_CHECK | DMA_CH_STATUS | DMA_CH_RING_LO | DMA_CH_RING_HI | DMA_CH_HEAD
  | DMA_CH_TAIL | DMA_CH_DOORBELL | DMA_CH_EVT | DMA_CH_EVT_EN | DMA_CH_ERRADDR_LO | DMA_CH_ERRADDR_HI
  | DMA_CH_ERRINFO | DMA_CH_POS_A | DMA_CH_POS_B | EVC_CTL | EVC_CHECK | EVC_STATUS | EVC_EVT | EVC_EVT_EN | EVC_SET
  | EVC_HCOMPLETE | EVC_IN_CFG | EVC_GRP | EVC_SRC_CFG | EVC_SRC_STATUS | EVC_PEND | EVC_HCLAIM | PWR_CFG | PWR_CHECK
  | PWR_STATUS | PWR_FEED_A | PWR_FEED_B | PWR_BAK | PWR_DOM_LO | PWR_DOM_HI | PWR_WAKE_EN | PWR_WAKE_TIMER
  | PWR_WAKE_CAUSE | PWR_IO | PWR_EVT | PWR_EVT_EN | CLK_SSC | CLK_CHECK | CLK_STATUS | CLK_EVT | CLK_EVT_EN
  | CLK_MEAS | CLK_RTC_LO | CLK_RTC_HI | SILO_CMD | SILO_CHECK | SILO_STATUS | SILO_RESP_LEN | SILO_EVT | SILO_EVT_EN
  | SILO_TAMPER | SILO_TAMPER_CAUSE | SILO_TAMPER_TIME_LO | SILO_TAMPER_TIME_HI | SILO_LOOP_CFG | SILO_PINS
  | SILO_SEQ_LO | SILO_SEQ_HI | SILO_ZCOUNT | SILO_NODE | SILO_OSD | HLTH_LANE_SEL | HLTH_LANE_SEL_ERR | HLTH_CFG
  | HLTH_STATUS | HLTH_EOL | HLTH_EVT | HLTH_EVT_EN | HLTH_CONS | HLTH_PRED | HLTH_TEMP | HLTH_RAIL | HLTH_HOURS_LO
  | HLTH_HOURS_HI | HLTH_TCYC | HLTH_EYE | GLB_PARTID | GLB_CAP | GLB_IFVER_SUP | GLB_IFVER_SEL | GLB_VER | GLB_MODE
  | GLB_MODE_REQ | GLB_MODE_CHECK | GLB_RESET | GLB_EVT | GLB_EVT_EN | GLB_LASTREF | GLB_LASTREF_INST
  | GLB_LASTREF_TIME_LO | GLB_LASTREF_TIME_HI | GLB_HOST_ERR | GLB_HOST_ERRADDR | GLB_BAR2_APER | GLB_PCIE_STATUS
  | GLB_PCIE_EVT | GLB_PCIE_EVT_EN | GLB_GPIO_DIR | GLB_GPIO_OUT | GLB_GPIO_IN | GLB_ALARM | GLB_TOD_CFG
  | GLB_TOD_STATUS | GLB_TOD_EVT | GLB_TOD_EVT_EN | GLB_RTC_SET_LO | GLB_RTC_SET_HI
  deriving DecidableEq, Repr

/-- A field of a register: its lowest bit and its width. -/
structure Fld where
  reg : Reg
  lo : Nat
  len : Nat
  deriving DecidableEq, Repr

def PORT_SEL.PORT : Fld := ⟨.PORT_SEL, 0, 6⟩
def PORT_SEL_ERR.ERR : Fld := ⟨.PORT_SEL_ERR, 0, 1⟩
def PORT_CFG.PAIR : Fld := ⟨.PORT_CFG, 16, 6⟩
def PORT_CFG.FLTPROP : Fld := ⟨.PORT_CFG, 8, 1⟩
def PORT_CFG.FRAMING : Fld := ⟨.PORT_CFG, 4, 2⟩
def PORT_CFG.TYPE : Fld := ⟨.PORT_CFG, 3, 1⟩
def PORT_CFG.WIDTH : Fld := ⟨.PORT_CFG, 0, 2⟩
def PORT_CTL.LPBK : Fld := ⟨.PORT_CTL, 8, 2⟩
def PORT_CTL.PROV : Fld := ⟨.PORT_CTL, 0, 1⟩
def PORT_CHECK.BUSY : Fld := ⟨.PORT_CHECK, 31, 1⟩
def PORT_CHECK.OK : Fld := ⟨.PORT_CHECK, 30, 1⟩
def PORT_CHECK.REASON : Fld := ⟨.PORT_CHECK, 0, 8⟩
def PORT_STATUS.PROV : Fld := ⟨.PORT_STATUS, 31, 1⟩
def PORT_STATUS.READY : Fld := ⟨.PORT_STATUS, 30, 1⟩
def PORT_STATUS.LINK : Fld := ⟨.PORT_STATUS, 29, 1⟩
def PORT_STATUS.ALIGN : Fld := ⟨.PORT_STATUS, 28, 1⟩
def PORT_STATUS.LF : Fld := ⟨.PORT_STATUS, 27, 1⟩
def PORT_STATUS.RF : Fld := ⟨.PORT_STATUS, 26, 1⟩
def PORT_STATUS.XOFF : Fld := ⟨.PORT_STATUS, 25, 1⟩
def PORT_STATUS.HOLD : Fld := ⟨.PORT_STATUS, 24, 1⟩
def PORT_STATUS.SIG : Fld := ⟨.PORT_STATUS, 8, 8⟩
def PORT_STATUS.LOCK : Fld := ⟨.PORT_STATUS, 0, 8⟩
def PORT_EVT.CTL_DROP : Fld := ⟨.PORT_EVT, 7, 1⟩
def PORT_EVT.FEC_UNCORR : Fld := ⟨.PORT_EVT, 6, 1⟩
def PORT_EVT.EXP_DROP : Fld := ⟨.PORT_EVT, 5, 1⟩
def PORT_EVT.XOFF_ON : Fld := ⟨.PORT_EVT, 4, 1⟩
def PORT_EVT.ALIGN_LOST : Fld := ⟨.PORT_EVT, 3, 1⟩
def PORT_EVT.LOCK_LOST : Fld := ⟨.PORT_EVT, 2, 1⟩
def PORT_EVT.LINK_DOWN : Fld := ⟨.PORT_EVT, 1, 1⟩
def PORT_EVT.LINK_UP : Fld := ⟨.PORT_EVT, 0, 1⟩
def PORT_EVT_EN.ALL : Fld := ⟨.PORT_EVT_EN, 0, 8⟩
def PORT_LANE_POL.RX_INV : Fld := ⟨.PORT_LANE_POL, 8, 8⟩
def PORT_LANE_POL.TX_INV : Fld := ⟨.PORT_LANE_POL, 0, 8⟩
def PORT_TX_MAP.MAP : Fld := ⟨.PORT_TX_MAP, 0, 24⟩
def PORT_RX_MAP.MAP : Fld := ⟨.PORT_RX_MAP, 0, 24⟩
def PORT_HOLD.UP_HOLD : Fld := ⟨.PORT_HOLD, 16, 10⟩
def PORT_HOLD.DOWN_HOLD : Fld := ⟨.PORT_HOLD, 0, 10⟩
def PORT_FC.MODE : Fld := ⟨.PORT_FC, 16, 2⟩
def PORT_FC.PFC_PRI : Fld := ⟨.PORT_FC, 0, 8⟩
def PORT_EXP_LIMIT.KIB : Fld := ⟨.PORT_EXP_LIMIT, 0, 14⟩
def PORT_XOFF.KIB : Fld := ⟨.PORT_XOFF, 0, 14⟩
def PORT_XON.KIB : Fld := ⟨.PORT_XON, 0, 14⟩
def PORT_EXP_OCC.PEAK : Fld := ⟨.PORT_EXP_OCC, 16, 14⟩
def PORT_EXP_OCC.OCC : Fld := ⟨.PORT_EXP_OCC, 0, 14⟩
def PORT_TXEQ.PRE2 : Fld := ⟨.PORT_TXEQ, 18, 6⟩
def PORT_TXEQ.PRE1 : Fld := ⟨.PORT_TXEQ, 12, 6⟩
def PORT_TXEQ.MAIN : Fld := ⟨.PORT_TXEQ, 6, 6⟩
def PORT_TXEQ.POST1 : Fld := ⟨.PORT_TXEQ, 0, 6⟩
def PORT_CNT_CLR.CLR : Fld := ⟨.PORT_CNT_CLR, 0, 1⟩
def CH_SEL.CH : Fld := ⟨.CH_SEL, 0, 16⟩
def CH_SEL_ERR.ERR : Fld := ⟨.CH_SEL_ERR, 0, 1⟩
def CH_CTL.REMAP : Fld := ⟨.CH_CTL, 5, 1⟩
def CH_CTL.EPOCH_NOW : Fld := ⟨.CH_CTL, 4, 1⟩
def CH_CTL.KEY : Fld := ⟨.CH_CTL, 3, 1⟩
def CH_CTL.EN : Fld := ⟨.CH_CTL, 0, 1⟩
def CH_CHECK.BUSY : Fld := ⟨.CH_CHECK, 31, 1⟩
def CH_CHECK.OK : Fld := ⟨.CH_CHECK, 30, 1⟩
def CH_CHECK.REASON : Fld := ⟨.CH_CHECK, 0, 8⟩
def CH_STATUS.STATE : Fld := ⟨.CH_STATUS, 29, 3⟩
def CH_STATUS.ROOT_OK : Fld := ⟨.CH_STATUS, 28, 1⟩
def CH_STATUS.STARVED : Fld := ⟨.CH_STATUS, 27, 1⟩
def CH_STATUS.PREV_LIVE : Fld := ⟨.CH_STATUS, 26, 1⟩
def CH_STATUS.REKEYING : Fld := ⟨.CH_STATUS, 25, 1⟩
def CH_STATUS.HS_REASON : Fld := ⟨.CH_STATUS, 16, 8⟩
def CH_EVT.DRAINED : Fld := ⟨.CH_EVT, 11, 1⟩
def CH_EVT.CTX_POISON : Fld := ⟨.CH_EVT, 10, 1⟩
def CH_EVT.EPOCH_EXHAUSTED : Fld := ⟨.CH_EVT, 9, 1⟩
def CH_EVT.SEQ_LIMIT : Fld := ⟨.CH_EVT, 8, 1⟩
def CH_EVT.HS_DONE : Fld := ⟨.CH_EVT, 7, 1⟩
def CH_EVT.HS_FAIL : Fld := ⟨.CH_EVT, 6, 1⟩
def CH_EVT.ROOT_EXPIRED : Fld := ⟨.CH_EVT, 5, 1⟩
def CH_EVT.KEY_STARVED : Fld := ⟨.CH_EVT, 4, 1⟩
def CH_EVT.SEAL_AUTH : Fld := ⟨.CH_EVT, 3, 1⟩
def CH_EVT.SEAL_LOS : Fld := ⟨.CH_EVT, 2, 1⟩
def CH_EVT.PACK_FAULT : Fld := ⟨.CH_EVT, 1, 1⟩
def CH_EVT.AUTH_FAIL : Fld := ⟨.CH_EVT, 0, 1⟩
def CH_EVT_EN.ALL : Fld := ⟨.CH_EVT_EN, 0, 12⟩
def CH_REMAP.SLOT : Fld := ⟨.CH_REMAP, 0, 15⟩
def CH_CNT_CLR.CLR : Fld := ⟨.CH_CNT_CLR, 0, 1⟩
def CH_SPARE.FREE : Fld := ⟨.CH_SPARE, 0, 11⟩
def FAB_LINK_SEL.LINK : Fld := ⟨.FAB_LINK_SEL, 0, 6⟩
def FAB_LINK_SEL_ERR.ERR : Fld := ⟨.FAB_LINK_SEL_ERR, 0, 1⟩
def FAB_CFG.EN : Fld := ⟨.FAB_CFG, 31, 1⟩
def FAB_CFG.ADDR_PREF : Fld := ⟨.FAB_CFG, 0, 12⟩
def FAB_CTL.KILL : Fld := ⟨.FAB_CTL, 31, 1⟩
def FAB_CTL.CH : Fld := ⟨.FAB_CTL, 0, 14⟩
def FAB_CHECK.BUSY : Fld := ⟨.FAB_CHECK, 31, 1⟩
def FAB_CHECK.OK : Fld := ⟨.FAB_CHECK, 30, 1⟩
def FAB_CHECK.REASON : Fld := ⟨.FAB_CHECK, 0, 8⟩
def FAB_STATUS.STATE : Fld := ⟨.FAB_STATUS, 30, 2⟩
def FAB_STATUS.REGISTRAR : Fld := ⟨.FAB_STATUS, 29, 1⟩
def FAB_STATUS.KEY : Fld := ⟨.FAB_STATUS, 28, 1⟩
def FAB_STATUS.VER_FLOOR : Fld := ⟨.FAB_STATUS, 24, 4⟩
def FAB_STATUS.VER_MAX : Fld := ⟨.FAB_STATUS, 20, 4⟩
def FAB_STATUS.ADDR : Fld := ⟨.FAB_STATUS, 0, 12⟩
def FAB_NODES.LSDB : Fld := ⟨.FAB_NODES, 16, 13⟩
def FAB_NODES.REACH : Fld := ⟨.FAB_NODES, 0, 13⟩
def FAB_EVT.KILL_FAILED : Fld := ⟨.FAB_EVT, 8, 1⟩
def FAB_EVT.KILL_ACKED : Fld := ⟨.FAB_EVT, 7, 1⟩
def FAB_EVT.KILL_RX : Fld := ⟨.FAB_EVT, 6, 1⟩
def FAB_EVT.RX_Q_DROP : Fld := ⟨.FAB_EVT, 5, 1⟩
def FAB_EVT.VER_REFUSED : Fld := ⟨.FAB_EVT, 4, 1⟩
def FAB_EVT.ADDR_CONFLICT : Fld := ⟨.FAB_EVT, 3, 1⟩
def FAB_EVT.ROUTE_CHANGE : Fld := ⟨.FAB_EVT, 2, 1⟩
def FAB_EVT.NEIGH_LOST : Fld := ⟨.FAB_EVT, 1, 1⟩
def FAB_EVT.NEIGH_UP : Fld := ⟨.FAB_EVT, 0, 1⟩
def FAB_EVT_EN.ALL : Fld := ⟨.FAB_EVT_EN, 0, 9⟩
def FAB_LINK_STATUS.ADJ : Fld := ⟨.FAB_LINK_STATUS, 31, 1⟩
def FAB_LINK_STATUS.UNPINNED : Fld := ⟨.FAB_LINK_STATUS, 30, 1⟩
def FAB_LINK_STATUS.VER : Fld := ⟨.FAB_LINK_STATUS, 24, 4⟩
def FAB_LINK_STATUS.NEIGH_ADDR : Fld := ⟨.FAB_LINK_STATUS, 0, 12⟩
def FAB_LINK_TITHE.MBPS : Fld := ⟨.FAB_LINK_TITHE, 0, 20⟩
def FAB_ROUTE.VALID : Fld := ⟨.FAB_ROUTE, 31, 1⟩
def FAB_ROUTE.ALT_VALID : Fld := ⟨.FAB_ROUTE, 30, 1⟩
def FAB_ROUTE.ALT_LINK : Fld := ⟨.FAB_ROUTE, 16, 6⟩
def FAB_ROUTE.LINK : Fld := ⟨.FAB_ROUTE, 0, 6⟩
def TWN_CFG.EN : Fld := ⟨.TWN_CFG, 31, 1⟩
def TWN_CFG.SHADOW_TX : Fld := ⟨.TWN_CFG, 30, 1⟩
def TWN_CFG.FO_LINK : Fld := ⟨.TWN_CFG, 29, 1⟩
def TWN_CFG.DEAD_IN_EN : Fld := ⟨.TWN_CFG, 28, 1⟩
def TWN_CFG.ACT_EN : Fld := ⟨.TWN_CFG, 24, 1⟩
def TWN_CFG.DEAD_GPIO : Fld := ⟨.TWN_CFG, 16, 4⟩
def TWN_CFG.ACT_GPIO : Fld := ⟨.TWN_CFG, 0, 4⟩
def TWN_CTL.TAKEOVER : Fld := ⟨.TWN_CTL, 1, 1⟩
def TWN_CTL.HANDOVER : Fld := ⟨.TWN_CTL, 0, 1⟩
def TWN_CHECK.BUSY : Fld := ⟨.TWN_CHECK, 31, 1⟩
def TWN_CHECK.OK : Fld := ⟨.TWN_CHECK, 30, 1⟩
def TWN_CHECK.REASON : Fld := ⟨.TWN_CHECK, 0, 8⟩
def TWN_STATUS.ROLE : Fld := ⟨.TWN_STATUS, 29, 3⟩
def TWN_STATUS.SYNC : Fld := ⟨.TWN_STATUS, 28, 1⟩
def TWN_STATUS.LINK1 : Fld := ⟨.TWN_STATUS, 27, 1⟩
def TWN_STATUS.LINK0 : Fld := ⟨.TWN_STATUS, 26, 1⟩
def TWN_STATUS.ASSOC : Fld := ⟨.TWN_STATUS, 25, 1⟩
def TWN_STATUS.DEAD_IN : Fld := ⟨.TWN_STATUS, 24, 1⟩
def TWN_STATUS.ASSOC_REASON : Fld := ⟨.TWN_STATUS, 0, 8⟩
def TWN_EVT.PORT_MISMATCH : Fld := ⟨.TWN_EVT, 7, 1⟩
def TWN_EVT.SYNC_LOST : Fld := ⟨.TWN_EVT, 6, 1⟩
def TWN_EVT.ASSOC_FAIL : Fld := ⟨.TWN_EVT, 5, 1⟩
def TWN_EVT.SYNC_DONE : Fld := ⟨.TWN_EVT, 4, 1⟩
def TWN_EVT.SPLIT : Fld := ⟨.TWN_EVT, 3, 1⟩
def TWN_EVT.LINK_LOST : Fld := ⟨.TWN_EVT, 2, 1⟩
def TWN_EVT.DEMOTED : Fld := ⟨.TWN_EVT, 1, 1⟩
def TWN_EVT.TAKEOVER : Fld := ⟨.TWN_EVT, 0, 1⟩
def TWN_EVT_EN.ALL : Fld := ⟨.TWN_EVT_EN, 0, 8⟩
def TWN_LAST_FO.CAUSE : Fld := ⟨.TWN_LAST_FO, 28, 4⟩
def TWN_LAST_FO.TIME : Fld := ⟨.TWN_LAST_FO, 0, 16⟩
def TWN_LAG.PEAK : Fld := ⟨.TWN_LAG, 16, 16⟩
def TWN_LAG.CUR : Fld := ⟨.TWN_LAG, 0, 16⟩
def ENG_SEL.ENG : Fld := ⟨.ENG_SEL, 0, 7⟩
def ENG_SEL_ERR.ERR : Fld := ⟨.ENG_SEL_ERR, 0, 1⟩
def ENG_CTL.NOPRED : Fld := ⟨.ENG_CTL, 8, 1⟩
def ENG_STATUS.STATE : Fld := ⟨.ENG_STATUS, 29, 3⟩
def ENG_STATUS.NOPRED : Fld := ⟨.ENG_STATUS, 28, 1⟩
def ENG_STATUS.IE : Fld := ⟨.ENG_STATUS, 27, 1⟩
def ENG_STATUS.SAVE : Fld := ⟨.ENG_STATUS, 25, 2⟩
def ENG_STATUS.STALLED : Fld := ⟨.ENG_STATUS, 24, 1⟩
def ENG_STATUS.MASK : Fld := ⟨.ENG_STATUS, 8, 8⟩
def ENG_STATUS.PENDING : Fld := ⟨.ENG_STATUS, 0, 8⟩
def ENG_EXC.SECOND : Fld := ⟨.ENG_EXC, 16, 8⟩
def ENG_EXC.CODE : Fld := ⟨.ENG_EXC, 0, 8⟩
def ENG_EXC_PC.ADDR : Fld := ⟨.ENG_EXC_PC, 0, 32⟩
def ENG_EVT.RESET_DONE : Fld := ⟨.ENG_EVT, 3, 1⟩
def ENG_EVT.CTL_IGNORED : Fld := ⟨.ENG_EVT, 2, 1⟩
def ENG_EVT.EXC : Fld := ⟨.ENG_EVT, 1, 1⟩
def ENG_EVT.WEDGED : Fld := ⟨.ENG_EVT, 0, 1⟩
def ENG_EVT_EN.ALL : Fld := ⟨.ENG_EVT_EN, 0, 4⟩
def ENG_UNITS.SAVE_ENTRIES : Fld := ⟨.ENG_UNITS, 16, 6⟩
def ENG_UNITS.SELECTED : Fld := ⟨.ENG_UNITS, 0, 5⟩
def SHF_CHECK.BUSY : Fld := ⟨.SHF_CHECK, 31, 1⟩
def SHF_CHECK.OK : Fld := ⟨.SHF_CHECK, 30, 1⟩
def SHF_CHECK.REASON : Fld := ⟨.SHF_CHECK, 0, 8⟩
def SHF_STATUS.SOURCE : Fld := ⟨.SHF_STATUS, 30, 2⟩
def SHF_STATUS.FALLBACK : Fld := ⟨.SHF_STATUS, 29, 1⟩
def SHF_STATUS.STAGED : Fld := ⟨.SHF_STATUS, 28, 1⟩
def SHF_STATUS.STAGED_SLOT : Fld := ⟨.SHF_STATUS, 27, 1⟩
def SHF_STATUS.MIXED : Fld := ⟨.SHF_STATUS, 26, 1⟩
def SHF_STATUS.OP_BUSY : Fld := ⟨.SHF_STATUS, 25, 1⟩
def SHF_STATUS.FL_BUSY : Fld := ⟨.SHF_STATUS, 24, 1⟩
def SHF_STATUS.FB_REASON : Fld := ⟨.SHF_STATUS, 0, 8⟩
def SHF_BOOT.PREF : Fld := ⟨.SHF_BOOT, 16, 1⟩
def SHF_BOOT.REASON_B : Fld := ⟨.SHF_BOOT, 8, 8⟩
def SHF_BOOT.REASON_A : Fld := ⟨.SHF_BOOT, 0, 8⟩
def SHF_SVN.SVN : Fld := ⟨.SHF_SVN, 0, 32⟩
def SHF_FLOOR.FLOOR : Fld := ⟨.SHF_FLOOR, 0, 32⟩
def SHF_FUSE.LEFT : Fld := ⟨.SHF_FUSE, 16, 9⟩
def SHF_FUSE.USED : Fld := ⟨.SHF_FUSE, 0, 9⟩
def SHF_DRAINED.S : Fld := ⟨.SHF_DRAINED, 0, 32⟩
def SHF_SLICE_CODE.S : Fld := ⟨.SHF_SLICE_CODE, 0, 32⟩
def SHF_EVT.FUSE_LOW : Fld := ⟨.SHF_EVT, 6, 1⟩
def SHF_EVT.FLASH_ERR : Fld := ⟨.SHF_EVT, 5, 1⟩
def SHF_EVT.FLASH_DONE : Fld := ⟨.SHF_EVT, 4, 1⟩
def SHF_EVT.PROMOTED : Fld := ⟨.SHF_EVT, 3, 1⟩
def SHF_EVT.UPDATE_DONE : Fld := ⟨.SHF_EVT, 2, 1⟩
def SHF_EVT.DRAINED : Fld := ⟨.SHF_EVT, 1, 1⟩
def SHF_EVT.OP_DONE : Fld := ⟨.SHF_EVT, 0, 1⟩
def SHF_EVT_EN.ALL : Fld := ⟨.SHF_EVT_EN, 0, 7⟩
def SHF_FL_SRC.OFF : Fld := ⟨.SHF_FL_SRC, 0, 23⟩
def SHF_FL_DST.OFF : Fld := ⟨.SHF_FL_DST, 0, 27⟩
def SHF_FL_LEN.BYTES : Fld := ⟨.SHF_FL_LEN, 0, 23⟩
def SHF_FL_STATUS.BUSY : Fld := ⟨.SHF_FL_STATUS, 31, 1⟩
def SHF_FL_STATUS.ERR : Fld := ⟨.SHF_FL_STATUS, 30, 1⟩
def MEM_SEL.CTRL : Fld := ⟨.MEM_SEL, 0, 7⟩
def MEM_SEL_ERR.ERR : Fld := ⟨.MEM_SEL_ERR, 0, 1⟩
def MEM_CTL.CMD : Fld := ⟨.MEM_CTL, 28, 4⟩
def MEM_CTL.PAGE : Fld := ⟨.MEM_CTL, 0, 14⟩
def MEM_CHECK.BUSY : Fld := ⟨.MEM_CHECK, 31, 1⟩
def MEM_CHECK.OK : Fld := ⟨.MEM_CHECK, 30, 1⟩
def MEM_CHECK.REASON : Fld := ⟨.MEM_CHECK, 0, 8⟩
def MEM_CFG.SCRUB_LIGHT : Fld := ⟨.MEM_CFG, 24, 1⟩
def MEM_CFG.RETIRE_H : Fld := ⟨.MEM_CFG, 8, 8⟩
def MEM_CFG.SCRUB_H : Fld := ⟨.MEM_CFG, 0, 8⟩
def MEM_STATUS.CODE : Fld := ⟨.MEM_STATUS, 30, 2⟩
def MEM_STATUS.SCRUB_BUSY : Fld := ⟨.MEM_STATUS, 29, 1⟩
def MEM_STATUS.FLIP_ARMED : Fld := ⟨.MEM_STATUS, 28, 1⟩
def MEM_STATUS.FIFO : Fld := ⟨.MEM_STATUS, 16, 5⟩
def MEM_STATUS.CANDIDATES : Fld := ⟨.MEM_STATUS, 0, 6⟩
def MEM_EVT.RETIRED : Fld := ⟨.MEM_EVT, 6, 1⟩
def MEM_EVT.SCRUB_DONE : Fld := ⟨.MEM_EVT, 5, 1⟩
def MEM_EVT.LOST : Fld := ⟨.MEM_EVT, 4, 1⟩
def MEM_EVT.CANDIDATE : Fld := ⟨.MEM_EVT, 3, 1⟩
def MEM_EVT.POISON_WRITE : Fld := ⟨.MEM_EVT, 2, 1⟩
def MEM_EVT.UE : Fld := ⟨.MEM_EVT, 1, 1⟩
def MEM_EVT.CE : Fld := ⟨.MEM_EVT, 0, 1⟩
def MEM_EVT_EN.ALL : Fld := ⟨.MEM_EVT_EN, 0, 7⟩
def MEM_OVF.LOST : Fld := ⟨.MEM_OVF, 31, 1⟩
def MEM_OVF.COUNT : Fld := ⟨.MEM_OVF, 0, 16⟩
def MEM_LOG_CTL.CNT_CLR : Fld := ⟨.MEM_LOG_CTL, 2, 1⟩
def MEM_LOG_CTL.FE_CLR : Fld := ⟨.MEM_LOG_CTL, 1, 1⟩
def MEM_LOG_CTL.POP : Fld := ⟨.MEM_LOG_CTL, 0, 1⟩
def MEM_FLIPMASK.MODE : Fld := ⟨.MEM_FLIPMASK, 16, 2⟩
def MEM_FLIPMASK.CHECK : Fld := ⟨.MEM_FLIPMASK, 0, 16⟩
def MEM_FLIPDATA.DATA : Fld := ⟨.MEM_FLIPDATA, 0, 32⟩
def MEM_CAPACITY.BYTES : Fld := ⟨.MEM_CAPACITY, 0, 32⟩
def MEM_BANKSZ.BYTES : Fld := ⟨.MEM_BANKSZ, 0, 32⟩
def MEM_RETIRED.COUNT : Fld := ⟨.MEM_RETIRED, 0, 14⟩
def DMA_SEL.CH : Fld := ⟨.DMA_SEL, 0, 6⟩
def DMA_SEL_ERR.ERR : Fld := ⟨.DMA_SEL_ERR, 0, 1⟩
def DMA_CH_CFG.FUNNEL : Fld := ⟨.DMA_CH_CFG, 8, 1⟩
def DMA_CH_CFG.RING_K : Fld := ⟨.DMA_CH_CFG, 0, 5⟩
def DMA_CH_CHECK.BUSY : Fld := ⟨.DMA_CH_CHECK, 31, 1⟩
def DMA_CH_CHECK.OK : Fld := ⟨.DMA_CH_CHECK, 30, 1⟩
def DMA_CH_CHECK.REASON : Fld := ⟨.DMA_CH_CHECK, 0, 8⟩
def DMA_CH_STATUS.STATE : Fld := ⟨.DMA_CH_STATUS, 29, 3⟩
def DMA_CH_STATUS.CYCLIC : Fld := ⟨.DMA_CH_STATUS, 28, 1⟩
def DMA_CH_STATUS.DB_LATCHED : Fld := ⟨.DMA_CH_STATUS, 27, 1⟩
def DMA_CH_RING_LO.BASE : Fld := ⟨.DMA_CH_RING_LO, 6, 26⟩
def DMA_CH_RING_HI.BASE : Fld := ⟨.DMA_CH_RING_HI, 0, 16⟩
def DMA_CH_HEAD.INDEX : Fld := ⟨.DMA_CH_HEAD, 0, 16⟩
def DMA_CH_TAIL.INDEX : Fld := ⟨.DMA_CH_TAIL, 0, 16⟩
def DMA_CH_DOORBELL.INDEX : Fld := ⟨.DMA_CH_DOORBELL, 0, 16⟩
def DMA_CH_EVT.PAUSED : Fld := ⟨.DMA_CH_EVT, 6, 1⟩
def DMA_CH_EVT.ABORTED : Fld := ⟨.DMA_CH_EVT, 5, 1⟩
def DMA_CH_EVT.REFUSED : Fld := ⟨.DMA_CH_EVT, 4, 1⟩
def DMA_CH_EVT.HALTED : Fld := ⟨.DMA_CH_EVT, 3, 1⟩
def DMA_CH_EVT.FULL : Fld := ⟨.DMA_CH_EVT, 2, 1⟩
def DMA_CH_EVT.HALF : Fld := ⟨.DMA_CH_EVT, 1, 1⟩
def DMA_CH_EVT.DONE : Fld := ⟨.DMA_CH_EVT, 0, 1⟩
def DMA_CH_EVT_EN.ALL : Fld := ⟨.DMA_CH_EVT_EN, 0, 7⟩
def DMA_CH_ERRADDR_LO.ADDR : Fld := ⟨.DMA_CH_ERRADDR_LO, 0, 32⟩
def DMA_CH_ERRADDR_HI.ADDR : Fld := ⟨.DMA_CH_ERRADDR_HI, 0, 16⟩
def DMA_CH_ERRINFO.DIR : Fld := ⟨.DMA_CH_ERRINFO, 31, 1⟩
def DMA_CH_ERRINFO.RESP : Fld := ⟨.DMA_CH_ERRINFO, 29, 2⟩
def DMA_CH_ERRINFO.PHASE : Fld := ⟨.DMA_CH_ERRINFO, 27, 2⟩
def DMA_CH_POS_A.I1 : Fld := ⟨.DMA_CH_POS_A, 16, 16⟩
def DMA_CH_POS_A.I0 : Fld := ⟨.DMA_CH_POS_A, 0, 16⟩
def DMA_CH_POS_B.I2 : Fld := ⟨.DMA_CH_POS_B, 0, 16⟩
def EVC_CTL.TGT_EN : Fld := ⟨.EVC_CTL, 0, 3⟩
def EVC_CHECK.BUSY : Fld := ⟨.EVC_CHECK, 31, 1⟩
def EVC_CHECK.OK : Fld := ⟨.EVC_CHECK, 30, 1⟩
def EVC_CHECK.REASON : Fld := ⟨.EVC_CHECK, 0, 8⟩
def EVC_STATUS.REQ_T2 : Fld := ⟨.EVC_STATUS, 20, 10⟩
def EVC_STATUS.REQ_T1 : Fld := ⟨.EVC_STATUS, 10, 10⟩
def EVC_STATUS.REQ_T0 : Fld := ⟨.EVC_STATUS, 0, 10⟩
def EVC_EVT.WAKE_LATCHED : Fld := ⟨.EVC_EVT, 2, 1⟩
def EVC_EVT.BADCOMP : Fld := ⟨.EVC_EVT, 1, 1⟩
def EVC_EVT.STORM : Fld := ⟨.EVC_EVT, 0, 1⟩
def EVC_EVT_EN.ALL : Fld := ⟨.EVC_EVT_EN, 0, 3⟩
def EVC_SET.SRC : Fld := ⟨.EVC_SET, 0, 9⟩
def EVC_HCOMPLETE.SRC : Fld := ⟨.EVC_HCOMPLETE, 0, 9⟩
def EVC_IN_CFG.MODE : Fld := ⟨.EVC_IN_CFG, 9, 1⟩
def EVC_IN_CFG.POL : Fld := ⟨.EVC_IN_CFG, 8, 1⟩
def EVC_IN_CFG.FILT : Fld := ⟨.EVC_IN_CFG, 0, 4⟩
def EVC_GRP.TIME : Fld := ⟨.EVC_GRP, 16, 16⟩
def EVC_GRP.COUNT : Fld := ⟨.EVC_GRP, 0, 9⟩
def EVC_SRC_CFG.STORMED : Fld := ⟨.EVC_SRC_CFG, 29, 1⟩
def EVC_SRC_CFG.PRIO : Fld := ⟨.EVC_SRC_CFG, 28, 1⟩
def EVC_SRC_CFG.MASK : Fld := ⟨.EVC_SRC_CFG, 16, 1⟩
def EVC_SRC_CFG.VECTOR : Fld := ⟨.EVC_SRC_CFG, 4, 6⟩
def EVC_SRC_CFG.TGT : Fld := ⟨.EVC_SRC_CFG, 0, 3⟩
def EVC_SRC_STATUS.STATE : Fld := ⟨.EVC_SRC_STATUS, 29, 3⟩
def EVC_SRC_STATUS.TARGET : Fld := ⟨.EVC_SRC_STATUS, 27, 2⟩
def EVC_SRC_STATUS.LATCHED : Fld := ⟨.EVC_SRC_STATUS, 9, 1⟩
def EVC_SRC_STATUS.MERGED : Fld := ⟨.EVC_SRC_STATUS, 8, 1⟩
def EVC_SRC_STATUS.ASSERTED : Fld := ⟨.EVC_SRC_STATUS, 0, 1⟩
def EVC_HCLAIM.SRC : Fld := ⟨.EVC_HCLAIM, 0, 10⟩
def PWR_CFG.KE_KEEP : Fld := ⟨.PWR_CFG, 8, 4⟩
def PWR_CFG.AUTOSTART : Fld := ⟨.PWR_CFG, 0, 1⟩
def PWR_CHECK.BUSY : Fld := ⟨.PWR_CHECK, 31, 1⟩
def PWR_CHECK.OK : Fld := ⟨.PWR_CHECK, 30, 1⟩
def PWR_CHECK.REASON : Fld := ⟨.PWR_CHECK, 0, 8⟩
def PWR_STATUS.FEED_A : Fld := ⟨.PWR_STATUS, 31, 1⟩
def PWR_STATUS.FEED_B : Fld := ⟨.PWR_STATUS, 30, 1⟩
def PWR_STATUS.HOLDUP : Fld := ⟨.PWR_STATUS, 29, 1⟩
def PWR_STATUS.BAK_SRC : Fld := ⟨.PWR_STATUS, 27, 2⟩
def PWR_STATUS.BAK_READY : Fld := ⟨.PWR_STATUS, 26, 1⟩
def PWR_STATUS.OVERV : Fld := ⟨.PWR_STATUS, 25, 1⟩
def PWR_STATUS.REVERSE : Fld := ⟨.PWR_STATUS, 24, 1⟩
def PWR_FEED_A.VOLT : Fld := ⟨.PWR_FEED_A, 16, 16⟩
def PWR_FEED_A.CURR : Fld := ⟨.PWR_FEED_A, 0, 16⟩
def PWR_FEED_B.VOLT : Fld := ⟨.PWR_FEED_B, 16, 16⟩
def PWR_FEED_B.CURR : Fld := ⟨.PWR_FEED_B, 0, 16⟩
def PWR_BAK.SCAP : Fld := ⟨.PWR_BAK, 16, 16⟩
def PWR_BAK.VBAK : Fld := ⟨.PWR_BAK, 0, 16⟩
def PWR_DOM_LO.ON : Fld := ⟨.PWR_DOM_LO, 0, 32⟩
def PWR_DOM_HI.ON : Fld := ⟨.PWR_DOM_HI, 0, 32⟩
def PWR_WAKE_EN.TIMER : Fld := ⟨.PWR_WAKE_EN, 18, 1⟩
def PWR_WAKE_EN.PERST : Fld := ⟨.PWR_WAKE_EN, 17, 1⟩
def PWR_WAKE_EN.PPS : Fld := ⟨.PWR_WAKE_EN, 16, 1⟩
def PWR_WAKE_EN.GPIO : Fld := ⟨.PWR_WAKE_EN, 0, 16⟩
def PWR_WAKE_TIMER.SECONDS : Fld := ⟨.PWR_WAKE_TIMER, 0, 32⟩
def PWR_WAKE_CAUSE.CAUSE : Fld := ⟨.PWR_WAKE_CAUSE, 28, 4⟩
def PWR_WAKE_CAUSE.GPIO : Fld := ⟨.PWR_WAKE_CAUSE, 0, 4⟩
def PWR_IO.SLEW33 : Fld := ⟨.PWR_IO, 2, 2⟩
def PWR_IO.SLEW18 : Fld := ⟨.PWR_IO, 0, 2⟩
def PWR_EVT.BAK_LOW : Fld := ⟨.PWR_EVT, 6, 1⟩
def PWR_EVT.BAK_READY : Fld := ⟨.PWR_EVT, 5, 1⟩
def PWR_EVT.OVERVOLT : Fld := ⟨.PWR_EVT, 4, 1⟩
def PWR_EVT.HOLDUP : Fld := ⟨.PWR_EVT, 3, 1⟩
def PWR_EVT.FEED_RESTORED : Fld := ⟨.PWR_EVT, 2, 1⟩
def PWR_EVT.FEED_B_LOST : Fld := ⟨.PWR_EVT, 1, 1⟩
def PWR_EVT.FEED_A_LOST : Fld := ⟨.PWR_EVT, 0, 1⟩
def PWR_EVT_EN.ALL : Fld := ⟨.PWR_EVT_EN, 0, 7⟩
def CLK_SSC.RATE : Fld := ⟨.CLK_SSC, 16, 2⟩
def CLK_SSC.C : Fld := ⟨.CLK_SSC, 8, 4⟩
def CLK_SSC.K : Fld := ⟨.CLK_SSC, 4, 4⟩
def CLK_SSC.D : Fld := ⟨.CLK_SSC, 0, 4⟩
def CLK_CHECK.BUSY : Fld := ⟨.CLK_CHECK, 31, 1⟩
def CLK_CHECK.OK : Fld := ⟨.CLK_CHECK, 30, 1⟩
def CLK_CHECK.REASON : Fld := ⟨.CLK_CHECK, 0, 8⟩
def CLK_STATUS.REFC_OK : Fld := ⟨.CLK_STATUS, 31, 1⟩
def CLK_STATUS.REFL_OK : Fld := ⟨.CLK_STATUS, 30, 1⟩
def CLK_STATUS.REFP_OK : Fld := ⟨.CLK_STATUS, 29, 1⟩
def CLK_STATUS.D_LOCK : Fld := ⟨.CLK_STATUS, 28, 1⟩
def CLK_STATUS.K_LOCK : Fld := ⟨.CLK_STATUS, 27, 1⟩
def CLK_STATUS.C_LOCK : Fld := ⟨.CLK_STATUS, 26, 1⟩
def CLK_STATUS.CORE_REF : Fld := ⟨.CLK_STATUS, 24, 2⟩
def CLK_EVT.HOLDOVER : Fld := ⟨.CLK_EVT, 4, 1⟩
def CLK_EVT.PLL_UNLOCK : Fld := ⟨.CLK_EVT, 3, 1⟩
def CLK_EVT.REFP_LOST : Fld := ⟨.CLK_EVT, 2, 1⟩
def CLK_EVT.REFL_LOST : Fld := ⟨.CLK_EVT, 1, 1⟩
def CLK_EVT.REFC_LOST : Fld := ⟨.CLK_EVT, 0, 1⟩
def CLK_EVT_EN.ALL : Fld := ⟨.CLK_EVT_EN, 0, 5⟩
def CLK_MEAS.KHZ : Fld := ⟨.CLK_MEAS, 0, 22⟩
def SILO_CHECK.BUSY : Fld := ⟨.SILO_CHECK, 31, 1⟩
def SILO_CHECK.OK : Fld := ⟨.SILO_CHECK, 30, 1⟩
def SILO_CHECK.REASON : Fld := ⟨.SILO_CHECK, 0, 8⟩
def SILO_STATUS.STATE : Fld := ⟨.SILO_STATUS, 30, 2⟩
def SILO_STATUS.ENROLLED : Fld := ⟨.SILO_STATUS, 29, 1⟩
def SILO_STATUS.IDENTITY : Fld := ⟨.SILO_STATUS, 28, 1⟩
def SILO_STATUS.ALARM_LATCH : Fld := ⟨.SILO_STATUS, 27, 1⟩
def SILO_STATUS.ENTROPY : Fld := ⟨.SILO_STATUS, 26, 1⟩
def SILO_STATUS.IMPORT_KEYS : Fld := ⟨.SILO_STATUS, 0, 4⟩
def SILO_RESP_LEN.BYTES : Fld := ⟨.SILO_RESP_LEN, 0, 16⟩
def SILO_EVT.ALARM : Fld := ⟨.SILO_EVT, 4, 1⟩
def SILO_EVT.RECORD_REJECTED : Fld := ⟨.SILO_EVT, 3, 1⟩
def SILO_EVT.ENTROPY_SRC_FAIL : Fld := ⟨.SILO_EVT, 2, 1⟩
def SILO_EVT.PEER_CHANGED : Fld := ⟨.SILO_EVT, 1, 1⟩
def SILO_EVT.DONE : Fld := ⟨.SILO_EVT, 0, 1⟩
def SILO_EVT_EN.ALL : Fld := ⟨.SILO_EVT_EN, 0, 5⟩
def SILO_TAMPER.LOOP : Fld := ⟨.SILO_TAMPER, 8, 4⟩
def SILO_TAMPER.ZEROIZE : Fld := ⟨.SILO_TAMPER, 5, 1⟩
def SILO_TAMPER.CLOCK : Fld := ⟨.SILO_TAMPER, 4, 1⟩
def SILO_TAMPER.TEMP : Fld := ⟨.SILO_TAMPER, 3, 1⟩
def SILO_TAMPER.VOLT : Fld := ⟨.SILO_TAMPER, 2, 1⟩
def SILO_TAMPER.LIGHT : Fld := ⟨.SILO_TAMPER, 1, 1⟩
def SILO_TAMPER.MESH : Fld := ⟨.SILO_TAMPER, 0, 1⟩
def SILO_TAMPER_CAUSE.CAUSE : Fld := ⟨.SILO_TAMPER_CAUSE, 24, 8⟩
def SILO_TAMPER_CAUSE.LOOP : Fld := ⟨.SILO_TAMPER_CAUSE, 16, 4⟩
def SILO_LOOP_CFG.ARMED : Fld := ⟨.SILO_LOOP_CFG, 0, 4⟩
def SILO_PINS.CHANGED : Fld := ⟨.SILO_PINS, 16, 11⟩
def SILO_PINS.PINNED : Fld := ⟨.SILO_PINS, 0, 11⟩
def SILO_ZCOUNT.COUNT : Fld := ⟨.SILO_ZCOUNT, 0, 16⟩
def HLTH_LANE_SEL.LANE : Fld := ⟨.HLTH_LANE_SEL, 0, 7⟩
def HLTH_LANE_SEL_ERR.ERR : Fld := ⟨.HLTH_LANE_SEL_ERR, 0, 1⟩
def HLTH_CFG.TEMP_WARN : Fld := ⟨.HLTH_CFG, 16, 8⟩
def HLTH_CFG.WARN_DAYS : Fld := ⟨.HLTH_CFG, 0, 16⟩
def HLTH_STATUS.PAST_EOL : Fld := ⟨.HLTH_STATUS, 8, 8⟩
def HLTH_STATUS.STALE : Fld := ⟨.HLTH_STATUS, 0, 8⟩
def HLTH_EOL.GRADE : Fld := ⟨.HLTH_EOL, 30, 2⟩
def HLTH_EOL.IND : Fld := ⟨.HLTH_EOL, 16, 3⟩
def HLTH_EOL.DAYS : Fld := ⟨.HLTH_EOL, 0, 16⟩
def HLTH_EVT.OVERTEMP : Fld := ⟨.HLTH_EVT, 5, 1⟩
def HLTH_EVT.TEMP_WARN : Fld := ⟨.HLTH_EVT, 4, 1⟩
def HLTH_EVT.STALE : Fld := ⟨.HLTH_EVT, 3, 1⟩
def HLTH_EVT.DAYS_LOW : Fld := ⟨.HLTH_EVT, 2, 1⟩
def HLTH_EVT.EOL : Fld := ⟨.HLTH_EVT, 1, 1⟩
def HLTH_EVT.WARN : Fld := ⟨.HLTH_EVT, 0, 1⟩
def HLTH_EVT_EN.ALL : Fld := ⟨.HLTH_EVT_EN, 0, 6⟩
def HLTH_CONS.PPM : Fld := ⟨.HLTH_CONS, 0, 32⟩
def HLTH_PRED.GRADE : Fld := ⟨.HLTH_PRED, 30, 2⟩
def HLTH_PRED.DAYS : Fld := ⟨.HLTH_PRED, 0, 16⟩
def HLTH_TEMP.MAX : Fld := ⟨.HLTH_TEMP, 16, 16⟩
def HLTH_TEMP.CUR : Fld := ⟨.HLTH_TEMP, 0, 16⟩
def HLTH_RAIL.VOLT : Fld := ⟨.HLTH_RAIL, 16, 16⟩
def HLTH_RAIL.CURR : Fld := ⟨.HLTH_RAIL, 0, 16⟩
def HLTH_TCYC.COUNT : Fld := ⟨.HLTH_TCYC, 0, 32⟩
def HLTH_EYE.V : Fld := ⟨.HLTH_EYE, 24, 8⟩
def HLTH_EYE.H : Fld := ⟨.HLTH_EYE, 16, 8⟩
def HLTH_EYE.BASE_V : Fld := ⟨.HLTH_EYE, 8, 8⟩
def HLTH_EYE.VALID : Fld := ⟨.HLTH_EYE, 0, 1⟩
def GLB_PARTID.PART : Fld := ⟨.GLB_PARTID, 16, 16⟩
def GLB_PARTID.VARIANT : Fld := ⟨.GLB_PARTID, 12, 4⟩
def GLB_PARTID.REV_MAJOR : Fld := ⟨.GLB_PARTID, 4, 4⟩
def GLB_PARTID.REV_MINOR : Fld := ⟨.GLB_PARTID, 0, 4⟩
def GLB_CAP.SLICES : Fld := ⟨.GLB_CAP, 26, 6⟩
def GLB_CAP.COMPL : Fld := ⟨.GLB_CAP, 25, 1⟩
def GLB_CAP.DMA : Fld := ⟨.GLB_CAP, 16, 8⟩
def GLB_CAP.CHANNELS : Fld := ⟨.GLB_CAP, 0, 15⟩
def GLB_IFVER_SUP.V1_OK : Fld := ⟨.GLB_IFVER_SUP, 8, 1⟩
def GLB_IFVER_SUP.V2 : Fld := ⟨.GLB_IFVER_SUP, 1, 1⟩
def GLB_IFVER_SUP.V1 : Fld := ⟨.GLB_IFVER_SUP, 0, 1⟩
def GLB_IFVER_SEL.VER : Fld := ⟨.GLB_IFVER_SEL, 0, 2⟩
def GLB_VER.HS_MAX : Fld := ⟨.GLB_VER, 28, 4⟩
def GLB_VER.BALE_MAX : Fld := ⟨.GLB_VER, 24, 4⟩
def GLB_VER.OTN_SEAL : Fld := ⟨.GLB_VER, 20, 4⟩
def GLB_VER.FAB_MAX : Fld := ⟨.GLB_VER, 16, 4⟩
def GLB_VER.FAB_FLOOR : Fld := ⟨.GLB_VER, 12, 4⟩
def GLB_VER.SUITE_FLOOR : Fld := ⟨.GLB_VER, 8, 4⟩
def GLB_VER.SHF_FORMAT : Fld := ⟨.GLB_VER, 4, 4⟩
def GLB_VER.LEG_VIEW : Fld := ⟨.GLB_VER, 2, 1⟩
def GLB_VER.LEG_BALE : Fld := ⟨.GLB_VER, 1, 1⟩
def GLB_VER.SUITE_31 : Fld := ⟨.GLB_VER, 0, 1⟩
def GLB_MODE.TRANS : Fld := ⟨.GLB_MODE, 31, 1⟩
def GLB_MODE.TARGET : Fld := ⟨.GLB_MODE, 16, 4⟩
def GLB_MODE.MODE : Fld := ⟨.GLB_MODE, 0, 4⟩
def GLB_MODE_CHECK.BUSY : Fld := ⟨.GLB_MODE_CHECK, 31, 1⟩
def GLB_MODE_CHECK.OK : Fld := ⟨.GLB_MODE_CHECK, 30, 1⟩
def GLB_MODE_CHECK.REASON : Fld := ⟨.GLB_MODE_CHECK, 0, 8⟩
def GLB_EVT.HOST_ERR : Fld := ⟨.GLB_EVT, 2, 1⟩
def GLB_EVT.REFUSAL : Fld := ⟨.GLB_EVT, 1, 1⟩
def GLB_EVT.MODE : Fld := ⟨.GLB_EVT, 0, 1⟩
def GLB_EVT_EN.ALL : Fld := ⟨.GLB_EVT_EN, 0, 3⟩
def GLB_LASTREF.BLOCK : Fld := ⟨.GLB_LASTREF, 24, 8⟩
def GLB_LASTREF.MASTER : Fld := ⟨.GLB_LASTREF, 16, 8⟩
def GLB_LASTREF.REASON : Fld := ⟨.GLB_LASTREF, 0, 8⟩
def GLB_LASTREF_INST.INST : Fld := ⟨.GLB_LASTREF_INST, 0, 16⟩
def GLB_HOST_ERR.VALID : Fld := ⟨.GLB_HOST_ERR, 31, 1⟩
def GLB_HOST_ERR.DIR : Fld := ⟨.GLB_HOST_ERR, 30, 1⟩
def GLB_HOST_ERR.RESP : Fld := ⟨.GLB_HOST_ERR, 28, 2⟩
def GLB_HOST_ERRADDR.BAR : Fld := ⟨.GLB_HOST_ERRADDR, 31, 1⟩
def GLB_HOST_ERRADDR.OFFSET : Fld := ⟨.GLB_HOST_ERRADDR, 0, 26⟩
def GLB_BAR2_APER.BASE : Fld := ⟨.GLB_BAR2_APER, 0, 9⟩
def GLB_PCIE_STATUS.SPEED : Fld := ⟨.GLB_PCIE_STATUS, 24, 4⟩
def GLB_PCIE_STATUS.WIDTH : Fld := ⟨.GLB_PCIE_STATUS, 20, 4⟩
def GLB_PCIE_STATUS.LINK_UP : Fld := ⟨.GLB_PCIE_STATUS, 19, 1⟩
def GLB_PCIE_STATUS.MSIX_EN : Fld := ⟨.GLB_PCIE_STATUS, 18, 1⟩
def GLB_PCIE_STATUS.FN_MASK : Fld := ⟨.GLB_PCIE_STATUS, 17, 1⟩
def GLB_PCIE_EVT.FLR : Fld := ⟨.GLB_PCIE_EVT, 2, 1⟩
def GLB_PCIE_EVT.HOT_RESET : Fld := ⟨.GLB_PCIE_EVT, 1, 1⟩
def GLB_PCIE_EVT.LINK_DOWN : Fld := ⟨.GLB_PCIE_EVT, 0, 1⟩
def GLB_PCIE_EVT_EN.ALL : Fld := ⟨.GLB_PCIE_EVT_EN, 0, 3⟩
def GLB_GPIO_DIR.GPIO : Fld := ⟨.GLB_GPIO_DIR, 0, 16⟩
def GLB_GPIO_OUT.GPIO : Fld := ⟨.GLB_GPIO_OUT, 0, 16⟩
def GLB_GPIO_IN.GPIO : Fld := ⟨.GLB_GPIO_IN, 0, 16⟩
def GLB_ALARM.RLY1 : Fld := ⟨.GLB_ALARM, 1, 1⟩
def GLB_ALARM.RLY0 : Fld := ⟨.GLB_ALARM, 0, 1⟩
def GLB_TOD_CFG.PPS_OUT_WIDTH : Fld := ⟨.GLB_TOD_CFG, 8, 8⟩
def GLB_TOD_CFG.PPS_OUT_EN : Fld := ⟨.GLB_TOD_CFG, 3, 1⟩
def GLB_TOD_CFG.TOD_TX_EN : Fld := ⟨.GLB_TOD_CFG, 2, 1⟩
def GLB_TOD_CFG.TOD_RX_EN : Fld := ⟨.GLB_TOD_CFG, 1, 1⟩
def GLB_TOD_CFG.PPS_IN_EN : Fld := ⟨.GLB_TOD_CFG, 0, 1⟩
def GLB_TOD_STATUS.LOCKED : Fld := ⟨.GLB_TOD_STATUS, 31, 1⟩
def GLB_TOD_STATUS.LAST_ERR : Fld := ⟨.GLB_TOD_STATUS, 0, 16⟩
def GLB_TOD_EVT.STEP : Fld := ⟨.GLB_TOD_EVT, 3, 1⟩
def GLB_TOD_EVT.PPS_LOST : Fld := ⟨.GLB_TOD_EVT, 2, 1⟩
def GLB_TOD_EVT.TOD_ERR : Fld := ⟨.GLB_TOD_EVT, 1, 1⟩
def GLB_TOD_EVT.TOD_OK : Fld := ⟨.GLB_TOD_EVT, 0, 1⟩
def GLB_TOD_EVT_EN.ALL : Fld := ⟨.GLB_TOD_EVT_EN, 0, 4⟩

/-- The 64-bit counters that stand in register blocks (R79, R250, R252, R291, R411, R443, R465, R513, R548). `CH_PORTCNT`
has one copy per port (R169) and `SILO_HS` one per reason (R513). -/
inductive Ctr where
  | PORT_FEC_CORR | PORT_FEC_UNCORR | PORT_FEC_SYM | PORT_FCS_ERR | PORT_EXP_DROP | PORT_PAUSE_TX | PORT_PAUSE_RX | PORT_CTL_DROP | PORT_RX_FRAMES | PORT_TX_FRAMES
  | FAB_TX_FRAMES | FAB_RX_FRAMES | FAB_RX_DROP_FULL | FAB_RX_DROP_POLICE | FAB_RX_DROP_FMT | FAB_RX_DROP_TAG | FAB_FWD_DROP | FAB_TX_DROP
  | TWN_MIRROR_TX | TWN_MIRROR_RX | TWN_ROLE_CHANGES | TWN_LINK_ERR
  | ENG_CYCLES | ENG_BUNDLES | ENG_STALL_FETCH | ENG_STALL_BANK | ENG_STALL_BLOCK | ENG_STALL_UNIT | ENG_STALL_STREAM | ENG_BRANCHES | ENG_MISPRED | ENG_FETCH_DISCARD | ENG_LOOPBUF | ENG_UNITS_LOST | ENG_IRQ_TAKEN | ENG_EXC_TAKEN
  | MEM_CE | MEM_UE | MEM_SCRUB_CE | MEM_DP_DISCARD
  | DMA_DESC_DONE | DMA_BYTES
  | EVC_MERGED | EVC_BADCOMP | EVC_SPURIOUS | EVC_STORMS | EVC_ORPHANED
  | GLB_REFUSALS | GLB_HOST_ERRS
  | CH_PORTCNT | SILO_HS
  deriving DecidableEq, Repr

/-- Block, reach, offset of the LO word and number of copies of a counter. -/
def Ctr.info : Ctr → Blk × RegClass × Nat × Nat
  | .PORT_FEC_CORR => (.PORT, .window, 0x200, 1)
  | .PORT_FEC_UNCORR => (.PORT, .window, 0x208, 1)
  | .PORT_FEC_SYM => (.PORT, .window, 0x210, 1)
  | .PORT_FCS_ERR => (.PORT, .window, 0x218, 1)
  | .PORT_EXP_DROP => (.PORT, .window, 0x220, 1)
  | .PORT_PAUSE_TX => (.PORT, .window, 0x228, 1)
  | .PORT_PAUSE_RX => (.PORT, .window, 0x230, 1)
  | .PORT_CTL_DROP => (.PORT, .window, 0x238, 1)
  | .PORT_RX_FRAMES => (.PORT, .window, 0x240, 1)
  | .PORT_TX_FRAMES => (.PORT, .window, 0x248, 1)
  | .FAB_TX_FRAMES => (.FAB, .window, 0x200, 1)
  | .FAB_RX_FRAMES => (.FAB, .window, 0x208, 1)
  | .FAB_RX_DROP_FULL => (.FAB, .window, 0x210, 1)
  | .FAB_RX_DROP_POLICE => (.FAB, .window, 0x218, 1)
  | .FAB_RX_DROP_FMT => (.FAB, .window, 0x220, 1)
  | .FAB_RX_DROP_TAG => (.FAB, .window, 0x228, 1)
  | .FAB_FWD_DROP => (.FAB, .window, 0x230, 1)
  | .FAB_TX_DROP => (.FAB, .window, 0x238, 1)
  | .TWN_MIRROR_TX => (.TWN, .one, 0x100, 1)
  | .TWN_MIRROR_RX => (.TWN, .one, 0x108, 1)
  | .TWN_ROLE_CHANGES => (.TWN, .one, 0x110, 1)
  | .TWN_LINK_ERR => (.TWN, .one, 0x118, 1)
  | .ENG_CYCLES => (.ENG, .window, 0x200, 1)
  | .ENG_BUNDLES => (.ENG, .window, 0x208, 1)
  | .ENG_STALL_FETCH => (.ENG, .window, 0x210, 1)
  | .ENG_STALL_BANK => (.ENG, .window, 0x218, 1)
  | .ENG_STALL_BLOCK => (.ENG, .window, 0x220, 1)
  | .ENG_STALL_UNIT => (.ENG, .window, 0x228, 1)
  | .ENG_STALL_STREAM => (.ENG, .window, 0x230, 1)
  | .ENG_BRANCHES => (.ENG, .window, 0x238, 1)
  | .ENG_MISPRED => (.ENG, .window, 0x240, 1)
  | .ENG_FETCH_DISCARD => (.ENG, .window, 0x248, 1)
  | .ENG_LOOPBUF => (.ENG, .window, 0x250, 1)
  | .ENG_UNITS_LOST => (.ENG, .window, 0x258, 1)
  | .ENG_IRQ_TAKEN => (.ENG, .window, 0x260, 1)
  | .ENG_EXC_TAKEN => (.ENG, .window, 0x268, 1)
  | .MEM_CE => (.MEM, .window, 0x200, 1)
  | .MEM_UE => (.MEM, .window, 0x208, 1)
  | .MEM_SCRUB_CE => (.MEM, .window, 0x210, 1)
  | .MEM_DP_DISCARD => (.MEM, .window, 0x218, 1)
  | .DMA_DESC_DONE => (.DMA, .window, 0x200, 1)
  | .DMA_BYTES => (.DMA, .window, 0x208, 1)
  | .EVC_MERGED => (.EVC, .one, 0x100, 1)
  | .EVC_BADCOMP => (.EVC, .one, 0x108, 1)
  | .EVC_SPURIOUS => (.EVC, .one, 0x110, 1)
  | .EVC_STORMS => (.EVC, .one, 0x118, 1)
  | .EVC_ORPHANED => (.EVC, .one, 0x120, 1)
  | .GLB_REFUSALS => (.GLB, .one, 0x100, 1)
  | .GLB_HOST_ERRS => (.GLB, .one, 0x108, 1)
  | .CH_PORTCNT => (.CH, .table, 0x1000, 64)
  | .SILO_HS => (.SILO, .table, 0x100, 22)

/-- Every counter. -/
def Ctr.all : List Ctr := (List.range 51).map Ctr.ofNat

end Sys2Proof.Machine
end

