-- ==== Sys2Proof/Machine/RegTable.lean ====
section
/-! DEFINITION. The register tables: where each register stands, how it is accessed, which bits software writes and
what it holds at reset. -/

namespace Sys2Proof.Machine

/-- One row of a register table. -/
structure RegInfo where
  blk : Blk
  off : Nat
  count : Nat
  stride : Nat
  cls : RegClass
  acc : Access
  /-- Bits that software writes (RW) or clears by writing 1 (W1C). -/
  wmask : Nat
  /-- Reset value; CH_REMAP resets to the channel's own number. -/
  reset : Nat
  /-- Kept over a warm reset (R482, R488, R489, R512, R530). -/
  retained : Bool
  deriving DecidableEq, Repr

/-- The tables of R71, R170, R250, R252, R290, R384, R410, R442, R463, R489, R490, R512, R529 and R547. -/
def Reg.info : Reg → RegInfo
  | .PORT_SEL => ⟨.PORT, 0x0, 1, 4, .perMaster, .rw, 0x3F, 0, false⟩
  | .PORT_SEL_ERR => ⟨.PORT, 0x4, 1, 4, .perMaster, .w1c, 0x1, 0, false⟩
  | .PORT_CFG => ⟨.PORT, 0x100, 1, 4, .window, .rw, 0x3F013B, 0, false⟩
  | .PORT_CTL => ⟨.PORT, 0x104, 1, 4, .window, .rw, 0x301, 0, false⟩
  | .PORT_CHECK => ⟨.PORT, 0x108, 1, 4, .perMaster, .ro, 0x0, 0, false⟩
  | .PORT_STATUS => ⟨.PORT, 0x10C, 1, 4, .window, .ro, 0x0, 0, false⟩
  | .PORT_EVT => ⟨.PORT, 0x110, 1, 4, .window, .w1c, 0xFF, 0, false⟩
  | .PORT_EVT_EN => ⟨.PORT, 0x114, 1, 4, .window, .rw, 0xFF, 0, false⟩
  | .PORT_LANE_POL => ⟨.PORT, 0x118, 1, 4, .window, .rw, 0xFFFF, 0, false⟩
  | .PORT_TX_MAP => ⟨.PORT, 0x11C, 1, 4, .window, .rw, 0xFFFFFF, 0xfac688, false⟩
  | .PORT_RX_MAP => ⟨.PORT, 0x120, 1, 4, .window, .rw, 0xFFFFFF, 0xfac688, false⟩
  | .PORT_HOLD => ⟨.PORT, 0x124, 1, 4, .window, .rw, 0x3FF03FF, 0, false⟩
  | .PORT_FC => ⟨.PORT, 0x128, 1, 4, .window, .rw, 0x300FF, 0, false⟩
  | .PORT_EXP_LIMIT => ⟨.PORT, 0x12C, 1, 4, .window, .rw, 0x3FFF, 0x600, false⟩
  | .PORT_XOFF => ⟨.PORT, 0x130, 1, 4, .window, .rw, 0x3FFF, 0x500, false⟩
  | .PORT_XON => ⟨.PORT, 0x134, 1, 4, .window, .rw, 0x3FFF, 0x400, false⟩
  | .PORT_EXP_OCC => ⟨.PORT, 0x138, 1, 4, .window, .ro, 0x0, 0, false⟩
  | .PORT_TXEQ => ⟨.PORT, 0x140, 8, 4, .window, .rw, 0xFFFFFF, 0x6c00, false⟩
  | .PORT_CNT_CLR => ⟨.PORT, 0x250, 1, 4, .window, .wo, 0x0, 0, false⟩
  | .CH_SEL => ⟨.CH, 0x0, 1, 4, .perMaster, .rw, 0xFFFF, 0, false⟩
  | .CH_SEL_ERR => ⟨.CH, 0x4, 1, 4, .perMaster, .w1c, 0x1, 0, false⟩
  | .CH_CTL => ⟨.CH, 0x100, 1, 4, .window, .rw, 0x1, 0, false⟩
  | .CH_CHECK => ⟨.CH, 0x104, 1, 4, .perMaster, .ro, 0x0, 0, false⟩
  | .CH_STATUS => ⟨.CH, 0x108, 1, 4, .window, .ro, 0x0, 0, false⟩
  | .CH_EVT => ⟨.CH, 0x10C, 1, 4, .window, .w1c, 0xFFF, 0, false⟩
  | .CH_EVT_EN => ⟨.CH, 0x110, 1, 4, .window, .rw, 0xFFF, 0, false⟩
  | .CH_REMAP => ⟨.CH, 0x114, 1, 4, .window, .ro, 0x0, 0, false⟩
  | .CH_CNT_CLR => ⟨.CH, 0x118, 1, 4, .window, .wo, 0x0, 0, false⟩
  | .CH_SPARE => ⟨.CH, 0x1200, 1, 4, .one, .ro, 0x0, 0x400, false⟩
  | .CH_EVT_SUM => ⟨.CH, 0x2000, 512, 4, .table, .derived, 0x0, 0, false⟩
  | .FAB_LINK_SEL => ⟨.FAB, 0x0, 1, 4, .perMaster, .rw, 0x3F, 0, false⟩
  | .FAB_LINK_SEL_ERR => ⟨.FAB, 0x4, 1, 4, .perMaster, .w1c, 0x1, 0, false⟩
  | .FAB_CFG => ⟨.FAB, 0x8, 1, 4, .one, .rw, 0x80000FFF, 0, false⟩
  | .FAB_CTL => ⟨.FAB, 0xC, 1, 4, .one, .wo, 0x0, 0, false⟩
  | .FAB_CHECK => ⟨.FAB, 0x10, 1, 4, .perMaster, .ro, 0x0, 0, false⟩
  | .FAB_STATUS => ⟨.FAB, 0x14, 1, 4, .one, .ro, 0x0, 0x400000, false⟩
  | .FAB_NODES => ⟨.FAB, 0x18, 1, 4, .one, .ro, 0x0, 0, false⟩
  | .FAB_EVT => ⟨.FAB, 0x1C, 1, 4, .one, .w1c, 0x1FF, 0, false⟩
  | .FAB_EVT_EN => ⟨.FAB, 0x20, 1, 4, .one, .rw, 0x1FF, 0, false⟩
  | .FAB_LINK_STATUS => ⟨.FAB, 0x100, 1, 4, .window, .ro, 0x0, 0, false⟩
  | .FAB_LINK_NEIGH => ⟨.FAB, 0x104, 2, 4, .window, .ro, 0x0, 0, false⟩
  | .FAB_LINK_TITHE => ⟨.FAB, 0x10C, 1, 4, .window, .ro, 0x0, 0, false⟩
  | .FAB_ROUTE => ⟨.FAB, 0x4000, 4096, 4, .table, .rw, 0xC03F003F, 0, false⟩
  | .TWN_CFG => ⟨.TWN, 0x0, 1, 4, .one, .rw, 0xF10F000F, 0, false⟩
  | .TWN_CTL => ⟨.TWN, 0x4, 1, 4, .one, .wo, 0x0, 0, false⟩
  | .TWN_CHECK => ⟨.TWN, 0x8, 1, 4, .perMaster, .ro, 0x0, 0, false⟩
  | .TWN_STATUS => ⟨.TWN, 0xC, 1, 4, .one, .ro, 0x0, 0, false⟩
  | .TWN_PARTNER => ⟨.TWN, 0x10, 2, 4, .table, .ro, 0x0, 0, false⟩
  | .TWN_EVT => ⟨.TWN, 0x18, 1, 4, .one, .w1c, 0xFF, 0, false⟩
  | .TWN_EVT_EN => ⟨.TWN, 0x1C, 1, 4, .one, .rw, 0xFF, 0, false⟩
  | .TWN_LAST_FO => ⟨.TWN, 0x20, 1, 4, .one, .ro, 0x0, 0, false⟩
  | .TWN_LAG => ⟨.TWN, 0x24, 1, 4, .one, .ro, 0x0, 0, false⟩
  | .ENG_SEL => ⟨.ENG, 0x0, 1, 4, .perMaster, .rw, 0x7F, 0, false⟩
  | .ENG_SEL_ERR => ⟨.ENG, 0x4, 1, 4, .perMaster, .w1c, 0x1, 0, false⟩
  | .ENG_CTL => ⟨.ENG, 0x100, 1, 4, .window, .wo, 0x0, 0, false⟩
  | .ENG_STATUS => ⟨.ENG, 0x104, 1, 4, .window, .ro, 0x0, 0, false⟩
  | .ENG_EXC => ⟨.ENG, 0x108, 1, 4, .window, .ro, 0x0, 0, false⟩
  | .ENG_EXC_PC => ⟨.ENG, 0x10C, 1, 4, .window, .ro, 0x0, 0, false⟩
  | .ENG_EVT => ⟨.ENG, 0x110, 1, 4, .window, .w1c, 0xF, 0, false⟩
  | .ENG_EVT_EN => ⟨.ENG, 0x114, 1, 4, .window, .rw, 0xF, 0, false⟩
  | .ENG_UNITS => ⟨.ENG, 0x118, 1, 4, .window, .ro, 0x0, 0, false⟩
  | .SHF_CTL => ⟨.SHF, 0x0, 1, 4, .one, .wo, 0x0, 0, false⟩
  | .SHF_CHECK => ⟨.SHF, 0x4, 1, 4, .perMaster, .ro, 0x0, 0, false⟩
  | .SHF_STATUS => ⟨.SHF, 0x8, 1, 4, .one, .ro, 0x0, 0, false⟩
  | .SHF_BOOT => ⟨.SHF, 0xC, 1, 4, .one, .ro, 0x0, 0, false⟩
  | .SHF_SVN => ⟨.SHF, 0x10, 1, 4, .one, .ro, 0x0, 0, false⟩
  | .SHF_FLOOR => ⟨.SHF, 0x14, 1, 4, .one, .derived, 0x0, 0, false⟩
  | .SHF_FUSE => ⟨.SHF, 0x18, 1, 4, .one, .derived, 0x0, 0, false⟩
  | .SHF_DRAINED => ⟨.SHF, 0x1C, 1, 4, .one, .ro, 0x0, 0, false⟩
  | .SHF_SLICE_CODE => ⟨.SHF, 0x20, 1, 4, .one, .ro, 0x0, 0, false⟩
  | .SHF_EVT => ⟨.SHF, 0x24, 1, 4, .one, .w1c, 0x7F, 0, false⟩
  | .SHF_EVT_EN => ⟨.SHF, 0x28, 1, 4, .one, .rw, 0x7F, 0, false⟩
  | .SHF_DIGEST => ⟨.SHF, 0x40, 12, 4, .table, .ro, 0x0, 0, false⟩
  | .SHF_STAGED_DIGEST => ⟨.SHF, 0x70, 12, 4, .table, .ro, 0x0, 0, false⟩
  | .SHF_FL_SRC => ⟨.SHF, 0x100, 1, 4, .one, .rw, 0x7FFFFF, 0, false⟩
  | .SHF_FL_DST => ⟨.SHF, 0x104, 1, 4, .one, .rw, 0x7FFFFFF, 0, false⟩
  | .SHF_FL_LEN => ⟨.SHF, 0x108, 1, 4, .one, .rw, 0x7FFFFF, 0, false⟩
  | .SHF_FL_CMD => ⟨.SHF, 0x10C, 1, 4, .one, .wo, 0x0, 0, false⟩
  | .SHF_FL_STATUS => ⟨.SHF, 0x110, 1, 4, .one, .ro, 0x0, 0, false⟩
  | .MEM_SEL => ⟨.MEM, 0x0, 1, 4, .perMaster, .rw, 0x7F, 0, false⟩
  | .MEM_SEL_ERR => ⟨.MEM, 0x4, 1, 4, .perMaster, .w1c, 0x1, 0, false⟩
  | .MEM_CTL => ⟨.MEM, 0x100, 1, 4, .window, .wo, 0x0, 0, false⟩
  | .MEM_CHECK => ⟨.MEM, 0x104, 1, 4, .perMaster, .ro, 0x0, 0, false⟩
  | .MEM_CFG => ⟨.MEM, 0x108, 1, 4, .window, .rw, 0x100FFFF, 0, false⟩
  | .MEM_STATUS => ⟨.MEM, 0x10C, 1, 4, .window, .ro, 0x0, 0, false⟩
  | .MEM_EVT => ⟨.MEM, 0x110, 1, 4, .window, .w1c, 0x7F, 0, false⟩
  | .MEM_EVT_EN => ⟨.MEM, 0x114, 1, 4, .window, .rw, 0x7F, 0, false⟩
  | .MEM_OVF => ⟨.MEM, 0x118, 1, 4, .window, .w1c, 0x80000000, 0, false⟩
  | .MEM_LOG_CTL => ⟨.MEM, 0x11C, 1, 4, .window, .wo, 0x0, 0, false⟩
  | .MEM_FLIPMASK => ⟨.MEM, 0x120, 1, 4, .window, .rw, 0x3FFFF, 0, false⟩
  | .MEM_FLIPDATA => ⟨.MEM, 0x124, 2, 4, .window, .rw, 0xFFFFFFFF, 0, false⟩
  | .MEM_CAPACITY => ⟨.MEM, 0x12C, 1, 4, .window, .derived, 0x0, 0, false⟩
  | .MEM_BANKSZ => ⟨.MEM, 0x130, 3, 4, .window, .derived, 0x0, 0, false⟩
  | .MEM_RETIRED => ⟨.MEM, 0x13C, 1, 4, .window, .derived, 0x0, 0, false⟩
  | .MEM_FE => ⟨.MEM, 0x140, 4, 4, .window, .ro, 0x0, 0, false⟩
  | .MEM_LOG => ⟨.MEM, 0x150, 4, 4, .window, .derived, 0x0, 0, false⟩
  | .DMA_SEL => ⟨.DMA, 0x0, 1, 4, .perMaster, .rw, 0x3F, 0, false⟩
  | .DMA_SEL_ERR => ⟨.DMA, 0x4, 1, 4, .perMaster, .w1c, 0x1, 0, false⟩
  | .DMA_BUSY => ⟨.DMA, 0x8, 2, 4, .table, .derived, 0x0, 0, false⟩
  | .DMA_CH_CFG => ⟨.DMA, 0x100, 1, 4, .window, .rw, 0x11F, 3, false⟩
  | .DMA_CH_CTL => ⟨.DMA, 0x104, 1, 4, .window, .wo, 0x0, 0, false⟩
  | .DMA_CH_CHECK => ⟨.DMA, 0x108, 1, 4, .perMaster, .ro, 0x0, 0, false⟩
  | .DMA_CH_STATUS => ⟨.DMA, 0x10C, 1, 4, .window, .ro, 0x0, 0, false⟩
  | .DMA_CH_RING_LO => ⟨.DMA, 0x110, 1, 4, .window, .rw, 0xFFFFFFC0, 0, false⟩
  | .DMA_CH_RING_HI => ⟨.DMA, 0x114, 1, 4, .window, .rw, 0xFFFF, 0, false⟩
  | .DMA_CH_HEAD => ⟨.DMA, 0x118, 1, 4, .window, .rw, 0xFFFF, 0, false⟩
  | .DMA_CH_TAIL => ⟨.DMA, 0x11C, 1, 4, .window, .ro, 0x0, 0, false⟩
  | .DMA_CH_DOORBELL => ⟨.DMA, 0x120, 1, 4, .window, .wo, 0x0, 0, false⟩
  | .DMA_CH_EVT => ⟨.DMA, 0x124, 1, 4, .window, .w1c, 0x7F, 0, false⟩
  | .DMA_CH_EVT_EN => ⟨.DMA, 0x128, 1, 4, .window, .rw, 0x7F, 0, false⟩
  | .DMA_CH_ERRADDR_LO => ⟨.DMA, 0x12C, 1, 4, .window, .ro, 0x0, 0, false⟩
  | .DMA_CH_ERRADDR_HI => ⟨.DMA, 0x130, 1, 4, .window, .ro, 0x0, 0, false⟩
  | .DMA_CH_ERRINFO => ⟨.DMA, 0x134, 1, 4, .window, .ro, 0x0, 0, false⟩
  | .DMA_CH_POS_A => ⟨.DMA, 0x138, 1, 4, .window, .ro, 0x0, 0, false⟩
  | .DMA_CH_POS_B => ⟨.DMA, 0x13C, 1, 4, .window, .ro, 0x0, 0, false⟩
  | .EVC_CTL => ⟨.EVC, 0x0, 1, 4, .one, .rw, 0x7, 7, false⟩
  | .EVC_CHECK => ⟨.EVC, 0x4, 1, 4, .perMaster, .ro, 0x0, 0, false⟩
  | .EVC_STATUS => ⟨.EVC, 0x8, 1, 4, .one, .derived, 0x0, 0, false⟩
  | .EVC_EVT => ⟨.EVC, 0xC, 1, 4, .one, .w1c, 0x7, 0, false⟩
  | .EVC_EVT_EN => ⟨.EVC, 0x10, 1, 4, .one, .rw, 0x7, 0, false⟩
  | .EVC_SET => ⟨.EVC, 0x14, 1, 4, .one, .wo, 0x0, 0, false⟩
  | .EVC_HCOMPLETE => ⟨.EVC, 0x18, 1, 4, .one, .wo, 0x0, 0, false⟩
  | .EVC_IN_CFG => ⟨.EVC, 0x200, 17, 4, .table, .rw, 0x30F, 0, false⟩
  | .EVC_GRP => ⟨.EVC, 0x400, 64, 4, .table, .rw, 0xFFFF01FF, 0x10001, false⟩
  | .EVC_SRC_CFG => ⟨.EVC, 0x800, 512, 4, .table, .rw, 0x100103F7, 4, false⟩
  | .EVC_SRC_STATUS => ⟨.EVC, 0x1000, 512, 4, .table, .ro, 0x300, 0, false⟩
  | .EVC_PEND => ⟨.EVC, 0x1800, 16, 4, .table, .derived, 0x0, 0, false⟩
  | .EVC_HCLAIM => ⟨.EVC, 0x2000, 64, 4, .table, .derived, 0x0, 0x3ff, false⟩
  | .PWR_CFG => ⟨.PWR, 0x0, 1, 4, .one, .rw, 0xF01, 1, true⟩
  | .PWR_CHECK => ⟨.PWR, 0x4, 1, 4, .perMaster, .ro, 0x0, 0, false⟩
  | .PWR_STATUS => ⟨.PWR, 0x8, 1, 4, .one, .ro, 0x0, 0, true⟩
  | .PWR_FEED_A => ⟨.PWR, 0xC, 1, 4, .one, .ro, 0x0, 0, true⟩
  | .PWR_FEED_B => ⟨.PWR, 0x10, 1, 4, .one, .ro, 0x0, 0, true⟩
  | .PWR_BAK => ⟨.PWR, 0x14, 1, 4, .one, .ro, 0x0, 0, true⟩
  | .PWR_DOM_LO => ⟨.PWR, 0x18, 1, 4, .one, .derived, 0x0, 0, false⟩
  | .PWR_DOM_HI => ⟨.PWR, 0x1C, 1, 4, .one, .derived, 0x0, 0, false⟩
  | .PWR_WAKE_EN => ⟨.PWR, 0x20, 1, 4, .one, .rw, 0x7FFFF, 0, true⟩
  | .PWR_WAKE_TIMER => ⟨.PWR, 0x24, 1, 4, .one, .rw, 0xFFFFFFFF, 0, true⟩
  | .PWR_WAKE_CAUSE => ⟨.PWR, 0x28, 1, 4, .one, .ro, 0x0, 0, true⟩
  | .PWR_IO => ⟨.PWR, 0x2C, 1, 4, .one, .rw, 0xF, 0, false⟩
  | .PWR_EVT => ⟨.PWR, 0x30, 1, 4, .one, .w1c, 0x7F, 0, false⟩
  | .PWR_EVT_EN => ⟨.PWR, 0x34, 1, 4, .one, .rw, 0x7F, 0, false⟩
  | .CLK_SSC => ⟨.CLK, 0x0, 1, 4, .one, .rw, 0x30FFF, 0x10222, false⟩
  | .CLK_CHECK => ⟨.CLK, 0x4, 1, 4, .perMaster, .ro, 0x0, 0, false⟩
  | .CLK_STATUS => ⟨.CLK, 0x8, 1, 4, .one, .ro, 0x0, 0, true⟩
  | .CLK_EVT => ⟨.CLK, 0xC, 1, 4, .one, .w1c, 0x1F, 0, false⟩
  | .CLK_EVT_EN => ⟨.CLK, 0x10, 1, 4, .one, .rw, 0x1F, 0, false⟩
  | .CLK_MEAS => ⟨.CLK, 0x14, 3, 4, .table, .derived, 0x0, 0, false⟩
  | .CLK_RTC_LO => ⟨.CLK, 0x20, 1, 4, .one, .derived, 0x0, 0, false⟩
  | .CLK_RTC_HI => ⟨.CLK, 0x24, 1, 4, .one, .derived, 0x0, 0, false⟩
  | .SILO_CMD => ⟨.SILO, 0x0, 1, 4, .perMaster, .wo, 0x0, 0, false⟩
  | .SILO_CHECK => ⟨.SILO, 0x4, 1, 4, .perMaster, .ro, 0x0, 0, false⟩
  | .SILO_STATUS => ⟨.SILO, 0x8, 1, 4, .one, .derived, 0x0, 0, false⟩
  | .SILO_RESP_LEN => ⟨.SILO, 0xC, 1, 4, .perMaster, .ro, 0x0, 0, false⟩
  | .SILO_EVT => ⟨.SILO, 0x10, 1, 4, .one, .w1c, 0x1F, 0, false⟩
  | .SILO_EVT_EN => ⟨.SILO, 0x14, 1, 4, .one, .rw, 0x1F, 0, false⟩
  | .SILO_TAMPER => ⟨.SILO, 0x18, 1, 4, .one, .ro, 0x0, 0, true⟩
  | .SILO_TAMPER_CAUSE => ⟨.SILO, 0x1C, 1, 4, .one, .ro, 0x0, 0, true⟩
  | .SILO_TAMPER_TIME_LO => ⟨.SILO, 0x20, 1, 4, .one, .derived, 0x0, 0, true⟩
  | .SILO_TAMPER_TIME_HI => ⟨.SILO, 0x24, 1, 4, .one, .derived, 0x0, 0, true⟩
  | .SILO_LOOP_CFG => ⟨.SILO, 0x28, 1, 4, .one, .ro, 0x0, 0, true⟩
  | .SILO_PINS => ⟨.SILO, 0x2C, 1, 4, .one, .derived, 0x0, 0, false⟩
  | .SILO_SEQ_LO => ⟨.SILO, 0x30, 1, 4, .one, .derived, 0x0, 0, false⟩
  | .SILO_SEQ_HI => ⟨.SILO, 0x34, 1, 4, .one, .derived, 0x0, 0, false⟩
  | .SILO_ZCOUNT => ⟨.SILO, 0x38, 1, 4, .one, .ro, 0x0, 0, true⟩
  | .SILO_NODE => ⟨.SILO, 0x40, 2, 4, .table, .derived, 0x0, 0, false⟩
  | .SILO_OSD => ⟨.SILO, 0x48, 12, 4, .table, .derived, 0x0, 0, false⟩
  | .HLTH_LANE_SEL => ⟨.HLTH, 0x0, 1, 4, .perMaster, .rw, 0x7F, 0, false⟩
  | .HLTH_LANE_SEL_ERR => ⟨.HLTH, 0x4, 1, 4, .perMaster, .w1c, 0x1, 0, false⟩
  | .HLTH_CFG => ⟨.HLTH, 0x8, 1, 4, .one, .rw, 0xFFFFFF, 0x73016d, false⟩
  | .HLTH_STATUS => ⟨.HLTH, 0xC, 1, 4, .one, .ro, 0x0, 0, false⟩
  | .HLTH_EOL => ⟨.HLTH, 0x10, 1, 4, .one, .ro, 0x0, 0xffff, false⟩
  | .HLTH_EVT => ⟨.HLTH, 0x14, 1, 4, .one, .w1c, 0x3F, 0, false⟩
  | .HLTH_EVT_EN => ⟨.HLTH, 0x18, 1, 4, .one, .rw, 0x3F, 0, false⟩
  | .HLTH_CONS => ⟨.HLTH, 0x40, 8, 8, .table, .ro, 0x0, 0, true⟩
  | .HLTH_PRED => ⟨.HLTH, 0x44, 8, 8, .table, .rw, 0xC000FFFF, 0xffff, false⟩
  | .HLTH_TEMP => ⟨.HLTH, 0x80, 9, 4, .table, .ro, 0x0, 0, false⟩
  | .HLTH_RAIL => ⟨.HLTH, 0xC0, 8, 4, .table, .ro, 0x0, 0, false⟩
  | .HLTH_HOURS_LO => ⟨.HLTH, 0xE0, 1, 4, .one, .derived, 0x0, 0, false⟩
  | .HLTH_HOURS_HI => ⟨.HLTH, 0xE4, 1, 4, .one, .derived, 0x0, 0, false⟩
  | .HLTH_TCYC => ⟨.HLTH, 0xE8, 1, 4, .one, .ro, 0x0, 0, true⟩
  | .HLTH_EYE => ⟨.HLTH, 0x100, 1, 4, .window, .ro, 0x0, 0, false⟩
  | .GLB_PARTID => ⟨.GLB, 0x0, 1, 4, .one, .derived, 0x0, 0, false⟩
  | .GLB_CAP => ⟨.GLB, 0x4, 1, 4, .one, .derived, 0x0, 0, false⟩
  | .GLB_IFVER_SUP => ⟨.GLB, 0x8, 1, 4, .one, .derived, 0x0, 0, false⟩
  | .GLB_IFVER_SEL => ⟨.GLB, 0xC, 1, 4, .one, .rw, 0x3, 2, false⟩
  | .GLB_VER => ⟨.GLB, 0x10, 1, 4, .one, .derived, 0x0, 0, false⟩
  | .GLB_MODE => ⟨.GLB, 0x14, 1, 4, .one, .ro, 0x0, 0, true⟩
  | .GLB_MODE_REQ => ⟨.GLB, 0x18, 1, 4, .one, .wo, 0x0, 0, false⟩
  | .GLB_MODE_CHECK => ⟨.GLB, 0x1C, 1, 4, .perMaster, .ro, 0x0, 0, false⟩
  | .GLB_RESET => ⟨.GLB, 0x20, 1, 4, .one, .wo, 0x0, 0, false⟩
  | .GLB_EVT => ⟨.GLB, 0x24, 1, 4, .one, .w1c, 0x7, 0, false⟩
  | .GLB_EVT_EN => ⟨.GLB, 0x28, 1, 4, .one, .rw, 0x7, 0, false⟩
  | .GLB_LASTREF => ⟨.GLB, 0x30, 1, 4, .one, .ro, 0x0, 0, false⟩
  | .GLB_LASTREF_INST => ⟨.GLB, 0x34, 1, 4, .one, .ro, 0x0, 0, false⟩
  | .GLB_LASTREF_TIME_LO => ⟨.GLB, 0x38, 1, 4, .one, .derived, 0x0, 0, false⟩
  | .GLB_LASTREF_TIME_HI => ⟨.GLB, 0x3C, 1, 4, .one, .derived, 0x0, 0, false⟩
  | .GLB_HOST_ERR => ⟨.GLB, 0x40, 1, 4, .one, .w1c, 0x80000000, 0, false⟩
  | .GLB_HOST_ERRADDR => ⟨.GLB, 0x44, 1, 4, .one, .ro, 0x0, 0, false⟩
  | .GLB_BAR2_APER => ⟨.GLB, 0x48, 1, 4, .one, .rw, 0x1FF, 0x10, false⟩
  | .GLB_PCIE_STATUS => ⟨.GLB, 0x4C, 1, 4, .one, .ro, 0x0, 0, true⟩
  | .GLB_PCIE_EVT => ⟨.GLB, 0x50, 1, 4, .one, .w1c, 0x7, 0, false⟩
  | .GLB_PCIE_EVT_EN => ⟨.GLB, 0x54, 1, 4, .one, .rw, 0x7, 0, false⟩
  | .GLB_GPIO_DIR => ⟨.GLB, 0x60, 1, 4, .one, .rw, 0xFFFF, 0, false⟩
  | .GLB_GPIO_OUT => ⟨.GLB, 0x64, 1, 4, .one, .rw, 0xFFFF, 0, false⟩
  | .GLB_GPIO_IN => ⟨.GLB, 0x68, 1, 4, .one, .derived, 0x0, 0, false⟩
  | .GLB_ALARM => ⟨.GLB, 0x6C, 1, 4, .one, .rw, 0x2, 0, false⟩
  | .GLB_TOD_CFG => ⟨.GLB, 0x70, 1, 4, .one, .rw, 0xFF0F, 0x6400, false⟩
  | .GLB_TOD_STATUS => ⟨.GLB, 0x74, 1, 4, .one, .ro, 0x0, 0, false⟩
  | .GLB_TOD_EVT => ⟨.GLB, 0x78, 1, 4, .one, .w1c, 0xF, 0, false⟩
  | .GLB_TOD_EVT_EN => ⟨.GLB, 0x7C, 1, 4, .one, .rw, 0xF, 0, false⟩
  | .GLB_RTC_SET_LO => ⟨.GLB, 0x80, 1, 4, .one, .wo, 0x0, 0, false⟩
  | .GLB_RTC_SET_HI => ⟨.GLB, 0x84, 1, 4, .one, .wo, 0x0, 0, false⟩

/-- Every register, in the order of the tables. -/
def Reg.all : List Reg :=
  (List.range 213).map Reg.ofNat

/-- Number of registers. -/
def Reg.count : Nat := 213

/-- Reset value of the copy `i` of a register. CH_REMAP shows the channel's own number (R170). -/
def Reg.resetVal (r : Reg) (i : Nat) : Word :=
  match r with
  | .CH_REMAP => BitVec.ofNat 32 i
  | _ => BitVec.ofNat 32 r.info.reset

/-- Key of copy `i` of a register in the register table of the state. -/
def Reg.key (r : Reg) (i : Nat) : Nat := r.ctorIdx + 213 * i

/-- Reset value found from a key. -/
def regResetAt (k : Nat) : Word :=
  (Reg.ofNat (k % 213)).resetVal (k / 213)

/-- Key of copy `i` of a counter. -/
def Ctr.key (c : Ctr) (i : Nat) : Nat := c.ctorIdx + 51 * i

/-- Counter whose LO or HI word stands at an offset of a block: the counter, its row and whether it is the HI word. -/
def ctrAt (b : Blk) (off : Nat) : Option (Ctr × Nat × Bool) :=
  Ctr.all.findSome? fun c =>
    let t := c.info
    if t.1 = b ∧ t.2.2.1 ≤ off ∧ off < t.2.2.1 + 8 * t.2.2.2 ∧ off % 4 = 0 then
      some (c, (off - t.2.2.1) / 8, (off - t.2.2.1) % 8 = 4)
    else none

/-- Blocks' places in BAR0 (R532). -/
def Blk.base : Blk → Nat
  | .GLB => 0x0000000 | .PWR => 0x0010000 | .CLK => 0x0020000 | .EVC => 0x0030000 | .DMA => 0x0040000
  | .MEM => 0x0050000 | .HLTH => 0x0060000 | .FAB => 0x0070000 | .TWN => 0x0080000 | .PORT => 0x0100000
  | .CH => 0x0200000 | .ENG => 0x0300000 | .SILO => 0x0400000 | .SHF => 0x0500000

/-- Register that stands at an offset of a block, and its row number in the table. -/
def regAt (b : Blk) (off : Nat) : Option (Reg × Nat) :=
  Reg.all.findSome? fun r =>
    let t := r.info
    if t.blk = b ∧ t.off ≤ off ∧ off < t.off + t.count * t.stride ∧ (off - t.off) % t.stride = 0 then
      some (r, (off - t.off) / t.stride)
    else none

end Sys2Proof.Machine
end

