-- ==== Sys2Proof/Machine/State.lean ====
section
/-! DEFINITION. The state of the module: registers, counters, memories, queues, engines and the rest that the spec
names, as plain data; what it is right after a cold reset; and why a step can stop. -/

namespace Sys2Proof.Machine

/-! ### Ports, slices and channels (01–04) -/

/-- A frame in buffer memory, without its FCS (R29, step 3; R155, R157). -/
structure QFrame where
  len : Nat
  /-- Client port and priority. -/
  port : Nat
  pri : Nat
  /-- Buffer half, and the runs of bytes that hold the frame: offset in the half, length (R38). -/
  half : Nat
  runs : List (Nat × Nat)
  deriving DecidableEq, Repr

/-- A sealed unit in a line port's transmit slots (R30). -/
structure TxUnit where
  /-- Channel; 16,384 for a bypass frame (R131). -/
  chan : Nat
  /-- Egress engine that seals it. -/
  eng : Nat
  /-- Line frame without FCS. -/
  bytes : List Byte
  /-- The unit was discarded (R286); the reorder stage skips its slot. -/
  discarded : Bool
  /-- Number of the transmit slot (R334). -/
  tslot : Nat
  deriving DecidableEq, Repr

/-- An open bale (R99): its frames, and the real-time clock when the first one entered. -/
structure OpenBale where
  frames : List QFrame
  since : W64
  deriving DecidableEq, Repr

/-- A closed and sealed bale: line frame without FCS, and the client frames it holds. -/
structure Bale where
  bytes : List Byte
  frames : Nat
  /-- A word of buffer memory that held one of its frames was poisoned: the unit is discarded (R395). -/
  discarded : Bool
  /-- Sequence, key slot and payload, which its descriptor and IN_DATA carry (R334). -/
  seq : Nat
  slot : Nat
  payload : List Byte
  deriving DecidableEq, Repr

/-- An OTN group whose counter and slot are assigned, with the descriptor that announces it (R111). -/
structure OtnUnit where
  counter : Nat
  slot : Nat
  epoch : Nat
  desc : List Byte
  deriving DecidableEq, Repr

/-- The group that an OTN receiver expects next (R113). -/
structure OtnAnn where
  counter : Nat
  epoch : Nat
  desc : List Byte
  /-- Its descriptor named no valid slot, so the group is replaced (R117, check 2). -/
  replaced : Bool
  deriving DecidableEq, Repr

/-- A received group whose tag has not arrived (R111, R112). -/
structure OtnPend where
  counter : Nat
  epoch : Nat
  slot : Nat
  desc : List Byte
  /-- Ciphertext payload. -/
  ct : List Byte
  /-- OPUC and ODUC overhead of the group (R47). -/
  opuc : List Byte
  oduc : List Byte
  /-- Received under hold-and-verify: the plaintext payload in buffer memory (R116). -/
  held : Option QFrame
  deriving DecidableEq, Repr

/-- BIP-8 of the last two frames at each of the four ends of an OPUC, which the frames that follow carry (R47; ITU-T
G.709), and the blocks in which a received BIP-8 differed: path monitoring and section monitoring. -/
structure OtnMon where
  lineIn : List Byte
  lineOut : List Byte
  clientIn : List Byte
  clientOut : List Byte
  pmErrs : Nat
  smErrs : Nat
  deriving DecidableEq, Repr

def OtnMon.reset : OtnMon := ⟨zeros 2, zeros 2, zeros 2, zeros 2, 0, 0⟩

/-- What the data plane holds for one channel outside its context (R99, R111–R116, R140, R155–R161). -/
structure Chan where
  /-- Egress queue, oldest first. -/
  eq : List QFrame
  openBale : Option OpenBale
  /-- Closed bales that wait for a transmit opportunity. -/
  ready : List Bale
  /-- Ingress delivery queue, oldest first. -/
  iq : List QFrame
  deficit : Nat
  inDeficit : Nat
  /-- A switch was asked for by EPOCH_NOW, a takeover or poison (R140, R151). -/
  forced : Bool
  /-- An imported SAK waits in the egress next slot (R92). -/
  importDue : Bool
  /-- Start time that the import named, not yet reached (R92). -/
  sakStart : Option W64
  /-- The egress slot left by the last switch still holds its key (R141). -/
  retiring : Bool
  /-- EPOCH_BLK and EPOCH_TIME of the current egress epoch: a write applies from the next one (R127, R137). -/
  epochBlk : Nat
  epochTime : Nat
  /-- OTN transmit: tag of the group just sent, and the group assigned next (R111). -/
  otnTag : List Byte
  otnNext : Option OtnUnit
  /-- OTN receive: group expected, and group whose tag is awaited (R113). -/
  rxExp : Option OtnAnn
  rxPend : Option OtnPend
  /-- OTN receive: output is generic AIS after a failed tag; it ends after the group under way (R115). -/
  rxReplace : Bool
  rxClear : Bool
  /-- OTN receive: the group before was received under hold-and-verify (R116). -/
  rxHold : Bool
  /-- OTN: BIP-8 at the four ends of the OPUC; group that a near-end loopback of the client port feeds back (R47, R63). -/
  mon : OtnMon
  loop : Option (List Byte × List Byte × List Byte)
  deriving DecidableEq, Repr

def Chan.reset : Chan where
  eq := []
  openBale := none
  ready := []
  iq := []
  deficit := 0
  inDeficit := 0
  forced := false
  importDue := false
  sakStart := none
  retiring := false
  epochBlk := 32
  epochTime := 10000
  otnTag := zeros 8
  otnNext := none
  rxExp := none
  rxPend := none
  rxReplace := false
  rxClear := false
  rxHold := false
  mon := OtnMon.reset
  loop := none

/-- What one port holds beside its registers (R59–R61, R69, R160). -/
structure PortSt where
  /-- Receiver adaptation has completed since the link last came down (R59, R60). -/
  adapted : Bool
  /-- Received pause: priority (8 stands for PAUSE) and quanta still running (R69). -/
  paused : List (Nat × Nat)
  /-- Transmit slots of a line port, oldest first (R30). -/
  slots : List TxUnit
  /-- Number of the next transmit slot (R334). -/
  slotNext : Nat
  /-- Channel at which the DWRR goes on, and whether its pointer stands there with this round's deficit given (R160,
  R161). -/
  rrNext : Nat
  rrHere : Bool
  /-- Slices of the port whose egress and whose ingress engine take the next unit. -/
  engNext : Nat
  inNext : Nat
  /-- Generic fault ordered sets received now (R77). -/
  lfRx : Bool
  rfRx : Bool
  deriving DecidableEq, Repr

def PortSt.reset : PortSt := ⟨false, [], [], 0, 0, false, 0, 0, false, false⟩

/-- One half of a slice buffer, 64 KiB (R15): its bytes, and where the next frame begins. -/
structure StageBuf where
  bytes : Mem
  next : Nat
  deriving DecidableEq, Repr

def StageBuf.reset : StageBuf := ⟨[], 0⟩

/-- One slice (R32, R33). -/
structure SliceSt where
  powered : Bool
  ready : Bool
  /-- Its code could not be loaded (R395). -/
  failed : Bool
  /-- A DRAIN is under way; `SHF_DRAINED` shows its end (R377). -/
  draining : Bool
  /-- The egress and the ingress half of the slice buffer (R15). -/
  egBuf : StageBuf
  inBuf : StageBuf
  deriving DecidableEq, Repr

def SliceSt.reset : SliceSt := ⟨false, false, false, false, StageBuf.reset, StageBuf.reset⟩

/-! ### Tithe (06) -/

/-- A tithe frame from its header onward (R221, R222). -/
structure TFrame where
  cls : Nat
  bytes : List Byte
  deriving DecidableEq, Repr

/-- A message that a link received whole and that waits for the engine that takes it (R26). -/
structure TMsg where
  cls : Nat
  /-- The LINK bit. -/
  lk : Bool
  /-- SRC, MSG_ID and the HOPS with which it came: a broadcast is resent with them (R232). -/
  src : Nat
  id : Word
  hops : Nat
  bytes : List Byte
  deriving DecidableEq, Repr

/-- A message of which some segments have arrived (R222). -/
structure Reasm where
  src : Nat
  id : Word
  segs : Nat
  cls : Nat
  lk : Bool
  dst : Nat
  hops : Nat
  parts : List (Nat × List Byte)
  deriving DecidableEq, Repr

/-- Queues of one line port or twin link (R220, R223, R224). Credits are in ten-thousandths of a byte. -/
structure LinkQ where
  tx : List TFrame
  credit : Nat
  creditAt : W64
  parts : List Reasm
  msgs : List TMsg
  tokens : Nat
  tokensAt : W64
  /-- GCC0 bytes of an OTN Seal port that make no whole frame yet (R221). -/
  gcc : List Byte
  deriving DecidableEq, Repr

def LinkQ.reset : LinkQ := ⟨[], 42040000, 0, [], [], 81920000, 0, []⟩

/-! ### Roots and handshakes (05) -/

/-- A channel root in the custody store (R191, R192, R195). -/
structure Root where
  key : List Byte
  /-- Lifetime in minutes, and the real-time clock at commit. -/
  life : Nat
  made : W64
  /-- This module was the initiator, so its egress direction is DIR 0x01. -/
  initiator : Bool
  /-- First epochs of the egress and of the ingress direction. -/
  firstTx : Nat
  firstRx : Nat
  suite : Nat
  baleV : Nat
  peer : W64
  peerCh : Nat
  deriving DecidableEq, Repr

/-- What the control plane holds for one channel (R145, R198, R200, R241). -/
structure ChanKey where
  root : Option Root
  old : Option Root
  /-- No epoch at or above these derives from the root held now (R200). -/
  capTx : Option Nat
  capRx : Option Nat
  /-- First epochs that the old root no longer derives. -/
  oldTx : Nat
  oldRx : Nat
  /-- A re-root has fallen due and has not committed; its next retry interval in seconds; the retry waits for link-up. -/
  due : Bool
  retry : Nat
  waitLink : Bool
  /-- The egress install and READY wait for the SHADOW's acknowledgement (R241). -/
  waitAck : Bool
  waitReady : Bool
  /-- After a takeover by command the channel waits for its re-root (R247). -/
  waitReroot : Bool
  /-- Epoch whose derivation has been started for the egress and for the ingress direction and has not been installed (R34). -/
  jobTx : Option Nat
  jobRx : Option Nat
  /-- Place of the channel's KEY request in the order of requests (R202). -/
  request : Nat
  /-- SAK that the ACTIVE's Silo has handed over for the installs that follow: key, AUX, AN (R240). -/
  sak : Option (List Byte × List Byte × Nat)
  deriving DecidableEq, Repr

def ChanKey.reset : ChanKey := ⟨none, none, none, none, 0, 0, false, 0, false, false, false, false, none, none, 0, none⟩

/-- A handshake session (R182–R196). -/
structure Session where
  initiator : Bool
  reroot : Bool
  id : Word
  peer : W64
  peerCh : Nat
  ver : Nat
  suite : Nat
  baleV : Nat
  hello : List Byte
  offer : List Byte
  accept : List Byte
  confirm : List Byte
  /-- Private parts of the ephemeral keys, and at the responder the shared secret. -/
  ecPriv : List Byte
  dk : List Byte
  z : List Byte
  fI2R : Nat
  fR2I : Nat
  life : Nat
  /-- Transmissions of the message that awaits an answer (R193). -/
  sends : Nat
  /-- Reason of the last message rejected; 0 none (R196). -/
  reason : Nat
  deriving DecidableEq, Repr

/-! ### The Silo (15) -/

/-- A pinned peer (R208). -/
structure Pin where
  node : W64
  mlPub : List Byte
  ecPub : List Byte
  twin : Bool
  partner : W64
  changed : Bool
  /-- Sheaf digest last seen in its ATTEST (R190). -/
  digest : List Byte
  /-- SHA-384 of the pinned public keys, which the Granary holds; the keys stand in the flash area (R501). -/
  keysHash : List Byte
  deriving DecidableEq, Repr

structure Officer where
  num : Nat
  mlPub : List Byte
  ecPub : List Byte
  deriving DecidableEq, Repr

/-- The stored enrolment (R206). -/
structure Domain where
  id : List Byte
  k : Nat
  officers : List Officer
  /-- Customer keys for co-signing sheaf sections. -/
  custKeys : List Byte
  /-- Officer-set digest, which the Granary holds; the officers' keys stand in the flash area (R501, R508). -/
  osd : List Byte
  deriving DecidableEq, Repr

/-- An import key (R500). -/
structure ImportKey where
  id : List Byte
  dk : List Byte
  ecPriv : List Byte
  deriving DecidableEq, Repr

/-- An officer authorisation (R499). -/
structure Auth where
  /-- The master whose mailbox delivered it (R378). -/
  master : Master
  cmd : Nat
  slot : Nat
  digest : List Byte
  expiry : W64
  deriving DecidableEq, Repr

/-- A tamper log entry (R510). -/
structure TamperEnt where
  cause : Nat
  loop : Nat
  time : W64
  mode : Nat
  deriving DecidableEq, Repr

/-- What the Escapement keeps on entry to ALARM-HOLD (R508). -/
structure Kept where
  domain : List Byte
  k : Nat
  quorumMin : Nat
  osd : List Byte
  enrolled : Bool
  deriving DecidableEq, Repr

structure Silo where
  /-- Identity secret keys present. -/
  identity : Bool
  node : W64
  domain : Option Domain
  /-- Last accepted SEQ (R498). -/
  seq : W64
  pins : List Pin
  /-- Current and previous fabric key with their KEY_IDs. -/
  fabKey : Option (Nat × List Byte)
  prevKey : Option (Nat × List Byte)
  importKeys : List ImportKey
  /-- Key under which the custody store's entries are wrapped, drawn at each start (R501). -/
  custody : Option (List Byte)
  auths : List Auth
  log : List TamperEnt
  kept : Kept
  /-- The zeroised latch: a zeroisation that no officer has acknowledged (R508). -/
  latch : Bool
  /-- The key store has been zeroised since manufacture, so no identity is left. -/
  zeroised : Bool
  /-- OTP retirement record (R507). -/
  retired : Bool
  /-- Level of ZEROIZE_N as last seen. -/
  zeroizeHigh : Bool
  /-- Entropy sources out of use, bit by source: those whose start test has not passed or that have failed one since (R215); and
  the source that is taken next (R214). -/
  srcBad : Nat
  srcTurn : Nat
  /-- The Silo's own generator, none while it does not generate, and its requests since the last reseed (R216, R217). -/
  drbg : Option Crypto.Drbg
  drbgReqs : Nat
  /-- Jobs for the key engines, the next one first, and the TAG of the next job (R202, R511). -/
  jobs : List KeyJob
  jobTag : Nat
  /-- KEY requests so far (R202). -/
  keySeq : Nat
  deriving DecidableEq, Repr

/-- A manufactured module that has not been enrolled: identity keys present (DESIGN CHOICE, log 5), and the node ID that
its public keys give (R204). -/
def Silo.reset : Silo where
  identity := true
  node := Crypto.ownNode
  domain := none
  seq := 0
  pins := []
  fabKey := none
  prevKey := none
  importKeys := []
  custody := none
  auths := []
  log := []
  kept := ⟨zeros 16, 0, 0, zeros 48, false⟩
  latch := false
  zeroised := false
  retired := false
  zeroizeHigh := true
  srcBad := 255
  srcTurn := 0
  drbg := none
  drbgReqs := 0
  jobs := []
  jobTag := 0
  keySeq := 0

/-- No session. -/
def Session.none : Session := ⟨false, false, 0, 0, 0, 0, 0, 0, [], [], [], [], [], [], [], 0, 0, 0, 0, 0⟩

/-! ### Sheaf (10) -/

/-- A COMPL or CODE section with the fields of its table entry that the model keeps. -/
structure Section where
  third : Bool
  digest : List Byte
  bytes : List Byte
  deriving DecidableEq, Repr

/-- A sheaf image that has been verified: header and sections (R363, R371). -/
structure Sheaf where
  header : List Byte
  struct : List Byte
  code : List Section
  bankcfg : List Byte
  portmap : List Byte
  compl : List Section
  evtmap : List Byte
  policy : List Byte
  /-- Digests of STRUCT, BANKCFG, PORTMAP, EVTMAP and POLICY, in that order (R379). -/
  digests : List (List Byte)
  /-- Digest of the image (R365). -/
  digest : List Byte
  deriving DecidableEq, Repr

/-- A running VERIFY (1), ACTIVATE (2) or STAGE (3) (R376). -/
structure ShfOp where
  master : Master
  cmd : Nat
  slot : Nat
  /-- POLICY ROLES requires an officer authorisation (R378). -/
  auth : Bool
  deriving DecidableEq, Repr

/-- A running ERASE (1), PROGRAM (2) or READ (3) of the flash (R386). -/
structure FlOp where
  master : Master
  cmd : Nat
  slot : Nat
  src : Nat
  dst : Nat
  len : Nat
  deriving DecidableEq, Repr

/-- What the Silo keeps for sheaves beside the SHF registers. -/
structure Shf where
  /-- The OTP floor rows programmed so far, of 256, lowest first: its 32 bits, or none where its check code does not match them
  (R368, R370). -/
  otp : List (Option Word)
  /-- Preferred slot in the boot record (R372). -/
  pref : Nat
  /-- Slots whose ERASE or PROGRAM was cut short (R386). -/
  incomplete : List Nat
  /-- Erase cycles of each slot (R515). -/
  erases : List Nat
  op : Option ShfOp
  fl : Option FlOp
  /-- Slices that UPDATE or REVERT reloads now (R380). -/
  updating : List Nat
  deriving DecidableEq, Repr

/-- Factory state of flash and OTP: nothing programmed, no floor row used, slot A preferred (DESIGN CHOICE, log 6). -/
def Shf.reset : Shf := ⟨[], 0, [], [0, 0], none, none, []⟩

/-- Floor rows used, and the floor: the value in the highest-numbered valid row, or 0 (R368). -/
def Shf.rows (x : Shf) : Nat := x.otp.length
def Shf.floor (x : Shf) : Nat := ((x.otp.reverse.findSome? id).map BitVec.toNat).getD 0

def Sheaf.none : Sheaf := ⟨[], [], [], [], [], [], [], [], [], zeros 48⟩

/-! ### Event controller (13) and MSI-X (17) -/

/-- One source (R448–R461). -/
structure EvSrc where
  /-- 0 IDLE, 1 HELD, 2 REQUESTED, 3 SERVICE, 4 SERVICE+. -/
  st : Nat
  /-- Target of the last offer, none before the first (R454). -/
  last : Option Nat
  /-- The pending firing is that of an edge or of `EVC_SET`: it is never withdrawn (R449, R450). In SERVICE+, the further
  firing was. -/
  edge : Bool
  /-- The group was released and no target was eligible: the source is offered when one becomes so (R454). -/
  rel : Bool
  /-- Condition or active input as last sampled (R447). -/
  cond : Bool
  /-- Re-pends counted by the storm guard (R461). -/
  repends : Nat
  deriving DecidableEq, Repr

def EvSrc.reset : EvSrc := ⟨0, none, false, false, false, 0⟩

/-- A coalescing group: a period runs, and the firings it has counted (R452). -/
structure EvGrp where
  running : Bool
  count : Nat
  deriving DecidableEq, Repr

def EvGrp.reset : EvGrp := ⟨false, 0⟩

/-- An MSI-X table entry; every vector is masked after a reset (R537). -/
structure MsixEnt where
  addr : W64
  data : Word
  masked : Bool
  deriving DecidableEq, Repr

def MsixEnt.reset : MsixEnt := ⟨0, 0, true⟩

/-- The event controller's state beside its registers, and the MSI-X structures. -/
structure Evc where
  srcs : SMap EvSrc
  grps : SMap EvGrp
  /-- Vectors whose message has been sent and that no claim has armed again (R453). -/
  disarmed : List Nat
  /-- Latches of the external inputs while cclk is stopped: an edge, and a further one (R460). -/
  latch : List Nat
  latch2 : List Nat
  /-- Filtered levels of GPIO 0–15 and of the 1PPS input (bit 16) as driven from outside (R459). -/
  pins : Nat
  /-- MSI-X table, pending bits, and function in D3hot (R531). -/
  msix : SMap MsixEnt
  pba : Nat
  d3 : Bool
  /-- A PCIe reset cleared MSI-X enable: T2 is not eligible until it is set again (R457). -/
  t2Off : Bool
  deriving DecidableEq, Repr

def Evc.reset : Evc := ⟨[], [], [], [], [], 0, [], 0, false, false⟩

/-- Configuration space of the PCIe function beside what GLB and the event controller show of it (R531). -/
structure Pcie where
  /-- The function is ready for configuration requests (R538). -/
  ready : Bool
  /-- Command register and device control register. -/
  cmd : Nat
  devCtl : Nat
  /-- Addresses in BAR0, BAR1 and in BAR2, BAR3. -/
  bar0 : W64
  bar2 : W64
  /-- AER: uncorrectable errors reported, their mask and their severity. -/
  aerStatus : Word
  aerMask : Word
  aerSevere : Word
  deriving DecidableEq, Repr

/-- Reset values of PCI Express where the spec gives none: 512-byte read requests and 128-byte payloads set, and its severities
(PRESUMED, log 103). -/
def Pcie.reset : Pcie := ⟨false, 0, 0x2810, 0, 0, 0, 0, 0x00462030⟩

/-! ### Fabric (06) -/

/-- An LSA of the database (R231). -/
structure Lsa where
  node : W64
  addr : Nat
  seq : W64
  nbrs : List (W64 × Nat)
  deriving DecidableEq, Repr

/-- A kill that awaits its acknowledgement (R233, R234). -/
structure KillReq where
  seq : W64
  target : W64
  targetCh : Nat
  line : Nat
  deriving DecidableEq, Repr

/-- An accepted message that waits for a management engine (R225, R226). -/
structure FabMsg where
  link : Nat
  cls : Nat
  orig : W64
  seq : W64
  type : Nat
  body : List Byte
  /-- The message as it came, for the resending of a broadcast (R232). -/
  msg : TMsg
  deriving DecidableEq, Repr

/-- The fabric's state beside its registers. -/
structure Fab where
  /-- Address last held, kept by the Escapement (R229). -/
  lastAddr : Nat
  /-- SEQ of the last message that this module originated (R225). -/
  sendSeq : W64
  killSeq : W64
  /-- LSA sequence of this module. -/
  lsaSeq : W64
  lsdb : List Lsa
  /-- Highest SEQ accepted from each originator in each class (R226). -/
  seqs : List (W64 × Nat × W64)
  /-- LSAs that a neighbour has not acknowledged: link, node, sequence (R231). -/
  unacked : List (Nat × W64 × W64)
  kills : SMap KillReq
  /-- Highest kill sequence acted on for each originator (R235). -/
  acted : List (W64 × W64)
  /-- Links on which a message of the present neighbour has passed R226 (R228). -/
  authed : List Nat
  /-- Times at which this module originated its latest ALARM messages (R226). -/
  alarms : List W64
  /-- Neighbour with which each link was last adjacent (R228). -/
  lastAdj : SMap W64
  inbox : List FabMsg
  /-- Link and class of the last message of this module that was refused to the management engine that sent it (R223). -/
  refused : Option (Nat × Nat)
  deriving DecidableEq, Repr

def Fab.reset : Fab := ⟨0, 0, 0, 0, [], [], [], [], [], [], [], [], [], none⟩

/-! ### Twin (06) -/

/-- The twin agent's state beside its registers. -/
structure Twin where
  /-- Root and suite of the association, the next frame sequence sent, and the last one received on each link (R238). -/
  root : List Byte
  suite : Nat
  seqTx : W64
  seqRx : List W64
  /-- Session of a handshake that is under way, and one whose CONFIRM was sent (R194, R238). -/
  sess : Option Session
  kept : Option Session
  /-- The full mirror since the last association is complete (R240). -/
  fullDone : Bool
  /-- SYNC of the partner, as its SHADOW last told (R253). -/
  peerSync : Bool
  /-- PORT_CFG of the ACTIVE's ports, as mirrored; a port that is not provisioned there is not listed (R245). -/
  ports : SMap Word
  /-- The last attempt to associate over link 0 was not answered: the next one goes over link 1 (R238). -/
  skip0 : Bool
  /-- Both links are lost and the split has not been decided yet (R242). -/
  lost : Bool
  /-- The last split left this member SHADOW, so that only R247 lets it take over. -/
  split : Bool
  /-- Reservation of each channel whose acknowledgement is awaited (R241). -/
  resDue : SMap W64
  /-- Channels taken over by mirror whose forced switch is still due (R244, step 4). -/
  forced : List Nat
  /-- Decision of a takeover of which a channel has not resumed yet (R252). -/
  foAt : Option W64
  deriving DecidableEq, Repr

def Twin.reset : Twin := ⟨[], 0, 1, [0, 0], none, none, false, false, [], false, false, false, [], [], none⟩

/-! ### Outputs -/

/-- What the module sends at its boundary. -/
inductive Out where
  /-- Frame with FCS on a client port. -/
  | client (p : Nat) (f : List Byte)
  /-- Frame with FCS on a line port. -/
  | line (p : Nat) (f : List Byte)
  /-- Frames of a port's OPUC: payload, and overhead with the seal bytes at their place on a line port (R47, R110). -/
  | otn (p : Nat) (i : Nat) (payload : List Byte) (oh : OtnOh)
  /-- `n` frames of OTN payload replaced by generic AIS (R115, R148) on a port's OPUC, seal bytes zero. -/
  | ais (p : Nat) (i : Nat) (n : Nat) (oh : OtnOh)
  /-- ODUC-OCI on a port (R107). -/
  | oci (p : Nat)
  /-- MSI-X write (R453). -/
  | msix (vector : Nat) (addr : W64) (data : Word)
  /-- A tithe frame in GCC0 (R221), or what TITHE_FRAME_RX brings to a port whose far-end loopback sends it back (R63). -/
  | tithe (l : Nat) (f : List Byte)
  /-- A frame on a twin link (R238): kind and body, and the frame as it goes out, sealed under the link key but for the
  handshake messages of an association. -/
  | twin (k kind : Nat) (body : List Byte) (frame : List Byte)
  /-- Characters on the time-of-day UART (R546). -/
  | uart (txt : List Byte)
  /-- 1PPS output pulse, with its width in ms (R546). -/
  | pps (ms : Nat)
  /-- Bytes returned on the I3C bus (R528). -/
  | i3c (data : List Byte)
  /-- Completion of a host read (R534): 0 successful, 1 Unsupported Request, 2 Completer Abort, 3 with EP set; of a configuration
  request also 4, Configuration Request Retry Status (R538). -/
  | completion (data : List Byte) (status : Nat)
  /-- Error of a posted host write that AER reports (R534): 1 Unsupported Request, 2 Completer Abort, 3 Poisoned TLP. -/
  | aer (error : Nat)
  deriving DecidableEq, Repr

/-- What the power controller holds beside its registers (R470, R481, R484, R561). -/
structure Pwr where
  /-- The module stands in ESCAPEMENT after a cold start. -/
  cold : Bool
  /-- A start that waits for a core reference: its `PWR_WAKE_CAUSE`. -/
  held : Option Word
  /-- Latches of the wake timer and of PERST_N. -/
  timer : Bool
  perst : Bool
  /-- The backup has run out since the last cold start. -/
  bakOut : Bool
  deriving DecidableEq, Repr

def Pwr.reset : Pwr := ⟨false, none, false, false, false⟩

/-- What one DMA channel holds beside its registers (R433–R439). -/
structure DmaCh where
  /-- Body of the descriptor being executed, none before a fetch. -/
  desc : List Byte
  /-- 0 a descriptor fetch is due, 1 data, 2 the completion writes. -/
  phase : Nat
  /-- Elements of the pass transferred so far, in the order of the transfer. -/
  pos : Nat
  /-- HALF has been raised in this pass. -/
  half : Bool
  /-- STATUS word that the completion writes. -/
  status : Word
  /-- The ABORT found the channel in PAUSED, with no access outstanding (R439). -/
  idle : Bool
  deriving DecidableEq, Repr

def DmaCh.reset : DmaCh := ⟨[], 0, 0, false, 0, false⟩

/-- The stress integrators of the Escapement and the measured values beside them (R515–R519). -/
structure HgInt where
  /-- Model of each slice, in 1/345,600,000 ppm. -/
  model : List Nat
  /-- Consumed life by each slice's oscillator, ppm. -/
  osc : List Nat
  /-- Electromigration: the same unit times the square of the current in 10 mA. -/
  em : Nat
  /-- Sum of the squared swings of the thermal cycles, in (1/16 °C)², and their number. -/
  swings : Nat
  tcyc : Nat
  /-- Seconds with main power. -/
  secs : Nat
  /-- Consumed life by input capacitor and supercapacitor, ppm. -/
  esr : Nat
  scap : Nat
  /-- Consumed life by the serdes margin, ppm, and the baselines of the lanes that have one (R519, R520). -/
  margin : Nat
  bases : SMap (Option Nat)
  deriving DecidableEq, Repr

def HgInt.reset : HgInt := ⟨List.replicate 32 0, List.replicate 32 0, 0, 0, 0, 0, 0, 0, 0, []⟩

/-- Vertical eye margins of one lane (R515, R520): those of its first 24 h of lock and those of the latest 24 h, newest first. -/
structure EyeLane where
  first : List Nat
  win : List Nat
  /-- A twin lane has shown CDR lock by a measurement since its link was last lost. -/
  locked : Bool
  deriving DecidableEq, Repr

def EyeLane.reset : EyeLane := ⟨[], [], false⟩

/-- Hourglass and telemetry beside the HLTH registers. -/
structure Hlth where
  now : HgInt
  /-- Latest Hourglass record in the flash (R519). -/
  saved : HgInt
  /-- T0 or what stands for it, in 1/16 °C, none before the first sample. -/
  t0 : Option Int
  /-- Local minimum, and local maximum once T0 has risen by 10 °C (R518). -/
  low : Int
  high : Option Int
  /-- Indicators whose WARN, EOL and DAYS_LOW crossing has been reported (R530). -/
  warned : Nat
  ended : Nat
  short : Nat
  /-- T0 has passed TEMP_WARN (bit 0) or 125 °C (bit 1) and has not fallen 5 °C below since (R525). -/
  hot : Nat
  /-- Temperatures whose MAX starts anew at the next sample, bit by sensor. -/
  anew : Nat
  lanes : SMap EyeLane
  /-- Read pointer of the I3C target, and its dynamic address once it has one (R528). -/
  ptr : Nat
  addr : Option (BitVec 7)
  deriving DecidableEq, Repr

def Hlth.reset : Hlth := ⟨HgInt.reset, HgInt.reset, none, 0, none, 0, 0, 0, 0, 511, [], 0, none⟩

/-- Time discipline (R477, R545). -/
structure Tod where
  /-- Second that the last good message named, and the real-time clock when it was complete. -/
  msg : Option (Nat × W64)
  /-- Consecutive edges within 1 µs. -/
  streak : Nat
  /-- µs by which the real-time clock still runs ahead, and whether it skips its next count. -/
  ahead : Nat
  skip : Bool
  /-- The next tick of DORMANT and ESCAPEMENT is the longer one of two (R477). -/
  half : Bool
  /-- PPS_OUT has risen, and the message that follows 500 ms later has not been sent (R546). -/
  edge : Bool
  deriving DecidableEq, Repr

def Tod.reset : Tod := ⟨none, 0, 0, false, false, false⟩

/-- Arbitration at one crossbar target (R419): the place in R413 of the master other than the twin agent that was granted
last, the twin agent's latest wins in a row while another master waited, and the master that has the target now. -/
structure XArb where
  last : Nat
  twinRun : Nat
  owner : Option XMaster
  deriving DecidableEq, Repr

/-- The first round begins with the first master of R413 (DESIGN CHOICE, log 53). -/
def XArb.reset : XArb := ⟨10, 0, none⟩

/-- The state. -/
structure State where
  /-- Commands waiting, first in first out. -/
  pending : List Instr
  /-- Registers, one entry per copy that differs from its reset value. -/
  regs : SMap Word
  /-- The 64-bit counters of register blocks. -/
  cnts : SMap W64
  /-- Real-time clock, µs (R477). -/
  rtc : W64
  /-- HI shadow of each master (R164). -/
  shadow : SMap Word
  /-- Value and response of each master's last register read or burst (R415, R418). -/
  resp : SMap (List Byte × Nat)
  /-- Arbitration at the crossbar targets, in the order of R413. -/
  xarb : SMap XArb
  /-- `GLB_PARTID.VARIANT` (R1). -/
  variant : Nat
  slices : SMap SliceSt
  /-- dclk and kclk PLLs running, locked or not (R33). -/
  pllRun : List Bool
  ports : SMap PortSt
  chans : SMap Chan
  links : SMap LinkQ
  /-- MSG_ID of the next message that this module originates (R222). -/
  msgId : Word
  /-- Channel-counter increments that the engines hold (R24): key 16 × channel + counter. -/
  cntPend : SMap Nat
  /-- Memory regions by controller (R388); context memory is 70. -/
  rams : SMap Mem
  /-- Context memory has been zeroised and not been reset since: R129's values do not stand in it (R392). -/
  ctxBlank : Bool
  /-- Words with errors: key controller + 75 × word. -/
  errs : SMap WordErr
  /-- Valid bits of words as two of their three copies say, keyed alike (R391). -/
  valid : SMap Bool
  /-- Memory controllers (R388). -/
  memCtl : SMap MemCtl
  /-- Entries of the small tables whose parity is wrong (R408). -/
  lost : List TableEnt
  sheaf : Sheaf
  keys : SMap ChanKey
  /-- Open handshake sessions by channel, and confirmed sessions that a responder keeps for 1 s (R194). -/
  sessions : SMap Session
  kept : SMap Session
  /-- Channels whose KEY request waits for a free session, oldest request first (R202). -/
  keyWait : List Nat
  silo : Silo
  shf : Shf
  /-- A verified image staged for a live update (R379). -/
  staged : Option Sheaf
  /-- The upper half of the code store holds the committed images (R373, R381). -/
  codeHigh : Bool
  /-- Complication regions that have loaded (R373). -/
  loaded : List Nat
  engs : SMap Eng
  pwr : Pwr
  dma : SMap DmaCh
  hlth : Hlth
  tod : Tod
  /-- The debug port is connected (R557). -/
  dbg : Bool
  evc : Evc
  pcie : Pcie
  fab : Fab
  twin : Twin
  out : List Out
  freeCtr : Nat
  deriving DecidableEq, Repr

/-- Why the machine stops with a fault. -/
inductive Fault where
  /-- Raised by no command: the spec lets no command stop the module. Kept so that the type is inhabited. Safe. -/
  | none
  deriving DecidableEq, Repr

/-- Why a command has no meaning. -/
inductive Refusal where
  /-- A command that the model does not give a meaning yet, by its mnemonic. Safe: the model stops. -/
  | notModelled (mnemonic : String)
  deriving DecidableEq, Repr

def State.reset : State where
  pending := []
  regs := []
  cnts := []
  rtc := 0
  shadow := []
  resp := []
  xarb := []
  variant := 1
  slices := []
  pllRun := [false, false]
  ports := []
  chans := []
  links := []
  msgId := 0
  cntPend := []
  rams := []
  ctxBlank := false
  errs := []
  valid := []
  memCtl := []
  lost := []
  sheaf := Sheaf.none
  keys := []
  sessions := []
  kept := []
  keyWait := []
  silo := Silo.reset
  shf := Shf.reset
  staged := none
  codeHigh := false
  loaded := []
  engs := []
  pwr := Pwr.reset
  dma := []
  hlth := Hlth.reset
  tod := Tod.reset
  dbg := false
  evc := Evc.reset
  pcie := Pcie.reset
  fab := Fab.reset
  twin := Twin.reset
  out := []
  freeCtr := 0

end Sys2Proof.Machine
end

