-- ==== Sys2Proof/Machine/Ops.lean ====
section
/-! DEFINITION. The named operations over registers, counters, memory and the tables of the state; the consistency
check that every refused or accepted request ends with. -/

namespace Sys2Proof.Machine

/-! ### Masters -/

/-- Copy number of a master's selectors and check registers, in the order of R10. -/
def masterIdx : Master → Nat
  | .host => 0 | .me0 => 1 | .me1 => 2 | .twin => 3 | .debug => 4

/-- Master code of R401. -/
def masterCode : Master → Nat
  | .host => 0x60 | .me0 => 68 | .me1 => 69 | .twin => 0x62 | .debug => 0x63

/-! ### Registers, fields, counters, events -/

namespace State

/-- Copy `i` of a register. -/
def reg (s : State) (r : Reg) (i : Nat) : Word := SMap.get regResetAt s.regs (r.key i)

/-- Replace copy `i` of a register. -/
def setReg (s : State) (r : Reg) (i : Nat) (v : Word) : State :=
  { s with regs := SMap.set regResetAt s.regs (r.key i) v }

/-- A field of copy `i` of a register. -/
def f (s : State) (x : Fld) (i : Nat) : Nat := bitsOf (s.reg x.reg i).toNat x.lo x.len

/-- A one-bit field. -/
def fb (s : State) (x : Fld) (i : Nat) : Bool := s.f x i != 0

/-- Replace a field. -/
def setF (s : State) (x : Fld) (i v : Nat) : State :=
  s.setReg x.reg i (BitVec.ofNat 32 (putBits (s.reg x.reg i).toNat x.lo x.len v))

/-- Set a one-bit field to a truth value. -/
def setB (s : State) (x : Fld) (i : Nat) (b : Bool) : State := s.setF x i (b2n b)

/-- A counter. -/
def cnt (s : State) (c : Ctr) (i : Nat) : W64 := SMap.get (fun _ => 0) s.cnts (c.key i)

def setCnt (s : State) (c : Ctr) (i : Nat) (v : W64) : State :=
  { s with cnts := SMap.set (fun _ => 0) s.cnts (c.key i) v }

/-- Add to a counter, which stops at all ones (R79, R164). -/
def addCnt (s : State) (c : Ctr) (i n : Nat) : State :=
  s.setCnt c i (BitVec.ofNat 64 (satAdd 64 (s.cnt c i).toNat n))

def inc (s : State) (c : Ctr) (i : Nat) : State := s.addCnt c i 1

/-- Set an event bit; a set bit stays set until software clears it (R9). -/
def raise (s : State) (x : Fld) (i : Nat) : State := s.setF x i 1

def emit (s : State) (o : Out) : State := { s with out := s.out ++ [o] }

/-- HI shadow of a master (R164). -/
def shadowOf (s : State) (m : Nat) : Word := SMap.get (fun _ => 0) s.shadow m

def setShadow (s : State) (m : Nat) (v : Word) : State := { s with shadow := SMap.set (fun _ => 0) s.shadow m v }

/-- `n` free bytes, and the state in which they are used up. -/
def free (s : State) (n : Nat) : List Byte × State :=
  ((List.range n).map fun i => Config.freeByte (s.freeCtr + i), { s with freeCtr := s.freeCtr + n })

/-! ### Tables -/

def port (s : State) (p : Nat) : PortSt := SMap.get (fun _ => PortSt.reset) s.ports p

def setPort (s : State) (p : Nat) (v : PortSt) : State :=
  { s with ports := SMap.set (fun _ => PortSt.reset) s.ports p v }

def chan (s : State) (c : Nat) : Chan := SMap.get (fun _ => Chan.reset) s.chans c

def setChan (s : State) (c : Nat) (v : Chan) : State := { s with chans := SMap.set (fun _ => Chan.reset) s.chans c v }

def link (s : State) (l : Nat) : LinkQ := SMap.get (fun _ => LinkQ.reset) s.links l

def setLink (s : State) (l : Nat) (v : LinkQ) : State :=
  { s with links := SMap.set (fun _ => LinkQ.reset) s.links l v }

def lane (s : State) (l : Nat) : EyeLane := SMap.get (fun _ => EyeLane.reset) s.hlth.lanes l

def setLane (s : State) (l : Nat) (e : EyeLane) : State :=
  { s with hlth := { s.hlth with lanes := SMap.set (fun _ => EyeLane.reset) s.hlth.lanes l e } }

def slice (s : State) (n : Nat) : SliceSt := SMap.get (fun _ => SliceSt.reset) s.slices n

def setSlice (s : State) (n : Nat) (v : SliceSt) : State :=
  { s with slices := SMap.set (fun _ => SliceSt.reset) s.slices n v }

def eng (s : State) (e : Nat) : Eng := SMap.get (fun _ => Eng.reset) s.engs e

def setEng (s : State) (e : Nat) (v : Eng) : State := { s with engs := SMap.set (fun _ => Eng.reset) s.engs e v }

/-- Change an engine. -/
def updEng (s : State) (e : Nat) (f : Eng → Eng) : State := s.setEng e (f (s.eng e))

/-! ### Modes (R480) -/

/-- `GLB_MODE.MODE`. -/
def mode (s : State) : Nat := s.f GLB_MODE.MODE 0

/-- A register block answers in the modes in which its domains run (R535). -/
def blkUp (s : State) (b : Blk) : Bool :=
  match s.mode with
  | 0 | 1 => false
  | 2 | 4 => b == .GLB || b == .PWR || b == .CLK || b == .HLTH || b == .SILO
  | 3 => b == .GLB || b == .PWR || b == .CLK || b == .EVC || b == .HLTH || b == .SILO || b == .SHF
  | 10 => b == .GLB || b == .PWR || b == .CLK || b == .EVC || b == .HLTH || b == .SILO
  | 11 => b == .GLB || b == .HLTH
  | _ => true

end State

def modeDormant : Nat := 0
def modeEscapement : Nat := 1
def modeSelftest : Nat := 2
def modeUnsealed : Nat := 3
def modeLoading : Nat := 4
def modeStandby : Nat := 5
def modeOperational : Nat := 6
def modeShadow : Nat := 7
def modeDrain : Nat := 8
def modeMaintenance : Nat := 9
def modeAlarm : Nat := 10
def modeRetired : Nat := 11

/-- The member holds the SHADOW role, in TWIN-SHADOW or, where it took the role in MAINTENANCE or DRAIN, still in that mode: it
runs no channel (R239). -/
def shadows (s : State) : Bool := s.mode == modeShadow || s.f TWN_STATUS.ROLE 0 == 2

/-! ### Consistency checks (R10, R541, R542) -/

/-- Record a refusal: the last-refusal record, its count and its event (R542). `code` is the master code of R401. -/
def recordRefusal (s : State) (blk code inst reason : Nat) : State :=
  let s := s.setReg .GLB_LASTREF 0 (BitVec.ofNat 32 (blk * 2 ^ 24 + code * 2 ^ 16 + reason))
  let s := s.setReg .GLB_LASTREF_INST 0 (BitVec.ofNat 32 inst)
  let s := s.setReg .GLB_LASTREF_TIME_LO 0 (BitVec.ofNat 32 s.rtc.toNat)
  let s := s.setReg .GLB_LASTREF_TIME_HI 0 (BitVec.ofNat 32 (s.rtc.toNat / 2 ^ 32))
  (s.inc .GLB_REFUSALS 0).raise GLB_EVT.REFUSAL 0

/-- A check of a master ends with an acceptance: BUSY clear, OK set, REASON zero. -/
def acceptCheck (s : State) (chk : Reg) (m : Master) : State := s.setReg chk (masterIdx m) 0x40000000

/-- A check of a master ends with a refusal, which changes nothing but the check register and the record (R10). -/
def refuseCheck (s : State) (chk : Reg) (m : Master) (inst reason : Nat) : State :=
  recordRefusal (s.setReg chk (masterIdx m) (BitVec.ofNat 32 reason)) (chk.info.blk.base / 2 ^ 16 % 256) (masterCode m) inst
    reason

/-- A consistency check: `codes` are the causes that apply; the lowest is reported, and with none the request takes
effect. -/
def checked (s : State) (chk : Reg) (m : Master) (inst : Nat) (codes : List Nat) (effect : State → State) : State :=
  match codes.min? with
  | none => effect (acceptCheck s chk m)
  | some c => refuseCheck s chk m inst c

/-- A cause of refusal, when it applies. -/
def cause (b : Bool) (code : Nat) : List Nat := if b then [code] else []

/-- Software's bits of a register written. -/
def maskedWrite (r : Reg) (v : Word) : Word := v &&& BitVec.ofNat 32 r.info.wmask

/-- A register access does nothing while the block's domain is off: its address is then answered DECERR (R535). -/
def whenUp (s : State) (b : Blk) (effect : State → State) : State := if s.blkUp b then effect s else s

/-- Personalisation string of a random-number instance: node ID and engine number, padded (R216; the padding and the width
of the number are DESIGN CHOICE, log 45). -/
def drbgPers (s : State) (e : Nat) : List Byte := beBytes 8 s.silo.node.toNat ++ [BitVec.ofNat 8 e] ++ zeros 39

/-! ### Selectors (R536) -/

/-- Selector, its error bit and the values that map a window, by block. -/
def selField : SelBlock → Fld × Fld
  | .port => (PORT_SEL.PORT, PORT_SEL_ERR.ERR)
  | .ch => (CH_SEL.CH, CH_SEL_ERR.ERR)
  | .fab => (FAB_LINK_SEL.LINK, FAB_LINK_SEL_ERR.ERR)
  | .eng => (ENG_SEL.ENG, ENG_SEL_ERR.ERR)
  | .mem => (MEM_SEL.CTRL, MEM_SEL_ERR.ERR)
  | .dma => (DMA_SEL.CH, DMA_SEL_ERR.ERR)
  | .hlth => (HLTH_LANE_SEL.LANE, HLTH_LANE_SEL_ERR.ERR)

def selBlk : SelBlock → Blk
  | .port => .PORT | .ch => .CH | .fab => .FAB | .eng => .ENG | .mem => .MEM | .dma => .DMA | .hlth => .HLTH

/-- Lanes and slices 16–31 are fused off on a QM-6400-HA (R2). -/
def State.isHA (s : State) : Bool := s.variant == 3

/-- Selector values that map a window (R70, R122, R249, R288, R410, R442, R529, R536). -/
def selMaps (s : State) (b : SelBlock) (v : Nat) : Bool :=
  match b with
  | .port => v < 64 && !(s.isHA && v % 32 ≥ 16)
  | .ch => v < 16384
  | .fab => v < 34 && !(s.isHA && v ≥ 16 && v < 32)
  | .eng => v < 70 && !(s.isHA && v ≥ 32 && v < 64)
  | .mem => v < 75 && !(s.isHA && ((v ≥ 32 && v < 64) || v == 72))
  | .dma => v < 64
  | .hlth => v < 80 && !(s.isHA && ((v ≥ 16 && v < 32) || (v ≥ 48 && v < 64)))

/-- Window that a master's selector shows, none where the value maps no window. -/
def selected (s : State) (b : SelBlock) (m : Master) : Option Nat :=
  let v := s.f (selField b).1 (masterIdx m)
  if selMaps s b v then some v else none

/-- Run an access to a window on the selected unit; through a value that maps no window it sets the error bit and does
nothing else. -/
def inWindow (s : State) (b : SelBlock) (m : Master) (effect : Nat → State → State) : State :=
  match selected s b m with
  | some i => effect i s
  | none => s.setF (selField b).2 (masterIdx m) 1

/-! ### Protected memory (R388–R401) -/

/-- Key of the flash in the table of regions; it has no controller (R372). -/
def flashRegion : Nat := 80

/-- Contents of an unlisted address of a controller's region: after a zeroisation context memory reads as zero throughout
(R392). -/
def ramDefault (s : State) (k : Nat) : Nat → Byte :=
  if k = 70 then (if s.ctxBlank then zeroByte else ctxByte) else if k = flashRegion then erasedByte else zeroByte

def State.ram (s : State) (k : Nat) : Mem := SMap.get (fun _ => []) s.rams k

def State.setRam (s : State) (k : Nat) (m : Mem) : State := { s with rams := SMap.set (fun _ => []) s.rams k m }

/-- Bytes of a region as its code would give them back, errors apart. -/
def ramBytes (s : State) (k a n : Nat) : List Byte := Mem.bytes (ramDefault s k) (s.ram k) a n

def State.memc (s : State) (k : Nat) : MemCtl := SMap.get (fun _ => MemCtl.reset) s.memCtl k

def State.setMemc (s : State) (k : Nat) (v : MemCtl) : State :=
  { s with memCtl := SMap.set (fun _ => MemCtl.reset) s.memCtl k v }

/-- Errors of a word. -/
def wordErr (s : State) (k word : Nat) : WordErr := SMap.get (fun _ => WordErr.none) s.errs (k + 75 * word)

def setWordErr (s : State) (k word : Nat) (e : WordErr) : State :=
  { s with errs := SMap.set (fun _ => WordErr.none) s.errs (k + 75 * word) e }

/-- Context memory is physical slot `CH_REMAP.SLOT` (R167). -/
def slotOf (s : State) (c : Nat) : Nat := s.f CH_REMAP.SLOT c

end Sys2Proof.Machine
end

