-- ==== Sys2Proof/Machine/SheafFields.lean ====
section
/-! DEFINITION. The fields of the committed sheaf that the other blocks read (R363, R371). -/

namespace Sys2Proof.Machine

/-! ### POLICY -/

def polByte (s : State) (i : Nat) : Nat := (byteAt s.sheaf.policy i).toNat

/-- SUITE_FLOOR, a rank (R175). -/
def polSuiteFloor (s : State) : Nat := polByte s 1

/-- Allowed suites. -/
def polSuites (s : State) : List Nat :=
  ((List.range 4).map fun i => leAt s.sheaf.policy (4 + 2 * i) 2).filter (· != 0)

def polCipher (s : State) (x : Nat) : Bool := bitAt (polByte s 12) x
def polImport (s : State) (x : Nat) : Bool := bitAt (polByte s 13) x

/-- LEGACY[0]: Bale Seal version 1 allowed; LEGACY[1]: QM-0800 register view allowed. -/
def polBaleV1 (s : State) : Bool := bitAt (polByte s 14) 0
def polView1 (s : State) : Bool := bitAt (polByte s 14) 1
def polFabFloor (s : State) : Nat := polByte s 15
def polPeerSvn (s : State) : Nat := leAt s.sheaf.policy 16 4
def polRootMax (s : State) : Nat := leAt s.sheaf.policy 20 2

/-- Tithe fraction in units of 0.01 % (R219). -/
def polTithe (s : State) : Nat := leAt s.sheaf.policy 22 2
def polTfcReq (s : State) (linePort : Nat) : Bool := bitAt (leAt s.sheaf.policy 24 4) (linePort - 32)
def polBypass (s : State) (clientPort : Nat) : Bool := bitAt (leAt s.sheaf.policy 28 4) clientPort
def polLpbk (s : State) (mode : Nat) : Bool := bitAt (polByte s 32) (mode - 1)
def polQuorumMin (s : State) : Nat := polByte s 33
def polHostActivate (s : State) : Bool := bitAt (polByte s 34) 0
def polHostStage (s : State) : Bool := bitAt (polByte s 34) 1

/-! ### PORTMAP -/

def pmBaleEtype (s : State) : Nat := leAt s.sheaf.portmap 2 2
def pmTitheEtype (s : State) : Nat := leAt s.sheaf.portmap 4 2
def pmTitheDa (s : State) : List Byte := sliceAt s.sheaf.portmap 6 6

/-- ALLOW entry for a port at a width code: bit 0 Ethernet, bit 1 OTN. -/
def pmAllow (s : State) (p width type : Nat) : Bool :=
  bitAt (byteAt s.sheaf.portmap (16 + p / 32 * 128 + p % 32 * 4 + width)).toNat type

def pmLineSa (s : State) (linePort : Nat) : List Byte := sliceAt s.sheaf.portmap (272 + 6 * (linePort - 32)) 6

/-! ### BANKCFG -/

def bcByte (s : State) (i : Nat) : Nat := (byteAt s.sheaf.bankcfg i).toNat

/-- Class of an engine: 0 data, 1 key, 2 management (R259). -/
def engClass (e : Nat) : Nat := if e < 64 then 0 else if e < 68 then 1 else 2

/-- Offset in BANKCFG of the 48-byte class record that governs an engine: its override, or its class's record. -/
def bcRecord (s : State) (e : Nat) : Nat :=
  match (List.range (bcByte s 1)).find? fun i => bcByte s (160 + 56 * i) == e with
  | some i => 168 + 56 * i
  | none => 16 + 48 * engClass e

/-- Code window `i` of the class record at an offset of BANKCFG: base and limit in bundle-address form, none where it is zero
(R371). -/
def recWindow (b : List Byte) (o i : Nat) : Nat × Nat := (leAt b (o + 8 + 8 * i) 4, leAt b (o + 12 + 8 * i) 4)

/-- Code window `i` of an engine. -/
def bcWindow (s : State) (e i : Nat) : Nat × Nat := recWindow s.sheaf.bankcfg (bcRecord s e) i

/-- A bundle address lies in a code window of the engine (R316). -/
def inCodeWindow (s : State) (e a : Nat) : Bool :=
  (List.range 4).any fun i => let w := bcWindow s e i; w != (0, 0) && w.1 ≤ a && a < w.2

/-- Bank `k` is wholly strong by the class record at an offset of BANKCFG, or on an engine. -/
def recStrong (b : List Byte) (o k : Nat) : Bool := bitAt (byteAt b (o + 1)).toNat k
def bankStrong (s : State) (e k : Nat) : Bool := recStrong s.sheaf.bankcfg (bcRecord s e) k

/-- Physical lines of a bank by class (R259): 64, 128 or 256 KiB. -/
def bankLines (cls : Nat) : Nat := match cls with | 0 => 1024 | 1 => 2048 | _ => 4096

/-- Lines of each code window of a class record that lies in bank `k`. -/
def windowLines (b : List Byte) (o k : Nat) : List Nat :=
  (List.range 4).filterMap fun i =>
    let w := recWindow b o i
    if w != (0, 0) && w.1 / 2 ^ 30 == k then some ((w.2 - w.1) / 64) else none

/-- Light lines whose room the strong areas of bank `k` take. -/
def strongRoom (b : List Byte) (o k : Nat) : Nat := (windowLines b o k).foldl (fun n l => n + 9 * ceilDiv l 8) 0

/-- Usable bytes of bank `k` under a class record (R390): 8 strong lines take the room of 9 light ones. -/
def recSize (b : List Byte) (o cls k : Nat) : Nat :=
  if recStrong b o k then bankLines cls / 9 * 8 * 64
  else (bankLines cls - strongRoom b o k + (windowLines b o k).foldl (· + ·) 0) * 64

/-- Usable bytes of a bank of an engine. -/
def bankSize (s : State) (e k : Nat) : Nat :=
  if s.sheaf.bankcfg = [] then bankLines (engClass e) * 64 else recSize s.sheaf.bankcfg (bcRecord s e) (engClass e) k

/-- The strong code protects a word of a region (R388). Engine addresses have the bank in bits [31:30] (R300). -/
def isStrong (s : State) (k a : Nat) : Bool :=
  if k < 70 then bankStrong s k (a / 2 ^ 30) || inCodeWindow s k (a / 64 * 64)
  else if k = 71 ∨ k = 72 then bcByte s 2 == 1
  else if k = 73 then bcByte s 3 == 1 || s.sheaf.bankcfg == []
  else true

/-- Pages of a buffer half (R390, R402). -/
def halfPages (s : State) : Nat := if bcByte s 2 == 1 then 10922 else 12288

end Sys2Proof.Machine
end

