-- ==== Sys2Proof/Machine/GranaryMap.lean ====
section
/-! DEFINITION. The Granary as words (R388, R407, R501). Its contents stand in the state's key store, once; each word of them
stands in two copies of 65,536 words, whose errors the state holds under controller 74. Where an area lies is the model's
(DESIGN CHOICE, log 110). -/

namespace Sys2Proof.Machine

/-- Officers in the order of their numbers. -/
def sortedOfficers (os : List Officer) : List Officer :=
  (List.range 256).filterMap fun n => os.find? fun o => o.num == n

/-- Officer-set digest (R508). -/
def osDigest (os : List Officer) : List Byte :=
  Crypto.sha384 ((sortedOfficers os).map fun o => BitVec.ofNat 8 o.num :: o.mlPub ++ o.ecPub).flatten

/-- Officers of an enrolment whose keys agree with the Granary's digest of them; keys that do not are of no use (R501). -/
def checkedOfficers (d : Domain) : List Officer := if osDigest d.officers = d.osd then d.officers else []

/-- The public keys of a pin agree with the Granary's digest of them (R501). -/
def pinKeysOk (p : Pin) : Bool := Crypto.sha384 (p.mlPub ++ p.ecPub) == p.keysHash

/-- Controller of the Granary (R388). -/
def granaryCtl : Nat := 74

/-- Words of one copy; the second copy follows the first. -/
def granaryWords : Nat := 65536

/-- Area that a word of a copy belongs to, and its place there. -/
def granaryArea (w : Nat) : GranaryArea × Nat :=
  if w < 1024 then (.identity, w)
  else if w < 3072 then (.domain, w - 1024)
  else if w < 3088 then (.fabric, w - 3072)
  else if w < 4096 then (.custody, w - 3088)
  else if w < 8192 then (.importKey ((w - 4096) / 1024), (w - 4096) % 1024)
  else (.pin ((w - 8192) / 8), (w - 8192) % 8)

/-- A fabric key with its KEY_ID. -/
def fabricImage (k : Option (Nat × List Byte)) : List Byte :=
  match k with
  | some (id, key) => BitVec.ofNat 8 id :: zeros 7 ++ sliceAt key 0 32
  | none => zeros 40

/-- Entry of the pin index: node ID, digest of the pinned public keys, role, status, partner index. -/
def pinImage (s : State) (p : Pin) : List Byte :=
  beBytes 8 p.node.toNat ++ p.keysHash ++ [BitVec.ofNat 8 (b2n p.twin), BitVec.ofNat 8 (b2n p.changed)] ++
    leBytes 2 (s.silo.pins.findIdx fun q => q.node == p.partner) ++ zeros 4

/-- What an area holds (R501). -/
def granaryContent (s : State) : GranaryArea → List Byte
  | .identity => if s.silo.identity then sliceAt Config.identityMl 0 32 ++ sliceAt Config.identityEc 0 48 else []
  | .domain =>
    match s.silo.domain with
    | some d => sliceAt d.id 0 16 ++ BitVec.ofNat 8 d.k :: zeros 7 ++ sliceAt d.osd 0 48 ++
        ((chunks 2689 (d.custKeys.length / 2689) d.custKeys).map Crypto.sha384).flatten ++ leBytes 8 s.silo.seq.toNat
    | none => []
  | .fabric => if s.silo.fabKey.isSome || s.silo.prevKey.isSome then fabricImage s.silo.fabKey ++ fabricImage s.silo.prevKey else []
  | .custody => s.silo.custody.getD []
  | .importKey i =>
    match s.silo.importKeys[i]? with
    | some k => sliceAt k.id 0 8 ++ k.dk ++ k.ecPriv
    | none => []
  | .pin i =>
    match s.silo.pins[i]? with
    | some p => pinImage s p
    | none => []

/-- A word of a copy: none where its valid bit is clear. -/
def granaryWord (s : State) (w : Nat) : Option Nat :=
  if w < 2 * granaryWords then
    let a := granaryArea (w % granaryWords)
    let b := granaryContent s a.1
    if 8 * a.2 < b.length then some (leNat (sliceAt b (8 * a.2) 8)) else none
  else none

end Sys2Proof.Machine
end

