-- ==== Sys2Proof/Machine/MemOps.lean ====
section
/-! DEFINITION. Reads and writes of protected memory: correction, poison, partial writes and the error log
(R389, R391, R393–R401, R409). -/

namespace Sys2Proof.Machine

/-- Data of a word, errors apart. -/
def ramWord (s : State) (k word : Nat) : Nat :=
  if k = granaryCtl then (granaryWord s word).getD 0 else leNat (ramBytes s k (8 * word) 8)

/-- What a read of a word finds (R389). -/
inductive WordRead where
  | clean
  /-- Corrected; the positions that were wrong. -/
  | corrected (bits : List Nat)
  | bad
  /-- More errors than the code detects, unnoticed: the value that comes out. -/
  | wrong (v : Nat)
  deriving DecidableEq, Repr

/-- Decode a word under its code: light corrects 1 and detects 2 wrong bits, strong corrects 2 and detects 3 (R389). -/
def readWord (s : State) (k word : Nat) : WordRead :=
  let e := (wordErr s k word).flips
  let strong := isStrong s k (8 * word)
  let corr := if strong then 2 else 1
  if e.length = 0 then .clean
  else if e.length ≤ corr then .corrected e
  else if e.length = corr + 1 then .bad
  else
    match Config.misdecode strong (BitVec.ofNat 64 (ramWord s k word)) e with
    | none => .bad
    | some v => .wrong v.toNat

/-- A word is poisoned: a read of it finds an uncorrectable error (R395). -/
def poisoned (s : State) (k word : Nat) : Bool := readWord s k word == .bad

/-! ### Log (R400, R401) -/

def kindCE : Nat := 0
def kindUE : Nat := 1
def kindPoisonWrite : Nat := 2
def kindCleared : Nat := 3
def kindCandidate : Nat := 4
def kindVote : Nat := 5
def kindParity : Nat := 6

/-- An entry for a word of a controller: `bits` are the corrected positions and `wrong` those that make the raw syndrome.
Granary entries carry ADDR, KIND and TIME only. -/
def logEntry (s : State) (k kind op : Nat) (wb : Bool) (code : Nat) (bits wrong : List Nat) (word : Nat) : LogEnt :=
  let strong := isStrong s k (8 * word)
  let synd := if wrong = [] then 0 else (Config.syndrome strong wrong).toNat
  let head := 2 ^ 31 + kind * 2 ^ 27 + (if k = 74 then 0
    else op * 2 ^ 24 + b2n wb * 2 ^ 23 + code * 2 ^ 16 + bits.getD 0 0xFF * 2 ^ 8 + bits.getD 1 0xFF)
  ⟨BitVec.ofNat 32 head, BitVec.ofNat 32 (8 * word),
    BitVec.ofNat 32 (if k = 74 then 0 else (if strong then synd else synd % 256) * 2 ^ 16), BitVec.ofNat 32 s.rtc.toNat⟩

/-- Append an entry: the first-error record takes it when empty, the FIFO takes it or counts it as lost (R400). -/
def appendLog (s : State) (k : Nat) (e : LogEnt) : State :=
  let s := if bitAt (s.reg .MEM_FE (4 * k)).toNat 31 then s
    else (((s.setReg .MEM_FE (4 * k) e.w0).setReg .MEM_FE (4 * k + 1) e.w1).setReg .MEM_FE (4 * k + 2) e.w2).setReg
      .MEM_FE (4 * k + 3) e.w3
  let c := s.memc k
  if c.fifo.length < 16 then s.setMemc k { c with fifo := c.fifo ++ [e] }
  else ((s.setF MEM_OVF.COUNT k (satAdd 16 (s.f MEM_OVF.COUNT k) 1)).setF MEM_OVF.LOST k 1).raise MEM_EVT.LOST k

/-- Log a correction, a vote or a parity error of a word. -/
def memLog (s : State) (k kind op : Nat) (wb : Bool) (code : Nat) (bits : List Nat) (word : Nat) : State :=
  appendLog s k (logEntry s k kind op wb code bits bits word)

/-- Log what is found of a word that cannot be corrected: no position, and the syndrome of the word. -/
def memLogBad (s : State) (k kind op code word : Nat) : State :=
  appendLog s k (logEntry s k kind op false code [] (wordErr s k word).flips word)

/-! ### Valid bits (R391) -/

/-- Valid bits of words that nothing has written: clear, but for the context words that reset to R129's values. -/
def validDefault (s : State) (key : Nat) : Bool := (List.range 8).any fun i => ramDefault s (key % 75) (8 * (key / 75) + i) != 0

/-- The valid bit of a word: what two of its three copies say. Of the Granary the words that hold something are valid. -/
def wordValid (s : State) (k word : Nat) : Bool :=
  if k = granaryCtl then (granaryWord s word).isSome else SMap.get (validDefault s) s.valid (k + 75 * word)

/-- One of the three copies. -/
def validCopy (s : State) (k word : Nat) (i : Fin 3) : Bool := wordValid s k word != ((wordErr s k word).odd == some i)

/-- All three copies written. -/
def setValid (s : State) (k word : Nat) (b : Bool) : State :=
  { setWordErr s k word { wordErr s k word with odd := none } with
    valid := SMap.set (validDefault s) s.valid (k + 75 * word) b }

/-- The copies are read by vote: one that disagrees is rewritten and logged as VOTE. -/
def voteRead (s : State) (k word op code : Nat) : State :=
  if (wordErr s k word).odd.isSome then
    memLog (setWordErr s k word { wordErr s k word with odd := none }) k kindVote op false code [] word
  else s

/-- One copy turns over. A second wrong copy turns the vote: a word that was valid reads as zero from then on, and in one that
was not the cells hold something free (DESIGN CHOICE, log 100). A Granary word whose vote turns cannot be corrected
(DESIGN CHOICE, log 110). -/
def voteError (s : State) (k word : Nat) (i : Fin 3) : State :=
  let e := wordErr s k word
  match e.odd with
  | none => setWordErr s k word { e with odd := some i }
  | some j =>
    if i = j then setWordErr s k word { e with odd := none }
    else if k = granaryCtl then setWordErr s k word { e with odd := none, flips := [64, 65, 66] }
    else
      let was := wordValid s k word
      let t := setValid s k word !was
      let cells := if was then (zeros 8, t) else t.free 8
      let t := cells.2.setRam k (Mem.put (ramDefault t k) (t.ram k) (8 * word) (cells.1.map some))
      setWordErr t k word { e with flips := [], odd := (List.finRange 3).find? fun x => x != i && x != j }

/-! ### Small tables (R408) -/

/-- A table entry is good: one whose parity is wrong counts as a miss (R408). -/
def entryGood (s : State) (t : Nat → Option TableEnt) (c : Nat) : Bool := !(t c).any fun x => s.lost.contains x

/-- The classifiers' entries of a channel (R408). -/
def egressEnt (c : Nat) : Option TableEnt := if h : c < 16384 then some (.egress ⟨c, h⟩) else none
def ingressEnt (c : Nat) : Option TableEnt := if h : c < 16384 then some (.ingress ⟨c, h⟩) else none

/-- Index of a table entry, which its log entry carries as the word's number (DESIGN CHOICE, log 100). -/
def entryIndex : TableEnt → Nat
  | .egress c | .ingress c => c.val
  | .hash _ t _ => t.val
  | .route a => a.toNat

/-- A look-up meets an entry: where its parity is wrong, PARITY is logged in controller 73 and firmware puts the entry back
from its copy. -/
def meetEntry (s : State) (t : TableEnt) (code : Nat) : State :=
  if s.lost.contains t then { memLog s 73 kindParity 0 false code [] (entryIndex t) with lost := s.lost.filter (· != t) } else s

/-- A look-up meets several entries. -/
def meetEntries (s : State) (ts : List TableEnt) (code : Nat) : State := ts.foldl (fun s t => meetEntry s t code) s

/-! ### Hard-fault candidates (R399) -/

/-- Entries whose window has not run out. -/
def liveTracks (s : State) (k : Nat) : List Track :=
  (s.memc k).tracks.filter fun t => s.rtc.toNat < t.first.toNat + s.f MEM_CFG.RETIRE_H k * 3600000000

/-- Room in a table of 32 entries, which stand in the order of their first corrections: the oldest that is no candidate
leaves. -/
def evictTrack (ts : List Track) : List Track :=
  if ts.length < 32 then ts
  else match ts.find? fun t => !t.candidate with
    | some t => ts.erase t
    | none => ts.drop 1

/-- Count a correction of a word; the third within the window logs a candidate. -/
def trackCorrection (s : State) (k word op code : Nat) (bits : List Nat) : State :=
  let ts := liveTracks s k
  let old := ts.find? fun t => t.word == word
  let n := match old with | some t => t.count + 1 | none => 1
  let first := match old with | some t => t.first | none => s.rtc
  let cand := n ≥ 3 || (match old with | some t => t.candidate | none => false)
  let t : Track := ⟨word, if n ≥ 3 then 0 else n, first, cand⟩
  let ts := if old.isSome then ts.map fun o => if o.word == word then t else o else evictTrack ts ++ [t]
  let s := s.setMemc k { s.memc k with tracks := ts }
  let s := s.setF MEM_STATUS.CANDIDATES k ((ts.filter (·.candidate)).length)
  if n ≥ 3 then (memLog s k kindCandidate op false code bits word).raise MEM_EVT.CANDIDATE k else s

/-! ### Reads -/

/-- The word's corrected value waits for the write-back; an engine bank has one register for it (R393). -/
def queueWriteBack (s : State) (k word : Nat) : State × Bool :=
  let c := s.memc k
  let busy := k < 70 && c.writeBack.any fun w => w != word && 8 * w / 2 ^ 30 == 8 * word / 2 ^ 30
  if busy then (s, false) else (s.setMemc k { c with writeBack := c.writeBack ++ [word] }, true)

/-- The word's corrected value already waits for its write-back (R393). -/
def writeBackDue (s : State) (k word : Nat) : Bool := (s.memc k).writeBack.contains word

/-- Consequences of reading a word: vote, count, log, event, write-back (R391, R393, R395, R399, R400). `code` is the reader of
R401. A word whose write-back waits is served from it: one write-back and one entry, from the first reader (R393, R394). -/
def noteRead (s : State) (k word op code : Nat) : State :=
  let s := voteRead s k word op code
  match readWord s k word with
  | .corrected bits =>
    if writeBackDue s k word then s else
    let (s, wb) := queueWriteBack s k word
    let s := memLog s k kindCE op wb code bits word
    trackCorrection ((s.inc .MEM_CE k).raise MEM_EVT.CE k) k word op code bits
  | .bad => ((memLogBad s k kindUE op code word).inc .MEM_UE k).raise MEM_EVT.UE k
  | _ => s

/-- Words that `n` bytes from `a` touch. -/
def wordsOf (a n : Nat) : List Nat :=
  if n = 0 then [] else (List.range ((a + n - 1) / 8 - a / 8 + 1)).map (a / 8 + ·)

/-- Read `n` bytes: the data, with zero for every byte of a poisoned word; whether any word was poisoned; the state. -/
def memRead (s : State) (k a n op code : Nat) : List Byte × Bool × State :=
  let ws := wordsOf a n
  let bad := ws.any fun w => poisoned s k w
  let data := (List.range n).map fun i =>
    match readWord s k ((a + i) / 8) with
    | .bad => 0
    | .wrong v => BitVec.ofNat 8 (v / 2 ^ (8 * ((a + i) % 8)))
    | _ => Mem.read (ramDefault s k) (s.ram k) (a + i)
  (data, bad, ws.foldl (fun s w => noteRead s k w op code) s)

/-! ### Writes -/

/-- Positions that a stuck bit makes wrong under a value. -/
def stuckWrong (e : WordErr) (v : Nat) : List Nat :=
  (e.stuck.filter fun p =>
    if p.1 < 64 then v.testBit p.1 != p.2 else Config.stuckCheckWrong p.1 p.2 (BitVec.ofNat 64 v)).map (·.1)

/-- Positions set in a mask of `n` bits, from `base`. -/
def maskBits (base n m : Nat) : List Nat := ((List.range n).filter fun i => m.testBit i).map (base + ·)

/-- Corruption that an armed `MEM_FLIPMASK` makes in the next write of a request (R409), and the state with MODE 0: a word of the
light code has eight check bits only. -/
def takeFlip (s : State) (k word : Nat) : List Nat × State :=
  let m := s.f MEM_FLIPMASK.MODE k
  let check := maskBits 64 (if isStrong s k (8 * word) then 16 else 8) (s.f MEM_FLIPMASK.CHECK k)
  let data := maskBits 0 32 (s.f MEM_FLIPDATA.DATA (2 * k)) ++ maskBits 32 32 (s.f MEM_FLIPDATA.DATA (2 * k + 1))
  if m = 0 then ([], s)
  else ((if m = 2 then data else []) ++ check, (s.setF MEM_FLIPMASK.MODE k 0).setF MEM_STATUS.FLIP_ARMED k 0)

/-- Errors that two lists of flips leave. -/
def xorFlips (a b : List Nat) : List Nat := (a.filter fun x => !b.contains x) ++ (b.filter fun x => !a.contains x)

/-- Store a word whole, with a fresh code, an armed corruption and the stuck bits it has. -/
def storeWord (s : State) (k word : Nat) (bs : List (Option Byte)) (byRequest : Bool) : State :=
  let s := s.setRam k (Mem.put (ramDefault s k) (s.ram k) (8 * word) bs)
  let (fl, s) := if byRequest then takeFlip s k word else ([], s)
  let e := wordErr s k word
  let s := setValid (setWordErr s k word { e with flips := xorFlips (stuckWrong e (ramWord s k word)) fl }) k word true
  s.setMemc k { s.memc k with writeBack := (s.memc k).writeBack.filter (· != word) }

/-- A write of context memory by the Silo key path or by management takes every cached copy of its line (R22; at once: DESIGN
CHOICE, log 95). The data plane, the queue manager and the data engines (codes 0x50, 0x51 and below 64) are no such writers. -/
def uncache (s : State) (k word code : Nat) : State :=
  if k = 70 ∧ 64 ≤ code ∧ code ≠ 0x50 ∧ code ≠ 0x51 then
    s.setMemc k { s.memc k with copies := (s.memc k).copies.filter fun x => x.2 != word / 8 }
  else s

/-- Write of one word with its byte lanes: whole-word and partial writes as R396 states. The Bool says that the write
was refused because the old word is poisoned. A partial write that meets the word's write-back merges into the corrected value
and is counted once (R394). -/
def writeWord (s : State) (k word : Nat) (lanes : List (Option Byte)) (code : Nat) : Bool × State :=
  if lanes.all (·.isNone) then (false, s)
  else if lanes.all (·.isSome) then
    let s := if poisoned s k word then memLogBad s k kindCleared 4 code word else s
    (false, uncache (storeWord s k word lanes true) k word code)
  else
    let s := voteRead s k word 1 code
    match readWord s k word with
    | .bad => (true, (memLogBad s k kindPoisonWrite 1 code word).raise MEM_EVT.POISON_WRITE k)
    | .corrected bits =>
      let s := if writeBackDue s k word then s
        else trackCorrection (((memLog s k kindCE 1 true code bits word).inc .MEM_CE k).raise MEM_EVT.CE k) k word 1 code bits
      (false, uncache (storeWord s k word lanes true) k word code)
    | _ => (false, uncache (storeWord s k word lanes true) k word code)

/-- Write bytes from an address; `none` leaves a byte alone. True where some word was refused (R396). -/
def memWrite (s : State) (k a : Nat) (bs : List (Option Byte)) (code : Nat) : Bool × State :=
  (wordsOf a bs.length).foldl (fun (r : Bool × State) w =>
    let lanes := (List.range 8).map fun j =>
      if 8 * w + j < a then none else (bs[8 * w + j - a]?).getD none
    let t := writeWord r.2 k w lanes code
    (r.1 || t.1, t.2)) (false, s)

/-- Errors left after the valid bits of a region are cleared: stuck bits stay with the cells (R392). -/
def clearErrs (m : SMap WordErr) (k : Nat) : SMap WordErr :=
  m.filterMap fun e =>
    if e.1 % 75 = k then (if e.2.stuck = [] then none else some (e.1, ⟨[], e.2.stuck, none⟩)) else some e

/-- Every word of a region reads as never written (R392). -/
def clearRegion (s : State) (k : Nat) : State :=
  let s := s.setRam k []
  let s := { s with errs := clearErrs s.errs k, valid := SMap.keep s.valid fun w => w % 75 != k }
  s.setMemc k { s.memc k with writeBack := [] }

/-! ### Writes of the Granary (R407) -/

/-- The key store changes: every Granary word whose value changes is written to both copies, each with a fresh code. -/
def granaryPut (s : State) (x : Silo) : State :=
  let t := { s with silo := x }
  ((s.errs.filter fun e => e.1 % 75 == granaryCtl).map fun e => e.1 / 75).foldl (fun u w =>
    if granaryWord s w = granaryWord t w then u
    else
      let e := wordErr u granaryCtl w
      let u := setWordErr u granaryCtl w { e with flips := if (granaryWord t w).isSome then stuckWrong e (ramWord t granaryCtl w) else [] }
      u.setMemc granaryCtl { u.memc granaryCtl with writeBack := (u.memc granaryCtl).writeBack.filter (· != w) }) t

/-! ### Shared SRAM and the code store (R373, R395) -/

def sramCtl : Nat := 73
def sramBase : Nat := 0x04000000
def sramSize : Nat := 0x800000

/-- First offset of the code store: none is held before a commit. -/
def codeStoreAt (s : State) : Nat := sramSize - leAt s.sheaf.struct 2 2 * 65536

/-- Image whose code an engine runs: the staged one where its slice selects it (R380). -/
def codeSheaf (s : State) (e : Nat) : Sheaf :=
  match s.staged with
  | some x => if e < 64 && bitAt (s.reg .SHF_SLICE_CODE 0).toNat (e / 2) then x else s.sheaf
  | none => s.sheaf

/-- Bytes of a data-engine image in the code store: those of its segments. -/
def imageLen (x : Section) : Nat :=
  (List.range (leAt x.bytes 28 2)).foldl (fun n i => n + ceilDiv (leAt x.bytes (36 + 8 * i) 4) 64 * 64) 0

/-- Data-engine images of a sheaf, in table order. -/
def dataImages (sh : Sheaf) : List Section := sh.code.filter fun x => (byteAt x.bytes 0).toNat == 0

/-- Start of the half of the code store that an engine loads from. -/
def storeHalf (s : State) (e : Nat) : Nat :=
  let size := sramSize - codeStoreAt s
  let stagedSel := s.staged.isSome && bitAt (s.reg .SHF_SLICE_CODE 0).toNat (e / 2)
  codeStoreAt s + (if s.codeHigh != stagedSel then size / 2 else 0)

/-- Place in shared SRAM of the image that a data engine loads: offset and length. Images stand in table order from the start
of their half (DESIGN CHOICE, log 49). -/
def imagePlace (s : State) (e : Nat) : Nat × Nat :=
  let imgs := dataImages (codeSheaf s e)
  let k := (imgs.findIdx? fun x => bitAt (leAt x.bytes 4 8) e).getD 0
  (storeHalf s e + (imgs.take k).foldl (fun n x => n + imageLen x) 0, match imgs[k]? with | some x => imageLen x | none => 0)

/-- Words with errors in the image that a data engine loads. -/
def imageWords (s : State) (e : Nat) : List Nat :=
  let p := imagePlace s e
  if e < 64 then
    (s.errs.filter fun x => x.1 % 75 == sramCtl && p.1 ≤ 8 * (x.1 / 75) && 8 * (x.1 / 75) < p.1 + p.2).map (·.1 / 75)
  else []

/-- One of them is uncorrectable. -/
def imageBad (s : State) (e : Nat) : Bool := (imageWords s e).any fun w => poisoned s sramCtl w

/-- The code store is read for an engine: what follows from the words with errors (R393, R395). -/
def imageLook (s : State) (e : Nat) : State := (imageWords s e).foldl (fun s w => noteRead s sramCtl w 0 e) s

end Sys2Proof.Machine
end

