-- ==== Sys2Proof/Machine/CtxOps.lean ====
section
/-! DEFINITION. Channel contexts: fields read and written through the remap table (R123, R124, R127, R128, R151, R167),
channel counters and channel events. -/

namespace Sys2Proof.Machine

def ctxCtl : Nat := 70

/-- Master codes of R401 for the context ports. -/
def codeData : Nat := 0x51
def codeSilo : Nat := 0x52
def codeQueue : Nat := 0x50

/-- Address in context memory of a window offset of a channel. -/
def ctxAddr (s : State) (c w : Nat) : Nat := 1024 * slotOf s c + slotOff w

/-- First byte of a field from its word, and the bytes that hold its bits. -/
def fieldFirst (x : CtxF) : Nat := x.lo / 8
def fieldBytes (x : CtxF) : Nat := (x.lo + x.len - 1) / 8 - x.lo / 8 + 1

/-- Value of a context field. -/
def ctx (s : State) (x : CtxF) (c : Nat) : Nat :=
  bitsOf (leNat (ramBytes s ctxCtl (ctxAddr s c x.off + fieldFirst x) (fieldBytes x))) (x.lo % 8) x.len

def ctxBit (s : State) (x : CtxF) (c : Nat) : Bool := ctx s x c != 0

/-- Bytes of a field that holds bytes, first byte at the lowest offset. -/
def ctxBytes (s : State) (x : CtxF) (c : Nat) : List Byte := ramBytes s ctxCtl (ctxAddr s c x.off) (x.len / 8)

/-- Some word that holds a field is poisoned. -/
def ctxPoisoned (s : State) (x : CtxF) (c : Nat) : Bool :=
  (wordsOf (ctxAddr s c x.off + fieldFirst x) (fieldBytes x)).any fun w => poisoned s ctxCtl w

/-- The data plane reads context lines: a word with errors is corrected or found bad, with what follows from it (R393,
R395). -/
def ctxLook (s : State) (c w n : Nat) : State :=
  let a := ctxAddr s c w
  ((s.errs.filter fun e => e.1 % 75 == ctxCtl && a ≤ 8 * (e.1 / 75) && 8 * (e.1 / 75) < a + n).map (·.1 / 75)).foldl
    (fun s x => noteRead s ctxCtl x 0 codeData) s

/-- Lines of the egress half that sequencing reads, and of the ingress half that the checks read (R127, R128). -/
def egLook (s : State) (c : Nat) : State := ctxLook s c 0x200 0x140
def inLook (s : State) (c : Nat) : State := ctxLook s c 0x400 0x140

/-- The replay map, which Bale Seal checks read (R153). -/
def mapLook (s : State) (c : Nat) : State := ctxLook s c 0x580 0x80

/-- A write of context bytes by the data plane or the Silo key path; of part of a poisoned word it is dropped, and
CTX_POISON is raised (R151, R396). -/
def ctxWriteBytes (s : State) (c w : Nat) (bs : List (Option Byte)) (code : Nat) : State :=
  let r := memWrite s ctxCtl (ctxAddr s c w) bs code
  if r.1 then r.2.raise CH_EVT.CTX_POISON c else r.2

/-- Write a context field. -/
def ctxSet (s : State) (x : CtxF) (c v code : Nat) : State :=
  let n := fieldBytes x
  let w := x.off + fieldFirst x
  let old := leNat (ramBytes s ctxCtl (ctxAddr s c w) n)
  ctxWriteBytes s c w ((leBytes n (putBits old (x.lo % 8) x.len v)).map some) code

/-- Field written by the data plane. -/
def ctxD (s : State) (x : CtxF) (c v : Nat) : State := ctxSet s x c v codeData

/-- Field written by the Silo key path. -/
def ctxC (s : State) (x : CtxF) (c v : Nat) : State := ctxSet s x c v codeSilo

/-! ### Key slots -/

def egKey (k : Nat) : CtxF := if k = 0 then Ctx.SLOT0_KEY else Ctx.SLOT1_KEY
def egAux (k : Nat) : CtxF := if k = 0 then Ctx.SLOT0_AUX else Ctx.SLOT1_AUX
def egEpoch (k : Nat) : CtxF := if k = 0 then Ctx.SLOT0_EPOCH else Ctx.SLOT1_EPOCH
def egSalt (k : Nat) : CtxF := if k = 0 then Ctx.SLOT0_SALT else Ctx.SLOT1_SALT
def inKey (k : Nat) : CtxF := match k with | 0 => Ctx.IN0_KEY | 1 => Ctx.IN1_KEY | _ => Ctx.IN2_KEY
def inAux (k : Nat) : CtxF := match k with | 0 => Ctx.IN0_AUX | 1 => Ctx.IN1_AUX | _ => Ctx.IN2_AUX
def inEpoch (k : Nat) : CtxF := match k with | 0 => Ctx.IN0_EPOCH | 1 => Ctx.IN1_EPOCH | _ => Ctx.IN2_EPOCH
def inSalt (k : Nat) : CtxF := match k with | 0 => Ctx.IN0_SALT | 1 => Ctx.IN1_SALT | _ => Ctx.IN2_SALT
def inHigh (k : Nat) : CtxF := match k with | 0 => Ctx.IN0_HIGH | 1 => Ctx.IN1_HIGH | _ => Ctx.IN2_HIGH

/-- The word with VALID, CUR and ROOT_OK of the egress half is poisoned: no key slot of the half is valid (R151). -/
def egHeadBad (s : State) (c : Nat) : Bool := ctxPoisoned s Ctx.VALID c
def inHeadBad (s : State) (c : Nat) : Bool := ctxPoisoned s Ctx.IN_VALID c

/-- Egress slot `k` holds a complete key that can be read (R139, R151). -/
def egValid (s : State) (c k : Nat) : Bool :=
  bitAt (ctx s Ctx.VALID c) k && !egHeadBad s c && !ctxPoisoned s (egKey k) c && !ctxPoisoned s (egAux k) c &&
    !ctxPoisoned s (egEpoch k) c && !ctxPoisoned s (egSalt k) c

def inValid (s : State) (c k : Nat) : Bool :=
  bitAt (ctx s Ctx.IN_VALID c) k && !inHeadBad s c && !ctxPoisoned s (inKey k) c && !ctxPoisoned s (inAux k) c &&
    !ctxPoisoned s (inEpoch k) c && !ctxPoisoned s (inSalt k) c

def setEgValid (s : State) (c k : Nat) (b : Bool) (code : Nat) : State :=
  ctxSet s Ctx.VALID c (putBits (ctx s Ctx.VALID c) k 1 (b2n b)) code

def setInValid (s : State) (c k : Nat) (b : Bool) (code : Nat) : State :=
  ctxSet s Ctx.IN_VALID c (putBits (ctx s Ctx.IN_VALID c) k 1 (b2n b)) code

def egCur (s : State) (c : Nat) : Nat := ctx s Ctx.CUR c
def egNext (s : State) (c : Nat) : Nat := 1 - egCur s c
def inCur (s : State) (c : Nat) : Nat := ctx s Ctx.IN_CUR c
def inNext (s : State) (c : Nat) : Nat := (inCur s c + 1) % 3
def inPrev (s : State) (c : Nat) : Nat := (inCur s c + 2) % 3

/-- A field that the Silo key path writes with the rest of its 64-bit word, which keeps what it holds: the write is whole, so it
also clears poison (R396, R397). -/
def ctxWhole (s : State) (x : CtxF) (c v : Nat) : State :=
  let w := (x.off + fieldFirst x) / 8 * 8
  let n := fieldBytes x
  let old := ramBytes s ctxCtl (ctxAddr s c w) 8
  let i := x.off + fieldFirst x - w
  let new := leBytes n (putBits (leNat (sliceAt old i n)) (x.lo % 8) x.len v)
  ctxWriteBytes s c w ((old.take i ++ new ++ old.drop (i + n)).map some) codeSilo

/-- The Silo key path writes the key, auxiliary key, epoch and salt of a slot (R139, R141, R397). -/
def putSlot (s : State) (c : Nat) (key aux epoch salt : CtxF) (k x : List Byte) (e slt : Nat) : State :=
  let s := ctxWriteBytes s c key.off (k.map some) codeSilo
  let s := ctxWriteBytes s c aux.off (x.map some) codeSilo
  ctxWhole (ctxWhole s epoch c e) salt c slt

/-- The Silo key path zeroes the key material of an egress slot (R141). -/
def zeroEgSlot (s : State) (c k : Nat) : State :=
  putSlot s c (egKey k) (egAux k) (egEpoch k) (egSalt k) (zeros 32) (zeros 32) 0 0

def zeroInSlot (s : State) (c k : Nat) : State :=
  putSlot s c (inKey k) (inAux k) (inEpoch k) (inSalt k) (zeros 32) (zeros 32) 0 0

/-! ### Counters of a channel (R24, R164) -/

/-- The sixteen counters in the order of R164. -/
def chCounter (i : Nat) : CtxF := ⟨if i < 8 then 0x340 + 8 * i else 0x540 + 8 * (i - 8), 0, 64, .d, false⟩

def cOutOk : Nat := 0
def cOutOctets : Nat := 1
def cOutPad : Nat := 2
def cOutDropQ : Nat := 3
def cOutDropNokey : Nat := 4
def cOutDropDrain : Nat := 5
def cOutMark : Nat := 6
def cEpochCount : Nat := 7
def cInOk : Nat := 8
def cInDropNokey : Nat := 9
def cInDropReplay : Nat := 10
def cInDropAuth : Nat := 11
def cInDropDeliv : Nat := 12
def cInPad : Nat := 13
def cInDropFmt : Nat := 14
def cInDropPack : Nat := 15

/-- The engines hold an increment until the flush (R24). -/
def chCount (s : State) (c i n : Nat) : State :=
  let k := 16 * c + i
  { s with cntPend := SMap.set (fun _ => 0) s.cntPend k (SMap.get (fun _ => 0) s.cntPend k + n) }

/-- Increments held for a channel reach its context (R24): each counter's word is read, which corrects it, and written whole. A
poisoned word has no count to add to: the increment is lost and the word stays poisoned (DESIGN CHOICE, log 104). -/
def flushCounters (s : State) (c : Nat) : State :=
  (List.range 16).foldl (fun s i =>
    let k := 16 * c + i
    let n := SMap.get (fun _ => 0) s.cntPend k
    if n = 0 then s
    else
      let s := ctxLook { s with cntPend := SMap.set (fun _ => 0) s.cntPend k 0 } c (chCounter i).off 8
      if ctxPoisoned s (chCounter i) c then s else ctxD s (chCounter i) c (satAdd 64 (ctx s (chCounter i) c) n)) s

/-! ### Channel state -/

def stDisabled : Nat := 0
def stKeying : Nat := 1
def stReady : Nat := 2
def stActive : Nat := 3
def stDraining : Nat := 4

def chState (s : State) (c : Nat) : Nat := s.f CH_STATUS.STATE c

def setChState (s : State) (c v : Nat) : State := s.setF CH_STATUS.STATE c v

/-- Sealing and opening (R132). -/
def chLive (s : State) (c : Nat) : Bool := chState s c == stActive || chState s c == stDraining

/-- Channels whose state is not DISABLED, in rising order. -/
def busyChannels (s : State) : List Nat :=
  ((s.regs.filter fun e => e.1 % Reg.count == Reg.CH_STATUS.ctorIdx).map fun e => e.1 / Reg.count).filter
    fun c => chState s c != stDisabled

end Sys2Proof.Machine
end

