-- ==== Sys2Proof/Machine/TwinLink.lean ====
section
/-! DEFINITION. The twin links: derivation of their keys, sealed frames, mirror records and acknowledgements as bytes
(R191, R238, R240–R242). -/

namespace Sys2Proof.Machine

/-! ### Node IDs and derivation (R191, R204) -/

def nodeBytes (n : W64) : List Byte := beBytes 8 n.toNat
def nodeOf (l : List Byte) : W64 := BitVec.ofNat 64 (beNat l)

/-- SP 800-108 counter mode with HMAC-SHA-384; `l` in bits, a multiple of 8. -/
def kdfCtr (key label context : List Byte) (l : Nat) : List Byte :=
  (((List.range (ceilDiv l 384)).map fun i =>
    Crypto.hmac384 key (beBytes 4 (i + 1) ++ label ++ [0] ++ context ++ beBytes 4 l)).flatten).take (l / 8)

/-! ### Link keys (R238) -/

/-- Partner's node ID. -/
def twinPartner (s : State) : W64 :=
  BitVec.ofNat 64 (beNat (leBytes 4 (s.reg .TWN_PARTNER 0).toNat ++ leBytes 4 (s.reg .TWN_PARTNER 1).toNat))

/-- This member has the lower node ID: it initiates the association, and its direction is 0x01. -/
def twinLower (s : State) : Bool := decide (s.silo.node.toNat < (twinPartner s).toNat)

/-- Link key and salt of a direction: 1 for the member with the lower node ID. -/
def twinDirKey (s : State) (dir : Byte) : List Byte :=
  kdfCtr s.twin.root (ascii "QVR-TWIN") (zeros 4 ++ [dir, 0xFF, 0, 0] ++ beBytes 2 s.twin.suite) 288

def twinTxKey (s : State) : List Byte := twinDirKey s (if twinLower s then 1 else 2)
def twinRxKey (s : State) : List Byte := twinDirKey s (if twinLower s then 2 else 1)

/-! ### Frames -/

/-- Kinds of twin frames (log 34). Handshake messages of an association go in clear, before any link key. -/
def twinHandshake : Nat := 0
def twinRoot : Nat := 1
def twinInstall : Nat := 2
def twinField : Nat := 3
def twinChState : Nat := 4
def twinReservation : Nat := 5
def twinHeartbeat : Nat := 7
def twinRelinquish : Nat := 8
def twinAck : Nat := 9
def twinFull : Nat := 10
/-- A tithe frame, from its header onward. -/
def twinTithe : Nat := 11
def twinPort : Nat := 12
/-- An imported SAK, Silo to Silo. -/
def twinSak : Nat := 13

def twinLinkField (k : Nat) : Fld := if k = 0 then TWN_STATUS.LINK0 else TWN_STATUS.LINK1

/-- A twin frame on link `k`: its sequence number, then kind and body sealed with IV = salt and sequence (R238). -/
def twinSendOn (s : State) (k kind : Nat) (body : List Byte) : State :=
  let key := twinTxKey s
  let seq := beBytes 8 s.twin.seqTx.toNat
  let r := Crypto.gcmSeal (key.take 32) (key.drop 32 ++ seq) [] (BitVec.ofNat 8 kind :: body)
  ({ s with twin := { s.twin with seqTx := s.twin.seqTx + 1 } }.emit (.twin k kind body (seq ++ r.1 ++ r.2))).inc
    .TWN_MIRROR_TX 0

/-- Link that carries what needs one only: link 0, or link 1 where link 0 is down. With no association a link's state is not
known: link 0 counts as down once a HELLO on it was not answered (DESIGN CHOICE, log 34). -/
def twinPath (s : State) : Nat :=
  if s.fb TWN_STATUS.ASSOC 0 then (if !s.fb TWN_STATUS.LINK0 0 && s.fb TWN_STATUS.LINK1 0 then 1 else 0) else b2n s.twin.skip0

def twinSend (s : State) (kind : Nat) (body : List Byte) : State := twinSendOn s (twinPath s) kind body

/-- Kind and body of a frame that arrives on link `k`: none where its tag fails or its sequence number is not above the
last one of the link. -/
def twinOpen (s : State) (k : Nat) (f : List Byte) : Option (List Byte) :=
  if f.length < 24 || beAt f 0 8 ≤ (s.twin.seqRx.getD k 0).toNat then none
  else
    let key := twinRxKey s
    Crypto.gcmOpen (key.take 32) (key.drop 32 ++ f.take 8) [] (sliceAt f 8 (f.length - 24)) (f.drop (f.length - 16))

/-- A frame arrives on link `k`. A valid one keeps the link up, and brings a lost one up again (R242); any other is dropped
and counted in LINK_ERR (DESIGN CHOICE, log 34). -/
def twinArrive (s : State) (k : Nat) (f : List Byte) : Option (List Byte) × State :=
  if !s.fb TWN_STATUS.ASSOC 0 then (none, s)
  else
    match twinOpen s k f with
    | some p =>
      let s := { s with twin := { s.twin with seqRx := setAt s.twin.seqRx k (BitVec.ofNat 64 (beAt f 0 8)), lost := false } }
      (some p, s.setF (twinLinkField k) 0 1)
    | none => (none, s.inc .TWN_LINK_ERR 0)

/-! ### Records (R240, R241) -/

def markBytes (m : Marks) : List Byte :=
  beBytes 2 m.ch ++ beBytes 8 m.nextSeq.toNat ++ (m.highs.map fun h => beBytes 8 h.toNat).flatten ++
    beBytes 8 m.otnGroup.toNat ++ (m.counters.map fun n => beBytes 8 n.toNat).flatten

def mirKind : MirrorRec → Nat
  | .root .. => twinRoot
  | .install .. => twinInstall
  | .field .. => twinField
  | .chState .. => twinChState
  | .reservation .. => twinReservation
  | .heartbeat _ => twinHeartbeat
  | .full .. => twinFull
  | .port .. => twinPort
  | .sak .. => twinSak

/-- Body of a record; the layouts are the model's (log 34). -/
def mirBody : MirrorRec → List Byte
  | .root c r life made init fTx fRx suite bv peer ch =>
    beBytes 2 c ++ r ++ beBytes 2 life ++ beBytes 8 made.toNat ++ [BitVec.ofNat 8 (b2n init)] ++ beBytes 4 fTx ++
      beBytes 4 fRx ++ beBytes 2 suite ++ [BitVec.ofNat 8 bv] ++ nodeBytes peer ++ beBytes 2 ch
  | .install c h e => beBytes 2 c ++ [BitVec.ofNat 8 (b2n (h == .ingress))] ++ beBytes 4 e.toNat
  | .field c off mask v => beBytes 2 c ++ beBytes 2 off.toNat ++ beBytes 4 mask.toNat ++ beBytes 4 v.toNat
  | .chState c st cur icur suite bv ch e =>
    beBytes 2 c ++ [BitVec.ofNat 8 st.toNat, BitVec.ofNat 8 cur.toNat, BitVec.ofNat 8 icur.toNat] ++ beBytes 2 suite.toNat ++
      [BitVec.ofNat 8 (b2n bv)] ++ beBytes 2 ch.toNat ++ beBytes 8 e.toNat
  | .reservation c r => beBytes 2 c ++ beBytes 8 r.toNat
  | .heartbeat ms => (ms.map markBytes).flatten
  | .full c st b => beBytes 2 c ++ [BitVec.ofNat 8 st.toNat] ++ b
  | .port p cfg => [BitVec.ofNat 8 p] ++ beBytes 4 cfg.toNat
  | .sak c key aux an => beBytes 2 c ++ key ++ aux ++ [BitVec.ofNat 8 an.toNat]

def ackBody : MirrorAck → List Byte
  | .install c h e => [0] ++ beBytes 2 c ++ [BitVec.ofNat 8 (b2n (h == .ingress))] ++ beBytes 4 e.toNat
  | .reservation c r => [1] ++ beBytes 2 c ++ beBytes 8 r.toNat
  | .sync on => [2, BitVec.ofNat 8 (b2n on)]

def sendRec (s : State) (r : MirrorRec) : State := twinSend s (mirKind r) (mirBody r)
def sendAck (s : State) (a : MirrorAck) : State := twinSend s twinAck (ackBody a)

/-- The ACTIVE member mirrors; the others send nothing. -/
def mirror (s : State) (r : MirrorRec) : State := if s.f TWN_STATUS.ROLE 0 = 1 then sendRec s r else s

/-- A channel number of 14 bits. -/
def chFin (c : Nat) : Fin 16384 := Fin.ofNat 16384 c

/-- STATE, CUR of both halves, SUITE, BALE_V1, PEER_CH and ROOT_END of a channel, mirrored at each change (R240). -/
def mirrorChan (s : State) (c : Nat) : State :=
  mirror s (.chState (chFin c) (BitVec.ofNat 3 (chState s c)) (BitVec.ofNat 1 (ctx s Ctx.CUR c))
    (BitVec.ofNat 2 (ctx s Ctx.IN_CUR c)) (BitVec.ofNat 16 (ctx s Ctx.SUITE c)) (ctxBit s Ctx.BALE_V1 c)
    (BitVec.ofNat 14 (ctx s Ctx.PEER_CH c)) (BitVec.ofNat 64 (ctx s Ctx.ROOT_END c)))

/-! ### External inputs (R248, R459, R543) -/

/-- GPIO `i` is an output: its DIR bit is set and nothing makes the pin an input, or the twin agent drives it (R543). -/
def gpioOut (s : State) (i : Nat) : Bool :=
  (s.fb TWN_CFG.ACT_EN 0 && s.f TWN_CFG.ACT_GPIO 0 == i) ||
  (bitAt (s.reg .GLB_GPIO_DIR 0).toNat i && !bitAt (s.f PWR_WAKE_EN.GPIO 0) i &&
    !(s.fb TWN_CFG.DEAD_IN_EN 0 && s.f TWN_CFG.DEAD_GPIO 0 == i))

/-- The twin agent's signal for the external switch: asserted while the member is ACTIVE or SOLO (R248). -/
def twinLeads (s : State) : Bool := s.f TWN_STATUS.ROLE 0 == 1 || s.f TWN_STATUS.ROLE 0 == 3

/-- Level of an external input: outputs follow the driven level (R543). -/
def pinLevel (s : State) (i : Nat) : Bool :=
  if i < 16 && gpioOut s i then
    (if s.fb TWN_CFG.ACT_EN 0 && s.f TWN_CFG.ACT_GPIO 0 == i then twinLeads s else bitAt (s.reg .GLB_GPIO_OUT 0).toNat i)
  else bitAt s.evc.pins i

/-- Input `i` is in its active state (R459). -/
def inputActive (s : State) (i : Nat) : Bool := pinLevel s i != s.fb EVC_IN_CFG.POL i

/-! ### The time of a takeover (R252) -/

/-- TIME of TWN_LAST_FO once the last channel of a takeover has resumed: no channel waits for its re-root any more. -/
def takeoverTime (s : State) : State :=
  match s.twin.foAt with
  | none => s
  | some t =>
    if s.keys.any fun e => e.2.waitReroot then s
    else
      let s := s.setF TWN_LAST_FO.TIME 0 (min 0xFFFF ((s.rtc.toNat - t.toNat) / 100))
      { s with twin := { s.twin with foAt := none } }

end Sys2Proof.Machine
end

