-- ==== Sys2Proof/Machine/PortOps.lean ====
section
/-! DEFINITION. Ports: lanes, pairing, occupancy, flow control and link state (R41–R69, R158). -/

namespace Sys2Proof.Machine

/-! ### Geometry (R41–R43) -/

def isLine (p : Nat) : Bool := p ≥ 32
def anchor (p : Nat) : Nat := p % 32
def portWidth (s : State) (p : Nat) : Nat := 2 ^ s.f PORT_CFG.WIDTH p

/-- Slices, and lanes, that a port occupies. -/
def portSlices (s : State) (p : Nat) : List Nat := (List.range (portWidth s p)).map (anchor p + ·)

def provisioned (s : State) (p : Nat) : Bool := s.fb PORT_STATUS.PROV p

/-- Provisioned ports, in rising order. -/
def provPorts (s : State) : List Nat := (List.range 64).filter fun p => provisioned s p

/-- Provisioned client ports paired with a line port. -/
def clientsOf (s : State) (lp : Nat) : List Nat :=
  (provPorts s).filter fun p => !isLine p && s.f PORT_CFG.PAIR p == lp

/-- A slice is provisioned while any port occupies one of its lanes (R32). -/
def sliceProvisioned (s : State) (sl : Nat) : Bool := (provPorts s).any fun p => (portSlices s p).contains sl

def sliceDrained (s : State) (sl : Nat) : Bool := bitAt (s.reg .SHF_DRAINED 0).toNat sl

/-- Lanes of two ports on one side meet. -/
def overlaps (s : State) (p q : Nat) : Bool := (portSlices s p).any fun l => (portSlices s q).contains l

/-- Buffer-memory half of a lane (R38). -/
def halfOf (lane : Nat) : Nat := lane / 16

def framing (s : State) (p : Nat) : Nat := s.f PORT_CFG.FRAMING p
def frMacsec : Nat := 0
def frBale : Nat := 1
def frOtn : Nat := 2

def linkUp (s : State) (p : Nat) : Bool := s.fb PORT_STATUS.LINK p

/-- The port receives: link up and not inside a down-hold (R60). -/
def receiving (s : State) (p : Nat) : Bool := provisioned s p && linkUp s p && !s.fb PORT_STATUS.HOLD p

/-! ### Channels of a port -/

def chLine (s : State) (c : Nat) : Nat := ctx s Ctx.LINE_PORT c
def chClient (s : State) (c : Nat) : Nat :=
  if framing s (chLine s c) = frOtn then chLine s c - 32 else ctx s Ctx.CLIENT_PORT c

/-- Framing of a channel is that of its line port (R81). -/
def chFraming (s : State) (c : Nat) : Nat := framing s (chLine s c)

/-- Enabled channels on a line port use traffic-flow confidentiality (R62). -/
def tfcOnPort (s : State) (lp : Nat) : Bool :=
  (busyChannels s).any fun c => chLive s c && chLine s c == lp && ctxBit s Ctx.TFC_EN c

/-- Enabled channels, or channels mirrored and not DISABLED (R245), that refer to a port. -/
def portInUse (s : State) (p : Nat) : Bool :=
  (busyChannels s).any fun c => chState s c ≥ stActive && (chLine s c == p || chClient s c == p) ||
    (shadows s && (chLine s c == p || chClient s c == p))

/-! ### Buffer-memory half (R158) -/

/-- KiB that the entries of R158 take from a half. -/
def halfSum (s : State) (h : Nat) : Nat :=
  ((provPorts s).filter fun p => halfOf (anchor p) == h).foldl
    (fun n p => n + if isLine p then 64 else s.f PORT_EXP_LIMIT.KIB p) 0 +
  (busyChannels s).foldl (fun n c =>
    if chFraming s c = frOtn then
      (if ctxBit s Ctx.OTN_HOLD c && halfOf (anchor (chLine s c)) == h then n + 119 else n)
    else if halfOf (anchor (chClient s c)) == h then n + ctx s Ctx.IQ_LIMIT c else n) 0

/-- Capacity of a half in KiB (R390, R402). -/
def halfCapacity (s : State) (h : Nat) : Nat :=
  4 * halfPages s - 4 * ((s.memc (71 + h)).retired.length + (s.memc (71 + h)).retiring.length)

/-- Some half is over-committed. -/
def overCommitted (s : State) (h : Nat) : Bool := halfSum s h > halfCapacity s h

/-! ### Occupancy and flow control (R65, R66) -/

/-- Length of a queued frame as it will stand on the line: with E under MACsec Seal, as a record under Bale Seal. -/
def lineLen (s : State) (c : Nat) (fr : QFrame) : Nat :=
  if chFraming s c = frMacsec then fr.len + 4 + 24 + 8 * ctx s Ctx.SCI_EXPL c else fr.len + 2

/-- Bytes of a client port's frames in the egress queues, of the priorities that satisfy `pri`. -/
def occupancyOf (s : State) (p : Nat) (pri : Nat → Bool) : Nat :=
  s.chans.foldl (fun n e => e.2.eq.foldl (fun n fr => if fr.port = p ∧ pri fr.pri then n + lineLen s e.1 fr else n) n) 0

/-- All frames count against PORT_EXP_LIMIT. -/
def occupancyAll (s : State) (p : Nat) : Nat := occupancyOf s p fun _ => true

/-- The occupancy that PORT_EXP_OCC reports and the thresholds see: under PFC, the flow-controlled priorities only. -/
def occupancy (s : State) (p : Nat) : Nat :=
  if s.f PORT_FC.MODE p = 2 then occupancyOf s p fun q => bitAt (s.f PORT_FC.PFC_PRI p) q else occupancyAll s p

/-- What PORT_EXP_OCC shows: whole KiB (R65; DESIGN CHOICE, log 75). -/
def occupancyKib (s : State) (p : Nat) : Nat := min 16383 (occupancy s p / 1024)

/-- Bytes in a channel's egress queue, counted the same way (R155). -/
def chanOccupancy (s : State) (c : Nat) : Nat := (s.chan c).eq.foldl (fun n fr => n + lineLen s c fr) 0

/-- Line address of a client port in frames that it makes itself; the spec gives none. -/
def pauseHeader (p : Nat) : List Byte := [0x01, 0x80, 0xC2, 0x00, 0x00, 0x01] ++ Config.clientAddress p ++ [0x88, 0x08]

/-- PAUSE (mode 1) or PFC frame with one quanta value, FCS included. -/
def pauseFrame (s : State) (p quanta : Nat) : List Byte :=
  let body :=
    if s.f PORT_FC.MODE p = 2 then
      let m := s.f PORT_FC.PFC_PRI p
      [0x01, 0x01] ++ beBytes 2 m ++
        ((List.range 8).map fun i => if bitAt m i then beBytes 2 quanta else [0, 0]).flatten ++ zeros 26
    else [0x00, 0x01] ++ beBytes 2 quanta ++ zeros 42
  let m := pauseHeader p ++ body
  m ++ Crypto.fcs m

/-! ### MAC control frames (R65, R69) -/

/-- FCS of a received frame is right. -/
def fcsGood (f : List Byte) : Bool := f.drop (f.length - 4) == Crypto.fcs (f.take (f.length - 4))

/-- Quanta running for a priority; 8 stands for PAUSE. -/
def setPaused (s : State) (p pri quanta : Nat) : State :=
  let ps := s.port p
  let rest := ps.paused.filter fun e => e.1 != pri
  s.setPort p { ps with paused := if quanta = 0 then rest else rest ++ [(pri, quanta)] }

def ctlDrop (s : State) (p : Nat) : State := (s.inc .PORT_CTL_DROP p).raise PORT_EVT.CTL_DROP p

/-- A received MAC control frame with its FCS checked (R69). -/
def macControl (s : State) (p : Nat) (f : List Byte) : State :=
  let op := beAt f 14 2
  if isLine p then ctlDrop s p
  else if op = 1 then setPaused (s.inc .PORT_PAUSE_RX p) p 8 (beAt f 16 2)
  else if op = 0x0101 then
    (List.range 8).foldl (fun s i => if bitAt (beAt f 16 2) i then setPaused s p i (beAt f (18 + 2 * i) 2) else s)
      (s.inc .PORT_PAUSE_RX p)
  else ctlDrop s p

/-- A PAUSE or PFC frame leaves. Under a near-end loopback the transmitter is squelched and the port receives the frame
itself; under a far-end loopback it sends what it receives and no frame of its own (R63). -/
def sendPause (s : State) (p quanta : Nat) : State :=
  let f := pauseFrame s p quanta
  let lpbk := s.f PORT_CTL.LPBK p
  if lpbk = 2 then s
  else
    let s := (s.inc .PORT_PAUSE_TX p).inc .PORT_TX_FRAMES p
    if lpbk = 1 then (if receiving s p then macControl (s.inc .PORT_RX_FRAMES p) p f else s) else s.emit (.client p f)

/-- Highest occupancy since the last read (R79). -/
def notePeak (s : State) (p : Nat) : State :=
  let k := occupancyKib s p
  if k > s.f PORT_EXP_OCC.PEAK p then s.setF PORT_EXP_OCC.PEAK p k else s

/-- XOFF_REACHED and XON_REACHED on an Ethernet client port (R65). The spec leaves three points open and the model settles
them (DESIGN CHOICE, log 76): the reserved MODE 3 acts as none; a change of MODE to none while XOFF is set clears XOFF and
sends no frame with quanta 0; and under MODE none neither XOFF nor XOFF_ON is set though the occupancy passes
PORT_XOFF. -/
def flowEval (s : State) (p : Nat) : State :=
  let s := notePeak s p
  let mode := s.f PORT_FC.MODE p
  if isLine p || !provisioned s p then s
  else if mode = 1 ∨ mode = 2 then
    let occ := occupancy s p
    if !s.fb PORT_STATUS.XOFF p && occ ≥ 1024 * s.f PORT_XOFF.KIB p then
      (sendPause (s.setF PORT_STATUS.XOFF p 1) p 0xFFFF).raise PORT_EVT.XOFF_ON p
    else if s.fb PORT_STATUS.XOFF p && occ ≤ 1024 * s.f PORT_XON.KIB p then
      sendPause (s.setF PORT_STATUS.XOFF p 0) p 0
    else s
  else s.setF PORT_STATUS.XOFF p 0

/-! ### What a port sends while it has no data (R61, R63, R107) -/

/-- Signals of a transmitter that carries no frames. -/
inductive Signal where
  | idles | localFault | remoteFault | oci | ais | squelched
  deriving DecidableEq, Repr

/-! ### Ports of mirrored channels (R245) -/

/-- A port matches: it is provisioned here with the WIDTH, TYPE, FRAMING and PAIR that it has on the ACTIVE. -/
def portMatches (s : State) (p : Nat) : Bool :=
  let same := fun (v : Word) => [PORT_CFG.WIDTH, PORT_CFG.TYPE, PORT_CFG.FRAMING, PORT_CFG.PAIR].all fun f =>
    bitsOf v.toNat f.lo f.len == s.f f p
  provisioned s p && (s.twin.ports.find? fun e => e.1 == p).any fun e => same e.2

/-- Both ports of a mirrored channel match. -/
def portsMatch (s : State) (c : Nat) : Bool :=
  isLine (chLine s c) && portMatches s (chLine s c) && portMatches s (chClient s c)

/-- On a SHADOW whose full mirror is complete, SYNC follows the match of every mirrored channel's ports, and the ACTIVE is
told of each change. -/
def syncEval (s : State) : State :=
  if s.f TWN_STATUS.ROLE 0 ≠ 2 || !s.twin.fullDone then s
  else
    let ok := (busyChannels s).all fun c => portsMatch s c
    let was := s.fb TWN_STATUS.SYNC 0
    if ok && !was then sendAck ((s.setF TWN_STATUS.SYNC 0 1).raise TWN_EVT.SYNC_DONE 0) (.sync true)
    else if !ok && was then
      sendAck (((s.setF TWN_STATUS.SYNC 0 0).raise TWN_EVT.PORT_MISMATCH 0).raise TWN_EVT.SYNC_LOST 0) (.sync false)
    else s

/-- Record of a port's configuration: PORT_CFG with bit 31 set, 0 for a port that is not provisioned. -/
def portRec (s : State) (p : Nat) : MirrorRec :=
  .port (Fin.ofNat 64 p) (if provisioned s p then s.reg .PORT_CFG p ||| 0x80000000 else 0)

/-- The ACTIVE mirrors a port whenever its provisioning changes (R245). -/
def mirrorPort (s : State) (p : Nat) : State := mirror s (portRec s p)

end Sys2Proof.Machine
end

