-- ==== Sys2Proof/Machine/Buffer.lean ====
section
/-! DEFINITION. Frames in buffer memory: pages, writing and reading of frames, discards (R29, R38, R395, R397, R402), and
the slice buffers on the way there (R15, R408). -/

namespace Sys2Proof.Machine

/-! ### Pages (R38, R402) -/

def pageBytes : Nat := 4096

/-- Frames of a channel that buffer memory holds. -/
def heldFrames (c : Chan) : List QFrame :=
  c.eq ++ (match c.openBale with | some b => b.frames | none => []) ++ c.iq ++
    (match c.rxPend with | some g => g.held.toList | none => [])

/-- Pages of a half that hold frames. -/
def usedPages (s : State) (h : Nat) : List Nat :=
  ((s.chans.map fun e => heldFrames e.2).flatten.filter fun f => f.half == h).flatMap fun f =>
    f.runs.map fun r => r.1 / pageBytes

/-- Pages of a half that take no new frame: in use, retired or about to be retired (R402). -/
def takenPages (s : State) (h : Nat) : List Nat :=
  usedPages s h ++ (s.memc (71 + h)).retired ++ (s.memc (71 + h)).retiring

/-- Lowest page from `n` on that is not taken; `fuel` bounds the pages passed over. -/
def freePage (taken : List Nat) : Nat → Nat → Nat
  | 0, n => n
  | fuel + 1, n => if taken.contains n then freePage taken fuel (n + 1) else n

/-- Runs of `len` bytes: from a cursor to the end of its page, then in the lowest free pages. A cursor on a page boundary
stands for a new page (DESIGN CHOICE, log 74). -/
def bufRuns (taken : List Nat) : Nat → Nat → Nat → List (Nat × Nat)
  | 0, _, _ => []
  | fuel + 1, cur, len =>
    if len = 0 then []
    else
      let at_ := if cur % pageBytes = 0 then pageBytes * freePage taken taken.length 0 else cur
      let n := min len (pageBytes - at_ % pageBytes)
      (at_, n) :: bufRuns (at_ / pageBytes :: taken) fuel (ceilDiv (at_ + n) 8 * 8) (len - n)

/-- Where the next frame of a queue begins: after its last frame, at a whole word (R397). -/
def queueEnd (q : List QFrame) : Nat :=
  match q.getLast? with
  | some f => (match f.runs.getLast? with | some r => ceilDiv (r.1 + r.2) 8 * 8 | none => 0)
  | none => 0

/-! ### Writing and reading (R29, R31, R395, R397) -/

/-- Bytes padded with zero to whole words. -/
def wordPad (bs : List Byte) : List Byte := bs ++ zeros (ceilDiv bs.length 8 * 8 - bs.length)

/-- Write the bytes of a frame to its runs, in whole words. -/
def writeRuns (s : State) (k : Nat) (runs : List (Nat × Nat)) (bs : List Byte) : State :=
  (runs.foldl (fun (t : State × List Byte) r =>
    ((memWrite t.1 k r.1 ((wordPad (t.2.take r.2)).map some) codeQueue).2, t.2.drop r.2)) (s, bs)).1

/-- The queue manager writes a frame behind a queue of its channel; none where the half has no page left (DESIGN CHOICE,
log 74). -/
def bufStore (s : State) (q : List QFrame) (half port pri : Nat) (bs : List Byte) : Option (QFrame × State) :=
  let runs := bufRuns (takenPages s half) (bs.length / pageBytes + 2) (queueEnd (q.filter fun f => f.half == half)) bs.length
  if runs.all fun r => r.1 / pageBytes < halfPages s then
    some (⟨bs.length, port, pri, half, runs⟩, writeRuns s (71 + half) runs bs)
  else none

/-- The bytes of a frame as buffer memory gives them back, and whether a word of it was poisoned. -/
def bufFetch (s : State) (f : QFrame) : List Byte × Bool × State :=
  f.runs.foldl (fun t r =>
    let u := memRead t.2.2 (71 + f.half) r.1 r.2 0 codeQueue
    (t.1 ++ u.1, t.2.1 || u.2.1, u.2.2)) ([], false, s)

/-- A frame or unit discarded for a poisoned word. -/
def dpDiscard (s : State) (h : Nat) : State := s.inc .MEM_DP_DISCARD (71 + h)

/-- Fetch several frames: their bytes, whether a word of any was poisoned, the state. -/
def bufFetchAll (s : State) (fs : List QFrame) : List (List Byte) × Bool × State :=
  fs.foldl (fun t f => let u := bufFetch t.2.2 f; (t.1 ++ [u.1], t.2.1 || u.2.1, u.2.2)) ([], false, s)

/-! ### Slice buffers (R15, R408) -/

def stageBytes : Nat := 65536

/-- A frame is written from the next whole word on, round the end of the half (DESIGN CHOICE, log 79). -/
def StageBuf.put (b : StageBuf) (f : List Byte) : StageBuf :=
  ⟨(f.zipIdx.foldl (fun m x => Mem.write zeroByte m ((b.next + x.2) % stageBytes) x.1) b.bytes),
    (b.next + ceilDiv f.length 8 * 8) % stageBytes⟩

/-- The `n` bytes that stand from an offset on. -/
def StageBuf.take (b : StageBuf) (start n : Nat) : List Byte :=
  (List.range n).map fun i => Mem.read zeroByte b.bytes ((start + i) % stageBytes)

def SliceSt.half (x : SliceSt) (ingress : Bool) : StageBuf := if ingress then x.inBuf else x.egBuf

def SliceSt.setHalf (x : SliceSt) (ingress : Bool) (b : StageBuf) : SliceSt :=
  if ingress then { x with inBuf := b } else { x with egBuf := b }

/-- A frame passes one half of a slice buffer: it is written there and read back. A correctable error is logged in the
controller of the slice's buffer half; a frame with an uncorrectable word is discarded. The frame where it goes on. -/
def stageFrame (s : State) (sl : Nat) (ingress : Bool) (f : List Byte) (n : Staged) : Option (List Byte) × State :=
  let k := 71 + halfOf sl
  let b := (s.slice sl).half ingress
  let s := s.setSlice sl ((s.slice sl).setHalf ingress (b.put f))
  let out := (b.put f).take b.next f.length
  match n with
  | .clean => (some out, s)
  | .corrected w x => (some out, ((memLog s k kindCE 0 true codeQueue [x] w).inc .MEM_CE k).raise MEM_EVT.CE k)
  | .bad w wrong =>
    (none, dpDiscard (((appendLog s k (logEntry s k kindUE 0 false codeQueue [] wrong w)).inc .MEM_UE k).raise MEM_EVT.UE k)
      (halfOf sl))

/-- A frame goes on through the slice buffer of the first slice of its port. -/
def throughSlice (s : State) (p : Nat) (ingress : Bool) (f : List Byte) (n : Staged) (k : State → List Byte → State) : State :=
  let t := stageFrame s (anchor p) ingress f n
  match t.1 with
  | some g => k t.2 g
  | none => t.2

end Sys2Proof.Machine
end

