-- ==== Sys2Proof/Machine/Jobs.lean ====
section
/-! DEFINITION. The job queue between the Silo and the key engines (R172, R191, R202, R286, R511). The Silo works the results of
its jobs out itself, in the command that needs them, so that no key depends on the words that an engine answers (DESIGN CHOICE,
log 23); it acts on the STATUS of a result. The words of the operands are the model's (DESIGN CHOICE, log 98). -/

namespace Sys2Proof.Machine

/-- OPCODEs of R511. -/
def jobKemKeygen : Nat := 1
def jobKemEncaps : Nat := 2
def jobKemDecaps : Nat := 3
def jobEcdhPair : Nat := 4
def jobEcdhShared : Nat := 5
def jobVerifyMldsa : Nat := 6
def jobVerifyEcdsa : Nat := 7
def jobTranscript : Nat := 8
def jobCombine : Nat := 9
def jobEpoch : Nat := 10

/-- Words of a value in the byte order of its standard, eight bytes each, zero-padded. -/
def operandWords (b : List Byte) : List W64 :=
  (List.range (ceilDiv b.length 8)).map fun i => BitVec.ofNat 64 (leAt b (8 * i) 8)

/-- Words of a job: the header, then each operand. -/
def jobWords (op c dir tag : Nat) (operands : List (List Byte)) : List W64 :=
  let w := (operands.map operandWords).flatten
  BitVec.ofNat 64 (op * 2 ^ 56 + w.length % 2 ^ 16 * 2 ^ 40 + c % 2 ^ 14 * 2 ^ 26 + dir % 4 * 2 ^ 24 + tag % 2 ^ 16) :: w

/-- Depth of JOB and of JOB_RES (R333). -/
def jobDepth : Nat := 16

/-- A key engine takes a job: its words enter JOB as it has room. -/
def Eng.takeJob (x : Eng) (j : KeyJob) : Eng :=
  let w := x.job ++ x.jobFeed ++ j.words
  { x with running := some j, job := w.take jobDepth, jobFeed := w.drop jobDepth }

/-- The key engine has its code loaded and no job. -/
def keyFree (s : State) (e : Nat) : Bool :=
  let st := s.f ENG_STATUS.STATE e
  (st == 2 || st == 3) && (s.eng e).running.isNone

/-- The oldest jobs go to the key engines that are free. -/
def dispatchJobs (s : State) : State :=
  [64, 65, 66, 67].foldl (fun s e =>
    match s.silo.jobs with
    | j :: rest =>
      if keyFree s e then ({ s with silo := { s.silo with jobs := rest } }).updEng e fun x => x.takeJob j else s
    | [] => s) s

/-- A job enters the queue behind those of its priority (R202). -/
def insertJob (l : List KeyJob) (j : KeyJob) : List KeyJob :=
  l.takeWhile (fun x => x.rank ≤ j.rank) ++ j :: l.dropWhile (fun x => x.rank ≤ j.rank)

/-- The Silo queues a job. -/
def putJob (s : State) (rank : Nat) (owner : JobOwner) (c dir op : Nat) (operands : List (List Byte)) : State :=
  let tag := s.silo.jobTag
  let j : KeyJob := ⟨rank, owner, tag, jobWords op c dir tag operands⟩
  { s with silo := { s.silo with jobs := insertJob s.silo.jobs j, jobTag := (tag + 1) % 2 ^ 16 } }

/-- The Silo queues jobs of a channel, an OPCODE and its operands each; work that waits starts the kclk PLL where it stopped
(R33). -/
def queueJobs (s : State) (rank : Nat) (owner : JobOwner) (c dir : Nat) (l : List (Nat × List (List Byte))) : State :=
  let s := l.foldl (fun s p => putJob s rank owner c dir p.1 p.2) { s with pllRun := setAt s.pllRun 1 true }
  dispatchJobs s

/-- A key engine has entered WEDGED: what it produced is discarded, and its job is queued again ahead of all others
(R286). -/
def reissueJob (s : State) (e : Nat) : State :=
  match (s.eng e).running with
  | none => s
  | some j =>
    let s := s.updEng e fun x => { x with running := none, job := [], jobFeed := [], jobRes := [], answer := [] }
    dispatchJobs { s with silo := { s.silo with jobs := { j with rank := 0 } :: s.silo.jobs } }

/-- OPCODE and STATUS of a job's or a result's header word. -/
def jobOp (h : W64) : Nat := bitsOf h.toNat 56 8
def jobStatus (h : W64) : Nat := bitsOf h.toNat 16 8

/-- A job with the operands of a key combination, Z among them, erased; another job as it is. -/
def KeyJob.wipe (j : KeyJob) : KeyJob :=
  match j.words with
  | h :: w => if jobOp h = jobCombine then { j with words := h :: w.map fun _ => 0 } else j
  | [] => j

/-- The words of a wiped job that a key engine has not taken out of JOB yet. -/
def Eng.wipeJob (x : Eng) (j : KeyJob) : Eng :=
  let left := j.words.drop (j.words.length - (x.job ++ x.jobFeed).length)
  { x with running := some j, job := left.take jobDepth, jobFeed := left.drop jobDepth }

/-- Z is erased with what the combination of a session's keys was given of it: in the jobs that wait, and in JOB of the key engine
that runs one (R191). `own` says whose jobs. -/
def eraseZ (s : State) (own : JobOwner → Bool) : State :=
  let s := { s with silo := { s.silo with jobs := s.silo.jobs.map fun j => if own j.owner then j.wipe else j } }
  [64, 65, 66, 67].foldl (fun s e =>
    match (s.eng e).running with
    | some j => if own j.owner && j.wipe != j then s.updEng e fun x => x.wipeJob j.wipe else s
    | none => s) s

/-- The jobs of a channel's sessions. -/
def ofChannel (c : Nat) : JobOwner → Bool
  | .session d _ => d == c
  | _ => false

/-- The Silo takes the words of JOB_RES. A whole result, its header and the words that it announces, ends the job whose OPCODE and
TAG it carries, and the engine takes the next one; another result is discarded. What ended, and with which STATUS. -/
def siloTake (s : State) (e : Nat) : Option (JobOwner × Nat) × State :=
  let x := s.eng e
  let w := x.answer ++ x.jobRes
  match w with
  | [] => (none, s)
  | h :: rest =>
    let n := bitsOf h.toNat 40 16
    if rest.length < n then (none, s.setEng e { x with answer := w, jobRes := [] })
    else
      let done := x.running.filter fun j => j.tag == h.toNat % 2 ^ 16 && j.words.head?.map jobOp == some (jobOp h)
      (done.map fun j => (j.owner, jobStatus h),
        dispatchJobs (s.setEng e { x with answer := rest.drop n, jobRes := [],
                                          running := if done.isSome then none else x.running }))

end Sys2Proof.Machine
end

