-- ==== Sys2Proof/Machine/UnitFeed.lean ====
section
/-! DEFINITION. Units on their way to the data engines: descriptors on IN_DESC and data on IN_DATA (R333, R334). A unit is
sealed as its number is assigned and opened as it arrives, as the engines' code does; what an egress engine completes itself
takes the place of those bytes, and what an engine has not begun leaves the FIFOs: an egress unit at its emission, one that waits
in no transmit slot as the next one comes (DESIGN CHOICE, log 99). -/

namespace Sys2Proof.Machine

/-- Depths of IN_DESC, IN_DATA and XB_RD (R333). -/
def inDescDepth : Nat := 8
def inDataDepth : Nat := 64
def xbRdDepth : Nat := 64

/-- 128-bit words of a unit's bytes, the last one zero-filled. -/
def unitWords (b : List Byte) : List BusVal :=
  (List.range (ceilDiv b.length 16)).map fun i => BitVec.ofNat 128 (leAt b (16 * i) 16)

/-- A descriptor of IN_DESC. -/
def inDescOf (seq len tslot kslot c : Nat) : BusVal :=
  BitVec.ofNat 128 (seq % 2 ^ 64 * 2 ^ 64 + len % 2 ^ 16 * 2 ^ 32 + tslot % 2 ^ 16 * 2 ^ 16 + kslot % 4 * 2 ^ 14 + c % 2 ^ 14)

def descLen (d : BusVal) : Nat := bitsOf d.toNat 32 16
def descSlot (d : BusVal) : Nat := bitsOf d.toNat 16 16
def descChan (d : BusVal) : Nat := bitsOf d.toNat 0 14

/-- Words on IN_DATA of a unit. -/
def descWords (d : BusVal) : Nat := ceilDiv (descLen d) 16

/-- Words enter IN_DESC and IN_DATA as they have room. -/
def Eng.setInputs (x : Eng) (descs data : List BusVal) : Eng :=
  { x with inDesc := descs.take inDescDepth, descFeed := descs.drop inDescDepth,
           inData := data.take inDataDepth, dataFeed := data.drop inDataDepth }

/-- A unit is assigned to the engine. -/
def Eng.giveUnit (x : Eng) (d : BusVal) (data : List Byte) : Eng :=
  x.setInputs (x.inDesc ++ x.descFeed ++ [d]) (x.inData ++ x.dataFeed ++ unitWords data)

/-- Units that wait in no transmit slot take the place of those that the engine has not begun. -/
def Eng.nextUnits (x : Eng) (us : List (BusVal × List Byte)) : Eng :=
  let data := x.inData ++ x.dataFeed
  let unread := (x.inDesc ++ x.descFeed).foldl (fun n d => n + descWords d) 0
  x.setInputs (us.map (·.1)) (data.take (data.length - unread) ++ us.flatMap fun u => unitWords u.2)

/-- The unit of a transmit slot leaves the engine's FIFOs, unless the engine has read its descriptor. -/
def Eng.takeBack (x : Eng) (tslot : Nat) : Eng :=
  let descs := x.inDesc ++ x.descFeed
  let data := x.inData ++ x.dataFeed
  match descs.findIdx? fun d => descSlot d == tslot with
  | none => x
  | some i =>
    let behind := (descs.drop (i + 1)).foldl (fun n d => n + descWords d) 0
    let till := data.length - behind
    let start := till - ((descs[i]?).map descWords).getD 0
    x.setInputs (descs.eraseIdx i) (data.take start ++ data.drop till)

/-- Transmit slots leave their port, and with them what their engines have not begun. -/
def leaveSlots (s : State) (us : List TxUnit) : State :=
  us.foldl (fun s u => s.updEng u.eng fun x => x.takeBack u.tslot) s

end Sys2Proof.Machine
end

