-- ==== Sys2Proof/Machine/Ports.lean ====
section
/-! DEFINITION. The PORT commands: provisioning, configuration, link state and received MAC control frames
(R42–R80). -/

namespace Sys2Proof.Machine

/-! ### Consistency check (R52–R55, R62–R64, R80) -/

/-- The fields of a map are a permutation of the port's lane offsets (R56). -/
def isLaneMap (w map : Nat) : Bool := (List.range w).all fun m => (List.range w).any fun i => bitsOf map (3 * i) 3 == m

def thresholdsOrdered (s : State) (p : Nat) : Bool :=
  s.f PORT_XON.KIB p < s.f PORT_XOFF.KIB p && s.f PORT_XOFF.KIB p ≤ s.f PORT_EXP_LIMIT.KIB p

/-- Causes of the thresholds at the width in PORT_CFG; `half` adds the half's capacity (R55, R67). -/
def thresholdCauses (s : State) (p : Nat) (half : Bool) : List Nat :=
  cause (!thresholdsOrdered s p) 0x4C ++
  cause (s.f PORT_EXP_LIMIT.KIB p > 1536 * portWidth s p || (half && overCommitted s (halfOf (anchor p)))) 0x4D

def fcCauses (s : State) (p : Nat) : List Nat := cause (s.f PORT_FC.MODE p == 2 && s.f PORT_FC.PFC_PRI p == 0) 0x4E

/-- A slice that the port needs is up without its code, or sleeps and would find an uncorrectable word in an image that it
loads as it wakes (R53, R395). -/
def sliceBad (s : State) (sl : Nat) : Bool :=
  if (s.slice sl).powered then (s.slice sl).failed else imageBad s (2 * sl) || imageBad s (2 * sl + 1)

/-- The images of the slices that a port would wake are read (R395). -/
def imagesLook (s : State) (p : Nat) : State :=
  (portSlices s p).foldl (fun s sl => if (s.slice sl).powered then s else imageLook (imageLook s (2 * sl)) (2 * sl + 1)) s

/-- Causes of the pairing rules (R49, R50); a PAIR outside 32–63 names no line port. -/
def pairCauses (s : State) (p : Nat) : List Nat :=
  let lp := s.f PORT_CFG.PAIR p
  let named := lp ≥ 32
  let prov := named && provisioned s lp
  let fr := if prov then framing s lp else framing s p
  let w := portWidth s p
  let used := ((clientsOf s lp).filter (· != p)).foldl (fun n q => n + portWidth s q) 0
  cause (named && !prov) 0x46 ++
  cause (fr != frBale && (lp != p + 32 || portWidth s lp != w)) 0x47 ++
  cause (prov && fr == frBale && !(anchor lp ≤ anchor p && anchor p + w ≤ anchor lp + portWidth s lp)) 0x48 ++
  cause (prov && fr == frBale && used + w > portWidth s lp) 0x49 ++
  cause (prov && framing s lp != framing s p) 0x4A ++
  cause (!named) 0x53

/-- Causes against provisioning port `p`; `s` is the state as the request would leave it. -/
def provisionCauses (s : State) (p : Nat) : List Nat :=
  let w := portWidth s p
  let otn := s.f PORT_CFG.TYPE p == 1
  cause (anchor p % w != 0) 0x41 ++
  cause (s.isHA && anchor p + w > 16) 0x42 ++
  cause ((provPorts s).any fun q => q != p && isLine q == isLine p && overlaps s p q) 0x43 ++
  cause (!pmAllow s p (s.f PORT_CFG.WIDTH p) (s.f PORT_CFG.TYPE p)) 0x44 ++
  cause (framing s p == 3 || otn != (framing s p == frOtn)) 0x45 ++
  (if isLine p then [] else pairCauses s p) ++
  thresholdCauses s p true ++ fcCauses s p ++
  cause (!isLaneMap w (s.f PORT_TX_MAP.MAP p) || !isLaneMap w (s.f PORT_RX_MAP.MAP p)) 0x51 ++
  cause ((portSlices s p).any fun sl => sliceBad s sl) 0x54 ++
  cause (isLine p && s.fb PORT_CFG.FLTPROP p && tfcOnPort s p) 0x56

/-- Causes of a loopback request (R64). -/
def loopbackCauses (s : State) (p lpbk : Nat) : List Nat :=
  if lpbk = 0 then []
  else
    cause (s.mode != modeMaintenance || (portSlices s p).any (fun sl => !sliceDrained s sl) || (lpbk == 3 && !isLine p)) 0x4F ++
    cause (!polLpbk s lpbk) 0x50

/-! ### Power of slices (R32, R33, R53) -/

/-- State of an engine whose slice is powered or gated: WEDGED stays until a reset (R285). -/
def engStateUnlessWedged (s : State) (e v : Nat) : State :=
  if s.f ENG_STATUS.STATE e = 4 then s else s.setF ENG_STATUS.STATE e v

/-- Power a sleeping slice; the dclk PLL starts with the first. -/
def powerSlice (s : State) (sl : Nat) : State :=
  if (s.slice sl).powered then s
  else
    let s := { (s.setSlice sl { s.slice sl with powered := true, ready := false, failed := false }) with
      pllRun := setAt s.pllRun 0 true }
    -- the engines load their code until the slice is ready (R290)
    engStateUnlessWedged (engStateUnlessWedged s (2 * sl) 1) (2 * sl + 1) 1

/-- Gate a slice on which no provisioned port remains: banks, slice buffer and classifier are lost, its engines are off;
the dclk PLL stops with the last. -/
def gateSlice (s : State) (sl : Nat) : State :=
  if sliceProvisioned s sl then s
  else
    let s := s.setSlice sl { SliceSt.reset with draining := (s.slice sl).draining }
    let s := { s with loaded := s.loaded.filter fun r => r / 2 != sl }
    let s := [2 * sl, 2 * sl + 1].foldl (fun s e => engStateUnlessWedged (clearRegion s e) e 0) s
    if (List.range 32).any fun i => (s.slice i).powered then s
    else ({ s with pllRun := setAt s.pllRun 0 false }).setF CLK_STATUS.D_LOCK 0 0

/-- Local fault: received, or detected because a ready port is not aligned (R77). -/
def faultEval (s : State) (p : Nat) : State :=
  let up := s.fb PORT_STATUS.READY p
  let s := s.setB PORT_STATUS.LF p (up && ((s.port p).lfRx || !s.fb PORT_STATUS.ALIGN p))
  s.setB PORT_STATUS.RF p (up && (s.port p).rfRx)

/-- READY follows the slices of the port (R53), and the faults that it shows follow READY. -/
def readyEval (s : State) (p : Nat) : State :=
  faultEval (s.setB PORT_STATUS.READY p (provisioned s p && (portSlices s p).all fun sl => (s.slice sl).ready)) p

/-- Frames that a port's queues hold are discarded (R53): a line port's transmit slots and tithe queues, a client port's
frames in the egress and delivery queues. -/
def discardPort (s : State) (p : Nat) : State :=
  let s := leaveSlots (s.setPort p { s.port p with slots := [], paused := [] }) (s.port p).slots
  if isLine p then s.setLink (p - 32) { s.link (p - 32) with tx := [], parts := [], msgs := [], gcc := [] }
  else
    let drop := fun (_ : Nat) (c : Chan) =>
      { c with eq := c.eq.filter fun fr => fr.port != p, iq := c.iq.filter fun fr => fr.port != p }
    { s with chans := SMap.mapV (fun _ => Chan.reset) drop s.chans }

/-- Provisioning takes effect (R53). -/
def provision (s : State) (p ctl : Nat) : State :=
  let fresh := !provisioned s p
  let s := (s.setReg .PORT_CTL p (BitVec.ofNat 32 ctl)).setF PORT_STATUS.PROV p 1
  if fresh then syncEval (mirrorPort (readyEval ((portSlices s p).foldl powerSlice s) p) p) else s

/-- Deprovisioning takes effect (R53). -/
def deprovision (s : State) (p ctl : Nat) : State :=
  let was := provisioned s p
  let link := linkUp s p
  let s := s.setReg .PORT_CTL p (BitVec.ofNat 32 ctl)
  if was then
    let s := discardPort s p
    let s := s.setPort p { s.port p with adapted := false, lfRx := false, rfRx := false }
    let s := s.setReg .PORT_STATUS p 0
    let s := mirrorPort ((portSlices s p).foldl gateSlice s) p
    if link then s.raise PORT_EVT.LINK_DOWN p else s
  else s

/-- A PORT_CTL write (R52, R64, R75). A write with PROV = 1 on a port that is provisioned tests the loopback causes alone
(DESIGN CHOICE, log 105). A refusal for a slice's code has found the word that is bad. -/
def portCtl (s : State) (m : Master) (p v : Nat) : State :=
  let prov := bitAt v 0
  let ctl := bitsOf v 8 2 * 256 + b2n prov
  let lpbk := loopbackCauses s p (bitsOf v 8 2)
  if prov then
    let causes := lpbk ++ if provisioned s p then [] else provisionCauses (s.setF PORT_STATUS.PROV p 1) p
    checked (if causes.min? = some 0x54 then imagesLook s p else s) .PORT_CHECK m p causes fun s => provision s p ctl
  else
    checked s .PORT_CHECK m p (lpbk ++ cause (provisioned s p && (portInUse s p || clientsOf s p != [])) 0x4B)
      fun s => deprovision s p ctl


/-- A checked write of a configuration register of port `p` (R54, R55): the causes are judged on the state that the
write would leave; `after` is what an accepted write brings about. -/
def portRegWrite (s : State) (m : Master) (r : Reg) (p : Nat) (v : Word) (causes : State → List Nat)
    (after : State → State) : State :=
  let put := fun (s : State) => s.setReg r p (maskedWrite r v)
  checked s .PORT_CHECK m p (causes (put s)) fun s => after (put s)

/-- Causes of a PORT_CFG write (R54, R55, R62). -/
def cfgCauses (s0 s : State) (p : Nat) : List Nat :=
  if provisioned s p then
    cause (s0.f PORT_CFG.WIDTH p != s.f PORT_CFG.WIDTH p || s0.f PORT_CFG.TYPE p != s.f PORT_CFG.TYPE p ||
      s0.f PORT_CFG.FRAMING p != s.f PORT_CFG.FRAMING p || s0.f PORT_CFG.PAIR p != s.f PORT_CFG.PAIR p) 0x52 ++
    cause (isLine p && s.fb PORT_CFG.FLTPROP p && tfcOnPort s p) 0x56
  else []

def laneRegName : LaneReg → Reg
  | .pol => .PORT_LANE_POL | .txMap => .PORT_TX_MAP | .rxMap => .PORT_RX_MAP

def thrRegName : ThrReg → Reg
  | .expLimit => .PORT_EXP_LIMIT | .xoff => .PORT_XOFF | .xon => .PORT_XON

/-- A write of a PORT register that starts a check, by register. -/
def portCfgWrite (s : State) (m : Master) (p : Nat) (v : Word) : State :=
  portRegWrite s m .PORT_CFG p v (fun t => cfgCauses s t p) id

def portLaneWrite (s : State) (m : Master) (p : Nat) (r : LaneReg) (v : Word) : State :=
  portRegWrite s m (laneRegName r) p v (fun t => cause (provisioned t p) 0x52) id

def portFcWrite (s : State) (m : Master) (p : Nat) (v : Word) : State :=
  portRegWrite s m .PORT_FC p v (fun t => fcCauses t p) fun s => flowEval s p

def portThrWrite (s : State) (m : Master) (p : Nat) (r : ThrReg) (v : Word) : State :=
  portRegWrite s m (thrRegName r) p v (fun t => thresholdCauses t p (provisioned t p && !isLine p)) fun s => flowEval s p

/-- A PORT_TXEQn write whose taps add up to more than 63 is ignored (R79). -/
def portTxeqWrite (s : State) (p i : Nat) (v : Word) : State :=
  let n := v.toNat
  if bitsOf n 18 6 + bitsOf n 12 6 + bitsOf n 6 6 + bitsOf n 0 6 > 63 then s
  else s.setReg .PORT_TXEQ (8 * p + i) (maskedWrite .PORT_TXEQ v)

/-- Counters of a unit cleared by a write of 1. -/
def clearCtrs (s : State) (cs : List Ctr) (i : Nat) : State := cs.foldl (fun s c => s.setCnt c i 0) s

def portCtrs : List Ctr :=
  [.PORT_FEC_CORR, .PORT_FEC_UNCORR, .PORT_FEC_SYM, .PORT_FCS_ERR, .PORT_EXP_DROP, .PORT_PAUSE_TX, .PORT_PAUSE_RX,
    .PORT_CTL_DROP, .PORT_RX_FRAMES, .PORT_TX_FRAMES]

def portCntClr (s : State) (p : Nat) (v : Word) : State := if bitAt v.toNat 0 then clearCtrs s portCtrs p else s

/-- A write to the window of the master's port. -/
def onPort (s : State) (m : Master) (effect : Nat → State → State) : State :=
  whenUp s .PORT fun s => inWindow s .port m effect

def execPortCfgWrite (m : Master) (v : Word) (s : State) : Host.Outcome State Fault Refusal :=
  .next (onPort s m fun p s => portCfgWrite s m p v)

def execPortLaneMapWrite (m : Master) (r : LaneReg) (v : Word) (s : State) : Host.Outcome State Fault Refusal :=
  .next (onPort s m fun p s => portLaneWrite s m p r v)

def execPortFcWrite (m : Master) (v : Word) (s : State) : Host.Outcome State Fault Refusal :=
  .next (onPort s m fun p s => portFcWrite s m p v)

def execPortThresholdWrite (m : Master) (r : ThrReg) (v : Word) (s : State) : Host.Outcome State Fault Refusal :=
  .next (onPort s m fun p s => portThrWrite s m p r v)

def execPortTxeqWrite (m : Master) (i : Fin 8) (v : Word) (s : State) : Host.Outcome State Fault Refusal :=
  .next (onPort s m fun p s => portTxeqWrite s p i v)

def execPortCntClr (m : Master) (v : Word) (s : State) : Host.Outcome State Fault Refusal :=
  .next (onPort s m fun p s => portCntClr s p v)

/-! ### MAC control frames (R65, R69) -/

/-- Bits of all lanes of a port. -/
def laneMask (s : State) (p : Nat) : Nat := 2 ^ portWidth s p - 1

/-- The receive path of a port sees frames from outside: it receives and no loopback replaces them (R60, R63). -/
def hears (s : State) (p : Nat) : Bool := receiving s p && s.f PORT_CTL.LPBK p == 0

/-- A port under a far-end loopback sends out what its receivers recover, before the FEC decoder (R63). -/
def farEnd (s : State) (p : Nat) (o : Out) : State :=
  if s.f PORT_CTL.LPBK p = 2 ∧ s.fb PORT_STATUS.READY p ∧ s.f PORT_STATUS.LOCK p = laneMask s p then s.emit o else s

/-- Frame of a port at the module's boundary. -/
def outFrame (p : Nat) (f : List Byte) : Out := if isLine p then .line p f else .client p f

/-- The receive path sees what comes from outside: no loopback squelches it or takes its data (R63). -/
def seesLine (s : State) (p : Nat) : Bool := s.f PORT_CTL.LPBK p == 0 || s.f PORT_CTL.LPBK p == 3

/-- What the FEC decoder has counted (R48, R78, R79): an aligned port whose receive data reach the decoder. -/
def countFec (s : State) (p : Nat) (x : FecCount) : State :=
  if s.fb PORT_STATUS.ALIGN p && seesLine s p then
    let s := ((s.addCnt .PORT_FEC_CORR p x.corr).addCnt .PORT_FEC_UNCORR p x.uncorr).addCnt .PORT_FEC_SYM p x.sym
    if x.uncorr = 0 then s else s.raise PORT_EVT.FEC_UNCORR p
  else s

/-- MAC_CONTROL_FRAME_RX: PAUSE and PFC are consumed on a client port; every other one is dropped and counted. A frame
with a bad FCS, or of a size that a client port does not accept, counts as any other such frame (R29, step 1; R45). -/
def execMacControlFrameRx (p : Fin 64) (f : List Byte) (s : State) : Host.Outcome State Fault Refusal :=
  .next (if !hears s p then farEnd s p (outFrame p f)
    else if !fcsGood f || (!isLine p && (f.length < 64 || f.length > 9600)) then s.inc .PORT_FCS_ERR p
    else macControl (s.inc .PORT_RX_FRAMES p) p f)

/-- PAUSE_QUANTA_EXPIRY: transmission resumes for the priorities whose quanta ran out; a set bit 0–7 names a priority
under PFC, and no set bit means PAUSE (R69). -/
def execPauseQuantaExpiry (p : Fin 64) (pri : BitVec 8) (s : State) : Host.Outcome State Fault Refusal :=
  .next (if pri = 0 then setPaused s p 8 0
    else (List.range 8).foldl (fun s i => if pri.getLsbD i then setPaused s p i 0 else s) s)

/-- PAUSE_REPEAT: while the occupancy stays above XON, the frame is repeated (R65). -/
def execPauseRepeat (p : Fin 64) (s : State) : Host.Outcome State Fault Refusal :=
  .next (let s := flowEval s p
    if s.fb PORT_STATUS.XOFF p then sendPause s p 0xFFFF else s)

/-! ### Link-up and loss (R59, R60) -/

/-- CDR_LOCK: every lane of a ready port has signal and lock (R59). -/
def execCdrLock (p : Fin 64) (s : State) : Host.Outcome State Fault Refusal :=
  .next (if s.fb PORT_STATUS.READY p then
    (s.setF PORT_STATUS.SIG p (laneMask s p)).setF PORT_STATUS.LOCK p (laneMask s p) else s)

/-- RX_ADAPTATION_DONE: after lock on every lane (R58, R59). -/
def execRxAdaptationDone (p : Fin 64) (s : State) : Host.Outcome State Fault Refusal :=
  .next (if s.f PORT_STATUS.LOCK p = laneMask s p ∧ s.fb PORT_STATUS.READY p then
    s.setPort p { s.port p with adapted := true } else s)

end Sys2Proof.Machine
end

