-- ==== Sys2Proof/Machine/Tithe.lean ====
section
/-! DEFINITION. The tithe: frames, the queues of each line port and twin link, policing, reassembly and forwarding
(R219–R224, R232). -/

namespace Sys2Proof.Machine

/-! ### Rates (R219, R220, R224) -/

/-- Links 0–31 are line ports 32–63; 32 and 33 are the twin links (R249). -/
def linkPort (l : Nat) : Nat := 32 + l
def isTwinLink (l : Nat) : Bool := l ≥ 32

/-- Growth of a link's tithe credit, in ten-thousandths of a byte for each µs: the fraction of the port rate. -/
def titheRate (s : State) (l : Nat) : Nat := 25000 * portWidth s (linkPort l) * polTithe s

/-- Tithe rate in hundredths of Mb/s: 13.76 Mb/s for each OTUC under OTN Seal (R219). -/
def titheCmbps (s : State) (l : Nat) : Nat :=
  let p := linkPort l
  if isTwinLink l || !provisioned s p then 0
  else if framing s p = frOtn then 1376 * 2 * portWidth s p
  else 2000 * portWidth s p * polTithe s

/-- Tithe rate in Mb/s as FAB_LINK_TITHE reports it. -/
def titheMbps (s : State) (l : Nat) : Nat := titheCmbps s l / 100

def creditMax : Nat := 42040000
def tokensMax : Nat := 81920000

/-- Credit grown up to now. -/
def refill (s : State) (l : Nat) : LinkQ :=
  let q := s.link l
  let r := titheRate s l
  { q with credit := min creditMax (q.credit + r * (s.rtc.toNat - q.creditAt.toNat)), creditAt := s.rtc,
           tokens := min tokensMax (q.tokens + 2 * r * (s.rtc.toNat - q.tokensAt.toNat)), tokensAt := s.rtc }

/-! ### Queues (R223) -/

/-- A frame of a class is admitted while the occupancy is below this. -/
def classLimit (cls : Nat) : Nat :=
  match cls with
  | 4 => 32768 | 3 => 49152 | 2 => 57344 | _ => 65536

def txOccupancy (q : LinkQ) : Nat := q.tx.foldl (fun n f => n + f.bytes.length) 0

/-- Bytes in the receive queue: segments that wait for the rest of their message, and whole messages. -/
def rxOccupancy (q : LinkQ) : Nat :=
  q.parts.foldl (fun n r => r.parts.foldl (fun n p => n + p.2.length + 16) n) 0 +
  q.msgs.foldl (fun n m => n + m.bytes.length + 16 * ceilDiv m.bytes.length 2048) 0

/-- Message that a link's receive queue serves next: the oldest of the most urgent class (R223). -/
def rxHead (q : LinkQ) : Option TMsg := (List.range 5).findSome? fun c => q.msgs.find? fun m => m.cls == c

/-- Append a frame to a link's transmit queue, or drop it. -/
def txAdmit (s : State) (l : Nat) (f : TFrame) : Bool × State :=
  let q := s.link l
  if txOccupancy q < classLimit f.cls then (true, s.setLink l { q with tx := q.tx ++ [f] })
  else (false, s.inc .FAB_TX_DROP l)

/-- Oldest frame of the most urgent class. -/
def txHead (q : LinkQ) : Option TFrame := (List.range 5).findSome? fun c => q.tx.find? fun f => f.cls == c

/-! ### Header (R222) -/

def adjacent (s : State) (l : Nat) : Bool := s.fb FAB_LINK_STATUS.ADJ l

/-- Own fabric address. -/
def fabAddr (s : State) : Nat := s.f FAB_STATUS.ADDR 0

/-- Version in the header of frames to a neighbour; 3 where the link has none yet (R227, R236). -/
def linkVer (s : State) (l : Nat) : Nat := if s.f FAB_LINK_STATUS.VER l = 4 then 4 else 3

def titheHeader (ver cls : Nat) (lk : Bool) (hops dst src : Nat) (id : Word) (seg segs len : Nat) : List Byte :=
  [BitVec.ofNat 8 ver, BitVec.ofNat 8 (cls * 32 + b2n lk * 16 + hops)] ++ beBytes 2 dst ++ beBytes 2 src ++
    beBytes 4 id.toNat ++ [BitVec.ofNat 8 seg, BitVec.ofNat 8 segs] ++ beBytes 2 len ++ [0, 0]

/-! ### Sending (R220, R221, R223) -/

/-- The transmitter of a link can send tithe frames: a READY line port whose module is no SHADOW, without a loopback or with a
near-end one, or a twin link that is up. They still leave while the port sends remote fault in place of data (DESIGN CHOICE,
log 105). -/
def linkSends (s : State) (l : Nat) : Bool :=
  if l = 32 then s.fb TWN_STATUS.LINK0 0
  else if l = 33 then s.fb TWN_STATUS.LINK1 0
  else
    let p := linkPort l
    provisioned s p && s.fb PORT_STATUS.READY p && s.f PORT_CTL.LPBK p ≤ 1 && !shadows s

/-- A message of a class fits a link: not empty, at most 32,768 bytes, and on a version 3 link not bulk and at most 8,192
bytes (R222, R236). -/
def titheFits (ver cls len : Nat) : Bool :=
  len != 0 && len ≤ (if ver = 3 then 8192 else 32768) && !(ver == 3 && cls == 4)

/-- A message cut into frames with the header fields given, and queued whole; it is refused whole where a frame of it is
not admitted or it does not fit the link, and the refusal is told to the management engine (R223). -/
def titheQueue (s : State) (l ver cls : Nat) (lk : Bool) (hops dst src : Nat) (id : Word) (msg : List Byte) : Bool × State :=
  let parts := chunks 2048 16 msg
  let frames := parts.mapIdx fun i b => (⟨cls, titheHeader ver cls lk hops dst src id i parts.length b.length ++ b⟩ : TFrame)
  let q := s.link l
  let room := (frames.foldl (fun (r : Bool × Nat) f => (r.1 && r.2 < classLimit cls, r.2 + f.bytes.length))
    (true, txOccupancy q)).1
  if titheFits ver cls msg.length && room then (true, s.setLink l { q with tx := q.tx ++ frames })
  else (false, ({ s with fab := { s.fab with refused := some (l, cls) } }).inc .FAB_TX_DROP l)

/-- A message that this module originates: HOPS 15, its own address, and a MSG_ID of its own. -/
def titheSend (s : State) (l cls : Nat) (lk : Bool) (dst : Nat) (msg : List Byte) : Bool × State :=
  titheQueue { s with msgId := s.msgId + 1 } l (linkVer s l) cls lk 15 dst (fabAddr s) s.msgId msg

/-- A broadcast resent on a link with the originator's SRC and MSG_ID, and one hop less; with no hop left it stops here
(R222, R232). -/
def titheResend (s : State) (l : Nat) (m : TMsg) : State :=
  if m.hops = 0 then s else (titheQueue s l (linkVer s l) m.cls false (m.hops - 1) 0xFFF m.src m.id m.bytes).2

/-! ### Receiving (R222–R224, R232) -/

/-- A header that a tithe frame may carry, with a segment as long as it says. -/
def titheFormat (f : List Byte) : Bool :=
  let b := fun i => (byteAt f i).toNat
  let segs := b 11
  let len := beAt f 12 2
  f.length ≥ 17 && (b 0 == 3 || b 0 == 4) && b 1 / 32 ≤ 4 && b 2 / 16 == 0 && b 4 / 16 == 0 && 1 ≤ segs && segs ≤ 16 &&
    b 10 < segs && 1 ≤ len && len ≤ 2048 && f.length ≥ 16 + len && b 14 == 0 && b 15 == 0 &&
    !(b 0 == 3 && (segs > 4 || b 1 / 32 == 4))

/-- A link can carry a frame on: it is adjacent, and where its version is 3 the frame is neither bulk nor one of more than
four segments (R232, R236). -/
def carriesOn (s : State) (l : Nat) (f : List Byte) : Bool :=
  adjacent s l && !(linkVer s l == 3 && ((byteAt f 1).toNat / 32 == 4 || (byteAt f 11).toNat > 4))

/-- The route entry of an address is good: one whose parity is wrong counts as a miss (R408). -/
def routeGood (s : State) (a : Nat) : Bool := !s.lost.contains (.route (BitVec.ofNat 12 a))

/-- Forward a frame to the primary link of its destination, or to the alternate, with the version of the link that it
leaves on (R222, R232). -/
def titheForward (s : State) (l : Nat) (f : List Byte) : State :=
  let b1 := (byteAt f 1).toNat
  let dst := beAt f 2 2
  let prim := s.f FAB_ROUTE.LINK dst
  let alt := s.f FAB_ROUTE.ALT_LINK dst
  let named := dst != 0 && dst != 0xFFF && routeGood s dst
  let s := meetEntry s (.route (BitVec.ofNat 12 dst)) codeQueue
  let out :=
    if named && s.fb FAB_ROUTE.VALID dst && carriesOn s prim f then some prim
    else if named && s.fb FAB_ROUTE.ALT_VALID dst && carriesOn s alt f then some alt
    else none
  match out with
  | some o =>
    if b1 % 16 = 0 || bitAt b1 4 then s.inc .FAB_FWD_DROP l
    else (txAdmit s o ⟨b1 / 32, setAt (setAt f 0 (BitVec.ofNat 8 (linkVer s o))) 1 (BitVec.ofNat 8 (b1 - 1))⟩).2
  | none => s.inc .FAB_FWD_DROP l

/-- Admit a segment for this module to the receive queue, and put its message together when it is complete. -/
def titheAdmit (s : State) (l : Nat) (f : List Byte) : State :=
  let b := fun i => (byteAt f i).toNat
  let q := s.link l
  let cls := b 1 / 32
  if rxOccupancy q ≥ classLimit cls then (s.inc .FAB_RX_DROP_FULL l).raise FAB_EVT.RX_Q_DROP 0
  else
    let src := beAt f 4 2
    let id := BitVec.ofNat 32 (beAt f 6 4)
    let segs := b 11
    let same := fun (r : Reasm) => r.src == src && r.id == id && r.segs == segs
    let r := (q.parts.find? same).getD ⟨src, id, segs, cls, bitAt (b 1) 4, beAt f 2 2, b 1 % 16, []⟩
    let r := if r.parts.any (fun p => p.1 == b 10) then r
      else { r with parts := r.parts ++ [(b 10, sliceAt f 16 (beAt f 12 2))] }
    let rest := q.parts.filter fun x => !same x
    if r.parts.length = segs then
      let bytes := ((List.range segs).map fun i => (r.parts.findSome? fun p => if p.1 = i then some p.2 else none).getD []).flatten
      s.setLink l { q with parts := rest, msgs := q.msgs ++ [⟨r.cls, r.lk, r.src, r.id, r.hops, bytes⟩] }
    else s.setLink l { q with parts := rest ++ [r] }

/-- Bytes of a tithe frame on an Ethernet line beside header and segment: DA, SA, EtherType and FCS (R221). -/
def titheEthOverhead : Nat := 18

/-- A tithe frame from its header onward arrives on a link. An Ethernet port charges the frame of R221 to its policer. -/
def titheRx (s : State) (l : Nat) (f : List Byte) : State :=
  let s := s.inc .FAB_RX_FRAMES l
  let police := !isTwinLink l && framing s (linkPort l) != frOtn
  let q := refill s l
  let s := s.setLink l q
  let cost := 10000 * (f.length + titheEthOverhead)
  if police && q.tokens < cost then s.inc .FAB_RX_DROP_POLICE l
  else
    let s := if police then s.setLink l { q with tokens := q.tokens - cost } else s
    if !titheFormat f then s.inc .FAB_RX_DROP_FMT l
    else
      let dst := beAt f 2 2
      if dst = 0xFFF ∨ dst = fabAddr s then titheAdmit s l f else titheForward s l f

/-! ### GCC0 of an OTN Seal port (R221) -/

/-- What a receiver finds at the head of GCC0 bytes: nothing whole yet, one byte to pass over while it hunts, a malformed
frame of which it passes the start word, or a frame of a length. -/
inductive GccItem where
  | wait | skip | bad | frame (n : Nat)
  deriving DecidableEq, Repr

/-- Length of the header and segment that a header announces, none where it is impossible. -/
def gccLength (b : List Byte) : Option Nat :=
  let n := beAt b 14 2
  if 1 ≤ n ∧ n ≤ 2048 then some (16 + n) else none

/-- Head of the bytes: a start word, a header with a possible length, and a frame whose CRC-32 is right. -/
def gccItem (b : List Byte) : GccItem :=
  match b with
  | [] => .wait
  | [x] => if x = 0x7E then .wait else .skip
  | x :: y :: _ =>
    if x ≠ 0x7E ∨ y ≠ 0x5A then .skip
    else if b.length < 18 then .wait
    else
      match gccLength b with
      | none => .bad
      | some n =>
        if b.length < 2 + n + 4 then .wait
        else if sliceAt b (2 + n) 4 = Crypto.fcs (sliceAt b 2 n) then .frame n else .bad

/-- Take what is whole out of the bytes; `fuel` bounds the items, of which each takes a byte or more. -/
def gccRun (l : Nat) : Nat → List Byte → State → State
  | 0, b, s => s.setLink l { s.link l with gcc := b }
  | fuel + 1, b, s =>
    match gccItem b with
    | .wait => s.setLink l { s.link l with gcc := b }
    | .skip => gccRun l fuel (b.drop 1) s
    | .bad => gccRun l fuel (b.drop 2) (s.inc .FAB_RX_DROP_FMT l)
    | .frame n => gccRun l fuel (b.drop (n + 6)) (titheRx s l (sliceAt b 2 n))

/-- GCC0 bytes arrive after those that made no whole frame yet. -/
def gccRx (s : State) (l : Nat) (b : List Byte) : State :=
  let all := (s.link l).gcc ++ b
  gccRun l all.length all s

/-- Ethernet form of a tithe frame on a line port, FCS included. -/
def titheEthernet (s : State) (l : Nat) (f : List Byte) : List Byte :=
  let m := pmTitheDa s ++ pmLineSa s (linkPort l) ++ beBytes 2 (pmTitheEtype s) ++ f
  m ++ Crypto.fcs m

/-- Hand a tithe frame to the line. A near-end loopback hands it to the receiver of the port, which discards it inside a
down-hold (R60, R63). -/
def titheOut (s : State) (l : Nat) (f : List Byte) : State :=
  let s := s.inc .FAB_TX_FRAMES l
  let p := linkPort l
  if isTwinLink l then twinSendOn s (l - 32) twinTithe f
  else if framing s p = frOtn then
    let b := beBytes 2 0x7E5A ++ f ++ Crypto.fcs f
    if s.f PORT_CTL.LPBK p = 1 then (if receiving s p then gccRx s l b else s) else s.emit (.tithe l b)
  else
    let s := s.inc .PORT_TX_FRAMES p
    if s.f PORT_CTL.LPBK p = 1 then (if receiving s p then titheRx (s.inc .PORT_RX_FRAMES p) l f else s)
    else s.emit (.line p (titheEthernet s l f))

/-- Send the frame at the head of the transmit queue if the credit covers it; none where nothing can be sent. -/
def titheServe (s : State) (l : Nat) : Option State :=
  let q := refill s l
  if !linkSends s l then none
  else
    match txHead q with
    | none => none
    | some f =>
      let eth := !isTwinLink l && framing s (linkPort l) != frOtn
      let cost := 10000 * (f.bytes.length + 38)
      if eth && q.credit < cost then none
      else
        let q := { q with tx := q.tx.erase f, credit := if eth then q.credit - cost else q.credit }
        some (titheOut (s.setLink l q) l f.bytes)

/-- A link hears its neighbour: a line port that receives, or a twin link that is up. -/
def linkHears (s : State) (l : Nat) : Bool :=
  if l = 32 then s.fb TWN_STATUS.LINK0 0
  else if l = 33 then s.fb TWN_STATUS.LINK1 0
  else receiving s (linkPort l) && s.f PORT_CTL.LPBK (linkPort l) == 0

/-- TITHE_FRAME_TX. -/
def execTitheFrameTx (l : Fin 34) (s : State) : Host.Outcome State Fault Refusal := .next ((titheServe s l).getD s)

/-- TITHE_FRAME_RX: a frame of an Ethernet line from its tithe header onward, GCC0 bytes of an OTN Seal port, or a sealed
frame of a twin link. A far-end loopback of the port sends it back (R63). -/
def execTitheFrameRx (l : Fin 34) (f : List Byte) (s : State) : Host.Outcome State Fault Refusal :=
  .next (if isTwinLink l then
      match twinArrive s (l - 32) f with
      | (some (k :: b), s) => if k.toNat = twinTithe then titheRx s l b else s
      | (_, s) => s
    else if linkHears s l then (if framing s (linkPort l) = frOtn then gccRx s l f else titheRx s l f)
    else farEnd s (linkPort l) (.tithe l f))

/-- TITHE_REASSEMBLY_TIMEOUT: a message that is not complete is discarded (R222). -/
def execTitheReassemblyTimeout (l : Fin 34) (src : BitVec 12) (id : Word) (s : State) : Host.Outcome State Fault Refusal :=
  .next (let q := s.link l
    let same := fun (r : Reasm) => r.src == src.toNat && r.id == id
    if q.parts.any same then (s.setLink l { q with parts := q.parts.filter fun r => !same r }).inc .FAB_RX_DROP_FMT l
    else s)

end Sys2Proof.Machine
end

