-- ==== Sys2Proof/Machine/Seal.lean ====
section
/-! DEFINITION. Sealing and opening: key material of a slot, IVs, AAD and the three framings' units (R85–R90, R95–R100,
R105, R108, R112). -/

namespace Sys2Proof.Machine

/-! ### Who runs -/

/-- The channel runs on the sequencers of this module: ACTIVE or DRAINING, and not a mirror (R132, R239). -/
def chRuns (s : State) (c : Nat) : Bool := chLive s c && !shadows s

/-- Running channels of a line port, in rising order. -/
def portChans (s : State) (lp : Nat) : List Nat := (busyChannels s).filter fun c => chRuns s c && chLine s c == lp

/-- Running channels that deliver to a client port. -/
def clientChans (s : State) (p : Nat) : List Nat :=
  (busyChannels s).filter fun c => chRuns s c && chClient s c == p && chFraming s c != frOtn

/-- An engine takes units: its slice is ready and neither draining nor drained, and it is neither WEDGED nor being
reset (R286, R287, R377). -/
def engAvail (s : State) (e : Nat) : Bool :=
  let sl := e / 2
  (s.slice sl).ready && !(s.slice sl).draining && !sliceDrained s sl && s.f ENG_STATUS.STATE e != 4 &&
    s.f ENG_STATUS.STATE e != 5

/-- Slices of a port whose egress, or ingress, engine takes units. -/
def egressSlices (s : State) (p : Nat) : List Nat := (portSlices s p).filter fun sl => engAvail s (2 * sl)
def ingressSlices (s : State) (p : Nat) : List Nat := (portSlices s p).filter fun sl => engAvail s (2 * sl + 1)

/-! ### What a port sends while it has no data (R61, R63, R107) -/

/-- Every provisioned client port paired with a line port has lost its link, and there is one. -/
def allClientsDown (s : State) (lp : Nat) : Bool := clientsOf s lp != [] && (clientsOf s lp).all fun p => !linkUp s p

/-- OPUCs of an OTN port (R47). -/
def otnN (s : State) (p : Nat) : Nat := 2 * portWidth s p

/-- Running channel bound to an OPUC of a line port. -/
def otnChan (s : State) (lp i : Nat) : Option Nat := (portChans s lp).find? fun c => ctx s Ctx.OPUC c == i

/-- Every OPUC of the port has a running channel (R107). -/
def otnCarries (s : State) (lp : Nat) : Bool := (List.range (otnN s lp)).all fun i => (otnChan s lp i).isSome

/-- Every engine of the port runs; a constant-rate signal needs them all (R286, R377). -/
def otnEngines (s : State) (lp : Nat) : Bool :=
  (portSlices s lp).all fun sl => engAvail s (2 * sl) && engAvail s (2 * sl + 1)

/-- Signal of a port between frames (R61, R63, R107, R377). An OTN client port whose line port has no link sends ODUC-AIS even
where a channel is not enabled, and an OTN line port with FLTPROP whose paired clients are all down sends remote fault even
there: the spec gives R61 and R107 no precedence (DESIGN CHOICE, log 77). -/
def portSignal (s : State) (p : Nat) : Signal :=
  let otn := framing s p == frOtn
  if s.f PORT_CTL.LPBK p = 1 then .squelched
  else if isLine p then
    if s.f PORT_CTL.LPBK p = 3 then (if otn then .oci else .idles)
    else if shadows s then
      (if !s.fb TWN_CFG.SHADOW_TX 0 then .squelched else if otn then .oci else .idles)
    else if s.fb PORT_CFG.FLTPROP p && allClientsDown s p then .remoteFault
    else if otn then (if otnCarries s p && otnEngines s p && allClientsDown s p then .ais else .oci) else .idles
  else
    let down := !linkUp s (s.f PORT_CFG.PAIR p)
    if otn then (if down then .ais else .oci)
    else if down && s.fb PORT_CFG.FLTPROP p then .localFault else .idles

/-! ### Key material -/

/-- What a slot holds. -/
structure KeyMat where
  key : List Byte
  aux : List Byte
  salt : List Byte
  epoch : Nat
  deriving DecidableEq, Repr

def egMat (s : State) (c k : Nat) : KeyMat :=
  ⟨ctxBytes s (egKey k) c, ctxBytes s (egAux k) c, ctxBytes s (egSalt k) c, ctx s (egEpoch k) c⟩

def inMat (s : State) (c k : Nat) : KeyMat :=
  ⟨ctxBytes s (inKey k) c, ctxBytes s (inAux k) c, ctxBytes s (inSalt k) c, ctx s (inEpoch k) c⟩

/-- Configuration data of the complication that provides a channel's cipher, for the seal or the open side: the image in the
even or the odd region of the first slice of its line port (R85, R371; DESIGN CHOICE, log 78). -/
def complData (s : State) (c : Nat) (openSide : Bool) : List Byte :=
  let region := 2 * anchor (chLine s c) + b2n openSide
  ((s.sheaf.compl.find? fun x => bitAt (leAt x.bytes 0 8) region && (byteAt x.bytes 9).toNat == b2n openSide &&
    (byteAt x.bytes 8).toNat == ctx s Ctx.COMPL c).map (·.bytes)).getD []

/-- AES key length of a channel's cipher: 16 bytes for the GCM-AES-128 suites. -/
def keyLen (s : State) (c : Nat) : Nat := if ctx s Ctx.CIPHER c % 2 = 1 then 16 else 32

def aeadSeal (s : State) (c : Nat) (m : KeyMat) (iv aad pt : List Byte) : List Byte × List Byte :=
  if ctx s Ctx.COMPL c = 0 then Crypto.gcmSeal (m.key.take (keyLen s c)) iv aad pt
  else
    let g := Config.complSeal (complData s c false) m.key iv aad pt
    ((List.range pt.length).map g, (List.range 16).map fun i => g (pt.length + i))

def aeadOpen (s : State) (c : Nat) (m : KeyMat) (iv aad ct tag : List Byte) : Option (List Byte) :=
  if ctx s Ctx.COMPL c = 0 then Crypto.gcmOpen (m.key.take (keyLen s c)) iv aad ct tag
  else (Config.complOpen (complData s c true) m.key iv aad ct tag).map (List.range ct.length).map

/-! ### MACsec Seal (R87–R90) -/

def confOffset (s : State) (c : Nat) : Nat := match ctx s Ctx.CONF_OFF c with | 1 => 30 | 2 => 50 | _ => 0

def isXpn (s : State) (c : Nat) : Bool := ctx s Ctx.CIPHER c ≥ 2

/-- IV of R89: SCI ‖ PN, or (SSCI ‖ PN) XOR salt. An XPN slot's AUX holds the salt, then the SSCI. -/
def macsecIv (s : State) (c : Nat) (m : KeyMat) (sci : List Byte) (pn : Nat) : List Byte :=
  if isXpn s c then xorBytes (sliceAt m.aux 12 4 ++ beBytes 8 pn) (m.aux.take 12) else sci ++ beBytes 4 pn

/-- Client bytes after SA that are sent in clear. -/
def clearLen (s : State) (c len : Nat) : Nat := min (confOffset s c) (len - 12)

/-- Blocks that sealing a frame uses: counter-mode and tag-mask (R140). -/
def macsecBlocks (s : State) (c len : Nat) : Nat := ceilDiv (len - 12 - clearLen s c len) 16 + 1

/-- Line frame, without FCS, of a client frame. -/
def macsecFrame (s : State) (c : Nat) (m : KeyMat) (pn : Nat) (fr : List Byte) : List Byte :=
  let expl := ctxBit s Ctx.SCI_EXPL c
  let sci := ctxBytes s Ctx.TX_SCI c
  let tci := BitVec.ofNat 8 (0x0C + b2n expl * 32 + m.epoch % 4)
  let clear := (fr.drop 12).take (clearLen s c fr.length)
  let aad := fr.take 12 ++ [0x88, 0xE5, tci, 0] ++ beBytes 4 pn ++ (if expl then sci else []) ++ clear
  let r := aeadSeal s c m (macsecIv s c m sci pn) aad (fr.drop (12 + clear.length))
  aad ++ r.1 ++ r.2

/-! ### Bale Seal (R95–R100, R105) -/

def baleV1 (s : State) (c : Nat) : Bool := ctxBit s Ctx.BALE_V1 c

/-- Largest payload of a bale of the channel. -/
def baleMax (s : State) (c : Nat) : Nat :=
  if ctxBit s Ctx.TFC_EN c then 16 * ctx s Ctx.TFC_LEN c else if baleV1 s c then 9216 else 16384

/-- Record of a client frame. -/
def baleRecord (fr : List Byte) : List Byte := beBytes 2 fr.length ++ fr

/-- Payload of a bale: records, and under traffic-flow confidentiality an end word and filler up to `len`. -/
def balePayload (frames : List (List Byte)) (len : Option Nat) : List Byte :=
  let recs := (frames.map baleRecord).flatten
  match len with
  | none => recs
  | some n =>
    let rest := n - recs.length
    recs ++ (if rest ≥ 2 then [0xC0, 0x00] ++ zeros (rest - 2) else zeros rest)

def baleBlocks (len : Nat) : Nat := ceilDiv len 16 + 1

/-- Header of version 2 or 1. -/
def baleHeader (s : State) (c epoch seq len : Nat) : List Byte :=
  let peer := ctx s Ctx.PEER_CH c
  if baleV1 s c then
    [0x01, 0x00] ++ beBytes 2 peer ++ beBytes 2 (epoch % 65536) ++ beBytes 6 seq ++ beBytes 2 len ++ zeros 10
  else
    [0x02, BitVec.ofNat 8 (b2n (ctxBit s Ctx.TFC_EN c) * 2)] ++ beBytes 2 peer ++ beBytes 4 epoch ++ beBytes 8 seq ++
      beBytes 4 len ++ zeros 12

/-- IV: 32-bit salt ‖ 64-bit sequence; version 1: 48-bit salt ‖ 48-bit sequence, its last two salt bytes zero. -/
def baleIv (v1 : Bool) (m : KeyMat) (seq : Nat) : List Byte :=
  if v1 then m.salt ++ [0, 0] ++ beBytes 6 seq else m.salt ++ beBytes 8 seq

/-- Line frame, without FCS, of a payload. -/
def baleFrame (s : State) (c : Nat) (m : KeyMat) (seq : Nat) (payload : List Byte) : List Byte :=
  let h := baleHeader s c m.epoch seq payload.length
  let r := aeadSeal s c m (baleIv (baleV1 s c) m seq) h payload
  ctxBytes s Ctx.LINE_DA c ++ ctxBytes s Ctx.LINE_SA c ++ beBytes 2 (pmBaleEtype s) ++ h ++ r.1 ++ r.2

/-! ### OTN Seal (R108, R112) -/

/-- Payload bytes of one OTUC frame and of a group. -/
def otnFrameBytes : Nat := 15232
def otnGroupBytes : Nat := 121856
def otnBlocks : Nat := 7617

/-- Encrypt or decrypt the payload of a group: each frame's blocks count from 1,024 × its position. `openSide` names the
complication image that works, where one provides the cipher. -/
def otnCrypt (s : State) (c : Nat) (openSide : Bool) (m : KeyMat) (counter : Nat) (payload : List Byte) : List Byte :=
  let head := m.salt ++ beBytes 8 counter
  if ctx s Ctx.COMPL c = 0 then
    ((List.range 8).map fun f =>
      Crypto.aesCtr m.key (beNat (head ++ beBytes 4 (1024 * f))) (sliceAt payload (otnFrameBytes * f) otnFrameBytes)).flatten
  else (List.range payload.length).map (Config.complStream (complData s c openSide) m.key head payload)

/-- Tag of a group (R112): GMAC under KAUTH, leftmost 64 bits. -/
def otnTag (s : State) (c : Nat) (openSide : Bool) (m : KeyMat) (counter opuc : Nat) (desc ct : List Byte) : List Byte :=
  let iv := m.salt ++ beBytes 8 counter
  let aad := beBytes 8 counter ++ beBytes 4 m.epoch ++ [BitVec.ofNat 8 (opuc + 1)] ++ desc ++ ct
  if ctx s Ctx.COMPL c = 0 then (Crypto.gmac m.aux iv aad).take 8
  else (List.range 8).map (Config.complMac (complData s c openSide) m.aux iv aad)

/-- Descriptor that announces a group (R111). -/
def otnDesc (s : State) (c counter epoch : Nat) : List Byte :=
  let d := beBytes 4 (counter % 2 ^ 32) ++ beBytes 2 (epoch % 65536) ++ [BitVec.ofNat 8 (0x10 + b2n (ctxBit s Ctx.OTN_HOLD c))]
  d ++ [Crypto.crc8 d]

end Sys2Proof.Machine
end

