-- ==== Sys2Proof/Machine/KeyOps.lean ====
section
/-! DEFINITION. The control plane's keys: roots, derivation of epoch keys, installs into next slots, the end of a
channel (R129, R139, R144, R145, R191, R192, R199–R201, R209, R217, R241). -/

namespace Sys2Proof.Machine

/-! ### Tables -/

def State.key (s : State) (c : Nat) : ChanKey := SMap.get (fun _ => ChanKey.reset) s.keys c

def State.setKey (s : State) (c : Nat) (v : ChanKey) : State :=
  { s with keys := SMap.set (fun _ => ChanKey.reset) s.keys c v }

/-- Open session of a channel. -/
def State.session (s : State) (c : Nat) : Option Session := (s.sessions.find? fun e => e.1 == c).map (·.2)

def State.setSession (s : State) (c : Nat) (v : Session) : State :=
  { s with sessions := SMap.set (fun _ => Session.none) s.sessions c v }

def State.dropSession (s : State) (c : Nat) : State := { s with sessions := SMap.erase s.sessions c }

/-- A session ends, and with it what its jobs hold of Z (R191). -/
def endSession (s : State) (c : Nat) : State := eraseZ (s.dropSession c) (ofChannel c)

/-! ### Identity and pins (R204, R208, R209) -/

/-- Reserved node IDs name no module. -/
def reservedNode (n : W64) : Bool := n == 0 || n == BitVec.allOnes 64

def State.pin (s : State) (n : W64) : Option Pin := s.silo.pins.find? fun p => p.node == n

/-- Node ID that a channel's PEER_NODE names: its bytes stand in line order (R123). -/
def peerNode (s : State) (c : Nat) : W64 := nodeOf (ctxBytes s Ctx.PEER_NODE c)

/-- `n` is the peer, or its pinned twin partner. -/
def isPeer (s : State) (peer n : W64) : Bool :=
  n == peer || ((s.pin n).isSome && (s.pin peer).any fun p => p.partner == n && n != 0)

/-- Mark a pin CHANGED; the event is raised when it was NORMAL (R211). -/
def markChanged (s : State) (n : W64) : State :=
  match s.pin n with
  | some p =>
    let pins := s.silo.pins.map fun q => if q.node = n then { q with changed := true } else q
    let s := granaryPut s { s.silo with pins := pins }
    if p.changed then s else s.raise SILO_EVT.PEER_CHANGED 0
  | none => s

/-! ### Random numbers (R214–R217) -/

def healthySources (s : State) : Nat := ((List.range 8).filter fun i => !bitAt s.silo.srcBad i).length

/-- The longest run of equal bits that ends at each place stays below the cutoff of the repetition count test. -/
def repetitionOk : Nat → Bool → List Bool → Bool
  | _, _, [] => true
  | n, a, b :: r => let n := if a == b then n + 1 else 1; n < 41 && repetitionOk n b r

/-- Adaptive proportion test of a window: fewer than 793 of its 1,024 bits equal the first. 793 is one more than the least
number of successes that Binomial(1024, 2^−0.5) does not exceed with probability 1 − 2^−20 (SP 800-90B, 4.4.2). -/
def proportionOk (w : List Bool) : Bool :=
  match w with
  | [] => true
  | a :: _ => (w.filter (· == a)).length < 793

/-- Bits of bytes, least significant first. -/
def rawBits (b : List Byte) : List Bool := b.flatMap fun x => (List.range 8).map fun i => bitAt x.toNat i

/-- A source's raw bits pass the health tests of R215; windows of 1,024 bits begin at the first bit. -/
def healthOk (raw : List Byte) : Bool :=
  repetitionOk 0 false (rawBits raw) && (chunks 128 (raw.length / 128) raw).all fun w => proportionOk (rawBits w)

/-- A source leaves use until the next warm or cold reset (R215). -/
def sourceFails (s : State) (i : Nat) : State :=
  if bitAt s.silo.srcBad i then s
  else { s with silo := { s.silo with srcBad := s.silo.srcBad + 2 ^ i } }.raise SILO_EVT.ENTROPY_SRC_FAIL 0

/-- A conditioned seed of 384 bits: SHA-384 over 1,024 raw bits of the healthy source whose turn it is (R214); none while
fewer than two sources are healthy (R217). -/
def siloSeed (s : State) : Option (List Byte × State) :=
  let turn := (List.range 8).map fun i => (s.silo.srcTurn + i) % 8
  match turn.find? fun i => !bitAt s.silo.srcBad i with
  | some i =>
    if healthySources s < 2 then none
    else
      let r := s.free 128
      some (Crypto.sha384 r.1, { r.2 with silo := { r.2.silo with srcTurn := (i + 1) % 8 } })
  | none => none

/-- Number of the Silo in its personalisation string (DESIGN CHOICE, log 45). -/
def siloDrbg : Nat := 0xFF

/-- An instance takes a seed: it instantiates, or reseeds (R216). -/
def drbgTake (old : Option Crypto.Drbg) (seed pers : List Byte) : Crypto.Drbg :=
  match old with
  | none => Crypto.drbgSeed (xorBytes seed pers)
  | some d => Crypto.drbgUpdate d (xorBytes seed pers)

/-- The Silo's generator takes a seed, or stops generating where none is issued (R216, R217). -/
def siloReseed (s : State) : State :=
  match siloSeed s with
  | some (seed, s) =>
    { s with silo := { s.silo with drbg := some (drbgTake s.silo.drbg seed (drbgPers s siloDrbg)), drbgReqs := 0 } }
  | none => { s with silo := { s.silo with drbg := none } }

/-- The Silo's generator runs. -/
def randomOk (s : State) : Bool := s.silo.drbg.isSome

/-- The generator can answer all of an operation's `n` requests: it runs, and where the reseed after the 65,536th request falls
among them a seed can be issued (R216, R217). An operation that it cannot answer whole draws nothing (DESIGN CHOICE, log 89). -/
def randomFor (s : State) (n : Nat) : Bool :=
  randomOk s && (decide (s.silo.drbgReqs + n ≤ 65536) || decide (2 ≤ healthySources s))

/-- A generate request of `n` bytes, at most 512. The generator reseeds after the 65,536th (R216). No operation makes one of a
generator that stands. -/
def siloRandom (s : State) (n : Nat) : List Byte × State :=
  match s.silo.drbg with
  | none => s.free n
  | some d =>
    let k := ceilDiv n 16
    let d' := Crypto.drbgUpdate ⟨d.key, beBytes 16 ((beNat d.v + k) % 2 ^ 128)⟩ (zeros 48)
    let s := { s with silo := { s.silo with drbg := some d', drbgReqs := s.silo.drbgReqs + 1 } }
    ((Crypto.drbgBlocks d.key (beNat d.v) k).take n, if s.silo.drbgReqs ≥ 65536 then siloReseed s else s)

/-! ### Derivation (R191, R192) -/

/-- Direction of a half in derivations: 1 from the initiator, 2 to it. -/
def epochDir (r : Root) (tx : Bool) : Nat := if r.initiator == tx then 1 else 2

/-- Context of an epoch's derivation. -/
def epochContext (s : State) (c : Nat) (r : Root) (tx : Bool) (e : Nat) : List Byte :=
  beBytes 4 e ++ [BitVec.ofNat 8 (epochDir r tx), BitVec.ofNat 8 (chFraming s c), BitVec.ofNat 8 (ctx s Ctx.CIPHER c),
    BitVec.ofNat 8 r.baleV] ++ beBytes 2 r.suite

/-- The job of an epoch's derivation comes before all others (R202). -/
def epochJob (s : State) (c : Nat) (r : Root) (tx : Bool) (e : Nat) : State :=
  queueJobs s 0 .other c (epochDir r tx) [(jobEpoch, [r.key, epochContext s c r tx e])]

/-- Key material of an epoch of a channel: KEY, AUX, SALT. `tx` is the egress direction. -/
def epochKeys (s : State) (c : Nat) (r : Root) (tx : Bool) (e : Nat) : KeyMat :=
  let fr := chFraming s c
  let cph := ctx s Ctx.CIPHER c
  let dir := epochDir r tx
  let okm := kdfCtr r.key (ascii "QVR-EPOCH") (epochContext s c r tx e)
  -- a complication cipher takes the material of the AES-256 form
  let short := cph % 2 == 1 && ctx s Ctx.COMPL c == 0
  if fr = frOtn then
    let k := okm 544
    ⟨sliceAt k 0 32, sliceAt k 32 32, sliceAt k 64 4, e⟩
  else if fr = frBale then
    let k := okm 288
    ⟨sliceAt k 0 32, zeros 32, sliceAt k 32 4, e⟩
  else
    let n := if short then 16 else 32
    if cph ≥ 2 then
      let k := okm (8 * n + 96)
      ⟨sliceAt k 0 n ++ zeros (32 - n), sliceAt k n 12 ++ [0, 0, 0, BitVec.ofNat 8 dir] ++ zeros 16, zeros 4, e⟩
    else ⟨sliceAt (okm (8 * n)) 0 n ++ zeros (32 - n), zeros 32, zeros 4, e⟩

/-- A channel enters a state; the change is mirrored (R240). -/
def chEnter (s : State) (c st : Nat) : State := mirrorChan (setChState s c st) c

/-! ### Reservations (R241) -/

/-- Reservation that covers the present epoch and the blocks used: (current epoch, blocks used + 1) under MACsec Seal and
Bale Seal, the old bound + 2^24 under OTN Seal. -/
def newReservation (s : State) (c : Nat) : Nat :=
  if chFraming s c = frOtn then max (ctx s Ctx.RES_END c) (ctx s Ctx.OTN_GROUP c / 2 ^ 24 * 2 ^ 24) + 2 ^ 24
  else ctx s (egEpoch (egCur s c)) c * 2 ^ 32 + ceilDiv (ctx s Ctx.NEXT_SEQ c - 1) (2 ^ 24) + 1

/-- Reservation that the agent mirrors next for a channel, where one is needed: the channel has entered another epoch than
RES_EPOCH, or the last number assigned has passed half of its last block, or it has none yet. -/
def nextReservation (s : State) (c : Nat) : Option Nat :=
  let r := ctx s Ctx.RES_END c
  let covered :=
    if chFraming s c = frOtn then decide (ctx s Ctx.OTN_GROUP c + 2 ^ 23 ≤ r)
    else
      decide (r ≠ 0 ∧ ctx s (egEpoch (egCur s c)) c = r / 2 ^ 32 ∧
        ctx s Ctx.NEXT_SEQ c ≤ (r % 2 ^ 32 - 1) * 2 ^ 24 + 2 ^ 23 + 1)
  if covered then none else some (newReservation s c)

/-- The agent mirrors a reservation, and writes it when the SHADOW has acknowledged it. -/
def reserve (s : State) (c v : Nat) : State :=
  sendRec { s with twin := { s.twin with resDue := SMap.set (fun _ => 0) s.twin.resDue c (BitVec.ofNat 64 v) } }
    (.reservation (chFin c) (BitVec.ofNat 64 v))

/-- An ACTIVE member may mirror a reservation of a channel: none awaits its acknowledgement. -/
def mayReserve (s : State) (c : Nat) : Bool :=
  s.f TWN_STATUS.ROLE 0 == 1 && chLive s c && !(s.twin.resDue.any fun e => e.1 == c)

def reserveEval (s : State) (c : Nat) : State :=
  if mayReserve s c then
    match nextReservation s c with
    | some v => reserve s c v
    | none => s
  else s

/-- Before a channel enters RES_EPOCH + 1, that is once the key of its next epoch has become valid, the agent mirrors a new
reservation where the present one differs (DEDUCED, log 90). -/
def reserveBefore (s : State) (c : Nat) : State :=
  if mayReserve s c && chFraming s c != frOtn && newReservation s c != ctx s Ctx.RES_END c then
    reserve s c (newReservation s c)
  else s

/-! ### Installs (R139, R144, R192, R241) -/

/-- Write the key of a slot, all but its VALID bit. -/
def writeSlot (s : State) (c : Nat) (key aux epoch salt : CtxF) (m : KeyMat) : State :=
  putSlot s c key aux epoch salt m.key m.aux m.epoch (leNat m.salt)

/-- Install into the ingress next slot. -/
def installIn (s : State) (c : Nat) (m : KeyMat) : State :=
  let k := inNext s c
  let s := writeSlot s c (inKey k) (inAux k) (inEpoch k) (inSalt k) m
  setInValid (mirror s (.install (chFin c) .ingress (BitVec.ofNat 32 m.epoch))) c k true codeSilo

/-- Install into the egress next slot; on an ACTIVE twin member VALID waits for the SHADOW's acknowledgement. -/
def installEg (s : State) (c : Nat) (m : KeyMat) : State :=
  let k := egNext s c
  let s := writeSlot s c (egKey k) (egAux k) (egEpoch k) (egSalt k) m
  if s.f TWN_STATUS.ROLE 0 = 1 then
    sendRec (s.setKey c { s.key c with waitAck := true }) (.install (chFin c) .egress (BitVec.ofNat 32 m.epoch))
  else setEgValid s c k true codeSilo

/-- Some valid slot holds a key of the old root (R145). -/
def oldRootUsed (s : State) (c : Nat) (r : Root) : Bool :=
  ([0, 1].any fun k => bitAt (ctx s Ctx.VALID c) k && ctx s (egEpoch k) c < r.firstTx) ||
  ([0, 1, 2].any fun k => bitAt (ctx s Ctx.IN_VALID c) k && ctx s (inEpoch k) c < r.firstRx)

/-- The old root leaves once no slot holds a key derived from it. -/
def releaseOld (s : State) (c : Nat) : State :=
  match (s.key c).root, (s.key c).old with
  | some r, some _ => if oldRootUsed s c r then s else s.setKey c { s.key c with old := none }
  | _, _ => s

/-- The peer of a root is still pinned, or its partner is (R210). -/
def rootPeerPinned (s : State) (r : Root) : Bool := (s.pin r.peer).isSome

/-- Root and epoch that the next install of a direction derives: the old root below the first value exchanged for the
direction, then the committed root from its first epoch on; none where no epoch may be derived (R145, R199, R200,
R210), and none while a takeover waits for its re-root, since the partner may have used them (R150, R247). -/
def nextEpoch (s : State) (c : Nat) (cur : Nat) (tx : Bool) : Option (Root × Nat) :=
  let k := s.key c
  let n := cur + 1
  match k.root with
  | none => none
  | some r =>
    let late := if tx then k.oldTx else k.oldRx
    let cap := if tx then k.capTx else k.capRx
    if ctxBit s Ctx.ROOT_EXP c || k.waitReroot || !rootPeerPinned s r then none
    else
      match k.old, decide (n < late) with
      | some o, true => some (o, n)
      | _, _ =>
        let e := max n (if tx then r.firstTx else r.firstRx)
        if e ≥ 2 ^ 32 || cap.any (fun m => e ≥ m) then none else some (r, e)

/-- Epoch of the current slot of a direction. -/
def curEpoch (s : State) (c : Nat) (tx : Bool) : Nat :=
  if tx then ctx s (egEpoch (egCur s c)) c else ctx s (inEpoch (inCur s c)) c

/-- The derivation of a direction's epoch starts. -/
def startEpoch (s : State) (c : Nat) (r : Root) (tx : Bool) (e : Nat) : State :=
  epochJob (s.setKey c (if tx then { s.key c with jobTx := some e } else { s.key c with jobRx := some e })) c r tx e

/-- As an epoch becomes current in a direction, the derivation of the next one starts (R34, R144). -/
def deriveNext (s : State) (c : Nat) (tx : Bool) : State :=
  if ctxBit s Ctx.IMPORT c || shadows s then s
  else match nextEpoch s c (curEpoch s c tx) tx with
    | some (r, e) => startEpoch s c r tx e
    | none => s

/-- The derivation of an epoch ends; where it could not start as the epoch before became current, it starts now. -/
def endEpoch (s : State) (c : Nat) (r : Root) (tx : Bool) (e : Nat) : State :=
  let k := s.key c
  if (if tx then k.jobTx else k.jobRx) = some e then
    s.setKey c (if tx then { k with jobTx := none } else { k with jobRx := none })
  else epochJob s c r tx e

/-- Under MACsec Seal an ingress epoch congruent modulo 4 to that of the previous slot waits until it is cleared
(R201). -/
def anBusy (s : State) (c e : Nat) : Bool :=
  let p := inPrev s c
  chFraming s c == frMacsec && bitAt (ctx s Ctx.IN_VALID c) p && ctx s (inEpoch p) c % 4 == e % 4

/-- EPOCH_KEY_INSTALL: the Silo key path completes the install of the epoch that follows the current one into the next
slot, where that slot is free and an epoch can be derived (R144). -/
def installNext (s : State) (c : Nat) (h : Half) : State :=
  if ctxBit s Ctx.IMPORT c || chState s c < stReady then s
  else
    match h with
    | .egress =>
      if bitAt (ctx s Ctx.VALID c) (egNext s c) || (s.chan c).retiring || (s.key c).waitAck then s
      else
        match nextEpoch s c (curEpoch s c true) true with
        | none => s
        | some (r, e) => releaseOld (installEg (endEpoch s c r true e) c (epochKeys s c r true e)) c
    | .ingress =>
      if bitAt (ctx s Ctx.IN_VALID c) (inNext s c) then s
      else
        match nextEpoch s c (curEpoch s c false) false with
        | none => s
        | some (r, e) => if anBusy s c e then s else releaseOld (installIn (endEpoch s c r false e) c (epochKeys s c r false e)) c

def execEpochKeyInstall (c : Fin 16384) (h : Half) (s : State) : Host.Outcome State Fault Refusal := .next (installNext s c h)

/-! ### The end of a channel (R129, R136) -/

/-- Zero context bytes, each word written whole, so that poison goes too (R396); bytes of other fields in the words keep
their values. -/
def zeroCtx (s : State) (c w n : Nat) (keep : Nat → Bool) : State :=
  let base := w / 8 * 8
  let len := ceilDiv (w + n - base) 8 * 8
  let old := ramBytes s ctxCtl (ctxAddr s c base) len
  ctxWriteBytes s c base ((List.range len).map fun i =>
    some (if w ≤ base + i ∧ base + i < w + n ∧ !keep (base + i) then 0 else byteAt old i)) codeSilo

/-- The Silo key path zeroes every K field and clears VALID, ROOT_OK, ROOT_EXP, SUITE, BALE_V1, PEER_CH and ROOT_END; the
data plane sets CUR to 0 in both halves and clears PREV_LIVE (R129). -/
def zeroise (s : State) (c : Nat) : State :=
  let no := fun _ => false
  let s := zeroCtx s c 0x240 128 no
  let s := zeroCtx s c 0x2C8 24 no
  let s := zeroCtx s c 0x440 192 no
  let s := zeroCtx s c 0x50C 16 no
  s

/-- kclk PLL: it stops when every key engine sleeps and every channel is DISABLED (R33). -/
def kclkEval (s : State) : State :=
  if (List.range 4).all (fun k => s.f ENG_STATUS.STATE (64 + k) == 3) && busyChannels s == [] && s.f PWR_CFG.KE_KEEP 0 == 0 then
    { (s.setF CLK_STATUS.K_LOCK 0 0) with pllRun := setAt s.pllRun 1 false }
  else s

/-- Count a handshake message or session rejected with a reason of R197. -/
def countReason (s : State) (r : Nat) : State := s.inc .SILO_HS (r - 1)

/-- An open handshake is abandoned and its result discarded: HS_REASON tells it (R136, R197). -/
def abandon (s : State) (c : Nat) : State :=
  match s.session c with
  | none => s
  | some _ => countReason ((endSession s c).setF CH_STATUS.HS_REASON c 5) 5

/-- The channel is zeroised and enters DISABLED; root and sessions go (R129, R134, R136). -/
def finishChannel (s : State) (c : Nat) : State :=
  let s := zeroise (abandon s c) c
  let s := { s with keys := SMap.erase s.keys c, kept := SMap.erase s.kept c, keyWait := s.keyWait.filter (· != c) }
  let s := (s.setF CH_CTL.EN c 0).setReg .CH_STATUS c (s.reg .CH_STATUS c &&& 0x00FF0000)
  let s := ctxSet s Ctx.RES_END c 0 codeQueue
  let s := s.setChan c { s.chan c with importDue := false, sakStart := none }
  let s := { s with twin := { s.twin with resDue := SMap.erase s.twin.resDue c, forced := s.twin.forced.filter (· != c) } }
  kclkEval (takeoverTime (chEnter s c stDisabled))

/-- Client frames that a channel still holds in its queues. -/
def queuedFrames (s : State) (c : Nat) : Nat :=
  let ch := s.chan c
  ch.eq.length + (match ch.openBale with | some b => b.frames.length | none => 0) + ch.ready.foldl (fun n b => n + b.frames) 0

/-- The end of a drain: queued units are discarded and counted, the channel is zeroised, DRAINED is raised; frames in the
ingress delivery queue stay (R136). -/
def endDrain (s : State) (c : Nat) : State :=
  let n := queuedFrames s c
  let p := chClient s c
  let s := if n = 0 then s else chCount s c cOutDropDrain n
  let s := s.setChan c { Chan.reset with iq := (s.chan c).iq, inDeficit := (s.chan c).inDeficit }
  let s := flowEval s p
  (finishChannel s c).raise CH_EVT.DRAINED c

end Sys2Proof.Machine
end

