-- ==== Sys2Proof/Machine/UnitGive.lean ====
section
/-! DEFINITION. Which data engine of a line port gets the next unit (R30, R31, R286). -/

namespace Sys2Proof.Machine

/-- Slice at the place of a rotation, or the first behind its end. -/
def nextSlice (sls : List Nat) (n : Nat) : Option Nat := (sls.find? fun sl => sl ≥ n).or sls.head?

/-- Next egress engine of a line port, in rotation over the slices that take units. -/
def takeEngine (s : State) (lp : Nat) : Option (Nat × State) :=
  (nextSlice (egressSlices s lp) (s.port lp).engNext).map fun sl =>
    (2 * sl, s.setPort lp { s.port lp with engNext := sl + 1 })

/-- Units go to the next ingress engine of a line port. -/
def giveIngress (s : State) (lp : Nat) (us : List (BusVal × List Byte)) : State :=
  match nextSlice (ingressSlices s lp) (s.port lp).inNext with
  | none => s
  | some sl => (s.setPort lp { s.port lp with inNext := sl + 1 }).updEng (2 * sl + 1) fun x => x.nextUnits us

/-- Units of a constant-rate signal go to the next egress engine of a line port. -/
def giveEgress (s : State) (lp : Nat) (us : List (BusVal × List Byte)) : State :=
  match takeEngine s lp with
  | none => s
  | some (e, s) => s.updEng e fun x => x.nextUnits us

/-- A group on its way through an engine: LENGTH holds 16 bits, so each of its eight frames is a unit, all with the group's
counter (DESIGN CHOICE, log 99). -/
def groupUnits (counter slot c : Nat) (payload : List Byte) : List (BusVal × List Byte) :=
  (List.range 8).map fun i => (inDescOf counter otnFrameBytes 0 slot c, sliceAt payload (otnFrameBytes * i) otnFrameBytes)

end Sys2Proof.Machine
end

