-- ==== Sys2Proof/Machine/Ingress.lean ====
section
/-! DEFINITION. The ingress path: receive checks of MACsec Seal and Bale Seal, replay windows, rotation and delivery
(R31, R82–R84, R88–R94, R104–R106, R142, R143, R152, R153, R157, R161). -/

namespace Sys2Proof.Machine

/-! ### Slots by epoch (R84, R142) -/

/-- Ingress slots that accept, current first, then next, then previous. -/
def inOrder (s : State) (c : Nat) : List Nat := [inCur s c, inNext s c, inPrev s c]

/-- Valid ingress slot whose epoch agrees with the low `n` bits that a unit carries. -/
def inSlotFor (s : State) (c n e : Nat) : Option Nat :=
  (inOrder s c).find? fun k => inValid s c k && ctx s (inEpoch k) c % 2 ^ n == e % 2 ^ n

/-- Highest verified number of the channel over its slots. -/
def inHighest (s : State) (c : Nat) : Nat := [0, 1, 2].foldl (fun h k => max h (ctx s (inHigh k) c)) 0

/-! ### Replay (R151–R153) -/

/-- A poisoned SLOTk_HIGH makes units of the slot replays until the next rotation (R151). -/
def replayBad (s : State) (c k : Nat) : Bool := ctxPoisoned s (inHigh k) c

/-- MACsec Seal: `p` ≥ SLOTk_HIGH − REPLAY_WIN, with a floor of 1. -/
def macsecReplayOk (s : State) (c k pn : Nat) : Bool :=
  !replayBad s c k && pn ≥ max 1 (ctx s (inHigh k) c - ctx s Ctx.REPLAY_WIN c)

/-- A bale's sequence was seen in the current slot. -/
def baleSeen (s : State) (c seq : Nat) : Bool := bitAt (ctx s Ctx.REPLAY_MAP c) (seq % 1024)

/-- Bale Seal: above the highest; or, in the current slot, less than the window below it and not seen. -/
def baleReplayOk (s : State) (c k seq : Nat) : Bool :=
  let h := ctx s (inHigh k) c
  !replayBad s c k && !(k == inCur s c && ctxPoisoned s Ctx.REPLAY_MAP c) &&
    (seq > h || (k == inCur s c && h - seq < ctx s Ctx.REPLAY_WIN c && !baleSeen s c seq))

/-- Map after `seq` has verified in the current slot whose highest was `h`. -/
def mapAfter (map h seq : Nat) : Nat :=
  let cleared :=
    if seq > h + 1024 then 0
    else (List.range (seq - h)).foldl (fun m i => putBits m ((h + 1 + i) % 1024) 1 0) map
  putBits cleared (seq % 1024) 1 1

/-- Rotation: the next slot becomes current, the old current previous, and the slot that becomes next loses its VALID
bit and its high mark. The Silo key path then zeroes it (R142). -/
def rotate (s : State) (c : Nat) : State :=
  let s := ctxD s Ctx.IN_CUR c (inNext s c)
  let s := ctxD s Ctx.PREV_LIVE c 1
  let s := ctxD s Ctx.ROT_TIME c (s.rtc.toNat / 1000 % 2 ^ 32)
  let n := inNext s c
  let s := setInValid s c n false codeData
  let s := ctxD s (inHigh n) c 0
  let s := ctxD s Ctx.REPLAY_MAP c 0
  deriveNext (mirrorChan (zeroInSlot s c n) c) c false

/-- Final replay decision: rotation when the unit is the next slot's, and the slot's high mark. -/
def inUpdate (s : State) (c k seq : Nat) (bale : Bool) : State :=
  let s := if k = inNext s c then rotate s c else s
  let h := ctx s (inHigh k) c
  let s := if bale && k == inCur s c then ctxD s Ctx.REPLAY_MAP c (mapAfter (ctx s Ctx.REPLAY_MAP c) h seq) else s
  if seq > h then ctxD s (inHigh k) c seq else s

/-! ### Delivery queue (R157) -/

def isVlanTag (t : Nat) : Bool := t == 0x8100 || t == 0x88A8

/-- VLAN ID and priority of a frame's outer tag; an untagged frame has both zero (R130). -/
def vlanOf (f : List Byte) : Nat × Nat :=
  if isVlanTag (beAt f 12 2) then (beAt f 14 2 % 4096, beAt f 14 2 / 8192) else (0, 0)

def iqBytes (s : State) (c : Nat) : Nat := (s.chan c).iq.foldl (fun n f => n + f.len) 0

/-- Write a plaintext frame to the buffer half of its client port and append it, or tail-drop it. `count` is false under
ciphertext loopback, which leaves the ingress context alone (R63). -/
def deliver (s : State) (c : Nat) (fr : List Byte) (count : Bool) : State :=
  let p := chClient s c
  let room := decide (iqBytes s c + fr.length ≤ 1024 * ctx s Ctx.IQ_LIMIT c)
  match room, bufStore s (s.chan c).iq (halfOf (anchor p)) p (vlanOf fr).2 fr with
  | true, some (f, s) =>
    let s := s.setChan c { s.chan c with iq := (s.chan c).iq ++ [f] }
    if count then chCount s c cInOk 1 else s
  | _, _ => if count then chCount s c cInDropDeliv 1 else s

def noMatch (s : State) (lp : Nat) : State := s.inc .CH_PORTCNT lp

/-! ### MACsec Seal (R94) -/

/-- Packet number with its upper half recovered from the lowest acceptable one (R89; IEEE 802.1AE-2018, 10.6.2:
PRESUMED, log 14). -/
def recoverPn (low lowest : Nat) : Nat :=
  let hi := lowest / 2 ^ 32
  2 ^ 32 * (if bitAt lowest 31 && !bitAt low 31 then hi + 1 else hi) + low

/-- Running channels of the port that a frame's SecTAG names (R88, check 4). -/
def sciChannels (s : State) (lp : Nat) (sci : Option (List Byte)) : List Nat :=
  (portChans s lp).filter fun c =>
    match sci with
    | some x => ctxBit s Ctx.SCI_EXPL c && ctxBytes s Ctx.RX_SCI c == x
    | none => !ctxBit s Ctx.SCI_EXPL c

/-- Channel that the classifier gives for a SecTAG; an entry whose parity is wrong is a miss (R408). -/
def macsecChannel (s : State) (lp : Nat) (sci : Option (List Byte)) : Option Nat :=
  (sciChannels s lp sci).find? (entryGood s ingressEnt)

/-- The parts of a MACsec line frame: TCI, packet number, SCI when explicit, offset of the secure data, its length. -/
structure SecTag where
  tci : Nat
  pn : Nat
  sci : Option (List Byte)
  off : Nat
  len : Nat

def secTag (f : List Byte) : SecTag :=
  let tci := (byteAt f 14).toNat
  let expl := bitAt tci 5
  let off := if expl then 28 else 20
  ⟨tci, beAt f 16 4, if expl then some (sliceAt f 20 8) else none, off, f.length - 20 - off⟩

/-- Check 3: version, encryption bits, end-station forms and short length. -/
def secTagOk (f : List Byte) (t : SecTag) : Bool :=
  let sl := (byteAt f 15).toNat
  !bitAt t.tci 7 && bitAt t.tci 3 && bitAt t.tci 2 && (!bitAt t.tci 6 || bitAt t.tci 5) && !bitAt t.tci 4 &&
    (sl == 0 || sl == t.len)

/-- Open a frame under key material: the client frame without FCS. -/
def macsecOpen (s : State) (c : Nat) (m : KeyMat) (sci : List Byte) (pn : Nat) (f : List Byte) (t : SecTag) :
    Option (List Byte) :=
  let clear := min (confOffset s c) t.len
  let aad := f.take (t.off + clear)
  let ct := sliceAt f (t.off + clear) (t.len - clear)
  let tag := sliceAt f (t.off + t.len) 16
  (aeadOpen s c m (macsecIv s c m sci pn) aad ct tag).map fun pt => f.take 12 ++ sliceAt f t.off clear ++ pt

/-- Checks 5 to 9 for a frame of channel `c`; past the replay pre-check an ingress engine gets the frame without its FCS (R31,
R334). -/
def macsecChecks (s : State) (c : Nat) (f : List Byte) (t : SecTag) : State :=
  let s := inLook s c
  match inSlotFor s c 2 (t.tci % 4) with
  | none => chCount s c cInDropNokey 1
  | some k =>
    let lowest := max 1 (ctx s (inHigh k) c - ctx s Ctx.REPLAY_WIN c)
    let pn := if isXpn s c then recoverPn t.pn lowest else t.pn
    if pn = 0 ∨ !macsecReplayOk s c k pn then chCount s c cInDropReplay 1
    else
      let unit := f.take (f.length - 4)
      let s := giveIngress s (chLine s c) [(inDescOf pn unit.length 0 k c, unit)]
      match macsecOpen s c (inMat s c k) (ctxBytes s Ctx.RX_SCI c) pn f t with
      | none => (chCount s c cInDropAuth 1).raise CH_EVT.AUTH_FAIL c
      | some fr => deliver (inUpdate s c k pn false) c fr true

/-- The ordered checks on a MACsec Seal line frame. -/
def macsecRx (s : State) (lp : Nat) (f : List Byte) (n : Staged) : State :=
  if !fcsGood f || f.length < 64 || f.length > 9632 then s.inc .PORT_FCS_ERR lp
  else
    let s := s.inc .PORT_RX_FRAMES lp
    let t := secTag f
    if beAt f 12 2 ≠ 0x88E5 ∨ !secTagOk f t then noMatch s lp
    else
      let u := meetEntries s ((sciChannels s lp t.sci).filterMap ingressEnt) codeQueue
      match macsecChannel s lp t.sci with
      | none => noMatch u lp
      | some c => throughSlice u lp true f n fun s f => macsecChecks s c f t

/-! ### Bale Seal (R104–R106) -/

/-- The fields of a bale header. -/
structure BaleHdr where
  v1 : Bool
  tfc : Bool
  chan : Nat
  epoch : Nat
  seq : Nat
  len : Nat
  hlen : Nat

def baleHdr (f : List Byte) : BaleHdr :=
  if byteAt f 14 = 1 then ⟨true, false, beAt f 16 2, beAt f 18 2, beAt f 20 6, beAt f 26 2, 24⟩
  else ⟨false, bitAt (byteAt f 15).toNat 1, beAt f 16 2, beAt f 18 4, beAt f 22 8, beAt f 30 4, 32⟩

/-- Check 3: VERSION, reserved bits and bytes, LENGTH against the frame and in the version's range. -/
def baleHdrOk (f : List Byte) (h : BaleHdr) : Bool :=
  let ver := (byteAt f 14).toNat
  let flags := (byteAt f 15).toNat
  (ver == 1 || ver == 2) && (if h.v1 then flags == 0 else flags % 2 == 0 && flags / 4 == 0) && h.chan < 16384 &&
    (if h.v1 then sliceAt f 28 10 == zeros 10 else sliceAt f 34 12 == zeros 12) &&
    h.len + 14 + h.hlen + 20 == f.length && h.len ≥ 16 && h.len ≤ (if h.v1 then 9216 else 16384)

/-- Client frames of a payload, and whether a record fault ended it (check 10). -/
def baleRecords : Nat → List Byte → List (List Byte) × Bool
  | 0, _ => ([], false)
  | fuel + 1, l =>
    if l.length < 2 then ([], false)
    else
      let w := beAt l 0 2
      let n := w % 16384
      if w = 0xC000 then ([], false)
      else if w / 16384 = 0 ∧ 60 ≤ n ∧ n ≤ 9596 ∧ n + 2 ≤ l.length then
        let r := baleRecords fuel (l.drop (n + 2))
        ((l.drop 2).take n :: r.1, r.2)
      else ([], true)

/-- Deliver the records of a verified payload. -/
def baleDeliver (s : State) (c : Nat) (payload : List Byte) (count : Bool) : State :=
  if beAt payload 0 2 = 0xC000 then (if count then chCount s c cInPad 1 else s)
  else
    let r := baleRecords payload.length payload
    let s := r.1.foldl (fun s fr => deliver s c fr count) s
    if r.2 && count then (chCount s c cInDropPack 1).raise CH_EVT.PACK_FAULT c else s

/-- Open a bale under key material. -/
def baleOpen (s : State) (c : Nat) (m : KeyMat) (f : List Byte) (h : BaleHdr) : Option (List Byte) :=
  aeadOpen s c m (baleIv h.v1 m h.seq) (sliceAt f 14 h.hlen) (sliceAt f (14 + h.hlen) h.len) (sliceAt f (14 + h.hlen + h.len) 16)

/-- Checks 5 to 11 for a bale of channel `c`; past the replay pre-check an ingress engine gets the bale from its header to its
tag (R31, R334). -/
def baleChecks (s : State) (c : Nat) (f : List Byte) (h : BaleHdr) : State :=
  let s := inLook s c
  match inSlotFor s c (if h.v1 then 16 else 32) h.epoch with
  | none => chCount s c cInDropNokey 1
  | some k =>
    let s := if k = inCur s c then mapLook s c else s
    if h.seq = 0 ∨ !baleReplayOk s c k h.seq then chCount s c cInDropReplay 1
    else
      let unit := sliceAt f 14 (f.length - 18)
      let s := giveIngress s (chLine s c) [(inDescOf h.seq unit.length 0 k c, unit)]
      match baleOpen s c (inMat s c k) f h with
      | none => (chCount s c cInDropAuth 1).raise CH_EVT.AUTH_FAIL c
      | some payload =>
        let s := inUpdate s c k h.seq true
        if h.tfc != ctxBit s Ctx.TFC_EN c then chCount s c cInDropFmt 1 else baleDeliver s c payload true

/-- The ordered checks on a Bale Seal line frame. -/
def baleRx (s : State) (lp : Nat) (f : List Byte) (n : Staged) : State :=
  if !fcsGood f || f.length < 74 || f.length > 16450 then s.inc .PORT_FCS_ERR lp
  else
    let s := s.inc .PORT_RX_FRAMES lp
    let h := baleHdr f
    if beAt f 12 2 ≠ pmBaleEtype s ∨ !baleHdrOk f h then noMatch s lp
    else if chRuns s h.chan && chLine s h.chan == lp && baleV1 s h.chan == h.v1 then
      let u := meetEntries s (ingressEnt h.chan).toList codeQueue
      if entryGood s ingressEnt h.chan then throughSlice u lp true f n fun s f => baleChecks s h.chan f h else noMatch u lp
    else noMatch s lp

/-! ### Line frames (R26, R31) -/

/-- A frame past the tithe split, by the port's framing. With no ingress engine left the port's ingress traffic stops
(R286). -/
def dataRx (s : State) (lp : Nat) (f : List Byte) (n : Staged) : State :=
  if ingressSlices s lp = [] then s
  else if framing s lp = frMacsec then macsecRx s lp f n
  else if framing s lp = frBale then baleRx s lp f n
  else s

/-- A whole line frame with its FCS: MAC control frames are dropped (R69), tithe frames leave (R26), the others go to
channel lookup, and those of a channel through the ingress half of the slice buffer (R15). -/
def lineRx (s : State) (lp : Nat) (f : List Byte) (n : Staged) : State :=
  if framing s lp = frOtn then s
  else if fcsGood f && f.length ≥ 18 && beAt f 12 2 == 0x8808 then macControl (s.inc .PORT_RX_FRAMES lp) lp f
  else if fcsGood f && f.length ≥ 18 && beAt f 12 2 == pmTitheEtype s then
    titheRx (s.inc .PORT_RX_FRAMES lp) (lp - 32) ((f.drop 14).take (f.length - 18))
  else dataRx s lp f n

/-- LINE_FRAME_RX. -/
def execLineFrameRx (p : Fin 64) (f : List Byte) (note : RxNote) (s : State) : Host.Outcome State Fault Refusal :=
  .next (let s := countFec s p note.fec
    if !isLine p then s
    else if hears s p then lineRx s p f note.staged
    else farEnd s p (.line p f))

/-- MACSEC_FRAME_RX: a frame on a MACsec Seal port after tithe frames have left (R94). -/
def execMacsecFrameRx (p : Fin 64) (f : List Byte) (s : State) : Host.Outcome State Fault Refusal :=
  .next (if isLine p && hears s p && framing s p == frMacsec && ingressSlices s p != [] then macsecRx s p f .clean
    else if isLine p then farEnd s p (.line p f) else s)

/-- BALE_RX: a frame on a Bale Seal port after tithe frames have left (R106). -/
def execBaleRx (p : Fin 64) (f : List Byte) (s : State) : Host.Outcome State Fault Refusal :=
  .next (if isLine p && hears s p && framing s p == frBale && ingressSlices s p != [] then baleRx s p f .clean
    else if isLine p then farEnd s p (.line p f) else s)

/-- PREV_HOLD_EXPIRY: the previous slot stops accepting (R143). -/
def execPrevHoldExpiry (c : Fin 16384) (s : State) : Host.Outcome State Fault Refusal :=
  .next (if ctxBit s Ctx.PREV_LIVE c then
    releaseOld (ctxD (setInValid s c (inPrev s c) false codeData) Ctx.PREV_LIVE c 0) c else s)

/-- CONTEXT_COUNTER_FLUSH (R24). -/
def execContextCounterFlush (c : Fin 16384) (s : State) : Host.Outcome State Fault Refusal := .next (flushCounters s c)

end Sys2Proof.Machine
end

