-- ==== Sys2Proof/Machine/Egress.lean ====
section
/-! DEFINITION. The egress path: classification, admission, epoch switches, sequencing, scheduling, bales and emission
(R29, R30, R65, R99–R103, R130, R131, R139–R149, R155–R161). -/

namespace Sys2Proof.Machine

/-! ### Classification (R130, R131) -/

/-- The classifier holds the match of a channel that is ACTIVE on this module and carries frames. -/
def hasMatch (s : State) (c p : Nat) : Bool :=
  chState s c == stActive && !shadows s && chFraming s c != frOtn && ctx s Ctx.CLIENT_PORT c == p

/-- Channels whose egress match names a port and a priority. -/
def matching (s : State) (p q : Nat) : List Nat :=
  (busyChannels s).filter fun c => hasMatch s c p && bitAt (ctx s Ctx.PCP_MASK c) q

/-- Channel of a frame: the one that names its VLAN ID, else one that matches any. -/
def classify (s : State) (p v q : Nat) : Option Nat :=
  let on := (matching s p q).filter (entryGood s egressEnt)
  match on.find? fun c => ctx s Ctx.VID c == v with
  | some c => some c
  | none => on.find? fun c => ctx s Ctx.VID c == 0xFFF

/-! ### ECN (R156) -/

/-- Offset of the network header after at most two VLAN tags, and its EtherType. -/
def netHeader (f : List Byte) : Nat × Nat :=
  if !isVlanTag (beAt f 12 2) then (14, beAt f 12 2)
  else if !isVlanTag (beAt f 16 2) then (18, beAt f 16 2)
  else (22, beAt f 20 2)

/-- One's complement sum of 16-bit words. -/
def onesSum (l : List Byte) : Nat :=
  let t := (chunks 2 (l.length / 2 + 1) l).foldl (fun n w => n + beAt w 0 2) 0
  let t := t % 65536 + t / 65536
  t % 65536 + t / 65536

/-- The frame with CE, where it is IPv4 or IPv6 with ECT(0) or ECT(1). -/
def markCe (f : List Byte) : Option (List Byte) :=
  let (o, et) := netHeader f
  let b0 := (byteAt f o).toNat
  let b1 := (byteAt f (o + 1)).toNat
  if et = 0x0800 ∧ b0 / 16 = 4 then
    if b1 % 4 = 1 ∨ b1 % 4 = 2 then
      let n := 4 * (b0 % 16)
      let g := setAt (setAt (setAt f (o + 1) (BitVec.ofNat 8 (b1 / 4 * 4 + 3))) (o + 10) 0) (o + 11) 0
      let ck := 65535 - onesSum (sliceAt g o n)
      some (setAt (setAt g (o + 10) (BitVec.ofNat 8 (ck / 256))) (o + 11) (BitVec.ofNat 8 ck))
    else none
  else if et = 0x86DD ∧ b0 / 16 = 6 then
    let ecn := b1 / 16 % 4
    if ecn = 1 ∨ ecn = 2 then some (setAt f (o + 1) (BitVec.ofNat 8 (b1 / 64 * 64 + 48 + b1 % 16))) else none
  else none

/-! ### Switches and sequence numbers (R139–R149, R241) -/

/-- Sequence limit of a channel's framing and cipher (R147). -/
def seqLimit (s : State) (c : Nat) : Nat :=
  if chFraming s c = frMacsec then (if isXpn s c then 2 ^ 62 else 2 ^ 31)
  else if chFraming s c = frOtn then 2 ^ 63
  else if baleV1 s c then 2 ^ 47 else 2 ^ 62

/-- Sequence number `n` of epoch `e` lies inside the mirrored reservation; a group counter lies below it. -/
def reserved (s : State) (c e n : Nat) : Bool :=
  let r := ctx s Ctx.RES_END c
  if s.f TWN_STATUS.ROLE 0 ≠ 1 then true
  else if chFraming s c = frOtn then n < r
  else (e == r / 2 ^ 32 && n ≤ r % 2 ^ 32 * 2 ^ 24) || (e == r / 2 ^ 32 + 1 && n ≤ 2 ^ 24)

/-- Number that the next unit would get without a switch. -/
def nextNumber (s : State) (c : Nat) : Nat :=
  if chFraming s c = frOtn then ctx s Ctx.OTN_GROUP c else ctx s Ctx.NEXT_SEQ c

/-- A word of the egress sequence line is poisoned (R151). -/
def seqLineBad (s : State) (c : Nat) : Bool :=
  (wordsOf (ctxAddr s c 0x300) 64).any fun w => poisoned s ctxCtl w

def atLimit (s : State) (c : Nat) : Bool := nextNumber s c ≥ seqLimit s c

/-- A switch is due before a unit of `blocks` AES blocks (R140, R146, R151). One that a starved channel waits for stays due, so
that no smaller unit is sealed under the epoch that has ended (R148, R149). -/
def switchDue (s : State) (c blocks : Nat) : Bool :=
  let ch := s.chan c
  let own := !ctxBit s Ctx.IMPORT c
  s.fb CH_STATUS.STARVED c || !egValid s c (egCur s c) || ch.forced || ch.importDue || seqLineBad s c || atLimit s c ||
    (own && ctx s Ctx.EPOCH_BLOCKS c + blocks > 2 ^ ch.epochBlk) ||
    (own && s.rtc.toNat ≥ ctx s Ctx.EPOCH_START c + 1000 * ch.epochTime)

/-- What the sequencer decides for a unit. -/
inductive SeqDecision where
  /-- Under the current slot. -/
  | stay
  /-- After a switch to the next slot. -/
  | switch
  /-- A switch is due and no next key is valid. -/
  | starve
  /-- The number is outside the reservation: the channel is ineligible. -/
  | wait
  deriving DecidableEq, Repr

/-- The next egress slot holds a key to switch to: one that the switch before left is not offered again (R141, R150). -/
def egNextReady (s : State) (c : Nat) : Bool := egValid s c (egNext s c) && !(s.chan c).retiring

/-- A group counter goes on across epochs, so at its limit no switch helps and the channel starves for good (R109,
R147). -/
def seqDecide (s : State) (c blocks : Nat) : SeqDecision :=
  let cur := egCur s c
  if (s.key c).waitReroot then .wait
  else if switchDue s c blocks then
    let k := egNext s c
    if !egNextReady s c || (chFraming s c == frOtn && atLimit s c) then .starve
    else
      let n := if chFraming s c = frOtn then ctx s Ctx.OTN_GROUP c else 1
      if reserved s c (ctx s (egEpoch k) c) n then .switch else .wait
  else if reserved s c (ctx s (egEpoch cur) c) (nextNumber s c) then .stay
  else .wait

/-- The last epoch of a channel must end (R149). -/
def epochExhausted (s : State) (c : Nat) : Bool :=
  !ctxBit s Ctx.IMPORT c && ctx s (egEpoch (egCur s c)) c == 2 ^ 32 - 1 && bitAt (ctx s Ctx.VALID c) (egCur s c)

/-- The switch (R141); its limits are those that the context holds now (R127). -/
def epochSwitch (s : State) (c : Nat) : State :=
  let old := egCur s c
  let bad := seqLineBad s c
  let s := if atLimit s c && !bad then s.raise CH_EVT.SEQ_LIMIT c else s
  let s := if bad then s.raise CH_EVT.CTX_POISON c else s
  let s := s.setChan c { s.chan c with
    forced := false, importDue := false, sakStart := none, retiring := bitAt (ctx s Ctx.VALID c) old,
    epochBlk := ctx s Ctx.EPOCH_BLK c, epochTime := ctx s Ctx.EPOCH_TIME c }
  let s := ctxD s Ctx.CUR c (1 - old)
  let s := ctxD s Ctx.NEXT_SEQ c 1
  let s := ctxD s Ctx.EPOCH_BLOCKS c 0
  let s := ctxD s Ctx.EPOCH_START c s.rtc.toNat
  let s := chCount s c cEpochCount 1
  deriveNext (mirrorChan (s.setF CH_STATUS.STARVED c 0) c) c true

/-- The channel starves: event on entry, and R149's event when its last epoch ended. -/
def starve (s : State) (c : Nat) : State :=
  let s := if s.fb CH_STATUS.STARVED c then s else (s.setF CH_STATUS.STARVED c 1).raise CH_EVT.KEY_STARVED c
  let s := if seqLineBad s c then s.raise CH_EVT.CTX_POISON c else s
  if epochExhausted s c then s.raise CH_EVT.EPOCH_EXHAUSTED c else s

/-- A number for the next unit: slot and number, none while starved or ineligible. -/
def sequence (s : State) (c blocks : Nat) : Option (Nat × Nat) × State :=
  let s := egLook s c
  match seqDecide s c blocks with
  | .wait => (none, s)
  | .starve => (none, starve s c)
  | d =>
    let s := if d = .switch then epochSwitch s c else s
    let n := nextNumber s c
    let s := ctxD s Ctx.EPOCH_BLOCKS c (ctx s Ctx.EPOCH_BLOCKS c + blocks)
    let s := if chFraming s c = frOtn then ctxD s Ctx.OTN_GROUP c (n + 1) else ctxD s Ctx.NEXT_SEQ c (n + 1)
    (some (egCur s c, n), reserveEval s c)

/-! ### Bales (R99, R102) -/

/-- Payload bytes that the records of frames take. -/
def recordBytes (fs : List QFrame) : Nat := fs.foldl (fun n f => n + f.len + 2) 0

def clientBytes (fs : List QFrame) : Nat := fs.foldl (fun n f => n + f.len) 0

/-- Seal a bale of the frames `fs` under slot `k` and number `n`: it waits for a transmit opportunity. A poisoned word of a
frame discards the unit, whose number is used up (R395). -/
def sealBale (s : State) (c k n : Nat) (fs : List QFrame) (len : Option Nat) : State :=
  let t := bufFetchAll s fs
  let s := t.2.2
  let b : Bale :=
    if t.2.1 then ⟨[], fs.length, true, n, k, []⟩
    else
      let pl := balePayload t.1 len
      ⟨baleFrame s c (egMat s c k) n pl, fs.length, false, n, k, pl⟩
  let s := s.setChan c { s.chan c with openBale := none, ready := (s.chan c).ready ++ [b] }
  if t.2.1 then dpDiscard s (halfOf (anchor (chClient s c))) else chCount s c cOutOctets (clientBytes fs)

/-- A bale that is to be sealed while the channel is starved is discarded; with no reservation it stays open. -/
def unsealedBale (s : State) (c n : Nat) : State :=
  if s.fb CH_STATUS.STARVED c then chCount (s.setChan c { s.chan c with openBale := none }) c cOutDropNokey n else s

/-- Close the open bale of a channel: the unit is sequenced and sealed. -/
def closeBale (s : State) (c : Nat) : State :=
  match (s.chan c).openBale with
  | none => s
  | some b =>
    match sequence s c (baleBlocks (recordBytes b.frames)) with
    | (some (k, n), s) => sealBale s c k n b.frames none
    | (none, s) => unsealedBale s c b.frames.length

/-- Move frames from the queue into the open bale while no closed bale waits (DESIGN CHOICE, log 15). A frame that no bale of
its channel's version can hold stays at the head of the queue (DESIGN CHOICE, log 106); another that does not fit and a due
switch close it, but for traffic-flow confidentiality. `fuel` bounds the frames moved. -/
def packBale (s : State) (c : Nat) : Nat → State
  | 0 => s
  | fuel + 1 =>
    let ch := s.chan c
    match ch.eq with
    | [] => s
    | f :: rest =>
      if ch.ready ≠ [] then s
      else
        let held := match ch.openBale with | some b => b.frames | none => []
        if recordBytes held + f.len + 2 > baleMax s c then
          if ctxBit s Ctx.TFC_EN c || held == [] then s else packBale (closeBale s c) c fuel
        else
          let b : OpenBale := match ch.openBale with
            | some b => { b with frames := b.frames ++ [f] }
            | none => ⟨[f], s.rtc⟩
          let s := s.setChan c { ch with eq := rest, openBale := some b }
          let s := if !ctxBit s Ctx.TFC_EN c && switchDue s c (baleBlocks (recordBytes b.frames)) then closeBale s c else s
          packBale s c fuel

/-- Fill and close bales of a channel, then look at the flow control of its client port. -/
def packChannel (s : State) (c : Nat) : State :=
  if chFraming s c = frBale && chRuns s c then
    let s := packBale s c (2 * (s.chan c).eq.length + 2)
    let s := if chState s c = stDraining && !ctxBit s Ctx.TFC_EN c && (s.chan c).eq = [] then closeBale s c else s
    flowEval s (chClient s c)
  else s

/-! ### Client frames (R29, R65, R155) -/

/-- The channel's occupancy that MARK_KIB meets counts the frame itself (DESIGN CHOICE, log 106). A classified frame is written
to buffer memory and enters its channel's queue, or is tail-dropped. -/
def enqueueFrame (s : State) (c p pri : Nat) (fr : List Byte) : State :=
  let len := lineLen s c ⟨fr.length, p, pri, 0, []⟩
  let full := decide (occupancyAll s p + len > 1024 * s.f PORT_EXP_LIMIT.KIB p)
  let deep := decide (chanOccupancy s c + len > 1024 * ctx s Ctx.EQ_LIMIT c)
  let wide := ctxBit s Ctx.TFC_EN c && fr.length + 2 > baleMax s c
  let mark := ctx s Ctx.MARK_KIB c
  let marked := if mark ≠ 0 ∧ chanOccupancy s c + len ≥ 1024 * mark then markCe fr else none
  match full || deep || wide, bufStore s (s.chan c).eq (halfOf (anchor p)) p pri (marked.getD fr) with
  | false, some (f, s) =>
    let s := if marked.isSome then chCount s c cOutMark 1 else s
    let s := s.setChan c { s.chan c with eq := (s.chan c).eq ++ [f] }
    packChannel (flowEval s p) c
  | _, _ =>
    let s := chCount s c cOutDropQ 1
    if full then (s.inc .PORT_EXP_DROP p).raise PORT_EVT.EXP_DROP p else s

/-- What a unit's descriptor and data tell its engine: sequence, key slot and bytes (R334). -/
structure UnitIn where
  seq : Nat
  slot : Nat
  data : List Byte
  deriving DecidableEq, Repr

/-- Put a unit into the next transmit slot of the port, discarded or not, and give it to its engine where it tells the
engine something. -/
def pushSlot (s : State) (lp c e : Nat) (bytes : List Byte) (discarded : Bool) (u : Option UnitIn) : State :=
  let t := (s.port lp).slotNext
  let s := s.setPort lp { s.port lp with slots := (s.port lp).slots ++ [⟨c, e, bytes, discarded, t⟩],
                                         slotNext := (t + 1) % 2 ^ 16 }
  match u with
  | some u => s.updEng e fun x => x.giveUnit (inDescOf u.seq u.data.length t u.slot c) u.data
  | none => s

/-- A frame that no channel matches: counted, and on a bypass port sent on the paired line port unsealed (R131). -/
def noClass (s : State) (p : Nat) (fr : List Byte) (n : Staged) : State :=
  let s := s.inc .CH_PORTCNT p
  let lp := s.f PORT_CFG.PAIR p
  if polBypass s p && lp ≥ 32 && provisioned s lp && !shadows s then
    throughSlice s p false fr n fun s fr =>
      match takeEngine s lp with
      | some (e, s) => pushSlot s lp 16384 e fr false none
      | none => s
  else s

/-- A frame with its FCS on a client port: FCS and size, classification, then the egress half of the slice buffer (R29). A frame
dropped for its FCS or its size counts in FCS_ERR alone (DESIGN CHOICE, log 105). -/
def clientRx (s : State) (p : Nat) (f : List Byte) (n : Staged) : State :=
  if framing s p = frOtn then s
  else if !fcsGood f || f.length < 64 || f.length > 9600 then s.inc .PORT_FCS_ERR p
  else
    let s := s.inc .PORT_RX_FRAMES p
    if beAt f 12 2 = 0x8808 then macControl s p f
    else
      let fr := f.take (f.length - 4)
      let (v, q) := vlanOf fr
      let t := meetEntries s ((matching s p q).filterMap egressEnt) codeQueue
      match classify s p v q with
      | some c => throughSlice t p false fr n fun s fr => enqueueFrame s c p q fr
      | none => noClass t p fr n

/-- CLIENT_FRAME_RX. -/
def execClientFrameRx (p : Fin 64) (f : List Byte) (note : RxNote) (s : State) : Host.Outcome State Fault Refusal :=
  .next (let s := countFec s p note.fec
    if isLine p then s
    else if hears s p then clientRx s p f note.staged
    else farEnd s p (.client p f))

/-- BALE_TIMEOUT: the open bale closes with what it holds; under traffic-flow confidentiality it has no effect (R99). -/
def execBaleTimeout (c : Fin 16384) (s : State) : Host.Outcome State Fault Refusal :=
  .next (if chFraming s c == frBale && chRuns s c && !ctxBit s Ctx.TFC_EN c then packChannel (closeBale s c) c else s)

/-- TFC_SEND_INSTANT: a data bale or a padding bale, completed to TFC_LEN (R102). -/
def execTfcSendInstant (c : Fin 16384) (s : State) : Host.Outcome State Fault Refusal :=
  .next (if chFraming s c == frBale && chRuns s c && ctxBit s Ctx.TFC_EN c then
    let fs := match (s.chan c).openBale with | some b => b.frames | none => []
    match sequence s c (baleBlocks (max (recordBytes fs) (baleMax s c))) with
    | (some (k, n), s) => packChannel (sealBale s c k n fs (some (baleMax s c))) c
    | (none, s) => if s.fb CH_STATUS.STARVED c then packChannel (unsealedBale s c fs.length) c else s
  else s)

/-! ### The port scheduler (R159, R160) -/

/-- The transmitter of a line port carries data now: READY, not looped far-end, no SHADOW, no fault propagation in place
of data, and an egress engine left (R61, R63, R286). -/
def lineSends (s : State) (lp : Nat) : Bool :=
  isLine lp && provisioned s lp && s.fb PORT_STATUS.READY lp && s.f PORT_CTL.LPBK lp != 2 && !shadows s &&
    portSignal s lp != .remoteFault && framing s lp != frOtn && egressSlices s lp != []

/-- Line length of the next ready unit of a DWRR channel, none where it has none (R159); that of a bale is from DA to the end of
the tag, as R160 counts it (16,446 bytes at most). -/
def readyLen (s : State) (c : Nat) : Option Nat :=
  let ch := s.chan c
  if chFraming s c = frBale then ch.ready.head?.map fun b => b.bytes.length
  else
    match ch.eq with
    | [] => none
    | f :: _ => if seqDecide s c (macsecBlocks s c f.len) = .wait then none else some (lineLen s c f)

/-- DWRR over channels in rising order from a pointer (R160). The pointer comes to the first candidate from `ptr` on, round
the end; a channel gets WEIGHT × 64 bytes as the pointer comes to it, and keeps the pointer while its deficit covers its
next unit. `here` says that the pointer stands on `ptr` already. Answers the channel and the deficits; the pointer then
stands on the channel. -/
def dwrr (cands : List Nat) (len weight : Nat → Nat) : Nat → (Nat → Nat) → Nat → Bool → Option (Nat × (Nat → Nat))
  | 0, _, _, _ => none
  | fuel + 1, d, ptr, here =>
    match cands.find? (fun c => c ≥ ptr), cands with
    | none, [] => none
    | some c, _ =>
      if here && c == ptr then
        if len c ≤ d c then some (c, fun x => if x = c then d c - len c else d x) else dwrr cands len weight fuel d (c + 1) false
      else dwrr cands len weight fuel (fun x => if x = c then d c + 64 * weight c else d x) c true
    | none, c :: _ => dwrr cands len weight fuel d c false

/-- Moves of the pointer that reach any unit: ⌈16,446 / 64⌉ rounds at WEIGHT 1, each with two moves for a candidate and
one round the end. -/
def dwrrFuel (n : Nat) : Nat := 260 * (2 * n + 1) + 4

/-- Take the ready unit of channel `c`: sequenced, sealed and given a transmit slot; a starved MACsec channel discards
it, and a poisoned word of its frame discards the unit in its slot (R395). -/
def sendUnit (s : State) (lp c : Nat) : State :=
  match takeEngine s lp with
  | none => s
  | some (e, s) =>
    if chFraming s c = frBale then
      match (s.chan c).ready with
      | [] => s
      | b :: rest =>
        let s := s.setChan c { s.chan c with ready := rest }
        let s := if b.discarded then s else chCount s c (if b.frames = 0 then cOutPad else cOutOk) 1
        packChannel (pushSlot s lp c e b.bytes b.discarded (if b.discarded then none else some ⟨b.seq, b.slot, b.payload⟩)) c
    else
      match (s.chan c).eq with
      | [] => s
      | f :: rest =>
        let p := f.port
        match sequence s c (macsecBlocks s c f.len) with
        | (some (k, n), s) =>
          let t := bufFetch s f
          let s := t.2.2.setChan c { t.2.2.chan c with eq := rest }
          if t.2.1 then flowEval (dpDiscard (pushSlot s lp c e [] true none) f.half) p
          else
            let s := chCount (chCount s c cOutOk 1) c cOutOctets f.len
            flowEval (pushSlot s lp c e (macsecFrame s c (egMat s c k) n t.1) false (some ⟨n, k, t.1⟩)) p
        | (none, s) =>
          if s.fb CH_STATUS.STARVED c then
            flowEval (chCount (s.setChan c { s.chan c with eq := rest }) c cOutDropNokey 1) p
          else s

/-- A deficit returns to zero when its queue empties (R160), and the pointer goes on. -/
def settleDeficit (s : State) (lp c : Nat) : State :=
  let ch := s.chan c
  if ch.eq = [] ∧ ch.ready = [] then
    (s.setChan c { ch with deficit := 0 }).setPort lp { s.port lp with rrNext := c + 1, rrHere := false }
  else s

/-- Data part of a transmit opportunity: due traffic-flow channels first, then DWRR. -/
def serveData (s : State) (lp : Nat) : State :=
  let chs := portChans s lp
  match chs.find? fun c => ctxBit s Ctx.TFC_EN c && (s.chan c).ready != [] with
  | some c => sendUnit s lp c
  | none =>
    let cands := chs.filter fun c => !ctxBit s Ctx.TFC_EN c && (readyLen s c).isSome
    match dwrr cands (fun c => (readyLen s c).getD 0) (fun c => ctx s Ctx.WEIGHT c) (dwrrFuel cands.length)
        (fun c => (s.chan c).deficit) (s.port lp).rrNext (s.port lp).rrHere with
    | none => s
    | some (c, d) =>
      let s := cands.foldl (fun s x => s.setChan x { s.chan x with deficit := d x }) s
      let s := s.setPort lp { s.port lp with rrNext := c, rrHere := true }
      settleDeficit (sendUnit s lp c) lp c

/-- TRANSMIT_OPPORTUNITY: the tithe, then due traffic-flow channels, then DWRR (R159). -/
def execTransmitOpportunity (p : Fin 64) (s : State) : Host.Outcome State Fault Refusal :=
  .next (if !lineSends s p then s
    else
      -- a switch that fell due closes open bales (R99)
      let s := (portChans s p).foldl (fun s c =>
        match (s.chan c).openBale with
        | some b =>
          if chFraming s c == frBale && !ctxBit s Ctx.TFC_EN c && switchDue s c (baleBlocks (recordBytes b.frames))
          then packChannel (closeBale s c) c else packChannel s c
        | none => packChannel s c) s
      match titheServe s (p.val - 32) with
      | some s => s
      | none => serveData s p)

/-- The slot that a switch left loses its key once no unit needs it (R141). -/
def retireSlot (s : State) (c : Nat) : State :=
  if (s.chan c).retiring then
    let k := egNext s c
    let s := setEgValid s c k false codeData
    let s := s.setChan c { s.chan c with retiring := false }
    releaseOld (zeroEgSlot s c k) c
  else s

/-- EGRESS_SLOT_RETIRE. -/
def execEgressSlotRetire (c : Fin 16384) (s : State) : Host.Outcome State Fault Refusal := .next (retireSlot s c)

/-! ### Emission (R30, R63) -/

/-- Egress slot of a looped unit's epoch. -/
def egSlotFor (s : State) (c n e : Nat) : Option Nat :=
  [egCur s c, egNext s c].find? fun k => egValid s c k && ctx s (egEpoch k) c % 2 ^ n == e % 2 ^ n

/-- Ciphertext loopback: the ingress engines open a unit with the egress slots of its channel; the ingress context is not
touched (R63). -/
def loopOpen (s : State) (c : Nat) (f : List Byte) : State :=
  if chFraming s c = frMacsec then
    let t := secTag (f ++ zeros 4)
    match egSlotFor s c 2 (t.tci % 4) with
    | none => s
    | some k =>
      let pn := if isXpn s c then recoverPn t.pn (ctx s Ctx.NEXT_SEQ c - 1) else t.pn
      match macsecOpen s c (egMat s c k) (ctxBytes s Ctx.TX_SCI c) pn (f ++ zeros 4) t with
      | none => s.raise CH_EVT.AUTH_FAIL c
      | some fr => deliver s c fr false
  else
    let h := baleHdr f
    match egSlotFor s c (if h.v1 then 16 else 32) h.epoch with
    | none => s
    | some k =>
      match baleOpen s c (egMat s c k) f h with
      | none => s.raise CH_EVT.AUTH_FAIL c
      | some payload => baleDeliver s c payload false

/-- One line frame leaves its transmit slot. A near-end loopback feeds it to the receiver, which discards it inside a down-hold
(R60, R63). -/
def emitUnit (s : State) (lp : Nat) (u : TxUnit) : State :=
  let f := u.bytes ++ Crypto.fcs u.bytes
  match s.f PORT_CTL.LPBK lp with
  | 1 =>
    let s := s.inc .PORT_TX_FRAMES lp
    if receiving s lp then lineRx s lp f .clean else s
  | 3 => if u.chan < 16384 then loopOpen s u.chan u.bytes else s
  | _ => (s.emit (.line lp f)).inc .PORT_TX_FRAMES lp

/-- REORDER_EMIT: the oldest slot that holds a unit; discarded slots ahead of it are skipped. -/
def execReorderEmit (p : Fin 64) (s : State) : Host.Outcome State Fault Refusal :=
  .next (if !lineSends s p then s
    else
      let skipped := (s.port p).slots.takeWhile (·.discarded)
      match (s.port p).slots.dropWhile (·.discarded) with
      | [] => leaveSlots (s.setPort p { s.port p with slots := [] }) skipped
      | u :: rest => emitUnit (leaveSlots (s.setPort p { s.port p with slots := rest }) (skipped ++ [u])) p u)

/-! ### Delivery to the client (R69, R161) -/

/-- The client transmitter carries frames now. -/
def clientSends (s : State) (p : Nat) : Bool :=
  !isLine p && provisioned s p && s.fb PORT_STATUS.READY p && s.f PORT_CTL.LPBK p != 2 && framing s p != frOtn &&
    portSignal s p != .localFault

/-- Received PAUSE or PFC halts a frame. -/
def halted (s : State) (p : Nat) (fr : QFrame) : Bool := (s.port p).paused.any fun e => e.1 == 8 || e.1 == fr.pri

/-- Weight of a channel in the delivery to its client port. A traffic-flow channel may hold WEIGHT 0, which R163 does not
test there; it then counts as 1 (DESIGN CHOICE, log 80). -/
def deliveryWeight (s : State) (c : Nat) : Nat := max 1 (ctx s Ctx.WEIGHT c)

/-- A frame with a new FCS leaves on a client port; near-end loopback feeds it back. -/
def clientOut (s : State) (p : Nat) (fr : List Byte) : State :=
  let f := fr ++ Crypto.fcs fr
  let s := s.inc .PORT_TX_FRAMES p
  if s.f PORT_CTL.LPBK p = 1 then (if receiving s p then clientRx s p f .clean else s) else s.emit (.client p f)

/-- Channels, running or not, whose delivery queue feeds a client port: frames in a queue are delivered after a disable
(R136). -/
def deliveryChans (s : State) (p : Nat) : List Nat :=
  (s.chans.map (·.1)).filter fun c => (s.chan c).iq != [] && chClient s c == p

/-- The frame at the head of a channel's delivery queue leaves; one with a poisoned word is discarded (R395). -/
def deliverHead (s : State) (p c : Nat) : State :=
  match (s.chan c).iq with
  | [] => s
  | fr :: rest =>
    let t := bufFetch s fr
    let s := t.2.2
    let s := s.setChan c { s.chan c with iq := rest, inDeficit := if rest = [] then 0 else (s.chan c).inDeficit }
    let s := if rest = [] then s.setPort p { s.port p with rrNext := c + 1, rrHere := false } else s
    if t.2.1 then dpDiscard s fr.half else clientOut s p t.1

/-- CLIENT_DELIVERY: DWRR over the delivery queues, which counts a frame without its FCS (DESIGN CHOICE, log 106). -/
def execClientDelivery (p : Fin 64) (s : State) : Host.Outcome State Fault Refusal :=
  .next (if !clientSends s p then s
    else
      let cands := (deliveryChans s p).filter fun c => !((s.chan c).iq.head?.any fun fr => halted s p fr)
      match dwrr cands (fun c => ((s.chan c).iq.head?.map (·.len)).getD 0) (deliveryWeight s) (dwrrFuel cands.length)
          (fun c => (s.chan c).inDeficit) (s.port p).rrNext (s.port p).rrHere with
      | none => s
      | some (c, d) =>
        let s := cands.foldl (fun s x => s.setChan x { s.chan x with inDeficit := d x }) s
        deliverHead (s.setPort p { s.port p with rrNext := c, rrHere := true }) p c)

end Sys2Proof.Machine
end

