-- ==== Sys2Proof/Machine/Handshake.lean ====
section
/-! DEFINITION. The handshake that gives a channel its root: messages, checks, retransmission, commit and failure
(R174–R202, R209–R213, R217). -/

namespace Sys2Proof.Machine

/-! ### Reasons (R197) -/

def hsNoOffer : Nat := 0x01
def hsNoConfirm : Nat := 0x02
def hsNoAccept : Nat := 0x03
def hsLineDown : Nat := 0x04
def hsEntropy : Nat := 0x06
def hsFlowLabel : Nat := 0x07
def hsFormat : Nat := 0x08
def hsVersion : Nat := 0x09
def hsNoSuite : Nat := 0x0A
def hsFlowMismatch : Nat := 0x0B
def hsNotEnrolled : Nat := 0x0C
def hsIdentityChanged : Nat := 0x0D
def hsWrongPeer : Nat := 0x0E
def hsSigMldsa : Nat := 0x0F
def hsSigEcdsa : Nat := 0x10
def hsMac : Nat := 0x11
def hsAttest : Nat := 0x12
def hsPeerRestart : Nat := 0x13
def hsRemoved : Nat := 0x14

/-! ### Suites and versions (R174–R178) -/

def suiteRank (x : Nat) : Nat := if x = 0x0101 then 3 else if x = 0x0102 then 2 else if x = 0x0031 then 1 else 0

def suiteUsable (s : State) (x : Nat) : Bool :=
  (polSuites s).contains x && suiteRank x ≥ max 1 (polSuiteFloor s)

def versionUsable (s : State) (v : Nat) : Bool := v == 2 || (v == 1 && (polSuites s).contains 0x0031)

/-- Suites that this module lists, in its order of preference. -/
def ownSuites (s : State) : List Nat := [0x0101, 0x0102, 0x0031].filter (suiteUsable s)

/-- Suites that a handshake version may choose. -/
def suiteFits (ver x : Nat) : Bool := if ver = 1 then x == 0x0031 else x == 0x0101 || x == 0x0102

def usesEcdh (suite : Nat) : Bool := suite != 0x0102
def usesKem (suite : Nat) : Bool := suite != 0x0031

/-! ### Layout (R182–R187) -/

def hsType (m : List Byte) : Nat := (byteAt m 0).toNat
def hsVer (m : List Byte) : Nat := (byteAt m 1).toNat
def hsSession (m : List Byte) : Word := BitVec.ofNat 32 (beAt m 4 4)
def hsSender (m : List Byte) : W64 := nodeOf (sliceAt m 8 8)
def hsReceiver (m : List Byte) : W64 := nodeOf (sliceAt m 16 8)
def hsSenderCh (m : List Byte) : Nat := beAt m 24 2 % 16384

/-- Length that TYPE and version require: version 1 omits EK_I, CT_R and SIG_M. -/
def hsLength (type ver : Nat) : Nat :=
  match type with
  | 1 => if ver = 1 then 224 else 1792
  | 2 => if ver = 1 then 352 else 6547
  | 3 => if ver = 1 then 240 else 4867
  | _ => 80

/-- Offsets in OFFER that move up under version 1. -/
def offAttest (ver : Nat) : Nat := if ver = 1 then 192 else 1760
def offSigE (ver : Nat) : Nat := if ver = 1 then 256 else 6451
/-- Offsets in ACCEPT. -/
def accSigE (ver : Nat) : Nat := if ver = 1 then 96 else 4723
def accMac (ver : Nat) : Nat := accSigE ver + 96

def hsHeader (type ver len : Nat) (sess : Word) (sender receiver : W64) (ch : Nat) (reroot : Bool) : List Byte :=
  [BitVec.ofNat 8 type, BitVec.ofNat 8 ver] ++ beBytes 2 len ++ beBytes 4 sess.toNat ++ nodeBytes sender ++
    nodeBytes receiver ++ beBytes 2 ch ++ [BitVec.ofNat 8 (b2n reroot)] ++ zeros 5

/-- SUITE_COUNT of a HELLO (R183). -/
def helloCount (m : List Byte) : Nat := (byteAt m 32).toNat

/-- Well-formed but for SESSION and public values (R187). -/
def hsFormed (m : List Byte) (type : Nat) : Bool :=
  m.length ≥ 32 && hsType m == type && (hsVer m == 1 || hsVer m == 2 || type == 1) &&
    m.length == hsLength type (min 2 (hsVer m)) && beAt m 2 2 == m.length && beAt m 24 2 < 16384 &&
    (byteAt m 26).toNat ≤ 1 && sliceAt m 27 5 == zeros 5 && !reservedNode (hsSender m) && !reservedNode (hsReceiver m) &&
    (match type with
      | 1 => hsSession m != 0 && 1 ≤ helloCount m && helloCount m ≤ 4 && byteAt m 33 == 0 &&
          sliceAt m (34 + 2 * helloCount m) (8 - 2 * helloCount m) == zeros (8 - 2 * helloCount m) &&
          sliceAt m 42 6 == zeros 6 && byteAt m 55 == 0 && sliceAt m 82 14 == zeros 14 && (byteAt m 51).toNat / 4 == 0
      | 2 => byteAt m 35 == 0 && sliceAt m 46 18 == zeros 18 && sliceAt m (offAttest (hsVer m) + 55) 9 == zeros 9
      | 3 => sliceAt m 87 9 == zeros 9
      | _ => true)

/-! ### ATTEST (R190) -/

/-- `GLB_PARTID`[7:0] and its ordering code. -/
def partLow : Nat := 0xB0

def ownAttest (s : State) : List Byte :=
  s.sheaf.digest ++ beBytes 4 (s.reg .SHF_SVN 0).toNat ++
    [BitVec.ofNat 8 s.mode, BitVec.ofNat 8 partLow, BitVec.ofNat 8 s.variant] ++ zeros 9

/-- The security version that an ATTEST states is not below the floor. -/
def attestSvnOk (s : State) (a : List Byte) : Bool := decide (beAt a 48 4 ≥ polPeerSvn s)

/-- The peer is OPERATIONAL and its security version is not below the floor. -/
def attestOk (s : State) (a : List Byte) : Bool := (byteAt a 52).toNat == modeOperational && attestSvnOk s a

/-- Keep the digest in the peer's pin. -/
def keepDigest (s : State) (n : W64) (a : List Byte) : State :=
  { s with silo := { s.silo with pins := s.silo.pins.map fun q => if q.node = n then { q with digest := a.take 48 } else q } }

/-! ### Signatures, hashes and keys (R188, R189, R191) -/

def th1 (hello offer : List Byte) (ver : Nat) : List Byte := Crypto.sha384 (hello ++ offer.take (offAttest ver + 64))
def th2 (hello offer accept : List Byte) : List Byte := Crypto.sha384 (hello ++ offer ++ accept.take 96)
def th3 (hello offer accept : List Byte) (ver : Nat) : List Byte := Crypto.sha384 (hello ++ offer ++ accept.take (accMac ver))
def th4 (hello offer accept confirm : List Byte) : List Byte := Crypto.sha384 (hello ++ offer ++ accept ++ confirm.take 32)

def ctxR : List Byte := ascii "QVR-HS-R"
def ctxI : List Byte := ascii "QVR-HS-I"

/-- SIG_M and SIG_E of a transcript hash; under version 1 SIG_M is omitted, under 0x0102 SIG_E is zero. -/
def signHash (s : State) (ver suite : Nat) (context th : List Byte) : List Byte × State :=
  let (r1, s) := siloRandom s 32
  let (r2, s) := siloRandom s 48
  let m := if ver = 1 then [] else sliceAt (Crypto.mldsaSign context th r1) 0 4627
  let e := if usesEcdh suite then sliceAt (Crypto.ecdsaSign (context ++ th) r2) 0 96 else zeros 96
  (m ++ e, s)

/-- First signature that fails: its reason, none where those that the suite asks for verify. Keys that do not agree with the
Granary's digest of them verify nothing (R501). -/
def verifyHash (p : Pin) (suite : Nat) (context th sigM sigE : List Byte) : Option Nat :=
  if usesKem suite && !(pinKeysOk p && Crypto.mldsaVerify p.mlPub context th sigM) then some hsSigMldsa
  else if usesEcdh suite && !(pinKeysOk p && Crypto.ecdsaVerify p.ecPub (context ++ th) sigE) then some hsSigEcdsa
  else none

/-- k_conf_i, k_conf_r and root. -/
def combine (ver : Nat) (nonceI nonceR z th : List Byte) : List Byte × List Byte × List Byte :=
  let prk := Crypto.hmac384 (nonceI ++ nonceR) z
  let okm := kdfCtr prk (ascii (if ver = 1 then "QVR-HS1-KEYS" else "QVR-HS2-KEYS")) th 1024
  (sliceAt okm 0 48, sliceAt okm 48 48, sliceAt okm 96 32)

/-- Keys of a session from its messages and shared secret. -/
def sessionKeys (x : Session) (z : List Byte) : List Byte × List Byte × List Byte :=
  combine x.ver (sliceAt x.hello 96 32) (sliceAt x.offer 64 32) z (th3 x.hello x.offer x.accept x.ver)

/-! ### Rejection and failure (R196–R198) -/

/-- A message of an open session is rejected: dropped, counted, remembered. -/
def rejectMsg (s : State) (c r : Nat) : State :=
  match s.session c with
  | some x => (countReason s r).setSession c { x with reason := r }
  | none => countReason s r

/-- A handshake of channel `c` ends in failure: a KEY handshake returns the channel to DISABLED; a re-root leaves it, with
REKEYING set, and is retried until ROOT_END passes (R134, R198). -/
def hsFail (s : State) (c r : Nat) (reroot : Bool) : State :=
  let s := countReason (endSession s c) r
  let s := if reroot then
      let k := s.key c
      if ctxBit s Ctx.ROOT_EXP c then s.setF CH_STATUS.REKEYING c 0
      else (s.setKey c { k with due := true, retry := if k.retry = 0 then 1 else min 32 (2 * k.retry) }).setF
        CH_STATUS.REKEYING c 1
    else finishChannel s c
  (s.setF CH_STATUS.HS_REASON c r).raise CH_EVT.HS_FAIL c

/-- A session's timers end it: the reason of the last rejected message, else the timer's. -/
def hsExpire (s : State) (c : Nat) (x : Session) (timer : Nat) : State :=
  hsFail s c (if x.reason ≠ 0 then x.reason else timer) x.reroot

/-! ### Starting a handshake (R179, R180, R183, R193, R199, R200) -/

/-- First epoch that the sender of the egress direction proposes: current + 2; before epoch 0 is current, 1. After a takeover by
re-root no egress slot is valid, and the epoch that was current then counts (R247). -/
def proposeTx (s : State) (c : Nat) : Nat :=
  if bitAt (ctx s Ctx.VALID c) (egCur s c) || ((s.key c).waitReroot && chState s c == stActive) then ctx s (egEpoch (egCur s c)) c + 2
  else ctx s (egEpoch (egNext s c)) c + 1

/-- Floor for the ingress direction: highest installed ingress epoch + 1. -/
def floorRx (s : State) (c : Nat) : Nat :=
  [0, 1, 2].foldl (fun h k => if bitAt (ctx s Ctx.IN_VALID c) k then max h (ctx s (inEpoch k) c + 1) else h) 0

def minOpt (a : Option Nat) (b : Nat) : Option Nat := match a with | some x => some (min x b) | none => some b

/-- From the exchange of first epochs on, the root held derives none at or above them (R200). -/
def capEpochs (s : State) (c tx rx : Nat) : State :=
  let k := s.key c
  s.setKey c { k with capTx := minOpt k.capTx tx, capRx := minOpt k.capRx rx }

/-- PARAMS of R183. -/
def hsParams (s : State) (c : Nat) : List Byte :=
  [BitVec.ofNat 8 (chFraming s c), BitVec.ofNat 8 (ctx s Ctx.CIPHER c), BitVec.ofNat 8 (ctx s Ctx.COMPL c),
    BitVec.ofNat 8 (2 * ctx s Ctx.TFC_EN c + ctx s Ctx.SCI_EXPL c), BitVec.ofNat 8 (ctx s Ctx.CONF_OFF c),
    BitVec.ofNat 8 (ctx s Ctx.OPUC c), BitVec.ofNat 8 (ctx s Ctx.SEAL_POS c), 0]

/-- Send a handshake message on the tithe of the channel's line port, as a key-class message to the neighbour. A LINE_PORT that
names no line port has no tithe: nothing leaves (R180; DEDUCED, log 107). -/
def hsSend (s : State) (c : Nat) (m : List Byte) : State :=
  if isLine (chLine s c) then (titheSend s (chLine s c - 32) 2 true 0xFFF m).2 else s

/-! ### Jobs of the key engines (R202, R511) -/

/-- Priority of a handshake's jobs: re-roots by ROOT_END, after them roots requested by KEY in order of request (R202). -/
def hsRank (s : State) (c : Nat) (reroot : Bool) : Nat := if reroot then 1 + ctx s Ctx.ROOT_END c else 2 ^ 65 + (s.key c).request

/-- The Silo queues the steps of a handshake of channel `c`, or of the association of the twin agents, for which R202 gives no
place: they stand before the roots requested by KEY (DESIGN CHOICE, log 98). -/
def hsJobs (s : State) (own : JobOwner) (c : Nat) (reroot : Bool) (l : List (Nat × List (List Byte))) : State :=
  queueJobs s (if own = .twin then 2 ^ 65 else hsRank s c reroot) own c 0 l

/-- Whose jobs a session's steps are: the association's, or channel `c`'s. -/
def hsOwner (twin : Bool) (c : Nat) (id : Word) : JobOwner := if twin then .twin else .session c id

/-- Verification of the signatures that a suite asks for. -/
def verifyJobs (p : Pin) (suite : Nat) (context th sigM sigE : List Byte) : List (Nat × List (List Byte)) :=
  (if usesKem suite then [(jobVerifyMldsa, [p.mlPub, context, th, sigM])] else []) ++
  (if usesEcdh suite then [(jobVerifyEcdsa, [p.ecPub, context ++ th, sigE])] else [])

/-- The check of a message with signatures came to them: it found no reason, or one that stands behind them. -/
def signaturesRead (r : Option Nat) : Bool :=
  r.all fun x => x == hsSigMldsa || x == hsSigEcdsa || x == hsAttest || x == hsMac

/-- What a HELLO says of its flow (R183). -/
structure HelloFlow where
  twin : Bool
  ch : Nat
  reroot : Bool
  suites : List Nat
  params : List Byte
  txLabel : List Byte
  rxLabel : List Byte
  fI2R : Nat
  fR2I : Nat
  life : Nat
  deriving DecidableEq, Repr

/-- Draw the random values of a HELLO, and build it with its session. -/
def helloBuild (s : State) (peer : W64) (w : HelloFlow) : Session × State :=
  let (sid, s) := siloRandom s 4
  let (nonce, s) := siloRandom s 32
  let (ec, s) := siloRandom s 48
  let (kr, s) := siloRandom s 64
  let sess := if beNat sid = 0 then 1 else BitVec.ofNat 32 (beNat sid)
  let (ek, dk) := Crypto.mlkemKeygen kr
  let list := w.suites ++ List.replicate (4 - w.suites.length) 0
  let s := hsJobs s (hsOwner w.twin w.ch sess) w.ch w.reroot [(jobKemKeygen, [kr]), (jobEcdhPair, [ec])]
  let m := hsHeader 1 2 1792 sess s.silo.node peer w.ch w.reroot ++
    [BitVec.ofNat 8 w.suites.length, 0] ++ (list.map (beBytes 2)).flatten ++ zeros 6 ++ w.params ++ w.txLabel ++ w.rxLabel ++
    beBytes 4 w.fI2R ++ beBytes 4 w.fR2I ++ beBytes 2 w.life ++ zeros 14 ++ nonce ++
    sliceAt (Crypto.p384Public ec) 0 96 ++ sliceAt ek 0 1568
  ({ Session.none with
    initiator := true, reroot := w.reroot, id := sess, peer := peer, ver := 2, hello := m, ecPriv := ec, dk := dk,
    fI2R := w.fI2R, fR2I := w.fR2I, life := w.life, sends := 1 }, s)

/-- Reason, known at a request, why a handshake of a channel cannot be (R179, R204, R210). -/
def requestBar (s : State) (c : Nat) : Option Nat :=
  if ctxBytes s Ctx.TX_SCI c = zeros 8 ∨ ctxBytes s Ctx.RX_SCI c = zeros 8 then some hsFlowLabel
  else if reservedNode (peerNode s c) || (s.pin (peerNode s c)).isNone then some hsNotEnrolled
  else none

/-- Random numbers that a HELLO, an OFFER and an ACCEPT take, their signatures' among them. -/
def helloDraws : Nat := 4
def offerDraws : Nat := 5
def acceptDraws : Nat := 2

/-- Start a session as initiator, or fail at once. -/
def hsStart (s : State) (c : Nat) (reroot : Bool) : State :=
  let suites := ownSuites s
  match requestBar s c with
  | some r => hsFail s c r reroot
  | none =>
    if !s.silo.identity || !randomFor s helloDraws then hsFail s c hsEntropy reroot
    else if suites = [] then hsFail s c hsNoSuite reroot
    else
      let (fi, fr) := if reroot then (proposeTx s c, floorRx s c) else (0, 0)
      let b := helloBuild s (peerNode s c) ⟨false, c, reroot, suites, hsParams s c, ctxBytes s Ctx.TX_SCI c,
        ctxBytes s Ctx.RX_SCI c, fi, fr, ctx s Ctx.ROOT_LIFE c⟩
      let s := if reroot then (capEpochs b.2 c fi fr).setF CH_STATUS.REKEYING c 1 else b.2
      hsSend (s.setSession c b.1) c b.1.hello

/-- The Silo holds a further session: fewer than 16,384 are open or kept (R202). -/
def sessionRoom (s : State) : Bool := decide (s.sessions.length + s.kept.length < 16384)

/-- A re-root may start: a root is held and not expired, no session is open, and the egress epoch is below its last two
(R145, R200). -/
def rerootOpen (s : State) (c : Nat) : Bool :=
  !ctxBit s Ctx.IMPORT c && (chState s c == stReady || chState s c == stActive) && ctxBit s Ctx.ROOT_OK c && (s.session c).isNone &&
    !shadows s && ctx s (egEpoch (egCur s c)) c < 0xFFFFFFFD

/-- Place of a channel among those that wait for a session (R202). -/
def waitRank (s : State) (c : Nat) : Nat := hsRank s c (chState s c != stKeying)

/-- A channel waits for a session, behind those that R202 serves before it. -/
def hsWait (s : State) (c : Nat) : State :=
  let before := fun d => decide (waitRank s d ≤ waitRank s c)
  let l := s.keyWait.filter (· != c)
  { s with keyWait := l.takeWhile before ++ c :: l.dropWhile before }

/-- A handshake starts, or waits for a session (R202). A re-root waits as a request by KEY does: R202 says it of KEY alone
(DEDUCED, log 107). -/
def hsBegin (s : State) (c : Nat) (reroot : Bool) : State := if sessionRoom s then hsStart s c reroot else hsWait s c

/-- KEY: the channel enters KEYING and its handshake starts, or waits in the queue (R134, R202); one that cannot be ends at once
(R179, R204). -/
def keyRequest (s : State) (c : Nat) : State :=
  let n := s.silo.keySeq
  let s := { s with silo := { s.silo with keySeq := n + 1 } }
  let s := chEnter (s.setKey c { s.key c with request := n }) c stKeying
  match requestBar s c with
  | some r => hsFail s c r false
  | none => hsBegin s c false

/-- Handshakes that waited start, first those that R202 serves first, while there is room. -/
def serveKeyWait (s : State) : State :=
  s.keyWait.foldl (fun s c =>
    if !sessionRoom s then s
    else
      let t := { s with keyWait := s.keyWait.filter (· != c) }
      if chState s c = stKeying then (if (s.session c).isNone then hsStart t c false else t)
      else if rerootOpen t c && !ctxBit t Ctx.ROOT_EXP c then hsStart t c true
      else t) s

/-! ### Commit (R195) -/

/-- An imported SAK has completed its install in the egress next slot: a DISABLED channel enters READY (R134), and a switch
is due unless the import named a start time that has not come (R92). -/
def importInstalled (s : State) (c : Nat) : State :=
  let s := if (s.chan c).sakStart.isNone then s.setChan c { s.chan c with importDue := true } else s
  if chState s c = stDisabled then chEnter s c stReady else s

/-- The Silo sets the fields of a channel that tell its root (R127). -/
def rootFields (s : State) (c : Nat) (r : Root) : State :=
  let s := ctxC s Ctx.ROOT_OK c 1
  let s := ctxC s Ctx.ROOT_EXP c 0
  let s := ctxC s Ctx.SUITE c r.suite
  let s := ctxC s Ctx.BALE_V1 c (b2n (r.baleV == 1))
  let s := ctxC s Ctx.PEER_CH c r.peerCh
  mirrorChan (ctxC s Ctx.ROOT_END c (r.made.toNat + 60000000 * r.life)) c

/-- The root's fields, READY and HS_DONE, once both installs of a KEY root are complete (R134, R195). -/
def keyReady (s : State) (c : Nat) (r : Root) : State :=
  let s := rootFields (s.setKey c { s.key c with waitReady := false }) c r
  ((chEnter s c stReady).setF CH_STATUS.HS_REASON c 0).raise CH_EVT.HS_DONE c

/-- The Silo stores the root and fixes its lifetime. A re-root sets the fields of the channel at once; a KEY root installs
epoch 0 into both next slots first. -/
def commit (s : State) (c : Nat) (x : Session) (root : List Byte) : State :=
  let k := s.key c
  let tx := if x.initiator then x.fI2R else x.fR2I
  let rx := if x.initiator then x.fR2I else x.fI2R
  let r : Root := ⟨root, x.life, s.rtc, x.initiator, tx, rx, x.suite, x.baleV, x.peer, x.peerCh⟩
  let keys : ChanKey :=
    if x.reroot then
      { k with root := some r, old := k.root, oldTx := k.capTx.getD tx, oldRx := k.capRx.getD rx, capTx := none,
               capRx := none, due := false, retry := 0, waitLink := false, waitReroot := false }
    else { ChanKey.reset with root := some r }
  -- after a takeover by command no epoch of the old root is used for egress (R247)
  let keys := if x.reroot && k.waitReroot then { keys with oldTx := 0 } else keys
  let s := takeoverTime (mirror (s.setKey c keys)
    (.root (chFin c) root x.life s.rtc x.initiator tx rx x.suite x.baleV x.peer x.peerCh))
  if x.reroot then
    let s := rootFields s c r
    releaseOld (((s.setF CH_STATUS.REKEYING c 0).setF CH_STATUS.HS_REASON c 0).raise CH_EVT.HS_DONE c) c
  else
    let s := epochJob (epochJob s c r true 0) c r false 0
    let s := installIn (installEg s c (epochKeys s c r true 0)) c (epochKeys s c r false 0)
    if (s.key c).waitAck then s.setKey c { s.key c with waitReady := true } else keyReady s c r

/-! ### Responder: HELLO (R181, R194, R199) -/

/-- Channels whose context holds something, DISABLED ones too. -/
def ctxChannels (s : State) : List Nat :=
  let slots := ((s.ram ctxCtl).map fun e => e.1 / 1024)
  (slots.filter fun sl => sl < 16384 && slotOf s sl == sl) ++
    ((s.regs.filter fun e => e.1 % Reg.count == Reg.CH_REMAP.ctorIdx).map fun e => e.1 / Reg.count)

/-- Channel on a line port whose flow labels match a HELLO (R179); one that is not DISABLED first. -/
def labelChannel (s : State) (lp : Nat) (m : List Byte) : Option Nat :=
  let tx := sliceAt m 56 8
  let rx := sliceAt m 64 8
  let hit := fun c => chLine s c == lp && ctxBytes s Ctx.TX_SCI c == rx && ctxBytes s Ctx.RX_SCI c == tx && tx != zeros 8 &&
    rx != zeros 8
  match (busyChannels s).find? hit with
  | some c => some c
  | none => (ctxChannels s).find? hit

/-- Check 4 fails: R211 decides. A pin that is CHANGED already raises nothing; the reason is recorded as ever (R197; DEDUCED,
log 107). -/
def strangerHello (s : State) (c : Nat) (sender : W64) : State :=
  if (s.pin sender).isSome then countReason s hsWrongPeer
  else
    match s.pin (peerNode s c) with
    | some p =>
      let s := (countReason (markChanged s (peerNode s c)) hsIdentityChanged).setF CH_STATUS.HS_REASON c hsIdentityChanged
      if p.changed then s else s.raise CH_EVT.HS_FAIL c
    | none => countReason s hsNotEnrolled

/-- Suites that a HELLO lists. -/
def helloSuites (m : List Byte) : List Nat := (List.range (helloCount m)).map fun i => beAt m (34 + 2 * i) 2

/-- Suite that a responder chooses. -/
def chooseSuite (s : State) (m : List Byte) (ver : Nat) : Option Nat :=
  (helloSuites m).find? fun x => suiteUsable s x && suiteFits ver x

/-- Public values of a HELLO that a suite uses are valid. -/
def helloValuesOk (m : List Byte) (suite : Nat) : Bool :=
  (!usesEcdh suite || Crypto.p384KeyOk (sliceAt m 128 96)) && (!usesKem suite || Crypto.mlkemKeyOk (sliceAt m 224 1568))

/-- Check 1 of R181: the message is well-formed, the values that the chosen suite uses are valid, and it is for this
module. -/
def helloFormed (s : State) (m : List Byte) : Bool :=
  hsFormed m 1 && hsReceiver m == s.silo.node && (chooseSuite s m (min 2 (hsVer m))).all (helloValuesOk m)

/-- What an OFFER says beside the HELLO it answers (R184). -/
structure OfferFlow where
  twin : Bool
  ch : Nat
  reroot : Bool
  ver : Nat
  suite : Nat
  baleV : Nat
  fI2R : Nat
  fR2I : Nat
  life : Nat
  deriving DecidableEq, Repr

/-- Draw the random values of an OFFER, and build it with the responder's session. -/
def offerBuild (s : State) (m : List Byte) (w : OfferFlow) : Session × State :=
  let (nonce, s) := siloRandom s 32
  let (ec, s) := siloRandom s 48
  let (kr, s) := siloRandom s 32
  let own := hsOwner w.twin w.ch (hsSession m)
  let (ct, k) := if usesKem w.suite then Crypto.mlkemEncaps (sliceAt m 224 1568) kr else ([], [])
  let ze := if usesEcdh w.suite then Crypto.p384Shared ec (sliceAt m 128 96) else []
  let s := hsJobs s own w.ch w.reroot
    ((if usesKem w.suite then [(jobKemEncaps, [sliceAt m 224 1568, kr])] else []) ++
     (if usesEcdh w.suite then [(jobEcdhPair, [ec]), (jobEcdhShared, [ec, sliceAt m 128 96])] else []))
  let head := hsHeader 2 w.ver (hsLength 2 w.ver) (hsSession m) s.silo.node (hsSender m) w.ch w.reroot ++
    beBytes 2 w.suite ++ [BitVec.ofNat 8 w.baleV, 0] ++ beBytes 4 w.fI2R ++ beBytes 4 w.fR2I ++ beBytes 2 w.life ++
    zeros 18 ++ nonce ++ (if usesEcdh w.suite then sliceAt (Crypto.p384Public ec) 0 96 else zeros 96) ++
    (if w.ver = 1 then [] else sliceAt ct 0 1568) ++ ownAttest s
  let s := hsJobs s own w.ch w.reroot [(jobTranscript, [m ++ head])]
  let (sig, s) := signHash s w.ver w.suite ctxR (th1 m head w.ver)
  ({ Session.none with
    reroot := w.reroot, id := hsSession m, peer := hsSender m, peerCh := hsSenderCh m, ver := w.ver, suite := w.suite,
    baleV := w.baleV, hello := m, offer := head ++ sig, z := ze ++ k, fI2R := w.fI2R, fR2I := w.fR2I,
    life := min (beAt m 80 2) w.life, sends := 1 }, s)

/-- Answer a HELLO with an OFFER, and open the responder's session: the channel waits for no session of its own any more. -/
def hsOffer (s : State) (c : Nat) (m : List Byte) (ver suite : Nat) : State :=
  let reroot := bitAt (byteAt m 26).toNat 0
  let fi := if reroot then max (beAt m 72 4) (floorRx s c) else 0
  let fr := if reroot then max (proposeTx s c) (beAt m 76 4) else 0
  let bv := if chFraming s c = frBale then ver else 0
  let b := offerBuild { s with keyWait := s.keyWait.filter (· != c) } m ⟨false, c, reroot, ver, suite, bv, fi, fr, ctx s Ctx.ROOT_LIFE c⟩
  let s := b.2
  -- the values received bind as well as the final ones, which are not below them
  let s := if reroot then (capEpochs (capEpochs s c (beAt m 76 4) (beAt m 72 4)) c fr fi).setF CH_STATUS.REKEYING c 1 else s
  hsSend (s.setSession c b.1) c b.1.offer

/-- Checks 5 to 8 of R181 and the answer. A HELLO for which the Silo has no session left is dropped: R202 does not say what
becomes of it (DESIGN CHOICE, log 107). An initiator that has sent its ACCEPT already is treated as one with its HELLO
outstanding: the higher node ID gives way (R180 speaks of an outstanding HELLO alone; DESIGN CHOICE, log 107). -/
def helloChecks (s : State) (c : Nat) (m : List Byte) (ver : Nat) : State :=
  let reroot := bitAt (byteAt m 26).toNat 0
  let st := chState s c
  let holds := ctxBit s Ctx.ROOT_OK c
  let stateOk := if reroot then (st == stReady || st == stActive) && holds else st == stKeying
  if !stateOk then
    if !reroot && holds then
      (countReason s hsPeerRestart |>.setF CH_STATUS.HS_REASON c hsPeerRestart).raise CH_EVT.HS_FAIL c
    else s.inc .SILO_HS 21
  else if sliceAt m 48 8 ≠ hsParams s c then countReason s hsFlowMismatch
  else
    match chooseSuite s m ver with
    | none => countReason s hsNoSuite
    | some suite =>
      if !randomFor s offerDraws then countReason s hsEntropy
      else
        match s.session c with
        | some x =>
          -- a HELLO of its own outstanding: the lower node ID stays initiator (R180); a HELLO with the SESSION of the open
          -- session and other bytes is no repeat and starts nothing (R188, R194; DEDUCED, log 88)
          if x.initiator && s.silo.node.toNat < (hsSender m).toNat || !x.initiator && x.id == hsSession m then s
          else hsOffer (endSession s c) c m ver suite
        | none => if sessionRoom s then hsOffer s c m ver suite else s

/-- A received HELLO. A repeated one is answered with the OFFER of its session, while the session is open and while it is
kept after CONFIRM (R194). -/
def helloRx (s : State) (lp : Nat) (m : List Byte) : State :=
  let same := fun (e : Nat × Session) => !e.2.initiator && e.2.id == hsSession m && e.2.hello == m && chLine s e.1 == lp
  match (s.sessions ++ s.kept).find? same with
  | some e => hsSend s e.1 e.2.offer
  | none =>
    let ver := min 2 (hsVer m)
    if !helloFormed s m then countReason s hsFormat
    else if !versionUsable s ver then countReason s hsVersion
    else
      match labelChannel s lp m with
      | none => s.inc .SILO_HS 20
      | some c =>
        if !isPeer s (peerNode s c) (hsSender m) then strangerHello s c (hsSender m)
        else if (s.pin (hsSender m)).isNone then countReason s hsNotEnrolled
        else helloChecks s c m ver

/-! ### Initiator: OFFER, CONFIRM (R187–R195) -/

/-- A message of an open session came from its peer. -/
def senderReason (s : State) (c : Nat) (m : List Byte) : Option Nat :=
  if isPeer s (peerNode s c) (hsSender m) then (if (s.pin (hsSender m)).isSome then none else some hsNotEnrolled)
  else if (s.pin (hsSender m)).isSome then some hsWrongPeer else some hsNotEnrolled

/-- Public values of an OFFER that its suite uses. -/
def offerValuesOk (m : List Byte) (suite : Nat) : Bool :=
  !usesEcdh suite || Crypto.p384KeyOk (sliceAt m 96 96)

/-- First reason against an OFFER with a BALE_V other than `bv`, of a sender whose reason is `who`, and whose ATTEST must
pass `att`. -/
def offerReasonFor (s : State) (bv : Nat) (who : Option Nat) (att : List Byte → Bool) (x : Session) (m : List Byte) : Option Nat :=
  let ver := hsVer m
  let suite := beAt m 32 2
  if !hsFormed m 2 || hsReceiver m != s.silo.node || (byteAt m 34).toNat != bv then some hsFormat
  else if !versionUsable s ver then some hsVersion
  else
    match who, s.pin (hsSender m) with
    | none, some p =>
      if !(suiteFits ver suite && (helloSuites x.hello).contains suite) then some hsNoSuite
      else if !offerValuesOk m suite then some hsFormat
      else
        match verifyHash p suite ctxR (th1 x.hello m ver) (sliceAt m 1824 4627) (sliceAt m (offSigE ver) 96) with
        | some r => some r
        | none => if att (sliceAt m (offAttest ver) 64) then none else some hsAttest
    | some r, _ => some r
    | none, none => some hsNotEnrolled

/-- First reason against an OFFER on a channel. -/
def offerReason (s : State) (c : Nat) (x : Session) (m : List Byte) : Option Nat :=
  offerReasonFor s (if chFraming s c = frBale then hsVer m else 0) (senderReason s c m) (attestOk s) x m

/-- The signatures of an OFFER go to the key engines where the check came to them. -/
def offerWork (s : State) (own : JobOwner) (c : Nat) (x : Session) (m : List Byte) (r : Option Nat) : State :=
  match s.pin (hsSender m) with
  | some p =>
    if signaturesRead r then
      hsJobs s own c x.reroot (verifyJobs p (beAt m 32 2) ctxR (th1 x.hello m (hsVer m)) (sliceAt m 1824 4627)
        (sliceAt m (offSigE (hsVer m)) 96))
    else s
  | none => s

/-- Build the ACCEPT that answers an acceptable OFFER to `dest`, and the session as it goes on. -/
def acceptBuild (s : State) (own : JobOwner) (x : Session) (m : List Byte) (ch : Nat) (dest : W64) : Session × State :=
  let ver := hsVer m
  let suite := beAt m 32 2
  let s := keepDigest s (hsSender m) (sliceAt m (offAttest ver) 64)
  let ze := if usesEcdh suite then Crypto.p384Shared x.ecPriv (sliceAt m 96 96) else []
  let k := if usesKem suite then Crypto.mlkemDecaps x.dk (sliceAt m 192 1568) else []
  let s := hsJobs s own ch x.reroot
    ((if usesEcdh suite then [(jobEcdhShared, [x.ecPriv, sliceAt m 96 96])] else []) ++
     (if usesKem suite then [(jobKemDecaps, [x.dk, sliceAt m 192 1568])] else []))
  let head := hsHeader 3 ver (hsLength 3 ver) x.id s.silo.node dest ch x.reroot ++ ownAttest s
  let s := hsJobs s own ch x.reroot [(jobTranscript, [x.hello ++ m ++ head])]
  let (sig, s) := signHash s ver suite ctxI (th2 x.hello m head)
  let part := head ++ sig
  let s := hsJobs s own ch x.reroot
    [(jobCombine, [sliceAt x.hello 96 32, sliceAt m 64 32, ze ++ k, th3 x.hello m part ver])]
  let keys := combine ver (sliceAt x.hello 96 32) (sliceAt m 64 32) (ze ++ k) (th3 x.hello m part ver)
  ({ x with
    ver := ver, suite := suite, baleV := (byteAt m 34).toNat, peer := hsSender m, peerCh := hsSenderCh m, offer := m,
    accept := part ++ Crypto.hmac384 keys.1 (th3 x.hello m part ver), z := ze ++ k, fI2R := beAt m 36 4, fR2I := beAt m 40 4,
    life := min x.life (beAt m 44 2), sends := 1, ecPriv := [], dk := [] }, s)

/-- Answer an acceptable OFFER with an ACCEPT. -/
def hsAccept (s : State) (c : Nat) (x : Session) (m : List Byte) : State :=
  let b := acceptBuild s (.session c x.id) x m c (peerNode s c)
  let s := if x.reroot then capEpochs b.2 c b.1.fI2R b.1.fR2I else b.2
  hsSend (s.setSession c b.1) c b.1.accept

/-- A received OFFER of an open session that awaits one. ACCEPT needs a random nonce for its signatures; without random
numbers the handshake fails at an acceptable OFFER (R217; DEDUCED, log 89). -/
def offerRx (s : State) (lp : Nat) (m : List Byte) : State :=
  match s.sessions.find? fun e => e.2.initiator && e.2.id == hsSession m && chLine s e.1 == lp with
  | none => countReason s hsFormat
  | some e =>
    if e.2.accept ≠ [] then s
    else
      let why := offerReason s e.1 e.2 m
      let s := offerWork s (.session e.1 e.2.id) e.1 e.2 m why
      match why with
      | some r => rejectMsg s e.1 r
      | none => if randomFor s acceptDraws then hsAccept s e.1 e.2 m else hsFail s e.1 hsEntropy e.2.reroot

/-- MAC_R of a CONFIRM verifies. -/
def macROk (x : Session) (m : List Byte) : Bool :=
  sliceAt m 32 48 == Crypto.hmac384 (sessionKeys x x.z).2.1 (th4 x.hello x.offer x.accept m)

/-- A received CONFIRM: MAC_R is checked, and the initiator commits. A message that would commit a root is dropped while
the channel drains, which abandons the handshake (R137; DEDUCED, log 87). -/
def confirmRx (s : State) (lp : Nat) (m : List Byte) : State :=
  match s.sessions.find? fun e => e.2.initiator && e.2.id == hsSession m && chLine s e.1 == lp && e.2.accept != [] with
  | none => countReason s hsFormat
  | some e =>
    let x := e.2
    if chState s e.1 = stDraining then s
    else if !hsFormed m 4 || hsReceiver m != s.silo.node || hsVer m != x.ver then rejectMsg s e.1 hsFormat
    else
      match senderReason s e.1 m with
      | some r => rejectMsg s e.1 r
      | none =>
        if macROk x m then commit (endSession s e.1) e.1 x (sessionKeys x x.z).2.2 else rejectMsg s e.1 hsMac

/-! ### Responder: ACCEPT (R194, R195) -/

/-- First reason against an ACCEPT of a sender whose reason is `who`, and whose ATTEST must pass `att`. -/
def acceptReasonFor (s : State) (who : Option Nat) (att : List Byte → Bool) (x : Session) (m : List Byte) : Option Nat :=
  if !hsFormed m 3 || hsReceiver m != s.silo.node || hsVer m != x.ver then some hsFormat
  else
    match who, s.pin (hsSender m) with
    | none, some p =>
      match verifyHash p x.suite ctxI (th2 x.hello x.offer m) (sliceAt m 96 4627) (sliceAt m (accSigE x.ver) 96) with
      | some r => some r
      | none =>
        if !att (sliceAt m 32 64) then some hsAttest
        else
          let keys := sessionKeys { x with accept := m } x.z
          if sliceAt m (accMac x.ver) 48 = Crypto.hmac384 keys.1 (th3 x.hello x.offer m x.ver) then none else some hsMac
    | some r, _ => some r
    | none, none => some hsNotEnrolled

/-- First reason against an ACCEPT on a channel. -/
def acceptReason (s : State) (c : Nat) (x : Session) (m : List Byte) : Option Nat :=
  acceptReasonFor s (senderReason s c m) (attestOk s) x m

/-- The signatures of an ACCEPT go to the key engines where the check came to them, and then the combination of its keys. -/
def acceptWork (s : State) (own : JobOwner) (c : Nat) (x : Session) (m : List Byte) (r : Option Nat) : State :=
  match s.pin (hsSender m) with
  | some p =>
    if signaturesRead r then
      hsJobs s own c x.reroot (verifyJobs p x.suite ctxI (th2 x.hello x.offer m) (sliceAt m 96 4627)
          (sliceAt m (accSigE x.ver) 96) ++
        [(jobCombine, [sliceAt x.hello 96 32, sliceAt x.offer 64 32, x.z, th3 x.hello x.offer m x.ver])])
    else s
  | none => s

/-- CONFIRM that answers an ACCEPT, with MAC_R. -/
def confirmBuild (s : State) (x : Session) (m : List Byte) (ch : Nat) : List Byte :=
  let head := hsHeader 4 x.ver 80 x.id s.silo.node (hsSender m) ch x.reroot
  head ++ Crypto.hmac384 (sessionKeys x x.z).2.1 (th4 x.hello x.offer x.accept head)

/-- What stays of a session after CONFIRM, to answer repeated messages (R194). -/
def keptOf (x : Session) (confirm : List Byte) : Session :=
  { Session.none with id := x.id, accept := x.accept, confirm := confirm, hello := x.hello, offer := x.offer }

/-- A received ACCEPT: verified, the responder sends CONFIRM and commits; a repeat is answered with the same CONFIRM. It is
dropped while the channel drains, as CONFIRM is (R137; DEDUCED, log 87). -/
def acceptRx (s : State) (lp : Nat) (m : List Byte) : State :=
  match s.kept.find? fun e => e.2.id == hsSession m && e.2.accept == m && chLine s e.1 == lp with
  | some e => hsSend s e.1 e.2.confirm
  | none =>
    match s.sessions.find? fun e => !e.2.initiator && e.2.id == hsSession m && chLine s e.1 == lp with
    | none => countReason s hsFormat
    | some e =>
      let c := e.1
      if chState s c = stDraining then s
      else
      let why := acceptReason s c e.2 m
      let s := acceptWork s (.session c e.2.id) c e.2 m why
      match why with
      | some r => rejectMsg s c r
      | none =>
        let x := { e.2 with accept := m }
        let s := keepDigest s (hsSender m) (sliceAt m 32 64)
        let confirm := confirmBuild s x m c
        let s := endSession s c
        let s := { s with kept := SMap.set (fun _ => Session.none) s.kept c (keptOf x confirm) }
        commit (hsSend s c confirm) c x (sessionKeys x x.z).2.2

/-! ### Message commands -/

/-- Take a message out of a link's receive queue; none unless it is the one that the queue serves next (R223). -/
def takeMsg (s : State) (l : Nat) (p : TMsg → Bool) : Option (TMsg × State) :=
  let q := s.link l
  match rxHead q with
  | some x => if p x then some (x, s.setLink l { q with msgs := q.msgs.erase x }) else none
  | none => none

/-- A handshake message that a line port's receive queue serves reaches the Silo. With no identity left nothing answers
(R203), and a SHADOW answers none (R239): the message is dropped. -/
def hsMessage (s : State) (p : Nat) (m : List Byte) (rx : State → Nat → List Byte → State) : State :=
  if isLine p && provisioned s p then
    match takeMsg s (p - 32) fun x => x.cls == 2 && x.bytes == m with
    | some (_, t) => if !shadows s && s.silo.identity then serveKeyWait (rx t p m) else t
    | none => s
  else s

def execHello (p : Fin 64) (msg : List Byte) (s : State) : Host.Outcome State Fault Refusal := .next (hsMessage s p msg helloRx)
def execOffer (p : Fin 64) (msg : List Byte) (s : State) : Host.Outcome State Fault Refusal := .next (hsMessage s p msg offerRx)
def execAccept (p : Fin 64) (msg : List Byte) (s : State) : Host.Outcome State Fault Refusal :=
  .next (hsMessage s p msg acceptRx)
def execConfirm (p : Fin 64) (msg : List Byte) (s : State) : Host.Outcome State Fault Refusal :=
  .next (hsMessage s p msg confirmRx)

/-! ### Timers (R193, R194, R198) -/

/-- HELLO_RETRANSMIT: resend, or fail after the eighth transmission. -/
def execHelloRetransmit (c : Fin 16384) (s : State) : Host.Outcome State Fault Refusal :=
  .next (match s.session c with
    | some x =>
      if x.initiator && x.accept == [] then
        if x.sends < 8 then hsSend (s.setSession c { x with sends := x.sends + 1 }) c x.hello
        else serveKeyWait (hsExpire s c x hsNoOffer)
      else s
    | none => s)

/-- ACCEPT_RETRANSMIT. -/
def execAcceptRetransmit (c : Fin 16384) (s : State) : Host.Outcome State Fault Refusal :=
  .next (match s.session c with
    | some x =>
      if x.initiator && x.accept != [] then
        if x.sends < 8 then hsSend (s.setSession c { x with sends := x.sends + 1 }) c x.accept
        else serveKeyWait (hsExpire s c x hsNoConfirm)
      else s
    | none => s)

/-- RESPONDER_SESSION_EXPIRY: 1 s after OFFER without ACCEPT the session fails; 1 s after CONFIRM the kept session ends. Of the
two a kept session is the earlier one. -/
def execResponderSessionExpiry (c : Fin 16384) (s : State) : Host.Outcome State Fault Refusal :=
  .next (serveKeyWait (
    if s.kept.any fun e => e.1 == c.val then { s with kept := SMap.erase s.kept c }
    else match s.session c with
      | some x => if x.initiator then s else hsExpire s c x hsNoAccept
      | none => s))

/-- The control plane starts a re-root that has fallen due (R145). -/
def rerootStart (s : State) (c : Nat) : State :=
  if rerootOpen s c && !ctxBit s Ctx.ROOT_EXP c then
    hsBegin ((s.setKey c { s.key c with due := true, retry := 0 }).setF CH_STATUS.REKEYING c 1) c true else s

/-- REROOT_DUE: 7/8 of the root's lifetime has passed (R145). -/
def execRerootDue (c : Fin 16384) (s : State) : Host.Outcome State Fault Refusal := .next (rerootStart s c)

/-- The instant at which the re-root of a root falls due, ROOT_END minus 1/8 of the lifetime, has passed (R145). -/
def rerootLate (s : State) (r : Root) : Bool := decide (s.rtc.toNat ≥ r.made.toNat + 52500000 * r.life)

/-- REROOT_RETRY: a new re-root handshake; while the line port has no link it waits for link-up (R198). -/
def execRerootRetry (c : Fin 16384) (s : State) : Host.Outcome State Fault Refusal :=
  .next (if (s.key c).due && rerootOpen s c && !ctxBit s Ctx.ROOT_EXP c then
    if linkUp s (chLine s c) then hsBegin s c true else s.setKey c { s.key c with waitLink := true }
  else s)

/-- ROOT_EXPIRY: ROOT_END passes; no further epoch is derived and retries stop, so that REKEYING stays set only while a
handshake still runs (R145, R170, R198). -/
def execRootExpiry (c : Fin 16384) (s : State) : Host.Outcome State Fault Refusal :=
  .next (if ctxBit s Ctx.ROOT_OK c && !ctxBit s Ctx.IMPORT c then
    let t := (ctxC s Ctx.ROOT_EXP c 1).setKey c { s.key c with due := false, retry := 0, waitLink := false }
    let t := if (s.session c).isNone then t.setF CH_STATUS.REKEYING c 0 else t
    t.raise CH_EVT.ROOT_EXPIRED c
  else s)

/-! ### Hooks of other blocks -/

/-- Sessions on a line port fail when its link goes down (R197). -/
def hsLineLost (s : State) (lp : Nat) : State :=
  serveKeyWait ((s.sessions.filter fun e => chLine s e.1 == lp).foldl (fun s e => hsFail s e.1 hsLineDown e.2.reroot) s)

/-- Retries that waited for link-up start (R198). -/
def hsLineUp (s : State) (lp : Nat) : State :=
  (s.keys.filter fun e => e.2.waitLink && chLine s e.1 == lp).foldl (fun s e =>
    if rerootOpen s e.1 then hsBegin (s.setKey e.1 { s.key e.1 with waitLink := false }) e.1 true else s) s

/-! ### The association of the twin agents (R238) -/

def setTwinSess (s : State) (x : Option Session) : State := { s with twin := { s.twin with sess := x } }

/-- A message of the association is turned away, and the association fails here with a reason of R197, or 0x6E of R253. -/
def assocRefuse (s : State) (r : Nat) : State :=
  let s := if r < 0x20 then countReason s r else s
  (s.setF TWN_STATUS.ASSOC_REASON 0 r).raise TWN_EVT.ASSOC_FAIL 0

/-- The open session of the association fails. -/
def assocFail (s : State) (r : Nat) : State := assocRefuse (eraseZ (setTwinSess s none) (· == .twin)) r

/-- A message of the open session is rejected: it is dropped, counted and remembered (R196). -/
def assocReject (s : State) (x : Session) (r : Nat) : State :=
  setTwinSess (countReason s r) (some { x with reason := r })

/-- Sessions with a node fail at once when its pin goes, the association's too (R210, R213). -/
def hsRemovedNode (s : State) (n : W64) : State :=
  let s := (s.sessions.filter fun e => e.2.peer == n).foldl (fun s e => hsFail s e.1 hsRemoved e.2.reroot) s
  serveKeyWait (if s.twin.sess.any fun x => x.peer == n then assocFail s hsRemoved else s)

/-- Reason ABANDONED. -/
def hsAbandoned : Nat := 0x05

/-- A mode change to TWIN-SHADOW ends every open session (R197): a KEY handshake as R134 says, a re-root for good, since a
SHADOW runs none (R239). Requests that waited for a session are dropped alike, and retries that were due. -/
def abandonAll (s : State) : State :=
  let s := s.sessions.foldl (fun s e => hsFail s e.1 hsAbandoned e.2.reroot) s
  let s := (s.keyWait.filter fun c => chState s c == stKeying).foldl (fun s c => hsFail s c hsAbandoned false) s
  let s := (s.keys.filter fun e => e.2.due).foldl (fun s e =>
    (s.setKey e.1 { s.key e.1 with due := false, retry := 0, waitLink := false }).setF CH_STATUS.REKEYING e.1 0) s
  { s with keyWait := [] }

/-! ### Results of the key engines (R217, R358, R511) -/

/-- A job of a session has ended with a STATUS. After an entropy failure the handshake fails with ENTROPY (R217, R358); an invalid
public value is a malformed message, dropped as such (R187, R196). -/
def jobAnswered (s : State) (own : JobOwner) (status : Nat) : State :=
  match own with
  | .session c id =>
    match s.session c with
    | some x =>
      if x.id ≠ id then s
      else if status = 2 then serveKeyWait (hsFail s c hsEntropy x.reroot)
      else if status = 1 then rejectMsg s c hsFormat
      else s
    | none => s
  | .twin =>
    match s.twin.sess with
    | some x => if status = 2 then assocFail s hsEntropy else if status = 1 then assocReject s x hsFormat else s
    | none => s
  | .other => s

end Sys2Proof.Machine
end

