-- ==== Sys2Proof/Machine/Otn.lean ====
section
/-! DEFINITION. OTN Seal: groups sent, descriptors and groups received (R107–R117, R147, R148, R154). -/

namespace Sys2Proof.Machine

/-! ### Overhead (R47, R110) -/

/-- Bytes of the OPUC overhead of one frame, row by row, that carry the two seal bytes; column 15 is the first of a row
(R110). -/
def sealPlace (pos : Nat) : Nat × Nat :=
  match pos with
  | 0 => (0, 2) | 1 => (2, 4) | _ => (0, 4)

/-- Seal bytes that the overhead of frames carries at the channel's place. -/
def takeSeal (s : State) (c : Nat) (opuc : List Byte) : List Byte :=
  let w := sealPlace (ctx s Ctx.SEAL_POS c)
  (List.range (opuc.length / 8)).flatMap fun f => [byteAt opuc (8 * f + w.1), byteAt opuc (8 * f + w.2)]

/-- The overhead with seal bytes written at the channel's place, two a frame. -/
def putSeal (s : State) (c : Nat) (opuc sb : List Byte) : List Byte :=
  let w := sealPlace (ctx s Ctx.SEAL_POS c)
  (List.range (opuc.length / 8)).foldl (fun o f =>
    setAt (setAt o (8 * f + w.1) (byteAt sb (2 * f))) (8 * f + w.2) (byteAt sb (2 * f + 1))) opuc

/-- BIP-8 of each of `n` frames over its OPUC: overhead and payload (ITU-T G.709; PRESUMED, log 81). -/
def frameBips (opuc payload : List Byte) (n : Nat) : List Byte :=
  (List.range n).map fun f =>
    (sliceAt opuc (8 * f) 8 ++ sliceAt payload (otnFrameBytes * f) otnFrameBytes).foldl (· ^^^ ·) 0

/-- Byte of the 42 of a frame's ODUC overhead that holds the path-monitoring BIP-8: row 3, column 11. -/
def pmBipAt : Nat := 24

/-- Overhead as a transmitter sends it: path and section monitoring carry the BIP-8 of two frames before (R47). `held` is
that of the last two frames sent; answers the overhead and what is held then. -/
def regenerate (p i : Nat) (held opuc oduc payload : List Byte) (n : Nat) : OtnOh × List Byte :=
  let bips := held ++ frameBips opuc payload n
  (⟨opuc, (List.range n).foldl (fun o f => setAt o (42 * f + pmBipAt) (byteAt bips f)) oduc,
    (List.range n).flatMap fun f => [Config.otucTrace p i, byteAt bips f, Config.otucStatus p i]⟩, bips.drop n)

/-- A receiver checks both BIP-8 of a group: blocks that differ, and what is held for the group that follows. -/
def checkBips (held : List Byte) (g : OtnIn) : Nat × Nat × List Byte :=
  let bips := held ++ frameBips g.oh.opuc g.payload 8
  let differ := fun (l : List Byte) (w o : Nat) => ((List.range 8).filter fun f => byteAt l (w * f + o) != byteAt bips f).length
  (differ g.oh.oduc 42 pmBipAt, differ g.oh.sm 3 1, bips.drop 8)

/-- The line receiver of a channel's OPUC terminates section monitoring and checks path monitoring (R47). -/
def monitorLine (s : State) (c : Nat) (g : OtnIn) : State :=
  let m := (s.chan c).mon
  let r := checkBips m.lineIn g
  s.setChan c { s.chan c with mon := { m with lineIn := r.2.2, pmErrs := m.pmErrs + r.1, smErrs := m.smErrs + r.2.1 } }

def monitorClient (s : State) (c : Nat) (g : OtnIn) : State :=
  let m := (s.chan c).mon
  let r := checkBips m.clientIn g
  s.setChan c { s.chan c with mon := { m with clientIn := r.2.2, pmErrs := m.pmErrs + r.1, smErrs := m.smErrs + r.2.1 } }

/-- Generic AIS in the payload of `n` frames: the PN-11 sequence of ITU-T G.709, 1 + x⁹ + x¹¹, from a phase that the spec
leaves open (PRESUMED, log 81). `w` holds the last 11 bits. -/
def pn11 : Nat → Nat → List Byte
  | 0, _ => []
  | n + 1, w =>
    let step := fun (w : Nat) => w * 2 % 2 ^ 11 + b2n (bitAt w 8 != bitAt w 10)
    let w' := (List.range 8).foldl (fun w _ => step w) w
    BitVec.ofNat 8 w' :: pn11 n w'

def genericAis (n : Nat) : List Byte := pn11 (n * otnFrameBytes) (Config.aisPhase % 2047 + 1)

/-- ODUC-AIS takes the place of what a client does not send: all ones (ITU-T G.709; PRESUMED, log 81). -/
def odUcAis : OtnIn := ⟨List.replicate otnGroupBytes 0xFF, ⟨List.replicate 64 0xFF, List.replicate 336 0xFF, zeros 24⟩,
  FecCount.zero, 0, 0⟩

/-! ### Transmit (R108–R112) -/

/-- Assign the counter, slot and descriptor of the next group; none while the channel starves or waits. -/
def otnAssign (s : State) (c : Nat) : Option OtnUnit × State :=
  match sequence s c otnBlocks with
  | (some (k, n), s) =>
    let e := ctx s (egEpoch k) c
    (some ⟨n, k, e, otnDesc s c n e⟩, s)
  | (none, s) => (none, s)

/-- Seal group `u` of channel `c`, which an egress engine gets (R334), and announce the group that follows: ciphertext, seal bytes
and the state. -/
def otnSeal (s : State) (c i : Nat) (u : OtnUnit) (payload : List Byte) : List Byte × List Byte × State :=
  let m := egMat s c u.slot
  let ct := otnCrypt s c false m u.counter payload
  let tag := otnTag s c false m u.counter i u.desc ct
  let s := giveEgress s (chLine s c) (groupUnits u.counter u.slot c payload)
  let prev := (s.chan c).otnTag
  let (nxt, s) := otnAssign s c
  let s := s.setChan c { s.chan c with otnTag := tag, otnNext := nxt }
  let s := chCount (chCount s c cOutOk 1) c cOutOctets payload.length
  (ct, prev ++ (match nxt with | some v => v.desc | none => zeros 8), s)

/-! ### Receive -/

def sealHunt : Nat := 0
def sealPresync : Nat := 1
def sealLocked : Nat := 2

/-- Full group counter of the low 32 bits that a descriptor carries (R114): the one nearest the highest verified counter, so
that a counter which a recorded signal announces again is not above that value and fails the counter test (DEDUCED, log
82). -/
def otnCounter (s : State) (c low : Nat) : Nat :=
  let h := inHighest s c
  let d := (low + 2 ^ 32 - h % 2 ^ 32) % 2 ^ 32
  if d < 2 ^ 31 then h + d else h + d - 2 ^ 32

/-- A descriptor's CRC is right, its version is 1 and its reserved bits are zero (R111). R113 names only the CRC, the counter
and the epoch: a descriptor of another version or with reserved bits set counts as one with a bad CRC (DESIGN CHOICE,
log 83). -/
def descOk (d : List Byte) : Bool :=
  d.length == 8 && Crypto.crc8 (d.take 7) == byteAt d 7 && (byteAt d 6).toNat / 16 == 1 && bitsOf (byteAt d 6).toNat 1 3 == 0

/-- The receiver loses seal: HUNT, and SEAL_LOS where it was LOCKED (R113). A replacement under way and the note that the
group before was held last beyond it, which the spec leaves open: after relock the replacement goes on, and hold mode sends
no filling group (DESIGN CHOICE, log 83). -/
def otnLose (s : State) (c : Nat) : State :=
  let was := ctx s Ctx.SEAL_STATE c
  let s := ctxD (ctxD s Ctx.SEAL_STATE c sealHunt) Ctx.BAD_DESC c 0
  let s := s.setChan c { s.chan c with rxExp := none, rxPend := none }
  if was = sealLocked then s.raise CH_EVT.SEAL_LOS c else s

/-- A descriptor arrives in frames 4–7 of a group (R113, R114). Two points are open (DESIGN CHOICE, log 83): a bad
descriptor under PRESYNC sends the receiver back to HUNT; and after one that is ignored, the descriptor in the AAD of the
group's tag is taken as the sender's with this channel's own OTN_HOLD in place of the sender's HOLD. -/
def descriptorRx (s : State) (c : Nat) (d : List Byte) : State :=
  let ok := descOk d
  let slot := inSlotFor s c 16 (beAt d 4 2)
  let full := otnCounter s c (beAt d 0 4)
  let fresh : Option OtnAnn := slot.map fun k => ⟨full, ctx s (inEpoch k) c, d, false⟩
  let put := fun (s : State) (st : Nat) (a : Option OtnAnn) =>
    ctxD (s.setChan c { s.chan c with rxExp := a }) Ctx.SEAL_STATE c st
  let follows := full > inHighest s c && match (s.chan c).rxExp with | some a => full == a.counter + 1 | none => false
  match ctx s Ctx.SEAL_STATE c with
  | 0 => if ok && slot.isSome then put s sealPresync fresh else s
  | 1 =>
    if ok && slot.isSome && follows then put (ctxD s Ctx.BAD_DESC c 0) sealLocked fresh
    else if ok && slot.isSome then put s sealPresync fresh
    else put s sealHunt none
  | _ =>
    if ok && slot.isSome && follows then put (ctxD s Ctx.BAD_DESC c 0) sealLocked fresh
    else
      let s := chCount s c cInPad 1
      let bad := ctx s Ctx.BAD_DESC c + 1
      if bad ≥ 3 then otnLose s c
      else
        let s := ctxD s Ctx.BAD_DESC c bad
        match (s.chan c).rxExp with
        | none => s
        | some a =>
          let exp : OtnAnn := ⟨a.counter + 1, a.epoch, otnDesc s c (a.counter + 1) a.epoch, ok && slot.isNone⟩
          s.setChan c { s.chan c with rxExp := some exp }

/-- Frames leave on the OPUC of a client port, with their overhead but for the seal bytes, which are zero, and with both
BIP-8 made anew (R47). A near-end loopback squelches the transmitter and keeps whole groups for the port's own receiver;
under a far-end loopback the transmitter sends what the port receives (R63). -/
def otnToClient (s : State) (c lp i : Nat) (ais : Bool) (payload opuc oduc : List Byte) (n : Nat) : State :=
  let p := lp - 32
  let m := (s.chan c).mon
  let opuc := putSeal s c opuc (zeros 16)
  let r := regenerate p i m.clientOut opuc oduc payload n
  let s := s.setChan c { s.chan c with mon := { m with clientOut := r.2 } }
  match s.f PORT_CTL.LPBK p with
  | 1 => if n = 8 then s.setChan c { s.chan c with loop := some (payload, r.1.opuc, r.1.oduc) } else s
  | 2 => s
  | _ => s.emit (if ais then .ais p i n r.1 else .otn p i payload r.1)

/-- Frames of payload go to the client port; or generic AIS goes in their place (R115). -/
def otnForward (s : State) (c lp i : Nat) (payload opuc oduc : List Byte) (n : Nat) : State :=
  otnToClient s c lp i false payload opuc oduc n

def otnReplace (s : State) (c lp i : Nat) (opuc oduc : List Byte) (n : Nat) : State :=
  otnToClient s c lp i true (genericAis n) opuc oduc n

/-- Hold-and-verify: the plaintext waits in the buffer half of the line port (R116); none where it has no page left. -/
def otnHold (s : State) (lp : Nat) (pt : List Byte) : Option QFrame × State :=
  match bufStore s [] (halfOf (anchor lp)) lp 0 pt with
  | some (f, s) => (some f, s)
  | none => (none, s)

/-- A held group leaves where its own tag verified and no word of it is poisoned; otherwise generic AIS does (R115, R395). -/
def otnRelease (s : State) (c lp i : Nat) (g : OtnPend) (f : QFrame) (good : Bool) : State :=
  let t := bufFetch s f
  if !good then otnReplace s c lp i g.opuc g.oduc 8
  else if t.2.1 then dpDiscard (otnReplace t.2.2 c lp i g.opuc g.oduc 8) f.half
  else otnForward t.2.2 c lp i t.1 g.opuc g.oduc 8

/-- The tag of the group before arrives (R112, R115, R154): counters, the fault, rotation; what was held leaves. -/
def otnVerify (s : State) (c lp i : Nat) (tag : List Byte) : State :=
  match (s.chan c).rxPend with
  | none => s
  | some g =>
    let s := s.setChan c { s.chan c with rxPend := none }
    let ok := otnTag s c true (inMat s c g.slot) g.counter i g.desc g.ct == tag
    let fresh := g.counter > inHighest s c && !replayBad s c g.slot
    let s :=
      if ok && fresh then
        let s := inUpdate s c g.slot g.counter false
        let run := min 8 (ctx s Ctx.GOOD_RUN c + 1)
        let s := ctxD (chCount s c cInOk 1) Ctx.GOOD_RUN c run
        let s := if run = 8 then ctxD s Ctx.REPLACING c 0 else s
        if (s.chan c).rxReplace && run ≥ 2 then s.setChan c { s.chan c with rxClear := true } else s
      else if ok then chCount s c cInDropReplay 1
      else
        let s := (chCount s c cInDropAuth 1).raise CH_EVT.SEAL_AUTH c
        let s := ctxD (ctxD s Ctx.GOOD_RUN c 0) Ctx.REPLACING c 1
        s.setChan c { s.chan c with rxReplace := g.held.isNone || (s.chan c).rxReplace, rxClear := false }
    match g.held with
    | some f => otnRelease s c lp i g f (ok && fresh)
    | none => s

/-- A key slot that is lost between a good descriptor and its group makes the group replaced and counts nothing (DESIGN CHOICE,
log 106). A group arrives in an OPUC: first the tag of the group before, in its frames 0–3, then its payload (R111, R115–R117).
A replacement ends with the group in whose frames 0–3 the second good tag arrives: the tag comes too late for the start of
that group, and R115 does not say so (DEDUCED, log 83). -/
def groupRx (s : State) (c lp i : Nat) (g : OtnIn) : State :=
  let s := monitorLine (inLook s c) c g
  let opuc := g.oh.opuc
  let oduc := g.oh.oduc
  let before := (s.chan c).rxReplace
  let s := otnVerify s c lp i (takeSeal s c (opuc.take 32))
  let failed := (s.chan c).rxReplace && !before
  let s :=
    match ctx s Ctx.SEAL_STATE c == sealLocked, (s.chan c).rxExp with
    | true, some a =>
      let slot := if a.replaced then none else inSlotFor s c 32 a.epoch
      match slot with
      | none => otnReplace (s.setChan c { s.chan c with rxPend := none }) c lp i opuc oduc 8
      | some k =>
        let s := giveIngress s lp (groupUnits a.counter k c g.payload)
        let hold := ctxBit s Ctx.OTN_HOLD c
        let pt := otnCrypt s c true (inMat s c k) a.counter g.payload
        let filling := hold && !(s.chan c).rxHold
        let (f, s) := if hold then otnHold s lp pt else (none, s)
        let s := s.setChan c { s.chan c with
          rxPend := some ⟨a.counter, a.epoch, k, a.desc, g.payload, opuc, oduc, f⟩, rxHold := hold }
        if hold then (if filling || f.isNone then otnReplace s c lp i opuc oduc 8 else s)
        else if failed then
          otnReplace (otnForward s c lp i (pt.take (4 * otnFrameBytes)) (opuc.take 32) (oduc.take 168) 4) c lp i
            (opuc.drop 32) (oduc.drop 168) 4
        else if (s.chan c).rxReplace then otnReplace s c lp i opuc oduc 8
        else otnForward s c lp i pt opuc oduc 8
    | _, _ => chCount (otnReplace (s.setChan c { s.chan c with rxPend := none }) c lp i opuc oduc 8) c cInDropFmt 1
  if (s.chan c).rxClear then s.setChan c { s.chan c with rxReplace := false, rxClear := false } else s

/-- A client port's transmitter carries what the port sends: no loopback takes it. -/
def clientOci (s : State) (lp : Nat) : State := if s.f PORT_CTL.LPBK (lp - 32) = 0 then s.emit (.oci (lp - 32)) else s

/-- A group of OPUC `i` of a line port, or nothing but a count where its channel does not run (R107). -/
def otnGroupArrives (s : State) (lp i : Nat) (g : OtnIn) : State :=
  match otnChan s lp i with
  | none => noMatch s lp
  | some c =>
    if !otnEngines s lp then clientOci s lp
    else
      let t := groupRx s c lp i g
      if otnCarries s lp then t else clientOci { t with out := s.out } lp

/-- The overhead of frames 4–7 brings a descriptor to the channel of OPUC `i`, at the place that its SEAL_POS names. -/
def otnDescriptorArrives (s : State) (lp i : Nat) (opuc : List Byte) : State :=
  match otnChan s lp i with
  | none => s
  | some c => descriptorRx s c (takeSeal s c opuc)

/-- Receiver of an OTN line port takes the line: it hears, and a channel may listen. -/
def otnHears (s : State) (p : Nat) : Bool := isLine p && hears s p && framing s p == frOtn

/-- OTN_DESCRIPTOR_RX: the OPUC overhead of frames 4–7 of the group under way on OPUC `i` + 1, with the descriptor in its
seal bytes. -/
def execOtnDescriptorRx (p : Fin 64) (i : Fin 16) (opuc : List Byte) (s : State) : Host.Outcome State Fault Refusal :=
  .next (if otnHears s p then otnDescriptorArrives s p i opuc else s)

/-- What a port of an OTN pair counts with a group: codewords and FlexO frames received on `p`, FlexO frames sent on `q`, which
under a near-end loopback it receives itself. Under a far-end loopback a port sends no frame of its own and its receive path
sees none (R63). -/
def countGroup (s : State) (p q : Nat) (g : OtnIn) : State :=
  let s := countFec s p g.fec
  let s := if receiving s p && seesLine s p then s.addCnt .PORT_RX_FRAMES p g.rxFlexo else s
  if provisioned s q && s.fb PORT_STATUS.READY q && s.f PORT_CTL.LPBK q != 2 then
    let s := s.addCnt .PORT_TX_FRAMES q g.txFlexo
    if receiving s q && s.f PORT_CTL.LPBK q == 1 then s.addCnt .PORT_RX_FRAMES q g.txFlexo else s
  else s

/-- OTN_GROUP_RX: a group's payload and overhead; its frames 0–3 carry the tag of the group before. -/
def execOtnGroupRx (p : Fin 64) (i : Fin 16) (g : OtnIn) (s : State) : Host.Outcome State Fault Refusal :=
  .next (if !isLine p || framing s p != frOtn then s
    else
      let s := countGroup s p (p - 32) g
      if hears s p then otnGroupArrives s p i g else farEnd s p (.otn p i g.payload g.oh))

/-- A group leaves on the line, with both BIP-8 made anew. -/
def otnToLine (s : State) (c lp i : Nat) (ais : Bool) (payload opuc oduc : List Byte) : OtnOh × State :=
  let m := (s.chan c).mon
  let r := regenerate lp i m.lineOut opuc oduc payload 8
  let s := s.setChan c { s.chan c with mon := { m with lineOut := r.2 } }
  (r.1, if s.f PORT_CTL.LPBK lp = 0 then s.emit (if ais then .ais lp i 8 r.1 else .otn lp i payload r.1) else s)

/-- A near-end loopback of a line port feeds a group that it sends to its own receiver, which discards it inside a down-hold (R60,
R63). -/
def otnNear (s : State) (lp i : Nat) (payload : List Byte) (oh : OtnOh) : State :=
  if s.f PORT_CTL.LPBK lp = 1 ∧ receiving s lp then
    otnDescriptorArrives (otnGroupArrives s lp i ⟨payload, oh, FecCount.zero, 0, 0⟩) lp i (oh.opuc.drop 32)
  else s

/-- Groups sent in clear with zero seal bytes while the channel cannot be given one (R147, R148). -/
def otnSendAis (s : State) (c lp i : Nat) (oh : OtnOh) : State :=
  let t := otnToLine s c lp i true (genericAis 8) (putSeal s c oh.opuc (zeros 16)) oh.oduc
  otnNear t.2 lp i (genericAis 8) t.1

/-- A sealed group leaves; a loopback feeds it back: near-end to the line receiver, ciphertext to the egress slots' own
opening, which leaves the ingress context alone (R63). -/
def otnSend (s : State) (c lp i : Nat) (u : OtnUnit) (ct sealBytes : List Byte) (oh : OtnOh) : State :=
  let opuc := putSeal s c oh.opuc sealBytes
  let (oh', s) := otnToLine s c lp i false ct opuc oh.oduc
  if s.f PORT_CTL.LPBK lp = 3 then
    otnForward (s.emit (.oci lp)) c lp i (otnCrypt s c true (egMat s c u.slot) u.counter ct) opuc oh.oduc 8
  else otnNear s lp i ct oh'

/-- Group that the client port of an OTN pair gives: the one received; under a near-end loopback its own, fed back; none while
the port has no link, inside a down-hold, where it discards what it receives, its own too, and under a far-end loopback (R60,
R61, R63). In its place stands ODUC-AIS: of the down-hold and the loopback the spec does not say so (DESIGN CHOICE, log 84). -/
def otnFromClient (s : State) (c lp : Nat) (g : OtnIn) : OtnIn × State :=
  let p := lp - 32
  match s.f PORT_CTL.LPBK p with
  | 0 => if receiving s p then (g, monitorClient s c g) else (odUcAis, s)
  | 1 =>
    (match (s.chan c).loop, receiving s p with
     | some x, true => (⟨x.1, ⟨x.2.1, x.2.2, zeros 24⟩, FecCount.zero, 0, 0⟩, s.setChan c { s.chan c with loop := none })
     | _, _ => (odUcAis, s))
  | _ => (odUcAis, s)

/-- The OTN transmitter of a line port sends groups: READY, no far-end loopback, no SHADOW, and no remote fault in place of
data (R61, R63). -/
def otnSends (s : State) (lp i : Nat) : Bool :=
  isLine lp && provisioned s lp && s.fb PORT_STATUS.READY lp && framing s lp == frOtn && s.f PORT_CTL.LPBK lp != 2 &&
    !shadows s && decide (i < otnN s lp) && portSignal s lp != .remoteFault

/-- OTN_GROUP_TX: one group of OPUC `i` + 1 from the client is sealed and sent. -/
def execOtnGroupTx (p : Fin 64) (i : Fin 16) (g : OtnIn) (s : State) : Host.Outcome State Fault Refusal :=
  .next (
    if !isLine p || framing s p != frOtn then s
    else
      let s := farEnd (countGroup s (p - 32) p g) (p - 32) (.otn (p - 32) i g.payload g.oh)
      if !otnSends s p i then s
      else if !otnCarries s p || !otnEngines s p then (if s.f PORT_CTL.LPBK p = 1 then s else s.emit (.oci p))
      else
        match otnChan s p i with
        | none => s
        | some c =>
          let (g, s) := otnFromClient s c p g
          let (u, s) := match (s.chan c).otnNext with
            | some u => (some u, s)
            | none => otnAssign s c
          match u with
          | none => otnSendAis (s.setChan c { s.chan c with otnTag := zeros 8 }) c p i g.oh
          | some u =>
            let (ct, sb, s) := otnSeal s c i u (sliceAt g.payload 0 otnGroupBytes)
            otnSend s c p i u ct sb g.oh)

end Sys2Proof.Machine
end

