-- ==== Sys2Proof/Machine/Channels.lean ====
section
/-! DEFINITION. The CH commands: requests on a channel, the enable check, context writes, remapping and the end of a
drain (R132–R138, R146, R158, R163, R165, R167, R168, R568). -/

namespace Sys2Proof.Machine

/-! ### The enable check (R163, R568) -/

/-- Other running channels on the line port of `c`. -/
def others (s : State) (c : Nat) : List Nat :=
  (busyChannels s).filter fun d => d != c && chLive s d && chLine s d == chLine s c

/-- The image of a region that a slice has loaded provides cipher `n` on one side (R371). -/
def regionCipher (s : State) (r n : Nat) : Bool :=
  s.loaded.contains r && s.sheaf.compl.any fun x =>
    bitAt (leAt x.bytes 0 8) r && (byteAt x.bytes 8).toNat == n && (byteAt x.bytes 9).toNat == r % 2

/-- Cipher `n` is loaded on a slice: its seal image in the even region, its open image in the odd one. -/
def cipherLoaded (s : State) (sl n : Nat) : Bool := regionCipher s (2 * sl) n && regionCipher s (2 * sl + 1) n

/-- Values outside the framing's cell of R568. -/
def fieldOutside (s : State) (c : Nat) : Bool :=
  let fr := chFraming s c
  ctx s Ctx.CIPHER c > (if fr == frMacsec then 3 else 0) ||
    (fr != frMacsec && (ctxBit s Ctx.SCI_EXPL c || ctx s Ctx.CONF_OFF c != 0 || ctxBit s Ctx.IMPORT c)) ||
    (fr != frOtn && ctx s Ctx.OPUC c != 0) || (fr != frBale && ctxBit s Ctx.TFC_EN c)

/-- Line rates of the traffic-flow channels of a port, this one included, above its capacity after the tithe (R103). A
rate in bits for each 0.1 µs is kept as a fraction. -/
def tfcOver (s : State) (c : Nat) : Bool :=
  let add := fun (r : Nat × Nat) (d : Nat) =>
    let per := max 1 (ctx s Ctx.TFC_PERIOD d)
    (r.1 * per + (16 * ctx s Ctx.TFC_LEN d + 86) * 8 * r.2, r.2 * per)
  let r := (c :: (others s c).filter fun d => ctxBit s Ctx.TFC_EN d).foldl add (0, 1)
  r.1 * 10000 > 20000 * portWidth s (chLine s c) * (10000 - polTithe s) * r.2

/-- Live fields, tested at enable and at a live write. -/
inductive LiveTest where
  | epochBlk | epochTime | rootLife | weight | eqLimit | mark | iqLimit | replay | prevHold | half | baleTmo
  deriving DecidableEq, Repr

def liveTests : List LiveTest :=
  [.epochBlk, .epochTime, .rootLife, .weight, .eqLimit, .mark, .iqLimit, .replay, .prevHold, .half, .baleTmo]

/-- Half of buffer memory that a channel's entry of R158 takes. -/
def chHalf (s : State) (c : Nat) : Nat :=
  if chFraming s c = frOtn then halfOf (anchor (chLine s c)) else halfOf (anchor (chClient s c))

/-- Cause that a test of a live field finds. -/
def liveCause (s : State) (c : Nat) : LiveTest → List Nat
  | .epochBlk => cause (!ctxBit s Ctx.IMPORT c && (ctx s Ctx.EPOCH_BLK c < 16 || ctx s Ctx.EPOCH_BLK c > 40)) 0x1A
  | .epochTime => cause (!ctxBit s Ctx.IMPORT c && (ctx s Ctx.EPOCH_TIME c < 1 || ctx s Ctx.EPOCH_TIME c > 86400000)) 0x1A
  | .rootLife => cause (!ctxBit s Ctx.IMPORT c && (ctx s Ctx.ROOT_LIFE c < 1 || ctx s Ctx.ROOT_LIFE c > 1440 ||
      ctx s Ctx.ROOT_LIFE c > polRootMax s)) 0x1B
  | .weight => cause (chFraming s c != frOtn && !ctxBit s Ctx.TFC_EN c && ctx s Ctx.WEIGHT c == 0) 0x1C
  | .eqLimit => cause (chFraming s c != frOtn &&
      (ctx s Ctx.EQ_LIMIT c < 16 || ctx s Ctx.EQ_LIMIT c > s.f PORT_EXP_LIMIT.KIB (chClient s c))) 0x1D
  | .mark => cause (chFraming s c != frOtn && ctx s Ctx.MARK_KIB c != 0 && ctx s Ctx.MARK_KIB c ≥ ctx s Ctx.EQ_LIMIT c) 0x1E
  | .iqLimit => cause (chFraming s c != frOtn && (ctx s Ctx.IQ_LIMIT c < 16 || ctx s Ctx.IQ_LIMIT c > 12288)) 0x1F
  | .replay => cause ((chFraming s c == frMacsec && ctx s Ctx.REPLAY_WIN c > 2 ^ 30) ||
      (chFraming s c == frBale && ctx s Ctx.REPLAY_WIN c > 1024)) 0x20
  | .prevHold => cause (ctx s Ctx.PREV_HOLD c < 1 || ctx s Ctx.PREV_HOLD c > 1000) 0x20
  | .half => cause (overCommitted s (chHalf s c)) 0x21
  | .baleTmo => cause (ctx s Ctx.BALE_TMO c < 5 || ctx s Ctx.BALE_TMO c > 1000) 0x22

/-- Some word of a channel's slot is poisoned. -/
def slotPoisoned (s : State) (c : Nat) : Bool := (List.range 128).any fun i => poisoned s ctxCtl (128 * slotOf s c + i)

/-- Causes against enabling a channel, state and mode apart. -/
def enableCauses (s : State) (c : Nat) : List Nat :=
  let lp := chLine s c
  let cp := chClient s c
  let fr := chFraming s c
  let imp := ctxBit s Ctx.IMPORT c
  let tfc := ctxBit s Ctx.TFC_EN c
  let expl := ctxBit s Ctx.SCI_EXPL c
  let compl := ctx s Ctx.COMPL c
  let sls := portSlices s lp
  let tx := ctxBytes s Ctx.TX_SCI c
  let rx := ctxBytes s Ctx.RX_SCI c
  let otn := fr == frOtn
  let pin := s.pin (peerNode s c)
  cause (!(isLine lp && provisioned s lp)) 0x05 ++
  cause (isLine cp || !provisioned s cp || s.f PORT_CFG.PAIR cp != lp) 0x06 ++
  cause (sls.any fun sl => sliceDrained s sl || (s.slice sl).draining || s.shf.updating.contains sl) 0x07 ++
  cause (fieldOutside s c) 0x08 ++
  cause (!polCipher s (ctx s Ctx.CIPHER c)) 0x09 ++
  cause (compl != 0 && s.variant == 2) 0x0A ++
  cause (compl != 0 && sls.any fun sl => !cipherLoaded s sl compl) 0x0B ++
  cause (imp && !polImport s (ctx s Ctx.CIPHER c)) 0x0C ++
  cause (!imp && (pin.isNone || reservedNode (peerNode s c))) 0x0D ++
  cause (!imp && pin.any (·.changed)) 0x0E ++
  cause (if imp then !egValid s c (egNext s c) else !ctxBit s Ctx.ROOT_OK c) 0x0F ++
  cause (ctxBit s Ctx.ROOT_EXP c) 0x10 ++
  cause (!imp && !suiteUsable s (ctx s Ctx.SUITE c)) 0x11 ++
  cause (ctxBit s Ctx.BALE_V1 c && (!polBaleV1 s || tfc)) 0x12 ++
  cause ((fr == frMacsec && ctx s Ctx.CONF_OFF c == 3) || (fr == frMacsec && expl && (tx == zeros 8 || rx == zeros 8))) 0x13 ++
  cause ((others s c).any fun d => ctxBytes s Ctx.TX_SCI d == tx || ctxBytes s Ctx.RX_SCI d == rx) 0x14 ++
  cause (fr == frMacsec && !expl && (others s c).any fun d => !ctxBit s Ctx.SCI_EXPL d) 0x15 ++
  cause (!otn && ((busyChannels s).any fun d => d != c && hasMatch s d cp && ctx s Ctx.VID d == ctx s Ctx.VID c &&
    ctx s Ctx.PCP_MASK d &&& ctx s Ctx.PCP_MASK c != 0)) 0x16 ++
  cause (otn && ctx s Ctx.OPUC c ≥ otnN s lp) 0x17 ++
  cause (otn && ((busyChannels s).any fun d => d != c && chFraming s d == frOtn && chLine s d == lp &&
    ctx s Ctx.OPUC d == ctx s Ctx.OPUC c)) 0x18 ++
  cause (otn && ctx s Ctx.SEAL_POS c == 3) 0x19 ++
  (liveTests.map (liveCause s c)).flatten ++
  cause (tfc && (ctx s Ctx.TFC_LEN c < 64 || ctx s Ctx.TFC_LEN c > 1024 || ctx s Ctx.TFC_PERIOD c < 5 ||
    ctx s Ctx.TFC_PERIOD c > 10000)) 0x23 ++
  cause (tfc && tfcOver s c) 0x24 ++
  cause (isLine lp && !tfc && polTfcReq s lp) 0x25 ++
  cause (tfc && s.fb PORT_CFG.FLTPROP lp) 0x26 ++
  cause (slotPoisoned s c) 0x27

/-! ### Requests (R133–R137) -/

/-- Every D field but the counters, the CUR fields and the VALID bits is zeroed; OTN_GROUP is 1 (R129). -/
def enableFields (s : State) (c : Nat) : State :=
  let s := [Ctx.NEXT_SEQ, Ctx.EPOCH_BLOCKS, Ctx.EPOCH_START, Ctx.PREV_LIVE, Ctx.ROT_TIME, Ctx.IN0_HIGH, Ctx.IN1_HIGH,
    Ctx.IN2_HIGH, Ctx.REPLACING, Ctx.GOOD_RUN, Ctx.BAD_DESC, Ctx.SEAL_STATE, Ctx.REPLAY_MAP].foldl (fun s x => ctxD s x c 0) s
  ctxD s Ctx.OTN_GROUP c 1

/-- The channel becomes ACTIVE (R135). -/
def enable (s : State) (c : Nat) : State :=
  let old := s.chan c
  let s := enableFields s c
  let s := s.setChan c { Chan.reset with
    iq := old.iq, inDeficit := old.inDeficit, importDue := old.importDue, sakStart := old.sakStart }
  let s := (s.setF CH_CTL.EN c 1).setF CH_STATUS.STARVED c 0
  reserveEval (chEnter s c stActive) c

/-- A TWIN-SHADOW member refuses requests of masters other than the twin agent. -/
def shadowRefuses (s : State) (m : Master) : Bool := shadows s && m != .twin

/-- The channel is active on the twin partner: a SHADOW's mirror of a running channel. -/
def partnerRuns (s : State) (c : Nat) : Bool := shadows s && chLive s c

/-- KEY: the control plane is asked for a root (R134). -/
def chKeyRequest (s : State) (c : Nat) : State := keyRequest s c

/-- EN = 0 with no action bit, by state (R136). -/
def chDisableRequest (s : State) (c : Nat) : State :=
  let st := chState s c
  if st = stKeying ∨ st = stReady then serveKeyWait (finishChannel s c)
  else if st = stActive then
    let s := chEnter (s.setF CH_CTL.EN c 0) c stDraining
    packChannel s c
  else s

/-- Bytes of a slot that a remap of a channel without keys carries over: M fields and counters. -/
def carried (w : Nat) : Bool :=
  ctxFields.any (fun x => x.cls == .m && x.off + x.lo / 8 ≤ w && w ≤ x.off + (x.lo + x.len - 1) / 8) ||
    (0x340 ≤ w && w < 0x380) || (0x540 ≤ w && w < 0x580)

/-- Move a channel to the lowest free spare slot (R168). -/
def remap (s : State) (c : Nat) : State :=
  let st := chState s c
  let whole := st == stActive
  let old := slotOf s c
  let new := 16384 + (1024 - s.f CH_SPARE.FREE 0)
  let bytes := (List.range 1024).map fun i =>
    if poisoned s ctxCtl (128 * old + i / 8) then 0
    else if whole || carried (0x200 + i) then Mem.read (ramDefault s ctxCtl) (s.ram ctxCtl) (1024 * old + i) else 0
  let s := (memWrite s ctxCtl (1024 * new) (bytes.map some) codeQueue).2
  let s := (s.setF CH_REMAP.SLOT c new).setF CH_SPARE.FREE 0 (s.f CH_SPARE.FREE 0 - 1)
  if st = stReady then serveKeyWait (finishChannel s c) else s

/-- A CH_CTL write (R133). -/
def chCtl (s : State) (m : Master) (c v : Nat) : State :=
  let en := bitAt v 0
  let held := s.fb CH_CTL.EN c
  let key := bitAt v 3
  let now := bitAt v 4
  let rm := bitAt v 5
  let acts := b2n key + b2n now + b2n rm
  let st := chState s c
  let quiet := s.mode != modeStandby && s.mode != modeOperational && s.mode != modeMaintenance
  let two := cause (acts > 1 || (acts == 1 && en != held)) 0x02
  let shadow := cause (shadowRefuses s m) 0x03
  if acts = 0 then
    if en && held then checked s .CH_CHECK m c shadow id
    else if en then
      let early := cause (st != stReady) 0x01 ++ shadow ++ cause (s.mode != modeOperational) 0x03 ++ cause (partnerRuns s c) 0x04
      checked s .CH_CHECK m c (early ++ (if st = stReady then enableCauses s c else [])) fun s => enable s c
    else checked s .CH_CHECK m c shadow fun s => chDisableRequest s c
  else
    let keyC := if key then
        cause (st != stDisabled) 0x01 ++ cause (partnerRuns s c) 0x04 ++ cause (ctxBit s Ctx.IMPORT c) 0x2A else []
    let nowC := if now then cause (st != stActive) 0x01 ++ cause (!egNextReady s c) 0x29 else []
    let rmC := if rm then
        cause (st == stKeying || st == stDraining) 0x01 ++ cause (st == stActive && slotPoisoned s c) 0x27 ++
          cause (s.f CH_SPARE.FREE 0 == 0) 0x28 else []
    checked s .CH_CHECK m c (two ++ shadow ++ cause quiet 0x03 ++ keyC ++ nowC ++ rmC) fun s =>
      if key then chKeyRequest s c
      else if now then s.setChan c { s.chan c with forced := true }
      else remap s c

/-- An access to the channel window of a master. -/
def onChannel (s : State) (m : Master) (effect : Nat → State → State) : State :=
  whenUp s .CH fun s => inWindow s .ch m effect

def execChKey (m : Master) (v : Word) (s : State) : Host.Outcome State Fault Refusal :=
  .next (onChannel s m fun c s => chCtl s m c v.toNat)

def execChEnable (m : Master) (v : Word) (s : State) : Host.Outcome State Fault Refusal :=
  .next (onChannel s m fun c s => chCtl s m c v.toNat)

def execChDisable (m : Master) (v : Word) (s : State) : Host.Outcome State Fault Refusal :=
  .next (onChannel s m fun c s => chCtl s m c v.toNat)

def execChEpochNow (m : Master) (v : Word) (s : State) : Host.Outcome State Fault Refusal :=
  .next (onChannel s m fun c s => chCtl s m c v.toNat)

def execChRemap (m : Master) (v : Word) (s : State) : Host.Outcome State Fault Refusal :=
  .next (onChannel s m fun c s => chCtl s m c v.toNat)

/-! ### Context writes (R124, R138) -/

/-- Bits of the word at a window offset that a field has, as a mask, and where they stand in the field. -/
def fieldMask (x : CtxF) (w : Nat) : Nat :=
  let lo := 8 * x.off + x.lo
  let hi := lo + x.len
  let a := max lo (8 * w)
  let b := min hi (8 * w + 32)
  if a < b then (2 ^ (b - a) - 1) * 2 ^ (a - 8 * w) else 0

/-- A master may write an M field; RES_END is the twin agent's, and bytes that another master writes there are dropped: at
once on a DISABLED channel, by `resEndRefusal` otherwise (DESIGN CHOICE, log 86). -/
def mayWrite (m : Master) (x : CtxF) : Bool := x.cls == .m && (x.off != 0x320 || m == .twin)

/-- A check that a write of RES_END by another master than the twin agent starts refuses it; R163 has no code for that, and
REASON shows 0x00 (R124, R138; DESIGN CHOICE, log 86). -/
def resEndRefusal : Nat := 0x00

/-- The tests that a live field is under, none for those without one. -/
def liveTest (x : CtxF) : List LiveTest :=
  if x = Ctx.BALE_TMO then [.baleTmo] else if x = Ctx.ROOT_LIFE then [.rootLife]
  else if x = Ctx.EPOCH_BLK then [.epochBlk] else if x = Ctx.EPOCH_TIME then [.epochTime]
  else if x = Ctx.EQ_LIMIT then [.eqLimit, .mark] else if x = Ctx.WEIGHT then [.weight]
  else if x = Ctx.MARK_KIB then [.mark] else if x = Ctx.OTN_HOLD then [.half]
  else if x = Ctx.PREV_HOLD then [.prevHold] else if x = Ctx.REPLAY_WIN then [.replay]
  else if x = Ctx.IQ_LIMIT then [.iqLimit, .half] else []

/-- Word of a context at a window offset, errors apart. -/
def ctxWord (s : State) (c w : Nat) : Nat := leNat (ramBytes s ctxCtl (ctxAddr s c w) 4)

/-- Store the bits of a mask in a context word; bytes without any are left alone. True where the word is poisoned, which the write
then leaves as it is (R396). -/
def ctxStoreAns (s : State) (c w mask v code : Nat) : Bool × State :=
  let old := ctxWord s c w
  let new := (old &&& (2 ^ 32 - 1 - mask)) ||| (v &&& mask)
  let lanes := (List.range 4).map fun i =>
    if mask / 2 ^ (8 * i) % 256 = 0 then none else some (BitVec.ofNat 8 (new / 2 ^ (8 * i)))
  memWrite s ctxCtl (ctxAddr s c w) lanes code

def ctxStore (s : State) (c w mask v code : Nat) : State := (ctxStoreAns s c w mask v code).2

/-- Mirror record of the bits of a mask in a context word. -/
def fieldRec (c w mask v : Nat) : MirrorRec :=
  .field (chFin c) (BitVec.ofNat 12 w) (BitVec.ofNat 32 mask) (BitVec.ofNat 32 (v &&& mask))

/-- A window write of a context word. True where the word is poisoned: the write is refused with POISON (R396). -/
def ctxWindowWrite (s : State) (m : Master) (c w v : Nat) : Bool × State :=
  let fs := ctxFields.filter fun x => x.cls == .m && fieldMask x w != 0
  let mask := (fs.filter (mayWrite m)).foldl (fun n x => n ||| fieldMask x w) 0
  let old := ctxWord s c w
  let changed := fs.filter fun x => (old ^^^ v) &&& fieldMask x w != 0
  let put := ctxStoreAns s c w mask v (masterCode m)
  let store := fun (s : State) =>
    let u := ctxStoreAns s c w mask v (masterCode m)
    if u.1 then u.2 else mirror u.2 (fieldRec c w mask v)
  if changed = [] then (if put.1 then put else (false, s))
  else if chState s c = stDisabled ∨ ((w = 0x320 ∨ w = 0x324) ∧ m = .twin) then (put.1, store s)
  else
    let tests := (changed.map liveTest).flatten
    let causes := cause (changed.any fun x => !mayWrite m x) resEndRefusal ++ cause (shadowRefuses s m) 0x03 ++
      (tests.map (liveCause put.2 c)).flatten ++ cause (changed.any (·.disabled)) 0x2B
    (put.1 && causes.isEmpty, checked s .CH_CHECK m c causes store)

/-- CH_CONTEXT_WRITE: a window write at an offset of 0x200–0x5FF. -/
def execChContextWrite (m : Master) (off : BitVec 12) (v : Word) (s : State) : Host.Outcome State Fault Refusal :=
  .next (onChannel s m fun c s =>
    let w := off.toNat / 4 * 4
    if 0x200 ≤ w ∧ w < 0x600 then (ctxWindowWrite s m c w v.toNat).2 else s)

/-- Zero the sixteen counters of a channel; increments that the engines hold appear after it (R165). -/
def chCntClr (s : State) (c v : Nat) : State :=
  if bitAt v 0 then (List.range 16).foldl (fun s i => ctxD s (chCounter i) c 0) s else s

def execChCntClr (m : Master) (v : Word) (s : State) : Host.Outcome State Fault Refusal :=
  .next (onChannel s m fun c s => chCntClr s c v.toNat)

/-- CHANNEL_DRAIN_END (R136). -/
def execChannelDrainEnd (c : Fin 16384) (s : State) : Host.Outcome State Fault Refusal :=
  .next (if chState s c = stDraining ∧ !shadows s then serveKeyWait (endDrain s c) else s)

/-- SAK_START_TIME: the egress side moves to the imported key at the next frame boundary (R92). -/
def execSakStartTime (c : Fin 16384) (s : State) : Host.Outcome State Fault Refusal :=
  .next (if (s.chan c).sakStart.isSome then
    s.setChan c { s.chan c with sakStart := none, importDue := egValid s c (egNext s c) } else s)

end Sys2Proof.Machine
end

