-- ==== Sys2Proof/Machine/Flags.lean ====
section
/-! DEFINITION. The conditions that set the sticky flags V and DZ of an engine (R321, R322, R325, R327). -/

namespace Sys2Proof.Machine

/-- Most negative and most positive signed values, and the greatest unsigned value, of `w` bits (R321). -/
def minS (w : Nat) : Int := -(2 ^ (w - 1) : Nat)
def maxS (w : Nat) : Int := (2 ^ (w - 1) : Nat) - 1
def maxU (w : Nat) : Int := (2 ^ w : Nat) - 1

/-- An exact signed result does not fit, so V is set. -/
def flagV (w : Nat) (z : Int) : Bool := z < minS w || z > maxS w

/-- An exact unsigned result does not fit, so it is clamped and V is set. -/
def flagVU (w : Nat) (z : Int) : Bool := z < 0 || z > maxU w

/-- The operand is MINS, which has no negative of its width. -/
def flagMin (w t : Nat) : Bool := signedOf w t == minS w

/-- A divide by zero sets DZ. -/
def flagDZ (w t : Nat) : Bool := t % 2 ^ w == 0

/-- MINS divided by −1 sets V. -/
def flagDivV (w o t : Nat) : Bool := flagMin w o && signedOf w t == -1

end Sys2Proof.Machine
end

