-- ==== Sys2Proof/Machine/Operands.lean ====
section
/-! DEFINITION. Operand forms of the engines' units, and the exact results of the standard units (R321–R327). Values are
numbers; a form uses the low bits of its operands. -/

namespace Sys2Proof.Machine

/-! ### Forms (R297, R312, R321) -/

/-- Width of an operand form. -/
def formBits : Form → Nat
  | .w => 32 | .d => 64 | .q => 128

/-- Element size and lane of a move's source (R297): the value moved, none where ESL is reserved or names a lane that a
bus of `bus` bits does not have. -/
def eslValue (bus esl v : Nat) : Option Nat :=
  if esl = 0 then some v
  else if esl = 1 then some (bitsOf v 0 64)
  else if esl = 2 then (if bus = 128 then some (bitsOf v 64 64) else none)
  else if esl = 3 then none
  else if esl < 12 then
    let n := esl % 4
    if bus = 64 ∧ n ≥ 2 then none
    else
      let x := bitsOf v (32 * n) 32
      if esl < 8 then some x else some (unsignedOf bus (signedOf 32 x))
  else some (bitsOf v (16 * (esl - 12)) 16)

/-- Bytes of a memory access by SZ (R312): none where the size is reserved or the bus too narrow. -/
def szBytes (bus sz : Nat) : Option Nat :=
  match sz % 8 with
  | 0 => some 1 | 1 => some 2 | 2 => some 4 | 3 => some 8
  | 4 => if bus = 128 then some 16 else none
  | _ => none

/-- A loaded value extended to the bus: SZ[3] asks for the sign. -/
def extendLoad (bus sz n v : Nat) : Nat := if bitAt sz 3 then unsignedOf bus (signedOf (8 * n) v) else v

/-! ### ALU (R322, R327) -/

inductive AluOp where
  | add | sub | adds | subs | addus | subus | neg | negs | abs | abss | min | max | minu | maxu
  | and | or | xor | andn | not | pass | clz | popc | bswap
  deriving DecidableEq, Repr

/-- Leading zeros of a value of `w` bits. -/
def clzOf (w v : Nat) : Nat := w - Nat.log2 (2 * (v % 2 ^ w) + 1)

/-- Set bits of a value of `w` bits. -/
def popcOf (w v : Nat) : Nat := ((List.range w).filter fun i => v.testBit i).length

/-- Exact result of the operations that can leave their range. -/
def aluExact (op : AluOp) (w o t : Nat) : Int :=
  match op with
  | .add | .adds => signedOf w o + signedOf w t
  | .sub | .subs => signedOf w o - signedOf w t
  | .addus => (o % 2 ^ w : Nat) + (t % 2 ^ w : Nat)
  | .subus => ((o % 2 ^ w : Nat) : Int) - (t % 2 ^ w : Nat)
  | .neg | .negs => -signedOf w t
  | .abs | .abss => (signedOf w t).natAbs
  | _ => 0

/-- R and the new V condition of an ALU operation on `w` bits. -/
def aluResult (op : AluOp) (w o t : Nat) : Nat × Bool :=
  let z := aluExact op w o t
  match op with
  | .add | .sub => (unsignedOf w z, flagV w z)
  | .adds | .subs => (unsignedOf w (clampS w z), flagV w z)
  | .addus | .subus => (unsignedOf w (clampU w z), flagVU w z)
  | .neg | .abs => (unsignedOf w z, flagMin w t)
  | .negs | .abss => (unsignedOf w (clampS w z), flagMin w t)
  | .min => (unsignedOf w (Min.min (signedOf w o) (signedOf w t)), false)
  | .max => (unsignedOf w (Max.max (signedOf w o) (signedOf w t)), false)
  | .minu => (Min.min (o % 2 ^ w) (t % 2 ^ w), false)
  | .maxu => (Max.max (o % 2 ^ w) (t % 2 ^ w), false)
  | .and => ((o &&& t) % 2 ^ w, false)
  | .or => ((o ||| t) % 2 ^ w, false)
  | .xor => ((o ^^^ t) % 2 ^ w, false)
  | .andn => ((o &&& (2 ^ w - 1 - t % 2 ^ w)) % 2 ^ w, false)
  | .not => (2 ^ w - 1 - t % 2 ^ w, false)
  | .pass => (t % 2 ^ w, false)
  | .clz => (clzOf w t, false)
  | .popc => (popcOf w t, false)
  | .bswap => (beNat (leBytes (w / 8) t), false)

/-- AND, OR, XOR, ANDN, NOT and PASS act on the whole bus. -/
def AluOp.whole : AluOp → Bool
  | .and | .or | .xor | .andn | .not | .pass => true
  | _ => false

/-! ### Shifts (R323) -/

inductive ShOp where
  | shl | shr | sar | rol | ror
  deriving DecidableEq, Repr

/-- R of a shift of O by T[7:0]. -/
def shResult (op : ShOp) (w o t : Nat) : Nat :=
  let c := t % 256
  let x := o % 2 ^ w
  let rot := fun (n : Nat) => (x * 2 ^ n) % 2 ^ w + x / 2 ^ (w - n)
  match op with
  | .shl => if c < w then (x * 2 ^ c) % 2 ^ w else 0
  | .shr => if c < w then x / 2 ^ c else 0
  | .sar => unsignedOf w (signedOf w x / ((2 ^ (Min.min c w) : Nat) : Int))
  | .rol => if c % w = 0 then x else rot (c % w)
  | .ror => if c % w = 0 then x else rot (w - c % w)

/-! ### Comparisons (R324) -/

inductive CmpOp where
  | eq | ne | lt | le | ltu | leu | btst
  deriving DecidableEq, Repr

/-- Whether O stands in the relation to T. -/
def cmpResult (op : CmpOp) (w o t : Nat) : Bool :=
  match op with
  | .eq => o % 2 ^ w == t % 2 ^ w
  | .ne => o % 2 ^ w != t % 2 ^ w
  | .lt => signedOf w o < signedOf w t
  | .le => signedOf w o ≤ signedOf w t
  | .ltu => o % 2 ^ w < t % 2 ^ w
  | .leu => o % 2 ^ w ≤ t % 2 ^ w
  | .btst => t % 256 < w && bitAt o (t % 256)

/-! ### Multiplier (R325) -/

inductive MulOp where
  | mul | muls | mulh | mulhu | mulw | mulwu
  deriving DecidableEq, Repr

/-- R and the V condition of a product of the low 32 bits. -/
def mulResult (op : MulOp) (o t : Nat) : Nat × Bool :=
  let p := signedOf 32 o * signedOf 32 t
  let u := (o % 2 ^ 32) * (t % 2 ^ 32)
  match op with
  | .mul => (unsignedOf 32 p, flagV 32 p)
  | .muls => (unsignedOf 32 (clampS 32 p), flagV 32 p)
  | .mulh => (unsignedOf 64 p / 2 ^ 32, false)
  | .mulhu => (u / 2 ^ 32, false)
  | .mulw => (unsignedOf 64 p, false)
  | .mulwu => (u, false)

/-! ### Divider (R326, R327) -/

inductive DivOp where
  | div | divu | divs
  deriving DecidableEq, Repr

/-- Quotient, remainder, and the V and DZ conditions. -/
structure DivRes where
  q : Nat
  rem : Nat
  v : Bool
  dz : Bool
  deriving DecidableEq, Repr

def divResult (op : DivOp) (w o t : Nat) : DivRes :=
  let x := o % 2 ^ w
  match op with
  | .divu =>
    let d := t % 2 ^ w
    if d = 0 then ⟨2 ^ w - 1, x, false, true⟩ else ⟨x / d, x % d, false, false⟩
  | _ =>
    let a := signedOf w o
    let d := signedOf w t
    if flagDZ w t then ⟨unsignedOf w (if a ≥ 0 then maxS w else minS w), x, false, true⟩
    else if flagDivV w o t then ⟨unsignedOf w (if op = .divs then maxS w else minS w), 0, true, false⟩
    else ⟨unsignedOf w (a.tdiv d), unsignedOf w (a.tmod d), false, false⟩

end Sys2Proof.Machine
end

