-- ==== Sys2Proof/Machine/EngPorts.lean ====
section
/-! DEFINITION. Function units, their ports, and the port IDs that a sheaf gives them (R260, R281, R299, R335, R371). -/

namespace Sys2Proof.Machine

/-- Operations of the function units, one for each trigger port. -/
inductive UOp where
  | alu (op : AluOp) (fm : Form)
  | sh (op : ShOp) (fm : Form)
  | cmp (op : CmpOp) (fm : Form)
  | mul (op : MulOp)
  | div (op : DivOp) (fm : Form)
  | ld
  | st
  /-- KLD128 and KLD256. -/
  | kld (long : Bool)
  /-- ENC, DEC and CTR under a key of 16 or 32 bytes. -/
  | enc (long : Bool)
  | dec (long : Bool)
  | ctr (long : Bool)
  | hset
  | gacc (j : Nat)
  | gclr (j : Nat)
  | crcInit
  | crcFeed (n : Nat)
  | crd
  | hash
  | compl (op : Nat)
  | mac
  | bf
  | kf
  | mmp
  | mmn
  | comp
  | sInit
  | sStep
  | seed
  | gen
  | fin
  deriving DecidableEq, Repr

/-- What a port of a unit is: its n-th operand, its n-th result, a trigger, or a socket ID that holds nothing. -/
inductive Role where
  | operand (n : Nat)
  | result (n : Nat)
  | trig (op : UOp)
  | hole
  deriving DecidableEq, Repr

/-! ### Unit kinds of STRUCT (R371) -/

def kAlu : Nat := 0
def kShift : Nat := 1
def kCmp : Nat := 2
def kMul : Nat := 3
def kLs : Nat := 4
def kDiv : Nat := 5
def kAes : Nat := 6
def kGhash : Nat := 7
def kCrc : Nat := 8
def kCtx : Nat := 9
def kHash : Nat := 10
def kCompl : Nat := 11
def kMac : Nat := 12
def kBf : Nat := 13
def kKeccak : Nat := 14
def kP384 : Nat := 15
def kSha : Nat := 16
def kSamp : Nat := 17
def kDrbg : Nat := 18

/-- Triggers of an operation in its forms .W and .D. -/
def wd (f : Form → UOp) : List Role := [.trig (f .w), .trig (f .d)]

/-- Triggers of a shift: .Q exists in data engines. -/
def wdq (cls : Nat) (op : ShOp) : List Role := wd (.sh op) ++ (if cls = 0 then [.trig (.sh op .q)] else [])

/-- Ports of a unit in the order of their IDs: operands, triggers and results as the chapters list them, each trigger form
by itself in the order .W, .D, .Q (R371; the place of operands before triggers and of results after them is the model's
reading, DEDUCED, log 40). -/
def unitPorts (kind cls : Nat) : List Role :=
  match kind with
  | 0 =>
    [.operand 0] ++ ([AluOp.add, .sub, .adds, .subs, .addus, .subus, .neg, .negs, .abs, .abss, .min, .max, .minu,
      .maxu].map fun op => wd (.alu op)).flatten ++
    ([AluOp.and, .or, .xor, .andn, .not, .pass].map fun op => Role.trig (.alu op .d)) ++
    ([AluOp.clz, .popc, .bswap].map fun op => wd (.alu op)).flatten ++ [.result 0]
  | 1 => [.operand 0] ++ ([ShOp.shl, .shr, .sar, .rol, .ror].map (wdq cls)).flatten ++ [.result 0]
  | 2 =>
    [.operand 0, .operand 1] ++ ([CmpOp.eq, .ne, .lt, .le, .ltu, .leu, .btst].map fun op => wd (.cmp op)).flatten ++
    [.result 0]
  | 3 => [.operand 0] ++ ([MulOp.mul, .muls, .mulh, .mulhu, .mulw, .mulwu].map fun op => Role.trig (.mul op)) ++ [.result 0]
  | 4 => [.operand 0, .trig .ld, .result 0, .operand 1, .trig .st]
  | 5 => [.operand 0] ++ ([DivOp.div, .divu, .divs].map fun op => wd (.div op)).flatten ++ [.result 0, .result 1]
  | 6 => [.operand 0, .operand 1, .trig (.kld false), .trig (.kld true), .trig (.enc false), .trig (.enc true),
      .trig (.dec false), .trig (.dec true), .trig (.ctr false), .trig (.ctr true), .result 0, .result 1]
  | 7 => [.trig .hset, .operand 0, .trig (.gacc 0), .trig (.gacc 1), .trig (.gclr 0), .trig (.gclr 1), .result 0, .result 1]
  | 8 => [.operand 0, .trig .crcInit, .trig (.crcFeed 1), .trig (.crcFeed 4), .trig (.crcFeed 8)] ++
      (if cls = 0 then [.trig (.crcFeed 16)] else []) ++ [.result 0]
  | 9 => [.trig .crd, .result 0, .result 1, .result 2, .result 3]
  | 10 => [.operand 0, .trig .hash, .result 0]
  | 11 => [.operand 0, .operand 1, .operand 2, .operand 3, .trig (.compl 0), .trig (.compl 1), .trig (.compl 2),
      .trig (.compl 3), .result 0, .result 1]
  | 12 => [.operand 0, .operand 1, .operand 2, .trig .mac, .result 0, .result 1, .result 2]
  | 13 => [.operand 0, .operand 1, .operand 2, .operand 3, .trig .bf, .result 0, .result 1]
  | 14 => [.trig .kf]
  | 15 => [.operand 0, .operand 1, .trig .mmp, .trig .mmn]
  | 16 => [.operand 0, .trig .comp]
  | 17 => [.operand 0, .operand 1, .trig .sInit, .trig .sStep, .result 0]
  | 18 => [.trig .seed, .trig .gen, .trig .fin, .result 0, .result 1, .result 2]
  | _ => []

/-- A unit that STRUCT selects for an engine. -/
structure UnitSel where
  kind : Nat
  inst : Nat
  base : Nat
  deriving DecidableEq, Repr

/-- Committed structure of an engine: its override, or its class's record (R371). -/
def structRec (st : List Byte) (e : Nat) : Nat :=
  match (List.range (byteAt st 1).toNat).find? fun i => (byteAt st (616 + 208 * i)).toNat == e with
  | some i => 624 + 208 * i
  | none => 16 + 200 * engClass e

/-- Units of an engine in STRUCT's order. -/
def unitsOf (st : List Byte) (e : Nat) : List UnitSel :=
  let r := structRec st e
  (List.range (byteAt st (r + 1)).toNat).map fun i =>
    let o := r + 8 + 8 * i
    ⟨(byteAt st o).toNat, (byteAt st (o + 1)).toNat, leAt st (o + 2) 2⟩

def engUnits (s : State) (e : Nat) : List UnitSel := unitsOf s.sheaf.struct e

/-- Complication image of the region of a data engine (R14, R371). -/
def complOf (s : State) (e : Nat) : Option Section :=
  s.sheaf.compl.find? fun x => bitAt (leAt x.bytes 0 8) e

/-- Declaration of socket `k` of a data engine (R335, R371). -/
def socketDecl (s : State) (e k : Nat) : Nat := match complOf s e with | some x => leAt x.bytes (12 + 4 * k) 4 | none => 0

/-- Socket `k` holds a port: not on a QM-6400-FN, not with an empty region, and of its triggers only those declared. -/
def socketHas (s : State) (e k : Nat) (r : Role) : Bool :=
  s.variant != 2 && (complOf s e).isSome &&
    (match r with
     | .trig (.compl i) => bitAt (socketDecl s e k) i
     | .hole => false
     | _ => true)

/-- A selected unit's port at offset `i` from its base. -/
def unitRole (s : State) (e : Nat) (u : UnitSel) (i : Nat) : Option Role :=
  match (unitPorts u.kind (engClass e))[i]? with
  | none => none
  | some r => if u.kind = kCompl && !socketHas s e u.inst r then none else some r

/-- The unit and role of a port ID of the sockets (R299). -/
def findPort (s : State) (e id : Nat) : Option (UnitSel × Role) :=
  (engUnits s e).findSome? fun u =>
    if u.base ≤ id then (unitRole s e u (id - u.base)).map fun r => (u, r) else none

/-- A unit is selected for an engine and has the trigger. -/
def hasTrig (s : State) (e kind inst : Nat) (op : UOp) : Bool :=
  (engUnits s e).any fun u => u.kind == kind && u.inst == inst &&
    (unitPorts kind (engClass e)).contains (.trig op) && (kind != kCompl || socketHas s e inst (.trig op))

/-! ### Keys of port values -/

/-- Key of operand `n`, of result `n`, and of a hidden value of a unit. -/
def opKey (kind inst n : Nat) : Nat := kind * 1024 + inst * 32 + n
def resKey (kind inst n : Nat) : Nat := kind * 1024 + inst * 32 + 16 + n
def hidKey (kind inst n : Nat) : Nat := kind * 1024 + inst * 32 + 24 + n

/-- Keys of the operand and result ports that a save area keeps, in STRUCT's order (R281). -/
def savedPorts (s : State) (e : Nat) : List Nat :=
  ((engUnits s e).map fun u => (unitPorts u.kind (engClass e)).filterMap fun r =>
    match r with
    | .operand n => some (opKey u.kind u.inst n)
    | .result n => some (resKey u.kind u.inst n)
    | _ => none).flatten

/-- Bits of an engine's buses (R255). -/
def busW (e : Nat) : Nat := if engClass e = 0 then 128 else 64

end Sys2Proof.Machine
end

