-- ==== Sys2Proof/Machine/Fabric.lean ====
section
/-! DEFINITION. The fabric: protected messages, neighbours, addresses, the link-state database, routes and kills
(R225–R236, R249, R250, R253). -/

namespace Sys2Proof.Machine

/-! ### Message types (R226) -/

def fmNhello : Nat := 1
def fmLsa : Nat := 2
def fmLsaAck : Nat := 3
def fmAddrReq : Nat := 4
def fmAddrGrant : Nat := 5
def fmKill : Nat := 0x10
def fmKillAck : Nat := 0x11
def fmAlarm : Nat := 0x20

def clsAlarm : Nat := 0
def clsKill : Nat := 1
def clsManagement : Nat := 3

def fabEn (s : State) : Bool := s.fb FAB_CFG.EN 0

/-- Own node ID. -/
def ownNode (s : State) : W64 := s.silo.node

/-! ### Sealing and opening (R225) -/

def fabOrigKey (key : List Byte) (orig : W64) : List Byte := kdfCtr key (ascii "QVR-FAB") (nodeBytes orig) 256

/-- Bytes 0–19 of a message. -/
def fabHeader (orig seq : W64) (type keyId : Nat) : List Byte :=
  nodeBytes orig ++ beBytes 8 seq.toNat ++ beBytes 2 type ++ [BitVec.ofNat 8 keyId, 0]

def fabSeal (key : List Byte) (orig seq : W64) (type keyId : Nat) (body : List Byte) : List Byte :=
  let h := fabHeader orig seq type keyId
  let r := Crypto.gcmSeal (fabOrigKey key orig) (beBytes 8 seq.toNat ++ zeros 4) h body
  h ++ r.1 ++ r.2

/-- Key that a KEY_ID names. -/
def fabKeyOf (s : State) (id : Nat) : Option (List Byte) :=
  match s.silo.fabKey, s.silo.prevKey with
  | some (i, k), p => if i = id then some k else p.bind fun q => if q.1 = id then some q.2 else none
  | none, p => p.bind fun q => if q.1 = id then some q.2 else none

/-- Body of a protected message, none where the tag fails. -/
def fabOpen (s : State) (m : List Byte) : Option (List Byte) :=
  if m.length < 36 then none
  else
    match fabKeyOf s (byteAt m 18).toNat with
    | none => none
    | some k =>
      Crypto.gcmOpen (fabOrigKey k (nodeOf (sliceAt m 0 8))) (sliceAt m 8 8 ++ zeros 4) (m.take 20)
        (sliceAt m 20 (m.length - 36)) (m.drop (m.length - 16))

/-- SEQ of the next message of this module: the real-time clock, forced strictly increasing. -/
def nextSeq (s : State) : W64 × State :=
  let v := BitVec.ofNat 64 (max s.rtc.toNat (s.fab.sendSeq.toNat + 1))
  (v, { s with fab := { s.fab with sendSeq := v } })

/-! ### Links -/

/-- An up line port or twin link. -/
def fabLinkUp (s : State) (l : Nat) : Bool :=
  if l = 32 then s.fb TWN_STATUS.LINK0 0
  else if l = 33 then s.fb TWN_STATUS.LINK1 0
  else provisioned s (linkPort l) && linkUp s (linkPort l)

/-- Neighbour that a link's last NHELLO named. -/
def neighbour (s : State) (l : Nat) : W64 :=
  BitVec.ofNat 64 (beNat (leBytes 4 (s.reg .FAB_LINK_NEIGH (2 * l)).toNat ++ leBytes 4 (s.reg .FAB_LINK_NEIGH (2 * l + 1)).toNat))

def setNeighbour (s : State) (l : Nat) (n : W64) : State :=
  let b := nodeBytes n
  (s.setReg .FAB_LINK_NEIGH (2 * l) (BitVec.ofNat 32 (leNat (b.take 4)))).setReg .FAB_LINK_NEIGH (2 * l + 1)
    (BitVec.ofNat 32 (leNat (b.drop 4)))

/-- Links with a pinned neighbour and a link version: broadcasts of this module go out on them (log 30). -/
def openLinks (s : State) : List Nat :=
  (List.range 34).filter fun l => fabLinkUp s l && s.f FAB_LINK_STATUS.VER l != 0 && (s.pin (neighbour s l)).isSome

def adjLinks (s : State) : List Nat := (List.range 34).filter fun l => adjacent s l

/-- Version of a link with a neighbour whose highest version is `v`: none below the policy floor, none that is common,
and never 3 on a twin link (R236). -/
def linkVersion (s : State) (l v : Nat) : Option Nat :=
  let c := if v ≥ 4 then 4 else v
  if c < 3 || c < polFabFloor s || (isTwinLink l && c < 4) then none else some c

/-! ### Sending -/

/-- A sealed message of this module handed to some links; nothing is sent without the fabric key. -/
def fabSend (s : State) (ls : List Nat) (cls : Nat) (lk : Bool) (dst type : Nat) (body : List Byte) : State :=
  match s.silo.fabKey with
  | none => s
  | some (id, k) =>
    let q := nextSeq s
    let m := fabSeal k (ownNode s) q.1 type id body
    ls.foldl (fun s l => (titheSend s l cls lk dst m).2) q.2

/-- Bodies of R226, fields in line order (log 31). -/
def lsaBody (x : Lsa) : List Byte :=
  nodeBytes x.node ++ beBytes 2 x.addr ++ beBytes 8 x.seq.toNat ++ (x.nbrs.map fun n => nodeBytes n.1 ++ beBytes 2 n.2).flatten

def addrBody (n : W64) (a : Nat) : List Byte := nodeBytes n ++ beBytes 2 a

/-- Cost of a link: 10,000 over its tithe rate in Mb/s, rounded up (R231). -/
def linkCost (s : State) (l : Nat) : Nat := if isTwinLink l then 1 else ceilDiv 1000000 (max 1 (titheCmbps s l))

/-- LSA of this module. -/
def ownLsa (s : State) : Lsa :=
  ⟨ownNode s, fabAddr s, s.fab.lsaSeq, (adjLinks s).map fun l => (neighbour s l, linkCost s l)⟩

/-- An LSA goes out on some links, and each adjacent one owes an acknowledgement. -/
def floodLsa (s : State) (x : Lsa) (ls : List Nat) : State :=
  let s := fabSend s ls clsManagement false 0xFFF fmLsa (lsaBody x)
  let due := (ls.filter fun l => adjacent s l).map fun l => (l, x.node, x.seq)
  let rest := s.fab.unacked.filter fun u => !(u.2.1 == x.node && ls.contains u.1)
  { s with fab := { s.fab with unacked := rest ++ due } }

/-- The module floods its own LSA. -/
def floodOwn (s : State) : State :=
  if fabEn s then
    let s := { s with fab := { s.fab with lsaSeq := s.fab.lsaSeq + 1 } }
    floodLsa s (ownLsa s) (openLinks s)
  else s

/-- Route of a unicast message: primary link, then alternate, as far as they are adjacent (R232). -/
def routeLinks (s : State) (a : Nat) : List Nat :=
  let p := s.f FAB_ROUTE.LINK a
  let q := s.f FAB_ROUTE.ALT_LINK a
  if a = 0 ∨ a = 0xFFF ∨ !routeGood s a then []
  else
    (if s.fb FAB_ROUTE.VALID a && adjacent s p then [p] else []) ++
      (if s.fb FAB_ROUTE.ALT_VALID a && adjacent s q then [q] else [])

/-- Address that the database shows for a node; 0 none. -/
def nodeAddr (s : State) (n : W64) : Nat := match s.fab.lsdb.find? fun x => x.node == n with | some x => x.addr | none => 0

/-- A unicast answer: to the neighbour on the link where it came from, or over the route to the node (R229: only a module
with an address originates unicast messages). -/
def fabReply (s : State) (l : Nat) (dest : W64) (cls type : Nat) (body : List Byte) : State :=
  if neighbour s l == dest then fabSend s [l] cls true 0xFFF type body
  else if fabAddr s = 0 then s
  else
    let a := nodeAddr s dest
    fabSend (meetEntry s (.route (BitVec.ofNat 12 a)) codeQueue) ((routeLinks s a).take 1) cls false a type body

/-! ### Routes (R232)

Management firmware computes the routes; the model writes them with the change that calls for them, within the 100 ms
(DESIGN CHOICE, log 91). -/

/-- A shorter distance to a node is noted. -/
def setDist (d : List (W64 × Nat)) (n : W64) (k : Nat) : List (W64 × Nat) :=
  match d.find? fun e => e.1 == n with
  | some e => if e.2 ≤ k then d else (d.filter fun e => e.1 != n) ++ [(n, k)]
  | none => d ++ [(n, k)]

/-- One round over the links that the database shows, none through this module. -/
def relax (db : List Lsa) (own : W64) (d : List (W64 × Nat)) : List (W64 × Nat) :=
  db.foldl (fun d x =>
    match d.find? fun e => e.1 == x.node with
    | none => d
    | some e => x.nbrs.foldl (fun d n => if n.1 == own then d else setDist d n.1 (e.2 + n.2)) d) d

/-- Distances of the nodes over a link of this module. -/
def distances (s : State) (l : Nat) : List (W64 × Nat) :=
  Nat.repeat (relax s.fab.lsdb (ownNode s)) (s.fab.lsdb.length + 1) [(neighbour s l, linkCost s l)]

/-- Of links and their costs the cheapest, of equal ones the lowest link. -/
def bestLink (o : List (Nat × Nat)) : Option Nat :=
  (o.foldl (fun (b : Option (Nat × Nat)) e =>
    match b with
    | some x => if e.2 < x.2 || (e.2 == x.2 && e.1 < x.1) then some e else b
    | none => some e) none).map (·.1)

/-- Route entry for a node: shortest path, and the shortest that shares no first hop with it. -/
def routeWord (s : State) (ds : List (Nat × List (W64 × Nat))) (n : W64) : Word :=
  let o := ds.filterMap fun d => (d.2.find? fun e => e.1 == n).map fun e => (d.1, e.2)
  match bestLink o with
  | none => 0
  | some p =>
    match bestLink (o.filter fun e => neighbour s e.1 != neighbour s p) with
    | none => BitVec.ofNat 32 (2 ^ 31 + p)
    | some q => BitVec.ofNat 32 (2 ^ 31 + 2 ^ 30 + q * 2 ^ 16 + p)

/-- Write a route entry; a change is told. The entry written is good (R408). -/
def setRoute (s : State) (a : Nat) (w : Word) : State :=
  let s := { s with lost := s.lost.filter (· != .route (BitVec.ofNat 12 a)) }
  if s.reg .FAB_ROUTE a = w then s else (s.setReg .FAB_ROUTE a w).raise FAB_EVT.ROUTE_CHANGE 0

/-- Node with an address; of two the lower one, since the other gives it up (R230). -/
def addrNode (s : State) (a : Nat) : Option W64 :=
  (s.fab.lsdb.filter fun x => x.addr == a).foldl (fun b x =>
    match b with
    | some n => if x.node.toNat < n.toNat then some x.node else b
    | none => some x.node) none

/-- Addresses that the database shows, and those of entries written before. -/
def routedAddrs (s : State) : List Nat :=
  ((s.fab.lsdb.map (·.addr)) ++ (s.regs.filter fun e => e.1 % Reg.count == Reg.FAB_ROUTE.ctorIdx).map fun e => e.1 / Reg.count)
    |>.eraseDups.filter fun a => a != 0 && a < 0xFFF

/-- The routes after a change of the database or of an adjacency. -/
def routeEval (s : State) : State :=
  if fabEn s then
    let ds := (adjLinks s).map fun l => (l, distances s l)
    (routedAddrs s).foldl (fun t a => setRoute t a (match addrNode s a with | some n => routeWord s ds n | none => 0)) s
  else s

/-! ### Addresses (R229, R230) -/

/-- This module has the lowest node ID among itself and the nodes of the database. -/
def isRegistrar (s : State) : Bool := fabEn s && s.fab.lsdb.all fun x => decide ((ownNode s).toNat ≤ x.node.toNat)

/-- Nodes other than `n` that show an address. -/
def addrTaken (s : State) (n : W64) (a : Nat) : Bool :=
  (s.fab.lsdb.any fun x => x.addr == a && x.node != n) || (n != ownNode s && fabAddr s == a)

/-- Address that the registrar grants. -/
def grantAddr (s : State) (n : W64) (pref : Nat) : Option Nat :=
  if pref ≠ 0 ∧ pref < 0xFFF ∧ !addrTaken s n pref then some pref
  else ((List.range 0xFFE).map (· + 1)).find? fun a => !addrTaken s n a

def takeAddr (s : State) (a : Nat) : State :=
  let s := (s.setF FAB_STATUS.ADDR 0 a).setF FAB_STATUS.STATE 0 2
  { s with fab := { s.fab with lastAddr := a } }

/-- Preferred address of this module. -/
def ownPref (s : State) : Nat := if s.f FAB_CFG.ADDR_PREF 0 ≠ 0 then s.f FAB_CFG.ADDR_PREF 0 else s.fab.lastAddr

/-- A module without an address asks for one; a registrar grants itself one. -/
def requestAddr (s : State) : State :=
  if !fabEn s || fabAddr s != 0 then s
  else if isRegistrar s then
    match grantAddr s (ownNode s) (ownPref s) with
    | some a => takeAddr s a
    | none => s
  else fabSend s (openLinks s) clsManagement false 0xFFF fmAddrReq (addrBody (ownNode s) (ownPref s))

/-! ### Adjacency (R228) -/

/-- A link becomes adjacent when all of R228's conditions hold. -/
def adjEval (s : State) (l : Nat) : State :=
  if !adjacent s l && fabLinkUp s l && s.f FAB_LINK_STATUS.VER l != 0 && (s.pin (neighbour s l)).isSome &&
      s.fab.authed.contains l then
    let s := (s.setF FAB_LINK_STATUS.ADJ l 1).raise FAB_EVT.NEIGH_UP 0
    floodOwn (routeEval { s with fab := { s.fab with lastAdj := SMap.set (fun _ => 0) s.fab.lastAdj l (neighbour s l) } })
  else s

/-- A link stops being adjacent, and its neighbour is forgotten. -/
def neighLost (s : State) (l : Nat) : State :=
  let was := adjacent s l
  let s := { s with fab := { s.fab with authed := s.fab.authed.filter (· != l), unacked := s.fab.unacked.filter fun u => u.1 != l } }
  let s := setNeighbour (s.setReg .FAB_LINK_STATUS l 0) l 0
  if was then floodOwn (routeEval (s.raise FAB_EVT.NEIGH_LOST 0)) else s

/-- Body of an NHELLO (R227). -/
def nhelloBody (node : W64) (addr ver num : Nat) : List Byte :=
  nodeBytes node ++ beBytes 2 addr ++ [BitVec.ofNat 8 ver, BitVec.ofNat 8 num]

/-- A received NHELLO. One that names a reserved node is malformed (R204). -/
def nhelloRx (s : State) (l : Nat) (node : W64) (addr ver : Nat) : State :=
  if !fabEn s || !fabLinkUp s l then s
  else if reservedNode node then s.inc .FAB_RX_DROP_FMT l
  else if (s.pin node).isNone then
    let s := s.setF FAB_LINK_STATUS.UNPINNED l 1
    let last := SMap.get (fun _ => 0) s.fab.lastAdj l
    let s := if adjacent s l then s else (setNeighbour (s.setF FAB_LINK_STATUS.VER l 0) l node).setF FAB_LINK_STATUS.NEIGH_ADDR l addr
    if !isTwinLink l && last != 0 && last != node then markChanged s last else s
  else
    let s := s.setF FAB_LINK_STATUS.UNPINNED l 0
    if adjacent s l && neighbour s l != node then s
    else
      let s := if neighbour s l == node then s else { s with fab := { s.fab with authed := s.fab.authed.filter (· != l) } }
      let s := (setNeighbour s l node).setF FAB_LINK_STATUS.NEIGH_ADDR l addr
      match linkVersion s l ver with
      | some v => adjEval (s.setF FAB_LINK_STATUS.VER l v) l
      | none => (s.setF FAB_LINK_STATUS.VER l 0).raise FAB_EVT.VER_REFUSED 0

/-! ### Receiving (R226) -/

/-- Highest SEQ accepted from an originator in a class. -/
def highSeq (s : State) (o : W64) (cls : Nat) : Option W64 :=
  (s.fab.seqs.find? fun e => e.1 == o && e.2.1 == cls).map (·.2.2)

/-- Remember a SEQ. Of more than 4,096 originators the one not heard for longest leaves. -/
def noteSeq (s : State) (o : W64) (cls : Nat) (q : W64) : State :=
  let rest := s.fab.seqs.filter fun e => !(e.1 == o && e.2.1 == cls)
  let others := (rest.map (·.1)).eraseDups
  let rest := if !others.contains o && others.length ≥ 4096 then rest.filter fun e => some e.1 != others.head? else rest
  { s with fab := { s.fab with seqs := rest ++ [(o, cls, q)] } }

def inboxAdd (s : State) (m : FabMsg) : State := { s with fab := { s.fab with inbox := s.fab.inbox ++ [m] } }

/-- A management engine takes the oldest message of a type that came over a link; none where no such message has passed
R226. -/
def inboxTake (s : State) (l type : Nat) (p : FabMsg → Bool) : Option (FabMsg × State) :=
  (s.fab.inbox.find? fun m => m.link == l && m.type == type && p m).map fun m =>
    (m, { s with fab := { s.fab with inbox := s.fab.inbox.erase m } })

/-- A broadcast message goes on over the other adjacent links, once and as it came (R232). -/
def rebroadcast (s : State) (m : FabMsg) : State :=
  if fabEn s then ((adjLinks s).filter (· != m.link)).foldl (fun s o => titheResend s o m.msg) s else s

/-- A message of a class other than key that a link's receive queue served reaches the Silo (R226). -/
def fabricRx (s : State) (l : Nat) (x : TMsg) : State :=
  let m := x.bytes
  let orig := nodeOf (sliceAt m 0 8)
  let seq := BitVec.ofNat 64 (beAt m 8 8)
  let type := beAt m 16 2
  if type = fmNhello then inboxAdd s ⟨l, x.cls, orig, seq, type, m.drop 20, x⟩
  else
    let fresh := match highSeq s orig x.cls with | some h => decide (h.toNat < seq.toNat) | none => true
    match fabOpen s m with
    | some body =>
      if orig == ownNode s || !fresh then s.inc .FAB_RX_DROP_TAG l
      else
        let s := noteSeq s orig x.cls seq
        let s := if neighbour s l == orig then
            adjEval { s with fab := { s.fab with authed := if s.fab.authed.contains l then s.fab.authed else s.fab.authed ++ [l] } } l
          else s
        inboxAdd s ⟨l, x.cls, orig, seq, type, body, x⟩
    | none => s.inc .FAB_RX_DROP_TAG l

/-! ### Link-state database (R230, R231) -/

/-- The node with the higher node ID gives up an address that two nodes show. -/
def conflictEval (s : State) : State :=
  let a := fabAddr s
  if a ≠ 0 ∧ s.fab.lsdb.any (fun x => x.addr == a && decide (x.node.toNat < (ownNode s).toNat)) then
    requestAddr (((s.setF FAB_STATUS.ADDR 0 0).setF FAB_STATUS.STATE 0 3).raise FAB_EVT.ADDR_CONFLICT 0)
  else s

/-- An accepted LSA: acknowledged; a new one replaces the node's and is resent on the other adjacent links. -/
def lsaRx (s : State) (l : Nat) (x : Lsa) : State :=
  if !fabEn s then s
  else
    let s := fabSend s [l] clsManagement true 0xFFF fmLsaAck (nodeBytes x.node ++ beBytes 8 x.seq.toNat)
    let known := match s.fab.lsdb.find? fun y => y.node == x.node with
      | some y => decide (x.seq.toNat ≤ y.seq.toNat)
      | none => false
    if x.node == ownNode s || known then s
    else
      let s := routeEval { s with fab := { s.fab with lsdb := (s.fab.lsdb.filter fun y => y.node != x.node) ++ [x] } }
      conflictEval (floodLsa s x ((adjLinks s).filter (· != l)))

/-! ### Kills (R233–R235) -/

/-- The 40-byte body of a KILL. -/
def killBody (target : W64) (tch och : Nat) (seq : W64) : List Byte :=
  let b := nodeBytes target ++ beBytes 2 tch ++ beBytes 2 och ++ zeros 4 ++ beBytes 8 seq.toNat
  b ++ (Crypto.sha384 b).take 16

/-- Links on which a KILL to an address leaves: primary and alternate route and, in a twin, a link to the partner, which
forwards it (R234). -/
def killLinks (s : State) (a : Nat) : List Nat :=
  if fabAddr s = 0 || a = 0 then []
  else
    let viaPartner := if s.fb TWN_STATUS.ASSOC 0 then ([32, 33].filter (fabLinkUp s)).take 1 else []
    (routeLinks s a ++ viaPartner).eraseDups

/-- A KILL goes out on every available path. -/
def killSend (s : State) (c : Nat) (k : KillReq) : State :=
  let body := killBody k.target k.targetCh c k.seq
  let s := if k.line ≥ 32 && linkUp s k.line then fabSend s [k.line - 32] clsKill true 0xFFF fmKill body else s
  let a := nodeAddr s k.target
  (killLinks s a).foldl (fun s l => fabSend s [l] clsKill false a fmKill body)
    (meetEntry s (.route (BitVec.ofNat 12 a)) codeQueue)

/-- Kill sequence of a new request: the real-time clock, forced above the last, so that it rises over resets as well
(R233; DESIGN CHOICE, log 92). -/
def nextKill (s : State) : W64 := BitVec.ofNat 64 (max s.rtc.toNat (s.fab.killSeq.toNat + 1))

/-- The channel stops as a drain that ends at once (R235). -/
def stopNow (s : State) (c : Nat) : State := endDrain s c

/-- A FAB_CTL write (R233, R253). -/
def fabCtl (s : State) (m : Master) (v : Nat) : State :=
  if !bitAt v 31 then s
  else
    let c := bitsOf v 0 14
    let lp := chLine s c
    let causes :=
      cause (chState s c == stDisabled || (s.key c).root.isNone) 0x62 ++
      cause (s.fab.kills.any fun e => e.1 == c) 0x63 ++
      cause (!(lp ≥ 32 && linkUp s lp) && routeLinks s (nodeAddr s (peerNode s c)) == []) 0x64 ++
      cause s.silo.fabKey.isNone 0x65 ++ cause (!fabEn s) 0x66
    checked s .FAB_CHECK m (s.f FAB_LINK_SEL.LINK (masterIdx m)) causes fun s =>
      let seq := nextKill s
      let k : KillReq := ⟨seq, peerNode s c, ctx s Ctx.PEER_CH c, lp⟩
      let s := { s with fab := { s.fab with killSeq := seq,
                                            kills := SMap.set (fun _ => ⟨0, 0, 0, 0⟩) s.fab.kills c k } }
      stopNow (killSend s c k) c

def killPending (s : State) (c : Nat) : Option KillReq := (s.fab.kills.find? fun e => e.1 == c).map (·.2)

def dropKill (s : State) (c : Nat) : State := { s with fab := { s.fab with kills := SMap.erase s.fab.kills c } }

/-- A channel's PEER_NODE is the originator of a KILL, or the partner that the originator's pin names (R209, R235). -/
def killFrom (s : State) (peer orig : W64) : Bool :=
  peer == orig || (peer != 0 && (s.pin orig).any fun p => p.partner == peer)

/-- An accepted KILL. -/
def killRx (s : State) (l : Nat) (orig : W64) (body : List Byte) : State :=
  let c := beAt body 8 2
  let seq := BitVec.ofNat 64 (beAt body 16 8)
  let formed := body.length == 40 && body.drop 24 == (Crypto.sha384 (body.take 24)).take 16 && c < 16384 &&
    nodeOf (sliceAt body 0 8) == ownNode s
  let done := match s.fab.acted.find? fun e => e.1 == orig with
    | some e => decide (seq.toNat ≤ e.2.toNat)
    | none => false
  let ack := fun (s : State) (r : Nat) =>
    fabReply s l orig clsKill fmKillAck (beBytes 8 seq.toNat ++ [BitVec.ofNat 8 r])
  if !formed then ack s 2
  else if done || chState s c == stDisabled then ack s 1
  else if killFrom s (peerNode s c) orig && ctx s Ctx.PEER_CH c == beAt body 10 2 then
    let s := { s with fab := { s.fab with acted := (s.fab.acted.filter fun e => e.1 != orig) ++ [(orig, seq)] } }
    ack ((stopNow s c).raise FAB_EVT.KILL_RX 0) 0
  else ack s 2

/-- An accepted KILL_ACK ends the repetition. -/
def killAckRx (s : State) (orig seq : W64) : State :=
  match s.fab.kills.find? fun e => e.2.seq == seq && isPeer s e.2.target orig with
  | some e => (dropKill s e.1).raise FAB_EVT.KILL_ACKED 0
  | none => s

/-! ### Alarms (R226, R248) -/

def alarmBody (code : Nat) (subject : W64) (ch : Nat) : List Byte := beBytes 2 code ++ nodeBytes subject ++ beBytes 2 ch

/-- The module originates at most 32 ALARM messages per second. -/
def alarmSend (s : State) (code : Nat) (subject : W64) (ch : Nat) : State :=
  let recent := s.fab.alarms.filter fun t => decide (s.rtc.toNat < t.toNat + 1000000)
  if recent.length ≥ 32 || !fabEn s then s
  else
    fabSend { s with fab := { s.fab with alarms := recent ++ [s.rtc] } } (openLinks s) clsAlarm false 0xFFF fmAlarm
      (alarmBody code subject ch)

/-! ### The commands -/

/-- FABRIC_MESSAGE_RX: the message is the one that the link's receive queue serves next. A key-class message of a line
port goes to the Silo as HELLO, OFFER, ACCEPT or CONFIRM; on a twin link no channel takes one, and it is dropped. -/
def execFabricMessageRx (l : Fin 34) (cls : BitVec 3) (lk : Bool) (msg : List Byte) (s : State) :
    Host.Outcome State Fault Refusal :=
  .next (if cls.toNat = 2 && !isTwinLink l then s
    else
      match takeMsg s l fun x => x.cls == cls.toNat && x.lk == lk && x.bytes == msg with
      | some (x, s) => if cls.toNat = 2 then s.inc .FAB_RX_DROP_TAG l else fabricRx s l x
      | none => s)

/-- A management engine takes the message that a command names and acts on it; without such a message nothing happens. -/
def onMessage (s : State) (l type : Nat) (p : FabMsg → Bool) (act : FabMsg → State → State) : State :=
  match inboxTake s l type p with
  | some (m, s) => act m s
  | none => s

/-- NHELLO. -/
def execNhello (l : Fin 34) (node : W64) (addr : BitVec 12) (ver : BitVec 4) (num : BitVec 8) (s : State) :
    Host.Outcome State Fault Refusal :=
  .next (onMessage s l fmNhello (fun m => m.body == nhelloBody node addr.toNat ver.toNat num.toNat) fun _ s =>
    nhelloRx s l node addr.toNat ver.toNat)

def execLsa (l : Fin 34) (node : W64) (addr : BitVec 12) (seq : W64) (nbrs : List (W64 × Nat)) (s : State) :
    Host.Outcome State Fault Refusal :=
  let x : Lsa := ⟨node, addr.toNat, seq, nbrs⟩
  .next (onMessage s l fmLsa (fun m => m.body == lsaBody x) fun _ s => lsaRx s l x)

/-- LSA_ACK. -/
def execLsaAck (l : Fin 34) (node : W64) (seq : W64) (s : State) : Host.Outcome State Fault Refusal :=
  .next (onMessage s l fmLsaAck (fun m => m.body == nodeBytes node ++ beBytes 8 seq.toNat) fun _ s =>
    { s with fab := { s.fab with unacked := s.fab.unacked.filter fun u =>
      !(u.1 == l.val && u.2.1 == node && decide (u.2.2.toNat ≤ seq.toNat)) } })

/-- ADDR_REQ: resent, and answered by the registrar. -/
def execAddrReq (l : Fin 34) (node : W64) (pref : BitVec 12) (s : State) : Host.Outcome State Fault Refusal :=
  .next (onMessage s l fmAddrReq (fun m => m.body == addrBody node pref.toNat) fun m s =>
    let s := rebroadcast s m
    if !isRegistrar s then s
    else
      match grantAddr s node pref.toNat with
      | some a => fabSend s (openLinks s) clsManagement false 0xFFF fmAddrGrant (addrBody node a)
      | none => s)

/-- ADDR_GRANT: resent; the named module takes the address. -/
def execAddrGrant (l : Fin 34) (node : W64) (addr : BitVec 12) (s : State) : Host.Outcome State Fault Refusal :=
  .next (onMessage s l fmAddrGrant (fun m => m.body == addrBody node addr.toNat) fun m s =>
    let s := rebroadcast s m
    if fabEn s && node == ownNode s && addr.toNat != 0 then takeAddr s addr.toNat else s)

def execKill (l : Fin 34) (orig : W64) (body : List Byte) (s : State) : Host.Outcome State Fault Refusal :=
  .next (onMessage s l fmKill (fun m => m.orig == orig && m.body == body) fun _ s => killRx s l orig body)

def execKillAck (l : Fin 34) (orig : W64) (seq : W64) (result : BitVec 8) (s : State) : Host.Outcome State Fault Refusal :=
  .next (onMessage s l fmKillAck (fun m => m.orig == orig && m.body == beBytes 8 seq.toNat ++ [BitVec.ofNat 8 result.toNat])
    fun _ s => killAckRx s orig seq)

/-- ALARM: management firmware takes the message, and resends it once. -/
def execAlarm (l : Fin 34) (orig : W64) (seq : W64) (code : BitVec 16) (subject : W64) (ch : BitVec 14) (s : State) :
    Host.Outcome State Fault Refusal :=
  .next (onMessage s l fmAlarm
    (fun m => m.orig == orig && m.seq == seq && m.body == alarmBody code.toNat subject ch.toNat) fun m s => rebroadcast s m)

/-- NHELLO_TIMER: an NHELLO in clear on every up link; its tithe header carries version 3 (R227). -/
def execNhelloTimer (s : State) : Host.Outcome State Fault Refusal :=
  .next (if fabEn s then
    ((List.range 34).filter (fabLinkUp s)).foldl (fun s l =>
      let q := nextSeq s
      let m := fabHeader (ownNode s) q.1 fmNhello 0 ++ nhelloBody (ownNode s) (fabAddr s) 4 l
      (titheQueue { q.2 with msgId := q.2.msgId + 1 } l 3 clsManagement true 15 0xFFF (fabAddr s) q.2.msgId m).2) s
  else s)

/-- NEIGHBOUR_TIMEOUT. -/
def execNeighbourTimeout (l : Fin 34) (s : State) : Host.Outcome State Fault Refusal := .next (neighLost s l)

def execAddrReqTimer (s : State) : Host.Outcome State Fault Refusal := .next (requestAddr s)

def execLsaRefresh (s : State) : Host.Outcome State Fault Refusal := .next (floodOwn s)

/-- LSA_RETRANSMIT: an LSA that the neighbour has not acknowledged is resent. -/
def execLsaRetransmit (l : Fin 34) (node : W64) (s : State) : Host.Outcome State Fault Refusal :=
  .next (if s.fab.unacked.any fun u => u.1 == l.val && u.2.1 == node then
    (if node == ownNode s then fabSend s [l] clsManagement false 0xFFF fmLsa (lsaBody (ownLsa s))
     else match s.fab.lsdb.find? fun x => x.node == node with
       | some x => fabSend s [l] clsManagement false 0xFFF fmLsa (lsaBody x)
       | none => s)
  else s)

/-- LSA_EXPIRY: 120 s without an LSA of a node. -/
def execLsaExpiry (node : W64) (s : State) : Host.Outcome State Fault Refusal :=
  .next (routeEval { s with fab := { s.fab with lsdb := s.fab.lsdb.filter fun x => x.node != node,
                                                unacked := s.fab.unacked.filter fun u => u.2.1 != node } })

/-- FABRIC_KEY_PREV_EXPIRY. -/
def execFabricKeyPrevExpiry (s : State) : Host.Outcome State Fault Refusal :=
  .next (granaryPut s { s.silo with prevKey := none })

/-- A route entry is written by a management engine; entries 0 and 4,095 are ignored, and other masters only read. -/
def fabRouteWrite (s : State) (m : Master) (a : Nat) (v : Word) : State :=
  let w := maskedWrite .FAB_ROUTE v
  if (m == .me0 || m == .me1) && a != 0 && a != 4095 then
    setRoute s a w
  else s

def execFabRouteWrite (m : Master) (a : BitVec 12) (v : Word) (s : State) : Host.Outcome State Fault Refusal :=
  .next (whenUp s .FAB fun s => fabRouteWrite s m a.toNat v)

/-- FAB_CFG: joining leaves the module unaddressed until it is granted an address; leaving gives the address up. -/
def fabCfgWrite (s : State) (m : Master) (v : Word) : State :=
  let en := bitAt v.toNat 31
  checked s .FAB_CHECK m (s.f FAB_LINK_SEL.LINK (masterIdx m))
      (cause (v.toNat % 4096 == 0xFFF) 0x61 ++ cause (en && s.silo.fabKey.isNone) 0x65) fun s =>
    let was := fabEn s
    let s := s.setReg .FAB_CFG 0 (maskedWrite .FAB_CFG v)
    if en && !was then s.setF FAB_STATUS.STATE 0 (if fabAddr s = 0 then 1 else 2)
    else if was && !en then (s.setF FAB_STATUS.STATE 0 0).setF FAB_STATUS.ADDR 0 0
    else s

def execFabCfgWrite (m : Master) (v : Word) (s : State) : Host.Outcome State Fault Refusal :=
  .next (whenUp s .FAB fun s => fabCfgWrite s m v)

def execFabKill (m : Master) (v : Word) (s : State) : Host.Outcome State Fault Refusal :=
  .next (whenUp s .FAB fun s => fabCtl s m v.toNat)

/-- KILL_REPEAT. -/
def execKillRepeat (c : Fin 16384) (s : State) : Host.Outcome State Fault Refusal :=
  .next (match killPending s c with | some k => killSend s c k | none => s)

/-- KILL_TIMEOUT. -/
def execKillTimeout (c : Fin 16384) (s : State) : Host.Outcome State Fault Refusal :=
  .next (match killPending s c with | some _ => (dropKill s c).raise FAB_EVT.KILL_FAILED 0 | none => s)

end Sys2Proof.Machine
end

