-- ==== Sys2Proof/Machine/Twin.lean ====
section
/-! DEFINITION. The twin pair: association, roles, the mirror, takeover and split (R237–R248, R251–R253). -/

namespace Sys2Proof.Machine

def roleNone : Nat := 0
def roleActive : Nat := 1
def roleShadow : Nat := 2
def roleSolo : Nat := 3
def roleAssociating : Nat := 4

def twinRole (s : State) : Nat := s.f TWN_STATUS.ROLE 0

/-- Causes of TWN_LAST_FO. -/
def foHandover : Nat := 1
def foRelinquish : Nat := 2
def foSplit : Nat := 3
def foCommand : Nat := 4
def foDeadInput : Nat := 5
def foAssociation : Nat := 6

/-- The member leads: ACTIVE or SOLO. -/
def leads (s : State) : Bool := twinRole s == roleActive || twinRole s == roleSolo

def twinLinkUp (s : State) : Bool := s.fb TWN_STATUS.LINK0 0 || s.fb TWN_STATUS.LINK1 0

/-! ### Role changes (R239, R248, R481) -/

/-- A mode is entered; a transition that was running is over (R483). -/
def setMode (s : State) (m : Nat) : State := (s.setReg .GLB_MODE 0 (BitVec.ofNat 32 m)).raise GLB_EVT.MODE 0

/-- A role change: counted, recorded with its cause, told on the fabric. SYNC belongs to the role that ends. -/
def noteRole (s : State) (role cause : Nat) : State :=
  let s := { s with twin := { s.twin with fullDone := false, peerSync := false, foAt := none } }
  let s := ((s.setF TWN_STATUS.ROLE 0 role).setF TWN_STATUS.SYNC 0 0).inc .TWN_ROLE_CHANGES 0
  let s := s.setReg .TWN_LAST_FO 0 (BitVec.ofNat 32 (cause * 2 ^ 28))
  alarmSend s Config.roleAlarm (ownNode s) 0

/-- The member becomes ACTIVE or SOLO; from TWIN-SHADOW the mode becomes OPERATIONAL. -/
def lead (s : State) (role cause : Nat) : State :=
  let was := leads s
  let s := noteRole s role cause
  let s := if was then s else s.raise TWN_EVT.TAKEOVER 0
  if s.mode = modeShadow then setMode s modeOperational else s

/-- Units that a channel still holds in its queues are discarded and counted; its context and root stay as the mirror. -/
def quiesce (s : State) (c : Nat) : State :=
  let n := queuedFrames s c
  let s := if n = 0 then s else chCount s c cOutDropDrain n
  let s := s.setChan c { Chan.reset with iq := (s.chan c).iq, inDeficit := (s.chan c).inDeficit }
  flowEval s (chClient s c)

/-- An install that awaits the SHADOW's acknowledgement is complete: VALID is set, and what waited for it follows (R195,
R241). -/
def installAcked (s : State) (c : Nat) : State :=
  let s := setEgValid (s.setKey c { s.key c with waitAck := false }) c (egNext s c) true codeSilo
  match (s.key c).waitReady, (s.key c).root with
  | true, some r => keyReady s c r
  | true, none => s
  | false, _ => if ctxBit s Ctx.IMPORT c then importInstalled s c else s

/-- Mirror gating ends: a member that leads alone completes the installs that awaited an acknowledgement (R239, R246). -/
def ungate (s : State) : State :=
  let s := { s with twin := { s.twin with resDue := [] } }
  ((s.keys.filter fun e => e.2.waitAck).map (·.1)).foldl installAcked s

/-- A channel whose KEY handshake does not go on: it is DISABLED, with ABANDONED (R197). -/
def abandonKeying (s : State) (c : Nat) : State := if chState s c = stKeying then hsFail s c hsAbandoned false else s

/-- What a member holds of its SHADOW, once it is or stays one itself. -/
def dropPartner (s : State) : State :=
  { s with
    keys := SMap.mapV (fun _ => ChanKey.reset) (fun _ k => { k with waitAck := false, waitReady := false }) s.keys
    twin := { s.twin with fullDone := false, peerSync := false, foAt := none, resDue := [], forced := [], ports := [] } }

/-- The member becomes SHADOW, or stays so with no role change; in STANDBY and OPERATIONAL the mode becomes TWIN-SHADOW (R481). -/
def becomeShadow (s : State) (cause : Nat) : State :=
  let was := leads s
  let s := if twinRole s = roleShadow then s.setF TWN_STATUS.SYNC 0 0 else noteRole s roleShadow cause
  let s := abandonAll (if was then s.raise TWN_EVT.DEMOTED 0 else s)
  let s := dropPartner ((busyChannels s).foldl abandonKeying s)
  if s.mode = modeStandby ∨ s.mode = modeOperational then setMode s modeShadow else s

/-- RELINQUISH on both twin links, then SHADOW (R243). -/
def relinquish (s : State) (cause : Nat) : State :=
  if twinRole s = roleActive then
    let s := twinSendOn (twinSendOn s 0 twinRelinquish []) 1 twinRelinquish []
    becomeShadow ((busyChannels s).foldl quiesce s) cause
  else s

/-! ### Mirror (R240) -/

/-- Record of a root. -/
def rootRec (c : Nat) (r : Root) : MirrorRec :=
  .root (chFin c) r.key r.life r.made r.initiator r.firstTx r.firstRx r.suite r.baleV r.peer r.peerCh

/-- Record of the imported SAK that stands in the egress next slot. -/
def sakRec (s : State) (c : Nat) : MirrorRec :=
  let k := egNext s c
  .sak (chFin c) (ctxBytes s (egKey k) c) (ctxBytes s (egAux k) c) (BitVec.ofNat 2 (ctx s (egEpoch k) c))

/-- Records of a channel in the full mirror: state and context, its roots, and an install and a reservation that are not
acknowledged yet. -/
def fullRecs (s : State) (c : Nat) : List MirrorRec :=
  let k := s.key c
  [.full (chFin c) (BitVec.ofNat 3 (chState s c)) (ramBytes s ctxCtl (1024 * slotOf s c) 1024)] ++
    k.old.toList.map (rootRec c) ++ k.root.toList.map (rootRec c) ++
    (if k.waitAck && ctxBit s Ctx.IMPORT c then [sakRec s c] else []) ++
    (if k.waitAck then [.install (chFin c) .egress (BitVec.ofNat 32 (ctx s (egEpoch (egNext s c)) c))] else []) ++
    ((s.twin.resDue.filter fun e => e.1 == c).map fun e => .reservation (chFin c) e.2)

/-- The full mirror: the provisioned ports, then each channel. -/
def fullMirror (s : State) : State :=
  let ports := ((List.range 64).filter (provisioned s)).map (portRec s)
  (ports ++ ((ctxChannels s).map (fullRecs s)).flatten).foldl sendRec s

/-- High-water marks of a channel. -/
def marksOf (s : State) (c : Nat) : Marks :=
  ⟨chFin c, BitVec.ofNat 64 (ctx s Ctx.NEXT_SEQ c), [0, 1, 2].map fun k => BitVec.ofNat 64 (ctx s (inHigh k) c),
    BitVec.ofNat 64 (ctx s Ctx.OTN_GROUP c), (List.range 16).map fun i => BitVec.ofNat 64 (ctx s (chCounter i) c)⟩

/-- SYNC of the ACTIVE: the full mirror is complete, and the SHADOW has told that its ports match (R240, R253). -/
def activeSync (s : State) : State :=
  let on := s.twin.fullDone && s.twin.peerSync
  if on && !s.fb TWN_STATUS.SYNC 0 then (s.setF TWN_STATUS.SYNC 0 1).raise TWN_EVT.SYNC_DONE 0
  else if !on then s.setF TWN_STATUS.SYNC 0 0
  else s

/-! ### Roles at an association (R237–R239) -/

/-- The member carries traffic as an association starts. -/
def carries (s : State) : Bool := leads s || (!shadows s && (busyChannels s).any fun c => chLive s c)

/-- The member leads after an association: alone in carrying traffic, or with the lower node ID. -/
def staysActive (s : State) (partnerActive : Bool) : Bool :=
  if carries s != partnerActive then carries s else twinLower s

/-- An association is complete on link `k`: new link keys and sequences, then the roles at the first one. A repeated one
leaves the roles, and the ACTIVE mirrors in full again (log 34). -/
def associated (s : State) (k : Nat) (partner : W64) (root : List Byte) (suite : Nat) (partnerActive : Bool) : State :=
  let b := nodeBytes partner
  let s := (s.setReg .TWN_PARTNER 0 (BitVec.ofNat 32 (leNat (b.take 4)))).setReg .TWN_PARTNER 1
    (BitVec.ofNat 32 (leNat (b.drop 4)))
  let first := !s.fb TWN_STATUS.ASSOC 0
  let s := { s with twin := { s.twin with
    root := root, suite := suite, seqTx := 1, seqRx := [0, 0], sess := none, lost := false, split := false } }
  let s := eraseZ s (· == .twin)
  let s := ((s.setF TWN_STATUS.ASSOC 0 1).setF (twinLinkField k) 0 1).setF TWN_STATUS.ASSOC_REASON 0 0
  if !first then (if twinRole s = roleActive then fullMirror s else s)
  else if staysActive s partnerActive then
    let s := if twinRole s = roleActive then s else lead s roleActive foAssociation
    let s := { s with twin := { s.twin with fullDone := false, peerSync := false } }
    (busyChannels s).foldl reserveEval (fullMirror (s.setF TWN_STATUS.SYNC 0 0))
  else becomeShadow (if carries s then (busyChannels s).foldl stopNow s else s) foAssociation

/-! ### Takeover (R244, R245, R247) -/

/-- Slot of the egress half that holds a complete key of an epoch. -/
def slotOfEpoch (s : State) (c e : Nat) : Option Nat := [0, 1].find? fun k => egValid s c k && ctx s (egEpoch k) c == e

/-- The egress half resumes in the epoch of slot `k`; the other slot holds no epoch that may be used after it. -/
def resumeSlot (s : State) (c k : Nat) : State :=
  let s := ctxD s Ctx.CUR c k
  let s := zeroEgSlot (setEgValid s c (1 - k) false codeSilo) c (1 - k)
  let s := ctxD (ctxD s Ctx.EPOCH_BLOCKS c 0) Ctx.EPOCH_START c s.rtc.toNat
  s.setChan c { s.chan c with retiring := false, epochBlk := ctx s Ctx.EPOCH_BLK c, epochTime := ctx s Ctx.EPOCH_TIME c }

/-- Steps 1 and 2 of R244, and the mark for step 4, on a channel whose ports match. -/
def resume (s : State) (c : Nat) : State :=
  let otn := chFraming s c = frOtn
  let r := ctx s Ctx.RES_END c
  let e := if otn then ctx s (egEpoch (egCur s c)) c else r / 2 ^ 32
  let t := match slotOfEpoch s c (e + 1), slotOfEpoch s c e with
    | some k, _ => (resumeSlot s c k, 2 ^ 24 + 1)
    | none, some k => (resumeSlot s c k, r % 2 ^ 32 * 2 ^ 24 + 1)
    | none, none => (s, r % 2 ^ 32 * 2 ^ 24 + 1)
  let s := if otn then ctxD t.1 Ctx.OTN_GROUP c r else ctxD t.1 Ctx.NEXT_SEQ c t.2
  let s := [0, 1, 2].foldl (fun s k =>
    ctxD s (inHigh k) c (ctx s (inHigh k) c + (if otn then 16 else 2 ^ 18))) s
  releaseOld { s with twin := { s.twin with forced := s.twin.forced ++ [c] } } c

/-- A channel whose ports do not match is not resumed: it is zeroised and DISABLED. -/
def mismatch (s : State) (c : Nat) : State :=
  ((finishChannel s c).raise TWN_EVT.PORT_MISMATCH 0).raise CH_EVT.DRAINED c

/-- Re-roots whose instant passed while the member was SHADOW start at once (R145). -/
def lateReroots (s : State) : State :=
  (busyChannels s).foldl (fun s c => if (s.key c).root.any (rerootLate s) then rerootStart s c else s) s

/-- Channels that a takeover does not go on with: KEYING ones are abandoned, and those whose ports do not match end
(R197, R245). -/
def takeoverLeft (s : State) : State :=
  (busyChannels s).foldl (fun s c => if chState s c = stKeying then abandonKeying s c
    else if portsMatch s c then s else mismatch s c) s

/-- Takeover by mirror; as ACTIVE the member mirrors in full. Every channel is resumed inside the command. -/
def mirrorTakeover (s : State) (role cause : Nat) : State :=
  let s := takeoverLeft s
  let s := (busyChannels s).foldl (fun s c => if chLive s c then resume s c else s) s
  let s := lead s role cause
  let s := takeoverTime { s with twin := { s.twin with foAt := some s.rtc } }
  let s := if role = roleActive then fullMirror s else s
  lateReroots ((busyChannels s).foldl reserveEval s)

/-- Takeover by re-root: no channel sends before its re-root, which starts at once where one may (R200, R247). -/
def rerootTakeover (s : State) (cause : Nat) : State :=
  let s := lead (takeoverLeft s) roleSolo cause
  let s := { s with twin := { s.twin with foAt := some s.rtc } }
  takeoverTime ((busyChannels s).foldl (fun s c =>
    let s := setEgValid (setEgValid s c 0 false codeSilo) c 1 false codeSilo
    let s := s.setKey c { s.key c with waitReroot := true }
    rerootStart s c) s)

/-- The partner-dead input is in its active state: a SHADOW with the higher node ID takes over by re-root after a split; one
with the lower stays SHADOW (R246, R247). -/
def deadEval (s : State) : State :=
  if s.fb TWN_CFG.EN 0 && s.fb TWN_CFG.DEAD_IN_EN 0 && inputActive s (s.f TWN_CFG.DEAD_GPIO 0) &&
      twinRole s == roleShadow && s.twin.split && !twinLinkUp s && !twinLower s then rerootTakeover s foDeadInput
  else s

/-! ### Links and split (R242, R246) -/

/-- A twin link is lost. -/
def twinLinkLost (s : State) (k : Nat) : State :=
  if s.fb (twinLinkField k) 0 then
    let s := (s.setF (twinLinkField k) 0 0).raise TWN_EVT.LINK_LOST 0
    let s := neighLost s (32 + k)
    if twinLinkUp s then s else { s with twin := { s.twin with lost := true } }
  else s

/-- Mirroring has stopped without a role change. -/
def syncLost (s : State) : State :=
  if s.fb TWN_STATUS.SYNC 0 then (s.setF TWN_STATUS.SYNC 0 0).raise TWN_EVT.SYNC_LOST 0 else s

/-- Both links stayed lost for a further 4 ms: each member decides by node ID (R246), and a SHADOW that waits looks at the
partner-dead input (R247). -/
def splitDecide (s : State) : State :=
  if !s.twin.lost || twinLinkUp s || !s.fb TWN_CFG.EN 0 then s
  else
    let s := { s with twin := { s.twin with lost := false, split := true } }
    let s := (s.raise TWN_EVT.SPLIT 0).setF TWN_STATUS.ASSOC 0 0
    let role := twinRole s
    deadEval (
      if twinLower s then
        if role = roleActive then ungate (noteRole s roleSolo foSplit)
        else if role = roleShadow && s.fb TWN_STATUS.SYNC 0 then mirrorTakeover s roleSolo foSplit
        else syncLost s
      else if role = roleActive then
        becomeShadow ((busyChannels s).foldl (fun s c => (quiesce s c).raise CH_EVT.DRAINED c) s) foSplit
      else syncLost s)

/-! ### The commands -/

/-- TWN_CFG (R252, R253). -/
def twnCfgWrite (s : State) (m : Master) (v : Word) : State :=
  let w := maskedWrite .TWN_CFG v
  let old := s.reg .TWN_CFG 0
  let en := bitAt w.toNat 31
  let n := w.toNat
  checked s .TWN_CHECK m 0
      (cause (en && !(s.silo.pins.any fun p => p.twin)) 0x67 ++
       cause (s.fb TWN_CFG.EN 0 && bitsOf n 0 31 != bitsOf old.toNat 0 31) 0x68 ++
       cause (bitAt n 24 && bitAt n 28 && bitsOf n 0 4 == bitsOf n 16 4) 0x69 ++
       cause (en && s.mode != modeStandby && s.mode != modeOperational && s.mode != modeShadow) 0x6F) fun s =>
    let was := s.fb TWN_CFG.EN 0
    let s := s.setReg .TWN_CFG 0 w
    if en && !was then s.setF TWN_STATUS.ROLE 0 roleAssociating
    else if was && !en then
      let led := leads s
      let had := led || twinRole s == roleShadow
      let s := neighLost (neighLost s 32) 33
      let s := (s.setReg .TWN_STATUS 0 0)
      let s := ungate { s with twin := { Twin.reset with forced := s.twin.forced } }
      let s := if led then s.raise TWN_EVT.DEMOTED 0 else s
      let s := if had then alarmSend (s.inc .TWN_ROLE_CHANGES 0) Config.roleAlarm (ownNode s) 0 else s
      if s.mode = modeShadow then setMode s modeStandby else s
    else s

/-- TWN_CTL. -/
def twnCtl (s : State) (m : Master) (v : Nat) : State :=
  let h := bitAt v 0
  let t := bitAt v 1
  if !h && !t then s
  else
    checked s .TWN_CHECK m 0
      ((if h then cause (twinRole s != roleActive) 0x6A ++ cause (!s.fb TWN_STATUS.SYNC 0 || !twinLinkUp s) 0x6B else []) ++
       (if t then cause (twinRole s != roleShadow) 0x6C ++ cause (twinLinkUp s) 0x6D else [])) fun s =>
      if h then relinquish s foHandover else rerootTakeover s foCommand

def execTwnCfgWrite (m : Master) (v : Word) (s : State) : Host.Outcome State Fault Refusal :=
  .next (whenUp s .TWN fun s => twnCfgWrite s m v)

def execHandover (m : Master) (v : Word) (s : State) : Host.Outcome State Fault Refusal :=
  .next (whenUp s .TWN fun s => twnCtl s m v.toNat)

def execTakeover (m : Master) (v : Word) (s : State) : Host.Outcome State Fault Refusal :=
  .next (whenUp s .TWN fun s => twnCtl s m v.toNat)

/-- The mirror lag, which the spec leaves to the running machine, and its peak since the last read (R252). -/
def sampleLag (s : State) : State :=
  let cur := Config.freeNat s.freeCtr % 2 ^ 16
  let s := ({ s with freeCtr := s.freeCtr + 1 }).setF TWN_LAG.CUR 0 cur
  if cur > s.f TWN_LAG.PEAK 0 then s.setF TWN_LAG.PEAK 0 cur else s

/-- TWIN_HEARTBEAT: a heartbeat on both links, lost ones too, with the high-water marks of the channels (R240, R242). -/
def execTwinHeartbeat (s : State) : Host.Outcome State Fault Refusal :=
  .next (if s.fb TWN_STATUS.ASSOC 0 then
    let active := twinRole s = roleActive
    let body := mirBody (.heartbeat (if active then (busyChannels s).map (marksOf s) else []))
    let s := if active then sampleLag s else s
    twinSendOn (twinSendOn s 0 twinHeartbeat body) 1 twinHeartbeat body
  else s)

/-- The lanes of a lost twin link are not known to have lock. -/
def twinUnlock (s : State) (k : Nat) : State :=
  (List.range 8).foldl (fun s i => s.setLane (64 + 8 * k + i) { s.lane (64 + 8 * k + i) with locked := false }) s

def execTwinLinkTimeout (k : Fin 2) (s : State) : Host.Outcome State Fault Refusal := .next (twinUnlock (twinLinkLost s k) k)

def execSplit (s : State) : Host.Outcome State Fault Refusal := .next (splitDecide s)

/-- What a frame on a twin link must carry is in it. -/
def twinCarries (s : State) (k : Nat) (f : List Byte) (kind : Nat) (body : List Byte) : Bool × State :=
  let t := twinArrive s k f
  (t.1 == some (BitVec.ofNat 8 kind :: body), t.2)

/-- RELINQUISH: a SHADOW with SYNC takes over, whatever the node IDs (R243). -/
def execRelinquish (k : Fin 2) (frame : List Byte) (s : State) : Host.Outcome State Fault Refusal :=
  .next (let t := twinCarries s k frame twinRelinquish []
    if t.1 && twinRole t.2 == roleShadow && t.2.fb TWN_STATUS.SYNC 0 then mirrorTakeover t.2 roleActive foRelinquish else t.2)

/-- TAKEOVER_FORCED_SWITCH: an epoch switch is due before the channel's next unit (R244, step 4). -/
def execTakeoverForcedSwitch (c : Fin 16384) (s : State) : Host.Outcome State Fault Refusal :=
  .next (if s.twin.forced.contains c.val then
    let s := { s with twin := { s.twin with forced := s.twin.forced.filter (· != c.val) } }
    s.setChan c { s.chan c with forced := true }
  else s)

/-- A mirrored ROOT_END; a root that has not ended is not expired (R145). -/
def mirrorEnd (s : State) (c e : Nat) : State :=
  let s := if s.rtc.toNat < e then ctxC s Ctx.ROOT_EXP c 0 else s
  ctxC s Ctx.ROOT_END c e

/-- A mirrored root. -/
def mirrorRoot (s : State) (c : Nat) (r : Root) : State :=
  let k := s.key c
  let s := s.setKey c { k with root := some r, old := k.root, oldTx := r.firstTx, oldRx := r.firstRx, capTx := none, capRx := none }
  mirrorEnd (ctxC s Ctx.ROOT_OK c 1) c (r.made.toNat + 60000000 * r.life)

/-- Root that derives an epoch of a direction on the SHADOW. -/
def mirrorRootFor (s : State) (c e : Nat) (tx : Bool) : Option Root :=
  let k := s.key c
  match k.root, k.old with
  | some r, some o => some (if e < (if tx then k.oldTx else k.oldRx) then o else r)
  | some r, none => some r
  | none, _ => none

/-- Key that a mirrored install puts into a slot: an imported SAK as it was handed over, else the epoch's of the root. -/
def mirrorKey (s : State) (c e : Nat) (tx : Bool) : Option KeyMat :=
  if ctxBit s Ctx.IMPORT c then (s.key c).sak.map fun k => ⟨k.1, k.2.1, zeros 4, k.2.2⟩
  else (mirrorRootFor s c e tx).map fun r => epochKeys s c r tx e

/-- A mirrored install: the SHADOW's Silo installs the same key into its own next slot, and acknowledges. -/
def mirrorInstall (s : State) (c : Nat) (h : Half) (e : Nat) : State :=
  match mirrorKey s c e (h == .egress) with
  | none => s
  | some m =>
    let s := match h with
      | .egress =>
        let k := egNext s c
        setEgValid (writeSlot s c (egKey k) (egAux k) (egEpoch k) (egSalt k) m) c k true codeSilo
      | .ingress => installIn (s.setKey c { s.key c with sak := none }) c m
    sendAck s (.install (chFin c) h (BitVec.ofNat 32 e))

/-- CUR of the egress half as mirrored: the slot that the ACTIVE left loses its key. -/
def mirrorCur (s : State) (c cur : Nat) : State :=
  if cur = egCur s c then s
  else
    let old := egCur s c
    ctxD (zeroEgSlot (setEgValid s c old false codeSilo) c old) Ctx.CUR c cur

/-- A mirrored channel state, with CUR of both halves, SUITE, BALE_V1, PEER_CH and ROOT_END. -/
def mirrorState (s : State) (c st cur icur suite : Nat) (bv : Bool) (peerCh rootEnd : Nat) : State :=
  if st = stDisabled then finishChannel s c
  else
    let s := mirrorCur s c cur
    let s := if icur = inCur s c then s else if icur = inNext s c then rotate s c else ctxD s Ctx.IN_CUR c icur
    let s := ctxC (ctxC (ctxC s Ctx.SUITE c suite) Ctx.BALE_V1 c (b2n bv)) Ctx.PEER_CH c peerCh
    let s := mirrorEnd s c rootEnd
    releaseOld ((setChState s c st).setF CH_CTL.EN c (b2n (st == stActive))) c

/-- A channel of the full mirror: its context whole; its roots and installs follow. -/
def mirrorFull (s : State) (c st : Nat) (b : List Byte) : State :=
  let s := { s with keys := SMap.erase s.keys c }
  let s := (memWrite s ctxCtl (1024 * slotOf s c) ((sliceAt b 0 1024).map some) codeSilo).2
  (setChState s c st).setF CH_CTL.EN c (b2n (st == stActive))

/-- The high-water marks: NEXT_SEQ, the three HIGH values, OTN_GROUP and the sixteen counters. -/
def mirrorMarks (s : State) (m : Marks) : State :=
  let c := m.ch
  let s := ctxD (ctxD s Ctx.NEXT_SEQ c m.nextSeq.toNat) Ctx.OTN_GROUP c m.otnGroup.toNat
  let s := [0, 1, 2].foldl (fun s k => ctxD s (inHigh k) c (m.highs.getD k 0).toNat) s
  (List.range 16).foldl (fun s i => ctxD s (chCounter i) c (m.counters.getD i 0).toNat) s

/-- The SHADOW applies a record. -/
def applyMirror (s : State) : MirrorRec → State
  | .root c key life made initiator fTx fRx suite bv peer ch =>
    mirrorRoot s c ⟨key, life, made, initiator, fTx, fRx, suite, bv, peer, ch⟩
  | .install c h e => mirrorInstall s c h e.toNat
  | .field c off mask v => ctxStore s c off.toNat mask.toNat v.toNat (masterCode .twin)
  | .chState c st cur icur suite bv ch e =>
    mirrorState s c st.toNat cur.toNat icur.toNat suite.toNat bv ch.toNat e.toNat
  | .reservation c r => sendAck (ctxSet s Ctx.RES_END c r.toNat (masterCode .twin)) (.reservation c r)
  | .heartbeat ms => ms.foldl mirrorMarks s
  | .full c st b => mirrorFull s c st.toNat b
  | .sak c key aux an => s.setKey c { s.key c with sak := some (key, aux, an.toNat) }
  | .port p cfg => { s with twin := { s.twin with ports := SMap.set (fun _ => 0) s.twin.ports p cfg } }

/-- MIRROR_RECORD: a valid frame with the record; a SHADOW applies it. -/
def execMirrorRecord (k : Fin 2) (frame : List Byte) (r : MirrorRec) (s : State) : Host.Outcome State Fault Refusal :=
  .next (let t := twinCarries s k frame (mirKind r) (mirBody r)
    if t.1 && twinRole t.2 == roleShadow then syncEval (applyMirror (t.2.inc .TWN_MIRROR_RX 0) r) else t.2)

/-- The ACTIVE receives an acknowledgement, or the SHADOW's SYNC. -/
def applyAck (s : State) : MirrorAck → State
  | .install c h e =>
    if h == .egress && (s.key c).waitAck && ctx s (egEpoch (egNext s c)) c == e.toNat then reserveBefore (installAcked s c) c
    else s
  | .reservation c r =>
    match s.twin.resDue.find? fun x => x.1 == c.val && x.2 == r with
    | some _ =>
      let s := { s with twin := { s.twin with resDue := SMap.erase s.twin.resDue c } }
      ctxSet s Ctx.RES_END c r.toNat (masterCode .twin)
    | none => s
  | .sync on => activeSync { s with twin := { s.twin with peerSync := on } }

/-- MIRROR_ACK. -/
def execMirrorAck (k : Fin 2) (frame : List Byte) (a : MirrorAck) (s : State) : Host.Outcome State Fault Refusal :=
  .next (let t := twinCarries s k frame twinAck (ackBody a)
    if t.1 && twinRole t.2 == roleActive then applyAck (t.2.inc .TWN_MIRROR_RX 0) a else t.2)

/-- FULL_MIRROR_DONE: SYNC on a SHADOW whose ports match, else PORT_MISMATCH; the ACTIVE's SYNC shows its partner's. -/
def execFullMirrorDone (s : State) : Host.Outcome State Fault Refusal :=
  .next (let t := { s with twin := { s.twin with fullDone := true } }
    if !s.fb TWN_STATUS.ASSOC 0 then s
    else if twinRole s = roleShadow then
      if (busyChannels t).all fun c => portsMatch t c then syncEval t else t.raise TWN_EVT.PORT_MISMATCH 0
    else if twinRole s = roleActive then activeSync t
    else s)

/-- PARTNER_DEAD_INPUT: the pin takes its active level. -/
def execPartnerDeadInput (s : State) : Host.Outcome State Fault Refusal :=
  .next (let g := s.f TWN_CFG.DEAD_GPIO 0
    deadEval { s with evc := { s.evc with pins := putBits s.evc.pins g 1 (b2n (!s.fb EVC_IN_CFG.POL g)) } })

end Sys2Proof.Machine
end

