-- ==== Sys2Proof/Machine/Events.lean ====
section
/-! DEFINITION. The event controller: sources, coalescing, routing, claims, completions, the storm guard and MSI-X
(R446–R466, R531). -/

namespace Sys2Proof.Machine

/-! ### Kinds and conditions (R446, R447, R459) -/

inductive SrcKind where
  | level | edge | soft
  deriving DecidableEq, Repr

/-- Sources of fused blocks never assert on a QM-6400-HA. -/
def srcFused (s : State) (n : Nat) : Bool :=
  s.isHA && ((16 ≤ n && n < 32) || (48 ≤ n && n < 64) || (80 ≤ n && n < 96) || (160 ≤ n && n < 192) ||
    (232 ≤ n && n < 264) || n == 272)

/-- Kind of a source; a GPIO's stands in its EVC_IN_CFG. -/
def srcKind (s : State) (n : Nat) : SrcKind :=
  if n = 120 then .edge
  else if 104 ≤ n ∧ n < 120 then (if s.fb EVC_IN_CFG.MODE (n - 104) then .level else .edge)
  else if (124 ≤ n ∧ n < 128) ∨ (198 ≤ n ∧ n < 200) ∨ (275 ≤ n ∧ n < 280) ∨ 344 ≤ n then .soft
  else .level

/-- A pair of event and enable registers shows an enabled event. -/
def evtOn (s : State) (e en : Reg) (i : Nat) : Bool := s.reg e i &&& s.reg en i != 0

/-- Channels with an enabled event (R166). -/
def chanEvents (s : State) : List Nat :=
  ((s.regs.filter fun e => e.1 % Reg.count == Reg.CH_EVT.ctorIdx).map fun e => e.1 / Reg.count).filter
    fun c => evtOn s .CH_EVT .CH_EVT_EN c

/-- Condition of a level source, or active state of an edge input. -/
def srcCond (s : State) (n : Nat) : Bool :=
  !srcFused s n &&
  (if n < 64 then evtOn s .PORT_EVT .PORT_EVT_EN n
   else if n < 96 then (chanEvents s).any fun c => chLine s c == n - 32
   else if n < 104 then
     match n with
     | 96 => evtOn s .FAB_EVT .FAB_EVT_EN 0
     | 97 => evtOn s .TWN_EVT .TWN_EVT_EN 0
     | 98 => evtOn s .SHF_EVT .SHF_EVT_EN 0
     | 99 => evtOn s .GLB_EVT .GLB_EVT_EN 0
     | 100 => evtOn s .PWR_EVT .PWR_EVT_EN 0
     | 101 => evtOn s .CLK_EVT .CLK_EVT_EN 0
     | 102 => evtOn s .HLTH_EVT .HLTH_EVT_EN 0
     | _ => evtOn s .SILO_EVT .SILO_EVT_EN 0
   else if n ≤ 120 then inputActive s (n - 104)
   else if n < 124 then
     match n with
     | 121 => evtOn s .GLB_TOD_EVT .GLB_TOD_EVT_EN 0
     | 122 => evtOn s .EVC_EVT .EVC_EVT_EN 0
     | _ => evtOn s .GLB_PCIE_EVT .GLB_PCIE_EVT_EN 0
   else if 128 ≤ n ∧ n < 198 then evtOn s .ENG_EVT .ENG_EVT_EN (n - 128)
   else if 200 ≤ n ∧ n < 275 then evtOn s .MEM_EVT .MEM_EVT_EN (n - 200)
   else if 280 ≤ n ∧ n < 344 then evtOn s .DMA_CH_EVT .DMA_CH_EVT_EN (n - 280)
   else false)

/-! ### Tables -/

def State.src (s : State) (n : Nat) : EvSrc := SMap.get (fun _ => EvSrc.reset) s.evc.srcs n

def State.setSrc (s : State) (n : Nat) (v : EvSrc) : State :=
  { s with evc := { s.evc with srcs := SMap.set (fun _ => EvSrc.reset) s.evc.srcs n v } }

def State.grp (s : State) (g : Nat) : EvGrp := SMap.get (fun _ => EvGrp.reset) s.evc.grps g

def State.setGrp (s : State) (g : Nat) (v : EvGrp) : State :=
  { s with evc := { s.evc with grps := SMap.set (fun _ => EvGrp.reset) s.evc.grps g v } }

def State.msixEnt (s : State) (v : Nat) : MsixEnt := SMap.get (fun _ => MsixEnt.reset) s.evc.msix v

def State.setMsixEnt (s : State) (v : Nat) (x : MsixEnt) : State :=
  { s with evc := { s.evc with msix := SMap.set (fun _ => MsixEnt.reset) s.evc.msix v x } }

/-- Sources that are not IDLE or have some state, in rising order. -/
def liveSrcs (s : State) : List Nat := s.evc.srcs.map (·.1)

def srcMasked (s : State) (n : Nat) : Bool := s.fb EVC_SRC_CFG.MASK n

/-! ### MSI-X (R453, R531) -/

/-- The function sends messages: enabled, not masked, in D0, with the link up. -/
def msixRuns (s : State) : Bool :=
  s.fb GLB_PCIE_STATUS.MSIX_EN 0 && !s.fb GLB_PCIE_STATUS.FN_MASK 0 && s.fb GLB_PCIE_STATUS.LINK_UP 0 && !s.evc.d3

/-- A message of a vector is sent, or waits in the pending-bit array while the vector or the function is masked. -/
def msixSend (s : State) (v : Nat) : State :=
  let e := s.msixEnt v
  if msixRuns s && !e.masked then
    ({ s with evc := { s.evc with pba := putBits s.evc.pba v 1 0 } }).emit (.msix v e.addr e.data)
  else if s.fb GLB_PCIE_STATUS.MSIX_EN 0 then { s with evc := { s.evc with pba := putBits s.evc.pba v 1 1 } }
  else s

/-- Pending messages that nothing holds back any more are sent. -/
def msixFlush (s : State) : State :=
  (List.range 64).foldl (fun s v => if bitAt s.evc.pba v && msixRuns s && !(s.msixEnt v).masked then msixSend s v else s) s

/-- A source has become REQUESTED at T2: an armed vector sends its message and is disarmed. -/
def msixRequest (s : State) (v : Nat) : State :=
  if s.evc.disarmed.contains v then s
  else msixSend { s with evc := { s.evc with disarmed := s.evc.disarmed ++ [v] } } v

/-! ### Targets (R453, R454) -/

/-- Engines of T0 and T1. -/
def tgtEngine (t : Nat) : Nat := 68 + t

/-- Engine states of R290. -/
def engOff : Nat := 0
def engLoading : Nat := 1
def engRunning : Nat := 2
def engAsleep : Nat := 3
def engWedged : Nat := 4
def engResetting : Nat := 5

def eligible (s : State) (t : Nat) : Bool :=
  bitAt (s.f EVC_CTL.TGT_EN 0) t &&
    (if t < 2 then
      (let e := s.f ENG_STATUS.STATE (tgtEngine t); e == engRunning || e == engAsleep)
     else !s.evc.t2Off)

/-- Next target of a source's offer. -/
def nextTarget (s : State) (n : Nat) : Option Nat :=
  let from0 := match (s.src n).last with | none => 2 | some t => t
  ([1, 2, 3].map fun k => (from0 + k) % 3).find? fun t => bitAt (s.f EVC_SRC_CFG.TGT n) t && eligible s t

/-- Offer a HELD source, or leave it HELD until a target becomes eligible. -/
def offer (s : State) (n : Nat) : State :=
  match nextTarget s n with
  | some t =>
    let s := s.setSrc n { s.src n with st := 2, last := some t, rel := false }
    if t = 2 then msixRequest s (s.f EVC_SRC_CFG.VECTOR n) else s
  | none => s.setSrc n { s.src n with rel := true }

/-! ### Coalescing (R452) -/

/-- Every HELD, unmasked source of the group is offered, and the period ends. -/
def releaseGroup (s : State) (g : Nat) : State :=
  (List.range 8).foldl (fun s i =>
    let n := 8 * g + i
    if (s.src n).st = 1 && !srcMasked s n then offer s n else s) (s.setGrp g EvGrp.reset)

/-- One more firing of a group's period. -/
def countFiring (s : State) (n : Nat) : State :=
  let g := n / 8
  let c := (s.grp g).count + 1
  let s := s.setGrp g ⟨true, c⟩
  if c ≥ s.f EVC_GRP.COUNT g then releaseGroup s g else s

/-! ### Firing (R448–R451, R458) -/

def mergeFiring (s : State) (n : Nat) : State := (s.inc .EVC_MERGED 0).setF EVC_SRC_STATUS.MERGED n 1

/-- A source fires; `edge` says that an edge or `EVC_SET` made the firing. -/
def fire (s : State) (n : Nat) (edge : Bool) : State :=
  let x := s.src n
  let held := fun (st : Nat) =>
    let s := s.setSrc n { x with st := st, edge := edge, rel := false }
    if srcMasked s n then s else countFiring s n
  match x.st with
  | 0 => held 1
  | 3 => held 4
  | _ => mergeFiring s n

/-- A level source that de-asserts while HELD or REQUESTED is withdrawn, unless its firing was made through `EVC_SET`. -/
def withdraw (s : State) (n : Nat) : State :=
  let x := s.src n
  if (x.st = 1 ∨ x.st = 2) ∧ !x.edge then s.setSrc n { x with st := 0, rel := false } else s

/-- The controller samples a source: a rise fires it, a fall withdraws a level source. -/
def sampleSrc (s : State) (n : Nat) : State :=
  let old := (s.src n).cond
  let now := srcCond s n
  let s := s.setSrc n { s.src n with cond := now }
  match srcKind s n with
  | .soft => s
  | .edge => if now && !old then fire s n true else s
  | .level => if now && !old then fire s n false else if old && !now then withdraw s n else s

/-! ### Completion (R456, R457, R461) -/

/-- Storm guard: one more re-pend of a level source. -/
def stormCount (s : State) (n : Nat) : State :=
  if n = 122 then s
  else
    let k := (s.src n).repends + 1
    if k ≥ 64 then
      let s := s.setSrc n { s.src n with repends := 0 }
      (((s.setF EVC_SRC_CFG.MASK n 1).setF EVC_SRC_CFG.STORMED n 1).raise EVC_EVT.STORM 0).inc .EVC_STORMS 0
    else s.setSrc n { s.src n with repends := k }

/-- A source returns to HELD at its completion and counts as a firing of its group. -/
def repend (s : State) (n : Nat) (edge : Bool) : State :=
  let s := s.setSrc n { s.src n with st := 1, edge := edge, rel := false }
  if srcMasked s n then s else countFiring s n

/-- A valid completion. -/
def completeSrc (s : State) (n : Nat) : State :=
  let now := srcCond s n
  let level := srcKind s n == .level
  let x := s.src n
  let s := s.setSrc n { x with cond := now, repends := if level && !now then 0 else x.repends }
  if x.st = 4 then
    if level && !x.edge && !now then s.setSrc n { s.src n with st := 0 } else repend s n x.edge
  else if level && now then repend (stormCount s n) n false
  else s.setSrc n { s.src n with st := 0 }

/-- A target writes a completion. -/
def complete (s : State) (t n : Nat) : State :=
  let x := s.src n
  if n < 512 && (x.st == 3 || x.st == 4) && x.last == some t then completeSrc s n
  else (s.inc .EVC_BADCOMP 0).raise EVC_EVT.BADCOMP 0

/-- Sources REQUESTED at a target that lost its eligibility are offered again; those in service are completed; and HELD
sources that waited for a target are offered (R454, R457). -/
def targetsChanged (s : State) : State :=
  let s := (liveSrcs s).foldl (fun s n =>
    let x := s.src n
    match x.last with
    | some t =>
      if eligible s t then s
      else if x.st = 2 then offer (s.setSrc n { x with st := 1 }) n
      else if x.st = 3 ∨ x.st = 4 then (completeSrc s n).inc .EVC_ORPHANED 0
      else s
    | none => s) s
  (liveSrcs s).foldl (fun s n =>
    if (s.src n).st = 1 && (s.src n).rel && !srcMasked s n then offer s n else s) s

/-! ### Claims (R455) -/

/-- Claim for a target among the sources that satisfy `p`: the source, or 1023. -/
def claim (s : State) (t : Nat) (p : Nat → Bool) : Nat × State :=
  let req := (liveSrcs s).filter fun n => (s.src n).st == 2 && (s.src n).last == some t && p n
  let best := match req.find? fun n => s.fb EVC_SRC_CFG.PRIO n with | some n => some n | none => req.head?
  match best with
  | some n => (n, s.setSrc n { s.src n with st := 3 })
  | none => (1023, s.inc .EVC_SPURIOUS 0)

/-- A claim through `EVC_HCLAIM`v; one that returns 1023 arms the vector. -/
def hostClaim (s : State) (v : Nat) : Nat × State :=
  let r := claim s 2 fun n => s.f EVC_SRC_CFG.VECTOR n == v
  if r.1 = 1023 then (r.1, { r.2 with evc := { r.2.evc with disarmed := r.2.evc.disarmed.filter (· != v) } }) else r

/-- Line 0 of a management engine is asserted (R453). -/
def lineZero (s : State) (t : Nat) : Bool := (liveSrcs s).any fun n => (s.src n).st == 2 && (s.src n).last == some t

/-- An engine tap: the source's condition is true, or it is pending from a firing, and it is not masked (R462). -/
def tapOn (s : State) (n : Nat) : Bool := (srcCond s n || (s.src n).st == 1 || (s.src n).st == 2) && !srcMasked s n

/-! ### Answers to reads (R534) -/

/-- Key of a register master in the table of last answers. -/
def respKey : Master → Nat
  | .host => 0 | .me0 => 1 | .me1 => 2 | .twin => 9 | .debug => 10

/-- The value that a master's read returns, answered OKAY. -/
def answer (s : State) (m : Master) (v : Nat) : State :=
  { s with resp := SMap.set (fun _ => ([], 0)) s.resp (respKey m) (leBytes 4 v, 0) }

/-! ### Register writes -/

/-- What a source does as its MASK takes a value (R451): a REQUESTED source that is masked returns to HELD; a HELD one that is
unmasked counts as a firing of its group. `was` is the old value. -/
def maskTaken (s : State) (n : Nat) (was : Bool) : State :=
  let x := s.src n
  if srcMasked s n then (if !was && x.st == 2 then s.setSrc n { x with st := 1, rel := false } else s)
  else if was && x.st == 1 then countFiring s n
  else if x.st == 1 && x.rel then offer s n
  else s

/-- A running period whose count has reached COUNT releases its group. -/
def countTaken (s : State) (g : Nat) : State :=
  if (s.grp g).running && (s.grp g).count ≥ s.f EVC_GRP.COUNT g then releaseGroup s g else s

/-- EVC_SRC_CFG. -/
def evcSrcCfgWrite (s : State) (m : Master) (n : Nat) (v : Word) : State :=
  checked s .EVC_CHECK m 0 (cause (srcFused s n) 0xA7) fun s =>
    let was := srcMasked s n
    let stormed := s.f EVC_SRC_CFG.STORMED n
    let s := s.setReg .EVC_SRC_CFG n (maskedWrite .EVC_SRC_CFG v)
    maskTaken (if srcMasked s n then s.setF EVC_SRC_CFG.STORMED n stormed else s) n was

/-- EVC_GRP; a COUNT that the running period has reached releases the group. -/
def evcGrpWrite (s : State) (m : Master) (g : Nat) (v : Word) : State :=
  let count := bitsOf v.toNat 0 9
  checked s .EVC_CHECK m 0 (cause (count == 0 || count > 256) 0xA1 ++ cause (bitsOf v.toNat 16 16 == 0) 0xA2) fun s =>
    countTaken (s.setReg .EVC_GRP g (maskedWrite .EVC_GRP v)) g

def evcCtlWrite (s : State) (m : Master) (v : Word) : State :=
  checked s .EVC_CHECK m 0 (cause (v.toNat % 8 == 0) 0xA3) fun s =>
    targetsChanged (s.setReg .EVC_CTL 0 (maskedWrite .EVC_CTL v))

/-- EVC_IN_CFG. A condition that the write makes true fires a level source, and one that it makes false withdraws it (R447, R449);
an edge source starts from the input's state under the new setting, since the input itself has made no transition (DESIGN
CHOICE, log 109). -/
def evcInCfgWrite (s : State) (m : Master) (i : Nat) (v : Word) : State :=
  checked s .EVC_CHECK m 0 (cause (v.toNat % 16 ≥ 10) 0xA4 ++ cause (i < 16 && gpioOut s i) 0xA5 ++
    cause (i == 16 && bitAt v.toNat 9) 0xA6) fun s =>
    let n := 104 + i
    let was := srcKind s n == .level && (s.src n).cond
    let s := s.setReg .EVC_IN_CFG i (maskedWrite .EVC_IN_CFG v)
    let now := srcCond s n
    let s := s.setSrc n { s.src n with cond := now }
    if srcKind s n != .level then s else if now && !was then fire s n false else if was && !now then withdraw s n else s

/-! ### Inputs (R459, R460) -/

/-- cclk is stopped: DORMANT and ESCAPEMENT, and from the acceptance of a request for the latter on (R484). -/
def cclkStopped (s : State) : Bool :=
  s.mode == modeDormant || s.mode == modeEscapement || (s.fb GLB_MODE.TRANS 0 && s.f GLB_MODE.TARGET 0 == modeEscapement)

/-- A change of an external input has passed its filter. -/
def inputChange (s : State) (i : Nat) (level : Bool) : State :=
  let was := inputActive s i
  let s := { s with evc := { s.evc with pins := putBits s.evc.pins i 1 (b2n level) } }
  let now := inputActive s i
  if cclkStopped s then
    let e := s.evc
    if now && !was then
      (if e.latch.contains i then { s with evc := { e with latch2 := if e.latch2.contains i then e.latch2 else e.latch2 ++ [i] } }
       else { s with evc := { e with latch := e.latch ++ [i] } })
    else if was && !now && srcKind s (104 + i) == .edge then s.setSrc (104 + i) { s.src (104 + i) with cond := false }
    else s
  else sampleSrc s (104 + i)

/-- cclk has started: each set latch fires its source once, a second bit counts a merge (R460). -/
def fireLatches (s : State) : State :=
  let l := s.evc.latch
  if l = [] || cclkStopped s then s
  else
    let s2 := s.evc.latch2
    let s := { s with evc := { s.evc with latch := [], latch2 := [] } }
    let s := l.foldl (fun s i =>
      let n := 104 + i
      let s := s.setSrc n { s.src n with cond := srcCond s n }
      let s := (fire s n (srcKind s n != .level)).setF EVC_SRC_STATUS.LATCHED n 1
      if s2.contains i then mergeFiring s n else s) s
    s.raise EVC_EVT.WAKE_LATCHED 0

/-! ### The commands -/

/-- EVENT_FIRE: the controller samples a rise of a source's condition; an edge source fires (R447, R448). -/
def execEventFire (n : Fin 512) (s : State) : Host.Outcome State Fault Refusal :=
  .next (if cclkStopped s || srcFused s n then s
    else match srcKind s n with
      | .soft => s
      | .edge => fire s n true
      | .level => if srcCond s n then sampleSrc s n else s)

/-- LEVEL_SOURCE_DEASSERT: the controller samples a fall of a level source's condition (R449). -/
def execLevelSourceDeassert (n : Fin 512) (s : State) : Host.Outcome State Fault Refusal :=
  .next (if cclkStopped s || srcCond s n || srcKind s n != .level then s else sampleSrc s n)

/-- EVC_SET (R450). -/
def execEvcSet (_m : Master) (v : Word) (s : State) : Host.Outcome State Fault Refusal :=
  .next (whenUp s .EVC fun s => fire s (v.toNat % 512) true)

/-- COALESCE_TIME_EXPIRY: TIME of a running period ends (R452). -/
def execCoalesceTimeExpiry (g : Fin 64) (s : State) : Host.Outcome State Fault Refusal :=
  .next (if (s.grp g).running && !cclkStopped s then releaseGroup s g else s)

/-- EVC_HCLAIM: a read claims for T2 on a vector (R455). -/
def execEvcHclaim (m : Master) (v : Fin 64) (s : State) : Host.Outcome State Fault Refusal :=
  .next (whenUp s .EVC fun s => let r := hostClaim s v; answer r.2 m r.1)

/-- EVC_HCOMPLETE (R456). -/
def execEvcHcomplete (_m : Master) (v : Word) (s : State) : Host.Outcome State Fault Refusal :=
  .next (whenUp s .EVC fun s => complete s 2 (v.toNat % 512))

/-- STORM_WINDOW_EXPIRY: the window of the storm guard runs out, and its count restarts (R461). -/
def execStormWindowExpiry (n : Fin 512) (s : State) : Host.Outcome State Fault Refusal :=
  .next (s.setSrc n { s.src n with repends := 0 })

/-- TARGET_INELIGIBLE: the controller acts on a target that has stopped being eligible (R457). -/
def execTargetIneligible (t : Fin 3) (s : State) : Host.Outcome State Fault Refusal :=
  .next (if eligible s t then s else targetsChanged s)

/-- EXTERNAL_INPUT_CHANGE: a level that was stable for the filter time; a pin that is an output follows what drives it. The
input may be the one that tells of a dead partner (R247). -/
def execExternalInputChange (i : Fin 17) (level : Bool) (s : State) : Host.Outcome State Fault Refusal :=
  .next (deadEval (inputChange s i level))

/-- WAKE_LATCHED. -/
def execWakeLatched (s : State) : Host.Outcome State Fault Refusal := .next (fireLatches s)

def execEvcSrcCfgWrite (m : Master) (n : Fin 512) (v : Word) (s : State) : Host.Outcome State Fault Refusal :=
  .next (whenUp s .EVC fun s => evcSrcCfgWrite s m n v)

def execEvcGrpWrite (m : Master) (g : Fin 64) (v : Word) (s : State) : Host.Outcome State Fault Refusal :=
  .next (whenUp s .EVC fun s => evcGrpWrite s m g v)

def execEvcCtlWrite (m : Master) (v : Word) (s : State) : Host.Outcome State Fault Refusal :=
  .next (whenUp s .EVC fun s => evcCtlWrite s m v)

def execEvcInCfgWrite (m : Master) (i : Fin 17) (v : Word) (s : State) : Host.Outcome State Fault Refusal :=
  .next (whenUp s .EVC fun s => evcInCfgWrite s m i v)

end Sys2Proof.Machine
end

