-- ==== Sys2Proof/Machine/EngOps.lean ====
section
/-! DEFINITION. What every Drijo engine operation rests on: the engine's state, its banks with their store buffers, what
lands at the end of an issue cycle, save and restore, exceptions and the wedged state (R263, R275–R286, R301, R311–R316,
R339–R342). -/

namespace Sys2Proof.Machine

/-! ### The engine -/

/-- `ENG_STATUS.STATE`. -/
def engState (s : State) (e : Nat) : Nat := s.f ENG_STATUS.STATE e

/-- A port value or hidden value. -/
def Eng.val (x : Eng) (k : Nat) : Nat := (SMap.get (fun _ => (0 : BusVal)) x.vals k).toNat

def Eng.setVal (x : Eng) (k v : Nat) : Eng := { x with vals := SMap.set (fun _ => 0) x.vals k (BitVec.ofNat 128 v) }

def Eng.gReg (x : Eng) (i : Nat) : Nat := (SMap.get (fun _ => (0 : BusVal)) x.g i).toNat

def Eng.setG (x : Eng) (i v : Nat) : Eng := { x with g := SMap.set (fun _ => 0) x.g i (BitVec.ofNat 128 v) }

/-- Generator register: 0 ap, 1 am, 2 al, 3 ab (R301). -/
def Eng.agReg (x : Eng) (n r : Nat) : Nat := (SMap.get (fun _ => (0 : Word)) x.ag (4 * n + r)).toNat

def Eng.setAg (x : Eng) (n r v : Nat) : Eng :=
  { x with ag := SMap.set (fun _ => 0) x.ag (4 * n + r) (BitVec.ofNat 32 v) }

/-- Predicate; p0 is always 1 (R295). -/
def Eng.pred (x : Eng) (i : Nat) : Bool := i == 0 || bitAt x.preds i

def Eng.setPred (x : Eng) (i : Nat) (b : Bool) : Eng :=
  if i = 0 then x else { x with preds := putBits x.preds i 1 (b2n b) }

/-- Set sticky flags (R321). -/
def Eng.flags (x : Eng) (v dz : Bool) : Eng := { x with v := x.v || v, dz := x.dz || dz }

/-- An operation of latency `n` starts. -/
def Eng.launch (x : Eng) (n : Nat) (f : FlyEff) : Eng := { x with fly := x.fly ++ [⟨n, f⟩] }

/-- A blocking operation starts: what lands when it, and any other of its bundle, finishes. -/
def Eng.hold (x : Eng) (effs : List FlyEff) : Eng := { x with blocked := some (x.blocked.getD [] ++ effs) }

def Eng.sock (x : Eng) (k : Nat) : Sock := SMap.get (fun _ => Sock.reset) x.socks k

def Eng.setSock (x : Eng) (k : Nat) (v : Sock) : Eng := { x with socks := SMap.set (fun _ => Sock.reset) x.socks k v }

/-- An engine that is reset: an integrity fault of a complication region stays until the region loads again (R337). -/
def Eng.cleared (x : Eng) : Eng := { Eng.reset with cfault := x.cfault &&& 0x55 }

/-- A whole result of latency `n`. -/
def Eng.result (x : Eng) (n k v : Nat) : Eng :=
  x.launch n (.val k (BitVec.ofNat 128 (2 ^ 128 - 1)) (BitVec.ofNat 128 v))

/-! ### Code image (R371, R380) -/

/-- Instance of an engine in its class. -/
def engInst (e : Nat) : Nat := if e < 64 then e else if e < 68 then e - 64 else e - 68

/-- CODE image of an engine. -/
def codeImage (sh : Sheaf) (e : Nat) : Option Section :=
  sh.code.find? fun x => (byteAt x.bytes 0).toNat == engClass e && bitAt (leAt x.bytes 4 8) (engInst e)

/-- GRANT of an engine's image: bit 0 constant-time, bit 1 code write. -/
def engGrant (s : State) (e : Nat) : Nat :=
  match codeImage (codeSheaf s e) e with | some x => (byteAt x.bytes 1).toNat % 4 | none => 0

/-! ### Banks and store buffers (R312–R316) -/

/-- Bank of a local address, and offset in it (R300). -/
def bankOf (a : Nat) : Nat := a / 2 ^ 30 % 4
def offOf (a : Nat) : Nat := a % 2 ^ 30

/-- `n` bytes at a local address lie in their bank, aligned to `al`. -/
def localOk (s : State) (e a n al : Nat) : Bool :=
  bankOf a < 3 && a % al == 0 && offOf a + n ≤ bankSize s e (bankOf a)

/-- The bytes touch a code window (R316). -/
def touchesWindow (s : State) (e a n : Nat) : Bool := (List.range n).any fun i => inCodeWindow s e (a + i)

/-- Store-buffer entries of a bank. -/
def Eng.sbOf (x : Eng) (b : Nat) : List SbEnt := SMap.get (fun _ => []) x.sb b

def Eng.setSb (x : Eng) (b : Nat) (l : List SbEnt) : Eng := { x with sb := SMap.set (fun _ => []) x.sb b l }

/-- Byte of a gathered line. -/
def zByte (m : SMap Byte) (i : Nat) : Option Byte := (m.find? fun (p : Nat × Byte) => p.1 == i).map fun p => p.2

/-- Byte that the store buffer or the gathered Z line holds for an address (R313, R341). -/
def Eng.buffered (x : Eng) (a : Nat) : Option Byte :=
  let zb : Option Byte := match x.z with
    | some (base, m) => if a / 64 * 64 = base then zByte m (a % 64) else none
    | none => none
  match zb with
  | some v => some v
  | none => (x.sbOf (bankOf a)).reverse.findSome? fun (t : SbEnt) =>
      if t.off ≤ offOf a then (t.bytes[offOf a - t.off]?).join else none

/-- Read `n` bytes of a bank with the buffered ones in place; whether a byte came from an uncorrectable word (R313, R315). -/
def localRead (s : State) (e a n : Nat) : List Byte × Bool × State :=
  let x := s.eng e
  let need := (List.range n).filter fun i => (x.buffered (a + i)).isNone
  let words := (need.map fun i => (a + i) / 8).eraseDups
  let s' := words.foldl (fun s w => noteRead s e w 0 e) s
  let raw := (memRead s e a n 0 e).1
  ((List.range n).map fun i => (x.buffered (a + i)).getD (byteAt raw i), words.any fun w => poisoned s e w, s')

/-- A marker has one store of bank `b` less to wait for (R305). -/
def Marker.drained (m : Marker) (b : Nat) : Marker :=
  match b with | 0 => { m with a := m.a - 1 } | 1 => { m with b := m.b - 1 } | _ => { m with c := m.c - 1 }

/-- A line buffer of a read stream after bytes are written to the bank (R341). -/
def lineAfter (l : Option (Nat × List (Option Byte))) (a : Nat) (bs : List (Option Byte)) :
    Option (Nat × List (Option Byte)) :=
  l.map fun p => (p.1, p.2.zipIdx.map fun q =>
    if a ≤ p.1 + q.2 then ((bs[p.1 + q.2 - a]?).join).or q.1 else q.1)

/-- Bytes reach a bank of an engine; the line buffers of its read streams that hold them take them in the same cycle
(R341). -/
def bankWrite (s : State) (e a : Nat) (bs : List (Option Byte)) : State :=
  (memWrite s e a bs e).2.updEng e fun x => { x with lineX := lineAfter x.lineX a bs, lineY := lineAfter x.lineY a bs }

/-- The oldest entry of a bank's store buffer reaches the bank (R313, R315). -/
def drainOne (s : State) (e b : Nat) : State :=
  match (s.eng e).sbOf b with
  | [] => s
  | t :: rest =>
    (bankWrite s e (b * 2 ^ 30 + t.off) t.bytes).updEng e fun x =>
      { x.setSb b rest with sync := x.sync.map (·.drained b) }

/-- Every entry of a bank drains. -/
def drainBank (s : State) (e b : Nat) : State :=
  ((s.eng e).sbOf b).foldl (fun s _ => drainOne s e b) s

/-- Oldest entries drain up to the last one that touches the bytes (R356). -/
def drainOver (s : State) (e a n : Nat) : State :=
  let l := (s.eng e).sbOf (bankOf a)
  let hit := fun (t : SbEnt) => t.off / 64 ≤ (offOf a + n - 1) / 64 && offOf a / 64 ≤ (t.off + t.bytes.length - 1) / 64
  let k := (l.zipIdx.filter fun p => hit p.1).foldl (fun m p => max m (p.2 + 1)) 0
  (List.range k).foldl (fun s _ => drainOne s e (bankOf a)) s

/-- A store enters the buffer; a full one drains its oldest entry first (R266). -/
def sbPush (s : State) (e b : Nat) (t : SbEnt) : State :=
  let s := if ((s.eng e).sbOf b).length ≥ 8 then drainOne s e b else s
  s.updEng e fun x => x.setSb b (x.sbOf b ++ [t])

/-- Z hands its gathered line to the bank's store buffer as one entry; where the buffer is full the next bundle stalls for
a cycle (R341). -/
def zHandover (s : State) (e : Nat) : State :=
  match (s.eng e).z with
  | none => s
  | some (base, m) =>
    let s := if ((s.eng e).sbOf (bankOf base)).length ≥ 8 then (s.inc .ENG_STALL_BANK e).inc .ENG_CYCLES e else s
    sbPush (s.updEng e fun x => { x with z := none }) e (bankOf base)
      ⟨offOf base, (List.range 64).map fun i => zByte m i⟩

/-- Z gathers a write of 16 bytes; a write to a different line hands the old one over. -/
def zGather (s : State) (e a : Nat) (bs : List Byte) : State :=
  let base := a / 64 * 64
  let s := match (s.eng e).z with
    | some (b, _) => if b = base then s else zHandover s e
    | none => s
  s.updEng e fun x =>
    let m := match x.z with | some (_, m) => m | none => []
    { x with z := some (base, bs.zipIdx.foldl (fun m p => SMap.insert (a % 64 + p.2) p.1 (SMap.erase m (a % 64 + p.2))) m) }

/-- A blocking unit writes a bank in place: gathered and buffered bytes of the lines reach it first (R356). -/
def writeInPlace (s : State) (e a : Nat) (bs : List Byte) : State :=
  let s := match (s.eng e).z with
    | some (b, _) => if a / 64 * 64 ≤ b && b ≤ (a + bs.length - 1) / 64 * 64 then zHandover s e else s
    | none => s
  bankWrite (drainOver s e a bs.length) e a (bs.map some)

/-! ### Exception codes (R284) -/

def excIllegalPort : Nat := 1
def excDestConflict : Nat := 2
def excBranchInSlot : Nat := 3
def excStack : Nat := 4
def excCodeStore : Nat := 5
def excPoisonLoad : Nat := 6
def excPoisonFetch : Nat := 7
def excAddress : Nat := 8
def excBus : Nat := 9
def excPriv : Nat := 10
def excCompl : Nat := 11
def excTrap : Nat := 12

/-! ### Complication sockets (R335–R337) -/

/-- STATUS of a socket: region loaded, integrity fault, function fault. -/
def socketStatus (s : State) (e k : Nat) : Nat :=
  b2n (s.loaded.contains e) + 2 * b2n (bitAt (s.eng e).cfault (2 * k)) + 4 * b2n (bitAt (s.eng e).cfault (2 * k + 1))

/-- A socket shows a fault. -/
def socketFaulty (s : State) (e k : Nat) : Bool := socketStatus s e k ≥ 2

/-- The region takes the word of a socket and gives a result for each of its lanes (R336). -/
def closeWord (s : State) (e k : Nat) : State :=
  let x := s.eng e
  let w := x.sock k
  if w.word = [] then s
  else
    let data := match complOf s e with | some y => y.bytes | none => []
    let ops := (List.range 4).map fun i => BitVec.ofNat 128 (x.val (opKey kCompl k i))
    let res := (List.range w.word.length).map fun i => Config.complication data k ops w.word s.freeCtr i
    ({ s with freeCtr := s.freeCtr + 1 }).updEng e fun x =>
      x.setSock k { x.sock k with word := [], age := 0, out := w.out ++ res }

/-- A region cycle is four engine cycles, and a word holds four triggers: its fourth trigger, or the fourth issue cycle from
its first, completes it (R336; the phase of the region's clock is DESIGN CHOICE, log 94). -/
def sockCycle (s : State) (e k : Nat) : State :=
  let w := (s.eng e).sock k
  if w.word.length ≥ 4 || (w.word != [] && w.age ≥ 3) then closeWord s e k
  else s.updEng e fun x => x.setSock k { w with age := if w.word = [] then 0 else w.age + 1 }

/-- An issue cycle ends at every socket. -/
def sockTick (s : State) (e : Nat) : State :=
  (s.eng e).socks.foldl (fun s p =>
    (sockCycle s e p.1).updEng e fun x => x.setSock p.1 { x.sock p.1 with now := false, hot := (x.sock p.1).now }) s

/-! ### Landing (R257, R277) -/

/-- One operation lands. -/
def landEff (s : State) (e : Nat) (f : FlyEff) : State :=
  match f with
  | .val k m v => s.updEng e fun x => x.setVal k (((BitVec.ofNat 128 (x.val k) &&& ~~~m) ||| (v &&& m)).toNat)
  | .aesKey k key => s.updEng e fun x => { x with aes := SMap.set (fun _ => []) x.aes k key }
  | .zdata a bs => zGather s e a bs
  | .poison => s
  | .sock k =>
    let s := if ((s.eng e).sock k).out = [] then closeWord s e k else s
    s.updEng e fun x =>
      (x.setVal (resKey kCompl k 0) (((x.sock k).out.headD 0).toNat)).setSock k { x.sock k with out := (x.sock k).out.drop 1 }

/-- An issue cycle ends in the units: what was due lands, in trigger order (R257). -/
def unitCycle (s : State) (e : Nat) : State :=
  let s := sockTick s e
  let dec := (s.eng e).fly.map fun f => { f with left := f.left - 1 }
  (dec.filter fun f => f.left == 0).foldl (fun s f => landEff s e f.eff)
    (s.updEng e fun x => { x with fly := dec.filter fun f => f.left != 0 })

/-- Everything in flight lands at the cycles of R257, as if issue cycles continued, and with it what a blocking unit
holds (R277). -/
def landAll (s : State) (e : Nat) : State :=
  let n := (s.eng e).fly.foldl (fun m f => max m f.left) 0
  let s := (List.range n).foldl (fun s _ => unitCycle s e) s
  ((s.eng e).blocked.getD []).foldl (fun s f => landEff s e f) (s.updEng e fun x => { x with blocked := none })

/-- A poisoned load is in flight. -/
def Eng.poisonFlying (x : Eng) : Bool := x.fly.any fun f => f.eff == .poison

/-! ### Fetch (R264) -/

/-- Fetched lines are discarded unissued; under NOPRED, FETCH_DISCARD does not change (R291). -/
def flushFetch (s : State) (e : Nat) : State :=
  let x := s.eng e
  let s := s.updEng e fun x => { x with fetchQ := [], slip := false }
  if x.fetchQ = [] then s
  else
    if x.nopred then s else s.addCnt .ENG_FETCH_DISCARD e x.fetchQ.length

/-! ### Fields of a bundle (R292–R297) -/

/-- A move slot (R294). -/
structure Move where
  guard : Nat
  src : Nat
  dst : Nat
  esl : Nat
  simm : Nat
  deriving DecidableEq, Repr

/-- Slot `i` of a bundle. -/
def moveOf (n i : Nat) : Move :=
  let m := bitsOf n (64 + 56 * i) 56
  ⟨bitsOf m 52 4, bitsOf m 40 12, bitsOf m 28 12, bitsOf m 24 4, bitsOf m 0 24⟩

/-- A move, guarded or not, goes to JUMP, CALL or RET (R269). -/
def isBranch (n : Nat) : Bool := (List.range 8).any fun i => 0x060 ≤ (moveOf n i).dst && (moveOf n i).dst ≤ 0x062

/-! ### Prediction and the fetch queue (R264, R265, R271–R274) -/

/-- Target that the line of a JUMP or CALL itself shows. -/
def shownTarget (e n : Nat) : Option Nat :=
  ((List.range 8).map (moveOf n)).findSome? fun m =>
    if m.dst = 0x060 ∨ m.dst = 0x061 then
      (if m.src = 0xF00 then eslValue (busW e) m.esl (unsignedOf (busW e) (signedOf 24 m.simm))
       else if m.src = 0xF01 then eslValue (busW e) m.esl (bitsOf n 0 32) else none).map (· % 2 ^ 32)
    else none

/-- Path that the predictor foretells of the branch at `a` as it is fetched: free, and not taken while its tables are empty; the
target of a register or of RET is free too (R271, R272). Under NOPRED there is none (R273). -/
def foretell (s : State) (e a n : Nat) : Option Nat × State :=
  let x := s.eng e
  if !isBranch n || x.nopred then (none, s)
  else
    let seq := (a + 192) % 2 ^ 32
    if x.predEmpty then (some seq, s)
    else
      let k := s.freeCtr
      let far := (shownTarget e n).getD (Config.freeNat (k + 1) % 2 ^ 32)
      (some (if Config.predict k then far else seq), { s with freeCtr := k + 2 })

/-- Depth of the fetch queue. -/
def fetchDepth : Nat := 4

/-- The bundle due stands in the loop buffer. -/
def loopLine (x : Eng) : Option (List Byte) :=
  let a := x.pc.toNat
  let kept := SMap.get (fun _ => []) x.lbuf a
  if x.rep.active && x.lbufOk && kept != [] && x.rep.ls.toNat ≤ a && a ≤ x.rep.le.toNat then some kept else none

/-- Address after a line in the order of the program: behind the body of a repeat its next iteration, and none while that comes
from the loop buffer (log 95). -/
def seqAfter (x : Eng) (a : Nat) : Option Nat :=
  if x.rep.active && a == x.rep.le.toNat then
    if x.lbufOk || x.lbufNext then none else if x.rep.lc = 0 then some (a + 64) else some x.rep.ls.toNat
  else some (a + 64)

/-- Where fetch stands behind one more entry of the queue: the address that it reads next, and, of a branch whose slots are not
all fetched, how many are missing and the path after them. -/
def fetchPast (x : Eng) (p : Option Nat × Option (Nat × Option Nat)) (f : Fetched) : Option Nat × Option (Nat × Option Nat) :=
  match p.2 with
  | some (k, path) => if k ≤ 1 then (path, none) else (some (f.addr + 64), some (k - 1, path))
  | none =>
    if isBranch (leNat f.line) then (some (f.addr + 64), some (2, f.guess)) else (seqAfter x f.addr, none)

/-- Address that fetch reads next, none where it waits: while the queue is full, behind the slots of a branch that was not
predicted or whose path is late, and while the repeat's next iteration comes from the loop buffer. -/
def nextFetch (x : Eng) : Option Nat :=
  let q := x.fetchQ
  if q.length ≥ fetchDepth || (q == [] && (loopLine x).isSome) then none
  else
    let br := match x.br with
      | some b => if b.late then some (b.slots, none) else b.target.map fun t => (b.slots, some t.toNat)
      | none => none
    (q.foldl (fetchPast x) (some x.pc.toNat, br)).1

/-- Fetch of a line into the queue. -/
def fetchAt (s : State) (e a : Nat) : State :=
  let m := memRead s e a 64 3 e
  let p := foretell m.2.2 e a (leNat m.1)
  p.2.updEng e fun x => { x with fetchQ := x.fetchQ ++ [⟨a, m.1, m.2.1, p.1⟩], slip := false }

/-- A cycle of fetch with some banks busy. -/
def fetchCycle (s : State) (e : Nat) (busy : List Nat) : State :=
  match nextFetch (s.eng e) with
  | some a => if localOk s e a 64 64 && !busy.contains (bankOf a) then fetchAt s e a else s
  | none => s

/-- Fetch goes on in cycles, given by the banks that are busy in each; a queue that a busy bank has left empty makes the next
bundle slip. -/
def fetchCycles (s : State) (e : Nat) (cycles : List (List Nat)) : State :=
  let s := cycles.foldl (fun s b => fetchCycle s e b) s
  let x := s.eng e
  s.updEng e fun y => { y with slip := x.fetchQ == [] && (nextFetch x).any fun a => cycles.any (·.contains (bankOf a)) }

/-- The 64 cycles of a save or a restore, in which fetch goes on: the sequence has bank C in all but the last of them (R263, R277,
R278; the cycle that it leaves is DESIGN CHOICE, log 95). -/
def saveCycles (s : State) (e : Nat) : State :=
  fetchCycles (s.addCnt .ENG_CYCLES e 64) e (List.replicate 63 [2] ++ [[]])

/-! ### Interrupt lines (R275) -/

/-- Source that EVTMAP assigns to a line of a class (R371). -/
def lineSource (s : State) (e line : Nat) : Nat := leAt s.sheaf.evtmap (2320 + 8 * engClass e + 2 * (line - 4)) 2

/-- A counter of the engine has passed 2^63 (R291). -/
def engCounters : List Ctr :=
  [.ENG_CYCLES, .ENG_BUNDLES, .ENG_STALL_FETCH, .ENG_STALL_BANK, .ENG_STALL_BLOCK, .ENG_STALL_UNIT, .ENG_STALL_STREAM,
   .ENG_BRANCHES, .ENG_MISPRED, .ENG_FETCH_DISCARD, .ENG_LOOPBUF, .ENG_UNITS_LOST, .ENG_IRQ_TAKEN, .ENG_EXC_TAKEN]

/-- A line is asserted by its source. -/
def lineOn (s : State) (e line : Nat) : Bool :=
  let x := s.eng e
  match line with
  | 0 => e ≥ 68 && lineZero s (e - 68)
  | 1 => x.dbHit || (engClass e == 1 && x.job != [])
  | 2 => x.timerHit
  | 3 => engCounters.any fun c => (s.cnt c e).toNat > 2 ^ 63
  | _ => s.sheaf.evtmap != [] && tapOn s (lineSource s e line)

/-- A line is pending: asserted and not masked. -/
def linePending (s : State) (e line : Nat) : Bool := lineOn s e line && !bitAt (s.eng e).imask line

def anyLine (s : State) (e : Nat) : Bool := (List.range 8).any fun l => linePending s e l

/-! ### Wedged (R285, R286) -/

/-- Units already assigned to a wedged data engine are discarded and their slots skipped. -/
def dropUnits (s : State) (e : Nat) : State :=
  s.ports.foldl (fun s p =>
    let n := (p.2.slots.filter fun u => u.eng == e && !u.discarded).length
    if n = 0 then s
    else ((s.setPort p.1 { s.port p.1 with slots := (s.port p.1).slots.map fun u =>
        if u.eng = e then { u with discarded := true } else u }).addCnt .ENG_UNITS_LOST e n)) s

/-- A double fault: operations in flight land, nothing is saved, and the engine enters WEDGED; ENG_EXC_PC holds the bundle
at which it stopped (R289). -/
def wedge (s : State) (e second : Nat) : State :=
  let first := (s.eng e).causes.headD 0
  let s := landAll (s.setReg .ENG_EXC_PC e (s.eng e).pc) e
  let s := (s.updEng e fun x => { x with rsv := none }).setF ENG_STATUS.STATE e engWedged
  let s := ((s.setF ENG_EXC.CODE e first).setF ENG_EXC.SECOND e second).raise ENG_EVT.WEDGED e
  if e < 64 then
    let s := dropUnits s e
    if sliceProvisioned s (e / 2) then relinquish s foRelinquish else s
  else if e ≥ 68 then targetsChanged s
  else reissueJob s e

/-! ### Save areas (R281, R311) -/

/-- Start of save area `n` of an engine, as a local address. -/
def saveBase (s : State) (e n : Nat) : Nat := 2 * 2 ^ 30 + bankSize s e 2 - 2048 * (n + 1)

/-- Bundle index of a bundle address (R311). -/
def bundleIdx (a : Nat) : Nat := bankOf a * 4096 + offOf a / 64

def bundleAddr (i : Nat) : Nat := i / 4096 * 2 ^ 30 + i % 4096 * 64

/-- ST of the DRBG unit. -/
def drbgSt (d : DrbgUnit) : Nat := b2n d.due + 2 * b2n d.failed

/-- Ports that show the state of their unit and hold no value: STATUS of a complication socket (R335), and ST of the DRBG unit, of
which `restoreSt` takes care. -/
def shownPort (k : Nat) : Bool := (List.range 4).any (fun i => k == resKey kCompl i 1) || k == resKey kDrbg 0 2

/-- ST as it was saved (R358, R361); a reseed that has fallen due since stays due. -/
def DrbgUnit.restoreSt (d : DrbgUnit) (v : Nat) : DrbgUnit := { d with due := d.due || bitAt v 0, failed := bitAt v 1 }

/-- Value of a result port as a move reads it. -/
def portVal (s : State) (e k : Nat) : Nat :=
  if k = resKey kDrbg 0 2 then drbgSt (s.eng e).drbg
  else
    match (List.range 4).find? fun i => k == resKey kCompl i 1 with
    | some i => socketStatus s e i
    | none => (s.eng e).val k

/-- The 2,048 bytes of a save area. The order of the control registers at 0x420 is the model's (DESIGN CHOICE, log 41). -/
def saveBytes (s : State) (e ret cause fault : Nat) : List Byte :=
  let x := s.eng e
  let r := x.rep
  let ports := savedPorts s e
  ((List.range 64).map fun i => leBytes 16 (x.gReg i)).flatten ++
  leBytes 4 (x.preds % 256 / 2 * 2 + b2n x.v * 2 ^ 16 + b2n x.dz * 2 ^ 17) ++ leBytes 4 ret ++ leBytes 4 cause ++
  leBytes 4 fault ++
  (leBytes 4 r.lc.toNat ++ leBytes 4 r.pendVal.toNat ++ leBytes 2 (bundleIdx r.ls.toNat) ++ leBytes 2 (bundleIdx r.le.toNat) ++
    leBytes 4 (b2n r.active * 2 ^ 31 + b2n r.irqOk * 2 ^ 30 + r.pend % 4 * 2 ^ 28 + r.age % 4 * 2 ^ 26 + r.srep % 2 ^ 16)) ++
  (leBytes 4 x.sp.toNat ++ leBytes 4 x.stkLim.toNat ++ leBytes 4 (b2n x.ie) ++ leBytes 4 x.imask ++ leBytes 4 x.ivb.toNat ++
    leBytes 4 x.stkTop.toNat ++ leBytes 4 x.agBank ++ leBytes 4 x.agMode) ++
  ((List.range 32).map fun i => leBytes 4 (x.agReg (i % 8) (i / 8))).flatten ++
  ((List.range 52).map fun i => leBytes 16 (match ports[i]? with | some k => portVal s e k | none => 0)).flatten

/-- A unit with an MQ port, whose triggers see a value written 4 issue cycles before (R344). -/
def hasModulus (kind : Nat) : Bool := kind == kMac || kind == kBf

/-- State of an engine from the bytes of a save area; what its units had seen of MQ is the value saved. STATUS goes on
showing its unit (DEDUCED, log 96), and the boundary of a repeat at which the area was taken is one again. -/
def restoreFrom (s : State) (e : Nat) (b : List Byte) : Eng :=
  let x := s.eng e
  let fl := leAt b 0x400 4
  let rw := leAt b 0x41C 4
  let pc := leAt b 0x404 4
  let ls := bundleAddr (leAt b 0x418 2)
  let atStart := bitAt rw 31 && pc == ls && rw % 2 ^ 16 == 0
  let rep : Rep := { lc := BitVec.ofNat 32 (leAt b 0x410 4), pendVal := BitVec.ofNat 32 (leAt b 0x414 4),
                     ls := BitVec.ofNat 32 ls, le := BitVec.ofNat 32 (bundleAddr (leAt b 0x41A 2)),
                     active := bitAt rw 31, irqOk := bitAt rw 30, pend := bitsOf rw 28 2, age := bitsOf rw 26 2,
                     srep := rw % 2 ^ 16, edge := if atStart then x.edges.headD 0 else 0 }
  let x := (List.range 64).foldl (fun x i => x.setG i (leAt b (16 * i) 16)) x
  let x := (List.range 32).foldl (fun x i => x.setAg (i % 8) (i / 8) (leAt b (0x440 + 4 * i) 4)) x
  let x := ((savedPorts s e).zipIdx.filter fun p => !shownPort p.1).foldl (fun x p => x.setVal p.1 (leAt b (0x4C0 + 16 * p.2) 16)) x
  let x := match (savedPorts s e).findIdx? (· == resKey kDrbg 0 2) with
    | some i => { x with drbg := x.drbg.restoreSt (leAt b (0x4C0 + 16 * i) 16) }
    | none => x
  let x := (engUnits s e).foldl (fun x u =>
    if hasModulus u.kind then x.setVal (hidKey u.kind u.inst 0) (x.val (opKey u.kind u.inst 0)) else x) x
  { x with
    preds := fl % 256 / 2 * 2, v := bitAt fl 16, dz := bitAt fl 17, pc := BitVec.ofNat 32 pc, rep := rep,
    sp := BitVec.ofNat 32 (leAt b 0x420 4), stkLim := BitVec.ofNat 32 (leAt b 0x424 4), ie := bitAt (leAt b 0x428 4) 0,
    imask := leAt b 0x42C 4 % 256, ivb := BitVec.ofNat 32 (leAt b 0x430 4), stkTop := BitVec.ofNat 32 (leAt b 0x434 4),
    agBank := leAt b 0x438 4 % 4, agMode := leAt b 0x43C 4 % 2 ^ 16, br := none, lbuf := [], lbufOk := false,
    lbufNext := true }

/-- Acceptance of an interrupt or exception: everything lands and drains, the state is saved, and the handler's first
bundle is due, which fetch reads during the save (R277). -/
def enterHandler (s : State) (e kind code fault vector : Nat) : State :=
  let s := (flushFetch s e).updEng e fun x =>
    { x with rsv := none, lbuf := [], lbufOk := false, lbufNext := false, lineX := none, lineY := none }
  let s := zHandover (landAll s e) e
  let s := drainBank (drainBank (drainBank s e 0) e 1) e 2
  let x := s.eng e
  let bytes := saveBytes s e x.pc.toNat (kind * 2 ^ 24 + vector * 2 ^ 16) fault
  let s := (memWrite s e (saveBase s e x.save) (bytes.map some) e).2
  let s := s.updEng e fun x =>
    { x with ie := false, pc := BitVec.ofNat 32 (x.ivb.toNat + 64 * (if kind = 1 then 8 + vector else vector)),
             save := x.save + 1, causes := code :: x.causes, edges := x.rep.edge :: x.edges, fresh := true, br := none,
             rep := { x.rep with active := false, pend := 0, srep := 0, edge := 0 } }
  saveCycles s e

/-- An exception is taken at once, or makes a double fault (R284, R285). -/
def takeException (s : State) (e code : Nat) : State :=
  if engState s e ≠ engRunning then s
  else
    let x := s.eng e
    if x.fresh || x.save ≥ 2 then wedge s e code
    else
      let s := (s.setF ENG_EXC.CODE e code).setReg .ENG_EXC_PC e x.pc
      let s := (s.setF ENG_EXC.SECOND e 0).raise ENG_EVT.EXC e
      let s := s.inc .ENG_EXC_TAKEN e
      if x.poisonFlying then wedge (s.updEng e fun x => { x with causes := code :: x.causes }) e excPoisonLoad
      else enterHandler s e 1 code x.pc.toNat code

/-! ### Address generators (R301, R351, R352) -/

/-- The number is a power of two. -/
def isPow2 (n : Nat) : Bool := n != 0 && 2 ^ Nat.log2 n == n

/-- The low `k` bits of a number in reverse. -/
def revBits (k v : Nat) : Nat := (List.range k).foldl (fun r i => r * 2 + b2n (bitAt v i)) 0

/-- Pointer of a generator after a post-modify; none where its mode or registers make a pointer read illegal. -/
def Eng.nextPtr (x : Eng) (n : Nat) : Option Nat :=
  let ap := x.agReg n 0
  let am := x.agReg n 1
  let al := x.agReg n 2
  let ab := x.agReg n 3
  match bitsOf x.agMode (2 * n) 2 with
  | 0 => some ((ap + am) % 2 ^ 32)
  | 1 =>
    if al = 0 then none
    else
      let d := signedOf 32 (ap + 2 ^ 32 - ab)
      some ((ab + ((d + signedOf 32 am) % (al : Int)).toNat) % 2 ^ 32)
  | 2 =>
    if !isPow2 am || am > 64 || !isPow2 al || al < 2 * am || ab % al != 0 then none
    else
      let k := Nat.log2 (al / am)
      let i := (ap + 2 ^ 32 - ab) % al / am
      some ((ab + am * revBits k ((revBits k i + 1) % (al / am))) % 2 ^ 32)
  | _ => none

/-! ### Runs: one bundle's or one move's effect with what keeps it from taking effect -/

/-- A tentative state, the exception codes that apply, the counter of the stall that holds the bundle, the destinations
written so far, the accesses to banks, and the cycles for which a blocking unit runs. -/
structure Run where
  s : State
  codes : List Nat
  stall : Option Ctr
  dsts : List Nat
  banks : List Nat
  busy : Nat

def Run.of (s : State) : Run := ⟨s, [], none, [], [], 0⟩

def Run.fail (r : Run) (code : Nat) : Run := { r with codes := r.codes ++ [code] }

/-- The bundle stalls: a stream port cannot serve it. -/
def Run.wait (r : Run) : Run := { r with stall := some .ENG_STALL_STREAM }

/-- The bundle stalls: a unit does not yet take a new operation. -/
def Run.waitUnit (r : Run) : Run := { r with stall := some .ENG_STALL_UNIT }

/-- An access to bank `b` (R263). -/
def Run.access (r : Run) (b : Nat) : Run := { r with banks := r.banks ++ [b] }

/-- Stall cycles of bank conflicts: one for each access to a bank beyond the first (R263, R266). -/
def Run.conflicts (r : Run) : Nat := r.banks.length - r.banks.eraseDups.length

def Run.map (r : Run) (f : State → State) : Run := { r with s := f r.s }

/-- Change the engine. -/
def Run.upd (r : Run) (e : Nat) (f : Eng → Eng) : Run := r.map fun s => s.updEng e f

/-- A destination is written; a second write of it is a conflict (R256). -/
def Run.claim (r : Run) (d : Nat) : Run :=
  if r.dsts.contains d then r.fail excDestConflict else { r with dsts := r.dsts ++ [d] }

/-- Destination keys beside port IDs: generator registers and predicates. -/
def dstAg (n reg : Nat) : Nat := 0x10000 + 4 * n + reg
def dstPred (n : Nat) : Nat := 0x040 + n

/-- A stall cycle passes: a socket that was not ready for a trigger is ready now (R336). -/
def stallCycle (s : State) (e : Nat) (c : Ctr) : State :=
  if c = .ENG_STALL_UNIT then
    s.updEng e fun x => x.socks.foldl (fun x p => x.setSock p.1 { x.sock p.1 with hot := false }) x
  else s

/-- A stall holds the whole bundle: nothing takes effect, no exception among it, until the bundle issues (R266; DEDUCED,
log 97). An exception keeps the state as it was and is taken (of several codes the lowest: DESIGN CHOICE, log 42); else the
effect stands. -/
def Run.close (r : Run) (s0 : State) (e : Nat) : State :=
  match r.stall, r.codes.min? with
  | some c, _ => stallCycle s0 e c
  | none, some c => takeException s0 e c
  | none, none => r.s

/-- Run one move of an engine that is running and not held by a blocking unit. -/
def runMove (s : State) (e : Nat) (f : Run → Run) : State :=
  if engState s e = engRunning && (s.eng e).blocked.isNone then (f (Run.of s)).close s e else s

/-- Post-modify a stream's pointer at the end of the bundle (R339): `x0` is the engine before the bundle. -/
def Run.postModify (r : Run) (e : Nat) (x0 : Eng) (n : Nat) : Run :=
  match x0.nextPtr n with
  | none => r.fail excIllegalPort
  | some p => (r.claim (dstAg n 0)).upd e fun x => x.setAg n 0 p

/-- Line buffer of stream X (generator 5) or Y (6). -/
def Eng.lineOf (x : Eng) (gen : Nat) : Option (Nat × List (Option Byte)) := if gen = 5 then x.lineX else x.lineY

def Eng.setLine (x : Eng) (gen : Nat) (l : Option (Nat × List (Option Byte))) : Eng :=
  if gen = 5 then { x with lineX := l } else { x with lineY := l }

/-- Fetch of the line that holds an address into a line buffer: every byte of an uncorrectable word stays unknown. -/
def fetchLine (s : State) (e gen a : Nat) : State :=
  let base := a / 64 * 64
  let t := memRead s e base 64 0 e
  let line := (List.range 64).map fun i => if poisoned s e ((base + i) / 8) then none else some (byteAt t.1 i)
  t.2.2.updEng e fun x => x.setLine gen (some (base, line))

/-- Read of `n` bytes by stream X (generator 5) or Y (6): bytes, and the run after it (R339–R341). The line comes from its
buffer, or else from the bank in one access; gathered and buffered bytes take the place of its own. -/
def Run.streamRead (r : Run) (e : Nat) (x0 : Eng) (gen n : Nat) : List Byte × Run :=
  let a := x0.agReg gen 0
  let r := r.postModify e x0 gen
  if !localOk r.s e a n n then (zeros n, r.fail excAddress)
  else
    let hit := ((r.s.eng e).lineOf gen).any fun p => p.1 == a / 64 * 64
    let r := if hit then r else (r.map fun s => fetchLine s e gen a).access (bankOf a)
    let x := r.s.eng e
    let held := match x.lineOf gen with | some p => p.2 | none => []
    let bytes := (List.range n).map fun i => (x.buffered (a + i)).or ((held[a % 64 + i]?).join)
    (bytes.map (·.getD 0), if bytes.any (·.isNone) then r.fail excPoisonLoad else r)

/-- A Z write of 16 bytes is addressed now and lands with its data after `l` issue cycles (R340). -/
def Run.streamWrite (r : Run) (e : Nat) (x0 : Eng) (l : Nat) (bs : List Byte) : Run :=
  let a := x0.agReg 7 0
  let r := r.postModify e x0 7
  if !localOk r.s e a 16 16 then r.fail excAddress
  else if touchesWindow r.s e a 16 then r.fail excCodeStore
  else r.upd e fun x => x.launch l (.zdata a bs)

/-- Read of a memory operand by a blocking unit, at an address with an alignment (R353–R356). -/
def Run.readOperand (r : Run) (e a n al : Nat) : List Byte × Run :=
  if !localOk r.s e a n al then (zeros n, r.fail excAddress)
  else
    let t := localRead r.s e a n
    (t.1, if t.2.1 then r.fail excPoisonLoad else { r with s := t.2.2 })

/-- Write of a memory operand in place. -/
def Run.writeOperand (r : Run) (e a al : Nat) (bs : List Byte) : Run :=
  if !localOk r.s e a bs.length al then r.fail excAddress
  else if touchesWindow r.s e a bs.length then r.fail excCodeStore
  else r.map fun s => writeInPlace s e a bs

/-- A blocking operation of `n` cycles starts (R268). -/
def Run.block (r : Run) (e n : Nat) (effs : List FlyEff) : Run :=
  { r.upd e fun x => x.hold effs with busy := max r.busy n }

end Sys2Proof.Machine
end

