-- ==== Sys2Proof/Machine/EngUnits.lean ====
section
/-! DEFINITION. The operations of the function units: what a trigger does on the operands that its unit holds
(R321–R332, R335–R337, R343–R350, R353–R359). -/

namespace Sys2Proof.Machine

/-! ### Integer units -/

/-- A result that a unit of latency 1 leaves at the end of the issue cycle of its trigger. -/
def Run.now (r : Run) (e k v : Nat) : Run := r.upd e fun x => x.setVal k v

/-- ALU (R322). -/
def opAlu (r : Run) (e inst : Nat) (op : AluOp) (fm : Form) (t : Nat) : Run :=
  let w := if op.whole then busW e else formBits fm
  let z := aluResult op w ((r.s.eng e).val (opKey kAlu inst 0)) t
  (r.now e (resKey kAlu inst 0) z.1).upd e fun x => x.flags z.2 false

/-- Shift (R323). -/
def opShift (r : Run) (e inst : Nat) (op : ShOp) (fm : Form) (t : Nat) : Run :=
  r.now e (resKey kShift inst 0) (shResult op (formBits fm) ((r.s.eng e).val (opKey kShift inst 0)) t)

/-- Compare (R324): the result goes to R and to the predicate that PD names. -/
def opCmp (r : Run) (e inst : Nat) (op : CmpOp) (fm : Form) (t : Nat) : Run :=
  let x := r.s.eng e
  let b := cmpResult op (formBits fm) (x.val (opKey kCmp inst 0)) t
  let pd := x.val (opKey kCmp inst 1) % 8
  let r := if pd = 0 then r else r.claim (dstPred pd)
  (r.now e (resKey kCmp inst 0) (b2n b)).upd e fun x => x.setPred pd b

/-- Multiplier (R325). -/
def opMul (r : Run) (e inst : Nat) (op : MulOp) (t : Nat) : Run :=
  let z := mulResult op ((r.s.eng e).val (opKey kMul inst 0)) t
  r.upd e fun x => (x.result 3 (resKey kMul inst 0) z.1).flags z.2 false

/-- A whole port value that lands. -/
def wholeVal (k v : Nat) : FlyEff := .val k (BitVec.ofNat 128 (2 ^ 128 - 1)) (BitVec.ofNat 128 v)

/-- Bits of a number; none for zero. -/
def bitLen (n : Nat) : Nat := if n = 0 then 0 else Nat.log2 n + 1

/-- Cycles of a division: constant under NOPRED, least for a zero divisor, else by the length of the dividend (R262,
R326). -/
def divCycles (nopred : Bool) (op : DivOp) (fm : Form) (o t : Nat) : Nat :=
  let w := formBits fm
  let b := bitLen (match op with | .divu => o % 2 ^ w | _ => (signedOf w o).natAbs)
  if nopred then 34 else if t % 2 ^ w = 0 then 18 else 18 + ceilDiv b (if w = 32 then 2 else 4)

/-- Divider (R326). -/
def opDiv (r : Run) (e inst : Nat) (op : DivOp) (fm : Form) (t : Nat) : Run :=
  let o := (r.s.eng e).val (opKey kDiv inst 0)
  let z := divResult op (formBits fm) o t
  (r.block e (divCycles (r.s.eng e).nopred op fm o t) [wholeVal (resKey kDiv inst 0) z.q, wholeVal (resKey kDiv inst 1) z.rem]).upd e
    fun x => x.flags z.v z.dz

/-! ### Load-store units (R312–R316) -/

/-- Load: the bank and the store buffer are read now, and the result lands 3 issue cycles later. -/
def opLd (r : Run) (e bank a : Nat) : Run :=
  let sz := (r.s.eng e).val (opKey kLs bank 0)
  let a := a % 2 ^ 32
  match szBytes (busW e) sz with
  | none => r.fail excAddress
  | some n =>
    if bankOf a ≠ bank || !localOk r.s e a n n then r.fail excAddress
    else
      let t := localRead r.s e a n
      let r := { r with s := t.2.2 }.access bank
      r.upd e fun x =>
        if t.2.1 then x.launch 3 .poison else x.result 3 (resKey kLs bank 0) (extendLoad (busW e) sz n (leNat t.1))

/-- A store takes its bank's port, and where the buffer is full once more while the oldest entry drains (R266). -/
def Run.storeAccess (r : Run) (e b : Nat) : Run :=
  if ((r.s.eng e).sbOf b).length ≥ 8 then (r.access b).access b else r.access b

/-- Store of the low bytes of a value at SA. -/
def opSt (r : Run) (e bank v : Nat) : Run :=
  let x := r.s.eng e
  let a := x.val (opKey kLs bank 1) % 2 ^ 32
  match szBytes (busW e) (x.val (opKey kLs bank 0)) with
  | none => r.fail excAddress
  | some n =>
    if bankOf a ≠ bank || !localOk r.s e a n n then r.fail excAddress
    else if touchesWindow r.s e a n then r.fail excCodeStore
    else (r.storeAccess e bank).map fun s => sbPush s e bank ⟨offOf a, (leBytes n v).map some⟩

/-! ### AES, GHASH, CRC (R328–R330) -/

/-- Key of a slot, where it holds one of the asked length; a block under another slot gives a free value (DESIGN CHOICE,
log 43). -/
def aesKeyOf (x : Eng) (inst slot : Nat) (long : Bool) : Option (List Byte) :=
  let k := SMap.get (fun _ => []) x.aes (4 * inst + slot)
  if k.length = (if long then 32 else 16) then some k else none

/-- A free bus value. -/
def freeBus (s : State) : Nat × State := let t := s.free 16; (leNat t.1, t.2)

def opKld (r : Run) (e inst : Nat) (long : Bool) (t : Nat) : Run :=
  r.upd e fun x =>
    let slot := x.val (opKey kAes inst 0) % 4
    x.launch 4 (.aesKey (4 * inst + slot) (leBytes 16 t ++ (if long then leBytes 16 (x.val (opKey kAes inst 1)) else [])))

/-- A block through AES in one direction; lands in 11 or 15 issue cycles. -/
def opAes (r : Run) (e inst : Nat) (long decrypt : Bool) (t : Nat) : Run :=
  let x := r.s.eng e
  let l := if long then 15 else 11
  match aesKeyOf x inst (x.val (opKey kAes inst 0) % 4) long with
  | some k =>
    let b := leBytes 16 t
    r.upd e fun x => x.result l (resKey kAes inst 0) (leNat (if decrypt then Crypto.aesDec k b else Crypto.aesEnc k b))
  | none =>
    let f := freeBus r.s
    { r with s := f.2.updEng e fun x => x.result l (resKey kAes inst 0) f.1 }

/-- inc32 of a block value: bytes 12–15 as a big-endian number. -/
def inc32 (v : Nat) : Nat := let b := leBytes 16 v; leNat (b.take 12 ++ beBytes 4 (beAt b 12 4 + 1))

def opCtr (r : Run) (e inst : Nat) (long : Bool) (t : Nat) : Run :=
  (opAes r e inst long false t).now e (resKey kAes inst 1) (inc32 t)

/-- Number that GCM's multiplication takes for a block value, and back. -/
def gcmNum (v : Nat) : Nat := beNat (leBytes 16 v)
def gcmVal (n : Nat) : Nat := leNat (beBytes 16 n)

def opHset (r : Run) (e inst t : Nat) : Run := r.upd e fun x => x.launch 8 (wholeVal (hidKey kGhash inst 0) t)

def opGacc (r : Run) (e inst j t : Nat) : Run :=
  let x := r.s.eng e
  let p := x.val (opKey kGhash inst 0) % 8
  if p = 0 ∨ p > 4 then r.fail excIllegalPort
  else
    let h := gcmNum (x.val (hidKey kGhash inst 0))
    let hp := (List.range (p - 1)).foldl (fun a _ => Crypto.gf128Mul a h) h
    let v := Crypto.gf128Mul (gcmNum (x.val (resKey kGhash inst j)) ^^^ gcmNum t) hp
    r.upd e fun x => x.result 4 (resKey kGhash inst j) (gcmVal v)

def opGclr (r : Run) (e inst j : Nat) : Run := r.upd e fun x => x.result 4 (resKey kGhash inst j) 0

/-- A running CRC after bytes, by MODE. -/
def crcRun (mode st : Nat) (bs : List Byte) : Nat :=
  match mode with
  | 0 => bs.foldl (Crypto.crcReflByte 0xEDB88320) st
  | 1 => bs.foldl (Crypto.crcReflByte 0x82F63B78) st
  | _ => bs.foldl (fun c b => (List.range 8).foldl
      (fun c _ => if c ≥ 128 then ((2 * c) % 256) ^^^ 0x07 else 2 * c) ((c % 256) ^^^ b.toNat)) st

/-- Value of R for a running CRC. -/
def crcFinish (mode st : Nat) : Nat := if mode < 2 then st ^^^ 0xFFFFFFFF else st % 256

/-- A CRC trigger leaves the running value and lands the finished code in 2 issue cycles; the spec gives MODE no other
value than 0, 1 and 2, and under one the code is free (DESIGN CHOICE, log 44). -/
def crcStep (r : Run) (e inst : Nat) (f : Nat → Nat → Nat) : Run :=
  let x := r.s.eng e
  let m := x.val (opKey kCrc inst 0)
  let st := f m (x.val (hidKey kCrc inst 0))
  if m < 3 then (r.now e (hidKey kCrc inst 0) st).upd e fun x => x.result 2 (resKey kCrc inst 0) (crcFinish m st)
  else
    let t := freeBus r.s
    { r with s := t.2.updEng e fun x => x.result 2 (resKey kCrc inst 0) (t.1 % 2 ^ 32) }

def opCrcInit (r : Run) (e inst : Nat) : Run := crcStep r e inst fun m _ => if m < 2 then 0xFFFFFFFF else 0

def opCrcFeed (r : Run) (e inst n t : Nat) : Run := crcStep r e inst fun m st => crcRun m st (leBytes n t)

/-! ### Context port, hash lookup, complications (R331, R332, R335–R337) -/

/-- Lines that a context cache holds (R22). -/
def cacheLines : Nat := 16

/-- Bytes of context line `l` in a context cache: a copy that no write of the Silo key path or of management has taken (R22), and
that still is what the data plane's own writes have made of the line (DESIGN CHOICE, log 95). -/
def cachedLine (s : State) (e l : Nat) : Option (List Byte) :=
  if (s.memc ctxCtl).copies.contains (e, l) then
    ((s.eng e).cache.find? fun p => p.1 == l && p.2 == ramBytes s ctxCtl (64 * l) 64).map (·.2)
  else none

/-- A line enters a context cache; of 16 lines the one that entered first makes room, and a hit does not renew a line: the spec
states no order (DESIGN CHOICE, log 95). -/
def Eng.cacheLine (x : Eng) (l : Nat) (b : List Byte) : Eng :=
  { x with cache := ((l, b) :: x.cache.filter fun p => p.1 != l).take cacheLines }

/-- The copy of a line in an engine's context cache is good. -/
def noteCopy (s : State) (e l : Nat) : State :=
  let c := s.memc ctxCtl
  let held := c.copies.filter fun x => x != (e, l) && (x.1 != e || (s.eng e).cache.any fun p => p.1 == x.2)
  s.setMemc ctxCtl { c with copies := held ++ [(e, l)] }

/-- Context read: 64 bytes in 10 issue cycles, from the context cache or through it. A poisoned line of the egress sequence
forces a switch before the channel's next unit and raises CTX_POISON (R151). -/
def opCrd (r : Run) (e inst t : Nat) : Run :=
  let c := bitsOf t 0 14
  let line := 8 * bitsOf t 16 1 + bitsOf t 17 3
  let l := 16 * slotOf r.s c + line
  let give := fun (b : List Byte) (x : Eng) => (List.range 4).foldl (fun x i =>
    x.result 10 (resKey kCtx inst i) (leAt b (16 * i) 16)) x
  match cachedLine r.s e l with
  | some b => r.upd e (give b)
  | none =>
    let m := memRead r.s ctxCtl (64 * l) 64 0 e
    let s := m.2.2
    if m.2.1 then
      let s := if line = 4 then (s.setChan c { s.chan c with forced := true }).raise CH_EVT.CTX_POISON c else s
      { r with s := s.updEng e (give m.1) }
    else { r with s := noteCopy (s.updEng e fun x => give m.1 (x.cacheLine l m.1)) e l }

/-- Entry of a key in a table of an engine (R408). -/
def hashEnt (e tbl key : Nat) : TableEnt := .hash (Fin.ofNat 70 e) (Fin.ofNat 16 tbl) key

/-- A look-up of a key in the table that operand 0 names; an entry whose parity is wrong is a miss (R332, R408). -/
def opHash (r : Run) (e inst t : Nat) : Run :=
  let tbl := (r.s.eng e).val (opKey kHash inst 0) % 16
  let lost := r.s.lost.contains (hashEnt e tbl t)
  let v := match Config.hashLookup r.s.sheaf.digest e tbl t with
    | some v => if lost then 0 else 2 ^ 63 + v.toNat
    | none => 0
  (r.map fun s => meetEntry s (hashEnt e tbl t) e).upd e fun x => x.result 12 (resKey kHash inst 0) v

/-- A trigger of a complication socket: its value goes into the region word under way, and its result lands after the
declared latency. A socket of throughput one per two takes none in the cycle after another (R336). -/
def opCompl (r : Run) (e k op t : Nat) : Run :=
  let decl := socketDecl r.s e k
  let w := (r.s.eng e).sock k
  if socketFaulty r.s e k then r.fail excCompl
  else if bitAt decl 7 && (w.hot || w.now) then r.waitUnit
  else
    let r := r.upd e fun x =>
      (x.setSock k { w with word := w.word ++ [(op, BitVec.ofNat 128 t)], now := true }).launch (bitsOf decl 8 8) (.sock k)
    if w.word.length ≥ 3 then r.map fun s => closeWord s e k else r

/-! ### MAC units (R343–R349) -/

/-- q of a unit as its triggers see it (R344). -/
def mqOf (x : Eng) (kind inst : Nat) : Nat := x.val (hidKey kind inst 0) % 2 ^ 23

/-- A modulus that a MOD-mode trigger refuses. -/
def mqBad (q : Nat) : Bool := q % 2 == 0 || q < 3

/-- Residue of a number in 0 to q − 1. -/
def modQ (z : Int) (q : Nat) : Int := z % (q : Int)

/-- CENTRE maps residues above (q − 1)/2 to negative ones (R349). -/
def centred (on : Bool) (q : Nat) (z : Int) : Int := if on && z > ((q - 1) / 2 : Nat) then z - q else z

/-- Nearest integer to a / 2^n, ties to even (R349). -/
def roundEven (a : Int) (n : Nat) : Int :=
  let p : Int := (2 ^ n : Nat)
  let q := a / p
  let rem2 := 2 * (a % p)
  if rem2 > p ∨ (rem2 = p ∧ q % 2 = 1) then q + 1 else q

inductive MacMode where
  | int | frac | mod
  deriving DecidableEq, Repr

/-- Accumulator of a lane after an operation (R347), and whether the sum wrapped. -/
def macLane (op : Nat) (m : MacMode) (q : Nat) (a x y : Int) : Int × Bool :=
  let prod := match m with | .frac => x * y * 2 | _ => x * y
  let x' := match m with | .frac => x * 2 ^ 24 | _ => x
  let exact := match op with
    | 0 => 0 | 1 => a + prod | 2 => a - prod | 3 => prod | 4 => a + x' | _ => x'
  match m with
  | .mod => (modQ exact q, false)
  | _ => (signedOf 56 (unsignedOf 56 exact), flagV 56 exact)

/-- A store's conversion of a lane (R349): value and whether it was clamped. -/
def macStore (m : MacMode) (q shift : Nat) (centre : Bool) (a : Int) : Int × Bool :=
  match m with
  | .mod => (centred centre q a, false)
  | _ => let v := roundEven a shift; (clampS 24 v, flagV 24 v)

/-- 32-bit container of a lane value: its low 24 bits, sign-extended (R343). -/
def container (z : Int) : Nat := unsignedOf 32 (signedOf 24 (unsignedOf 24 z))

/-- Lanes of a 16-byte vector. -/
def lanes4 (b : List Byte) : List Int := (List.range 4).map fun n => signedOf 24 (leAt b (4 * n) 4)

/-- Accumulator of lane `n`. -/
def accOf (x : Eng) (inst n : Nat) : Int := signedOf 56 (x.val (hidKey kMac inst (1 + n)))

def setAcc (x : Eng) (inst n : Nat) (z : Int) : Eng := x.setVal (hidKey kMac inst (1 + n)) (unsignedOf 56 z)

/-- Operand vector of a MAC unit: a scalar broadcast, or a stream read. -/
def macOperand (r : Run) (e : Nat) (x0 : Eng) (inst n gen : Nat) (scalar used : Bool) : List Int × Run :=
  if !used then ([0, 0, 0, 0], r)
  else if scalar then (List.replicate 4 (signedOf 24 ((r.s.eng e).val (opKey kMac inst n))), r)
  else let t := r.streamRead e x0 gen 16; (lanes4 t.1, t.2)

/-- A MAC unit's trigger (R345–R349): `x0` is the engine before the bundle. -/
def opMac (r : Run) (e : Nat) (x0 : Eng) (inst ctl : Nat) : Run :=
  let op := ctl % 16
  let md := bitsOf ctl 4 2
  let m : MacMode := match md with | 0 => .int | 1 => .frac | _ => .mod
  let shift := bitsOf ctl 10 6
  let lane := fun (n : Nat) => bitAt ctl (16 + n)
  let asel := bitsOf ctl 20 2
  let q := mqOf (r.s.eng e) kMac inst
  if op > 11 || md == 3 || shift > 48 || (md == 2 && mqBad q) then r.fail excIllegalPort
  else
    let arith := op ≤ 5
    let t := macOperand r e x0 inst 1 5 (bitAt ctl 6) (1 ≤ op && op ≤ 5)
    let u := macOperand t.2 e x0 inst 2 6 (bitAt ctl 7) (1 ≤ op && op ≤ 3)
    let r := u.2
    let x := r.s.eng e
    let fl := x.val (hidKey kMac inst 5)
    let new := (List.range 4).map fun n => macLane op m q (accOf x inst n) (t.1.getD n 0) (u.1.getD n 0)
    let st := (List.range 4).map fun n => macStore m q shift (bitAt ctl 8) (accOf x inst n)
    let storing := 6 ≤ op && op ≤ 8
    let aov := arith && (List.range 4).any fun n => lane n && (new.getD n (0, false)).2
    let sat := storing && (List.range 4).any fun n => lane n && (st.getD n (0, false)).2
    let fl := if op = 11 then 0 else (fl ||| (2 * b2n aov)) ||| b2n sat
    let r := r.upd e fun x =>
      let x := if arith then (List.range 4).foldl (fun x n => if lane n then setAcc x inst n (new.getD n (0, false)).1 else x) x
        else if op = 10 then setAcc x inst asel (signedOf 56 (x.val (opKey kMac inst 1)))
        else x
      (x.setVal (hidKey kMac inst 5) fl).result 3 (resKey kMac inst 2) fl
    let word := fun (n : Nat) => if lane n then container (st.getD n (0, false)).1 else 0
    let r := if op = 6 ∨ op = 8 then r.streamWrite e x0 3 ((List.range 4).map fun n => leBytes 4 (word n)).flatten else r
    let half := fun (k : Nat) => FlyEff.val (resKey kMac inst k)
      (BitVec.ofNat 128 ((if lane (2 * k) then 2 ^ 32 - 1 else 0) + (if lane (2 * k + 1) then (2 ^ 32 - 1) * 2 ^ 32 else 0)))
      (BitVec.ofNat 128 (word (2 * k) + word (2 * k + 1) * 2 ^ 32))
    if op = 7 ∨ op = 8 then r.upd e fun x => (x.launch 3 (half 0)).launch 3 (half 1)
    else if op = 9 then r.upd e fun x => x.result 3 (resKey kMac inst 0) (unsignedOf 64 (accOf x inst asel))
    else r

/-! ### Butterfly units (R350) -/

/-- Lanes of a pair of containers. -/
def lanes2 (v : Nat) : Int × Int := (signedOf 24 v, signedOf 24 (v / 2 ^ 32))

/-- a′ and b′ of a lane. -/
def bfLane (gs : Bool) (q : Nat) (a b w : Int) : Int × Int :=
  if gs then (modQ (a + b) q, modQ (w * (a - b)) q) else (modQ (a + w * b) q, modQ (a - w * b) q)

def opBf (r : Run) (e : Nat) (x0 : Eng) (inst ctl : Nat) : Run :=
  let q := mqOf (r.s.eng e) kBf inst
  if ctl % 4 ≥ 2 || mqBad q then r.fail excIllegalPort
  else
    let pair := fun (r : Run) (n gen : Nat) =>
      if bitAt ctl 3 then ((r.s.eng e).val (opKey kBf inst n), r)
      else let t := r.streamRead e x0 gen 8; (leNat t.1, t.2)
    let t := pair r 2 5
    let u := pair t.2 3 6
    let a := lanes2 t.1
    let b := lanes2 u.1
    let w := lanes2 ((r.s.eng e).val (opKey kBf inst 1))
    let gs := ctl % 2 == 1
    let o := fun (z : Int) => container (centred (bitAt ctl 4) q z)
    let l0 := bfLane gs q a.1 b.1 w.1
    let l1 := bfLane gs q a.2 b.2 w.2
    let r := u.2.upd e fun x => (x.result 4 (resKey kBf inst 0) (o l0.1 + o l1.1 * 2 ^ 32)).result 4 (resKey kBf inst 1)
      (o l0.2 + o l1.2 * 2 ^ 32)
    if bitAt ctl 2 then
      r.streamWrite e x0 4 (leBytes 4 (o l0.1) ++ leBytes 4 (o l0.2) ++ leBytes 4 (o l1.1) ++ leBytes 4 (o l1.2))
    else r

/-! ### Keccak, P-384, SHA-2 (R353–R356) -/

def opKf (r : Run) (e a : Nat) : Run :=
  let a := a % 2 ^ 32
  let t := r.readOperand e a 200 64
  let out := ((Crypto.keccakF ((List.range 25).map fun i => leAt t.1 (8 * i) 8)).map (leBytes 8)).flatten
  (t.2.writeOperand e a 64 out).block e 24 []

/-- The inverses of 2^384 modulo the P-384 field prime and group order. -/
def p384PrimeInv : Nat := 0x14000000140000000c00000002fffffffcfffffffafffffffbfffffffdffffffebffffffd8ffffffe100000006
def p384OrderInv : Nat :=
  0x355ca87de39dbb1fa150206ce4f194ac78d4ba5866d61787e29f9fb70a9da219d26d4aeba664edb0610ae855f2c0d911

/-- Montgomery product modulo a prime `m` with inverse `i` of 2^384. -/
def opMont (r : Run) (e m i a : Nat) : Run :=
  let x := r.s.eng e
  let t := r.readOperand e (x.val (opKey kP384 0 0) % 2 ^ 32) 48 16
  let u := t.2.readOperand e (x.val (opKey kP384 0 1) % 2 ^ 32) 48 16
  (u.2.writeOperand e (a % 2 ^ 32) 1 (leBytes 48 (leNat t.1 * leNat u.1 % m * i % m))).block e 48 []

def opComp (r : Run) (e a : Nat) : Run :=
  let hs := (r.s.eng e).val (opKey kSha 0 0) % 2 ^ 32
  let t := r.readOperand e hs 64 64
  let u := t.2.readOperand e (a % 2 ^ 32) 128 64
  let st := Crypto.shaBlock ((List.range 8).map fun i => leAt t.1 (8 * i) 8) u.1
  (u.2.writeOperand e hs 64 ((st.map (leBytes 8)).flatten)).block e 44 []

/-! ### Sampler (R357) -/

/-- Coefficients of SamplePolyCBD from `n` bytes: η bits minus η bits each. -/
def cbd (eta n : Nat) (bs : List Byte) : List Int :=
  let v := leAt bs 0 n
  (List.range 4).map fun k =>
    let c := bitsOf v (2 * eta * k) (2 * eta)
    (popcOf eta c : Int) - (popcOf eta (c / 2 ^ eta) : Int)

/-- Half-bytes, low one first. -/
def halfBytes (bs : List Byte) : List Nat := [0, 1, 2, 3].map fun i => bitsOf (byteAt bs (i / 2)).toNat (4 * (i % 2)) 4

/-- Bytes that a STEP takes; none in a mode that raises ILLEGAL_PORT. -/
def sampBytes (mode : Nat) : Option Nat :=
  match mode with | 0 => some 2 | 1 => some 3 | 2 => some 3 | 3 => some 6 | 4 => some 2 | 5 => some 2 | _ => none

/-- Coefficients kept from the bytes of a STEP. -/
def sampCoefs (mode q : Nat) (bs : List Byte) : List Int :=
  match mode with
  | 0 => cbd 2 2 bs
  | 1 => cbd 3 3 bs
  | 2 => let v := leAt bs 0 3; ([v % 2 ^ 12, v / 2 ^ 12].filter (· < q)).map Int.ofNat
  | 3 => let v := leAt bs 0 6; ([v % 2 ^ 23, v / 2 ^ 24 % 2 ^ 23].filter (· < q)).map Int.ofNat
  | 4 => ((halfBytes bs).filter (· < 15)).map fun (z : Nat) => 2 - ((z % 5 : Nat) : Int)
  | _ => ((halfBytes bs).filter (· < 9)).map fun (z : Nat) => 4 - (z : Int)

def opSampInit (r : Run) (e : Nat) : Run :=
  (r.upd e fun x => { x with samp := ⟨[], [], 0⟩ }).now e (resKey kSamp 0 0) 0

def opSampStep (r : Run) (e : Nat) (x0 : Eng) : Run :=
  let x := r.s.eng e
  let mode := x.val (opKey kSamp 0 1) % 16
  match sampBytes mode with
  | none => r.fail excIllegalPort
  | some n =>
    let draw := x.samp.inb.length < n
    let t := if draw then r.streamRead e x0 5 8 else ([], r)
    let inb := x.samp.inb ++ t.1
    let got := (sampCoefs mode (x.val (opKey kSamp 0 0)) (inb.take n)).map fun z => BitVec.ofNat 32 (container z)
    let outc := x.samp.outc ++ got
    let full := outc.length ≥ 4
    let count := x.samp.count + (if full then 4 else 0)
    let r := if full then t.2.streamWrite e x0 6 ((outc.take 4).map fun w => leBytes 4 w.toNat).flatten else t.2
    r.upd e fun x => ({ x with samp := ⟨inb.drop n, if full then outc.drop 4 else outc, count⟩ }).result 6 (resKey kSamp 0 0) count

/-! ### DRBG unit (R216, R358) -/

/-- A reseed is due after 65,536 generate requests (R216). -/
def drbgLimit : Nat := 65536

/-- SEED: the unit takes the seed that the job placed in memory. -/
def opSeed (r : Run) (e a : Nat) : Run :=
  let t := r.readOperand e (a % 2 ^ 32) 48 1
  (t.2.upd e fun x =>
    { x with drbg := ⟨some (drbgTake x.drbg.st t.1 (drbgPers r.s e)), 0, false, false, 0⟩ }).block e 48 []

/-- The request under way ends with the update of SP 800-90A. -/
def drbgEnd (d : DrbgUnit) : DrbgUnit :=
  let n := d.reqs + b2n (d.gens > 0)
  { d with st := d.st.map fun x => Crypto.drbgUpdate x (zeros 48), gens := 0, reqs := n, due := d.due || n ≥ drbgLimit }

/-- A GEN of the unit: 16 bytes, none while a seed is needed; the 33rd of a request ends it first. -/
def drbgGen (d : DrbgUnit) : Option (List Byte) × DrbgUnit :=
  let d := if d.gens ≥ 32 then drbgEnd d else d
  match d.st, d.due with
  | some st, false =>
    let o := Crypto.drbgOut st 1
    (some o.1, { d with st := some o.2, gens := d.gens + 1 })
  | _, _ => (none, { d with failed := true, due := true })

def opGen (r : Run) (e : Nat) : Run :=
  let d := (r.s.eng e).drbg
  let g := drbgGen d
  let b := g.1.getD (zeros 16)
  (r.upd e fun x => { x with drbg := g.2 }).block e (if d.gens ≥ 32 then 64 else 16)
    [wholeVal (resKey kDrbg 0 0) (leAt b 0 8), wholeVal (resKey kDrbg 0 1) (leAt b 8 8)]

def opDrbgEnd (r : Run) (e : Nat) : Run := (r.upd e fun x => { x with drbg := drbgEnd x.drbg }).block e 48 []

/-! ### A trigger -/

/-- A unit starts an operation on the value written to its trigger; `x0` is the engine before the bundle. -/
def startOp (r : Run) (e : Nat) (x0 : Eng) (inst : Nat) (op : UOp) (t : Nat) : Run :=
  let t := t % 2 ^ busW e
  match op with
  | .alu o f => opAlu r e inst o f t
  | .sh o f => opShift r e inst o f t
  | .cmp o f => opCmp r e inst o f t
  | .mul o => opMul r e inst o t
  | .div o f => opDiv r e inst o f t
  | .ld => opLd r e inst t
  | .st => opSt r e inst t
  | .kld l => opKld r e inst l t
  | .enc l => opAes r e inst l false t
  | .dec l => opAes r e inst l true t
  | .ctr l => opCtr r e inst l t
  | .hset => opHset r e inst t
  | .gacc j => opGacc r e inst j t
  | .gclr j => opGclr r e inst j
  | .crcInit => opCrcInit r e inst
  | .crcFeed n => opCrcFeed r e inst n t
  | .crd => opCrd r e inst t
  | .hash => opHash r e inst t
  | .compl o => opCompl r e inst o t
  | .mac => opMac r e x0 inst t
  | .bf => opBf r e x0 inst t
  | .kf => opKf r e t
  | .mmp => opMont r e Crypto.p384P p384PrimeInv t
  | .mmn => opMont r e Crypto.p384N p384OrderInv t
  | .comp => opComp r e t
  | .sInit => opSampInit r e
  | .sStep => opSampStep r e x0
  | .seed => opSeed r e t
  | .gen => opGen r e
  | .fin => opDrbgEnd r e

/-- A trigger of one unit as a command of its own: a unit or trigger that no selection holds raises ILLEGAL_PORT (R260). -/
def trigger (s : State) (e kind inst : Nat) (op : UOp) (t : Nat) : State :=
  runMove s e fun r => if hasTrig s e kind inst op then startOp r e (s.eng e) inst op t else r.fail excIllegalPort

end Sys2Proof.Machine
end

