-- ==== Sys2Proof/Machine/EngControl.lean ====
section
/-! DEFINITION. The fixed ports of an engine: program control, repeats, code writes, atomics, doorbells and stream ports
(R269–R283, R300–R311, R316–R320, R333–R334). -/

namespace Sys2Proof.Machine

/-! ### Shared SRAM (R373, R388, R414) -/

/-- Where an 8-byte access at a crossbar address goes: an offset of shared SRAM, or the response that refuses it. -/
def sramOffset (s : State) (a n : Nat) : Except Nat Nat :=
  if a < sramBase ∨ a + n > sramBase + sramSize then .error 2
  else if a + n - sramBase > codeStoreAt s then .error 1
  else .ok (a - sramBase)

/-- Granules of shared SRAM in which a write of bytes writes one. -/
def granulesOf (off : Nat) (bs : List (Option Byte)) : List Nat :=
  ((bs.zipIdx.filter fun p => p.1.isSome).map fun p => (off + p.2) / 64).eraseDups

/-- A write to any byte of a granule takes every reservation of it (R320). -/
def dropReservations (s : State) (granules : List Nat) : State :=
  { s with engs := SMap.mapV (fun _ => Eng.reset) (fun _ x =>
      match x.rsv with
      | some g => if granules.contains g then { x with rsv := none } else x
      | none => x) s.engs }

/-- A write of bytes to shared SRAM. -/
def sramWrite (s : State) (off : Nat) (bs : List (Option Byte)) (code : Nat) : Bool × State :=
  let r := memWrite s sramCtl off bs code
  (r.1, dropReservations r.2 (granulesOf off bs))

/-! ### Predictor (R271–R274) -/

/-- What was foretold of the branch that issues from the head of the queue; none where it comes from elsewhere. -/
def foretold (x : Eng) : Option (Option Nat) :=
  match x.fetchQ with
  | f :: _ => if f.addr + 64 = x.pc.toNat && isBranch (leNat f.line) then some f.guess else none
  | [] => none

/-- The path of a branch follows three cycles late (R269); what fetch had read of another path is discarded, with a line under
way where the branch had been predicted (R274; whether there is one is free). -/
def latePath (s : State) (e : Nat) (wrong predicted : Bool) : State :=
  let x := s.eng e
  let gone := if wrong then x.fetchQ.length - 3 else 0
  let way := if wrong && predicted then b2n (Config.freeBool s.freeCtr) else 0
  let s := if wrong then { s with freeCtr := s.freeCtr + 1 } else s
  let s := if x.nopred then s else s.addCnt .ENG_FETCH_DISCARD e (gone + way)
  (s.addCnt .ENG_CYCLES e 3).updEng e fun x =>
    { x with fetchQ := if wrong then x.fetchQ.take 3 else x.fetchQ, br := x.br.map fun b => { b with late := true } }

/-- A branch issues, with its target where it is taken: it is counted, and held against what was foretold when its line was
fetched. One that does not come from the queue is foretold freely, with a free number of lines discarded. -/
def noteBranch (s : State) (e : Nat) (target : Option Nat) : State :=
  let x := s.eng e
  let s := s.inc .ENG_BRANCHES e
  let path := target.getD ((x.pc.toNat + 128) % 2 ^ 32)
  let known := foretold x
  let wrong := match known with | some (some g) => g != path | _ => false
  if x.nopred || x.predBar then (latePath s e wrong false).updEng e fun x => { x with predBar := false }
  else
    let s := match known with
      | some none => latePath s e false false
      | some (some _) => if wrong then latePath (s.inc .ENG_MISPRED e) e true true else s
      | none =>
        let n := s.freeCtr
        let p := if x.predEmpty then false else Config.predict n
        let s := { s with freeCtr := n + 2 }
        if p = target.isSome then s
        else latePath ((s.inc .ENG_MISPRED e).addCnt .ENG_FETCH_DISCARD e (Config.freeNat (n + 1))) e false true
    s.updEng e fun x => { x with predEmpty := false }

/-! ### Branches (R302–R304); the pc stands at the bundle after the branch -/

/-- A bundle address that a branch may name (R302). -/
def targetOk (s : State) (e t : Nat) : Bool := localOk s e t 64 64

/-- A pending write of LC, LS or LE takes effect. -/
def Rep.apply (r : Rep) : Rep :=
  match r.pend with
  | 1 => { r with lc := r.pendVal, pend := 0, age := 0 }
  | 2 => { r with ls := r.pendVal, pend := 0, age := 0 }
  | 3 => { r with le := r.pendVal, pend := 0, age := 0 }
  | _ => r

/-- The repeat ends; a write that was still pending then takes effect (DESIGN CHOICE, log 46). -/
def Eng.endRepeat (x : Eng) : Eng :=
  { x with rep := { x.rep.apply with active := false, edge := 0 }, lbuf := [], lbufOk := false, lbufNext := false }

/-- A taken branch: its path follows the two delay slots; a JUMP or RET out of the body ends the repeat (R310). -/
def Eng.branchTo (x : Eng) (t : Nat) (isCall : Bool) : Eng :=
  let x := { x with br := some ⟨2, some (BitVec.ofNat 32 t), false⟩, lbuf := [], lbufOk := false, lbufNext := false }
  if x.rep.active && !isCall && (t < x.rep.ls.toNat || t > x.rep.le.toNat) then x.endRepeat else x

def opJump (r : Run) (e t : Nat) : Run :=
  if !targetOk r.s e t then r.fail excAddress
  else (r.upd e fun x => x.branchTo t false).map fun s => noteBranch s e (some t)

def opCall (r : Run) (e t : Nat) : Run :=
  let x := r.s.eng e
  if !targetOk r.s e t then r.fail excAddress
  else if x.sp.toNat < 8 || x.sp.toNat - 8 < x.stkLim.toNat then r.fail excStack
  else if x.sp.toNat > bankSize r.s e 2 then r.fail excAddress
  else
    let sp := x.sp.toNat - 8
    let back := (x.pc.toNat + 128) % 2 ^ 32
    let r := (r.storeAccess e 2).upd e fun x => { x.branchTo t true with sp := BitVec.ofNat 32 sp }
    r.map fun s => noteBranch (sbPush s e 2 ⟨sp, (leBytes 8 back).map some⟩) e (some t)

def opRet (r : Run) (e : Nat) : Run :=
  let x := r.s.eng e
  if x.sp.toNat + 8 > x.stkTop.toNat then r.fail excStack
  else if x.sp.toNat + 8 > bankSize r.s e 2 then r.fail excAddress
  else
    let m := localRead r.s e (2 * 2 ^ 30 + x.sp.toNat) 8
    let t := leAt m.1 0 4
    if m.2.1 then r.fail excPoisonLoad
    else if !targetOk r.s e t then r.fail excAddress
    else
      let r := { r with s := m.2.2 }.access 2
      (r.upd e fun x => { x.branchTo t false with sp := x.sp + 8 }).map fun s => noteBranch s e (some t)

/-- Return from the innermost save area (R278, R304), which discards what was fetched of the handler and takes 64 cycles; an
uncorrectable word in it, or a load in flight that met one, is a double fault (R285). -/
def doReti (s : State) (e : Nat) : State :=
  let late := (s.eng e).poisonFlying
  let s := landAll (flushFetch s e) e
  let x := s.eng e
  let a := saveBase s e (x.save - 1)
  let m := localRead s e a 2048
  if late || m.2.1 then wedge m.2.2 e excPoisonLoad
  else
    let y := restoreFrom m.2.2 e m.1
    saveCycles (m.2.2.setEng e
      { y with save := x.save - 1, causes := x.causes.drop 1, edges := x.edges.drop 1, fresh := false }) e

/-- RETI outside a handler raises PRIV. -/
def opReti (r : Run) (e : Nat) : Run := if (r.s.eng e).save = 0 then r.fail excPriv else r

/-! ### Repeats (R306) -/

/-- RPT, whose LE must lie in the bank. One that replaces an active repeat leaves its pending write to the new one's tests;
where the body does not issue, the write takes effect (R309, R310; log 46). -/
def opRpt (r : Run) (e v : Nat) : Run :=
  let x := r.s.eng e
  let ls := x.pc
  let le := x.rep.le
  let n := v % 2 ^ 31
  if bankOf le.toNat ≠ bankOf ls.toNat ∨ le.toNat < ls.toNat ∨ !localOk r.s e le.toNat 1 1 then r.fail excAddress
  else
    let r := if n = 0 then r.map fun s => s.addCnt .ENG_CYCLES e 3 else r
    r.upd e fun x =>
      let x := { x with lbuf := [], lbufOk := false, lbufNext := false }
      -- R306: the cost of a branch that is not predicted
      if n = 0 then { x with pc := le + 64, rep := { x.rep.apply with ls := ls, active := false, edge := 0 } }
      else
        { x with rep := { x.rep with ls := ls, lc := BitVec.ofNat 32 (n - 1), active := true, irqOk := bitAt v 31, edge := 1 },
                 lbufOk := decide (le.toNat - ls.toNat < 32 * 64) }

/-- Write of LC (1), LS (2) or LE (3): pending in an active repeat, at once outside one (R309). -/
def writeRep (r : Run) (e reg v : Nat) : Run :=
  r.upd e fun x =>
    let p := { x.rep with pend := reg, pendVal := BitVec.ofNat 32 v, age := 0 }
    { x with rep := if x.rep.active then p else p.apply }

/-- A move to JUMP, CALL, RET or RPT as a command: in a delay slot it raises BRANCH_IN_SLOT (R270). -/
def branchMove (s : State) (e : Nat) (f : Run → Run) : State :=
  runMove s e fun r => if (s.eng e).br.isSome then r.fail excBranchInSlot else f r

/-! ### Code writes (R316–R318) -/

/-- The staged line. -/
def stagedLine (x : Eng) (e : Nat) : List Byte :=
  let w := busW e / 8
  ((List.range (64 / w)).map fun i => leBytes w (SMap.get (fun _ => (0 : BusVal)) x.cwd i).toNat).flatten

def opCodeWr (r : Run) (e t : Nat) : Run :=
  if !bitAt (engGrant r.s e) 1 then r.fail excPriv
  else if t % 64 ≠ 0 || !inCodeWindow r.s e t || !localOk r.s e t 64 64 then r.fail excAddress
  else
    let line := (stagedLine (r.s.eng e) e).map some
    r.map fun s => (bankWrite (flushFetch s e) e t line).updEng e fun x =>
      { x with lbuf := [], lbufOk := false, lbufNext := x.lbufOk || x.lbufNext }

/-! ### SYNC (R305) -/

def opSyncPush (r : Run) (e : Nat) : Run :=
  if (r.s.eng e).sync.length ≥ 4 then r.wait
  else
    (r.map fun s => zHandover s e).upd e fun x =>
      let writes := (x.xbCmd.filter fun c => bitAt c.toNat 63).length
      { x with sync := x.sync ++ [⟨(x.sbOf 0).length, (x.sbOf 1).length, (x.sbOf 2).length, writes⟩] }

/-- The oldest marker is complete. -/
def opSyncPop (r : Run) (e : Nat) : Run :=
  match (r.s.eng e).sync with
  | ⟨0, 0, 0, 0⟩ :: rest => r.upd e fun x => { x with sync := rest }
  | _ => r.wait

/-! ### Sleep (R33, R283) -/

/-- Work keeps a key engine awake: KE_KEEP, or a job that waits for an engine. A data engine of a provisioned slice never
sleeps (R32, R33). -/
def neverSleeps (s : State) (e : Nat) : Bool :=
  match engClass e with
  | 0 => sliceProvisioned s (e / 2)
  | 1 => bitAt (s.f PWR_CFG.KE_KEEP 0) (e - 64) || s.silo.jobs != []
  | _ => false

/-- The engine sleeps unless a line is pending; the last sleeping key engine may stop kclk (R33). -/
def goToSleep (s : State) (e : Nat) : State :=
  if anyLine s e || neverSleeps s e then s
  else
    let s := s.setF ENG_STATUS.STATE e engAsleep
    if engClass e = 1 then kclkEval s else s

/-! ### Control ports -/

def opPredFlush (r : Run) (e : Nat) : Run := r.upd e fun x => { x with predEmpty := true }
def opPredBar (r : Run) (e : Nat) : Run := r.upd e fun x => { x with predBar := true }
def opTrap (r : Run) : Run := r.fail excTrap

/-- ENG_CTL of the engine: NOPRED under the constant-time grant (R273). -/
def opNopred (r : Run) (e v : Nat) : Run :=
  if engClass e = 0 then r.fail excIllegalPort
  else if !bitAt (engGrant r.s e) 0 then r.fail excPriv
  else r.upd e fun x => { x with nopred := bitAt v 8 }

/-- DB_SEND: the target's DOORBELL takes the value and its line 1 is raised. -/
def opDbSend (r : Run) (e v : Nat) : Run :=
  if engClass e ≠ 2 then r.fail excIllegalPort
  else
    let t := v % 128
    if t ≥ 70 || engState r.s t == engOff then r
    else r.upd t fun x => { x with doorbell := BitVec.ofNat 32 (v / 2 ^ 32), dbHit := true }

/-- A read of DOORBELL clears it and releases line 1. -/
def opDoorbellRead (r : Run) (e : Nat) : Nat × Run :=
  ((r.s.eng e).doorbell.toNat, r.upd e fun x => { x with doorbell := 0, dbHit := false })

/-! ### Atomics (R319, R320) -/

/-- Load-reserved: response and reservation. An address that is no multiple of 8 leaves a free value (DESIGN CHOICE,
log 47). -/
def opLr (r : Run) (e a : Nat) : Run :=
  if engClass e = 0 then r.fail excIllegalPort
  else
    let a := a % 2 ^ 48
    match sramOffset r.s a 8 with
    | .error c => r.upd e fun x => { x with lrR := some (0, c), rsv := none }
    | .ok off =>
      let m := memRead r.s sramCtl off 8 0 e
      let f := if off % 8 = 0 then (leNat m.1, m.2.2) else let t := m.2.2.free 8; (leNat t.1, t.2)
      if m.2.1 then { r with s := m.2.2.updEng e fun x => { x with lrR := some (0, 3), rsv := none } }
      else { r with s := f.2.updEng e fun x => { x with lrR := some (BitVec.ofNat 64 f.1, 0), rsv := some (off / 64) } }

/-- Store-conditional: stored only under the reservation, which is lost either way. -/
def opSc (r : Run) (e v : Nat) : Run :=
  if engClass e = 0 then r.fail excIllegalPort
  else
    let x := r.s.eng e
    match sramOffset r.s (x.scA.toNat % 2 ^ 48) 8 with
    | .error c => r.upd e fun x => { x with scR := some (0, c), rsv := none }
    | .ok off =>
      if x.rsv = some (off / 64) then
        let m := sramWrite r.s off ((leBytes 8 v).map some) e
        { r with s := m.2.updEng e fun x => { x with scR := some (0, if m.1 then 3 else 0), rsv := none } }
      else r.upd e fun x => { x with scR := some (1, 0), rsv := none }

/-- Response taken from LR_R or SC_R: the value; a response that is not OKAY raises its exception in the reading bundle. -/
def takeResp (r : Run) (e : Nat) (p : Option (W64 × Nat)) (clear : Eng → Eng) (poison : Nat) : Nat × Run :=
  match p with
  | none => (0, r.wait)
  | some (v, 0) => (v.toNat, r.upd e clear)
  | some (_, 3) => (0, r.fail poison)
  | some _ => (0, r.fail excBus)

/-! ### Stream ports (R333, R334) -/

/-- Pop of a FIFO head. -/
def popFifo {α : Type} (r : Run) (e : Nat) (l : List α) (d : α) (set : Eng → List α → Eng) : α × Run :=
  match l with
  | [] => (d, r.wait)
  | v :: rest => (v, r.upd e fun x => set x rest)

/-- Push onto a FIFO tail of a depth. -/
def pushFifo {α : Type} (r : Run) (e : Nat) (l : List α) (depth : Nat) (v : α) (set : Eng → List α → Eng) : Run :=
  if l.length ≥ depth then r.wait else r.upd e fun x => set x (l ++ [v])

def opInDesc (r : Run) (e : Nat) : Nat × Run :=
  if engClass e ≠ 0 then (0, r.fail excIllegalPort)
  else let t := popFifo r e (r.s.eng e).inDesc 0 fun x l => x.setInputs (l ++ x.descFeed) (x.inData ++ x.dataFeed); (t.1.toNat, t.2)

def opInData (r : Run) (e : Nat) : Nat × Run :=
  if engClass e ≠ 0 then (0, r.fail excIllegalPort)
  else let t := popFifo r e (r.s.eng e).inData 0 fun x l => x.setInputs (x.inDesc ++ x.descFeed) (l ++ x.dataFeed); (t.1.toNat, t.2)

/-- Line frame, without FCS, of what an engine wrote of a unit: a bale gets its addresses and EtherType from the MAC. -/
def unitFrame (s : State) (c : Nat) (b : List Byte) : List Byte :=
  if chFraming s c = frBale then ctxBytes s Ctx.LINE_DA c ++ ctxBytes s Ctx.LINE_SA c ++ beBytes 2 (pmBaleEtype s) ++ b
  else b

/-- DISCARD of a completion descriptor. -/
def descDiscard (d : BusVal) : Bool := bitAt d.toNat 48

/-- A completion descriptor finds the transmit slot of its engine, TSLOT and channel: the slot is skipped, or holds what the
engine wrote; with no such slot the words are dropped. -/
def completeUnit (s : State) (e : Nat) (d : BusVal) (b : List Byte) : State :=
  let mine := fun (u : TxUnit) => u.eng == e && u.tslot == descSlot d && u.chan == descChan d && !u.discarded
  match s.ports.find? fun p => p.2.slots.any mine with
  | none => s
  | some p =>
    let fill := fun (u : TxUnit) =>
      if mine u then (if descDiscard d then { u with discarded := true } else { u with bytes := unitFrame s u.chan b }) else u
    s.setPort p.1 { p.2 with slots := p.2.slots.map fill }

/-- Words that the reorder stage holds of units without a completion descriptor: those of the longest unit (DESIGN CHOICE, log
99). -/
def reorderDepth : Nat := 4096

/-- The reorder stage takes words of OUT_DATA as they come, while it has room (R333). -/
def Eng.takeOut (x : Eng) : Eng :=
  let n := reorderDepth - x.outTaken.length
  { x with outTaken := x.outTaken ++ x.outData.take n, outData := x.outData.drop n }

/-- A completion descriptor whose words are there completes its unit (R334). -/
def reorderOne (s : State) (e : Nat) : State :=
  let x := (s.eng e).takeOut
  let s := s.setEng e x
  match x.outDesc with
  | [] => s
  | d :: rest =>
    let n := descWords d
    if x.outTaken.length < n then s
    else
      let b := ((x.outTaken.take n).map fun v => leBytes 16 v.toNat).flatten.take (descLen d)
      completeUnit (s.setEng e { x with outDesc := rest, outTaken := x.outTaken.drop n }) e d b

/-- The reorder stage takes what an engine has written, unit after unit. -/
def reorderTake (s : State) (e : Nat) : State :=
  (List.range ((s.eng e).outDesc.length + 1)).foldl (fun s _ => reorderOne s e) s

def opOutDesc (r : Run) (e v : Nat) : Run :=
  if engClass e ≠ 0 then r.fail excIllegalPort
  else (pushFifo r e (r.s.eng e).outDesc 8 (BitVec.ofNat 128 v) fun x l => { x with outDesc := l }).map fun s => reorderTake s e

def opOutData (r : Run) (e v : Nat) : Run :=
  if engClass e ≠ 0 then r.fail excIllegalPort
  else (pushFifo r e (r.s.eng e).outData 64 (BitVec.ofNat 128 v) fun x l => { x with outData := l }).map fun s => reorderTake s e

/-- Bits of a context word that the data plane may write (R124). -/
def dMask (w : Nat) : Nat :=
  ctxFields.foldl (fun m x => if x.cls = .d then m ||| fieldMask x w else m) 0

/-- Mask of 32 bits from four byte enables. -/
def byteMask (en : Nat) : Nat := (List.range 4).foldl (fun m i => if bitAt en i then m + 255 * 2 ^ (8 * i) else m) 0

/-- Write-back of a context line: class D bits of the bytes that the mask names; of a poisoned word dropped, with
CTX_POISON (R151). The places of the header's fields are those of CRD, with the mask in [127:64] (DEDUCED, log 48). -/
def ctxWriteBack (s : State) (hd : Nat) (data : List Nat) : State :=
  let c := bitsOf hd 0 14
  let base := 0x200 + 0x200 * bitsOf hd 16 1 + 64 * bitsOf hd 17 3
  (List.range 16).foldl (fun s i =>
    let w := base + 4 * i
    let m := dMask w &&& byteMask (bitsOf hd (64 + 4 * i) 4)
    if m = 0 then s
    else if poisoned s ctxCtl (ctxAddr s c w / 8) then
      (ctxStore s c w m (bitsOf (data.getD (i / 4) 0) (32 * (i % 4)) 32) codeData).raise CH_EVT.CTX_POISON c
    else ctxStore s c w m (bitsOf (data.getD (i / 4) 0) (32 * (i % 4)) 32) codeData) s

def opCtxWb (r : Run) (e v : Nat) : Run :=
  if engClass e ≠ 0 then r.fail excIllegalPort
  else
    (pushFifo r e (r.s.eng e).ctxWb 16 (BitVec.ofNat 128 v) fun x l => { x with ctxWb := l }).map fun s =>
      match (s.eng e).ctxWb with
      | h :: a :: b :: c :: d :: rest =>
        ctxWriteBack (s.updEng e fun x => { x with ctxWb := rest }) h.toNat [a.toNat, b.toNat, c.toNat, d.toNat]
      | _ => s

def opJob (r : Run) (e : Nat) : Nat × Run :=
  if engClass e ≠ 1 then (0, r.fail excIllegalPort)
  else let t := popFifo r e (r.s.eng e).job 0 fun x l =>
      { x with job := (l ++ x.jobFeed).take jobDepth, jobFeed := (l ++ x.jobFeed).drop jobDepth }; (t.1.toNat, t.2)

/-- A result word; the Silo takes words as they come (log 23). -/
def opJobRes (r : Run) (e v : Nat) : Run :=
  if engClass e ≠ 1 then r.fail excIllegalPort
  else
    (pushFifo r e (r.s.eng e).jobRes jobDepth (BitVec.ofNat 64 v) fun x l => { x with jobRes := l }).map fun s =>
      let t := siloTake s e
      match t.1 with
      | some (own, status) => jobAnswered t.2 own status
      | none => t.2

/-- Words enter XB_RD as it has room. -/
def Eng.setXbRd (x : Eng) (l : List (W64 × Bool)) : Eng := { x with xbRd := l.take xbRdDepth, xbFeed := l.drop xbRdDepth }

def opXbWd (r : Run) (e v : Nat) : Run :=
  if engClass e = 0 then r.fail excIllegalPort
  else pushFifo r e (r.s.eng e).xbWd 64 (BitVec.ofNat 64 v) fun x l => { x with xbWd := l }

/-- A read data word, or a response word; one that is not OKAY raises BUS. -/
def opXbRd (r : Run) (e : Nat) : Nat × Run :=
  if engClass e = 0 then (0, r.fail excIllegalPort)
  else
    match (r.s.eng e).xbRd with
    | [] => (0, r.wait)
    | (v, isResp) :: rest =>
      if isResp && v != 0 then (0, r.fail excBus) else (v.toNat, r.upd e fun x => x.setXbRd (rest ++ x.xbFeed))

def opEvtClaim (r : Run) (e : Nat) : Nat × Run :=
  if engClass e ≠ 2 then (0, r.fail excIllegalPort)
  else let t := claim r.s (e - 68) (fun _ => true); (t.1, { r with s := t.2 })

def opEvtDone (r : Run) (e v : Nat) : Run :=
  if engClass e ≠ 2 then r.fail excIllegalPort else r.map fun s => complete s (e - 68) v

end Sys2Proof.Machine
end

