-- ==== Sys2Proof/Machine/EngCycle.lean ====
section
/-! DEFINITION. The end of an issue cycle, interrupt acceptance, loading and reset of engines, waking (R257, R268,
R275–R279, R283, R287, R371, R373, R395). -/

namespace Sys2Proof.Machine

/-! ### Issue cycles -/

/-- An issue cycle ends: what was due lands, in trigger order; a poisoned load raises POISON_LOAD (R257, R284). -/
def endCycle (s : State) (e : Nat) : State :=
  let poison := (s.eng e).fly.any fun f => f.left ≤ 1 && f.eff == .poison
  let s := unitCycle (s.updEng e fun x =>
    { x with rep := { x.rep with age := if x.rep.pend = 0 then 0 else min 2 (x.rep.age + 1) } }) e
  if poison then takeException s e excPoisonLoad else s

/-- A blocking unit finishes (R268). -/
def blockDone (s : State) (e : Nat) : State :=
  match (s.eng e).blocked with
  | none => s
  | some effs => effs.foldl (fun s f => landEff s e f) (s.updEng e fun x => { x with blocked := none })

/-! ### Interrupts (R275–R277) -/

/-- The boundary before the bundle due is an acceptance point, and interrupts are enabled (R276). -/
def acceptPoint (s : State) (e : Nat) : Bool :=
  let x := s.eng e
  engState s e == engRunning && x.ie && x.save == 0 && x.blocked.isNone && x.br.isNone &&
    (!x.rep.active || x.rep.edge == 1 || (x.rep.edge == 2 && x.rep.irqOk))

/-- The lowest pending line is accepted. -/
def acceptIrq (s : State) (e : Nat) : State :=
  if !acceptPoint s e then s
  else
    match (List.range 8).find? fun l => linePending s e l with
    | none => s
    | some l =>
      let s := s.inc .ENG_IRQ_TAKEN e
      if (s.eng e).poisonFlying then wedge (s.updEng e fun x => { x with causes := 0 :: x.causes }) e excPoisonLoad
      else enterHandler s e 0 0 0 l

/-! ### Loading (R371, R373, R395) -/

/-- Segments of an image into the banks of an engine: its head has the descriptors from byte 32, and `code` holds their bytes,
each padded to 64. -/
def loadSegments (s : State) (e : Nat) (head code : List Byte) : State :=
  ((List.range (leAt head 28 2)).foldl (fun (p : Nat × State) i =>
    let len := leAt head (36 + 8 * i) 4
    (p.1 + ceilDiv len 64 * 64, (memWrite p.2 e (leAt head (32 + 8 * i) 4) ((sliceAt code p.1 len).map some) 0x53).2))
    (0, s)).2

/-- The bytes of an image's segments as an engine gets them: a data engine reads them from the code store, the others get them
from the flash (R373). -/
def imageCode (s : State) (e : Nat) (x : Section) : List Byte × State :=
  if e < 64 then
    let p := imagePlace s e
    let m := memRead s sramCtl p.1 p.2 0 e
    (m.1, m.2.2)
  else (x.bytes.drop (32 + 8 * leAt x.bytes 28 2), s)

/-- An engine takes the code of its image and runs from its entry bundle; a poisoned image puts it into WEDGED, and an
ACTIVE twin member with a data engine of a provisioned slice in WEDGED relinquishes (R243, R395). No load ends WEDGED (R285). -/
def startEngine (s : State) (e : Nat) : State :=
  match codeImage (codeSheaf s e) e with
  | none => s
  | some x =>
    if engState s e = engWedged then s
    else if imageBad s e then
      let s := (((imageLook s e).setF ENG_STATUS.STATE e engWedged).setF ENG_EXC.CODE e excPoisonFetch).raise ENG_EVT.WEDGED e
      if e < 64 && sliceProvisioned s (e / 2) then relinquish s foRelinquish else s
    else
      let b := x.bytes
      let w := fun (o : Nat) => BitVec.ofNat 32 (leAt b o 4)
      let t := imageCode s e x
      let s := loadSegments t.2 e b t.1
      let s := (s.setEng e { (s.eng e).cleared with pc := w 12, ivb := w 16, stkLim := w 20, stkTop := w 24, sp := w 24 }).setF
        ENG_STATUS.STATE e engRunning
      if engClass e = 1 then dispatchJobs s else s

/-- LOADING is entered: key and management engines wait for their code, but for those in WEDGED (R285, R290). -/
def enginesLoad (s : State) : State :=
  (List.range 6).foldl (fun s i =>
    if engState s (64 + i) = engWedged then s else s.setF ENG_STATUS.STATE (64 + i) engLoading) s

/-- An engine is reset: its banks and what it holds are cleared, its exception registers too, until its code is loaded again
(R287, R380). -/
def resetEngine (s : State) (e : Nat) : State :=
  let s := (clearRegion s e).setEng e (s.eng e).cleared
  ((s.setReg .ENG_EXC e 0).setReg .ENG_EXC_PC e 0).setF ENG_STATUS.STATE e engResetting

/-- Write of `ENG_CTL` in an engine's window: per-engine reset and counter clear (R287, R290). -/
def engCtlWrite (s : State) (e v : Nat) : State :=
  let s := if bitAt v 0 then engCounters.foldl (fun s c => s.setCnt c e 0) s else s
  if bitAt v 31 then
    if engState s e = engWedged || (e < 64 && sliceDrained s (e / 2) && s.mode == modeMaintenance) then
      let s := resetEngine s e
      if e ≥ 68 then targetsChanged s else s
    else s.raise ENG_EVT.CTL_IGNORED e
  else s

/-- The reset engine runs again; one of a slice that is not provisioned is off. -/
def resetDone (s : State) (e : Nat) : State :=
  if engState s e ≠ engResetting then s
  else if e < 64 && !(s.slice (e / 2)).powered then s.setF ENG_STATUS.STATE e engOff
  else
    let s := startEngine s e
    if engState s e = engRunning then
      let s := s.raise ENG_EVT.RESET_DONE e
      if e ≥ 68 then targetsChanged s else s
    else s

/-! ### Waking (R33, R283) -/

/-- kclk runs locked. -/
def kclkLocked (s : State) : Bool := s.fb CLK_STATUS.K_LOCK 0

/-- A sleeping engine wakes; a key engine needs kclk, whose PLL starts first. -/
def wakeEngine (s : State) (e : Nat) : State :=
  if engState s e ≠ engAsleep then s
  else if engClass e = 1 && !kclkLocked s then { s with pllRun := setAt s.pllRun 1 true }
  else s.setF ENG_STATUS.STATE e engRunning

/-- A powered slice has loaded its engines' code: READY of its ports follows (R33, R53, R395). -/
def sliceWake (s : State) (sl : Nat) : State :=
  if !(s.slice sl).powered || (s.slice sl).ready then s
  else
    let was := fun (e : Nat) => engState s e == engWedged
    let s := s.setF CLK_STATUS.D_LOCK 0 1
    let s := startEngine (startEngine s (2 * sl)) (2 * sl + 1)
    let bad := (!was (2 * sl) && engState s (2 * sl) == engWedged) || (!was (2 * sl + 1) && engState s (2 * sl + 1) == engWedged)
    let s := s.setSlice sl { s.slice sl with ready := !bad, failed := bad }
    (List.range 64).foldl (fun s p => if provisioned s p && (portSlices s p).contains sl then readyEval s p else s) s

end Sys2Proof.Machine
end

