-- ==== Sys2Proof/Machine/EngRows.lean ====
section
/-! DEFINITION. The commands of the Drijo engines: one trigger, stream access or event of an engine each (R254–R362). A
command acts on an engine that runs and that no blocking unit holds; else the move stalls and nothing happens. -/

namespace Sys2Proof.Machine

/-! ### ALU (R322) -/

def execAdd (e : Fin 70) (i : Fin 8) (fm : Form) (t : BusVal) (s : State) : Host.Outcome State Fault Refusal :=
  .next (trigger s e kAlu i (.alu .add fm) t.toNat)

def execSub (e : Fin 70) (i : Fin 8) (fm : Form) (t : BusVal) (s : State) : Host.Outcome State Fault Refusal :=
  .next (trigger s e kAlu i (.alu .sub fm) t.toNat)

def execAdds (e : Fin 70) (i : Fin 8) (fm : Form) (t : BusVal) (s : State) : Host.Outcome State Fault Refusal :=
  .next (trigger s e kAlu i (.alu .adds fm) t.toNat)

def execSubs (e : Fin 70) (i : Fin 8) (fm : Form) (t : BusVal) (s : State) : Host.Outcome State Fault Refusal :=
  .next (trigger s e kAlu i (.alu .subs fm) t.toNat)

def execAddus (e : Fin 70) (i : Fin 8) (fm : Form) (t : BusVal) (s : State) : Host.Outcome State Fault Refusal :=
  .next (trigger s e kAlu i (.alu .addus fm) t.toNat)

def execSubus (e : Fin 70) (i : Fin 8) (fm : Form) (t : BusVal) (s : State) : Host.Outcome State Fault Refusal :=
  .next (trigger s e kAlu i (.alu .subus fm) t.toNat)

def execNeg (e : Fin 70) (i : Fin 8) (fm : Form) (t : BusVal) (s : State) : Host.Outcome State Fault Refusal :=
  .next (trigger s e kAlu i (.alu .neg fm) t.toNat)

def execNegs (e : Fin 70) (i : Fin 8) (fm : Form) (t : BusVal) (s : State) : Host.Outcome State Fault Refusal :=
  .next (trigger s e kAlu i (.alu .negs fm) t.toNat)

def execAbs (e : Fin 70) (i : Fin 8) (fm : Form) (t : BusVal) (s : State) : Host.Outcome State Fault Refusal :=
  .next (trigger s e kAlu i (.alu .abs fm) t.toNat)

def execAbss (e : Fin 70) (i : Fin 8) (fm : Form) (t : BusVal) (s : State) : Host.Outcome State Fault Refusal :=
  .next (trigger s e kAlu i (.alu .abss fm) t.toNat)

def execMin (e : Fin 70) (i : Fin 8) (fm : Form) (t : BusVal) (s : State) : Host.Outcome State Fault Refusal :=
  .next (trigger s e kAlu i (.alu .min fm) t.toNat)

def execMax (e : Fin 70) (i : Fin 8) (fm : Form) (t : BusVal) (s : State) : Host.Outcome State Fault Refusal :=
  .next (trigger s e kAlu i (.alu .max fm) t.toNat)

def execMinu (e : Fin 70) (i : Fin 8) (fm : Form) (t : BusVal) (s : State) : Host.Outcome State Fault Refusal :=
  .next (trigger s e kAlu i (.alu .minu fm) t.toNat)

def execMaxu (e : Fin 70) (i : Fin 8) (fm : Form) (t : BusVal) (s : State) : Host.Outcome State Fault Refusal :=
  .next (trigger s e kAlu i (.alu .maxu fm) t.toNat)

def execAnd (e : Fin 70) (i : Fin 8) (t : BusVal) (s : State) : Host.Outcome State Fault Refusal :=
  .next (trigger s e kAlu i (.alu .and .d) t.toNat)

def execOr (e : Fin 70) (i : Fin 8) (t : BusVal) (s : State) : Host.Outcome State Fault Refusal :=
  .next (trigger s e kAlu i (.alu .or .d) t.toNat)

def execXor (e : Fin 70) (i : Fin 8) (t : BusVal) (s : State) : Host.Outcome State Fault Refusal :=
  .next (trigger s e kAlu i (.alu .xor .d) t.toNat)

def execAndn (e : Fin 70) (i : Fin 8) (t : BusVal) (s : State) : Host.Outcome State Fault Refusal :=
  .next (trigger s e kAlu i (.alu .andn .d) t.toNat)

def execNot (e : Fin 70) (i : Fin 8) (t : BusVal) (s : State) : Host.Outcome State Fault Refusal :=
  .next (trigger s e kAlu i (.alu .not .d) t.toNat)

def execPass (e : Fin 70) (i : Fin 8) (t : BusVal) (s : State) : Host.Outcome State Fault Refusal :=
  .next (trigger s e kAlu i (.alu .pass .d) t.toNat)

def execClz (e : Fin 70) (i : Fin 8) (fm : Form) (t : BusVal) (s : State) : Host.Outcome State Fault Refusal :=
  .next (trigger s e kAlu i (.alu .clz fm) t.toNat)

def execPopc (e : Fin 70) (i : Fin 8) (fm : Form) (t : BusVal) (s : State) : Host.Outcome State Fault Refusal :=
  .next (trigger s e kAlu i (.alu .popc fm) t.toNat)

def execBswap (e : Fin 70) (i : Fin 8) (fm : Form) (t : BusVal) (s : State) : Host.Outcome State Fault Refusal :=
  .next (trigger s e kAlu i (.alu .bswap fm) t.toNat)

/-! ### Shift, compare, multiply, divide (R323–R326) -/

def execShl (e : Fin 70) (i : Fin 3) (fm : Form) (t : BusVal) (s : State) : Host.Outcome State Fault Refusal :=
  .next (trigger s e kShift i (.sh .shl fm) t.toNat)

def execShr (e : Fin 70) (i : Fin 3) (fm : Form) (t : BusVal) (s : State) : Host.Outcome State Fault Refusal :=
  .next (trigger s e kShift i (.sh .shr fm) t.toNat)

def execSar (e : Fin 70) (i : Fin 3) (fm : Form) (t : BusVal) (s : State) : Host.Outcome State Fault Refusal :=
  .next (trigger s e kShift i (.sh .sar fm) t.toNat)

def execRol (e : Fin 70) (i : Fin 3) (fm : Form) (t : BusVal) (s : State) : Host.Outcome State Fault Refusal :=
  .next (trigger s e kShift i (.sh .rol fm) t.toNat)

def execRor (e : Fin 70) (i : Fin 3) (fm : Form) (t : BusVal) (s : State) : Host.Outcome State Fault Refusal :=
  .next (trigger s e kShift i (.sh .ror fm) t.toNat)

def execCmpEq (e : Fin 70) (i : Fin 3) (fm : Form) (t : BusVal) (s : State) : Host.Outcome State Fault Refusal :=
  .next (trigger s e kCmp i (.cmp .eq fm) t.toNat)

def execCmpNe (e : Fin 70) (i : Fin 3) (fm : Form) (t : BusVal) (s : State) : Host.Outcome State Fault Refusal :=
  .next (trigger s e kCmp i (.cmp .ne fm) t.toNat)

def execCmpLt (e : Fin 70) (i : Fin 3) (fm : Form) (t : BusVal) (s : State) : Host.Outcome State Fault Refusal :=
  .next (trigger s e kCmp i (.cmp .lt fm) t.toNat)

def execCmpLe (e : Fin 70) (i : Fin 3) (fm : Form) (t : BusVal) (s : State) : Host.Outcome State Fault Refusal :=
  .next (trigger s e kCmp i (.cmp .le fm) t.toNat)

def execCmpLtu (e : Fin 70) (i : Fin 3) (fm : Form) (t : BusVal) (s : State) : Host.Outcome State Fault Refusal :=
  .next (trigger s e kCmp i (.cmp .ltu fm) t.toNat)

def execCmpLeu (e : Fin 70) (i : Fin 3) (fm : Form) (t : BusVal) (s : State) : Host.Outcome State Fault Refusal :=
  .next (trigger s e kCmp i (.cmp .leu fm) t.toNat)

def execBtst (e : Fin 70) (i : Fin 3) (fm : Form) (t : BusVal) (s : State) : Host.Outcome State Fault Refusal :=
  .next (trigger s e kCmp i (.cmp .btst fm) t.toNat)

def execMul (e : Fin 70) (i : Fin 2) (t : BusVal) (s : State) : Host.Outcome State Fault Refusal :=
  .next (trigger s e kMul i (.mul .mul) t.toNat)

def execMuls (e : Fin 70) (i : Fin 2) (t : BusVal) (s : State) : Host.Outcome State Fault Refusal :=
  .next (trigger s e kMul i (.mul .muls) t.toNat)

def execMulh (e : Fin 70) (i : Fin 2) (t : BusVal) (s : State) : Host.Outcome State Fault Refusal :=
  .next (trigger s e kMul i (.mul .mulh) t.toNat)

def execMulhu (e : Fin 70) (i : Fin 2) (t : BusVal) (s : State) : Host.Outcome State Fault Refusal :=
  .next (trigger s e kMul i (.mul .mulhu) t.toNat)

def execMulw (e : Fin 70) (i : Fin 2) (t : BusVal) (s : State) : Host.Outcome State Fault Refusal :=
  .next (trigger s e kMul i (.mul .mulw) t.toNat)

def execMulwu (e : Fin 70) (i : Fin 2) (t : BusVal) (s : State) : Host.Outcome State Fault Refusal :=
  .next (trigger s e kMul i (.mul .mulwu) t.toNat)

def execDiv (e : Fin 70) (fm : Form) (t : BusVal) (s : State) : Host.Outcome State Fault Refusal :=
  .next (trigger s e kDiv 0 (.div .div fm) t.toNat)

def execDivu (e : Fin 70) (fm : Form) (t : BusVal) (s : State) : Host.Outcome State Fault Refusal :=
  .next (trigger s e kDiv 0 (.div .divu fm) t.toNat)

def execDivs (e : Fin 70) (fm : Form) (t : BusVal) (s : State) : Host.Outcome State Fault Refusal :=
  .next (trigger s e kDiv 0 (.div .divs fm) t.toNat)

/-! ### AES, GHASH, CRC, context, hash, complications (R328–R337) -/

def execKld128 (e : Fin 70) (i : Fin 2) (t : BusVal) (s : State) : Host.Outcome State Fault Refusal :=
  .next (trigger s e kAes i (.kld false) t.toNat)

def execKld256 (e : Fin 70) (i : Fin 2) (t : BusVal) (s : State) : Host.Outcome State Fault Refusal :=
  .next (trigger s e kAes i (.kld true) t.toNat)

def execEnc128 (e : Fin 70) (i : Fin 2) (t : BusVal) (s : State) : Host.Outcome State Fault Refusal :=
  .next (trigger s e kAes i (.enc false) t.toNat)

def execEnc256 (e : Fin 70) (i : Fin 2) (t : BusVal) (s : State) : Host.Outcome State Fault Refusal :=
  .next (trigger s e kAes i (.enc true) t.toNat)

def execDec128 (e : Fin 70) (i : Fin 2) (t : BusVal) (s : State) : Host.Outcome State Fault Refusal :=
  .next (trigger s e kAes i (.dec false) t.toNat)

def execDec256 (e : Fin 70) (i : Fin 2) (t : BusVal) (s : State) : Host.Outcome State Fault Refusal :=
  .next (trigger s e kAes i (.dec true) t.toNat)

def execCtr128 (e : Fin 70) (i : Fin 2) (t : BusVal) (s : State) : Host.Outcome State Fault Refusal :=
  .next (trigger s e kAes i (.ctr false) t.toNat)

def execCtr256 (e : Fin 70) (i : Fin 2) (t : BusVal) (s : State) : Host.Outcome State Fault Refusal :=
  .next (trigger s e kAes i (.ctr true) t.toNat)

def execHset (e : Fin 70) (i : Fin 2) (t : BusVal) (s : State) : Host.Outcome State Fault Refusal :=
  .next (trigger s e kGhash i .hset t.toNat)

def execGacc (e : Fin 70) (i : Fin 2) (j : Fin 2) (t : BusVal) (s : State) : Host.Outcome State Fault Refusal :=
  .next (trigger s e kGhash i (.gacc j) t.toNat)

def execGclr (e : Fin 70) (i : Fin 2) (j : Fin 2) (s : State) : Host.Outcome State Fault Refusal :=
  .next (trigger s e kGhash i (.gclr j) 0)

def execCrcInit (e : Fin 70) (i : Fin 2) (s : State) : Host.Outcome State Fault Refusal :=
  .next (trigger s e kCrc i .crcInit 0)

/-- Bytes of a CRC feed. -/
def crcLen : CrcLen → Nat
  | .n1 => 1 | .n4 => 4 | .n8 => 8 | .n16 => 16

def execCrcFeed (e : Fin 70) (i : Fin 2) (n : CrcLen) (t : BusVal) (s : State) : Host.Outcome State Fault Refusal :=
  .next (trigger s e kCrc i (.crcFeed (crcLen n)) t.toNat)

def execCrd (e : Fin 70) (t : BusVal) (s : State) : Host.Outcome State Fault Refusal :=
  .next (trigger s e kCtx 0 .crd t.toNat)

def execHashLookup (e : Fin 70) (t : BusVal) (s : State) : Host.Outcome State Fault Refusal :=
  .next (trigger s e kHash 0 .hash t.toNat)

def execComplicationTrigger (e : Fin 70) (k : Fin 4) (op : Fin 4) (t : BusVal) (s : State) : Host.Outcome State Fault Refusal :=
  .next (trigger s e kCompl k (.compl op) t.toNat)

/-- A socket reports an integrity fault or a function fault (R337). -/
def execComplicationFault (e : Fin 70) (k : Fin 4) (integrity : Bool) (s : State) : Host.Outcome State Fault Refusal :=
  .next (if e.val < 64 then s.updEng e fun x => { x with cfault := putBits x.cfault (2 * k + (if integrity then 0 else 1)) 1 1 } else s)

/-! ### Key engine units (R339–R359) -/

def execMacClr (e : Fin 70) (i : Fin 2) (ctl : W64) (s : State) : Host.Outcome State Fault Refusal :=
  .next (trigger s e kMac i .mac (ctl.toNat / 16 * 16 + 0))

def execMacMac (e : Fin 70) (i : Fin 2) (ctl : W64) (s : State) : Host.Outcome State Fault Refusal :=
  .next (trigger s e kMac i .mac (ctl.toNat / 16 * 16 + 1))

def execMacMsu (e : Fin 70) (i : Fin 2) (ctl : W64) (s : State) : Host.Outcome State Fault Refusal :=
  .next (trigger s e kMac i .mac (ctl.toNat / 16 * 16 + 2))

def execMacMul (e : Fin 70) (i : Fin 2) (ctl : W64) (s : State) : Host.Outcome State Fault Refusal :=
  .next (trigger s e kMac i .mac (ctl.toNat / 16 * 16 + 3))

def execMacAddx (e : Fin 70) (i : Fin 2) (ctl : W64) (s : State) : Host.Outcome State Fault Refusal :=
  .next (trigger s e kMac i .mac (ctl.toNat / 16 * 16 + 4))

def execMacLdx (e : Fin 70) (i : Fin 2) (ctl : W64) (s : State) : Host.Outcome State Fault Refusal :=
  .next (trigger s e kMac i .mac (ctl.toNat / 16 * 16 + 5))

def execMacStz (e : Fin 70) (i : Fin 2) (ctl : W64) (s : State) : Host.Outcome State Fault Refusal :=
  .next (trigger s e kMac i .mac (ctl.toNat / 16 * 16 + 6))

def execMacStr (e : Fin 70) (i : Fin 2) (ctl : W64) (s : State) : Host.Outcome State Fault Refusal :=
  .next (trigger s e kMac i .mac (ctl.toNat / 16 * 16 + 7))

def execMacStzr (e : Fin 70) (i : Fin 2) (ctl : W64) (s : State) : Host.Outcome State Fault Refusal :=
  .next (trigger s e kMac i .mac (ctl.toNat / 16 * 16 + 8))

def execMacRda (e : Fin 70) (i : Fin 2) (ctl : W64) (s : State) : Host.Outcome State Fault Refusal :=
  .next (trigger s e kMac i .mac (ctl.toNat / 16 * 16 + 9))

def execMacWra (e : Fin 70) (i : Fin 2) (ctl : W64) (s : State) : Host.Outcome State Fault Refusal :=
  .next (trigger s e kMac i .mac (ctl.toNat / 16 * 16 + 10))

def execMacClrf (e : Fin 70) (i : Fin 2) (ctl : W64) (s : State) : Host.Outcome State Fault Refusal :=
  .next (trigger s e kMac i .mac (ctl.toNat / 16 * 16 + 11))

def execButterflyCt (e : Fin 70) (i : Fin 2) (ctl : W64) (s : State) : Host.Outcome State Fault Refusal :=
  .next (trigger s e kBf i .bf (ctl.toNat / 4 * 4 + 0))

def execButterflyGs (e : Fin 70) (i : Fin 2) (ctl : W64) (s : State) : Host.Outcome State Fault Refusal :=
  .next (trigger s e kBf i .bf (ctl.toNat / 4 * 4 + 1))

def execKf (e : Fin 70) (a : Word) (s : State) : Host.Outcome State Fault Refusal :=
  .next (trigger s e kKeccak 0 .kf a.toNat)

def execMmp (e : Fin 70) (a : Word) (s : State) : Host.Outcome State Fault Refusal :=
  .next (trigger s e kP384 0 .mmp a.toNat)

def execMmn (e : Fin 70) (a : Word) (s : State) : Host.Outcome State Fault Refusal :=
  .next (trigger s e kP384 0 .mmn a.toNat)

def execComp (e : Fin 70) (a : Word) (s : State) : Host.Outcome State Fault Refusal :=
  .next (trigger s e kSha 0 .comp a.toNat)

def execSamplerInit (e : Fin 70) (s : State) : Host.Outcome State Fault Refusal :=
  .next (trigger s e kSamp 0 .sInit 0)

def execSamplerStep (e : Fin 70) (s : State) : Host.Outcome State Fault Refusal :=
  .next (trigger s e kSamp 0 .sStep 0)

def execDrbgSeed (e : Fin 70) (a : Word) (s : State) : Host.Outcome State Fault Refusal :=
  .next (trigger s e kDrbg 0 .seed a.toNat)

def execDrbgGen (e : Fin 70) (s : State) : Host.Outcome State Fault Refusal :=
  .next (trigger s e kDrbg 0 .gen 0)

def execDrbgEnd (e : Fin 70) (s : State) : Host.Outcome State Fault Refusal :=
  .next (trigger s e kDrbg 0 .fin 0)

/-! ### Banks (R312–R315) -/

/-- Number of a bank. -/
def bankIdx : Bank → Nat
  | .a => 0 | .b => 1 | .c => 2

def execLd (e : Fin 70) (bk : Bank) (a : Word) (s : State) : Host.Outcome State Fault Refusal :=
  .next (trigger s e kLs (bankIdx bk) .ld a.toNat)

def execSt (e : Fin 70) (bk : Bank) (v : BusVal) (s : State) : Host.Outcome State Fault Refusal :=
  .next (trigger s e kLs (bankIdx bk) .st v.toNat)

def execStoreBufferDrain (e : Fin 70) (bk : Bank) (s : State) : Host.Outcome State Fault Refusal :=
  .next (drainOne s e (bankIdx bk))

/-! ### Program control (R283, R302–R311, R317): the pc stands at the bundle after the one that holds the move -/

def execJump (e : Fin 70) (t : Word) (s : State) : Host.Outcome State Fault Refusal :=
  .next (branchMove s e fun r => opJump r e t.toNat)

def execCall (e : Fin 70) (t : Word) (s : State) : Host.Outcome State Fault Refusal :=
  .next (branchMove s e fun r => opCall r e t.toNat)

def execRet (e : Fin 70) (s : State) : Host.Outcome State Fault Refusal :=
  .next (branchMove s e fun r => opRet r e)

def execReti (e : Fin 70) (s : State) : Host.Outcome State Fault Refusal :=
  .next (runMove s e fun r => (opReti r e).map fun s => doReti s e)

def execCodeWr (e : Fin 70) (t : Word) (s : State) : Host.Outcome State Fault Refusal :=
  .next (runMove s e fun r => opCodeWr r e t.toNat)

def execSyncPush (e : Fin 70) (s : State) : Host.Outcome State Fault Refusal :=
  .next (runMove s e fun r => opSyncPush r e)

def execSyncPop (e : Fin 70) (g : Fin 64) (s : State) : Host.Outcome State Fault Refusal :=
  .next (runMove s e fun r => (opSyncPop r e).upd e fun x => x.setG g 0)

def execWait (e : Fin 70) (s : State) : Host.Outcome State Fault Refusal :=
  .next (runMove s e fun r => r.map fun s => goToSleep s e)

def execRpt (e : Fin 70) (v : Word) (s : State) : Host.Outcome State Fault Refusal :=
  .next (branchMove s e fun r => opRpt r e v.toNat)

def execPredFlush (e : Fin 70) (s : State) : Host.Outcome State Fault Refusal :=
  .next (runMove s e fun r => opPredFlush r e)

def execPredBar (e : Fin 70) (s : State) : Host.Outcome State Fault Refusal :=
  .next (runMove s e fun r => opPredBar r e)

def execTrap (e : Fin 70) (s : State) : Host.Outcome State Fault Refusal :=
  .next (runMove s e fun r => opTrap r)

def execNopredWrite (e : Fin 70) (v : Word) (s : State) : Host.Outcome State Fault Refusal :=
  .next (runMove s e fun r => opNopred r e v.toNat)

def execDbSend (e : Fin 70) (v : W64) (s : State) : Host.Outcome State Fault Refusal :=
  .next (runMove s e fun r => opDbSend r e v.toNat)

/-- A value read by a move whose destination is g`g`. -/
def toG (e g : Nat) (p : Nat × Run) : Run := p.2.upd e fun x => x.setG g (p.1 % 2 ^ busW e)

def execDoorbellRead (e : Fin 70) (g : Fin 64) (s : State) : Host.Outcome State Fault Refusal :=
  .next (runMove s e fun r => toG e g (opDoorbellRead r e))

def execLr (e : Fin 70) (a : W64) (s : State) : Host.Outcome State Fault Refusal :=
  .next (runMove s e fun r => opLr r e a.toNat)

def execSc (e : Fin 70) (v : W64) (s : State) : Host.Outcome State Fault Refusal :=
  .next (runMove s e fun r => opSc r e v.toNat)

/-! ### Stream ports (R333) -/

def execInDesc (e : Fin 70) (g : Fin 64) (s : State) : Host.Outcome State Fault Refusal :=
  .next (runMove s e fun r => toG e g (opInDesc r e))

def execInData (e : Fin 70) (g : Fin 64) (s : State) : Host.Outcome State Fault Refusal :=
  .next (runMove s e fun r => toG e g (opInData r e))

def execJob (e : Fin 70) (g : Fin 64) (s : State) : Host.Outcome State Fault Refusal :=
  .next (runMove s e fun r => toG e g (opJob r e))

def execEvtClaim (e : Fin 70) (g : Fin 64) (s : State) : Host.Outcome State Fault Refusal :=
  .next (runMove s e fun r => toG e g (opEvtClaim r e))

def execOutDesc (e : Fin 70) (v : BusVal) (s : State) : Host.Outcome State Fault Refusal :=
  .next (runMove s e fun r => opOutDesc r e v.toNat)

def execOutData (e : Fin 70) (v : BusVal) (s : State) : Host.Outcome State Fault Refusal :=
  .next (runMove s e fun r => opOutData r e v.toNat)

def execCtxWb (e : Fin 70) (v : BusVal) (s : State) : Host.Outcome State Fault Refusal :=
  .next (runMove s e fun r => opCtxWb r e v.toNat)

def execJobRes (e : Fin 70) (v : W64) (s : State) : Host.Outcome State Fault Refusal :=
  .next (runMove s e fun r => opJobRes r e v.toNat)

def execEvtDone (e : Fin 70) (v : W64) (s : State) : Host.Outcome State Fault Refusal :=
  .next (runMove s e fun r => opEvtDone r e v.toNat)

/-! ### Events of an engine -/

/-- An issue cycle ends (R257). -/
def execUnitResultLand (e : Fin 70) (s : State) : Host.Outcome State Fault Refusal :=
  .next (if engState s e = engRunning && (s.eng e).blocked.isNone then endCycle s e else s)

/-- R268. -/
def execBlockingOpDone (e : Fin 70) (s : State) : Host.Outcome State Fault Refusal :=
  .next (if engState s e = engRunning then blockDone s e else s)

/-- R277. -/
def execInterruptAccept (e : Fin 70) (s : State) : Host.Outcome State Fault Refusal :=
  .next (acceptIrq s e)

/-- R284. -/
def execException (e : Fin 70) (code : BitVec 8) (s : State) : Host.Outcome State Fault Refusal :=
  .next (if 1 ≤ code.toNat ∧ code.toNat ≤ 12 then takeException s e code.toNat else s)

/-- R287. -/
def execEngineReset (m : Master) (v : Word) (s : State) : Host.Outcome State Fault Refusal :=
  .next (whenUp s .ENG fun s => inWindow s .eng m fun e s => engCtlWrite s e v.toNat)

/-- R290. -/
def execEngCntClr (m : Master) (v : Word) (s : State) : Host.Outcome State Fault Refusal :=
  .next (whenUp s .ENG fun s => inWindow s .eng m fun e s => engCtlWrite s e v.toNat)

/-- R287. -/
def execEngineResetDone (e : Fin 70) (s : State) : Host.Outcome State Fault Refusal :=
  .next (resetDone s e)

/-- TIMER has counted to zero (R300). -/
def execEngineTimerExpiry (e : Fin 70) (s : State) : Host.Outcome State Fault Refusal :=
  .next (if (s.eng e).timer = 0 then s else s.updEng e fun x => { x with timer := 0, timerHit := true })

/-- R283. -/
def execEngineWake (e : Fin 70) (line : Fin 8) (s : State) : Host.Outcome State Fault Refusal :=
  .next (if linePending s e line then wakeEngine s e else s)

/-- R33. -/
def execKeyEngineWake (k : Fin 4) (s : State) : Host.Outcome State Fault Refusal :=
  .next (wakeEngine s (64 + k))

/-- R33. -/
def execSliceWakeDone (sl : Fin 32) (s : State) : Host.Outcome State Fault Refusal :=
  .next (sliceWake s sl)

/-- R320. -/
def execLrReservationTimeout (e : Fin 70) (s : State) : Host.Outcome State Fault Refusal :=
  .next (s.updEng e fun x => { x with rsv := none })

end Sys2Proof.Machine
end

