-- ==== Sys2Proof/Machine/Links.lean ====
section
/-! DEFINITION. Link state of ports and what depends on it: alignment, holds, lane failures, received fault ordered sets
(R59–R61, R77), and PORT_CTL requests, whose acceptance can take a link down (R53). -/

namespace Sys2Proof.Machine

/-- What follows when a line port's link goes down: sessions fail, the adjacency ends, and an ACTIVE twin member with
FO_LINK relinquishes (R197, R228, R243). -/
def lineLinkDown (s : State) (p : Nat) (failover : Bool) : State :=
  let s := neighLost (hsLineLost s p) (p - 32)
  if failover && s.fb TWN_CFG.FO_LINK 0 then relinquish s foRelinquish else s

/-- LINK is set (R59). -/
def linkSet (s : State) (p : Nat) : State :=
  let s := (s.setF PORT_STATUS.LINK p 1).raise PORT_EVT.LINK_UP p
  if isLine p then hsLineUp s p else s

/-- LINK clears at the end of a down-hold; a later recovery runs every stage (R60). -/
def linkClear (s : State) (p : Nat) : State :=
  let s := ((s.setF PORT_STATUS.HOLD p 0).setF PORT_STATUS.LINK p 0).raise PORT_EVT.LINK_DOWN p
  let s := s.setPort p { s.port p with adapted := false }
  if isLine p then lineLinkDown s p true else s

/-- A PORT_CTL request, with what the loss of the port's link brings about. -/
def portCtlFull (s : State) (m : Master) (p v : Nat) : State :=
  let t := portCtl s m p v
  if isLine p && linkUp s p && !linkUp t p then lineLinkDown t p false else t

/-- PORT_PROVISION: a PORT_CTL write with PROV = 1 (R53, R75). -/
def execPortProvision (m : Master) (v : Word) (s : State) : Host.Outcome State Fault Refusal :=
  .next (onPort s m fun p s => portCtlFull s m p v.toNat)

/-- PORT_DEPROVISION: a PORT_CTL write with PROV = 0 (R53). -/
def execPortDeprovision (m : Master) (v : Word) (s : State) : Host.Outcome State Fault Refusal :=
  .next (onPort s m fun p s => portCtlFull s m p v.toNat)

/-- PORT_LOOPBACK_SET: a PORT_CTL write that sets, changes or clears LPBK (R63, R64). -/
def execPortLoopbackSet (m : Master) (v : Word) (s : State) : Host.Outcome State Fault Refusal :=
  .next (onPort s m fun p s => portCtlFull s m p v.toNat)

/-- Every lane of the port has lock, and the receiver is adapted: before link-up it has run, in a down-hold it is kept. -/
def canAlign (s : State) (p : Nat) : Bool :=
  s.fb PORT_STATUS.READY p && s.f PORT_STATUS.LOCK p == laneMask s p && ((s.port p).adapted || linkUp s p)

/-- PORT_ALIGNMENT: alignment is reached. Inside a down-hold the port receives again at once; with UP_HOLD = 0 the link
is up at once. -/
def execPortAlignment (p : Fin 64) (s : State) : Host.Outcome State Fault Refusal :=
  .next (if canAlign s p then
    let s := faultEval (s.setF PORT_STATUS.ALIGN p 1) p
    if linkUp s p then s.setF PORT_STATUS.HOLD p 0
    else if s.f PORT_HOLD.UP_HOLD p = 0 then linkSet s p
    else s
  else s)

/-- UP_HOLD_EXPIRY: UP_HOLD ms of continuous alignment. -/
def execUpHoldExpiry (p : Fin 64) (s : State) : Host.Outcome State Fault Refusal :=
  .next (if s.fb PORT_STATUS.READY p && s.fb PORT_STATUS.ALIGN p && !linkUp s p then linkSet s p else s)

/-- A lane of a port fails: what it lost, and the port with it. An OTN receiver loses its frame alignment (R113). A loss of
signal or of lock takes ALIGN away too and raises LOCK_LOST alone: R60 raises one of the two events and R78 does not say
which (DESIGN CHOICE, log 85). -/
def laneFail (s : State) (p lane : Nat) (k : LaneFail) : State :=
  let s := match k with
    | .signal => ((s.setF PORT_STATUS.SIG p (putBits (s.f PORT_STATUS.SIG p) lane 1 0)).setF PORT_STATUS.LOCK p
        (putBits (s.f PORT_STATUS.LOCK p) lane 1 0)).raise PORT_EVT.LOCK_LOST p
    | .cdr => (s.setF PORT_STATUS.LOCK p (putBits (s.f PORT_STATUS.LOCK p) lane 1 0)).raise PORT_EVT.LOCK_LOST p
    | .align => s.raise PORT_EVT.ALIGN_LOST p
  let s := faultEval (s.setF PORT_STATUS.ALIGN p 0) p
  let s := if isLine p && framing s p == frOtn then (portChans s p).foldl otnLose s else s
  if linkUp s p then
    let s := s.setF PORT_STATUS.HOLD p 1
    if s.f PORT_HOLD.DOWN_HOLD p = 0 then linkClear s p else s
  else s.setPort p { s.port p with adapted := false }

/-- LANE_FAILURE (R60). -/
def execLaneFailure (p : Fin 64) (lane : Fin 8) (k : LaneFail) (s : State) : Host.Outcome State Fault Refusal :=
  .next (if s.fb PORT_STATUS.READY p && lane.val < portWidth s p then laneFail s p lane k else s)

/-- DOWN_HOLD_EXPIRY. -/
def execDownHoldExpiry (p : Fin 64) (s : State) : Host.Outcome State Fault Refusal :=
  .next (if s.fb PORT_STATUS.HOLD p then linkClear s p else s)

/-- FAULT_ORDERED_SETS_RX: the fault ordered sets that a port receives now (R77); under a loopback of its lanes it sees none
(R63). -/
def execFaultOrderedSetsRx (p : Fin 64) (lf : Bool) (rf : Bool) (s : State) : Host.Outcome State Fault Refusal :=
  .next (if s.fb PORT_STATUS.READY p && seesLine s p then faultEval (s.setPort p { s.port p with lfRx := lf, rfRx := rf }) p else s)

end Sys2Proof.Machine
end

