-- ==== Sys2Proof/Machine/Alarm.lean ====
section
/-! DEFINITION. Zeroisation, the tamper log and the entry to ALARM-HOLD (R482, R494, R502–R508). -/

namespace Sys2Proof.Machine

/-- Registers whose table row satisfies `p` return to their reset values. -/
def dropRegs (s : State) (p : RegInfo → Bool) : State :=
  { s with regs := SMap.keep s.regs fun k => !p (Reg.ofNat (k % Reg.count)).info }

/-- Counters of a block return to zero. -/
def dropCtrs (s : State) (p : Blk → Bool) : State :=
  { s with cnts := SMap.keep s.cnts fun k => !p (Ctr.ofNat (k % 51)).info.1 }

/-- Every DMA channel stops at once, and its registers return to their reset values (R423). -/
def dmaStopAll (s : State) : State :=
  { dropCtrs (dropRegs s fun r => r.blk == .DMA && r.cls == .window) (· == .DMA) with dma := [] }

/-! ### Causes (R513) -/

def causeOf : Sensor → Nat
  | .mesh => 1 | .light => 2 | .voltage => 3 | .temperature => 4 | .clock => 5 | .loop _ => 6 | .zeroizeN => 7 | .backup _ => 8

def loopOf : Sensor → Nat
  | .loop n => n | _ => 0

def causeFatal : Nat := 9
def causeRetire : Nat := 10

/-- Bit of `SILO_TAMPER` that shows a sensor; the backup has none. -/
def sensorBit : Sensor → Option Nat
  | .mesh => some 0 | .light => some 1 | .voltage => some 2 | .temperature => some 3 | .clock => some 4 | .zeroizeN => some 5
  | .loop n => some (8 + n) | .backup _ => none

/-- A sensor as it stands now is shown. -/
def showSensor (s : State) (t : Sensor) : State :=
  match sensorBit t with
  | none => s
  | some b => s.setReg .SILO_TAMPER 0 (BitVec.ofNat 32 (putBits (s.reg .SILO_TAMPER 0).toNat b 1 1))

/-- What a sensor that tripped shows later is the world's: each bit that is set may have cleared. -/
def senseNow (s : State) : State :=
  let v := (s.reg .SILO_TAMPER 0).toNat
  let w := (List.range 12).foldl (fun w i => if bitAt v i && Config.freeBool (s.freeCtr + i) then w + 2 ^ i else w) 0
  { s.setReg .SILO_TAMPER 0 (BitVec.ofNat 32 w) with freeCtr := s.freeCtr + 12 }

/-! ### Zeroisation -/

/-- What the Escapement keeps of the enrolment and of POLICY. -/
def keptNow (s : State) : Kept :=
  match s.silo.domain with
  | some d => ⟨d.id, d.k, polQuorumMin s, d.osd, true⟩
  | none => ⟨zeros 16, 0, polQuorumMin s, zeros 48, false⟩

/-- Roots, sessions and epoch keys are gone, and context memory reads as never written (R150). -/
def eraseRoots (s : State) : State :=
  let s := (busyChannels s).foldl (fun s c => (s.setReg .CH_STATUS c 0).setF CH_CTL.EN c 0) s
  clearRegion { s with keys := [], sessions := [], kept := [], chans := [], cntPend := [] } ctxCtl

/-- Granary and custody store are cleared, the twin link keys with them; the last SEQ and the node ID stay readable
(R502, R508). -/
def zeroiseSilo (s : State) : State :=
  let x := s.silo
  let y := { x with
    identity := false, domain := none, pins := [], fabKey := none, prevKey := none, importKeys := [], custody := none, auths := [], jobs := []
    kept := if x.zeroised then x.kept else keptNow s
    zeroised := true }
  let s := eraseRoots { s with silo := y, twin := Twin.reset }
  let s := s.setReg .TWN_STATUS 0 0
  let wipe := fun (s : State) (k : Nat) => s.setMemc k { s.memc k with overwriting := true }
  { wipe (wipe (clearRegion s 74) 74) ctxCtl with ctxBlank := true }

/-- An entry of the tamper log; the latest 256 are kept, the newest first (R510). -/
def tamperLog (s : State) (cause loop : Nat) : State :=
  { s with silo := { s.silo with log := (⟨cause, loop, s.rtc, s.mode⟩ :: s.silo.log).take 256 } }

/-- A zeroisation is counted and its cause and time recorded. -/
def noteZeroised (s : State) (cause loop : Nat) : State :=
  let s := s.setReg .SILO_TAMPER_CAUSE 0 (BitVec.ofNat 32 (cause * 2 ^ 24 + loop * 2 ^ 16))
  let s := s.setReg .SILO_TAMPER_TIME_LO 0 (BitVec.ofNat 32 s.rtc.toNat)
  let s := s.setReg .SILO_TAMPER_TIME_HI 0 (BitVec.ofNat 32 (s.rtc.toNat / 2 ^ 32))
  s.setF SILO_ZCOUNT.COUNT 0 (satAdd 16 (s.f SILO_ZCOUNT.COUNT 0) 1)

/-- Every port is deprovisioned; its transmitters fall silent. -/
def dropPorts (s : State) : State :=
  (provPorts s).foldl (fun s p =>
    let t := deprovision s p 0
    if isLine p && linkUp s p then lineLinkDown t p false else t) s

/-- A key engine's domain goes off. -/
def keyEngineOff (s : State) (e : Nat) : State := ((clearRegion s e).setEng e Eng.reset).setF ENG_STATUS.STATE e engOff

/-- A running flash ERASE or PROGRAM is cut short; VERIFY, ACTIVATE, STAGE and UPDATE end without effect. -/
def shfCut (x : Shf) : Shf :=
  let inc := match x.fl with
    | some o => if o.cmd = 3 then x.incomplete else o.slot :: x.incomplete.filter (· != o.slot)
    | none => x.incomplete
  { x with op := none, fl := none, updating := [], incomplete := inc }

/-- What ALARM-HOLD and RETIRED leave of the rest of the module: no port, no DMA, no key engine, no flash operation. -/
def stopPlanes (s : State) : State :=
  let s := dmaStopAll (dropPorts s)
  let s := (List.range 4).foldl (fun s i => keyEngineOff s (64 + i)) s
  let s := (List.range 5).foldl (fun s i => if s.fb SHF_CHECK.BUSY i then s.setReg .SHF_CHECK i 0 else s) s
  let s := ((s.setF SHF_STATUS.OP_BUSY 0 0).setF SHF_STATUS.FL_BUSY 0 0).setF SHF_FL_STATUS.BUSY 0 0
  { s with shf := shfCut s.shf }

/-- ALARM-HOLD is entered: relay driver 0 and ALARM (R502). -/
def enterAlarmHold (s : State) : State :=
  let s := stopPlanes s
  setMode (({ s with silo := { s.silo with latch := true } }).raise SILO_EVT.ALARM 0) modeAlarm

/-- A trip with main power (R502, R504, R506): the first one zeroises; one before the acknowledgement is logged only; one
after it counts again. RETIRED stays RETIRED. -/
def trip (s : State) (cause loop : Nat) : State :=
  let s := tamperLog s cause loop
  if s.silo.latch || s.mode == modeRetired then s
  else
    let s := relinquish s 2
    enterAlarmHold (noteZeroised (zeroiseSilo s) cause loop)

/-- A trip in DORMANT, on reserve energy (R503); an exhausted backup no longer keeps the Escapement (R470, R486). -/
def tripDormant (s : State) (cause loop : Nat) : State :=
  let s := { tamperLog s cause loop with pwr := { s.pwr with bakOut := s.pwr.bakOut || cause == 8 } }
  if s.silo.latch || s.silo.retired then s
  else
    let s := noteZeroised (zeroiseSilo s) cause loop
    { s with silo := { s.silo with latch := true } }

end Sys2Proof.Machine
end

