-- ==== Sys2Proof/Machine/Hourglass.lean ====
section
/-! DEFINITION. Hourglass: the eight indicators, the forecasts, temperatures and eyes (R515–R530). -/

namespace Sys2Proof.Machine

/-! ### Rates (R516) -/

/-- Points of the table: °C and 1/100 ppm per hour. -/
def ratePoints : List (Int × Int) := [(40, 100), (55, 230), (70, 456), (85, 720), (105, 1140), (125, 2851)]

/-- Units of the model in 1/100 ppm per hour for one second: 1 ppm is 345,600,000 units. -/
def rateScale : Int := 960

/-- Rate between two points of the table. -/
def rateBetween (t : Int) (a b : Int × Int) : Int :=
  rateScale * a.2 + (t - 16 * a.1) * (b.2 - a.2) * (rateScale / (16 * (b.1 - a.1)))

/-- Rate at T0, in 1/16 °C. -/
def rateFrom (t : Int) : List (Int × Int) → Nat
  | a :: b :: rest => if t ≤ 16 * b.1 then (rateBetween t a b).toNat else rateFrom t (b :: rest)
  | _ => Config.hotRate t

def ageRate (t : Int) : Nat := if t ≤ 640 then (100 * rateScale).toNat else rateFrom t ratePoints

def ppmUnit : Nat := 345600000

/-! ### Consumed life (R515) -/

/-- Lanes 0–31 are the client lanes, 32–63 the line lanes, 64–79 the twin lanes; the lane has CDR lock (R527, R529). No register
shows it of a twin lane: one that has been measured has it until its link is lost (DESIGN CHOICE, log 111). -/
def laneLocked (s : State) (l : Nat) : Bool :=
  if l < 64 then
    (provPorts s).any fun p => isLine p == decide (l ≥ 32) && anchor p ≤ l % 32 && l % 32 < anchor p + portWidth s p &&
      bitAt (s.f PORT_STATUS.LOCK p) (l % 32 - anchor p)
  else (s.lane l).locked

/-- Baseline of a lane (R520). -/
def State.eyeBase (s : State) (l : Nat) : Option Nat := SMap.get (fun _ => none) s.hlth.now.bases l

/-- Consumed life of a lane: its mean of 24 h between baseline and 6 mV; none without a baseline. -/
def laneSpent (s : State) (l : Nat) : Nat :=
  match s.eyeBase l with
  | none => 0
  | some b =>
    let n := (s.lane l).win.length
    let sum := (s.lane l).win.foldl (· + ·) 0
    if n = 0 then 0
    else if b ≤ 6 then Config.marginSpent b sum n
    else (b * n - sum) * 1000000 / ((b - 6) * n)

def maxOf (l : List Nat) : Nat := l.foldl max 0

/-- Indicator 7 as the locked lanes give it at a measurement (R515). -/
def marginNow (s : State) : Nat :=
  maxOf ((List.range 80).map fun l => if laneLocked s l then laneSpent s l else 0)

/-- Consumed life of an indicator, ppm. -/
def consumed (s : State) (i : Nat) : Nat :=
  let h := s.hlth.now
  match i with
  | 0 => max (maxOf h.model / ppmUnit) (maxOf h.osc)
  | 1 => h.em / (ppmUnit * Config.coreCurrentFull ^ 2)
  | 2 => h.esr
  | 3 => h.scap
  | 4 => 100 * maxOf s.shf.erases
  | 5 => s.shf.rows * 1000000 / 256
  | 6 => h.swings / 12800
  | _ => h.margin

def endOfLife : Nat := 1000000

/-- Show an indicator, and report the crossings that it makes while the HLTH block runs. -/
def showIndicator (s : State) (i : Nat) : State :=
  let v := consumed s i
  let s := s.setReg .HLTH_CONS i (BitVec.ofNat 32 (min v (2 ^ 32 - 1)))
  if s.blkUp .HLTH then
    let h := s.hlth
    let s := if v ≥ 800000 && !bitAt h.warned i then s.raise HLTH_EVT.WARN 0 else s
    let s := if v ≥ endOfLife && !bitAt h.ended i then s.raise HLTH_EVT.EOL 0 else s
    { s with hlth := { s.hlth with
        warned := putBits h.warned i 1 (b2n (v ≥ 800000)), ended := putBits h.ended i 1 (b2n (v ≥ endOfLife)) } }
  else s

/-- Every indicator is shown as it now stands, with the cycle counter. -/
def hlthEval (s : State) : State :=
  let s := (List.range 8).foldl showIndicator s
  s.setReg .HLTH_TCYC 0 (BitVec.ofNat 32 (min s.hlth.now.tcyc (2 ^ 32 - 1)))

/-- The Hourglass record is written, or read back (R519). -/
def saveRecord (s : State) : State := { s with hlth := { s.hlth with saved := s.hlth.now } }
def restoreRecord (s : State) : State := hlthEval { s with hlth := { s.hlth with now := s.hlth.saved } }

/-! ### Thermal cycles (R518) -/

/-- One more sample of T0: a rise of 10 °C to a local maximum and a fall of 10 °C from it count as one cycle. -/
def cycleSample (h : Hlth) (t : Int) : Hlth :=
  match h.high with
  | none =>
    let low := min h.low t
    if t - low ≥ 160 then { h with low := low, high := some t } else { h with low := low }
  | some m =>
    let m := max m t
    if m - t ≥ 160 then
      let d := (m - h.low).toNat
      { h with low := t, high := none, now := { h.now with swings := h.now.swings + d * d, tcyc := h.now.tcyc + 1 } }
    else { h with high := some m }

/-! ### Updates -/

/-- One second: the integrators, the hours, the cycle counter, the rails (R515, R516, R518, R526). -/
def hourglassSecond (s : State) (rails : List (BitVec 16 × BitVec 16)) : State :=
  let h := s.hlth
  let t := h.t0.getD 0
  let rate := ageRate t
  let i := (rails.headD (0, 0)).2.toNat
  let n := h.now
  let n := { n with
    model := (List.range 32).map fun sl => n.model.getD sl 0 + (if (s.slice sl).powered then rate else 0)
    em := n.em + (if s.mode ≥ modeSelftest then rate * i * i else 0)
    secs := n.secs + (if s.mode ≠ modeDormant then 1 else 0) }
  let h := { h with now := n }
  let h := if h.t0.isSome then cycleSample h t else h
  let s := hlthEval { s with hlth := h }
  if s.blkUp .HLTH then
    (List.range 8).foldl (fun s r =>
      let x := rails.getD r (0, 0)
      s.setReg .HLTH_RAIL r (BitVec.ofNat 32 (x.1.toNat * 2 ^ 16 + x.2.toNat))) s
  else s

/-- Hourly, with main power: oscillators of the slices that are on and the input capacitors, both in millionths of their
manufacturing values; then the record (R515, R519). -/
def hourglassHour (s : State) (osc : List Nat) (esr : Nat) : State :=
  if s.mode = modeDormant then s
  else
    let n := s.hlth.now
    let n := { n with
      osc := (List.range 32).map fun sl =>
        if (s.slice sl).powered then (1000000 - osc.getD sl 1000000) * 100 / 3 else n.osc.getD sl 0
      esr := esr - 1000000 }
    saveRecord (hlthEval { s with hlth := { s.hlth with now := n } })

/-- The supercapacitor's discharge step: the larger of its capacitance and its ESR value (R515). -/
def scapStep (s : State) (capUF esrMOhm : Nat) : State :=
  if s.mode = modeDormant then s
  else
    let c0 := Config.scapMade.1
    let r0 := Config.scapMade.2
    let c := (c0 - capUF) * 1000000 / (c0 - 1944000)
    let r := (esrMOhm - r0) * 1000000 / (2000 - r0)
    hlthEval { s with hlth := { s.hlth with now := { s.hlth.now with scap := max c r } } }

/-! ### Forecasts (R521–R523) -/

def predDays (s : State) (i : Nat) : Nat := s.f HLTH_PRED.DAYS i
def predGrade (s : State) (i : Nat) : Nat := s.f HLTH_PRED.GRADE i

/-- Indicator that limits the module's life. -/
def eolIndicator (s : State) : Option Nat :=
  (List.range 8).foldl (fun o i =>
    if predGrade s i = 0 then o
    else match o with
      | some j => if predDays s i < predDays s j then some i else o
      | none => some i) none

/-- HLTH_EOL is computed anew, and DAYS_LOW reported for a crossing. -/
def eolEval (s : State) : State :=
  let warn := s.f HLTH_CFG.WARN_DAYS 0
  -- a forecast that is long again may be reported again
  let long := fun i => predGrade s i ≥ 2 && predDays s i ≥ warn
  let short := (List.range 8).foldl (fun n i => if long i then putBits n i 1 0 else n) s.hlth.short
  let s := { s with hlth := { s.hlth with short := short } }
  match eolIndicator s with
  | none => s.setReg .HLTH_EOL 0 0x0000FFFF
  | some i =>
    let g := predGrade s i
    let d := predDays s i
    let s := s.setReg .HLTH_EOL 0 (BitVec.ofNat 32 (g * 2 ^ 30 + i * 2 ^ 16 + d))
    if g ≥ 2 && d < warn && !bitAt short i then
      ({ s with hlth := { s.hlth with short := putBits short i 1 1 } }).raise HLTH_EVT.DAYS_LOW 0
    else s

/-- A management engine writes a prediction word. -/
def predWrite (s : State) (m : Master) (i : Nat) (v : Word) : State :=
  if m = .me0 ∨ m = .me1 then
    let s := s.setReg .HLTH_PRED i (maskedWrite .HLTH_PRED v)
    eolEval (s.setF HLTH_STATUS.STALE 0 (putBits (s.f HLTH_STATUS.STALE 0) i 1 0))
  else s

/-- A prediction word has not been written for 7,200 s. -/
def predStale (s : State) (i : Nat) : State :=
  let s := s.setF HLTH_PRED.GRADE i 0
  let s := s.setF HLTH_STATUS.STALE 0 (putBits (s.f HLTH_STATUS.STALE 0) i 1 1)
  eolEval (s.raise HLTH_EVT.STALE 0)

/-! ### Temperatures (R524, R525) -/

/-- One threshold of T0: passed from below it raises its event, which is armed again 5 °C below. -/
def threshold (s : State) (t : Int) (deg : Nat) (bit : Nat) (ev : Fld) : State :=
  let lim : Int := 16 * deg
  if !bitAt s.hlth.hot bit && t > lim then
    ({ s with hlth := { s.hlth with hot := putBits s.hlth.hot bit 1 1 } }).raise ev 0
  else if bitAt s.hlth.hot bit && t ≤ lim - 80 then { s with hlth := { s.hlth with hot := putBits s.hlth.hot bit 1 0 } }
  else s

/-- CUR and MAX of a sensor. -/
def showTemp (s : State) (n : Nat) (v : BitVec 16) : State :=
  let old := BitVec.ofNat 16 (s.f HLTH_TEMP.MAX n)
  let m := if bitAt s.hlth.anew n || v.toInt > old.toInt then v else old
  let s := { s with hlth := { s.hlth with anew := putBits s.hlth.anew n 1 0 } }
  s.setReg .HLTH_TEMP n (BitVec.ofNat 32 (m.toNat * 2 ^ 16 + v.toNat))

/-- A sample; in DORMANT and ESCAPEMENT the first value is that of the Escapement's own sensor. -/
def temperatures (s : State) (ts : List (BitVec 16)) : State :=
  match ts with
  | [] => s
  | v :: _ =>
    let t := v.toInt
    let low := if s.hlth.t0.isNone then t else s.hlth.low
    let s := { s with hlth := { s.hlth with t0 := some t, low := low } }
    if s.blkUp .HLTH then
      let s := (ts.take 9).zipIdx.foldl (fun s x => showTemp s x.2 x.1) s
      let s := threshold s t (min 125 (s.f HLTH_CFG.TEMP_WARN 0)) 0 HLTH_EVT.TEMP_WARN
      threshold s t 125 1 HLTH_EVT.OVERTEMP
    else s

/-! ### Eyes (R520, R527) -/

/-- Samples of 24 h at one every 10 s. -/
def eyeDay : Nat := 8640

def insertSorted (x : Nat) : List Nat → List Nat
  | [] => [x]
  | y :: l => if x ≤ y then x :: y :: l else y :: insertSorted x l

/-- Median: of an even number of samples the mean of the two in the middle, rounded down. -/
def median (l : List Nat) : Nat :=
  let o := l.foldr insertSorted []
  let n := o.length
  (o.getD ((n - 1) / 2) 0 + o.getD (n / 2) 0) / 2

/-- A lane measured: its 24 h, and its baseline once the first 24 h are full. -/
def laneMeasured (s : State) (l v : Nat) : State :=
  let e := s.lane l
  let first := if (s.eyeBase l).isSome then [] else v :: e.first
  let full := decide (first.length ≥ eyeDay)
  let t := s.setLane l ⟨if full then [] else first, (v :: e.win).take eyeDay, decide (64 ≤ l)⟩
  if full then
    { t with hlth := { t.hlth with now := { t.hlth.now with
        bases := SMap.set (fun _ => none) t.hlth.now.bases l (some (median first)) } } }
  else t

/-- A measurement of a locked lane. That of a twin lane says itself that the lane has lock. -/
def eyeSample (s : State) (l v h : Nat) : State :=
  if s.blkUp .HLTH && (decide (64 ≤ l) || laneLocked s l) then
    let t := laneMeasured s l v
    let t := { t with hlth := { t.hlth with now := { t.hlth.now with margin := marginNow t } } }
    hlthEval (t.setReg .HLTH_EYE l (BitVec.ofNat 32 (v * 2 ^ 24 + h * 2 ^ 16 + (t.eyeBase l).getD 0 % 256 * 2 ^ 8 + 1)))
  else s

/-! ### Resets -/

/-- What a warm reset leaves of telemetry: the Escapement's part, with the lanes' last 24 h (R482, R515, R520); no twin lane is
known to have lock. -/
def hlthWarm (h : Hlth) : Hlth :=
  { h with hot := 0, anew := 511, ptr := 0, addr := none
           lanes := h.lanes.filterMap fun e =>
             if e.2.first = [] ∧ e.2.win = [] then none else some (e.1, { e.2 with locked := false }) }

end Sys2Proof.Machine
end

