-- ==== Sys2Proof/Machine/Power.lean ====
section
/-! DEFINITION. Feeds, backup, clocks, operating modes and resets (R467–R493, R554, R561, R562). -/

namespace Sys2Proof.Machine

/-! ### What resets keep (R482, R486, R501) -/

/-- A register entry that a warm reset keeps: the Escapement's, and those of the Silo, whose domain it does not reach. -/
def warmKeeps (k : Nat) : Bool :=
  let r := (Reg.ofNat (k % Reg.count)).info
  (r.retained && k % Reg.count != Reg.GLB_PCIE_STATUS.ctorIdx) || r.blk == .SILO

/-- Memory regions that a warm reset keeps: the Granary, the mailbox buffers and the flash. -/
def warmRegion (k : Nat) : Bool := k == 74 || k ≥ flashRegion

/-- Bit errors that are left when every region but the Granary loses its valid bits. -/
def warmErrs (m : SMap WordErr) : SMap WordErr :=
  m.filterMap fun e =>
    if e.1 % 75 = 74 then some e else if e.2.stuck = [] then none else some (e.1, ⟨[], e.2.stuck, none⟩)

/-- The state that a warm reset leaves (R482): the mode is set by the caller. `PWR_CFG` keeps AUTOSTART, `CLK_STATUS` the
references. -/
def warmState (s : State) : State :=
  let t : State :=
    { State.reset with
      pending := s.pending, rtc := s.rtc, variant := s.variant, out := s.out, freeCtr := s.freeCtr, pwr := s.pwr
      regs := SMap.keep s.regs warmKeeps
      cnts := SMap.keep s.cnts fun k => (Ctr.ofNat (k % 51)).info.1 == .SILO
      rams := SMap.keep s.rams warmRegion
      errs := warmErrs s.errs
      valid := SMap.keep s.valid fun k => k % 75 == 74
      silo := { s.silo with
        importKeys := [], custody := none, srcBad := 255, srcTurn := 0, drbg := none, drbgReqs := 0, jobs := [], jobTag := 0, keySeq := 0 }
      shf := shfCut s.shf
      hlth := hlthWarm s.hlth
      dbg := s.dbg
      tod := { Tod.reset with ahead := s.tod.ahead, skip := s.tod.skip, half := s.tod.half }
      evc := { Evc.reset with pins := s.evc.pins, latch := s.evc.latch, latch2 := s.evc.latch2 }
      fab := { Fab.reset with lastAddr := s.fab.lastAddr, sendSeq := s.fab.sendSeq, killSeq := s.fab.killSeq } }
  let t := t.setF PWR_CFG.KE_KEEP 0 0
  ((t.setF CLK_STATUS.D_LOCK 0 0).setF CLK_STATUS.K_LOCK 0 0).setF CLK_STATUS.C_LOCK 0 0

/-- The state that a shutdown leaves: the Silo's main domain loses power as well. -/
def shutState (s : State) : State :=
  let t := saveRecord (warmState s)
  let t := dropCtrs (dropRegs t fun r => r.blk == .SILO && !r.retained) (· == .SILO)
  { t with
    rams := SMap.keep t.rams fun k => k == 74 || k == flashRegion
    silo := { t.silo with importKeys := s.silo.importKeys, auths := [] }
    pwr := { t.pwr with cold := false, held := none } }

/-! ### Starts (R481, R485, R486, R561) -/

/-- A core PLL has a reference. -/
def coreRef (s : State) : Bool := s.fb CLK_STATUS.REFC_OK 0 || s.fb CLK_STATUS.REFL_OK 0

/-- SELFTEST begins, with its cause recorded. -/
def startSelftest (s : State) (cause : Word) : State :=
  let s := s.setReg .PWR_WAKE_CAUSE 0 cause
  setMode { s with pwr := { s.pwr with cold := false, held := none, timer := false, perst := false } } modeSelftest

/-- A start out of ESCAPEMENT; without a core reference it waits for one, and a module with the OTP retirement record goes to
RETIRED (R481). -/
def leaveEscapement (s : State) (cause : Word) : State :=
  if s.silo.retired then setMode s modeRetired
  else if coreRef s then startSelftest s cause else { s with pwr := { s.pwr with held := some cause } }

def wakeWord (cause gpio : Nat) : Word := BitVec.ofNat 32 (cause * 2 ^ 28 + gpio)

/-- A warm reset (R486): it passes through SELFTEST in every mode with main power. -/
def warmReset (s : State) (cause : Nat) : State := startSelftest (warmState s) (wakeWord cause 0)

/-- The module has main power and has left DORMANT. -/
def powered (s : State) : Bool := s.mode != modeDormant

/-- MOD_RESET_N: an ACTIVE member relinquishes first (R487). -/
def modReset (s : State) : State := if powered s then warmReset (relinquish s foRelinquish) 5 else s

def glbReset (s : State) (m : Master) (v : Nat) : State :=
  if v % 2 ^ 16 ≠ 0xA5C3 then s
  else checked s .GLB_MODE_CHECK m 0
    (cause (s.fb GLB_MODE.TRANS 0) 0xB5 ++ cause (twinRole s == roleActive && s.fb TWN_STATUS.SYNC 0) 0xB6) fun s => warmReset s 6

/-- What is measured, and not stored, whatever the backup does. -/
def measured (r : Reg) : Bool := r == .PWR_STATUS || r == .PWR_FEED_A || r == .PWR_FEED_B || r == .PWR_BAK || r == .CLK_STATUS

/-- Domain 60, whose backup had run out, is reset: the retained PWR and CLK fields, the armed loops, the fabric address and the
temperatures; the integrators return from their record, and the clock holds no stated time (R486, R488, R519). What the spec
gives no reset value and needs in ALARM-HOLD stays (log 37). -/
def bakLost (s : State) : State :=
  if s.pwr.bakOut then
    let s := { s with
      regs := SMap.keep s.regs fun k =>
        let r := Reg.ofNat (k % Reg.count)
        measured r || !((r.info.retained && (r.info.blk == .PWR || r.info.blk == .CLK)) || r == .SILO_LOOP_CFG)
      rtc := BitVec.ofNat 64 (Config.freeNat s.freeCtr), freeCtr := s.freeCtr + 1, pwr := Pwr.reset
      tod := Tod.reset, fab := { s.fab with lastAddr := 0 }, hlth := { s.hlth with t0 := none, low := 0, high := none, lanes := [] } }
    restoreRecord s
  else s

/-- The backup as it is found at a start: the supercapacitor has fallen by an amount that the spec does not give, and not below
1.80 V unless it ran out (R470). -/
def bakFound (s : State) : State :=
  let was := s.f PWR_BAK.SCAP 0
  let left := Config.freeNat s.freeCtr % (was + 1)
  let mv := if s.pwr.bakOut then left else max (min 1800 was) left
  ({ s with freeCtr := s.freeCtr + 1 }.setF PWR_BAK.SCAP 0 mv).setB PWR_STATUS.BAK_READY 0 (mv ≥ 2900)

def anyFeed (s : State) : Bool := s.fb PWR_STATUS.FEED_A 0 || s.fb PWR_STATUS.FEED_B 0

/-- A cold start into ESCAPEMENT (R481, R486). -/
def coldStart (s : State) : State :=
  if s.mode ≠ modeDormant || !anyFeed s then s
  else
    let s := (bakLost (bakFound s)).setReg .PWR_WAKE_CAUSE 0 0
    setMode { s with pwr := { s.pwr with cold := true, held := none } } modeEscapement

/-- An input that can wake the module has shown the edge or the level that its EVC_IN_CFG asks for (R460, R485). -/
def inputWakes (s : State) (i : Nat) : Bool :=
  s.evc.latch.contains i || (srcKind s (104 + i) == .level && inputActive s i)

/-- An enabled wake source, or AUTOSTART at a cold start (R485). -/
def wake (s : State) (w : WakeSrc) : State :=
  if s.mode ≠ modeEscapement then s
  else
    match w with
    | .gpio i => if bitAt (s.f PWR_WAKE_EN.GPIO 0) i && inputWakes s i then leaveEscapement s (wakeWord 1 i) else s
    | .pps => if s.fb PWR_WAKE_EN.PPS 0 && inputWakes s 16 then leaveEscapement s (wakeWord 2 0) else s
    | .perst => if s.fb PWR_WAKE_EN.PERST 0 then leaveEscapement s (wakeWord 3 0) else s
    | .timer => if s.fb PWR_WAKE_EN.TIMER 0 then leaveEscapement s (wakeWord 4 0) else s
    | .autostart => if s.pwr.cold && s.fb PWR_CFG.AUTOSTART 0 then leaveEscapement s 0 else s

/-- Start tests: a source is used only once its first 4,096 raw bits have passed (R215). -/
def startTests (s : State) (raw : List (List Byte)) : State :=
  (List.range 8).foldl (fun s i =>
    let b := raw.getD i []
    if b.length ≥ 512 && healthOk (b.take 512) then { s with silo := { s.silo with srcBad := putBits s.silo.srcBad i 1 0 } }
    else { s with silo := { s.silo with srcBad := putBits s.silo.srcBad i 1 1 } }.raise SILO_EVT.ENTROPY_SRC_FAIL 0) s

/-- The custody key of this start (R501); none while the Silo's generator does not run. -/
def drawCustody (s : State) : State :=
  if randomOk s then
    let r := siloRandom s 32
    granaryPut r.2 { r.2.silo with custody := some r.1 }
  else s

/-- SELFTEST ends (R481): whether its tests passed, and the first raw bits of each entropy source. A failed test zeroises as
a fatal fault does. The Silo's generator takes its first seed, and the custody key is drawn. -/
def selftestDone (s : State) (ok : Bool) (raw : List (List Byte)) : State :=
  if s.mode ≠ modeSelftest then s
  else if s.silo.retired then setMode s modeRetired
  else if !s.silo.identity then setMode (s.raise SILO_EVT.ALARM 0) modeAlarm
  else if !ok then enterAlarmHold (noteZeroised (zeroiseSilo (tamperLog s causeFatal 0)) causeFatal 0)
  else setMode (enginesLoad (drawCustody (siloReseed (startTests s raw)))) modeLoading

/-! ### Mode requests (R481, R483, R484, R492) -/

/-- Transitions by request. -/
def requestable (s : State) (t : Nat) : Bool :=
  (s.mode == modeStandby && (t == modeOperational || t == modeMaintenance || t == modeEscapement)) ||
  (s.mode == modeOperational && (t == modeMaintenance || t == modeDrain)) ||
  (s.mode == modeMaintenance && (t == modeOperational || t == modeDrain))

/-- An enabled wake source is pending (R484). -/
def wakePending (s : State) : Bool :=
  (List.range 16).any (fun i => bitAt (s.f PWR_WAKE_EN.GPIO 0) i && (s.src (104 + i)).st != 0) ||
  (s.fb PWR_WAKE_EN.PPS 0 && (s.src 120).st != 0) ||
  (s.fb PWR_WAKE_EN.TIMER 0 && s.pwr.timer) || (s.fb PWR_WAKE_EN.PERST 0 && s.pwr.perst)

def modeCauses (s : State) (t : Nat) : List Nat :=
  cause (!requestable s t) 0xB1 ++
  cause (t == modeEscapement && s.reg .PWR_WAKE_EN 0 == 0) 0xB2 ++
  cause (t == modeEscapement && wakePending s) 0xB3 ++
  cause ((t == modeOperational || t == modeMaintenance) && s.f SHF_STATUS.SOURCE 0 == 2) 0xB4 ++
  cause (s.fb GLB_MODE.TRANS 0) 0xB5 ++
  cause (t == modeEscapement && twinRole s == roleActive && s.fb TWN_STATUS.SYNC 0) 0xB6 ++
  cause (t == modeEscapement && provPorts s != []) 0xB7

/-- Every channel closes: ACTIVE ones drain, KEYING and READY ones return to DISABLED (R136, R481). -/
def drainAll (s : State) : State := (busyChannels s).foldl chDisableRequest s

/-- Inputs that stand at their active level when cclk stops: the latches of R460 take them over. -/
def latchLevels (s : State) : State :=
  let on := (List.range 17).filter fun i => srcKind s (104 + i) == .level && inputActive s i && !s.evc.latch.contains i
  { s with evc := { s.evc with latch := s.evc.latch ++ on } }

/-- What ESCAPEMENT entry leaves: what a warm reset does, with the settings of the external inputs, which R485 consults there
(DEDUCED, log 37), and the active levels in their latches. -/
def sleepState (s : State) : State :=
  let t := (List.range 17).foldl (fun t i => t.setReg .EVC_IN_CFG i (s.reg .EVC_IN_CFG i)) (warmState s)
  latchLevels { t with pwr := { t.pwr with timer := false } }

/-- An enabled source that fired after the request was accepted wakes the module at once (R484). -/
def wakeAtOnce (s : State) : State :=
  let s := (List.range 16).foldl (fun s i => wake s (.gpio (Fin.ofNat 16 i))) s
  let s := wake s .pps
  if s.pwr.perst then wake s .perst else s

/-- A SHADOW member does not stay in STANDBY or OPERATIONAL (R481). -/
def settleRole (s : State) : State :=
  if (s.mode = modeStandby ∨ s.mode = modeOperational) ∧ twinRole s = roleShadow then setMode s modeShadow else s

/-- The mode that a request asked for is entered. -/
def enterMode (s : State) (t : Nat) : State :=
  if t = modeEscapement then wakeAtOnce (setMode (sleepState s) modeEscapement)
  else if t = modeDrain then setMode (drainAll s) modeDrain
  else settleRole (setMode s t)

/-- The transition of an accepted request starts: it runs until time passes (log 1). On an ACTIVE twin member a request for
DRAIN or MAINTENANCE relinquishes and enters TWIN-SHADOW (R243, R481). -/
def startTransition (s : State) (t : Nat) : State :=
  if (t = modeDrain ∨ t = modeMaintenance) ∧ twinRole s = roleActive then
    (let s := relinquish s foRelinquish
     if s.mode = modeShadow then s else setMode s modeShadow)
  else (s.setF GLB_MODE.TRANS 0 1).setF GLB_MODE.TARGET 0 t

/-- A running transition ends; so does the stay of a retired module in ESCAPEMENT (R481, R483). -/
def endTransition (s : State) : State :=
  if s.fb GLB_MODE.TRANS 0 then enterMode s (s.f GLB_MODE.TARGET 0)
  else if s.mode = modeEscapement ∧ s.silo.retired then setMode s modeRetired
  else s

/-- A write of `GLB_MODE_REQ`. -/
def modeReq (s : State) (m : Master) (t : Nat) : State :=
  whenUp s .GLB fun s => checked s .GLB_MODE_CHECK m 0 (modeCauses s t) fun s => startTransition s t

/-- DRAIN ends. -/
def drainComplete (s : State) : State :=
  if s.mode == modeDrain && busyChannels s == [] then settleRole (setMode s modeStandby) else s

/-! ### Feeds and backup (R467–R470, R554) -/

/-- Register of a feed, its presence bit and its event. -/
def feedReg (f : Fin 2) : Reg := if f = 0 then .PWR_FEED_A else .PWR_FEED_B
def feedBit (f : Fin 2) : Fld := if f = 0 then PWR_STATUS.FEED_A else PWR_STATUS.FEED_B
def feedLost (f : Fin 2) : Fld := if f = 0 then PWR_EVT.FEED_A_LOST else PWR_EVT.FEED_B_LOST

/-- A feed voltage of 10 mV units; a negative one is a reversed feed. -/
def volts (v : BitVec 16) : Int := v.toInt

/-- The measured voltage of a feed, and the flags that follow from both. -/
def setVolt (s : State) (f : Fin 2) (v : BitVec 16) : State :=
  let s := s.setReg (feedReg f) 0 (BitVec.ofNat 32 (putBits (s.reg (feedReg f) 0).toNat 16 16 v.toNat))
  let va := volts (BitVec.ofNat 16 (s.f PWR_FEED_A.VOLT 0))
  let vb := volts (BitVec.ofNat 16 (s.f PWR_FEED_B.VOLT 0))
  (s.setB PWR_STATUS.OVERV 0 (va > 7500 || vb > 7500)).setB PWR_STATUS.REVERSE 0 (va < 0 || vb < 0)

/-- A feed falls below 33 V, or is reversed. -/
def feedLostNow (s : State) (f : Fin 2) (v : BitVec 16) : State :=
  let s := setVolt s f v
  if s.fb (feedBit f) 0 && volts v < 3300 then (s.setF (feedBit f) 0 0).raise (feedLost f) 0 else s

/-- A feed rises to 35 V: it is present, and a hold-up ends. -/
def feedBack (s : State) (f : Fin 2) (v : BitVec 16) : State :=
  let s := setVolt s f v
  if volts v ≥ 3500 && (!s.fb (feedBit f) 0 || s.fb PWR_STATUS.HOLDUP 0) then
    ((s.setF (feedBit f) 0 1).setF PWR_STATUS.HOLDUP 0 0).raise PWR_EVT.FEED_RESTORED 0
  else s

def overvolt (s : State) (f : Fin 2) (v : BitVec 16) : State :=
  let s := setVolt s f v
  if volts v > 7500 then s.raise PWR_EVT.OVERVOLT 0 else s

/-- Both feeds below 35 V: hold-up, and an ACTIVE member relinquishes. -/
def holdup (s : State) (va vb : BitVec 16) : State :=
  let s := setVolt (setVolt s 0 va) 1 vb
  if powered s && volts va < 3500 && volts vb < 3500 && !s.fb PWR_STATUS.HOLDUP 0 then
    relinquish ((s.setF PWR_STATUS.HOLDUP 0 1).raise PWR_EVT.HOLDUP 0) foRelinquish
  else s

/-- The controlled shutdown to DORMANT; it needs both feeds lost. -/
def shutdown (s : State) : State :=
  if powered s && !anyFeed s then
    setMode ((shutState s).setF PWR_STATUS.HOLDUP 0 0) modeDormant
  else s

/-- VBAK can carry the Escapement. -/
def vbakOk (s : State) : Bool := 2500 ≤ s.f PWR_BAK.VBAK 0 && s.f PWR_BAK.VBAK 0 ≤ 3600

/-- A measurement of VBAK in mV, and the backup that would carry the Escapement. -/
def setVbak (s : State) (mv : BitVec 16) : State :=
  let s := s.setF PWR_BAK.VBAK 0 mv.toNat
  s.setF PWR_STATUS.BAK_SRC 0 (if vbakOk s then 1 else 2)

/-- A measurement of the supercapacitor in mV. -/
def setScap (s : State) (mv : BitVec 16) : State :=
  (s.setF PWR_BAK.SCAP 0 mv.toNat).setB PWR_STATUS.BAK_READY 0 (mv.toNat ≥ 2900)

def bakReady (s : State) (mv vbak : BitVec 16) : State :=
  let was := s.fb PWR_STATUS.BAK_READY 0
  let s := setVbak (setScap s mv) vbak
  if mv.toNat ≥ 2900 && !was then s.raise PWR_EVT.BAK_READY 0 else s

def bakLow (s : State) (mv vbak : BitVec 16) : State :=
  let s := setVbak (setScap s mv) vbak
  if mv.toNat < 2200 && anyFeed s && !vbakOk s then s.raise PWR_EVT.BAK_LOW 0 else s

/-! ### Clocks (R474–R476) -/

/-- Every lane of the ports on one side loses its clock. -/
def sideFails (s : State) (line : Bool) : State :=
  ((List.range 64).filter fun p => isLine p == line && s.fb PORT_STATUS.READY p).foldl (fun s p =>
    (List.range (portWidth s p)).foldl (fun s l => laneFail s p l .cdr) s) s

/-- Reference of the core PLLs: REFCLK_C, else REFCLK_L, else holdover, which is an event. -/
def coreRefEval (s : State) : State :=
  let r := if s.fb CLK_STATUS.REFC_OK 0 then 0 else if s.fb CLK_STATUS.REFL_OK 0 then 1 else 2
  let s := if r = 2 && s.f CLK_STATUS.CORE_REF 0 != 2 then s.raise CLK_EVT.HOLDOVER 0 else s
  s.setF CLK_STATUS.CORE_REF 0 r

/-- The PCIe link leaves L0 and L1; a link that is down shows no speed and no width (R548). -/
def pcieDown (s : State) : State :=
  if s.fb GLB_PCIE_STATUS.LINK_UP 0 then
    (((s.setF GLB_PCIE_STATUS.LINK_UP 0 0).setF GLB_PCIE_STATUS.SPEED 0 0).setF GLB_PCIE_STATUS.WIDTH 0 0).raise
      GLB_PCIE_EVT.LINK_DOWN 0
  else s

def refLost (s : State) (r : RefClk) : State :=
  match r with
  | .c =>
    if s.fb CLK_STATUS.REFC_OK 0 then
      sideFails (coreRefEval ((s.setF CLK_STATUS.REFC_OK 0 0).raise CLK_EVT.REFC_LOST 0)) false
    else s
  | .l =>
    if s.fb CLK_STATUS.REFL_OK 0 then
      let s := sideFails (coreRefEval ((s.setF CLK_STATUS.REFL_OK 0 0).raise CLK_EVT.REFL_LOST 0)) true
      twinLinkLost (twinLinkLost s 0) 1
    else s
  | .p =>
    if s.fb CLK_STATUS.REFP_OK 0 then pcieDown ((s.setF CLK_STATUS.REFP_OK 0 0).raise CLK_EVT.REFP_LOST 0) else s

/-- A start that waited for a core reference goes on. -/
def releaseHold (s : State) : State :=
  match s.pwr.held with
  | some c => if s.mode == modeEscapement && coreRef s then startSelftest s c else s
  | none => s

def refPresent (s : State) (r : RefClk) : State :=
  match r with
  | .c => releaseHold (coreRefEval (s.setF CLK_STATUS.REFC_OK 0 1))
  | .l => releaseHold (coreRefEval (s.setF CLK_STATUS.REFL_OK 0 1))
  | .p => s.setF CLK_STATUS.REFP_OK 0 1

/-- Key engines that `PWR_CFG.KE_KEEP` names do not sleep: one that does wakes, once kclk has locked (R473). -/
def wakeKept (s : State) : State :=
  (List.range 4).foldl (fun s k => if bitAt (s.f PWR_CFG.KE_KEEP 0) k then wakeEngine s (64 + k) else s) s

/-- A PLL that runs locks. -/
def pllLock (s : State) (p : Pll) : State :=
  match p with
  | .d => if s.pllRun.getD 0 false then s.setF CLK_STATUS.D_LOCK 0 1 else s
  | .k => if s.pllRun.getD 1 false then wakeKept (s.setF CLK_STATUS.K_LOCK 0 1) else s
  | .c => if s.mode ≥ modeSelftest then s.setF CLK_STATUS.C_LOCK 0 1 else s

def lockBit : Pll → Fld
  | .d => CLK_STATUS.D_LOCK | .k => CLK_STATUS.K_LOCK | .c => CLK_STATUS.C_LOCK

/-- A locked core PLL loses lock: a warm reset, after which the event shows (R476). -/
def pllUnlock (s : State) (p : Pll) : State :=
  if s.fb (lockBit p) 0 then (warmReset s 7).raise CLK_EVT.PLL_UNLOCK 0 else s

/-- A write of `CLK_SSC`; the spread changes at the next modulation period, which no state shows. -/
def sscWrite (s : State) (m : Master) (v : Word) : State :=
  whenUp s .CLK fun s =>
    checked s .CLK_CHECK m 0 (cause ((List.range 3).any fun i => bitsOf v.toNat (4 * i) 4 > 8) 0xB8) fun s =>
      s.setReg .CLK_SSC 0 (maskedWrite .CLK_SSC v)

/-! ### Checked PWR registers (R488, R492) -/

def pwrRegName : PwrReg → Reg
  | .cfg => .PWR_CFG | .wakeEn => .PWR_WAKE_EN | .wakeTimer => .PWR_WAKE_TIMER | .io => .PWR_IO

def pwrCauses (s : State) (r : PwrReg) (v : Nat) : List Nat :=
  match r with
  | .wakeEn =>
    cause (bitAt v 18 && s.reg .PWR_WAKE_TIMER 0 == 0) 0xB9 ++
    cause ((List.range 16).any fun i => bitAt v i && gpioOut s i) 0xBA
  | .wakeTimer => cause (v == 0 && s.fb PWR_WAKE_EN.TIMER 0) 0xB9
  | _ => []

def pwrWrite (s : State) (m : Master) (r : PwrReg) (v : Word) : State :=
  whenUp s .PWR fun s =>
    checked s .PWR_CHECK m 0 (pwrCauses s r v.toNat) fun s =>
      let s := s.setReg (pwrRegName r) 0 (maskedWrite (pwrRegName r) v)
      let s := { s with pwr := { s.pwr with perst := s.pwr.perst && s.fb PWR_WAKE_EN.PERST 0 } }
      if r = .cfg then wakeKept s else s

/-! ### Commands -/

def execFeedLost (f : Fin 2) (v : BitVec 16) (s : State) : Host.Outcome State Fault Refusal := .next (feedLostNow s f v)
def execFeedRestored (f : Fin 2) (v : BitVec 16) (s : State) : Host.Outcome State Fault Refusal := .next (feedBack s f v)
def execOvervolt (f : Fin 2) (v : BitVec 16) (s : State) : Host.Outcome State Fault Refusal := .next (overvolt s f v)
def execHoldup (va : BitVec 16) (vb : BitVec 16) (s : State) : Host.Outcome State Fault Refusal := .next (holdup s va vb)
def execShutdown (s : State) : Host.Outcome State Fault Refusal := .next (shutdown s)
def execBakReady (mv vbak : BitVec 16) (s : State) : Host.Outcome State Fault Refusal := .next (bakReady s mv vbak)
def execBakLow (mv vbak : BitVec 16) (s : State) : Host.Outcome State Fault Refusal := .next (bakLow s mv vbak)
def execRefclkLost (r : RefClk) (s : State) : Host.Outcome State Fault Refusal := .next (refLost s r)
def execRefclkRecovered (s : State) : Host.Outcome State Fault Refusal := .next (refPresent s .c)
def execRefclkPresent (r : RefClk) (s : State) : Host.Outcome State Fault Refusal := .next (refPresent s r)
def execPllLock (p : Pll) (s : State) : Host.Outcome State Fault Refusal := .next (pllLock s p)
def execPllUnlock (p : Pll) (s : State) : Host.Outcome State Fault Refusal := .next (pllUnlock s p)
def execClkSscWrite (m : Master) (v : Word) (s : State) : Host.Outcome State Fault Refusal := .next (sscWrite s m v)
def execPwrCheckedWrite (m : Master) (r : PwrReg) (v : Word) (s : State) : Host.Outcome State Fault Refusal :=
  .next (pwrWrite s m r v)
def execModeReqOperational (m : Master) (s : State) : Host.Outcome State Fault Refusal := .next (modeReq s m modeOperational)
def execModeReqMaintenance (m : Master) (s : State) : Host.Outcome State Fault Refusal := .next (modeReq s m modeMaintenance)
def execModeReqDrain (m : Master) (s : State) : Host.Outcome State Fault Refusal := .next (modeReq s m modeDrain)
def execModeReqEscapement (m : Master) (s : State) : Host.Outcome State Fault Refusal := .next (modeReq s m modeEscapement)
def execDrainModeComplete (s : State) : Host.Outcome State Fault Refusal := .next (drainComplete s)
def execColdStart (s : State) : Host.Outcome State Fault Refusal := .next (coldStart s)
def execEscapementWake (w : WakeSrc) (s : State) : Host.Outcome State Fault Refusal := .next (wake s w)

/-- The wake timer runs out: its latch is set, and it wakes the module where it is enabled. -/
def execWakeTimerExpiry (s : State) : Host.Outcome State Fault Refusal :=
  .next (wake { s with pwr := { s.pwr with timer := s.pwr.timer || s.mode == modeEscapement } } .timer)

def execSelftestDone (ok : Bool) (raw : List (List Byte)) (s : State) : Host.Outcome State Fault Refusal :=
  .next (selftestDone s ok raw)
def execModResetN (s : State) : Host.Outcome State Fault Refusal := .next (modReset s)

/-- GLB_RESET (R487). -/
def execGlbReset (m : Master) (v : Word) (s : State) : Host.Outcome State Fault Refusal :=
  .next (whenUp s .GLB fun s => glbReset s m v.toNat)

end Sys2Proof.Machine
end

