-- ==== Sys2Proof/Machine/MemRows.lean ====
section
/-! DEFINITION. The MEM commands and what the memory controllers do by themselves: write-backs, scrubbing, candidates,
retirement, logs, the checker test and soft errors (R389, R392–R394, R398–R403, R409–R412). -/

namespace Sys2Proof.Machine

/-- `MEM_STATUS.CODE` of a controller: 0 light, 1 strong, 2 mixed. -/
def regionCode (s : State) (k : Nat) : Nat :=
  if k < 70 then
    let full := (List.range 3).map fun b => bankStrong s k b
    let win := (List.range 4).any fun i => bcWindow s k i != (0, 0)
    if full.all id then 1 else if full.any id || win then 2 else 0
  else if isStrong s k 0 then 1 else 0

/-! ### Corrections (R393, R394, R398, R399) -/

/-- A waiting write-back is made: the word loses its errors but for the bits that stick. -/
def writeBackNow (s : State) (k word : Nat) : State :=
  if writeBackDue s k word then
    let s := s.setMemc k { s.memc k with writeBack := (s.memc k).writeBack.erase word }
    let e := wordErr s k word
    setWordErr s k word { e with flips := stuckWrong e (ramWord s k word) }
  else s

/-- The scrubber reads one word: a correctable word is written back and counted; where its write-back waits already, that is
made. -/
def scrubWord (s : State) (k word : Nat) : State :=
  match readWord s k word with
  | .corrected _ => if writeBackDue s k word then writeBackNow s k word else writeBackNow ((noteRead s k word 2 0x70).inc .MEM_SCRUB_CE k) k word
  | _ => noteRead s k word 2 0x70

/-- Words of a region that hold errors and that a pass reads: those of its strong areas, and the light ones too with
`SCRUB_LIGHT`. A word without errors is read without consequence. -/
def scrubWords (s : State) (k : Nat) : List Nat :=
  (s.errs.filter fun e => e.1 % 75 == k && wordValid s k (e.1 / 75) &&
    (isStrong s k (8 * (e.1 / 75)) || s.fb MEM_CFG.SCRUB_LIGHT k)).map fun e => e.1 / 75

/-- A scrub pass ends. -/
def scrubEnd (s : State) (k : Nat) : State := (s.setF MEM_STATUS.SCRUB_BUSY k 0).raise MEM_EVT.SCRUB_DONE k

/-- A scrub pass of a region but the Granary, from its first word to its end. -/
def scrubPass (s : State) (k : Nat) : State := scrubEnd ((scrubWords s k).foldl (fun s w => scrubWord s k w) s) k

/-- A tracked word's window runs out. -/
def trackExpire (s : State) (k word : Nat) : State :=
  let s := s.setMemc k { s.memc k with tracks := (s.memc k).tracks.filter fun t => t.word != word }
  s.setF MEM_STATUS.CANDIDATES k (((s.memc k).tracks.filter (·.candidate)).length)

def execEccWriteback (k : Fin 75) (word : Nat) (s : State) : Host.Outcome State Fault Refusal := .next (writeBackNow s k word)

def execCandidateEntryExpiry (k : Fin 75) (word : Nat) (s : State) : Host.Outcome State Fault Refusal :=
  .next (trackExpire s k word)

/-! ### MEM_CTL (R402, R398) -/

/-- Pages of a half out of the map or on their way out. -/
def pagesOut (s : State) (k : Nat) : List Nat := (s.memc k).retired ++ (s.memc k).retiring

/-- Causes against RETIRE of a page. -/
def retireCauses (s : State) (k page : Nat) : List Nat :=
  cause (k == 74) 0xE1 ++
  if k ≠ 71 ∧ k ≠ 72 then [0xE2]
  else
    cause (page ≥ halfPages s) 0xE3 ++ cause ((pagesOut s k).contains page) 0xE4 ++
    cause ((pagesOut s k).length ≥ 256) 0xE5 ++ cause (halfSum s (k - 71) + 4 > halfCapacity s (k - 71)) 0xE6

/-- A page that RETIRE named leaves the free-page map, once no frame lies in it (R402). -/
def pageRetired (s : State) (k page : Nat) : State :=
  if (s.memc k).retiring.contains page && !(usedPages s (k - 71)).contains page then
    let c := s.memc k
    (s.setMemc k { c with retiring := c.retiring.erase page, retired := c.retired ++ [page] }).raise MEM_EVT.RETIRED k
  else s

/-- A write of `MEM_CTL`. A free page leaves the map at once. -/
def memCtlWrite (s : State) (m : Master) (k v : Nat) : State :=
  match bitsOf v 28 4 with
  | 1 =>
    checked s .MEM_CHECK m k (retireCauses s k (bitsOf v 0 14)) fun s =>
      pageRetired (s.setMemc k { s.memc k with retiring := (s.memc k).retiring ++ [bitsOf v 0 14] }) k (bitsOf v 0 14)
  | 2 =>
    checked s .MEM_CHECK m k (cause (k == 74) 0xE1 ++ cause (s.fb MEM_STATUS.SCRUB_BUSY k) 0xE8) fun s =>
      s.setF MEM_STATUS.SCRUB_BUSY k 1
  | _ => checked s .MEM_CHECK m k (cause (k == 74) 0xE1 ++ [0xE8]) id

/-- A command of the MEM window on the selected controller. -/
def onMem (s : State) (m : Master) (effect : Nat → State → State) : State :=
  whenUp s .MEM fun s => inWindow s .mem m effect

def execScrubNow (m : Master) (v : Word) (s : State) : Host.Outcome State Fault Refusal :=
  .next (onMem s m fun k s => memCtlWrite s m k v.toNat)

def execRetire (m : Master) (v : Word) (s : State) : Host.Outcome State Fault Refusal :=
  .next (onMem s m fun k s => memCtlWrite s m k v.toNat)

def execPageRetired (h : Fin 2) (page : Nat) (s : State) : Host.Outcome State Fault Refusal := .next (pageRetired s (71 + h) page)

/-! ### MEM_CFG and MEM_FLIPMASK (R409, R411, R412) -/

def hoursOk (n : Nat) : Bool := 1 ≤ n && n ≤ 168

/-- A write of `MEM_CFG`. -/
def memCfgWrite (s : State) (m : Master) (k : Nat) (v : Word) : State :=
  checked s .MEM_CHECK m k
    (cause (k == 74) 0xE1 ++ cause (!hoursOk (bitsOf v.toNat 0 8) || !hoursOk (bitsOf v.toNat 8 8)) 0xE7) fun s =>
      s.setReg .MEM_CFG k (maskedWrite .MEM_CFG v)

/-- Causes against a write of `MEM_FLIPMASK`. Without a mode it arms nothing and is allowed in every mode. -/
def flipCauses (s : State) (k v : Nat) : List Nat :=
  let mode := bitsOf v 16 2
  let check := bitsOf v 0 16
  let data := s.f MEM_FLIPDATA.DATA (2 * k) + s.f MEM_FLIPDATA.DATA (2 * k + 1)
  cause (k == 74) 0xE1 ++ cause (mode != 0 && s.mode != modeMaintenance) 0xE9 ++
  cause (mode == 3 || (check ≥ 256 && regionCode s k == 0) || (mode == 1 && check == 0) ||
    (mode == 2 && check == 0 && data == 0)) 0xEA ++
  cause (s.f MEM_FLIPMASK.MODE k != 0) 0xEB

/-- A write of `MEM_FLIPMASK`. -/
def flipArm (s : State) (m : Master) (k : Nat) (v : Word) : State :=
  checked s .MEM_CHECK m k (flipCauses s k v.toNat) fun s =>
    let s := s.setReg .MEM_FLIPMASK k (maskedWrite .MEM_FLIPMASK v)
    s.setB MEM_STATUS.FLIP_ARMED k (s.f MEM_FLIPMASK.MODE k != 0)

def execMemCfgWrite (m : Master) (v : Word) (s : State) : Host.Outcome State Fault Refusal :=
  .next (onMem s m fun k s => memCfgWrite s m k v)

def execMemFlipmaskArm (m : Master) (v : Word) (s : State) : Host.Outcome State Fault Refusal :=
  .next (onMem s m fun k s => flipArm s m k v)

/-! ### Logs (R400, R411) -/

def memCtrs : List Ctr := [.MEM_CE, .MEM_UE, .MEM_SCRUB_CE, .MEM_DP_DISCARD]

/-- A write of `MEM_LOG_CTL`: POP, FE_CLR and CNT_CLR. -/
def memLogCtl (s : State) (k v : Nat) : State :=
  let s := if bitAt v 0 then s.setMemc k { s.memc k with fifo := (s.memc k).fifo.drop 1 } else s
  let s := if bitAt v 1 then (List.range 4).foldl (fun s i => s.setReg .MEM_FE (4 * k + i) 0) s else s
  if bitAt v 2 then memCtrs.foldl (fun s c => s.setCnt c k 0) s else s

/-- A write of `MEM_OVF`. -/
def memOvfWrite (s : State) (k v : Nat) : State := if bitAt v 31 then s.setReg .MEM_OVF k 0 else s

def execPop (m : Master) (v : Word) (s : State) : Host.Outcome State Fault Refusal :=
  .next (onMem s m fun k s => memLogCtl s k v.toNat)

def execFeClr (m : Master) (v : Word) (s : State) : Host.Outcome State Fault Refusal :=
  .next (onMem s m fun k s => memLogCtl s k v.toNat)

def execMemCntClr (m : Master) (v : Word) (s : State) : Host.Outcome State Fault Refusal :=
  .next (onMem s m fun k s => memLogCtl s k v.toNat)

def execLostClear (m : Master) (v : Word) (s : State) : Host.Outcome State Fault Refusal :=
  .next (onMem s m fun k s => memOvfWrite s k v.toNat)

/-! ### Zeroisation and soft errors (R389, R392) -/

/-- The overwrite with zero ends; a cleared word reads as zero before and after. -/
def overwriteDone (s : State) (k : Nat) : State := s.setMemc k { s.memc k with overwriting := false }

/-- Bits of a word flip, and stick at their new level where `stuck` says so. In a word whose valid bit is clear only a
stuck bit lasts, at a level that is free. The level at which a check bit sticks is free as well. -/
def softError (s : State) (k word : Nat) (bits : List Nat) (stuck : Bool) : State :=
  let bits := (bits.filter fun b => b < if isStrong s k (8 * word) then 80 else 72).eraseDups
  let e := wordErr s k word
  let v := wordValid s k word
  let level := fun (i b : Nat) =>
    if v && b < 64 then !(((ramWord s k word).testBit b) != e.flips.contains b) else Config.freeBool (s.freeCtr + i)
  let new := (bits.zipIdx.map fun p => (p.1, level p.2 p.1))
  let e := { e with
    flips := if v then xorFlips e.flips bits else e.flips
    stuck := if stuck then (e.stuck.filter fun p => !bits.contains p.1) ++ new else e.stuck }
  { setWordErr s k word e with freeCtr := s.freeCtr + if stuck then bits.length else 0 }

def execZeroiseOverwriteDone (k : Fin 75) (s : State) : Host.Outcome State Fault Refusal := .next (overwriteDone s k)

/-! ### The smaller RAMs (R391, R408) -/

/-- A copy of an engine with wrong parity is dropped, to be fetched again: the address of its line and the engine without
it. Fetch reads again from a lost entry of its queue on. -/
def dropLine (x : Eng) (r : LineRam) (i : Nat) : Option (Nat × Eng) :=
  match r with
  | .cache => x.cache[i]?.map fun l => (64 * l.1, { x with cache := x.cache.eraseIdx i })
  | .fetch => x.fetchQ[i]?.map fun f => (f.addr, { x with fetchQ := x.fetchQ.take i })
  | .loop => x.lbuf[i]?.map fun l => (l.1, { x with lbuf := x.lbuf.eraseIdx i })
  | .streamX => x.lineX.map fun l => (l.1, { x with lineX := none })
  | .streamY => x.lineY.map fun l => (l.1, { x with lineY := none })

def lineOp : LineRam → Nat
  | .fetch | .loop => 3
  | _ => 0

def lineError (s : State) (e : Nat) (r : LineRam) (i : Nat) : State :=
  match dropLine (s.eng e) r i with
  | some (a, x) => memLog (s.setEng e x) e kindParity (lineOp r) false e [] (a / 8)
  | none => s

/-- A unit whose words stand in an engine's FIFOs is discarded: its transmit slot is skipped. -/
def unitError (s : State) (e tslot : Nat) : State :=
  let hit := fun (u : TxUnit) => u.eng == e && u.tslot == tslot && !u.discarded
  match s.ports.find? fun p => p.2.slots.any hit with
  | none => s
  | some (p, st) =>
    let s := s.setPort p { st with slots := st.slots.map fun u => if hit u then { u with discarded := true } else u }
    dpDiscard (s.updEng e fun x => x.takeBack tslot) (halfOf (e / 2))

/-- A frame or message of a tithe queue is discarded. -/
def titheError (s : State) (l : Nat) (there : Bool) (q : LinkQ) : State :=
  if there then (s.setLink l q).inc .FAB_RX_DROP_FMT l else s

/-- The epoch keys that wait in a channel's next slots are erased; the current ones seal and open on. -/
def eraseNextKeys (s : State) (c : Nat) : State :=
  let e := egNext s c
  let i := inNext s c
  let s := if (s.chan c).retiring then s else zeroEgSlot (setEgValid s c e false codeSilo) c e
  let s := zeroInSlot (setInValid s c i false codeSilo) c i
  s.setKey c { s.key c with waitAck := false }

end Sys2Proof.Machine
end

