-- ==== Sys2Proof/Machine/Granary.lean ====
section
/-! DEFINITION. Reads and losses of Granary words and of custody-store entries, and the commands in which they are met
(R398, R407, R501, R503). -/

namespace Sys2Proof.Machine

/-! ### Losses -/

/-- The import key that a wrapped secret names is erased. -/
def dropImportKey (s : State) (id : List Byte) : State :=
  granaryPut s { s.silo with importKeys := s.silo.importKeys.filter fun k => k.id != id }

/-- Delete a pin (R210). -/
def unpin (s : State) (n : W64) : State :=
  hsRemovedNode (granaryPut s { s.silo with pins := s.silo.pins.filter fun p => p.node != n }) n

/-- A fatal fault zeroises (R503). -/
def fatal (s : State) : State := if s.mode = modeDormant then tripDormant s causeFatal 0 else trip s causeFatal 0

/-- The root of a channel is lost: it is erased with its epoch keys, so that no further epoch is derived (R407). -/
def rootLost (s : State) (c : Nat) : State :=
  let s := eraseNextKeys s c
  let k := s.key c
  let s := (ctxC s Ctx.ROOT_OK c 0).setKey c { k with root := none, old := none, due := false, retry := 0, waitLink := false }
  if (s.session c).isNone then s.setF CH_STATUS.REKEYING c 0 else s

/-- A word that is uncorrectable in both copies is lost. The loss of a word of the pin index unpins its node, and that
of an import key erases it (DESIGN CHOICE, log 110). -/
def granaryLoss (s : State) (a : GranaryArea) : State :=
  match a with
  | .identity | .domain | .fabric => fatal s
  | .custody =>
    let s := (s.keys.map (·.1)).foldl rootLost s
    granaryPut s { s.silo with custody := none }
  | .importKey i =>
    match s.silo.importKeys[i]? with
    | some k => dropImportKey s k.id
    | none => s
  | .pin i =>
    match s.silo.pins[i]? with
    | some p => unpin s p.node
    | none => s

/-! ### Reads -/

/-- A copy of a word cannot be used. One whose errors its code does not detect differs from the other copy and counts as such
(DESIGN CHOICE, log 110). -/
def copyBad (s : State) (w : Nat) : Bool :=
  match readWord s granaryCtl w with
  | .clean | .corrected _ => false
  | .bad | .wrong _ => true

/-- A copy is written again from the other one. -/
def copyMend (s : State) (w : Nat) : State :=
  let e := wordErr s granaryCtl w
  setWordErr s granaryCtl w { e with flips := stuckWrong e (ramWord s granaryCtl w) }

/-- The Silo reads a word: `note` says what each copy's read does by itself. It takes the copy that decodes and rewrites the other
one from it; without one the word is lost. -/
def granaryRead (note : State → Nat → State) (s : State) (w : Nat) : State :=
  let a := copyBad s w
  let b := copyBad s (w + granaryWords)
  let t := note (note s w) (w + granaryWords)
  if a && b then granaryLoss t (granaryArea w).1
  else if a then copyMend t w
  else if b then copyMend t (w + granaryWords)
  else t

/-- Words of the areas `p` that hold something and an error in either copy; a word without errors is read without consequence. -/
def badWords (s : State) (p : GranaryArea → Bool) : List Nat :=
  ((s.errs.filter fun e => e.1 % 75 == granaryCtl && wordValid s granaryCtl (e.1 / 75)).map
    fun e => e.1 / 75 % granaryWords).eraseDups.filter fun w => p (granaryArea w).1

/-- The Silo reads the areas `p`. -/
def granaryUse (s : State) (p : GranaryArea → Bool) : State :=
  (badWords s p).foldl (granaryRead fun s w => noteRead s granaryCtl w 0 0x53) s

/-- The scrubber reads the whole Granary (R398). -/
def granaryScrub (s : State) : State :=
  scrubEnd ((badWords s fun _ => true).foldl (granaryRead fun s w => scrubWord s granaryCtl w) s) granaryCtl

def execScrubPass (k : Fin 75) (s : State) : Host.Outcome State Fault Refusal :=
  .next (if k.val = granaryCtl then granaryScrub s else scrubPass s k)

/-! ### Soft errors -/

/-- The custody-store entry of a channel is found uncorrectable: in one copy it is written again from the other one; in both the
channel's root is lost (R407, R501). Its address in the log is free: the spec does not lay the custody store out. -/
def custodyError (s : State) (c : Nat) (both : Bool) : State :=
  let s := memLog { s with freeCtr := s.freeCtr + 1 } 74 kindUE 0 false 0 [] (Config.freeNat s.freeCtr % 65536)
  let s := s.inc .MEM_UE 74
  if both then (rootLost s c).raise MEM_EVT.UE 74 else s

/-- An error in a Granary word. When the Silo next reads the word the spec does not say: a word that is bad in both copies is
found at once, one that is bad in one copy when it is used or scrubbed (DESIGN CHOICE, log 110). -/
def granaryHit (s : State) (word : Nat) : State :=
  let w := word % granaryWords
  if word < 2 * granaryWords && copyBad s w && copyBad s (w + granaryWords) then
    granaryRead (fun s w => noteRead s granaryCtl w 0 0x53) s w
  else s

def execMemorySoftError (x : SoftError) (s : State) : Host.Outcome State Fault Refusal :=
  .next (match x with
    | .word k word bits stuck =>
      let s := softError s k word bits stuck
      if k.val = granaryCtl then granaryHit s word else s
    | .vote k word i =>
      let s := voteError s k word i
      if k.val = granaryCtl then granaryHit s word else s
    | .granaryRoot c both => custodyError s c both
    | .line e r i => lineError s e r i
    | .table t => if s.lost.contains t then s else { s with lost := s.lost ++ [t] }
    | .unit e t => unitError s e t.toNat
    | .titheTx l i => titheError s l (i < (s.link l).tx.length) { s.link l with tx := (s.link l).tx.eraseIdx i }
    | .titheRx l i => titheError s l (i < (s.link l).msgs.length) { s.link l with msgs := (s.link l).msgs.eraseIdx i })

end Sys2Proof.Machine
end

