-- ==== Sys2Proof/Machine/SheafCheck.lean ====
section
/-! DEFINITION. Verification of a sheaf in a flash slot: steps 1 to 5 of a load, and the recovery image (R363–R375,
R387). -/

namespace Sys2Proof.Machine

/-! ### Flash (R372) -/

def slotSize : Nat := 125829120
def slotBase (slot : Nat) : Nat := 0x100000 + slot * slotSize

/-- Bytes of a slot. -/
def slotBytes (s : State) (slot off n : Nat) : List Byte := ramBytes s flashRegion (slotBase slot + off) n

/-- Every byte of a list is zero. -/
def allZero (l : List Byte) : Bool := l.all (· == 0)

/-! ### Header and section table (R363, R364) -/

/-- Entry of the section table. -/
structure SecEnt where
  type : Nat
  index : Nat
  flags : Nat
  off : Nat
  len : Nat
  digest : List Byte
  /-- The 64 bytes of the entry. -/
  raw : List Byte
  deriving DecidableEq, Repr

def secEnt (b : List Byte) : SecEnt := ⟨leAt b 0 2, leAt b 2 2, leAt b 4 4, leAt b 8 4, leAt b 12 4, sliceAt b 16 48, b⟩

def hdrEntries (h : List Byte) : Nat := leAt h 6 2
def hdrLength (h : List Byte) : Nat := leAt h 8 4
def hdrVariants (h : List Byte) : Nat := leAt h 14 1
def hdrSvn (h : List Byte) : Nat := leAt h 16 4
def hdrFloorReq (h : List Byte) : Nat := leAt h 20 4

def tStruct : Nat := 1
def tCode : Nat := 2
def tBankcfg : Nat := 3
def tPortmap : Nat := 4
def tCompl : Nat := 5
def tEvtmap : Nat := 6
def tPolicy : Nat := 7
def tSig : Nat := 8

/-- Section table of the image in a slot. -/
def secTable (s : State) (slot : Nat) (h : List Byte) : List SecEnt :=
  (List.range (hdrEntries h)).map fun i => secEnt (slotBytes s slot (128 + 64 * i) 64)

def ofType (t : Nat) (es : List SecEnt) : List SecEnt := es.filter fun x => x.type == t

/-- The first entry of a type. -/
def theOne (t : Nat) (es : List SecEnt) : SecEnt := (ofType t es).headD (secEnt [])

/-- Indices run 0, 1, 2 … in table order. -/
def indexed (es : List SecEnt) : Bool := es.map (·.index) == List.range es.length

/-- Sections start at rising offsets, without overlap, from the end of the table; bytes between them are zero. -/
def inOrderFrom (s : State) (slot : Nat) : Nat → List SecEnt → Bool
  | _, [] => true
  | at_, x :: xs =>
    x.off % 64 == 0 && at_ ≤ x.off && (match xs with | y :: _ => decide (x.off < y.off) | [] => true) &&
      allZero (slotBytes s slot at_ (x.off - at_)) && inOrderFrom s slot (x.off + x.len) xs

/-- A well-formed section table (R364). -/
def tableOk (s : State) (slot : Nat) (h : List Byte) (es : List SecEnt) : Bool :=
  es.all (fun x => 1 ≤ x.type && x.type ≤ 8 && (x.type == tCode || x.type == tCompl || x.index == 0) &&
    (x.flags == 0 || (x.flags == 1 && x.type == tCompl)) && (x.type != tSig || allZero x.digest)) &&
  [tStruct, tBankcfg, tPortmap, tEvtmap, tPolicy, tSig].all (fun t => (ofType t es).length == 1) &&
  indexed (ofType tCode es) && indexed (ofType tCompl es) &&
  1 ≤ (ofType tCode es).length && (ofType tCode es).length ≤ 80 && (ofType tCompl es).length ≤ 64 &&
  inOrderFrom s slot (128 + 64 * es.length) es &&
  (match es.getLast? with | some x => x.type == tSig && x.off + x.len == hdrLength h | none => false)

/-- Step 1: the slot's header and table. What an interrupted ERASE or PROGRAM left is free, so the code is one of those
that step 1 and step 4 can find. What cannot be read is not judged further. -/
def step1 (s : State) (slot : Nat) (h : List Byte) (fl : FlashRead) : List Nat :=
  if s.shf.incomplete.contains slot then [[0xC3, 0xC4, 0xC5, 0xCC, 0xD4].getD (Config.freeNat s.freeCtr % 5) 0xD4]
  else if fl = .badHead then [0xD4]
  else if h.all (· == 0xFF) then [0xC3]
  else
    cause (h.take 4 != [0x53, 0x48, 0x46, 0x32] || leAt h 4 2 != 2) 0xC4 ++
    cause (hdrEntries h < 8 || hdrEntries h > 160 || hdrLength h > slotSize || bitAt (hdrVariants h) 0 ||
      hdrVariants h ≥ 16 || !allZero (sliceAt h 48 80) || !tableOk s slot h (secTable s slot h)) 0xC5

/-- `GLB_PARTID`[7:0]: silicon revision B0, the first of production (R4). -/
def siliconRev : Nat := 0xB0

/-- Step 2: the header against the module (R5, R368, R369). -/
def step2 (s : State) (h : List Byte) : List Nat :=
  cause (leAt h 12 2 != 0x6400 || !bitAt (hdrVariants h) s.variant) 0xC6 ++
  cause (siliconRev < leAt h 15 1) 0xC7 ++ cause (hdrSvn h < s.shf.floor) 0xC8 ++
  cause (hdrFloorReq h > hdrSvn h || (hdrFloorReq h > s.shf.floor && s.shf.rows ≥ 256)) 0xC9

/-! ### Signatures (R366, R367) -/

/-- Message of Terori's manifest. -/
def manifestT (h : List Byte) (es : List SecEnt) : List Byte :=
  h ++ ((es.filter fun x => x.type != tSig && x.flags == 0).map (·.raw)).flatten

/-- Message of the customer's manifest. -/
def manifestC (h : List Byte) (es : List SecEnt) : List Byte :=
  h ++ (theOne tPolicy es).raw ++ ((ofType tCompl es).map (·.raw)).flatten

def ctxSheaf : List Byte := ascii "QVR-SHEAF"
def ctxSheafC : List Byte := ascii "QVR-SHEAF-C"

/-- Terori's three signatures verify. -/
def teroriOk (sig : List Byte) (h : List Byte) (es : List SecEnt) : Bool :=
  match Config.teroriKeys (leAt sig 8 4) with
  | none => false
  | some (ml, ec, slh) =>
    let d := Crypto.sha384 (manifestT h es)
    sig.length == 39254 && sig.take 4 == ascii "SIGS" && allZero (sliceAt sig 4 4) &&
    Crypto.mldsaVerify ml ctxSheaf d (sliceAt sig 12 4627) && Crypto.ecdsaVerify ec (ctxSheaf ++ d) (sliceAt sig 4639 96) &&
    Crypto.slhdsaVerify slh ctxSheaf d (sliceAt sig 4735 29792)

/-- Bytes of one customer sheaf key in the enrolment: ML-DSA-87 and ECDSA public keys. -/
def custKeyLen : Nat := 2689

/-- A customer sheaf key by its index, 0–3. -/
def custKey (s : State) (i : Nat) : Option (List Byte × List Byte) :=
  match s.silo.domain with
  | none => none
  | some d =>
    if i < 4 ∧ custKeyLen * (i + 1) ≤ d.custKeys.length then
      some (sliceAt d.custKeys (custKeyLen * i) 2592, sliceAt d.custKeys (custKeyLen * i + 2593) 96)
    else none

/-- The customer's two signatures verify. -/
def customerOk (s : State) (sig : List Byte) (h : List Byte) (es : List SecEnt) : Bool :=
  match custKey s (leAt sig 34527 4) with
  | none => false
  | some (ml, ec) =>
    let d := Crypto.sha384 (manifestC h es)
    Crypto.mldsaVerify ml ctxSheafC d (sliceAt sig 34531 4627) && Crypto.ecdsaVerify ec (ctxSheafC ++ d) (sliceAt sig 39158 96)

/-- Step 3. -/
def step3 (s : State) (slot : Nat) (h : List Byte) (es : List SecEnt) : List Nat :=
  let sig := slotBytes s slot (theOne tSig es).off (theOne tSig es).len
  cause (!teroriOk sig h es) 0xCA ++ cause (!customerOk s sig h es) 0xCB

/-! ### Sections (R365, R371) -/

/-- Step 4: every section is read and has its digest. Both manifests cover what R366 names by the way they are built. -/
def step4 (s : State) (slot : Nat) (es : List SecEnt) (fl : FlashRead) : List Nat :=
  cause (es.any fun x => x.type != tSig && Crypto.sha384 (slotBytes s slot x.off x.len) != x.digest) 0xCC ++
  cause (fl == .badSection) 0xD4

/-- The image of a slot. -/
def sheafOf (s : State) (slot : Nat) (h : List Byte) (es : List SecEnt) : Sheaf :=
  let body := fun (x : SecEnt) => slotBytes s slot x.off x.len
  let one := fun t => body (theOne t es)
  let sec := fun (x : SecEnt) => (⟨x.flags == 1, x.digest, body x⟩ : Section)
  { header := h
    struct := one tStruct
    code := (ofType tCode es).map sec
    bankcfg := one tBankcfg
    portmap := one tPortmap
    compl := (ofType tCompl es).map sec
    evtmap := one tEvtmap
    policy := one tPolicy
    digests := [tStruct, tBankcfg, tPortmap, tEvtmap, tPolicy].map fun t => (theOne t es).digest
    digest := Crypto.sha384 (slotBytes s slot 0 (hdrLength h)) }

/-- Instances of a unit kind in the pool of a class (R260). -/
def poolOf (kind cls : Nat) : Nat :=
  match kind with
  | 0 => 8
  | 1 | 2 => 3
  | 3 => 2
  | 4 => 3
  | 5 => 1
  | 6 | 7 => if cls = 0 then 2 else 0
  | 8 => if cls = 0 then 2 else if cls = 2 then 1 else 0
  | 9 => if cls = 0 then 1 else 0
  | 10 => if cls = 1 then 0 else 1
  | 11 => if cls = 0 then 4 else 0
  | 12 | 13 => if cls = 1 then 2 else 0
  | 14 | 15 | 16 | 17 | 18 => if cls = 1 then 1 else 0
  | _ => 0

/-- Engine present on this ordering code (R2). -/
def engPresent (s : State) (e : Nat) : Bool := e < 70 && !(s.isHA && e ≥ 32 && e < 64)

/-- Units of a class record at an offset of STRUCT. -/
def recUnits (st : List Byte) (o : Nat) : List UnitSel :=
  (List.range (leAt st (o + 1) 1)).map fun i => ⟨leAt st (o + 8 + 8 * i) 1, leAt st (o + 9 + 8 * i) 1, leAt st (o + 10 + 8 * i) 2⟩

/-- Port-ID ranges of two units do not meet. -/
def portsApart (cls : Nat) (a b : UnitSel) : Bool :=
  a.base + (unitPorts a.kind cls).length ≤ b.base || b.base + (unitPorts b.kind cls).length ≤ a.base

/-- Every two units of a list satisfy `p`. -/
def pairwise (p : UnitSel → UnitSel → Bool) : List UnitSel → Bool
  | [] => true
  | x :: xs => xs.all (p x) && pairwise p xs

/-- A class record of STRUCT. One unit of the pool is selected once. -/
def classRecOk (st : List Byte) (o cls : Nat) : Bool :=
  let us := recUnits st o
  let n := leAt st (o + 1) 1
  leAt st o 1 == cls && 1 ≤ n && n ≤ 24 && leAt st (o + 2) 1 == (if cls = 0 then 16 else 8) &&
  allZero (sliceAt st (o + 3) 5) && allZero (sliceAt st (o + 8 + 8 * n) (8 * (24 - n))) &&
  (List.range n).all (fun i => allZero (sliceAt st (o + 12 + 8 * i) 4)) &&
  us.all (fun u => u.inst < poolOf u.kind cls &&
    (if u.kind = kCompl then u.base == 0xE00 + 0x10 * u.inst
     else 0x100 ≤ u.base && u.base + (unitPorts u.kind cls).length ≤ 0x800)) &&
  pairwise (fun a b => !(a.kind == b.kind && a.inst == b.inst)) us &&
  pairwise (portsApart cls) (us.filter fun u => u.kind != kCompl)

/-- STRUCT (0xCD), with the save-entry limit of R281 for every engine. -/
def structOk (s : State) : Bool :=
  let st := s.sheaf.struct
  let ovr := leAt st 1 1
  leAt st 0 1 == 1 && ovr ≤ 70 && leAt st 2 2 ≤ 96 && allZero (sliceAt st 4 12) && st.length == 616 + 208 * ovr &&
  (List.range 3).all (fun c => classRecOk st (16 + 200 * c) c) &&
  (List.range ovr).all (fun i =>
    leAt st (616 + 208 * i) 1 < 70 && allZero (sliceAt st (617 + 208 * i) 7) &&
    classRecOk st (624 + 208 * i) (engClass (leAt st (616 + 208 * i) 1))) &&
  (List.range 70).all fun e => (savedPorts s e).length ≤ 52

/-- A class record of BANKCFG: windows of whole bundles inside one bank, and a layout that fits (R390). -/
def bankRecOk (b : List Byte) (o cls : Nat) : Bool :=
  leAt b o 1 == cls && leAt b (o + 1) 1 ≤ 7 && allZero (sliceAt b (o + 2) 6) && allZero (sliceAt b (o + 40) 8) &&
  (List.range 4).all (fun i =>
    let w := recWindow b o i
    w == (0, 0) || (w.1 % 64 == 0 && w.2 % 64 == 0 && w.1 < w.2 && w.1 / 2 ^ 30 < 3 &&
      w.1 / 2 ^ 30 == (w.2 - 1) / 2 ^ 30 && (w.2 - 1) % 2 ^ 30 < recSize b o cls (w.1 / 2 ^ 30))) &&
  (List.range 3).all fun k => recStrong b o k || strongRoom b o k ≤ bankLines cls

/-- BANKCFG (0xCF): every class record and every override. -/
def bankcfgOk (b : List Byte) : Bool :=
  let ovr := leAt b 1 1
  leAt b 0 1 == 1 && ovr ≤ 70 && leAt b 2 1 ≤ 1 && leAt b 3 1 ≤ 1 && leAt b 4 1 ≤ 168 && leAt b 5 1 ≤ 1 && leAt b 6 2 ≤ 168 &&
  allZero (sliceAt b 8 8) && b.length == 160 + 56 * ovr &&
  (List.range 3).all (fun c => bankRecOk b (16 + 48 * c) c) &&
  (List.range ovr).all fun i =>
    leAt b (160 + 56 * i) 1 < 70 && allZero (sliceAt b (161 + 56 * i) 7) && bankRecOk b (168 + 56 * i) (engClass (leAt b (160 + 56 * i) 1))

/-- Length of an image with its segments padded. -/
def codeLen (b : List Byte) : Nat :=
  (List.range (leAt b 28 2)).foldl (fun n i => n + ceilDiv (leAt b (36 + 8 * i) 4) 64 * 64) (32 + 8 * leAt b 28 2)

/-- Bytes of a code image's segments, padded. -/
def segBytes (b : List Byte) : Nat := codeLen b - 32 - 8 * leAt b 28 2

/-- Engines that an image names, as `ENG_SEL` numbers. -/
def imageEngines (b : List Byte) : List Nat :=
  let c := leAt b 0 1
  (List.range 64).filterMap fun i =>
    if bitAt (leAt b 4 8) i then some (if c = 0 then i else if c = 1 then 64 + i else 68 + i) else none

/-- Padding of the segments is zero. -/
def paddingOk (b : List Byte) : Bool :=
  ((List.range (leAt b 28 2)).foldl (fun (p : Nat × Bool) i =>
    let len := leAt b (36 + 8 * i) 4
    let full := ceilDiv len 64 * 64
    (p.1 + full, p.2 && allZero (sliceAt b (p.1 + len) (full - len)))) (32 + 8 * leAt b 28 2, true)).2

/-- A bundle address inside a bank of an engine (R300, R302). -/
def bundleOk (s : State) (e a : Nat) : Bool := a % 64 == 0 && a / 2 ^ 30 < 3 && a % 2 ^ 30 < bankSize s e (a / 2 ^ 30)

/-- Entry, vector base, segments and stack of an image on one engine. -/
def imageFits (s : State) (b : List Byte) (e : Nat) : Bool :=
  bundleOk s e (leAt b 12 4) && bundleOk s e (leAt b 16 4) &&
  (List.range (leAt b 28 2)).all (fun i =>
    let a := leAt b (32 + 8 * i) 4
    let n := leAt b (36 + 8 * i) 4
    a / 2 ^ 30 < 3 && a % 2 ^ 30 + n ≤ bankSize s e (a / 2 ^ 30) &&
    (a % 64 == 0 || !((List.range 4).any fun j => let w := bcWindow s e j; w != (0, 0) && a < w.2 && w.1 < a + n))) &&
  leAt b 20 4 ≤ bankSize s e 2 - 4096 && leAt b 24 4 ≤ bankSize s e 2 - 4096

/-- One CODE section. -/
def codeSecOk (s : State) (b : List Byte) : Bool :=
  let c := leAt b 0 1
  let segs := leAt b 28 2
  c ≤ 2 && leAt b 1 1 ≤ 3 && !(c == 0 && bitAt (leAt b 1 1) 0) && allZero (sliceAt b 2 2) && allZero (sliceAt b 30 2) &&
  leAt b 4 8 < 2 ^ (if c = 0 then 64 else if c = 1 then 4 else 2) &&
  1 ≤ segs && segs ≤ 48 && b.length == codeLen b && paddingOk b && (c != 0 || segBytes b ≤ 196608) &&
  (imageEngines b).all fun e => !engPresent s e || imageFits s b e

/-- Bytes of the data-engine images of a sheaf. -/
def dataCodeBytes (x : Sheaf) : Nat := ((x.code.filter fun c => leAt c.bytes 0 1 == 0).foldl (fun n c => n + segBytes c.bytes) 0)

/-- Bytes of one half of the code store that a STRUCT gives. -/
def storeHalfSize (st : List Byte) : Nat := leAt st 2 2 * 65536 / 2

/-- CODE (0xCE): every present engine in exactly one image, and each half of the code store holds the images. -/
def codeOk (s : State) : Bool :=
  s.sheaf.code.all (fun c => codeSecOk s c.bytes) &&
  (List.range 70).all (fun e => !engPresent s e || (s.sheaf.code.filter fun c => (imageEngines c.bytes).contains e).length == 1) &&
  dataCodeBytes s.sheaf ≤ storeHalfSize s.sheaf.struct

/-- PORTMAP (0xD0). -/
def portmapOk (b : List Byte) : Bool :=
  let be := leAt b 2 2
  let te := leAt b 4 2
  b.length == 464 && leAt b 0 1 == 1 && leAt b 1 1 == 0 && allZero (sliceAt b 12 4) && be != te && be != 0x88E5 && te != 0x88E5 &&
  bitAt (leAt b 6 1) 0 &&
  (List.range 256).all fun i =>
    let anchor := i % 128 / 4
    leAt b (16 + i) 1 ≤ 3 && (anchor % 2 ^ (i % 4) == 0 || leAt b (16 + i) 1 == 0)

/-- A socket declaration. -/
def socketDeclOk (v : Nat) : Bool :=
  v % 2 ^ 16 == v && bitsOf v 4 3 == 0 && (bitsOf v 0 4 == 0 || (8 ≤ bitsOf v 8 8 && bitsOf v 8 8 ≤ 64))

/-- One COMPL section. -/
def complSecOk (b : List Byte) : Bool :=
  let n := leAt b 28 4
  leAt b 8 1 ≤ 8 && leAt b 9 1 ≤ 1 && allZero (sliceAt b 10 2) && b.length == 32 + ceilDiv n 64 * 64 &&
  allZero (sliceAt b (32 + n) (ceilDiv n 64 * 64 - n)) &&
  (List.range 4).all (fun k => socketDeclOk (leAt b (12 + 4 * k) 4)) &&
  (List.range 64).all fun r => !bitAt (leAt b 0 8) r || r % 2 == leAt b 9 1

/-- COMPL (0xD1): none on a QM-6400-FN, and at most one image for each region. -/
def complOk (s : State) : Bool :=
  (s.variant != 2 || s.sheaf.compl == []) && s.sheaf.compl.all (fun x => complSecOk x.bytes) &&
  (List.range 64).all fun r => (s.sheaf.compl.filter fun x => bitAt (leAt x.bytes 0 8) r).length ≤ 1

/-- EVTMAP (0xD2). -/
def evtmapOk (b : List Byte) : Bool :=
  b.length == 2344 && leAt b 0 1 == 1 && allZero (sliceAt b 1 15) &&
  (List.range 512).all (fun i => let v := leAt b (16 + 4 * i) 4; bitsOf v 3 1 == 0 && bitsOf v 10 6 == 0 && v < 2 ^ 17) &&
  (List.range 64).all (fun g =>
    let v := leAt b (2064 + 4 * g) 4
    1 ≤ bitsOf v 0 9 && bitsOf v 0 9 ≤ 256 && bitsOf v 9 7 == 0 && 1 ≤ bitsOf v 16 16) &&
  (List.range 12).all fun i => leAt b (2320 + 2 * i) 2 < 512

/-- POLICY (0xD3). -/
def policyOk (b : List Byte) : Bool :=
  b.length == 64 && leAt b 0 1 == 1 && 1 ≤ leAt b 1 1 && leAt b 1 1 ≤ 3 && allZero (sliceAt b 2 2) &&
  (List.range 4).all (fun i => [0, 0x31, 0x101, 0x102].contains (leAt b (4 + 2 * i) 2)) &&
  leAt b 12 1 < 16 && leAt b 13 1 < 16 && leAt b 14 1 < 4 && (leAt b 15 1 == 3 || leAt b 15 1 == 4) &&
  1 ≤ leAt b 20 2 && leAt b 20 2 ≤ 1440 && 5 ≤ leAt b 22 2 && leAt b 22 2 ≤ 100 && leAt b 32 1 < 8 &&
  1 ≤ leAt b 33 1 && leAt b 33 1 ≤ 8 && leAt b 34 1 < 4 && allZero (sliceAt b 35 29)

/-- Step 5: the contents of an image, judged as though it were committed. -/
def step5 (s : State) (x : Sheaf) : List Nat :=
  let t := { s with sheaf := x }
  cause (!structOk t) 0xCD ++ cause (!codeOk t) 0xCE ++ cause (!bankcfgOk x.bankcfg) 0xCF ++ cause (!portmapOk x.portmap) 0xD0 ++
  cause (!complOk t) 0xD1 ++ cause (!evtmapOk x.evtmap) 0xD2 ++ cause (!policyOk x.policy) 0xD3

/-- Steps 1 to 5 on a slot: the lowest code of the first step that fails, or 0 and the image (R375, R387). -/
def verifySlot (s : State) (slot : Nat) (fl : FlashRead) : Nat × Sheaf :=
  let h := slotBytes s slot 0 128
  match (step1 s slot h fl).min? with
  | some c => (c, Sheaf.none)
  | none =>
    match (step2 s h).min? with
    | some c => (c, Sheaf.none)
    | none =>
      let es := secTable s slot h
      match (step3 s slot h es).min? with
      | some c => (c, Sheaf.none)
      | none =>
        match (step4 s slot es fl).min? with
        | some c => (c, Sheaf.none)
        | none => let x := sheafOf s slot h es; ((step5 s x).min?.getD 0, x)

/-! ### The recovery image (R374, R569) -/

/-- EVTMAP of R569: every source to the host on vector 0, every group at once, and lines 4–7 of no source. -/
def recoveryEvtmap : List Byte :=
  [1] ++ zeros 15 ++ (List.replicate 512 (leBytes 4 4)).flatten ++ (List.replicate 64 (leBytes 4 0x00010001)).flatten ++
  List.replicate 24 0xFF

/-- The recovery image: management units and code, an empty PORTMAP with the defaults of R371, a POLICY without suites. -/
def recoverySheaf : Sheaf :=
  let cls := fun (c w : Nat) => [BitVec.ofNat 8 c, 0, BitVec.ofNat 8 w] ++ zeros 197
  { header := zeros 128
    struct := [1] ++ zeros 15 ++ cls 0 16 ++ cls 1 8 ++ Config.recoveryUnits
    code := [⟨false, zeros 48, [2, 0, 0, 0] ++ leBytes 8 3 ++ Config.recoveryCode⟩]
    bankcfg := Config.recoveryBankcfg
    portmap := [1, 0, 0xB5, 0x88, 0xB6, 0x88, 0x0F, 0x51, 0x56, 0, 0, 0] ++ zeros 452
    compl := []
    evtmap := recoveryEvtmap
    policy := sliceAt Config.recoveryPolicy 0 4 ++ zeros 8 ++ sliceAt Config.recoveryPolicy 12 52
    digests := List.replicate 5 (zeros 48)
    digest := sliceAt Config.recoveryDigest 0 48 }

end Sys2Proof.Machine
end

