-- ==== Sys2Proof/Machine/ShfRows.lean ====
section
/-! DEFINITION. The SHF commands, the flash, the load and what completes them (R372–R387). -/

namespace Sys2Proof.Machine

/-! ### Registers of the block -/

/-- A command runs for a master: its check register shows BUSY. -/
def shfBusy (s : State) (m : Master) : Bool := s.fb SHF_CHECK.BUSY (masterIdx m)

/-- An accepted command that ends later. -/
def shfBegin (s : State) (m : Master) : State := s.setReg .SHF_CHECK (masterIdx m) 0x80000000

/-- Twelve words of a digest register, byte 0 at the lowest address (R365). -/
def setDigest (s : State) (r : Reg) (d : List Byte) : State :=
  (List.range 12).foldl (fun s i => s.setReg r i (BitVec.ofNat 32 (leAt d (4 * i) 4))) s

/-- `SHF_STATUS.MIXED` follows the code selectors. -/
def setSelectors (s : State) (v : Nat) : State :=
  (s.setReg .SHF_SLICE_CODE 0 (BitVec.ofNat 32 v)).setB SHF_STATUS.MIXED 0 (v != 0)

def sliceBit (s : State) (sl : Nat) : Bool := bitAt (s.reg .SHF_SLICE_CODE 0).toNat sl

/-- `v` with bit `i` set to `b`. -/
def withBit (v i : Nat) (b : Bool) : Nat := putBits v i 1 (b2n b)

def slicePresent (s : State) (sl : Nat) : Bool := sl < 32 && !(s.isHA && sl ≥ 16)

/-! ### The code store (R373) -/

/-- Data-engine images of a sheaf placed in table order from an offset of shared SRAM: the bytes of their segments. -/
def placeImages (s : State) (x : Sheaf) (at_ : Nat) : State :=
  ((dataImages x).foldl (fun (p : Nat × State) c =>
    let b := c.bytes.drop (32 + 8 * leAt c.bytes 28 2)
    (p.1 + b.length, (memWrite p.2 sramCtl p.1 (b.map some) 0x53).2)) (at_, s)).2

/-- Start of the half that holds the committed images, or of the other. -/
def halfAt (s : State) (staged : Bool) : Nat := codeStoreAt s + (if s.codeHigh != staged then (sramSize - codeStoreAt s) / 2 else 0)

/-! ### Authorisation (R378, R499) -/

/-- POLICY ROLES requires an officer authorisation for a command. -/
def needsAuth (s : State) (cmd : Nat) : Bool :=
  (cmd == 2 && !polHostActivate s) || ((cmd == 3 || cmd == 8) && !polHostStage s)

/-- An unexpired authorisation that a master holds names a command and a slot. -/
def authNames (s : State) (m : Master) (cmd slot : Nat) : Bool :=
  s.silo.auths.any fun a => a.master == m && a.cmd == cmd && a.slot == slot && s.rtc.toNat < a.expiry.toNat

/-- The authorisation that a master holds of a command for an image. -/
def authFor (s : State) (m : Master) (cmd slot : Nat) (digest : List Byte) : Option Auth :=
  s.silo.auths.find? fun a => a.master == m && a.cmd == cmd && a.slot == slot && a.digest == digest && s.rtc.toNat < a.expiry.toNat

/-- An authorisation is used. -/
def useAuth (s : State) (m : Master) (cmd slot : Nat) (digest : List Byte) : State :=
  match authFor s m cmd slot digest with
  | some a => { s with silo := { s.silo with auths := s.silo.auths.erase a } }
  | none => s

/-! ### Slots (R372) -/

/-- The staged image's slot. -/
def stagedSlot (s : State) : Option Nat := if s.staged.isSome then some (s.f SHF_STATUS.STAGED_SLOT 0) else none

/-- A slot is locked against erase and program. -/
def slotLocked (s : State) (slot : Nat) : Bool :=
  s.f SHF_STATUS.SOURCE 0 == slot || s.shf.pref == slot || stagedSlot s == some slot ||
    (match s.shf.op with | some o => o.slot == slot | none => false)

/-- The held staged image is discarded. -/
def dropStaged (s : State) : State :=
  setDigest (({ s with staged := none }.setF SHF_STATUS.STAGED 0 0).setF SHF_STATUS.STAGED_SLOT 0 0) .SHF_STAGED_DIGEST (zeros 48)

/-! ### Causes of R387 found when a command is written -/

def shfMode (s : State) (cmd : Nat) : Bool :=
  if cmd ≤ 2 then [modeStandby, modeOperational, modeShadow, modeMaintenance, modeDrain].contains s.mode
  else if cmd = 4 ∨ cmd = 5 then [modeOperational, modeMaintenance, modeShadow].contains s.mode
  else s.mode == modeMaintenance || s.mode == modeShadow

/-- Another master's VERIFY, ACTIVATE, STAGE or flash command runs. -/
def shfRunning (s : State) : Bool := s.shf.op.isSome || s.shf.fl.isSome

def opCauses (s : State) (m : Master) (cmd slot : Nat) : List Nat :=
  cause (shfRunning s) 0xC1 ++ cause (!shfMode s cmd) 0xC2 ++
  cause (cmd == 3 && s.staged.isSome && s.reg .SHF_SLICE_CODE 0 != 0) 0xD9 ++
  cause (needsAuth s cmd && !authNames s m cmd slot) 0xDB

def sliceCauses (s : State) (cmd sl : Nat) : List Nat :=
  cause (!shfMode s cmd || !slicePresent s sl) 0xC2 ++
  (if cmd = 6 ∨ cmd = 7 then
    cause (sliceProvisioned s sl && !sliceDrained s sl) 0xD8 ++ cause (cmd == 6 && s.staged.isNone) 0xD9
   else [])

/-- Every present slice selects the staged code. -/
def allStaged (s : State) : Bool := (List.range 32).all fun sl => !slicePresent s sl || sliceBit s sl

def promoteCauses (s : State) (m : Master) : List Nat :=
  let slot := s.f SHF_STATUS.STAGED_SLOT 0
  cause (!shfMode s 8) 0xC2 ++ cause (s.staged.isNone || !allStaged s) 0xD9 ++
  cause (needsAuth s 8 && !(authNames s m 8 slot &&
    (match s.staged with | some x => (authFor s m 8 slot x.digest).isSome | none => false))) 0xDB

def abandonCauses (s : State) : List Nat :=
  cause (!shfMode s 9) 0xC2 ++ cause (s.staged.isNone || s.reg .SHF_SLICE_CODE 0 != 0) 0xD9

/-! ### Effects -/

/-- VERIFY, ACTIVATE or STAGE starts; STAGE first discards the image held (R379). -/
def opBegin (s : State) (m : Master) (cmd slot : Nat) : State :=
  let s := if cmd = 3 then dropStaged s else s
  let need := needsAuth s cmd
  ((shfBegin s m).setF SHF_STATUS.OP_BUSY 0 1) |> fun s => { s with shf := { s.shf with op := some ⟨m, cmd, slot, need⟩ } }

/-- DRAIN: the sequencer assigns no more units; a slice without port is drained at once (R377). -/
def drainSlice (s : State) (sl : Nat) : State :=
  if sliceProvisioned s sl then (if sliceDrained s sl then s else s.setSlice sl { s.slice sl with draining := true })
  else (s.setReg .SHF_DRAINED 0 (BitVec.ofNat 32 (withBit (s.reg .SHF_DRAINED 0).toNat sl true))).raise SHF_EVT.DRAINED 0

def undrainSlice (s : State) (sl : Nat) : State :=
  let s := s.setSlice sl { s.slice sl with draining := false }
  s.setReg .SHF_DRAINED 0 (BitVec.ofNat 32 (withBit (s.reg .SHF_DRAINED 0).toNat sl false))

/-- UPDATE or REVERT of a slice: its selector, and the reload of its engines where it is provisioned (R380). -/
def selectCode (s : State) (sl : Nat) (staged : Bool) : State :=
  let s := setSelectors s (withBit (s.reg .SHF_SLICE_CODE 0).toNat sl staged)
  if sliceProvisioned s sl then
    let s := resetEngine (resetEngine s (2 * sl)) (2 * sl + 1)
    { s with shf := { s.shf with updating := sl :: s.shf.updating.erase sl } }
  else s.raise SHF_EVT.UPDATE_DONE 0

/-- `FUSE_LOW` at a commit, whatever its source: 16 or fewer floor rows remain (R369). -/
def fuseLow (s : State) : State := if 256 - s.shf.rows ≤ 16 then s.raise SHF_EVT.FUSE_LOW 0 else s

/-- The staged image becomes the committed sheaf (R381). -/
def promote (s : State) (m : Master) : State :=
  match s.staged with
  | none => s
  | some x =>
    let slot := s.f SHF_STATUS.STAGED_SLOT 0
    let s := if needsAuth s 8 then useAuth s m 8 slot x.digest else s
    let s := setSelectors (dropStaged { s with sheaf := x, codeHigh := !s.codeHigh }) 0
    let s := setDigest (s.setReg .SHF_SVN 0 (BitVec.ofNat 32 (hdrSvn x.header))) .SHF_DIGEST x.digest
    let s := fuseLow { s with shf := { s.shf with pref := slot } }
    ((s.setF SHF_BOOT.PREF 0 slot).setF SHF_STATUS.SOURCE 0 slot).raise SHF_EVT.PROMOTED 0

/-- A write of `SHF_CTL` (R376). -/
def shfCtl (s : State) (m : Master) (v : Nat) : State :=
  let cmd := bitsOf v 28 4
  let slot := bitsOf v 8 1
  let sl := bitsOf v 0 5
  if shfBusy s m then s
  else
    match cmd with
    | 1 | 2 | 3 =>
      match (opCauses s m cmd slot).min? with
      | some c => refuseCheck s .SHF_CHECK m 0 c
      | none => opBegin s m cmd slot
    | 4 => checked s .SHF_CHECK m 0 (sliceCauses s 4 sl) fun s => drainSlice s sl
    | 5 => checked s .SHF_CHECK m 0 (sliceCauses s 5 sl) fun s => undrainSlice s sl
    | 6 => checked s .SHF_CHECK m 0 (sliceCauses s 6 sl) fun s => selectCode s sl true
    | 7 => checked s .SHF_CHECK m 0 (sliceCauses s 7 sl) fun s => selectCode s sl false
    | 8 => checked s .SHF_CHECK m 0 (promoteCauses s m) fun s => promote s m
    | 9 => checked s .SHF_CHECK m 0 (abandonCauses s) dropStaged
    | _ => checked s .SHF_CHECK m 0 [0xC2] id

/-! ### The end of VERIFY, ACTIVATE and STAGE -/

/-- Digests of the sections that a staged image may not change (R379). -/
def fixedDigests (x : Sheaf) : List (List Byte) :=
  x.digests ++ (x.code.filter fun c => leAt c.bytes 0 1 != 0).map (·.digest) ++ x.compl.map (·.digest)

/-- Further conditions of STAGE. -/
def stageCauses (s : State) (x : Sheaf) : List Nat :=
  cause (fixedDigests x != fixedDigests s.sheaf) 0xD5 ++
  cause (hdrSvn x.header < hdrSvn s.sheaf.header || hdrFloorReq x.header > s.shf.floor) 0xD6 ++
  cause (dataCodeBytes x > storeHalfSize s.sheaf.struct) 0xD7

/-- What a verified operation does. -/
def opEffect (s : State) (o : ShfOp) (x : Sheaf) : State :=
  let s := if o.auth then useAuth s o.master o.cmd o.slot x.digest else s
  match o.cmd with
  | 2 => { s with shf := { s.shf with pref := o.slot } }.setF SHF_BOOT.PREF 0 o.slot
  | 3 =>
    let s := { placeImages s x (halfAt s true) with staged := some x }
    setDigest ((s.setF SHF_STATUS.STAGED 0 1).setF SHF_STATUS.STAGED_SLOT 0 o.slot) .SHF_STAGED_DIGEST x.digest
  | _ => s

/-- The result of an operation whose BUSY its master no longer shows is not reported there: a PCIe reset has cleared it
(R537). -/
def keepQuiet (was s : State) (m : Master) : State :=
  if shfBusy was m then s else s.setReg .SHF_CHECK (masterIdx m) (was.reg .SHF_CHECK (masterIdx m))

/-- A running VERIFY, ACTIVATE or STAGE ends with its result. -/
def opDone (s : State) (fl : FlashRead) : State :=
  match s.shf.op with
  | none => s
  | some o =>
    let r := verifySlot s o.slot fl
    let more := if r.1 = 0 ∧ o.cmd = 3 then stageCauses s r.2 else []
    let codes := cause (r.1 != 0) r.1 ++ more ++ cause (r.1 == 0 && o.auth && (authFor s o.master o.cmd o.slot r.2.digest).isNone) 0xDB
    let t := { s with shf := { s.shf with op := none }, freeCtr := s.freeCtr + 1 }.setF SHF_STATUS.OP_BUSY 0 0
    keepQuiet s ((checked t .SHF_CHECK o.master 0 codes fun s => opEffect s o r.2).raise SHF_EVT.OP_DONE 0) o.master

/-! ### Flash commands (R385, R386) -/

/-- Causes against a flash command. An offset or a length that R385 does not allow is out of bounds. -/
def flashCauses (s : State) (cmd slot : Nat) : List Nat :=
  let src := s.f SHF_FL_SRC.OFF 0
  let dst := s.f SHF_FL_DST.OFF 0
  let len := s.f SHF_FL_LEN.BYTES 0
  cause (shfRunning s) 0xC1 ++ cause (cmd < 1 || cmd > 3) 0xC2 ++
  cause ((cmd == 1 || cmd == 2) && slotLocked s slot) 0xDA ++
  cause ((cmd == 2 || cmd == 3) && (src % 4096 != 0 || dst % 4096 != 0 || len % 4096 != 0 || len == 0 || len > 0x400000 ||
    dst + len > slotSize || src + len > codeStoreAt s)) 0xDA

/-- One erase cycle of every block of a slot, counted as its ERASE begins (R386, R515; log 101). -/
def countErase (s : State) (slot : Nat) : State :=
  hlthEval { s with shf := { s.shf with erases := setAt s.shf.erases slot (s.shf.erases.getD slot 0 + 1) } }

/-- A write of `SHF_FL_CMD`. -/
def flashCmd (s : State) (m : Master) (v : Nat) : State :=
  let cmd := bitsOf v 28 4
  let slot := bitsOf v 8 1
  if shfBusy s m then s
  else
    match (flashCauses s cmd slot).min? with
    | some c => refuseCheck s .SHF_CHECK m 0 c
    | none =>
      let o : FlOp := ⟨m, cmd, slot, s.f SHF_FL_SRC.OFF 0, s.f SHF_FL_DST.OFF 0, s.f SHF_FL_LEN.BYTES 0⟩
      let s := (shfBegin s m).setF SHF_STATUS.FL_BUSY 0 1
      let s := (s.setF SHF_FL_STATUS.BUSY 0 1).setF SHF_FL_STATUS.ERR 0 0
      let s := { s with shf := { s.shf with fl := some o } }
      if cmd = 1 then countErase s slot else s

def flashPut (s : State) (a : Nat) (bs : List Byte) : State :=
  s.setRam flashRegion (Mem.put erasedByte (s.ram flashRegion) a (bs.map some))

/-- A slot reads as erased. -/
def eraseSlot (s : State) (slot : Nat) : State :=
  let s := s.setRam flashRegion ((s.ram flashRegion).filter fun c => c.1 < slotBase slot || slotBase (slot + 1) ≤ c.1)
  { s with shf := { s.shf with incomplete := s.shf.incomplete.filter (· != slot) } }

/-- A page of a range is not erased. -/
def unerased (s : State) (o : FlOp) : Bool := (slotBytes s o.slot o.dst o.len).any (· != 0xFF)

/-- A PROGRAM that fails leaves its range in no stated condition: its bytes are free. -/
def spoil (s : State) (o : FlOp) : State :=
  let r := s.free o.len
  flashPut r.2 (slotBase o.slot + o.dst) r.1

/-- Result of the running flash command: failed, and the state. `ok` says that the flash works. -/
def flashRun (s : State) (o : FlOp) (ok : Bool) : Bool × State :=
  match o.cmd with
  | 1 =>
    if ok then (false, eraseSlot s o.slot)
    else (true, { s with shf := { s.shf with incomplete := o.slot :: s.shf.incomplete.filter (· != o.slot) } })
  | 2 =>
    let r := memRead s sramCtl o.src o.len 0 0x53
    if !ok || unerased s o || r.2.1 then (true, spoil r.2.2 o)
    else (false, flashPut r.2.2 (slotBase o.slot + o.dst) r.1)
  | _ =>
    if !ok then (true, s)
    else
      let d := if s.shf.incomplete.contains o.slot then s.free o.len else (slotBytes s o.slot o.dst o.len, s)
      (false, (sramWrite d.2 o.src (d.1.map some) 0x53).2)

/-- A flash command ends. R387 gives no code for one that was accepted and fails: `SHF_CHECK` then shows OK 0 with REASON 0x00
(DESIGN CHOICE, log 101). -/
def flashDone (s : State) (ok : Bool) : State :=
  match s.shf.fl with
  | none => s
  | some o =>
    let r := flashRun s o ok
    let s := { r.2 with shf := { r.2.shf with fl := none } }
    let s := (s.setF SHF_STATUS.FL_BUSY 0 0).setF SHF_FL_STATUS.BUSY 0 0
    if r.1 then ((s.setF SHF_FL_STATUS.ERR 0 1).setReg .SHF_CHECK (masterIdx o.master) 0).raise SHF_EVT.FLASH_ERR 0
    else (keepQuiet s (acceptCheck s .SHF_CHECK o.master) o.master).raise SHF_EVT.FLASH_DONE 0

/-! ### Slices under DRAIN and UPDATE -/

/-- The last unit assigned to a draining slice has completed: none of its engines has a unit in a slot (R377). -/
def sliceDrainedNow (s : State) (sl : Nat) : State :=
  if !(s.slice sl).draining || s.ports.any (fun p => p.2.slots.any fun u => u.eng / 2 == sl) then s
  else
    let s := s.setSlice sl { s.slice sl with draining := false }
    (s.setReg .SHF_DRAINED 0 (BitVec.ofNat 32 (withBit (s.reg .SHF_DRAINED 0).toNat sl true))).raise SHF_EVT.DRAINED 0

/-- Both engines of an updated slice run the selected code; RESET_DONE is raised as R287 states. -/
def updateDone (s : State) (sl : Nat) : State :=
  if !s.shf.updating.contains sl then s
  else
    let s := { s with shf := { s.shf with updating := s.shf.updating.erase sl } }
    (resetDone (resetDone s (2 * sl)) (2 * sl + 1)).raise SHF_EVT.UPDATE_DONE 0

/-- A complication region has loaded (R373): its slice has power and an image names it. -/
def regionLoaded (s : State) (r : Nat) : State :=
  if (s.slice (r / 2)).powered && s.variant != 2 && s.sheaf.compl.any (fun x => bitAt (leAt x.bytes 0 8) r) &&
      !s.loaded.contains r then
    ({ s with loaded := s.loaded ++ [r] }).updEng r fun x => { x with cfault := x.cfault &&& 0xAA }
  else s

/-! ### The load (R375) -/

/-- EVC registers take EVTMAP's values (R371), and sources that are pending follow their MASK (R451). -/
def applyEvtmap (s : State) (b : List Byte) : State :=
  let was := (liveSrcs s).map fun n => (n, srcMasked s n)
  let s := (List.range 512).foldl (fun s i => s.setReg .EVC_SRC_CFG i (BitVec.ofNat 32 (leAt b (16 + 4 * i) 4))) s
  let s := (List.range 64).foldl (fun s g => s.setReg .EVC_GRP g (BitVec.ofNat 32 (leAt b (2064 + 4 * g) 4))) s
  let s := was.foldl (fun s x => maskTaken s x.1 x.2) s
  (List.range 64).foldl countTaken s

/-- `MEM_CFG` of every controller takes BANKCFG's values; 0 selects 24 hours (R371, R411). -/
def applyBankcfg (s : State) (b : List Byte) : State :=
  let h := fun (n : Nat) => if n = 0 then 24 else n
  let v := leAt b 5 1 % 2 * 2 ^ 24 + h (leAt b 6 2) % 256 * 256 + h (leAt b 4 1)
  (List.range 75).foldl (fun s k => s.setReg .MEM_CFG k (BitVec.ofNat 32 v)) s

/-- A raise of the floor takes the next row (R368, R369). -/
def raiseFloor (s : State) (req : Nat) : State :=
  hlthEval (if req > s.shf.floor then { s with shf := { s.shf with otp := s.shf.otp ++ [some (BitVec.ofNat 32 req)] } } else s)

/-- Programming of the floor row that a commit needs fails: power was lost meanwhile, at a free instant (R370; log 35). -/
def rowFails (s : State) (x : Sheaf) : Bool := decide (hdrFloorReq x.header > s.shf.floor) && Config.freeBool (s.freeCtr + 1)

/-- A source as far as the raise of the floor: 0 or the code that stops it, and the image. A row whose programming failed reads
as invalid and is skipped, with the floor unchanged (R370). -/
def trySlot (s : State) (slot : Nat) (fl : FlashRead) : Nat × Sheaf × State :=
  let r := verifySlot s slot fl
  let t := { s with freeCtr := s.freeCtr + 2 }
  if r.1 = 0 && rowFails s r.2 then (0xDC, r.2, hlthEval { t with shf := { t.shf with otp := t.shf.otp ++ [none] } }) else (r.1, r.2, t)

/-- Steps 6 to 8: the image is committed, key and management engines start, and the mode follows the enrolment. -/
def commitSheaf (s : State) (x : Sheaf) (source : Nat) : State :=
  let s := { s with sheaf := x, codeHigh := false, loaded := [] }
  let s := placeImages s x (codeStoreAt s)
  let s := applyBankcfg (applyEvtmap s x.evtmap) x.bankcfg
  let s := fuseLow (if source = 2 then s else raiseFloor s (hdrFloorReq x.header))
  let s := if source = 2 then s else { s with shf := { s.shf with pref := source } }
  let s := s.setF SHF_STATUS.SOURCE 0 source
  let s := (s.setReg .SHF_SVN 0 (BitVec.ofNat 32 (if source = 2 then 0 else hdrSvn x.header))).setF SHF_BOOT.PREF 0 s.shf.pref
  let s := setDigest s .SHF_DIGEST x.digest
  let start := fun (s : State) (i : Nat) =>
    let s := startEngine s (64 + i)
    if engState s (64 + i) = engLoading then s.setF ENG_STATUS.STATE (64 + i) engOff else s
  let s := targetsChanged ((List.range 6).foldl start s)
  setMode s (if s.silo.domain.isSome then modeStandby else modeUnsealed)

/-- A slot is refused: recorded with the Silo as master (R542). -/
def refuseSlot (s : State) (slot code : Nat) : State :=
  let s := if slot = 0 then s.setF SHF_BOOT.REASON_A 0 code else s.setF SHF_BOOT.REASON_B 0 code
  recordRefusal s 0x50 0x53 slot code

/-- A slot is verified. -/
def acceptSlot (s : State) (slot : Nat) : State :=
  if slot = 0 then s.setF SHF_BOOT.REASON_A 0 0 else s.setF SHF_BOOT.REASON_B 0 0

/-- The load tries the preferred slot, the other slot and the recovery image; `SHF_STATUS` tells of this load alone (R385). -/
def load (s : State) (fl : Nat → FlashRead) : State :=
  if s.mode ≠ modeLoading then s
  else
    let s := (s.setF SHF_STATUS.FALLBACK 0 0).setF SHF_STATUS.FB_REASON 0 0
    let p := s.shf.pref
    let r := trySlot s p (fl p)
    if r.1 = 0 then commitSheaf (acceptSlot r.2.2 p) r.2.1 p
    else
      let s := ((refuseSlot r.2.2 p r.1).setF SHF_STATUS.FALLBACK 0 1).setF SHF_STATUS.FB_REASON 0 r.1
      let q := trySlot s (1 - p) (fl (1 - p))
      if q.1 = 0 then commitSheaf (acceptSlot q.2.2 (1 - p)) q.2.1 (1 - p)
      else commitSheaf (refuseSlot q.2.2 (1 - p) q.1) recoverySheaf 2

/-! ### Commands -/

def onShf (s : State) (effect : State → State) : State := whenUp s .SHF effect

def execVerify (m : Master) (v : Word) (s : State) : Host.Outcome State Fault Refusal := .next (onShf s fun s => shfCtl s m v.toNat)
def execActivate (m : Master) (v : Word) (s : State) : Host.Outcome State Fault Refusal := .next (onShf s fun s => shfCtl s m v.toNat)
def execStage (m : Master) (v : Word) (s : State) : Host.Outcome State Fault Refusal := .next (onShf s fun s => shfCtl s m v.toNat)
def execDrain (m : Master) (v : Word) (s : State) : Host.Outcome State Fault Refusal := .next (onShf s fun s => shfCtl s m v.toNat)
def execUndrain (m : Master) (v : Word) (s : State) : Host.Outcome State Fault Refusal := .next (onShf s fun s => shfCtl s m v.toNat)
def execUpdate (m : Master) (v : Word) (s : State) : Host.Outcome State Fault Refusal := .next (onShf s fun s => shfCtl s m v.toNat)
def execRevert (m : Master) (v : Word) (s : State) : Host.Outcome State Fault Refusal := .next (onShf s fun s => shfCtl s m v.toNat)
def execPromote (m : Master) (v : Word) (s : State) : Host.Outcome State Fault Refusal := .next (onShf s fun s => shfCtl s m v.toNat)
def execAbandon (m : Master) (v : Word) (s : State) : Host.Outcome State Fault Refusal := .next (onShf s fun s => shfCtl s m v.toNat)
def execErase (m : Master) (v : Word) (s : State) : Host.Outcome State Fault Refusal := .next (onShf s fun s => flashCmd s m v.toNat)
def execProgram (m : Master) (v : Word) (s : State) : Host.Outcome State Fault Refusal := .next (onShf s fun s => flashCmd s m v.toNat)
def execRead (m : Master) (v : Word) (s : State) : Host.Outcome State Fault Refusal := .next (onShf s fun s => flashCmd s m v.toNat)

def execShfOpDone (fl : FlashRead) (s : State) : Host.Outcome State Fault Refusal := .next (opDone s fl)
def execFlashDone (ok : Bool) (s : State) : Host.Outcome State Fault Refusal := .next (flashDone s ok)
def execSliceDrained (sl : Fin 32) (s : State) : Host.Outcome State Fault Refusal := .next (sliceDrainedNow s sl)
def execUpdateDone (sl : Fin 32) (s : State) : Host.Outcome State Fault Refusal := .next (updateDone s sl)
def execComplicationRegionLoaded (r : Fin 64) (s : State) : Host.Outcome State Fault Refusal := .next (regionLoaded s r)
def execLoad (a b : FlashRead) (s : State) : Host.Outcome State Fault Refusal :=
  .next (load s fun slot => if slot = 0 then a else b)

end Sys2Proof.Machine
end

