-- ==== Sys2Proof/Machine/Silo.lean ====
section
/-! DEFINITION. The Silo: mailbox, officer records, import keys, quotes, tamper and entropy (R203–R217, R494–R514). -/

namespace Sys2Proof.Machine

/-! ### Mailboxes (R510) -/

/-- Masters that have a mailbox. -/
def hasMailbox (m : Master) : Bool := m == .host || m == .me0 || m == .me1

/-- Regions of the request and response buffers of a mailbox. -/
def reqRegion (m : Master) : Nat := 81 + masterIdx m
def respRegion (m : Master) : Nat := 84 + masterIdx m

def reqSize : Nat := 131072
def respSize : Nat := 65536

/-- Store bytes in a mailbox buffer. -/
def bufPut (s : State) (k a : Nat) (bs : List (Option Byte)) : State := s.setRam k (Mem.put zeroByte (s.ram k) a bs)

/-- Bytes of a master's request. -/
def reqBytes (s : State) (m : Master) (n : Nat) : List Byte := ramBytes s (reqRegion m) 0 n

/-- A command completes: response, `SILO_CHECK` and DONE. -/
def mailDone (s : State) (m : Master) (resp : List Byte) : State :=
  let s := bufPut s (respRegion m) 0 (resp.map some)
  let s := s.setReg .SILO_RESP_LEN (masterIdx m) (BitVec.ofNat 32 (resp.length % 2 ^ 16))
  (acceptCheck s .SILO_CHECK m).raise SILO_EVT.DONE 0

/-- A command is refused; a refused record raises its event. -/
def mailRefused (s : State) (m : Master) (record : Bool) (code : Nat) : State :=
  let s := (s.setReg .SILO_RESP_LEN (masterIdx m) 0)
  let s := (refuseCheck s .SILO_CHECK m 0 code).raise SILO_EVT.DONE 0
  if record then s.raise SILO_EVT.RECORD_REJECTED 0 else s

/-- A command with the causes that apply and its effect; the lowest cause is reported (R514). -/
def mailRun (s : State) (m : Master) (record : Bool) (codes : List Nat) (effect : State → List Byte × State) : State :=
  match codes.min? with
  | some c => mailRefused s m record c
  | none => let r := effect s; mailDone r.2 m r.1

/-! ### Identity signatures (R500, R509) -/

/-- Random numbers that both signatures take, and those of a new import key with its signatures. -/
def signDraws : Nat := 2
def importDraws : Nat := 5

/-- Both signatures of the identity keys: ML-DSA-87 with the context, ECDSA over context ‖ message. -/
def signBoth (s : State) (context msg : List Byte) : List Byte × State :=
  let (r1, s) := siloRandom s 32
  let (r2, s) := siloRandom s 48
  (sliceAt (Crypto.mldsaSign context msg r1) 0 4627 ++ sliceAt (Crypto.ecdsaSign (context ++ msg) r2) 0 96, s)

/-- The quote of R509. -/
def quote (s : State) (mode : Nat) (nonce : List Byte) : List Byte × State :=
  let flags := s.f SHF_STATUS.STAGED 0 + 2 * s.f SHF_STATUS.MIXED 0 + 4 * s.f SHF_STATUS.FALLBACK 0
  let b := ascii "QQTE" ++ [1, BitVec.ofNat 8 mode, BitVec.ofNat 8 partLow, BitVec.ofNat 8 s.variant] ++
    nodeBytes s.silo.node ++ sliceAt nonce 0 32 ++ sliceAt s.sheaf.digest 0 48 ++ leBytes 4 (s.reg .SHF_SVN 0).toNat ++
    leBytes 4 s.shf.floor ++ leBytes 8 s.rtc.toNat ++ leBytes 4 (s.f SILO_ZCOUNT.COUNT 0) ++ leBytes 4 flags ++ zeros 8
  let r := signBoth s (ascii "QVR-QUOTE") b
  (b ++ r.1, r.2)

/-! ### Envelopes (R497, R498) -/

def sigLen : Nat := 4727

/-- Type, target, domain, sequence and body of a record. -/
def recType (e : List Byte) : Nat := leAt e 4 2
def recTarget (e : List Byte) : W64 := nodeOf (sliceAt e 8 8)
def recDomain (e : List Byte) : List Byte := sliceAt e 16 16
def recSeq (e : List Byte) : Nat := leAt e 32 8
def recBodyLen (e : List Byte) : Nat := leAt e 40 4
def recNsig (e : List Byte) : Nat := leAt e 44 4
def recBody (e : List Byte) : List Byte := sliceAt e 48 (recBodyLen e)

/-- Digest that the officers sign. -/
def recDigest (e : List Byte) : List Byte := Crypto.sha384 (e.take (48 + recBodyLen e))

/-- Signature block of a record. -/
def sigBlock (e : List Byte) (i : Nat) : List Byte := sliceAt e (48 + recBodyLen e + sigLen * i) sigLen

def sigOfficer (b : List Byte) : Nat := (byteAt b 0).toNat

/-- A block verifies under both algorithms by an officer of a set. -/
def blockOk (os : List Officer) (d b : List Byte) : Bool :=
  match os.find? fun o => o.num == sigOfficer b with
  | some o =>
    Crypto.mldsaVerify o.mlPub (ascii "QVR-OFFICER") d (sliceAt b 4 4627) &&
    Crypto.ecdsaVerify (o.ecPub.drop 1) (ascii "QVR-OFFICER" ++ d) (sliceAt b 4631 96)
  | none => false

def sigBlocks (e : List Byte) : List (List Byte) := (List.range (recNsig e)).map (sigBlock e)

/-- Distinct officers of a set whose blocks verify. -/
def goodOfficers (os : List Officer) (e : List Byte) : Nat :=
  (((sigBlocks e).filter (blockOk os (recDigest e))).map sigOfficer).eraseDups.length

/-- An officer number stands twice, or names no officer. -/
def badOfficers (os : List Officer) (e : List Byte) : Bool :=
  let ns := (sigBlocks e).map sigOfficer
  ns.eraseDups.length != ns.length || ns.any fun n => !os.any fun o => o.num == n

/-! ### Bodies -/

/-- An officer entry: number, ML-DSA-87 public key, ECDSA public key (log 50). -/
def officerLen : Nat := 2690

def officerAt (b : List Byte) (i : Nat) : Officer :=
  let e := sliceAt b (officerLen * i) officerLen
  ⟨(byteAt e 0).toNat, sliceAt e 1 2592, sliceAt e 2593 97⟩

/-- A carried officer set. -/
def officerSet (b : List Byte) : List Officer := (List.range (b.length / officerLen)).map (officerAt b)

/-- An enrolment or domain update: *n*, *k*, two zero bytes, the officer entries, the customer keys (log 50). -/
def setOfficers (b : List Byte) : List Officer := officerSet (sliceAt b 4 (officerLen * (byteAt b 0).toNat))
def setK (b : List Byte) : Nat := (byteAt b 1).toNat
def setCust (b : List Byte) : List Byte := b.drop (4 + officerLen * (byteAt b 0).toNat)

/-- Length of a wrapped secret of `n` bytes (R500). -/
def wrapLen (n : Nat) : Nat := 1688 + n

/-- The body has the length and the zero bytes that its record type requires. -/
def bodyFormed (s : State) (t : Nat) (b : List Byte) : Bool :=
  match t with
  | 1 | 2 =>
    let n := (byteAt b 0).toNat
    b.length ≥ 4 + officerLen * n && (b.length - 4 - officerLen * n) % custKeyLen == 0 &&
      b.length ≤ 4 + officerLen * n + 4 * custKeyLen && sliceAt b 2 2 == zeros 2
  | 3 => b.length == 7480 && sliceAt b 7461 3 == zeros 3
  | 4 | 5 => b.length == 8
  | 6 => b.length == 4 + wrapLen 32 && sliceAt b 1 3 == zeros 3
  | 7 => b.length == 16 + wrapLen 44
  | 8 => b.length == 60 && sliceAt b 2 2 == zeros 2
  | 9 => b.length == 4 && sliceAt b 1 3 == zeros 3
  | 10 => b.length % officerLen == 0
  | _ => if s.mode = modeAlarm then b.length % officerLen == 0 else b.length == 0

/-- Modes in which a record type is allowed (R499). -/
def recMode (s : State) (t : Nat) : Bool :=
  match t with
  | 1 => s.mode == modeUnsealed
  | 10 => s.mode == modeAlarm
  | 11 => s.mode != modeRetired && s.mode > modeEscapement
  | _ => 2 ≤ t && t ≤ 9 && modeStandby ≤ s.mode && s.mode ≤ modeMaintenance

/-- RETIRE in ALARM-HOLD on a module that was never enrolled needs no signature (R508). -/
def unsigned (s : State) (t : Nat) : Bool := t == 11 && s.mode == modeAlarm && !s.silo.kept.enrolled

/-- The envelope is well-formed (0xF3). -/
def recFormed (s : State) (e : List Byte) : Bool :=
  e.take 4 == ascii "QOFR" && sliceAt e 6 2 == zeros 2 && recNsig e ≤ 8 && (recNsig e ≥ 1 || unsigned s (recType e)) &&
    e.length == 48 + recBodyLen e + sigLen * recNsig e && ((sigBlocks e).all fun b => sliceAt b 1 3 == zeros 3) &&
    bodyFormed s (recType e) (recBody e)

/-- Officers that must sign, and how many of them. -/
def recOfficers (s : State) (e : List Byte) : List Officer × Nat :=
  let t := recType e
  if t = 1 then (setOfficers (recBody e), setK (recBody e))
  else if s.mode = modeAlarm then (officerSet (recBody e), max s.silo.kept.k s.silo.kept.quorumMin)
  else match s.silo.domain with
    | some d => (checkedOfficers d, max d.k (polQuorumMin s))
    | none => ([], max 1 (polQuorumMin s))

/-- Causes 0xF2–0xF7 against a record. -/
def envelopeCauses (s : State) (e : List Byte) : List Nat :=
  let t := recType e
  let formed := recFormed s e
  let os := recOfficers s e
  let free := unsigned s t
  let domain := if s.mode = modeAlarm then s.silo.kept.domain else match s.silo.domain with | some d => d.id | none => zeros 16
  cause (!recMode s t) 0xF2 ++
  cause (!formed) 0xF3 ++
  (if !formed then []
   else
    cause (recTarget e != s.silo.node || (t != 1 && !free && recDomain e != domain)) 0xF4 ++
    cause (recSeq e ≤ s.silo.seq.toNat) 0xF5 ++
    cause (!free && goodOfficers os.1 e < max 1 os.2) 0xF6 ++
    cause (!free && (badOfficers os.1 e ||
      (s.mode == modeAlarm && (osDigest os.1 != s.silo.kept.osd || (os.1.map (·.num)).eraseDups.length != os.1.length)))) 0xF7)

/-! ### Wrapped secrets (R500) -/

def importKeyOf (s : State) (id : List Byte) : Option ImportKey := s.silo.importKeys.find? fun k => k.id == id

/-- Open a wrapped secret of `n` bytes of a record. -/
def unwrap (s : State) (e w : List Byte) (n : Nat) : Option (List Byte) :=
  match importKeyOf s (w.take 8) with
  | none => none
  | some k =>
    let pub := sliceAt w 1576 96
    if !Crypto.p384KeyOk pub then none
    else
      let z := Crypto.p384Shared k.ecPriv pub ++ Crypto.mlkemDecaps k.dk (sliceAt w 8 1568)
      let prk := Crypto.hmac384 (k.id ++ nodeBytes s.silo.node) z
      let okm := kdfCtr prk (ascii "QVR-WRAP") (Crypto.sha384 (e.take 48)) 352
      Crypto.gcmOpen (okm.take 32) (sliceAt okm 32 12) (e.take 48) (sliceAt w 1672 n) (sliceAt w (1672 + n) 16)

/-! ### Certificates (R205) -/

def certLen : Nat := 7460
def certNode (c : List Byte) : W64 := nodeOf (sliceAt c 8 8)
def certMl (c : List Byte) : List Byte := sliceAt c 48 2592
def certEc (c : List Byte) : List Byte := sliceAt c 2640 97

/-- The certificate of this module (R205). -/
def ownCert (s : State) : List Byte :=
  ascii "QIDC" ++ [1, BitVec.ofNat 8 s.variant, BitVec.ofNat 8 partLow, 0] ++ nodeBytes s.silo.node ++
    sliceAt Config.certSerial 0 16 ++ sliceAt Config.certTime 0 8 ++ sliceAt Config.certIssuer 0 8 ++
    Crypto.ownMl ++ Crypto.ownEc ++ sliceAt Config.certSignatures 0 4723

/-- A certificate is valid. -/
def certOk (c : List Byte) : Bool :=
  c.take 4 == ascii "QIDC" && byteAt c 4 == 1 && byteAt c 7 == 0 &&
    (match Config.authority (sliceAt c 40 8) with
      | some (ml, ec) =>
        Crypto.mldsaVerify ml (ascii "QVR-MFG") (c.take 2737) (sliceAt c 2737 4627) &&
        Crypto.ecdsaVerify ec (ascii "QVR-MFG" ++ c.take 2737) (sliceAt c 7364 96)
      | none => false) &&
    certNode c == Crypto.nodeIdOf (certMl c) (certEc c) && !reservedNode (certNode c)

/-! ### Records by type: the cause 0xF8, the later causes, the effect -/

/-- An officer set with its quorum is valid (R206). -/
def setOk (b : List Byte) : Bool :=
  let os := setOfficers b
  1 ≤ os.length && os.length ≤ 8 && 1 ≤ setK b && setK b ≤ os.length && (os.map (·.num)).eraseDups.length == os.length

/-- The stored enrolment that a body gives. -/
def domainOf (id b : List Byte) : Domain := ⟨id, setK b, setOfficers b, setCust b, osDigest (setOfficers b)⟩

def pinPartner (b : List Byte) : W64 := nodeOf (sliceAt b 7464 8)
def pinReplaces (b : List Byte) : W64 := nodeOf (sliceAt b 7472 8)

/-- R208's refusals. The role byte is 0 for PEER and 1 for TWIN: the spec gives the roles no codes, and any other value is refused
(DESIGN CHOICE, log 50). -/
def pinRefused (s : State) (b : List Byte) : Bool :=
  let n := certNode b
  let rep := pinReplaces b
  let role := (byteAt b 7460).toNat
  let left := s.silo.pins.filter fun p => p.node != rep
  !certOk (b.take certLen) || role > 1 || n == s.silo.node || (s.pin n).isSome || (rep != 0 && (s.pin rep).isNone) ||
    (role == 1 && left.any (·.twin)) || left.length ≥ 1024

/-- The pin that a PEER_ADMIT body gives (R208). -/
def pinOf (b : List Byte) : Pin :=
  let ec := (certEc b).drop 1
  ⟨certNode b, certMl b, ec, byteAt b 7460 == 1, pinPartner b, false, zeros 48, Crypto.sha384 (certMl b ++ ec)⟩

/-- Pin a peer; REPLACES deletes the pin that it names (R208, R213). -/
def pinPeer (s : State) (b : List Byte) : State :=
  let rep := pinReplaces b
  let gone := (s.pin rep).isSome
  let s := granaryPut s { s.silo with pins := s.silo.pins.filter (fun p => p.node != rep) ++ [pinOf b] }
  if gone then hsRemovedNode s rep else s

/-- A CHANGED pin returns to NORMAL (R213). -/
def dismiss (s : State) (n : W64) : State :=
  granaryPut s { s.silo with pins := s.silo.pins.map fun p => if p.node = n then { p with changed := false } else p }

/-- Fields of a SAK_IMPORT. -/
def sakCh (b : List Byte) : Nat := leAt b 0 2
def sakAn (b : List Byte) : Nat := (byteAt b 2).toNat
def sakCipher (b : List Byte) : Nat := (byteAt b 3).toNat

/-- The AN is that of a slot in use (R92). -/
def anInUse (s : State) (c an : Nat) : Bool :=
  (bitAt (ctx s Ctx.VALID c) (egCur s c) && ctx s (egEpoch (egCur s c)) c == an) ||
  (bitAt (ctx s Ctx.IN_VALID c) (inCur s c) && ctx s (inEpoch (inCur s c)) c == an) ||
  (ctxBit s Ctx.PREV_LIVE c && bitAt (ctx s Ctx.IN_VALID c) (inPrev s c) && ctx s (inEpoch (inPrev s c)) c == an)

/-- An imported SAK still waits in a next slot (R92). -/
def importWaits (s : State) (c : Nat) : Bool :=
  (bitAt (ctx s Ctx.VALID c) (egNext s c) && !(s.chan c).retiring) || (s.key c).waitAck ||
    bitAt (ctx s Ctx.IN_VALID c) (inNext s c)

/-- Install an imported SAK into both next slots (R91, R92). -/
def importSak (s : State) (b secret : List Byte) : State :=
  let c := sakCh b
  let aux := if sakCipher b ≥ 2 then sliceAt secret 32 12 ++ beBytes 4 (leAt b 12 4) ++ zeros 16 else zeros 32
  let m : KeyMat := ⟨secret.take 32, aux, zeros 4, sakAn b⟩
  let start := leAt b 4 8
  let s := retireSlot s c
  let s := s.setChan c { s.chan c with sakStart := if start > s.rtc.toNat then some (BitVec.ofNat 64 start) else none }
  let s := mirror s (.sak (chFin c) m.key m.aux (BitVec.ofNat 2 m.epoch))
  let s := installIn (installEg s c m) c m
  if (s.key c).waitAck then s else importInstalled s c

/-- Outstanding authorisations. -/
def liveAuths (s : State) : List Auth := s.silo.auths.filter fun a => s.rtc.toNat < a.expiry.toNat

/-- Store an authorisation; it lapses at its expiry or after 1 h (R499). -/
def authorise (s : State) (m : Master) (b : List Byte) : State :=
  let expiry := min (leAt b 52 8) (s.rtc.toNat + 3600000000)
  let a : Auth := ⟨m, (byteAt b 0).toNat, (byteAt b 1).toNat, sliceAt b 4 48, BitVec.ofNat 64 expiry⟩
  { s with silo := { s.silo with auths := liveAuths s ++ [a] } }

/-- Arm tamper loops; an armed loop that mismatches trips (R495, R499). -/
def armLoops (s : State) (v : Nat) : State :=
  let s := senseNow (s.setF SILO_LOOP_CFG.ARMED 0 v)
  match findNat (fun n => bitAt v n && bitAt (s.f SILO_TAMPER.LOOP 0) n) 4 with
  | some n => trip s 6 n
  | none => s

/-- ZEROIZE_N has been high for 1 s, as far as the module has seen: how long it has been high since it was seen low is the
world's (R506). -/
def zeroizeSettled (s : State) : Bool × State :=
  if s.silo.zeroizeHigh then (true, s)
  else
    let high := !s.fb SILO_TAMPER.ZEROIZE 0 && Config.freeBool s.freeCtr
    (high, { s with freeCtr := s.freeCtr + 1, silo := { s.silo with zeroizeHigh := high } })

/-- A sensor or an armed loop still trips. -/
def stillTrips (s : State) : Bool :=
  (s.reg .SILO_TAMPER 0).toNat % 64 != 0 || s.f SILO_TAMPER.LOOP 0 &&& s.f SILO_LOOP_CFG.ARMED 0 != 0

/-- The module leaves service for good: OTP record, RETIRED (R507). -/
def retireNow (s : State) : State :=
  let s := if s.mode = modeAlarm then s
    else noteZeroised (zeroiseSilo (relinquish (tamperLog s causeRetire 0) 2)) causeRetire 0
  let s := stopPlanes s
  setMode { s with silo := { s.silo with retired := true } } modeRetired

/-- Enrolment is stored and answered with a quote; the module leaves UNSEALED (R206, R481). -/
def enrol (s : State) (e : List Byte) : List Byte × State :=
  let s := granaryPut s { s.silo with domain := some (domainOf (recDomain e) (recBody e)) }
  let r := quote s s.mode ((recDigest e).take 32)
  (r.1, setMode (targetsChanged (enginesLoad r.2)) modeLoading)

/-- Causes 0xF8 and above that need no secret. -/
def bodyCauses (s : State) (e : List Byte) : List Nat :=
  let b := recBody e
  match recType e with
  | 1 => cause (!setOk b) 0xF8 ++ cause (!s.silo.identity) 0xFC ++ cause (!randomFor s signDraws) 0xFD
  | 2 => cause (!setOk b) 0xF8
  | 3 => cause (pinRefused s b) 0xF8
  | 4 | 5 => cause (s.pin (nodeOf (b.take 8))).isNone 0xF8
  | 7 =>
    let c := sakCh b
    if c ≥ 16384 || sakAn b > 3 || sakCipher b > 3 then [0xF8]
    else
      cause (sakCipher b != ctx s Ctx.CIPHER c || anInUse s c (sakAn b)) 0xF8 ++
      cause (!polImport s (sakCipher b)) 0xFA ++
      cause (!ctxBit s Ctx.IMPORT c || chState s c == stKeying || chState s c == stDraining || importWaits s c) 0xFB
  | 8 =>
    cause ((byteAt b 0).toNat < 1 || (byteAt b 0).toNat > 9 || (byteAt b 1).toNat > 1 || (liveAuths s).length ≥ 4) 0xF8
  | 9 => cause ((byteAt b 0).toNat > 15) 0xF8
  | 11 => if s.mode = modeAlarm then [] else cause (!s.silo.identity) 0xFC ++ cause (!randomFor s signDraws) 0xFD
  | _ => []

/-- Secret of a record that carries one: bytes of the body before it, length of the secret. -/
def wrapped (t : Nat) : Option (Nat × Nat) := if t = 6 then some (4, 32) else if t = 7 then some (16, 44) else none

/-- What an accepted record does, with the secret that it carried, and its response. -/
def recEffect (s : State) (m : Master) (e secret : List Byte) : List Byte × State :=
  let b := recBody e
  match recType e with
  | 1 => enrol s e
  | 2 => ([], granaryPut s { s.silo with domain := s.silo.domain.map fun d => domainOf d.id b })
  | 3 => ([], pinPeer s b)
  | 4 => ([], unpin s (nodeOf (b.take 8)))
  | 5 => ([], dismiss s (nodeOf (b.take 8)))
  | 6 => ([], granaryPut s { s.silo with prevKey := s.silo.fabKey, fabKey := some ((byteAt b 0).toNat, secret) })
  | 7 => ([], importSak s b secret)
  | 8 => ([], authorise s m b)
  | 9 => ([], armLoops s (byteAt b 0).toNat)
  | 10 => ([], { s with silo := { s.silo with latch := false } })
  | _ =>
    let r := if s.mode = modeAlarm then ([], s) else quote s modeRetired ((recDigest e).take 32)
    (r.1, r.2)

/-- An accepted record: its SEQ is the last accepted one, then its effect; RETIRE goes on after the command has
completed. -/
def recAccept (s : State) (m : Master) (e secret : List Byte) : State :=
  let s := granaryPut s { s.silo with seq := BitVec.ofNat 64 (recSeq e) }
  let r := recEffect s m e secret
  let s := mailDone r.2 m r.1
  if recType e = 11 then retireNow s else s

/-- Work of the Silo that R202 gives no place: it comes last (DESIGN CHOICE, log 98). -/
def mailRank : Nat := 2 ^ 66

/-- The signature blocks of a record go to the key engines, where its checks come to them (R172). -/
def recWork (s : State) (e : List Byte) (low : List Nat) : State :=
  let os := (recOfficers s e).1
  let d := recDigest e
  if unsigned s (recType e) || low.any (· < 0xF6) then s
  else queueJobs s mailRank .other 0 0 ((sigBlocks e).flatMap fun b =>
    match os.find? fun o => o.num == sigOfficer b with
    | some o => [(jobVerifyMldsa, [o.mlPub, ascii "QVR-OFFICER", d, sliceAt b 4 4627]),
        (jobVerifyEcdsa, [o.ecPub.drop 1, ascii "QVR-OFFICER" ++ d, sliceAt b 4631 96])]
    | none => [])

/-- The import key and what a wrapped secret holds for it go to the key engines, where the secret is opened (R172, R500). -/
def wrapWork (s : State) (w : List Byte) : State :=
  match importKeyOf s (w.take 8) with
  | some k => queueJobs s mailRank .other 0 0
      [(jobEcdhShared, [k.ecPriv, sliceAt w 1576 96]), (jobKemDecaps, [k.dk, sliceAt w 8 1568])]
  | none => s

/-- OP 0x01. A secret is opened, and its import key used up, when no cause below 0xF9 applies. -/
def opRecord (s : State) (m : Master) (e : List Byte) : State :=
  let low := envelopeCauses s e
  let more := if low = [] then bodyCauses s e else []
  let s := recWork s e low
  let all := low ++ more
  match all.min?, wrapped (recType e) with
  | some c, w =>
    if c < 0xF9 || w.isNone then mailRefused s m true c
    else
      let x := (recBody e).drop (match w with | some (a, _) => a | none => 0)
      let n := match w with | some (_, n) => n | none => 0
      mailRefused (dropImportKey (wrapWork s x) (x.take 8)) m true (if (unwrap s e x n).isNone then 0xF9 else c)
  | none, some (a, n) =>
    let x := (recBody e).drop a
    let t := dropImportKey (wrapWork s x) (x.take 8)
    match unwrap s e x n with
    | some secret => recAccept t m e secret
    | none => mailRefused t m true 0xF9
  | none, none =>
    if recType e = 10 then
      let z := zeroizeSettled (senseNow s)
      if stillTrips z.2 || !z.1 then mailRefused z.2 m true 0xFE else recAccept z.2 m e []
    else recAccept s m e []

/-! ### The other commands -/

/-- GET_IMPORT_KEY (R500). -/
def newImportKey (s : State) : List Byte × State :=
  let (id, s) := siloRandom s 8
  let (kr, s) := siloRandom s 64
  let (ec, s) := siloRandom s 48
  let (ek, dk) := Crypto.mlkemKeygen kr
  let b := id ++ sliceAt ek 0 1568 ++ sliceAt (Crypto.p384Public ec) 0 96
  let s := granaryPut s { s.silo with importKeys := s.silo.importKeys ++ [⟨id, dk, ec⟩] }
  let r := signBoth s (ascii "QVR-IMPORT") b
  (b ++ r.1, r.2)

/-- READ_DOMAIN: without an enrolment the identifier and *k* are zero (log 51). -/
def domainBytes (s : State) : List Byte :=
  match s.silo.domain with
  | some d => d.id ++ [BitVec.ofNat 8 d.k] ++
      ((sortedOfficers (checkedOfficers d)).map fun o => BitVec.ofNat 8 o.num :: o.mlPub ++ o.ecPub).flatten
  | none => zeros 17

/-- READ_PIN: node ID, role, status, partner, public keys. -/
def pinBytes (p : Pin) : List Byte :=
  nodeBytes p.node ++ [BitVec.ofNat 8 (b2n p.twin), BitVec.ofNat 8 (b2n p.changed)] ++ nodeBytes p.partner ++ p.mlPub ++
    4 :: p.ecPub

/-- READ_LOG: cause, loop, real-time clock, mode. -/
def logBytes (t : TamperEnt) : List Byte :=
  [BitVec.ofNat 8 t.cause, BitVec.ofNat 8 t.loop] ++ leBytes 8 t.time.toNat ++ [BitVec.ofNat 8 t.mode]

/-- Areas of the Granary that a command reads: OP, and of a record its type. -/
def mailReads (op type : Nat) : GranaryArea → Bool
  | .identity => op == 0x11 || op == 0x12 || (op == 0x01 && (type == 1 || type == 11))
  | .domain => op == 0x01 || op == 0x13
  | .fabric => op == 0x01 && type == 6
  | .custody => false
  | .importKey _ => op == 0x12 || (op == 0x01 && (type == 6 || type == 7))
  | .pin _ => op == 0x14 || (op == 0x01 && 3 ≤ type && type ≤ 5)

/-- A command of OP on the request in the buffer (R510), with the Granary as it reads it. -/
def mailRunOp (s : State) (m : Master) (op len : Nat) : State :=
  if len < 1 || len > reqSize then mailRefused s m (op == 1) 0xF1
  else
    let noId := cause (!s.silo.identity) 0xFC
    let noRandom := fun n => cause (!randomFor s n) 0xFD
    match op with
    | 0x01 => opRecord s m (reqBytes s m len)
    | 0x10 => mailRun s m false noId fun s => (ownCert s, s)
    | 0x11 => mailRun s m false (noId ++ noRandom signDraws) fun s => quote s s.mode (reqBytes s m 32)
    | 0x12 => mailRun s m false (cause (s.silo.importKeys.length ≥ 4) 0xF8 ++ noId ++ noRandom importDraws) newImportKey
    | 0x13 => mailRun s m false [] fun s => (domainBytes s, s)
    | 0x14 =>
      match s.silo.pins[leNat (reqBytes s m 2)]? with
      | some p => mailRun s m false [] fun s => (pinBytes p, s)
      | none => mailRefused s m false 0xF8
    | 0x15 =>
      match s.silo.log[leNat (reqBytes s m 2)]? with
      | some t => mailRun s m false [] fun s => (logBytes t, s)
      | none => mailRefused s m false 0xF8
    | _ => mailRefused s m false 0xF1

/-- A command of OP: it reads the Granary first. One that meets a loss which zeroises is abandoned (R407, R502). -/
def mailOp (s : State) (m : Master) (op len : Nat) : State :=
  let t := granaryUse s (mailReads op (recType (reqBytes s m len)))
  if t.silo.latch && !s.silo.latch then mailRefused t m false 0xF2 else mailRunOp t m op len

/-- A write of `SILO_CMD`. -/
def siloCmd (s : State) (m : Master) (v : Nat) : State :=
  if s.blkUp .SILO && hasMailbox m then mailOp s m (bitsOf v 24 8) (bitsOf v 0 18) else s

/-- A request written into the buffer, and the command that runs on it. -/
def mailbox (s : State) (m : Master) (op : Nat) (req : List Byte) : State :=
  if s.blkUp .SILO && hasMailbox m then
    mailOp (bufPut s (reqRegion m) 0 ((req.take reqSize).map some)) m op (max 1 req.length)
  else s

def execEnrol (m : Master) (req : List Byte) (s : State) : Host.Outcome State Fault Refusal := .next (mailbox s m 1 req)
def execDomainUpdate (m : Master) (req : List Byte) (s : State) : Host.Outcome State Fault Refusal := .next (mailbox s m 1 req)
def execPeerAdmit (m : Master) (req : List Byte) (s : State) : Host.Outcome State Fault Refusal := .next (mailbox s m 1 req)
def execPeerRemove (m : Master) (req : List Byte) (s : State) : Host.Outcome State Fault Refusal := .next (mailbox s m 1 req)
def execPeerDismiss (m : Master) (req : List Byte) (s : State) : Host.Outcome State Fault Refusal := .next (mailbox s m 1 req)
def execFabricKey (m : Master) (req : List Byte) (s : State) : Host.Outcome State Fault Refusal := .next (mailbox s m 1 req)
def execSakImport (m : Master) (req : List Byte) (s : State) : Host.Outcome State Fault Refusal := .next (mailbox s m 1 req)
def execAuthorise (m : Master) (req : List Byte) (s : State) : Host.Outcome State Fault Refusal := .next (mailbox s m 1 req)
def execTamperCfg (m : Master) (req : List Byte) (s : State) : Host.Outcome State Fault Refusal := .next (mailbox s m 1 req)
def execAcknowledge (m : Master) (req : List Byte) (s : State) : Host.Outcome State Fault Refusal := .next (mailbox s m 1 req)
def execRetireRecord (m : Master) (req : List Byte) (s : State) : Host.Outcome State Fault Refusal := .next (mailbox s m 1 req)
def execGetCert (m : Master) (s : State) : Host.Outcome State Fault Refusal := .next (mailbox s m 0x10 [])
def execQuote (m : Master) (req : List Byte) (s : State) : Host.Outcome State Fault Refusal := .next (mailbox s m 0x11 req)
def execGetImportKey (m : Master) (s : State) : Host.Outcome State Fault Refusal := .next (mailbox s m 0x12 [])
def execReadDomain (m : Master) (s : State) : Host.Outcome State Fault Refusal := .next (mailbox s m 0x13 [])
def execReadPin (m : Master) (req : List Byte) (s : State) : Host.Outcome State Fault Refusal := .next (mailbox s m 0x14 req)
def execReadLog (m : Master) (req : List Byte) (s : State) : Host.Outcome State Fault Refusal := .next (mailbox s m 0x15 req)

/-! ### Timers -/

/-- IMPORT_KEY_EXPIRY: 10 minutes after creation. -/
def execImportKeyExpiry (id : W64) (s : State) : Host.Outcome State Fault Refusal :=
  .next (dropImportKey s (nodeBytes id))

/-- AUTHORISE_EXPIRY. -/
def execAuthoriseExpiry (i : Fin 4) (s : State) : Host.Outcome State Fault Refusal :=
  .next { s with silo := { s.silo with auths := s.silo.auths.eraseIdx i } }

/-! ### Sensors and faults (R494, R495, R502–R504) -/

/-- A sensor trips now: an armed loop, or any other; an unarmed loop is only shown. -/
def tripsNow (s : State) (t : Sensor) : Bool :=
  match t with
  | .loop n => bitAt (s.f SILO_LOOP_CFG.ARMED 0) n
  | .backup _ => s.mode == modeDormant && !vbakOk s
  | _ => true

/-- The sensor as it is seen. -/
def sense (s : State) (t : Sensor) : State :=
  let s := showSensor s t
  match t with
  | .zeroizeN => { s with silo := { s.silo with zeroizeHigh := false } }
  | .backup vbak => if s.mode = modeDormant then setVbak (setScap s 1800) vbak else s
  | _ => s

/-- TAMPER_TRIP: with main power. -/
def execTamperTrip (t : Sensor) (s : State) : Host.Outcome State Fault Refusal :=
  .next (if s.mode = modeDormant then s
    else
      let s := sense s t
      if tripsNow s t then trip s (causeOf t) (loopOf t) else s)

/-- TAMPER_TRIP_DORMANT. -/
def execTamperTripDormant (t : Sensor) (s : State) : Host.Outcome State Fault Refusal :=
  .next (if s.mode = modeDormant then
      let s := sense s t
      if tripsNow s t then tripDormant s (causeOf t) (loopOf t) else s
    else s)

/-- FATAL_FAULT: the Granary is there in every mode; the Silo's processor and ROM run while its domain is on. -/
def execFatalFault (f : FatalKind) (s : State) : Host.Outcome State Fault Refusal :=
  .next (if f = .granary then fatal s
    else if s.blkUp .SILO then trip s causeFatal 0 else s)

/-! ### Entropy (R215–R217) -/

/-- ENTROPY_SRC_FAIL: raw bits of a source that runs fail a continuous health test, and the source leaves use until the
next warm or cold reset. -/
def execEntropySrcFail (i : Fin 8) (raw : List Byte) (s : State) : Host.Outcome State Fault Refusal :=
  .next (if s.blkUp .SILO && !healthOk raw then sourceFails s i else s)

/-- DRBG_RESEED_DUE: 1 s has passed since the last seed. The Silo's generator (0) reseeds at once, or stops generating while
no seeds are issued; a key engine's unit (1–4) waits for a seed. -/
def execDrbgReseedDue (i : Fin 5) (s : State) : Host.Outcome State Fault Refusal :=
  .next (if i.val = 0 then (if randomOk s then siloReseed s else s)
    else
      let e := 63 + i.val
      s.setEng e { s.eng e with drbg := { (s.eng e).drbg with due := true } })

end Sys2Proof.Machine
end

