-- ==== Sys2Proof/Machine/Glb.lean ====
section
/-! DEFINITION. The GLB block's own writes, time of day, GPIOs, and what happens on PCIe (R531–R549, R557). -/

namespace Sys2Proof.Machine

/-! ### Views and aperture (R533, R539) -/

/-- The host's view of the registers. -/
def hostView (s : State) : Nat := s.f GLB_IFVER_SEL.VER 0

/-- Selector registers of one master go to zero. -/
def clearSelectors (s : State) (m : Master) : State :=
  [SelBlock.port, .ch, .fab, .eng, .mem, .dma, .hlth].foldl (fun s b => s.setReg (selField b).1.reg (masterIdx m) 0) s

/-- A write of `GLB_IFVER_SEL`. -/
def viewWrite (s : State) (m : Master) (v : Nat) : State :=
  let n := v % 4
  if m = .host ∧ n ≠ hostView s ∧ (n = 2 ∨ (n = 1 ∧ polView1 s = true)) then
    clearSelectors (s.setF GLB_IFVER_SEL.VER 0 n) .host
  else s

/-- Values that the aperture takes. -/
def aperOk (n : Nat) : Bool := n == 8 || (16 ≤ n && n ≤ 18) || (32 ≤ n && n ≤ 43) || (64 ≤ n && n ≤ 93)

/-- A write of `GLB_BAR2_APER`. -/
def aperWrite (s : State) (m : Master) (v : Nat) : State :=
  if m = .host ∧ aperOk (v % 512) = true then s.setF GLB_BAR2_APER.BASE 0 (v % 512) else s

/-! ### GPIOs and relay (R543, R544) -/

def gpioReg : GpioReg → Reg
  | .dir => .GLB_GPIO_DIR | .out => .GLB_GPIO_OUT

def gpioWrite (s : State) (r : GpioReg) (v : Word) : State := s.setReg (gpioReg r) 0 (maskedWrite (gpioReg r) v)

/-! ### Time of day (R545, R546) -/

def hexDigit (n : Nat) : Byte := BitVec.ofNat 8 (if n < 10 then 48 + n else 55 + n)

/-- Checksum of a message's characters between `$` and `*`, in two digits. -/
def todSum (l : List Byte) : List Byte :=
  let x := (l.foldl (· ^^^ ·) 0).toNat
  [hexDigit (x / 16), hexDigit (x % 16)]

def isDigit (b : Byte) : Bool := 48 ≤ b.toNat && b.toNat ≤ 57

def decimalOf (l : List Byte) : Nat := l.foldl (fun n b => 10 * n + (b.toNat - 48)) 0

/-- Decimal digits of a number; 20 digits hold every value of the real-time clock. -/
def digitsOf (n : Nat) : List Byte :=
  let l := ((List.range 20).map fun i => BitVec.ofNat 8 (48 + n / 10 ^ (19 - i) % 10)).dropWhile (· == 48)
  if l = [] then [48] else l

/-- The message for a second. -/
def todText (sec q : Nat) : List Byte :=
  let body := ascii "TOD," ++ digitsOf sec ++ ascii "," ++ digitsOf q
  ascii "$" ++ body ++ ascii "*" ++ todSum body ++ [13, 10]

/-- Second that a well-formed message of traceable time names. -/
def todParse (t : List Byte) : Option Nat :=
  let n := t.length
  let body := (t.drop 1).take (n - 6)
  let sec := (body.drop 4).take (body.length - 6)
  if n ≥ 13 && t.take 1 == ascii "$" && t.drop (n - 5) == ascii "*" ++ todSum body ++ [13, 10] &&
      body.take 4 == ascii "TOD," && body.drop (body.length - 2) == ascii ",0" && sec.all isDigit && sec.length ≥ 1 then
    some (decimalOf sec)
  else none

/-- Both inputs of the discipline are enabled. -/
def todOn (s : State) : Bool := s.fb GLB_TOD_CFG.TOD_RX_EN 0 && s.fb GLB_TOD_CFG.PPS_IN_EN 0

/-- A line from the UART is complete. -/
def todMessage (s : State) (t : List Byte) : State :=
  if !todOn s then s
  else match todParse t with
    | some n => { s with tod := { s.tod with msg := some (n, s.rtc) } }
    | none => s.raise GLB_TOD_EVT.TOD_ERR 0

/-- The clock is set right by an accepted time: forward at once, back by counting at half rate. `t` is the true time in
µs. -/
def discipline (s : State) (t : Nat) : State :=
  let e : Int := (s.rtc.toNat : Int) - t
  let s := s.setF GLB_TOD_STATUS.LAST_ERR 0 (unsignedOf 16 (clampS 16 e))
  let s := s.raise GLB_TOD_EVT.TOD_OK 0
  let streak := if e.natAbs ≤ 1 then min 3 (s.tod.streak + 1) else 0
  let s := { s with tod := { s.tod with streak := streak } }
  let s := s.setB GLB_TOD_STATUS.LOCKED 0 (streak == 3)
  if e < 0 then
    ({ s with rtc := BitVec.ofNat 64 t, tod := { s.tod with ahead := 0, skip := false } }).raise GLB_TOD_EVT.STEP 0
  else { s with tod := { s.tod with ahead := e.toNat, skip := false } }

/-- An edge without an accepted message. -/
def edgeFails (s : State) : State :=
  ({ s with tod := { s.tod with streak := 0 } }).setF GLB_TOD_STATUS.LOCKED 0 0

/-- The filtered rising edge of PPS_IN. -/
def ppsEdge (s : State) : State :=
  if !s.fb GLB_TOD_CFG.PPS_IN_EN 0 then s
  else
    let m := s.tod.msg
    let s := { s with tod := { s.tod with msg := none } }
    match m with
    | none => edgeFails s
    | some (n, t) =>
      let age := s.rtc.toNat - t.toNat
      if 1000 ≤ age ∧ age ≤ 1000000 then discipline s (n * 1000000)
      else edgeFails (s.raise GLB_TOD_EVT.TOD_ERR 0)

/-- A write of `GLB_RTC_SET_HI` applies {HI, LO}. -/
def rtcSet (s : State) (v : Word) : State := discipline s (v.toNat * 2 ^ 32 + (s.reg .GLB_RTC_SET_LO 0).toNat)

/-! ### PCIe (R457, R531, R537, R538) -/

/-- Host's copies of selectors, selector errors, check registers and mailbox results, and its HI shadow. -/
def hostCopies (s : State) : State :=
  let s := { s with regs := SMap.keep s.regs fun k =>
    !((Reg.ofNat (k % Reg.count)).info.cls == RegClass.perMaster && k / Reg.count == masterIdx .host) }
  let s := s.setRam (respRegion .host) []
  s.setShadow (masterIdx .host) 0

/-- Configuration space returns to its reset values, and T2 loses its eligibility when that clears MSI-X enable. -/
def msixReset (s : State) : State :=
  let was := s.fb GLB_PCIE_STATUS.MSIX_EN 0
  let s := (s.setF GLB_PCIE_STATUS.MSIX_EN 0 0).setF GLB_PCIE_STATUS.FN_MASK 0 0
  let s := { s with evc := { s.evc with msix := [], pba := 0, d3 := false, t2Off := s.evc.t2Off || was }, pcie := Pcie.reset }
  if was then targetsChanged s else s

/-- A PCIe reset. The checks and the mailbox commands of the model end inside their commands, so none is caught by it; a
SHF or flash operation of the host goes on and reports nowhere. -/
def pcieReset (s : State) (k : PcieReset) : State :=
  let s := if k = .perst then { s with pwr := { s.pwr with perst := s.pwr.perst || s.fb PWR_WAKE_EN.PERST 0 } } else s
  if s.mode = modeDormant then s
  else if s.mode = modeEscapement then (if k = .perst then wake s .perst else s)
  else
    let s := msixReset (pcieDown (hostCopies s))
    let s := (s.setReg .GLB_IFVER_SEL 0 2).setReg .GLB_BAR2_APER 0 16
    if k = .flr then s.raise GLB_PCIE_EVT.FLR 0 else s.raise GLB_PCIE_EVT.HOT_RESET 0

/-- Domain 57 is on. -/
def pcieOn (s : State) : Bool := modeSelftest ≤ s.mode && s.fb CLK_STATUS.REFP_OK 0

/-- Link training ends, with the function ready: speed code and width as the partner took them (R538). -/
def pcieTrained (s : State) (speed width : Nat) : State :=
  if pcieOn s && 1 ≤ speed && speed ≤ 5 && (width == 1 || width == 2 || width == 4) then
    let s := { s with pcie := { s.pcie with ready := true } }
    msixFlush (((s.setF GLB_PCIE_STATUS.LINK_UP 0 1).setF GLB_PCIE_STATUS.SPEED 0 speed).setF GLB_PCIE_STATUS.WIDTH 0 width)
  else s

/-- A double word of configuration space (R531). The header's layout and the fields of the capabilities are those of every PCI
Express function (PRESUMED, log 103); where the capabilities stand is the model's (DESIGN CHOICE, log 103): power management at
0x40, MSI-X at 0x50, PCI Express at 0x60, AER at 0x100. What stands elsewhere is free. -/
def configWord (s : State) (dword : Nat) : List Byte × State :=
  let p := s.pcie
  match dword with
  | 0 => (leBytes 4 0x64001F91, s)
  | 1 => (leBytes 4 (0x100000 + p.cmd), s)
  | 2 => (leBytes 4 (0x108000 * 2 ^ 8 + partLow), s)
  | 3 | 8 | 9 | 12 | 15 => (zeros 4, s)
  | 4 => (leBytes 4 (p.bar0.toNat % 2 ^ 32 + 4), s)
  | 5 => (leBytes 4 (p.bar0.toNat / 2 ^ 32), s)
  | 6 => (leBytes 4 (p.bar2.toNat % 2 ^ 32 + 12), s)
  | 7 => (leBytes 4 (p.bar2.toNat / 2 ^ 32), s)
  | 11 => (leBytes 4 (s.variant * 2 ^ 16 + 0x1F91), s)
  | 13 => (leBytes 4 0x40, s)
  | 16 => (leBytes 4 0x00035001, s)
  | 17 => (leBytes 4 (8 + if s.evc.d3 then 3 else 0), s)
  | 20 => (leBytes 4 (0x6011 + (63 + s.f GLB_PCIE_STATUS.FN_MASK 0 * 2 ^ 14 + s.f GLB_PCIE_STATUS.MSIX_EN 0 * 2 ^ 15) * 2 ^ 16), s)
  | 21 => (leBytes 4 0x3FF0000, s)
  | 22 => (leBytes 4 0x3FF8000, s)
  | 24 => (leBytes 4 0x00020010, s)
  | 25 => (leBytes 4 0x10008002, s)
  | 26 => (leBytes 4 p.devCtl, s)
  | 27 => (leBytes 4 0x00000845, s)
  | 28 => (leBytes 4 ((s.f GLB_PCIE_STATUS.SPEED 0 + s.f GLB_PCIE_STATUS.WIDTH 0 * 2 ^ 4) * 2 ^ 16), s)
  | 64 => (leBytes 4 0x00020001, s)
  | 65 => (leBytes 4 p.aerStatus.toNat, s)
  | 66 => (leBytes 4 p.aerMask.toNat, s)
  | 67 => (leBytes 4 p.aerSevere.toNat, s)
  | _ => s.free 4

/-- MSI-X enable and function mask are written. -/
def msixControl (s : State) (en fm : Bool) : State :=
  let s := (s.setB GLB_PCIE_STATUS.MSIX_EN 0 en).setB GLB_PCIE_STATUS.FN_MASK 0 fm
  let s := { s with evc := { s.evc with t2Off := s.evc.t2Off && !en } }
  targetsChanged (msixFlush s)

def powerState (s : State) (d3 : Bool) : State := msixFlush { s with evc := { s.evc with d3 := d3 } }

/-- `a` with its low or high word replaced, its lowest `n` bits zero: 64 MiB and 16 MiB of address space (R531). -/
def barPut (a : W64) (n : Nat) (high : Bool) (v : Word) : W64 :=
  BitVec.ofNat 64 (putBits a.toNat (if high then 32 else 0) 32 v.toNat / 2 ^ n * 2 ^ n)

/-- A write of a double word of configuration space; read-only places, and those whose content is free, ignore it. -/
def configPut (s : State) (dword : Nat) (v : Word) : State :=
  let p := s.pcie
  let with_ := fun (p : Pcie) => { s with pcie := p }
  match dword with
  | 1 => with_ { p with cmd := v.toNat &&& 0x0546 }
  | 4 => with_ { p with bar0 := barPut p.bar0 26 false v }
  | 5 => with_ { p with bar0 := barPut p.bar0 26 true v }
  | 6 => with_ { p with bar2 := barPut p.bar2 24 false v }
  | 7 => with_ { p with bar2 := barPut p.bar2 24 true v }
  | 17 => if v.toNat % 4 = 3 then powerState s true else if v.toNat % 4 = 0 then powerState s false else s
  | 20 => msixControl s (bitAt v.toNat 31) (bitAt v.toNat 30)
  | 26 => if bitAt v.toNat 15 then pcieReset s .flr else with_ { p with devCtl := v.toNat &&& 0x7FFF }
  | 65 => with_ { p with aerStatus := p.aerStatus &&& ~~~v }
  | 66 => with_ { p with aerMask := v }
  | 67 => with_ { p with aerSevere := v }
  | _ => s

/-- A request to configuration space: until the function is ready it is answered with Configuration Request Retry Status (R538);
then it needs the link. -/
def configWrite (s : State) (q : CfgReq) : State :=
  if !s.pcie.ready then (if pcieOn s then s.emit (.completion [] 4) else s)
  else if !s.fb GLB_PCIE_STATUS.LINK_UP 0 then s
  else match q with
    | .msixControl en fm => msixControl s en fm
    | .powerState d3 => powerState s d3
    | .read dword => let r := configWord s dword.toNat; r.2.emit (.completion r.1 0)
    | .write dword v => configPut s dword.toNat v

/-! ### The commands -/

def execGlbIfverSelWrite (m : Master) (v : Word) (s : State) : Host.Outcome State Fault Refusal :=
  .next (whenUp s .GLB fun s => viewWrite s m v.toNat)

def execGlbBar2AperWrite (m : Master) (v : Word) (s : State) : Host.Outcome State Fault Refusal :=
  .next (whenUp s .GLB fun s => aperWrite s m v.toNat)

def execGpioWrite (_m : Master) (r : GpioReg) (v : Word) (s : State) : Host.Outcome State Fault Refusal :=
  .next (whenUp s .GLB fun s => gpioWrite s r v)

def execRly1Write (_m : Master) (v : Word) (s : State) : Host.Outcome State Fault Refusal :=
  .next (whenUp s .GLB fun s => s.setB GLB_ALARM.RLY1 0 (bitAt v.toNat 1))

def execTodMessage (txt : List Byte) (s : State) : Host.Outcome State Fault Refusal := .next (todMessage s txt)
def execPpsInEdge (s : State) : Host.Outcome State Fault Refusal := .next (ppsEdge s)

def execPpsLost (s : State) : Host.Outcome State Fault Refusal :=
  .next (if s.fb GLB_TOD_CFG.PPS_IN_EN 0 then s.raise GLB_TOD_EVT.PPS_LOST 0 else s)

/-- PPS_OUT_SECOND: the real-time clock reaches a whole second; a width of 0 ms acts as 1. -/
def execPpsOutSecond (s : State) : Host.Outcome State Fault Refusal :=
  .next (if s.fb GLB_TOD_CFG.PPS_OUT_EN 0 then
      { s with tod := { s.tod with edge := true } }.emit (.pps (max 1 (s.f GLB_TOD_CFG.PPS_OUT_WIDTH 0)))
    else s)

/-- TOD_TX: 500 ms after a rising edge of PPS_OUT, the message for the next second. -/
def execTodTx (s : State) : Host.Outcome State Fault Refusal :=
  let t := { s with tod := { s.tod with edge := false } }
  .next (if s.tod.edge && s.fb GLB_TOD_CFG.TOD_TX_EN 0 then
      t.emit (.uart (todText (s.rtc.toNat / 1000000 + 1) (b2n (!s.fb GLB_TOD_STATUS.LOCKED 0))))
    else t)

def execGlbRtcSetHi (_m : Master) (v : Word) (s : State) : Host.Outcome State Fault Refusal :=
  .next (whenUp s .GLB fun s => rtcSet s v)

def execConfigurationRequest (q : CfgReq) (s : State) : Host.Outcome State Fault Refusal := .next (configWrite s q)
def execPcieReset (k : PcieReset) (s : State) : Host.Outcome State Fault Refusal := .next (pcieReset s k)

def execPcieLinkTrainingDone (speed : BitVec 4) (width : BitVec 4) (s : State) : Host.Outcome State Fault Refusal :=
  .next (pcieTrained s speed.toNat width.toNat)

def execPcieLinkDown (s : State) : Host.Outcome State Fault Refusal := .next (pcieDown s)

/-- DEBUG_PORT_CONNECTION: bursts of the model are whole, so a disconnect closes none. -/
def execDebugPortConnection (connect : Bool) (s : State) : Host.Outcome State Fault Refusal :=
  .next { s with dbg := connect }

end Sys2Proof.Machine
end

