-- ==== Sys2Proof/Machine/Telemetry.lean ====
section
/-! DEFINITION. The commands of Hourglass and telemetry, and the I3C view (R515–R530). -/

namespace Sys2Proof.Machine

/-! ### Identity words (R1–R4, R548) -/

/-- `GLB_PARTID`: revision B0. -/
def partId (s : State) : Nat := 0x6400 * 2 ^ 16 + s.variant * 2 ^ 12 + 0xB0

/-! ### I3C (R528) -/

/-- Byte of the map from its little-endian pieces. -/
def i3cMap (s : State) : List Byte :=
  let r := fun (r : Reg) (i : Nat) => (s.reg r i).toNat
  let past := (List.range 8).any fun i => r .HLTH_CONS i ≥ endOfLife
  let flags := b2n (s.fb HLTH_EVT.TEMP_WARN 0) + 2 * b2n (s.fb HLTH_EVT.OVERTEMP 0) + 4 * b2n past + 8 * b2n s.silo.latch
  leBytes 4 (partId s) ++ [BitVec.ofNat 8 s.mode, BitVec.ofNat 8 flags] ++
    ((List.range 9).map fun i => leBytes 2 (s.f HLTH_TEMP.CUR i)).flatten ++
    leBytes 4 (r .HLTH_EOL 0) ++ leBytes 2 (s.f PWR_FEED_A.VOLT 0) ++ leBytes 2 (s.f PWR_FEED_B.VOLT 0) ++
    ((List.range 8).map fun i => leBytes 4 (r .HLTH_CONS i)).flatten

/-- A private write sets the pointer; one past the map leaves it at a place that the rule does not state. -/
def i3cWrite (s : State) (d : List Byte) : State :=
  match d with
  | [] => s
  | b :: _ =>
    if b.toNat < 64 then { s with hlth := { s.hlth with ptr := b.toNat } }
    else { s with hlth := { s.hlth with ptr := Config.freeNat s.freeCtr % 64 }, freeCtr := s.freeCtr + 1 }

/-- A private read returns bytes from the pointer on. -/
def i3cRead (s : State) (n : Nat) : State :=
  let m := i3cMap s
  let d := (List.range n).map fun i => byteAt m ((s.hlth.ptr + i) % 64)
  ({ s with hlth := { s.hlth with ptr := (s.hlth.ptr + n) % 64 } }).emit (.i3c d)

/-! ### The commands -/

def execHourglassUpdate (rails : List (BitVec 16 × BitVec 16)) (s : State) : Host.Outcome State Fault Refusal :=
  .next (hourglassSecond s rails)

def execHourglassHourly (osc : List Nat) (esr : Nat) (s : State) : Host.Outcome State Fault Refusal :=
  .next (hourglassHour s osc esr)

def execSupercapMeasurement (capUF esrMOhm : Nat) (s : State) : Host.Outcome State Fault Refusal :=
  .next (scapStep s capUF esrMOhm)

def execHlthPredWrite (m : Master) (i : Fin 8) (v : Word) (s : State) : Host.Outcome State Fault Refusal :=
  .next (whenUp s .HLTH fun s => predWrite s m i v)

def execPredictionStale (i : Fin 8) (s : State) : Host.Outcome State Fault Refusal :=
  .next (whenUp s .HLTH fun s => predStale s i)

def execTemperatureSample (t : List (BitVec 16)) (s : State) : Host.Outcome State Fault Refusal := .next (temperatures s t)

def execEyeMeasurement (lane : Fin 80) (vert horiz : BitVec 8) (s : State) : Host.Outcome State Fault Refusal :=
  .next (eyeSample s lane vert.toNat horiz.toNat)

/-- Static address of the target. It serves SETDASA only: a private transfer goes to the dynamic address (DEDUCED, log 112). -/
def i3cStatic : BitVec 7 := 0x5A

/-- A transfer that the target acknowledges: domain 58 is on and the address is its own. -/
def i3cAnswers (s : State) (dest : BitVec 7) : Bool := s.blkUp .HLTH && s.hlth.addr == some dest

def execI3cPrivateWrite (dest : BitVec 7) (data : List Byte) (s : State) : Host.Outcome State Fault Refusal :=
  .next (if i3cAnswers s dest then i3cWrite s data else s)

def execI3cPrivateRead (dest : BitVec 7) (n : Nat) (s : State) : Host.Outcome State Fault Refusal :=
  .next (if i3cAnswers s dest then i3cRead s n else s)

/-- SETDASA names a target by its static address; without one the address comes by dynamic address assignment. -/
def execI3cAddressAssignment (setdasa : Option (BitVec 7)) (a : BitVec 7) (s : State) : Host.Outcome State Fault Refusal :=
  .next (whenUp s .HLTH fun s =>
    if setdasa.isNone || setdasa == some i3cStatic then { s with hlth := { s.hlth with addr := some a } } else s)

end Sys2Proof.Machine
end

