-- ==== Sys2Proof/Machine/DmaRegs.lean ====
section
/-! DEFINITION. The DMA registers: actions, doorbells and ring settings of a channel (R423, R424, R435–R441, R445). -/

namespace Sys2Proof.Machine

/-! ### Channel states (R423) -/

def dStopped : Nat := 0
def dRunning : Nat := 1
def dWaiting : Nat := 2
def dPausing : Nat := 3
def dPaused : Nat := 4
def dHalted : Nat := 5
def dAborting : Nat := 6

/-- What a channel does next: fetch, move data, complete, or wait for a doorbell while it is paused. -/
def phFetch : Nat := 0
def phData : Nat := 1
def phDone : Nat := 2
def phWait : Nat := 3

def State.dmaCh (s : State) (d : Nat) : DmaCh := SMap.get (fun _ => DmaCh.reset) s.dma d

def State.setDmaCh (s : State) (d : Nat) (v : DmaCh) : State :=
  { s with dma := SMap.set (fun _ => DmaCh.reset) s.dma d v }

def dState (s : State) (d : Nat) : Nat := s.f DMA_CH_STATUS.STATE d

def setDState (s : State) (d v : Nat) : State := s.setF DMA_CH_STATUS.STATE d v

/-- The channel runs: every state but STOPPED and HALTED (R441). -/
def dmaRuns (s : State) (d : Nat) : Bool := dState s d != dStopped && dState s d != dHalted

/-! ### The ring (R424) -/

def ringLen (s : State) (d : Nat) : Nat := 2 ^ s.f DMA_CH_CFG.RING_K d

/-- Ring base, a crossbar address. -/
def ringBase (s : State) (d : Nat) : Nat := (s.reg .DMA_CH_RING_HI d).toNat * 2 ^ 32 + (s.reg .DMA_CH_RING_LO d).toNat

/-- The ring lies wholly in shared SRAM below the code store. -/
def ringOk (s : State) (d : Nat) : Bool :=
  let b := ringBase s d
  b % 64 == 0 && sramBase ≤ b && b + 64 * ringLen s d ≤ sramBase + codeStoreAt s

/-- Crossbar address of the descriptor at HEAD. -/
def headAddr (s : State) (d : Nat) : Nat := ringBase s d + 64 * s.f DMA_CH_HEAD.INDEX d

/-! ### Actions (R437–R439, R443) -/

def dmaStart (s : State) (d : Nat) : State :=
  let s := (s.setDmaCh d DmaCh.reset).setReg .DMA_CH_STATUS d 0
  setDState s d dRunning

/-- PAUSE stops new reads; a channel that waited goes on waiting after its RESUME. -/
def dmaPause (s : State) (d : Nat) : State :=
  let s := if dState s d = dWaiting then s.setDmaCh d { s.dmaCh d with phase := phWait } else s
  setDState s d dPausing

/-- RESUME continues where the channel stood, or restarts the phase that failed. -/
def dmaResume (s : State) (d : Nat) : State :=
  if (s.dmaCh d).phase = phWait then setDState (s.setDmaCh d { s.dmaCh d with phase := phFetch }) d dWaiting
  else setDState s d dRunning

/-- ABORT. A channel that waits holds an unowned descriptor and only stops; in every other state the outstanding accesses
end first, and STATUS tells the outcome (DMA_ABORT_COMPLETE). -/
def dmaAbort (s : State) (d : Nat) : State :=
  let waits := dState s d == dWaiting || (s.dmaCh d).phase == phWait
  if waits then
    (((s.setDmaCh d DmaCh.reset).setReg .DMA_CH_STATUS d 0)).raise DMA_CH_EVT.ABORTED d
  else
    let word : Nat := if dState s d = dHalted then 0xC0000000 + s.f DMA_CH_ERRINFO.RESP d else 0xE0000000
    setDState (s.setDmaCh d { s.dmaCh d with status := BitVec.ofNat 32 word, idle := dState s d == dPaused }) d dAborting

/-- Causes against an action (R445). -/
def dmaCauses (s : State) (d v : Nat) : List Nat :=
  let st := dState s d
  let n := b2n (bitAt v 0) + b2n (bitAt v 1) + b2n (bitAt v 2) + b2n (bitAt v 3)
  cause (n > 1) 0x81 ++
  (if bitAt v 0 then cause (!ringOk s d) 0x82 ++ cause (st != dStopped) 0x8A ++ cause (s.mode == modeRetired) 0x8B else []) ++
  (if bitAt v 1 then cause (st != dRunning && st != dWaiting) 0x87 else []) ++
  (if bitAt v 2 then cause (st != dPaused && st != dHalted) 0x88 else []) ++
  (if bitAt v 3 then cause (st == dStopped || st == dAborting) 0x89 else [])

/-- A write of `DMA_CH_CTL`; without an action bit it is accepted and does nothing. -/
def dmaCtl (s : State) (m : Master) (d v : Nat) : State :=
  checked s .DMA_CH_CHECK m d (dmaCauses s d v) fun s =>
    if bitAt v 0 then dmaStart s d
    else if bitAt v 1 then dmaPause s d
    else if bitAt v 2 then dmaResume s d
    else if bitAt v 3 then dmaAbort s d
    else s

/-! ### Doorbell and ring registers (R435, R441) -/

/-- A doorbell write: TAIL, and a re-fetch or the latch. -/
def dmaDoorbell (s : State) (d v : Nat) : State :=
  let s := s.setReg .DMA_CH_TAIL d (BitVec.ofNat 32 (v % 2 ^ 16))
  let c := s.dmaCh d
  if dState s d = dWaiting then setDState (s.setDmaCh d { c with phase := phFetch }) d dRunning
  else if c.phase = phWait then s.setDmaCh d { c with phase := phFetch }
  else if dState s d = dRunning ∧ c.phase = phFetch then s.setF DMA_CH_STATUS.DB_LATCHED d 1
  else s

def ringRegName : RingReg → Reg
  | .cfg => .DMA_CH_CFG | .ringLo => .DMA_CH_RING_LO | .ringHi => .DMA_CH_RING_HI | .head => .DMA_CH_HEAD

/-- Causes against a write of a ring register. -/
def ringCauses (s : State) (d : Nat) (r : RingReg) (v : Nat) : List Nat :=
  let k := v % 32
  match r with
  | .cfg =>
    cause (k < 3 || k > 16) 0x83 ++ cause (dmaRuns s d) 0x84 ++
    cause (!dmaRuns s d && (s.f DMA_CH_HEAD.INDEX d ≥ 2 ^ k || s.f DMA_CH_TAIL.INDEX d ≥ 2 ^ k)) 0x85
  | .head => cause (dState s d != dStopped || v % 2 ^ 16 ≥ ringLen s d) 0x86
  | _ => cause (dmaRuns s d) 0x84

/-- A write of a ring register; the host's view 1 forces FUNNEL (R540). -/
def ringWrite (s : State) (m : Master) (d : Nat) (r : RingReg) (v : Word) : State :=
  let v := if r = .cfg ∧ m = .host ∧ hostView s = 1 then v ||| 0x100 else v
  checked s .DMA_CH_CHECK m d (ringCauses s d r v.toNat) fun s => s.setReg (ringRegName r) d (maskedWrite (ringRegName r) v)

/-- A command of the DMA window on the selected channel. -/
def onDma (s : State) (m : Master) (effect : Nat → State → State) : State :=
  whenUp s .DMA fun s => inWindow s .dma m effect

/-! ### The commands -/

def execStart (m : Master) (v : Word) (s : State) : Host.Outcome State Fault Refusal :=
  .next (onDma s m fun d s => dmaCtl s m d v.toNat)

def execPause (m : Master) (v : Word) (s : State) : Host.Outcome State Fault Refusal :=
  .next (onDma s m fun d s => dmaCtl s m d v.toNat)

def execResume (m : Master) (v : Word) (s : State) : Host.Outcome State Fault Refusal :=
  .next (onDma s m fun d s => dmaCtl s m d v.toNat)

def execAbort (m : Master) (v : Word) (s : State) : Host.Outcome State Fault Refusal :=
  .next (onDma s m fun d s => dmaCtl s m d v.toNat)

def execDmaChDoorbell (m : Master) (v : Word) (s : State) : Host.Outcome State Fault Refusal :=
  .next (onDma s m fun d s => dmaDoorbell s d v.toNat)

def execDmaRingConfigWrite (m : Master) (r : RingReg) (v : Word) (s : State) : Host.Outcome State Fault Refusal :=
  .next (onDma s m fun d s => ringWrite s m d r v)

end Sys2Proof.Machine
end

