-- ==== Sys2Proof/Machine/EngBundle.lean ====
section
/-! DEFINITION. A bundle of an engine: its fields, the ports that moves read and write, triggers, branches, repeats, and the
run of its moves (R254–R256, R265, R269, R270, R292–R311, R344). -/

namespace Sys2Proof.Machine

/-- Push of a request: [63] write, [51:48] beats − 1, [47:0] address. -/
def opXbCmd (r : Run) (e v : Nat) : Run :=
  if engClass e = 0 then r.fail excIllegalPort
  else pushFifo r e (r.s.eng e).xbCmd 8 (BitVec.ofNat 64 v) fun x l => { x with xbCmd := l }

/-! ### Fields of a bundle (R292–R297) -/

/-- A guard passes: bit 3 negates, bits 2–0 name a predicate (R295). -/
def guardOk (x : Eng) (g : Nat) : Bool := x.pred (g % 8) != bitAt g 3

/-- A move takes effect: its guard passes, and LGUARD too where it reads the long immediate (R295, R296). -/
def moveGoes (x : Eng) (n : Nat) (m : Move) : Bool := guardOk x m.guard && (m.src != 0xF01 || guardOk x (bitsOf n 52 4))

/-- FORMAT 1 and reserved header bits zero (R293, R298). -/
def headerOk (n : Nat) : Bool := bitsOf n 56 8 == 1 && bitsOf n 48 3 == 0

/-! ### Sources (R254, R299–R301, R333); `x0` is the engine before the bundle -/

/-- Port that no selected unit holds, or that cannot be read. -/
def noPort (r : Run) : Nat × Run := (0, r.fail excIllegalPort)

/-- Fixed ports from 0x060 to 0x0FF as sources (R300). A running TIMER reads a free value between 1 and what was written. -/
def readFixed (r : Run) (e : Nat) (x0 : Eng) (id : Nat) : Nat × Run :=
  match id with
  | 0x065 => (0, opSyncPop (r.claim id) e)
  | 0x070 => (x0.rep.lc.toNat, r)
  | 0x071 => (x0.rep.ls.toNat, r)
  | 0x072 => (x0.rep.le.toNat, r)
  | 0x080 => (x0.sp.toNat, r)
  | 0x081 => (x0.stkLim.toNat, r)
  | 0x082 => (x0.stkTop.toNat, r)
  | 0x083 => (b2n x0.ie, r)
  | 0x084 => (x0.imask, r)
  | 0x085 => (x0.ivb.toNat, r)
  | 0x086 => (b2n x0.v + 2 * b2n x0.dz, r)
  | 0x087 => if engClass e = 0 then noPort r else (256 * b2n x0.nopred, r)
  | 0x088 | 0x089 | 0x08A => (0, r)
  | 0x08B =>
    if x0.timer = 0 then (0, r)
    else (1 + Config.freeNat r.s.freeCtr % x0.timer.toNat, r.map fun s => { s with freeCtr := s.freeCtr + 1 })
  | 0x08C => (x0.agBank, r)
  | 0x08D => (x0.agMode, r)
  | 0x08E => (x0.doorbell.toNat, (opDoorbellRead r e).2)
  | 0x08F => (e, r)
  | 0x098 => (engGrant r.s e, r)
  | 0x0A1 => if engClass e = 0 then noPort r else takeResp (r.claim id) e x0.lrR (fun x => { x with lrR := none }) excPoisonLoad
  | 0x0A4 => if engClass e = 0 then noPort r else takeResp (r.claim id) e x0.scR (fun x => { x with scR := none }) excPoisonLoad
  | 0x0B0 => if engClass e = 2 then (0, r) else noPort r
  | _ =>
    if 0x090 ≤ id ∧ id < 0x098 then
      let w := bcWindow r.s e ((id - 0x090) / 2)
      (if id % 2 = 0 then w.1 else w.2, r)
    else noPort r

/-- Sockets as sources. R of a complication socket raises COMPL while the socket shows a fault; a read of its STATUS clears
a function fault (R337). -/
def readUnit (r : Run) (e : Nat) (x0 : Eng) (id : Nat) : Nat × Run :=
  match findPort r.s e id with
  | some (u, .result n) =>
    if u.kind = kCompl then
      let s0 := r.s.setEng e x0
      if n = 0 then (x0.val (resKey kCompl u.inst 0), if socketFaulty s0 e u.inst then r.fail excCompl else r)
      else (portVal s0 e (resKey kCompl u.inst 1), r.upd e fun x => { x with cfault := putBits x.cfault (2 * u.inst + 1) 1 0 })
    else (portVal (r.s.setEng e x0) e (resKey u.kind u.inst n), r)
  | _ => noPort r

/-- Stream ports as sources (R333). -/
def readStream (r : Run) (e id : Nat) : Nat × Run :=
  let r := r.claim id
  match id with
  | 0x800 => if engClass e = 0 then opInDesc r e else opJob r e
  | 0x801 => opInData r e
  | 0x908 => opXbRd r e
  | 0xC00 => opEvtClaim r e
  | _ => noPort r

/-- Value of a source port. -/
def readPort (r : Run) (e : Nat) (x0 : Eng) (id : Nat) : Nat × Run :=
  if id < 0x040 then (x0.gReg id, r)
  else if id < 0x048 then (b2n (x0.pred (id - 0x040)), r)
  else if id < 0x050 then noPort r
  else if id < 0x058 then (x0.agReg (id - 0x050) 0, r.postModify e x0 (id - 0x050))
  else if id < 0x060 then (x0.agReg (id - 0x058) x0.agBank, r)
  else if id < 0x100 then readFixed r e x0 id
  else if id < 0x800 then readUnit r e x0 id
  else if id < 0xE00 then readStream r e id
  else if id < 0xF00 then readUnit r e x0 id
  else if id = 0xFFF then (0, r)
  else noPort r

/-- Value that a move carries (R296, R297). -/
def sourceOf (r : Run) (e : Nat) (x0 : Eng) (n : Nat) (m : Move) : Nat × Run :=
  let t := if m.src = 0xF00 then (unsignedOf (busW e) (signedOf 24 m.simm), r)
    else if m.src = 0xF01 then (bitsOf n 0 32, r)
    else readPort r e x0 m.src
  match eslValue (busW e) m.esl t.1 with
  | some v => (v, t.2)
  | none => noPort t.2

/-! ### Destinations -/

/-- Path of the program, which JUMP, CALL and RET write (log 55). -/
def dstPath : Nat := 0x20000

/-- Fixed ports from 0x060 to 0x0FF as destinations: registers and operands take the value; of a trigger the port is
claimed. -/
def writeFixed (r : Run) (e id v : Nat) : Run :=
  let w := BitVec.ofNat 32 v
  let c := r.claim id
  let notData := fun (r' : Run) => if engClass e = 0 then r.fail excIllegalPort else r'
  match id with
  | 0x060 | 0x061 | 0x062 => r.claim dstPath
  | 0x063 | 0x064 | 0x066 | 0x073 | 0x088 | 0x089 | 0x08A => c
  | 0x065 => opSyncPush c e
  | 0x070 => writeRep c e 1 v
  | 0x071 => writeRep c e 2 v
  | 0x072 => writeRep c e 3 v
  | 0x080 => c.upd e fun x => { x with sp := w }
  | 0x081 => c.upd e fun x => { x with stkLim := w }
  | 0x082 => c.upd e fun x => { x with stkTop := w }
  | 0x083 => c.upd e fun x => { x with ie := bitAt v 0 }
  | 0x084 => c.upd e fun x => { x with imask := v % 256 }
  | 0x085 => c.upd e fun x => { x with ivb := w }
  | 0x086 => c.upd e fun x => { x with v := bitAt v 0, dz := bitAt v 1 }
  | 0x087 => opNopred c e v
  | 0x08B => c.upd e fun x => { x with timer := w, timerHit := false }
  | 0x08C => c.upd e fun x => { x with agBank := v % 4 }
  | 0x08D => c.upd e fun x => { x with agMode := v % 2 ^ 16 }
  | 0x08E => c.upd e fun x => { x with doorbell := w }
  | 0x0A0 | 0x0A3 => notData c
  | 0x0A2 => notData (c.upd e fun x => { x with scA := BitVec.ofNat 64 v })
  | 0x0B0 => if engClass e = 2 then c else r.fail excIllegalPort
  | _ =>
    if 0x068 ≤ id ∧ id < (if engClass e = 0 then 0x06C else 0x070) then
      c.upd e fun x => { x with cwd := SMap.set (fun _ => 0) x.cwd (id - 0x068) (BitVec.ofNat 128 v) }
    else if 0x08F ≤ id ∧ id ≤ 0x098 then r
    else r.fail excIllegalPort

/-- Sockets as destinations. A value of MQ is seen by triggers 4 issue cycles later (R344). -/
def writeUnit (r : Run) (e id v : Nat) : Run :=
  match findPort r.s e id with
  | some (u, .operand n) =>
    (r.claim id).upd e fun x =>
      let x := x.setVal (opKey u.kind u.inst n) v
      if n = 0 ∧ hasModulus u.kind then x.result 4 (hidKey u.kind u.inst 0) v else x
  | some (_, .trig _) => r.claim id
  | _ => r.fail excIllegalPort

/-- Stream ports as destinations (R333). -/
def writeStream (r : Run) (e id v : Nat) : Run :=
  let r := r.claim id
  match id with
  | 0x810 => if engClass e = 0 then opOutDesc r e v else opJobRes r e v
  | 0x811 => opOutData r e v
  | 0x900 => opXbCmd r e v
  | 0x901 => opXbWd r e v
  | 0xA00 => opCtxWb r e v
  | 0xC01 => opEvtDone r e v
  | _ => r.fail excIllegalPort

/-- A destination takes its value; a banked generator port is the register that AG_BANK selected before the bundle. -/
def writePort (r : Run) (e : Nat) (x0 : Eng) (id v : Nat) : Run :=
  if id < 0x040 then (r.claim id).upd e fun x => x.setG id v
  else if id < 0x048 then (r.claim id).upd e fun x => x.setPred (id - 0x040) (v != 0)
  else if id < 0x050 then r.fail excIllegalPort
  else if id < 0x058 then (r.claim (dstAg (id - 0x050) 0)).upd e fun x => x.setAg (id - 0x050) 0 v
  else if id < 0x060 then (r.claim (dstAg (id - 0x058) x0.agBank)).upd e fun x => x.setAg (id - 0x058) x0.agBank v
  else if id < 0x100 then writeFixed r e id v
  else if id < 0x800 then writeUnit r e id v
  else if id < 0xE00 then writeStream r e id v
  else if id < 0xF00 then writeUnit r e id v
  else if id = 0xFFF then r
  else r.fail excIllegalPort

/-! ### Triggers (R255, step 4) -/

/-- Order of the triggers of a bundle: loads and the rest first, then blocking units that write a bank, then stores, then
code writes, whose line is written in the next cycle, and the moves to the predictor, which the bundle's own branch does not
see (R272, R313, R314, R317, R356). -/
def fixedPhase (id : Nat) : Nat := match id with | 0x061 => 2 | 0x064 | 0x089 => 3 | _ => 0

def unitPhase (op : UOp) : Nat := match op with | .kf | .mmp | .mmn | .comp | .seed => 1 | .st => 2 | _ => 0

/-- A trigger of a fixed port. RETI, WAIT and PRED.FLUSH act at the end of the bundle. -/
def fixedTrigger (r : Run) (e id v : Nat) : Run :=
  match id with
  | 0x060 => opJump r e (v % 2 ^ 32)
  | 0x061 => opCall r e (v % 2 ^ 32)
  | 0x062 => opRet r e
  | 0x063 => opReti r e
  | 0x064 => opCodeWr r e (v % 2 ^ 32)
  | 0x073 => opRpt r e v
  | 0x089 => opPredBar r e
  | 0x08A => opTrap r
  | 0x0A0 => opLr r e v
  | 0x0A3 => opSc r e v
  | 0x0B0 => opDbSend r e v
  | _ => r

/-- The trigger that a destination is, in phase `k`. -/
def triggerPort (r : Run) (e : Nat) (x0 : Eng) (k id v : Nat) : Run :=
  if 0x060 ≤ id ∧ id < 0x100 then (if fixedPhase id = k then fixedTrigger r e id v else r)
  else if 0x100 ≤ id ∧ id < 0x800 ∨ 0xE00 ≤ id ∧ id < 0xF00 then
    match findPort r.s e id with
    | some (u, .trig op) => if unitPhase op = k then startOp r e x0 u.inst op v else r
    | _ => r
  else r

/-- Units that a bundle triggers; each takes one trigger an issue cycle (R258), a load-store unit one load and one store. -/
def unitsHit (s : State) (e : Nat) (l : List (Nat × Nat)) : List (Nat × Nat) :=
  l.filterMap fun p =>
    match findPort s e p.1 with
    | some (u, .trig _) => if u.kind = kLs then none else some (u.kind, u.inst)
    | _ => none

/-! ### What follows a bundle (R265, R269, R307–R310) -/

/-- The end-of-iteration test: a pending write old enough before the bundle is applied first; a write of the bundle itself
stays pending. -/
def endTest (x0 x : Eng) : Eng :=
  let old := x0.rep
  let base := if old.pend != 0 && old.age ≥ 2 then old.apply else old
  let p := if x.rep.pend != 0 && x.rep.age == 0 then x.rep else base
  let rep : Rep := { x.rep with lc := base.lc, ls := base.ls, le := base.le, pend := p.pend, pendVal := p.pendVal, age := p.age }
  if rep.lc = 0 then ({ x with rep := rep }).endRepeat
  else
    let short := decide (rep.le.toNat - rep.ls.toNat < 32 * 64)
    { x with pc := rep.ls, rep := { rep with lc := rep.lc - 1, edge := 2 }, lbufOk := short && (x.lbufOk || x.lbufNext),
             lbufNext := false }

/-- Path after the last issue of a bundle: the target of a taken branch after its second slot; the end-of-iteration test at
LE, which branches, RPT and the slots of taken branches skip. -/
def followPath (x0 : Eng) (test : Bool) (x : Eng) : Eng :=
  let run := fun (x : Eng) => if test && x0.rep.active && x0.pc == x0.rep.le then endTest x0 x else x
  match x0.br with
  | some ⟨k, some t, late⟩ => if k ≤ 1 then { x with pc := t, br := none } else { x with br := some ⟨k - 1, some t, late⟩ }
  | some ⟨k, none, late⟩ => run { x with br := if k ≤ 1 then none else some ⟨k - 1, none, late⟩ }
  | none => run x

/-- The bundle enters the loop buffer (R265). -/
def bufferLine (x0 : Eng) (line : List Byte) (x : Eng) : Eng :=
  if x0.rep.active && x0.lbufOk && x0.rep.ls.toNat ≤ x0.pc.toNat && x0.pc.toNat ≤ x0.rep.le.toNat then
    { x with lbuf := SMap.set (fun _ => []) x.lbuf x0.pc.toNat line }
  else x

/-! ### The moves of a bundle (R255) -/

/-- What the moves of a bundle do, and what happens after them. -/
structure Issue where
  run : Run
  /-- Issues of a self-repeating bundle that remain (R307). -/
  left : Nat
  reti : Bool
  sleep : Bool
  codeWr : Bool
  /-- PRED.FLUSH: effective for branches fetched after the issue cycle (R272). -/
  flush : Bool

/-- Moves of a bundle whose guards pass. -/
def movesOf (x0 : Eng) (n : Nat) : List Move := ((List.range 8).map (moveOf n)).filter (moveGoes x0 n)

/-- Issues that remain of a bundle after this one: SREP is ignored beside the triggers that R307 names and in a delay slot. -/
def issuesLeft (x0 : Eng) (n : Nat) : Nat :=
  let once := x0.br.isSome ||
    (List.range 8).any fun i => [0x060, 0x061, 0x062, 0x063, 0x064, 0x073].contains (moveOf n i).dst
  if once then 0 else if x0.rep.srep = 0 then bitsOf n 32 16 else x0.rep.srep - 1

/-- Run of a bundle held by its 64 bytes. -/
def issueRun (s : State) (e : Nat) (line : List Byte) : Issue :=
  let x0 := s.eng e
  let n := leNat line
  let go := movesOf x0 n
  let goes := fun (id : Nat) => go.any fun m => m.dst == id
  let branch := isBranch n
  let slot := x0.br.isSome
  let left := issuesLeft x0 n
  let r := Run.of s
  let r := if headerOk n then r else r.fail excIllegalPort
  let r := if slot && (branch || goes 0x073) then r.fail excBranchInSlot else r
  let r := r.upd e fun x =>
    let x := if left = 0 then bufferLine x0 line x else x
    { x with pc := if left = 0 then x.pc + 64 else x.pc, fresh := false, rep := { x.rep with srep := left, edge := 0 } }
  let t := go.foldl (fun (t : List (Nat × Nat) × Run) m =>
    let u := sourceOf t.2 e x0 n m
    (t.1 ++ [(m.dst, u.1)], u.2)) ([], r)
  let writes := t.1.filter (fun p => p.1 == 0x065) ++ t.1.filter (fun p => p.1 != 0x065)
  let r := writes.foldl (fun r p => writePort r e x0 p.1 p.2) t.2
  let missed := branch && !(goes 0x060 || goes 0x061 || goes 0x062)
  let r := if missed then (r.upd e fun x => { x with br := some ⟨2, none, false⟩ }).map fun s => noteBranch s e none else r
  let r := (List.range 4).foldl (fun r k => t.1.foldl (fun r p => triggerPort r e x0 k p.1 p.2) r) r
  let hit := unitsHit s e t.1
  -- two triggers of one unit wait for ever, so that an exception of the bundle does not wait for them (R256, R258)
  let r := if hit.eraseDups.length = hit.length || r.codes != [] then r else r.waitUnit
  let r := if left = 0 then r.upd e (followPath x0 (!branch && !goes 0x073)) else r
  -- reserved bits of the header make every move illegal, so that nothing else of the bundle counts (R298)
  let r := if headerOk n then r else { r with codes := [excIllegalPort], stall := none }
  ⟨r, left, goes 0x063, goes 0x066 || (bitAt n 51 && left == 0), goes 0x064, goes 0x088⟩

/-! ### The bundle due (R264, R265) -/

/-- The oldest entry of the queue is the bundle due; another one is of a path not taken. -/
def queueFits (x : Eng) : Bool := match x.fetchQ with | f :: _ => f.addr == x.pc.toNat | [] => true

/-- The bundle due is ready to issue: from the loop buffer, or as the oldest of the queue. -/
def dueLine (s : State) (e : Nat) : State :=
  let x := s.eng e
  if (loopLine x).isSome then s
  else
    let s := if queueFits x then s else flushFetch s e
    let y := s.eng e
    if y.fetchQ ≠ [] || !localOk s e y.pc.toNat 64 64 then s
    else
      let s := if y.slip then (s.inc .ENG_STALL_FETCH e).inc .ENG_CYCLES e else s
      fetchAt s e y.pc.toNat

/-- The bundle due must stall now: a blocking unit runs, the queue slips, or a port or unit cannot serve a move (R266,
R290). -/
def mustStall (s : State) (e : Nat) : Bool :=
  let x := s.eng e
  let due := (loopLine x).or ((x.fetchQ.head?.filter fun f => f.addr == x.pc.toNat && !f.bad).map (·.line))
  engState s e == engRunning &&
    (x.blocked.isSome || (x.fetchQ == [] && x.slip) || due.any fun l => (issueRun s e l).run.stall.isSome)

end Sys2Proof.Machine
end

