-- ==== Sys2Proof/Machine/Regs.lean ====
section
/-! DEFINITION. Reads and writes of registers by address: what each register shows, the side effects of reads, and the
write of each register by its access type (R8–R10, R70, R79, R164, R414, R530–R540, R547). -/

namespace Sys2Proof.Machine

/-! ### The register space (R414, R532) -/

/-- Length of a block in BAR0: to the next block where one follows, and 1 MiB for the last (DEDUCED, log 52). -/
def Blk.size : Blk → Nat
  | .PORT | .CH | .ENG | .SILO | .SHF => 0x100000
  | _ => 0x10000

def Blk.list : List Blk := [.GLB, .PWR, .CLK, .EVC, .DMA, .MEM, .HLTH, .FAB, .TWN, .PORT, .CH, .ENG, .SILO, .SHF]

/-- Block that an address lies in. -/
def blockAt (a : Nat) : Option Blk := Blk.list.find? fun b => b.base ≤ a && a < b.base + b.size

/-- Selector of a block. -/
def blkSel : Blk → Option SelBlock
  | .PORT => some .port | .CH => some .ch | .FAB => some .fab | .ENG => some .eng | .MEM => some .mem | .DMA => some .dma
  | .HLTH => some .hlth | _ => none

/-- Offsets that the window of a block takes. -/
def inWindowRange (b : Blk) (off : Nat) : Bool :=
  match b with
  | .CH => 0x100 ≤ off && off < 0x1000
  | .FAB => 0x100 ≤ off && off < 0x240
  | .PORT | .ENG | .MEM | .DMA | .HLTH => 0x100 ≤ off
  | _ => false

/-- Copy number of a register that a master reaches; `i` is the selected unit and `row` its row in the table. -/
def copyOf (r : Reg) (m : Master) (i row : Nat) : Nat :=
  match r.info.cls with
  | .perMaster => masterIdx m
  | .window => r.info.count * i + row
  | .table => row
  | .one => 0

/-! ### Values worked out from the state -/

def word (n : Nat) : Word := BitVec.ofNat 32 n

/-- Number with the bits `i < n` for which `p i` holds. -/
def bitsWhere (n : Nat) (p : Nat → Bool) : Nat := (List.range n).foldl (fun v i => if p i then v + 2 ^ i else v) 0

/-- A power domain is on (R472, R473, R480). -/
def domainOn (s : State) (d : Nat) : Bool :=
  let m := s.mode
  let base :=
    match m with
    | 0 => d == 60
    | 1 => d == 60 || d == 63
    | 2 => d == 54 || (56 ≤ d && d ≤ 60) || d == 63
    | 3 | 4 => (52 ≤ d && d ≤ 60) || d == 63
    | 10 => (52 ≤ d && d ≤ 54) || (56 ≤ d && d ≤ 60) || d == 63
    | 11 => d == 54 || d == 57 || d == 58 || d == 60 || d == 63
    | _ => (52 ≤ d && d ≤ 60) || d == 63
  let run := modeStandby ≤ m && m ≤ modeMaintenance
  let lanes := fun (line : Bool) (j : Nat) => (provPorts s).any fun p =>
    isLine p == line && (portSlices s p).any fun l => l / 4 == j
  base || (run &&
    (if d < 32 then (s.slice d).powered
     else if d < 40 then lanes false (d - 32)
     else if d < 48 then lanes true (d - 40)
     else if d < 52 then engState s (64 + (d - 48)) != engOff
     else if d = 61 ∨ d = 62 then (List.range 32).any fun l => (s.slice l).powered && halfOf l == d - 61
     else false))

/-- Usable bytes of a controller's region (R390, R402, R411). -/
def regionBytes (s : State) (k : Nat) : Nat :=
  if k < 70 then bankSize s k 0 + bankSize s k 1 + bankSize s k 2
  else match k with
    | 70 => (17408 - (1024 - s.f CH_SPARE.FREE 0)) * 1024
    | 71 | 72 => 4096 * (halfPages s - (s.memc k).retired.length)
    | 73 => sramSize
    | _ => 512 * 1024

/-- Sources REQUESTED at a target. -/
def requestedAt (s : State) (t : Nat) : Nat :=
  ((liveSrcs s).filter fun n => (s.src n).st == 2 && (s.src n).last == some t).length

/-- The core PLL `i` runs and has locked: dclk, kclk, cclk. -/
def clockRuns (s : State) (i : Nat) : Bool :=
  match i with
  | 0 => s.fb CLK_STATUS.D_LOCK 0
  | 1 => s.fb CLK_STATUS.K_LOCK 0
  | _ => !cclkStopped s

/-- Officer-set digest that `SILO_OSD` shows: of the stored enrolment, or the one that the Escapement kept. -/
def osdNow (s : State) : List Byte := if s.silo.domain.isSome then (keptNow s).osd else s.silo.kept.osd

/-- A free field of `n` bits. -/
def freeField (s : State) (n : Nat) : Nat × State :=
  (Config.freeNat s.freeCtr % 2 ^ n, { s with freeCtr := s.freeCtr + 1 })

/-- What a read of copy `i` of a register shows before any side effect, `row` being its row in the table; free values for
currents, clock averages and the cycle-by-cycle stall of an engine. -/
def regShows (s : State) (r : Reg) (i row : Nat) : Nat × State :=
  let v := (s.reg r i).toNat
  let keep := fun (n : Nat) => (n, s)
  match r with
  | .PORT_EXP_OCC =>
    let o := occupancyKib s i
    keep (max (s.f PORT_EXP_OCC.PEAK i) o * 2 ^ 16 + o)
  | .CH_STATUS =>
    keep (putBits (putBits v 28 1 (b2n (ctxBit s Ctx.ROOT_OK i))) 26 1 (b2n (ctxBit s Ctx.PREV_LIVE i)))
  | .CH_EVT_SUM => keep (bitsWhere 32 fun b => evtOn s .CH_EVT .CH_EVT_EN (32 * row + b))
  | .FAB_STATUS =>
    keep (putBits (putBits (putBits v 29 1 (b2n (isRegistrar s))) 28 1 (b2n s.silo.fabKey.isSome)) 24 4 (polFabFloor s))
  | .FAB_NODES =>
    let reach := (s.regs.filter fun e => e.1 % Reg.count == Reg.FAB_ROUTE.ctorIdx && e.2 &&& 0xC0000000 != 0).length
    keep (s.fab.lsdb.length % 2 ^ 13 * 2 ^ 16 + reach)
  | .FAB_LINK_TITHE => keep (titheMbps s i)
  | .TWN_STATUS =>
    keep (putBits v 24 1 (b2n (s.fb TWN_CFG.DEAD_IN_EN 0 && inputActive s (s.f TWN_CFG.DEAD_GPIO 0))))
  | .ENG_CTL => keep (b2n (s.eng i).nopred * 2 ^ 8)
  | .ENG_STATUS =>
    let x := s.eng i
    let rest := engState s i * 2 ^ 29 + b2n x.nopred * 2 ^ 28 + b2n x.ie * 2 ^ 27 + x.save % 4 * 2 ^ 25 +
      x.imask % 256 * 2 ^ 8 + bitsWhere 8 (fun l => lineOn s i l)
    if engState s i ≠ engRunning then keep rest
    else if mustStall s i then keep (rest + 2 ^ 24)
    else let f := freeField s 1; (rest + f.1 * 2 ^ 24, f.2)
  | .ENG_UNITS => keep ((savedPorts s i).length * 2 ^ 16 + (engUnits s i).length)
  | .SHF_FLOOR => keep s.shf.floor
  | .SHF_FUSE => keep ((256 - s.shf.rows) * 2 ^ 16 + s.shf.rows)
  | .MEM_STATUS => keep (putBits (putBits v 30 2 (regionCode s i)) 16 5 (s.memc i).fifo.length)
  | .MEM_CAPACITY => keep (regionBytes s i)
  | .MEM_BANKSZ => let k := i / 3; keep (if k < 70 then bankSize s k row else 0)
  | .MEM_RETIRED =>
    keep (if i = 71 ∨ i = 72 then (s.memc i).retired.length else if i = 70 then 1024 - s.f CH_SPARE.FREE 0 else 0)
  | .MEM_LOG =>
    let k := i / 4
    keep (match (s.memc k).fifo with
      | [] => 0
      | e :: _ => (match row with | 0 => e.w0 | 1 => e.w1 | 2 => e.w2 | _ => e.w3).toNat)
  | .DMA_BUSY => keep (bitsWhere 32 fun b => dState s (32 * row + b) != dStopped)
  | .EVC_STATUS => keep (requestedAt s 2 * 2 ^ 20 + requestedAt s 1 * 2 ^ 10 + requestedAt s 0)
  | .EVC_PEND => keep (bitsWhere 32 fun b => let st := (s.src (32 * row + b)).st; st == 1 || st == 2)
  | .EVC_SRC_STATUS =>
    let x := s.src row
    keep (x.st * 2 ^ 29 + (x.last.getD 0) % 4 * 2 ^ 27 + (v &&& 0x300) + b2n (srcCond s row))
  | .PWR_FEED_A | .PWR_FEED_B => let f := freeField s 16; (putBits v 0 16 f.1, f.2)
  | .PWR_DOM_LO => keep (bitsWhere 32 (domainOn s))
  | .PWR_DOM_HI => keep (bitsWhere 32 fun d => domainOn s (32 + d))
  | .CLK_MEAS => if clockRuns s row then freeField s 22 else keep 0
  | .SILO_STATUS =>
    let st := if s.mode = modeAlarm then 1 else if s.mode = modeRetired then 2 else 0
    keep (st * 2 ^ 30 + b2n s.silo.domain.isSome * 2 ^ 29 + b2n s.silo.identity * 2 ^ 28 + b2n s.silo.latch * 2 ^ 27 +
      b2n (decide (healthySources s ≥ 2)) * 2 ^ 26 + s.silo.importKeys.length % 16)
  | .SILO_TAMPER => let t := senseNow s; ((t.reg .SILO_TAMPER 0).toNat, t)
  | .SILO_PINS => keep ((s.silo.pins.filter (·.changed)).length * 2 ^ 16 + s.silo.pins.length)
  | .SILO_SEQ_LO => keep (s.silo.seq.toNat % 2 ^ 32)
  | .SILO_SEQ_HI => keep (s.silo.seq.toNat / 2 ^ 32)
  | .SILO_NODE => keep (leAt (beBytes 8 s.silo.node.toNat) (4 * row) 4)
  | .SILO_OSD => keep (leAt (osdNow s) (4 * row) 4)
  | .HLTH_STATUS => keep (putBits v 8 8 (bitsWhere 8 fun j => decide ((s.reg .HLTH_CONS j).toNat ≥ endOfLife)))
  | .HLTH_EYE => keep (if laneLocked s i then v else putBits v 0 1 0)
  | .GLB_PARTID => keep (partId s)
  | .GLB_CAP => keep ((if s.isHA then 16 else 32) * 2 ^ 26 + b2n (s.variant != 2) * 2 ^ 25 + 64 * 2 ^ 16 + 16384)
  | .GLB_IFVER_SUP => keep (b2n (polView1 s) * 2 ^ 8 + 3)
  | .GLB_VER =>
    keep (0x22140000 + polFabFloor s % 16 * 2 ^ 12 + polSuiteFloor s % 16 * 2 ^ 8 + 0x20 + b2n (polView1 s) * 4 +
      b2n (polBaleV1 s) * 2 + b2n ((polSuites s).contains 0x0031))
  | .GLB_GPIO_DIR => keep (if s.fb TWN_CFG.ACT_EN 0 then putBits v (s.f TWN_CFG.ACT_GPIO 0) 1 1 else v)
  | .GLB_GPIO_IN => keep (bitsWhere 16 (pinLevel s))
  | .GLB_ALARM => keep (putBits v 0 1 (b2n s.silo.latch))
  | _ => keep v

/-! ### LO and HI pairs (R164, R540) -/

/-- A read of one word of a 64-bit counter. Reading the word that captures returns its half and shadows the other; the
host's view 1 captures with HI. -/
def counterRead (s : State) (m : Master) (v : Nat) (hi : Bool) : Nat × State :=
  let captures := if m = .host ∧ hostView s = 1 then hi else !hi
  let half := fun (h : Bool) => if h then v / 2 ^ 32 % 2 ^ 32 else v % 2 ^ 32
  if captures then (half hi, s.setShadow (masterIdx m) (word (half (!hi))))
  else ((s.shadowOf (masterIdx m)).toNat, s)

/-- A read of one word of a 64-bit value that is read with the shadow and is no counter. -/
def pairRead (s : State) (m : Master) (v : Nat) (hi : Bool) : Nat × State :=
  if hi then ((s.shadowOf (masterIdx m)).toNat, s)
  else (v % 2 ^ 32, s.setShadow (masterIdx m) (word (v / 2 ^ 32)))

/-- The pairs that are no counters: the 64-bit value and whether the register is the HI word. -/
def pairOf (s : State) (r : Reg) : Option (Nat × Bool) :=
  let two := fun (lo hi : Reg) => (s.reg hi 0).toNat * 2 ^ 32 + (s.reg lo 0).toNat
  match r with
  | .CLK_RTC_LO => some (s.rtc.toNat, false)
  | .CLK_RTC_HI => some (s.rtc.toNat, true)
  | .SILO_TAMPER_TIME_LO => some (two .SILO_TAMPER_TIME_LO .SILO_TAMPER_TIME_HI, false)
  | .SILO_TAMPER_TIME_HI => some (two .SILO_TAMPER_TIME_LO .SILO_TAMPER_TIME_HI, true)
  | .GLB_LASTREF_TIME_LO => some (two .GLB_LASTREF_TIME_LO .GLB_LASTREF_TIME_HI, false)
  | .GLB_LASTREF_TIME_HI => some (two .GLB_LASTREF_TIME_LO .GLB_LASTREF_TIME_HI, true)
  | .HLTH_HOURS_LO => some (s.hlth.now.secs / 3600, false)
  | .HLTH_HOURS_HI => some (s.hlth.now.secs / 3600, true)
  | _ => none

/-! ### Reads with side effects (R9) -/

/-- Fields that a read clears. -/
def readClears (s : State) (r : Reg) (i : Nat) : State :=
  match r with
  | .PORT_EXP_OCC => s.setF PORT_EXP_OCC.PEAK i 0
  | .TWN_LAG => s.setF TWN_LAG.PEAK i 0
  | .HLTH_TEMP =>
    { s.setF HLTH_TEMP.MAX i 0 with hlth := { s.hlth with anew := putBits s.hlth.anew i 1 1 } }
  | _ => s

/-- Register with an RC field. -/
def isRC (r : Reg) : Bool := r == .PORT_EXP_OCC || r == .TWN_LAG || r == .HLTH_TEMP || r == .EVC_HCLAIM

/-- A read of a register: value and state. -/
def regValue (s : State) (m : Master) (r : Reg) (i row : Nat) : Nat × State :=
  match r, pairOf s r with
  | .EVC_HCLAIM, _ => hostClaim s row
  | _, some p => pairRead s m p.1 p.2
  | _, none =>
    if r.info.acc == .wo && r != .ENG_CTL then (0, s)
    else let v := regShows s r i row; (v.1, readClears v.2 r i)

/-! ### The context window (R123, R124, R126) -/

/-- Framings that count a channel counter; under another it reads as zero (R164). -/
def counterCounts (s : State) (c j : Nat) : Bool :=
  let f := chFraming s c
  if j = cOutPad ∨ j = cInDropPack then f == frBale
  else if j = cInPad ∨ j = cInDropFmt then f == frBale || f == frOtn
  else if j = cInDropNokey ∨ j = cInDropDeliv ∨ j = cOutDropQ ∨ j = cOutDropNokey ∨ j = cOutDropDrain ∨ j = cOutMark then
    f == frMacsec || f == frBale
  else true

/-- Counter whose word stands at a window offset, and whether it is the HI word. -/
def ctxCounterAt (w : Nat) : Option (Nat × Bool) :=
  if 0x340 ≤ w ∧ w < 0x380 then some ((w - 0x340) / 8, w % 8 == 4)
  else if 0x540 ≤ w ∧ w < 0x580 then some (8 + (w - 0x540) / 8, w % 8 == 4)
  else none

/-- Bits of a context word that no crossbar master reads: key material. -/
def secretMask (w : Nat) : Nat :=
  ctxFields.foldl (fun n x => if x.cls = .k then n ||| fieldMask x w else n) 0

/-- A window read of a context word: value, poisoned, state. -/
def ctxWindowRead (s : State) (m : Master) (c w : Nat) : Nat × Bool × State :=
  let t := memRead s ctxCtl (ctxAddr s c w) 4 0 (masterCode m)
  if t.2.1 then (0, true, t.2.2)
  else match ctxCounterAt w with
    | some (j, hi) =>
      let v := if counterCounts s c j then ctx s (chCounter j) c else 0
      let r := counterRead t.2.2 m v hi
      (r.1, false, r.2)
    | none => (leNat t.1 &&& (2 ^ 32 - 1 - secretMask w), false, t.2.2)

/-! ### Mailbox buffers (R510, R512) -/

/-- Buffer word of a master's mailbox: region and offset, for the request (false) and the response (true). -/
def mailWord (m : Master) (off : Nat) : Option (Bool × Nat × Nat) :=
  if !hasMailbox m then none
  else if 0x10000 ≤ off ∧ off < 0x30000 then some (false, reqRegion m, off - 0x10000)
  else if 0x40000 ≤ off ∧ off < 0x50000 then some (true, respRegion m, off - 0x40000)
  else none

/-! ### Access by address -/

/-- What an access to an address meets: a response that performs nothing, or a block and an offset. -/
inductive Place where
  | refused (code : Nat)
  | at (b : Blk) (off : Nat)
  deriving DecidableEq, Repr

/-- Response codes of R418. -/
def rOkay : Nat := 0
def rDecErr : Nat := 1
def rTgtErr : Nat := 2
def rPoison : Nat := 3

/-- Where a master's access lands (R414, R415, R535): DECERR outside the blocks that answer now, TGTERR at the mailbox for
masters without one. -/
def placeOf (s : State) (m : Master) (a : Nat) : Place :=
  match blockAt a with
  | none => .refused rDecErr
  | some b =>
    if !s.blkUp b then .refused rDecErr
    else if b = .SILO ∧ !hasMailbox m then .refused rTgtErr
    else .at b (a - b.base)

/-- A read within a block, on the unit that the master selects: value, poisoned, state. -/
def blockRead (s : State) (m : Master) (b : Blk) (off : Nat) : Nat × Bool × State :=
  let clean := fun (p : Nat × State) => (p.1, false, p.2)
  let on := fun (i : Nat) =>
    match ctrAt b off, regAt b off with
    | some (c, row, hi), _ =>
      clean (counterRead s m (s.cnt c (if c.info.2.1 = .window then i else row)).toNat hi)
    | none, some (r, row) => clean (regValue s m r (copyOf r m i row) row)
    | none, none =>
      match b, mailWord m off with
      | .SILO, some (_, k, o) => (leNat (ramBytes s k o 4), false, s)
      | _, _ => if b = .CH ∧ 0x200 ≤ off ∧ off < 0x600 then ctxWindowRead s m i off else (0, false, s)
  match blkSel b with
  | some sel =>
    if inWindowRange b off then
      (match selected s sel m with
       | some i => on i
       | none => (0, false, s.setF (selField sel).2 (masterIdx m) 1))
    else on 0
  | none => on 0

/-- A register read at a BAR0 offset that is a multiple of 4: value, response, state. -/
def regRead (s : State) (m : Master) (a : Nat) : Nat × Nat × State :=
  match placeOf s m a with
  | .refused c => (0, c, s)
  | .at b off => let t := blockRead s m b off; (t.1, if t.2.1 then rPoison else rOkay, t.2.2)

/-! ### Writes -/

/-- A write by the access type alone (R9). -/
def plainWrite (s : State) (r : Reg) (i : Nat) (v : Word) : State :=
  match r.info.acc with
  | .rw => s.setReg r i (maskedWrite r v)
  | .w1c => s.setReg r i (s.reg r i &&& ~~~(maskedWrite r v))
  | _ => s

/-- A write of a register on copy `i`, of the selected unit `u` and row `row`. -/
def regAction (s : State) (m : Master) (r : Reg) (i u row : Nat) (v : Word) : State :=
  let n := v.toNat
  match r with
  | .PORT_CFG => portCfgWrite s m u v
  | .PORT_CTL => portCtlFull s m u n
  | .PORT_LANE_POL => portLaneWrite s m u .pol v
  | .PORT_TX_MAP => portLaneWrite s m u .txMap v
  | .PORT_RX_MAP => portLaneWrite s m u .rxMap v
  | .PORT_FC => portFcWrite s m u v
  | .PORT_EXP_LIMIT => portThrWrite s m u .expLimit v
  | .PORT_XOFF => portThrWrite s m u .xoff v
  | .PORT_XON => portThrWrite s m u .xon v
  | .PORT_TXEQ => portTxeqWrite s u row v
  | .PORT_CNT_CLR => portCntClr s u v
  | .CH_SEL => s.setReg .CH_SEL i (if m = .host ∧ hostView s = 1 then v &&& 0xFFF else maskedWrite .CH_SEL v)
  | .CH_CTL => chCtl s m u n
  | .CH_CNT_CLR => chCntClr s u n
  | .FAB_CFG => fabCfgWrite s m v
  | .FAB_CTL => fabCtl s m n
  | .FAB_ROUTE => fabRouteWrite s m row v
  | .TWN_CFG => twnCfgWrite s m v
  | .TWN_CTL => twnCtl s m n
  | .ENG_CTL => engCtlWrite s u n
  | .SHF_CTL => shfCtl s m n
  | .SHF_FL_CMD => flashCmd s m n
  | .MEM_CTL => memCtlWrite s m u n
  | .MEM_CFG => memCfgWrite s m u v
  | .MEM_OVF => memOvfWrite s u n
  | .MEM_LOG_CTL => memLogCtl s u n
  | .MEM_FLIPMASK => flipArm s m u v
  | .DMA_CH_CFG => ringWrite s m u .cfg v
  | .DMA_CH_RING_LO => ringWrite s m u .ringLo v
  | .DMA_CH_RING_HI => ringWrite s m u .ringHi v
  | .DMA_CH_HEAD => ringWrite s m u .head v
  | .DMA_CH_CTL => dmaCtl s m u n
  | .DMA_CH_DOORBELL => dmaDoorbell s u n
  | .EVC_CTL => evcCtlWrite s m v
  | .EVC_SET => fire s (n % 512) true
  | .EVC_HCOMPLETE => complete s 2 (n % 512)
  | .EVC_IN_CFG => evcInCfgWrite s m row v
  | .EVC_GRP => evcGrpWrite s m row v
  | .EVC_SRC_CFG => evcSrcCfgWrite s m row v
  | .EVC_SRC_STATUS => s.setReg .EVC_SRC_STATUS row (s.reg .EVC_SRC_STATUS row &&& ~~~(v &&& 0x300))
  | .PWR_CFG => pwrWrite s m .cfg v
  | .PWR_WAKE_EN => pwrWrite s m .wakeEn v
  | .PWR_WAKE_TIMER => pwrWrite s m .wakeTimer v
  | .PWR_IO => pwrWrite s m .io v
  | .CLK_SSC => sscWrite s m v
  | .SILO_CMD => siloCmd s m n
  | .HLTH_PRED => predWrite s m row v
  | .GLB_IFVER_SEL => viewWrite s m n
  | .GLB_BAR2_APER => aperWrite s m n
  | .GLB_MODE_REQ => modeReq s m (n % 16)
  | .GLB_RESET => glbReset s m n
  | .GLB_GPIO_DIR => gpioWrite s .dir v
  | .GLB_GPIO_OUT => gpioWrite s .out v
  | .GLB_ALARM => s.setB GLB_ALARM.RLY1 0 (bitAt n 1)
  | .GLB_RTC_SET_LO => s.setReg .GLB_RTC_SET_LO 0 v
  | .GLB_RTC_SET_HI => rtcSet s v
  | _ => plainWrite s r i v

/-- A write within a block, on the unit that the master selects: whether a poisoned word refused it, and the state. -/
def blockWrite (s : State) (m : Master) (b : Blk) (off : Nat) (v : Word) : Bool × State :=
  let on := fun (i : Nat) =>
    match regAt b off with
    | some (r, row) => (false, regAction s m r (copyOf r m i row) i row v)
    | none =>
      match b, mailWord m off with
      | .SILO, some (false, k, o) => (false, bufPut s k o ((leBytes 4 v.toNat).map some))
      | _, _ => if b = .CH ∧ 0x200 ≤ off ∧ off < 0x600 then ctxWindowWrite s m i off v.toNat else (false, s)
  match blkSel b with
  | some sel =>
    if inWindowRange b off then
      (match selected s sel m with
       | some i => on i
       | none => (false, s.setF (selField sel).2 (masterIdx m) 1))
    else on 0
  | none => on 0

/-- A register write at a BAR0 offset that is a multiple of 4: response and state. -/
def regWrite (s : State) (m : Master) (a : Nat) (v : Word) : Nat × State :=
  match placeOf s m a with
  | .refused c => (c, s)
  | .at b off => let t := blockWrite s m b off v; (if t.1 then rPoison else rOkay, t.2)

/-! ### The commands -/

/-- The value that a master's read returns, with its response. -/
def answerRead (m : Master) (t : Nat × Nat × State) : State :=
  { t.2.2 with resp := SMap.set (fun _ => ([], 0)) t.2.2.resp (respKey m) (leBytes 4 t.1, t.2.1) }

/-- UNMAPPED_WINDOW_ACCESS: where the master's selector maps no window, a read returns zero and its error bit is set. -/
def execUnmappedWindowAccess (m : Master) (b : SelBlock) (write : Bool) (s : State) : Host.Outcome State Fault Refusal :=
  .next (whenUp s (selBlk b) fun s =>
    if (selected s b m).isSome then s
    else
      let s := inWindow s b m fun _ s => s
      if write then s else answer s m 0)

/-- The address names a word whose read captures: the LO word of a 64-bit value, or the HI word in the host's view 1. -/
def captureAt (s : State) (m : Master) (a : Nat) : Bool :=
  match placeOf s m a with
  | .refused _ => false
  | .at b off =>
    let rev := decide (m = .host ∧ hostView s = 1)
    (match ctrAt b off with | some (_, _, hi) => hi == rev | none => false) ||
    (b == .CH && match ctxCounterAt off with | some (_, hi) => hi == rev | none => false) ||
    (match regAt b off with | some (r, _) => (match pairOf s r with | some (_, hi) => !hi | none => false) | none => false)

/-- COUNTER_LO_READ: a read at an address that captures a counter. -/
def execCounterLoRead (m : Master) (a : Word) (s : State) : Host.Outcome State Fault Refusal :=
  .next (if captureAt s m a.toNat then answerRead m (regRead s m a.toNat) else s)

/-- The address names a register with an RC field. -/
def readClearAt (s : State) (m : Master) (a : Nat) : Bool :=
  match placeOf s m a with
  | .refused _ => false
  | .at b off => match regAt b off with | some (r, _) => isRC r | none => false

/-- READ_CLEAR_ACCESS: a read at an address of a register with an RC field. -/
def execReadClearAccess (m : Master) (a : Word) (s : State) : Host.Outcome State Fault Refusal :=
  .next (if readClearAt s m a.toNat then answerRead m (regRead s m a.toNat) else s)

/-- REGISTER_WRITE: a write of a whole register; an address that is no multiple of 4 names none. -/
def execRegisterWrite (m : Master) (a v : Word) (s : State) : Host.Outcome State Fault Refusal :=
  .next (if a.toNat % 4 = 0 then (regWrite s m a.toNat v).2 else s)

end Sys2Proof.Machine
end

