-- ==== Sys2Proof/Machine/Xbar.lean ====
section
/-! DEFINITION. The crossbar: targets, who may reach them, bursts and their responses, arbitration (R126, R413–R420). -/

namespace Sys2Proof.Machine

/-! ### Masters -/

def xmIdx : XMaster → Nat
  | .host => 0 | .me0 => 1 | .me1 => 2 | .ke0 => 3 | .ke1 => 4 | .ke2 => 5 | .ke3 => 6 | .dmaR => 7 | .dmaW => 8 | .twin => 9
  | .debug => 10

/-- Masters in the order of R413. -/
def xmAll : List XMaster := [.host, .me0, .me1, .ke0, .ke1, .ke2, .ke3, .dmaR, .dmaW, .twin, .debug]

/-- Master codes of R401. -/
def xmCode : XMaster → Nat
  | .host => 0x60 | .me0 => 68 | .me1 => 69 | .ke0 => 64 | .ke1 => 65 | .ke2 => 66 | .ke3 => 67 | .dmaR => 0x61 | .dmaW => 0x61
  | .twin => 0x62 | .debug => 0x63

/-- Register master of a crossbar master: key engines and DMA have none (R536). -/
def xmReg : XMaster → Option Master
  | .host => some .host | .me0 => some .me0 | .me1 => some .me1 | .twin => some .twin | .debug => some .debug
  | _ => none

def xmDma (m : XMaster) : Bool := m == .dmaR || m == .dmaW
def xmKe (m : XMaster) : Bool := m == .ke0 || m == .ke1 || m == .ke2 || m == .ke3

/-! ### Map (R414) -/

def regEnd : Nat := 0x04000000
def ctxBase : Nat := 0x08000000
def ctxSize : Nat := 17408 * 1024
def bufBase : Nat := 0x10000000
def bufHalf : Nat := 0x3000000
def flashBase : Nat := 0x20000000
def flashSize : Nat := 0xF000000

/-- Target of an address, and the end of the range that the target has there now: the code store, buffer memory past a
half's usable pages and the half that is fused off count as unmapped. -/
def targetOf (s : State) (a : Nat) : XTarget × Nat :=
  if a < regEnd then
    (if 0x400000 ≤ a ∧ a < 0x500000 then (.mailbox, 0x500000)
     else (.regs, if a < 0x400000 then 0x400000 else regEnd))
  else if sramBase ≤ a ∧ a < sramBase + codeStoreAt s then (.sram, sramBase + codeStoreAt s)
  else if ctxBase ≤ a ∧ a < ctxBase + ctxSize then (.context, ctxBase + ctxSize)
  else if bufBase ≤ a ∧ a < bufBase + 2 * bufHalf then
    let h := (a - bufBase) / bufHalf
    let top := bufBase + h * bufHalf + 4096 * halfPages s
    if a < top ∧ !(h == 1 && s.isHA) then (.buffer, top) else (.dflt, a)
  else if flashBase ≤ a ∧ a < flashBase + flashSize then (.flash, flashBase + flashSize)
  else (.dflt, a)

/-- A target answers in the mode of the module (R535); its column for BAR2 is taken for every master (DEDUCED, log 53). -/
def targetUp (s : State) (t : XTarget) : Bool :=
  let m := s.mode
  let all := modeStandby ≤ m && m ≤ modeMaintenance
  match t with
  | .sram => 2 ≤ m && m ≤ modeAlarm
  | .flash => all || m == modeUnsealed || m == modeAlarm
  | .context | .buffer => all
  | .regs | .mailbox => 2 ≤ m
  | .dflt => false

/-- Response that R415 gives a forbidden access, none where it is allowed. -/
def forbidden (m : XMaster) (write : Bool) (t : XTarget) : Option Nat :=
  match t with
  | .sram => none
  | .context => if xmKe m then some rDecErr else none
  | .buffer => if xmKe m || m == XMaster.twin then some rDecErr else none
  | .regs => if xmKe m then some rDecErr else none
  | .mailbox =>
    if xmKe m then some rDecErr else if m == XMaster.host || m == XMaster.me0 || m == XMaster.me1 then none else some rTgtErr
  | .flash => if xmKe m || m == XMaster.twin then some rDecErr else if write then some rTgtErr else none
  | .dflt => some rDecErr

/-! ### DMA at the registers (R416) -/

/-- A DMA access to a selector, or to a window that a selector maps. -/
def dmaBarred (a : Nat) : Bool :=
  match blockAt a with
  | none => false
  | some b =>
    match blkSel b with
    | none => false
    | some sel => inWindowRange b (a - b.base) || regAt b (a - b.base) == some ((selField sel).1.reg, 0)

/-- Number that marks the HI shadow of the DMA ports, after those of the five register masters. -/
def dmaShadow : Nat := 5

/-- The register is one of those of which each register master holds a copy. -/
def perMasterAt (a : Nat) : Bool :=
  match blockAt a with
  | none => false
  | some b => match regAt b (a - b.base) with | some (r, _) => r.info.cls == .perMaster | none => false

/-- A register access of DMA: it has a HI shadow and no copy of a check register, and its refusals carry code 0x61 (the
access runs as one of the debug port, whose copies it leaves as they were). -/
def asDma {α : Type} (s : State) (f : State → α × State) : α × State :=
  let d := masterIdx .debug
  let t := f (s.setShadow d (s.shadowOf dmaShadow))
  let u := t.2
  let u := (u.setShadow dmaShadow (u.shadowOf d)).setShadow d (s.shadowOf d)
  let u := (Reg.all.filter fun r => r.info.cls == .perMaster).foldl (fun u r => u.setReg r d (s.reg r d)) u
  (t.1, if u.cnt .GLB_REFUSALS 0 = s.cnt .GLB_REFUSALS 0 then u
        else u.setReg .GLB_LASTREF 0 (word (putBits (u.reg .GLB_LASTREF 0).toNat 16 8 0x61)))

/-- Read of one register lane by a crossbar master: value, response, state. -/
def laneRead (s : State) (m : XMaster) (a : Nat) : Nat × Nat × State :=
  match xmReg m with
  | some r => regRead s r a
  | none =>
    if perMasterAt a then (0, rOkay, s)
    else let t := asDma s fun s => let t := regRead s .debug a; ((t.1, t.2.1), t.2.2); (t.1.1, t.1.2, t.2)

/-- Write of one register lane. -/
def laneWrite (s : State) (m : XMaster) (a : Nat) (v : Word) : Nat × State :=
  match xmReg m with
  | some r => regWrite s r a v
  | none => if perMasterAt a then (rOkay, s) else asDma s fun s => regWrite s .debug a v

/-! ### Bursts -/

/-- First beat, which starts at a multiple of 32; the bus carries no lower bits. -/
def xBase (r : XReq) : Nat := r.addr.toNat / 32 * 32

/-- Length in bytes, of 1 to 16 beats. -/
def xLen (r : XReq) : Nat := 32 * max 1 (min 16 r.beats)

def xEn (r : XReq) (i : Nat) : Bool := r.enables.getD i false

/-- Bytes of a write, none where their enable is off. -/
def xLanes (r : XReq) : List (Option Byte) :=
  (List.range (xLen r)).map fun i => if xEn r i then some (byteAt r.data i) else none

/-- Worst of two responses of which the first beat's comes first. -/
def firstBad (a b : Nat) : Nat := if a = 0 then b else a

/-- Read of a memory region's words that have an enabled byte. -/
def burstRead (s : State) (r : XReq) (k off : Nat) : List Byte × Nat × State :=
  (List.range (xLen r / 8)).foldl (fun (t : List Byte × Nat × State) i =>
    let lanes := (List.range 8).map fun j => xEn r (8 * i + j)
    if lanes.any id then
      let m := memRead t.2.2 k (off + 8 * i) 8 0 (xmCode r.master)
      (t.1 ++ (List.range 8).map (fun j => if lanes.getD j false then byteAt m.1 j else 0),
        firstBad t.2.1 (if m.2.1 then rPoison else rOkay), m.2.2)
    else (t.1 ++ zeros 8, t.2)) ([], rOkay, s)

/-- Channel whose context stands in a physical slot. -/
def slotOwner (s : State) (slot : Nat) : Option Nat :=
  if slot < 16384 ∧ slotOf s slot = slot then some slot
  else (s.regs.find? fun e => e.1 % Reg.count == Reg.CH_REMAP.ctorIdx && e.2.toNat % 2 ^ 15 == slot).map fun e =>
    e.1 / Reg.count

/-- The byte at an offset of context memory belongs to a counter that its channel's framing does not count (R164). -/
def idleCounter (s : State) (a : Nat) : Bool :=
  match ctxCounterAt (0x200 + a % 1024), slotOwner s (a / 1024) with
  | some (j, _), some c => !counterCounts s c j
  | _, _ => false

/-- Context port reads: key material and counters of another framing read as zero (R126, R164). -/
def ctxPortRead (s : State) (r : XReq) : List Byte × Nat × State :=
  let off := xBase r - ctxBase
  let t := burstRead s r ctxCtl off
  let hide := fun (i : Nat) =>
    if idleCounter s (off + i) then 0xFF else bitsOf (secretMask (0x200 + (off + i) % 1024 / 4 * 4)) (8 * ((off + i) % 4)) 8
  (t.1.zipIdx.map fun p => p.1 &&& ~~~(BitVec.ofNat 8 (hide p.2)), t.2)

/-- What the port writes of a 4-byte half of a context word: the M fields of the enabled bytes, as R124 lets the window write
them, without a check register to tell of a refusal. The bits written, whether a field changes, and the bytes. -/
def ctxPortHalf (s : State) (m : XMaster) (a v en : Nat) : Nat × Bool × List (Option Byte) :=
  let w := 0x200 + a % 1024
  let fs := ctxFields.filter fun x => mayWrite ((xmReg m).getD .debug) x && fieldMask x w &&& byteMask en != 0
  let mask := (fs.foldl (fun n x => n ||| fieldMask x w) 0) &&& byteMask en
  let old := leNat (ramBytes s ctxCtl a 4)
  let changed := fs.filter fun x => (old ^^^ v) &&& fieldMask x w &&& byteMask en != 0
  let new := (old &&& (2 ^ 32 - 1 - mask)) ||| (v &&& mask)
  let lanes := (List.range 4).map fun i =>
    if mask / 2 ^ (8 * i) % 256 = 0 then none else some (BitVec.ofNat 8 (new / 2 ^ (8 * i)))
  let put := (mask, changed != [], lanes)
  match slotOwner s (a / 1024) with
  | none => put
  | some c =>
    let t := (memWrite s ctxCtl a lanes (xmCode m)).2
    if changed = [] ∨ chState s c = stDisabled ∨ w = 0x320 ∨ w = 0x324 then put
    else if changed.any (·.disabled) || ((changed.map liveTest).flatten.map (liveCause t c)).flatten != [] then
      (0, false, List.replicate 4 none)
    else put

/-- Write of one 64-bit context word through the port: whole where every byte of it is written (R396). True where the word is
poisoned. -/
def ctxPortWord (s : State) (m : XMaster) (a v en : Nat) : Bool × State :=
  let lo := ctxPortHalf s m a (v % 2 ^ 32) (en % 16)
  let hi := ctxPortHalf s m (a + 4) (v / 2 ^ 32) (en / 16)
  let bad := poisoned s ctxCtl (a / 8)
  if !lo.2.1 && !hi.2.1 && !bad then (false, s)
  else
    let t := memWrite s ctxCtl a (lo.2.2 ++ hi.2.2) (xmCode m)
    let tell := fun (s : State) (c at_ : Nat) (h : Nat × Bool × List (Option Byte)) (v : Nat) =>
      if h.2.1 then mirror s (fieldRec c (0x200 + at_ % 1024) h.1 v) else s
    match slotOwner s (a / 1024) with
    | some c => if t.1 then t else (false, tell (tell t.2 c a lo (v % 2 ^ 32)) c (a + 4) hi (v / 2 ^ 32))
    | none => t

def ctxPortWrite (s : State) (r : XReq) : Nat × State :=
  let off := xBase r - ctxBase
  (List.range (xLen r / 8)).foldl (fun (t : Nat × State) i =>
    let en := bitsWhere 8 fun j => xEn r (8 * i + j)
    if en = 0 then t
    else
      let u := ctxPortWord t.2 r.master (off + 8 * i) (leAt r.data (8 * i) 8) en
      (firstBad t.1 (if u.1 then rPoison else rOkay), u.2)) (rOkay, s)

/-- Buffer memory behind an address: controller and offset. -/
def bufPlace (a : Nat) : Nat × Nat := (71 + (a - bufBase) / bufHalf, (a - bufBase) % bufHalf)

/-- Register lanes of a request with an enabled byte, and whether one has only some of its bytes enabled. -/
def regLanes (r : XReq) : List Nat := (List.range (xLen r / 4)).filter fun i => (List.range 4).any fun j => xEn r (4 * i + j)

def partLane (r : XReq) (i : Nat) : Bool := !((List.range 4).all fun j => xEn r (4 * i + j))

/-- Reads of the enabled register lanes in ascending order (R416). -/
def lanesRead (s : State) (r : XReq) : List Byte × Nat × State :=
  (List.range (xLen r / 4)).foldl (fun (t : List Byte × Nat × State) i =>
    if (regLanes r).contains i then
      let u := laneRead t.2.2 r.master (xBase r + 4 * i)
      (t.1 ++ leBytes 4 u.1, firstBad t.2.1 u.2.1, u.2.2)
    else (t.1 ++ zeros 4, t.2)) ([], rOkay, s)

def lanesWrite (s : State) (r : XReq) : Nat × State :=
  (regLanes r).foldl (fun (t : Nat × State) i =>
    let u := laneWrite t.2 r.master (xBase r + 4 * i) (word (leAt r.data (4 * i) 4))
    (firstBad t.1 u.1, u.2)) (rOkay, s)

/-- Mailbox buffers take single bytes. -/
def mailLaneWrite (s : State) (m : Master) (r : XReq) (i : Nat) : Nat × State :=
  match mailWord m (xBase r + 4 * i - 0x400000) with
  | some (false, k, o) =>
    if s.blkUp .SILO then (rOkay, bufPut s k o (((xLanes r).drop (4 * i)).take 4)) else (rDecErr, s)
  | some (true, _, _) => (rOkay, s)
  | none => laneWrite s r.master (xBase r + 4 * i) (word (leAt r.data (4 * i) 4))

/-- Access at the mailbox target, beat by beat; a write of part of a register is refused as at the register target (DEDUCED,
log 53). -/
def mailAccess (s : State) (m : Master) (r : XReq) : List Byte × Nat × State :=
  if !s.blkUp .SILO then ([], rDecErr, s)
  else if !r.write then lanesRead s r
  else if (regLanes r).any fun i => partLane r i && (mailWord m (xBase r + 4 * i - 0x400000)).isNone then ([], rTgtErr, s)
  else
    let t := (regLanes r).foldl (fun (t : Nat × State) i =>
      let u := mailLaneWrite t.2 m r i
      (firstBad t.1 u.1, u.2)) (rOkay, s)
    ([], t.1, t.2)

/-- Access at the register target (R416). -/
def regAccess (s : State) (r : XReq) : List Byte × Nat × State :=
  if (blockAt (xBase r)).isNone then ([], rDecErr, s)
  else if xLen r ≠ 32 then ([], rTgtErr, s)
  else if xmDma r.master && (regLanes r).any (fun i => dmaBarred (xBase r + 4 * i)) then ([], rTgtErr, s)
  else if !r.write then lanesRead s r
  else if (regLanes r).any (partLane r) then ([], rTgtErr, s)
  else let t := lanesWrite s r; ([], t.1, t.2)

/-- Read of the flash target: slot A, then slot B (R414); what an incomplete slot holds is free (R386). -/
def flashRead (s : State) (r : XReq) : List Byte × Nat × State :=
  let a := xBase r - flashBase
  let d := if s.shf.incomplete.contains (a / slotSize) then s.free (xLen r) else (slotBytes s 0 a (xLen r), s)
  ((List.range (xLen r)).map fun i => if xEn r i then byteAt d.1 i else 0, rOkay, d.2)

/-- One burst at its target: data of a read, response, state (R415–R418). -/
def burst (s : State) (r : XReq) : List Byte × Nat × State :=
  let t := targetOf s (xBase r)
  if xBase r / 4096 ≠ (xBase r + xLen r - 1) / 4096 ∨ xBase r + xLen r > t.2 ∨ !targetUp s t.1 then ([], rDecErr, s)
  else match forbidden r.master r.write t.1 with
    | some c => ([], c, s)
    | none =>
      let mem := fun (k off : Nat) =>
        if r.write then
          let u := memWrite s k off (xLanes r) (xmCode r.master)
          (([] : List Byte), if u.1 then rPoison else rOkay, u.2)
        else burstRead s r k off
      match t.1 with
      | .sram =>
        if r.write then
          let u := sramWrite s (xBase r - sramBase) (xLanes r) (xmCode r.master)
          ([], if u.1 then rPoison else rOkay, u.2)
        else burstRead s r sramCtl (xBase r - sramBase)
      | .context => if r.write then let u := ctxPortWrite s r; ([], u.1, u.2) else ctxPortRead s r
      | .buffer => let p := bufPlace (xBase r); mem p.1 p.2
      | .regs => regAccess s r
      | .mailbox => match xmReg r.master with | some m => mailAccess s m r | none => ([], rDecErr, s)
      | .flash => flashRead s r
      | .dflt => ([], rDecErr, s)

/-- The debug port makes requests while it is connected (R557). -/
def mayAsk (s : State) (m : XMaster) : Bool := m != .debug || s.dbg

/-- A burst and what its master receives. -/
def request (s : State) (r : XReq) : State :=
  if mayAsk s r.master then
    let t := burst s r
    { t.2.2 with resp := SMap.set (fun _ => ([], 0)) t.2.2.resp (xmIdx r.master) (t.1, t.2.1) }
  else s

/-! ### Arbitration (R419) -/

def xtIdx : XTarget → Nat
  | .sram => 0 | .context => 1 | .buffer => 2 | .regs => 3 | .mailbox => 4 | .flash => 5 | .dflt => 6

/-- The waiting master other than the twin agent whose turn it is after the one granted last. -/
def nextOther (last : Nat) (waiting : List XMaster) : Option XMaster :=
  ((List.range 11).map fun i => xmAll.getD ((last + 1 + i) % 11) .host).find? fun m => m != .twin && waiting.contains m

/-- Grant at the end of the burst in progress: the twin agent, unless it has won four times running while another master
waited; else the other masters in turn. -/
def grant (x : XArb) (waiting : List XMaster) : XArb :=
  let other := nextOther x.last waiting
  if waiting.contains .twin && (x.twinRun < 4 || other.isNone) then
    { x with twinRun := if other.isSome then x.twinRun + 1 else 0, owner := some .twin }
  else match other with
    | some m => ⟨xmIdx m, 0, some m⟩
    | none => { x with owner := none }

def arbitrate (s : State) (t : XTarget) (waiting : List XMaster) : State :=
  let x := grant (SMap.get (fun _ => XArb.reset) s.xarb (xtIdx t)) waiting
  { s with xarb := SMap.set (fun _ => XArb.reset) s.xarb (xtIdx t) x }

/-! ### The commands -/

def execCrossbarRequest (r : XReq) (s : State) : Host.Outcome State Fault Refusal := .next (request s r)

def execCrossbarGrant (t : XTarget) (waiting : List XMaster) (s : State) : Host.Outcome State Fault Refusal :=
  .next (arbitrate s t waiting)

end Sys2Proof.Machine
end

