-- ==== Sys2Proof/Machine/Dma.lean ====
section
/-! DEFINITION. The DMA channels at work: descriptors, element addresses, transforms, native and funnel access, completion,
passes, errors, pause and abort (R424–R440). -/

namespace Sys2Proof.Machine

/-! ### A descriptor (R425–R427) -/

namespace Desc

def own (b : List Byte) : Bool := bitAt (leAt b 0 4) 31
def ctrl (b : List Byte) : Nat := leAt b 4 4
def cyclic (b : List Byte) : Bool := bitAt (ctrl b) 31
def irq (b : List Byte) : Bool := bitAt (ctrl b) 30
def tparam (b : List Byte) : Nat := bitsOf (ctrl b) 8 4
/-- 0 none, 1 winnow, 2 interleave, 3 de-interleave. -/
def transform (b : List Byte) : Nat := bitsOf (ctrl b) 4 2
def esize (b : List Byte) : Nat := bitsOf (ctrl b) 0 3
/-- Bytes of an element. -/
def elem (b : List Byte) : Nat := 2 ^ esize b
def src (b : List Byte) : Nat := leAt b 8 8
def dst (b : List Byte) : Nat := leAt b 16 8
/-- Count of loop `j`. -/
def count (b : List Byte) (j : Nat) : Nat := leAt b (24 + 2 * j) 2 + 1
def total (b : List Byte) : Nat := count b 0 * count b 1 * count b 2
def sstr (b : List Byte) (j : Nat) : Int := signedOf 32 (leAt b (32 + 8 * j) 4)
def dstr (b : List Byte) (j : Nat) : Int := signedOf 32 (leAt b (36 + 8 * j) 4)
/-- Streams of an interleave. -/
def streams (b : List Byte) : Nat := tparam b + 2
/-- Block of a winnow, in elements and bits. -/
def block (b : List Byte) : Nat := 32 * 2 ^ tparam b

/-- Stride of loop `j` on one side; the packed side of an interleave steps through the streams (R430). -/
def packed (b : List Byte) (j : Nat) (given : Int) : Int :=
  match j with
  | 0 => (streams b * elem b : Nat)
  | 1 => (elem b : Nat)
  | _ => given

def srcStride (b : List Byte) (j : Nat) : Int := if transform b = 3 then packed b j (sstr b j) else sstr b j
def dstStride (b : List Byte) (j : Nat) : Int := if transform b = 2 then packed b j (dstr b j) else dstr b j

/-- Loop counter `j` of element `n` in loop order. -/
def loopAt (b : List Byte) (n j : Nat) : Nat :=
  match j with
  | 0 => n % count b 0
  | 1 => n / count b 0 % count b 1
  | _ => n / (count b 0 * count b 1)

/-- Address of element `n` from a base and the three strides. -/
def addrOf (b : List Byte) (base : Nat) (stride : Nat → Int) (n : Nat) : Int :=
  base + (loopAt b n 0 : Int) * stride 0 + (loopAt b n 1 : Int) * stride 1 + (loopAt b n 2 : Int) * stride 2

def readAt (b : List Byte) (n : Nat) : Nat := (addrOf b (src b) (srcStride b) n).toNat
def writeAt (b : List Byte) (n : Nat) : Nat := (addrOf b (dst b) (dstStride b) n).toNat

/-- Number of the element with the given loop counters in loop order. -/
def elemAt (b : List Byte) (i0 i1 i2 : Nat) : Nat := i0 + count b 0 * (i1 + count b 1 * i2)

/-- Elements of a stream that an interleave stages at a time: 4 KiB (R430). -/
def stage (b : List Byte) : Nat := 4096 / elem b

/-- Place of element `i` of the loop order in the order of the transfer: an interleave goes through what it has staged of all its
streams, in the order of its writes, before it stages more. -/
def order (b : List Byte) (i : Nat) : Nat :=
  if transform b < 2 then i
  else
    let m := stage b
    let i0 := loopAt b i 0
    let i1 := loopAt b i 1
    let first := i0 / m * m
    loopAt b i 2 * (count b 0 * count b 1) + first * streams b +
      (if transform b = 2 then (i0 - first) * streams b + i1 else i1 * min m (count b 0 - first) + (i0 - first))

/-- First element in loop order that is not among the first `pos` of the transfer. -/
def firstOpen (b : List Byte) (pos : Nat) : Nat :=
  if transform b < 2 then pos else ((List.range (total b)).find? fun i => order b i ≥ pos).getD pos

/-- Lowest address of a side, and the address past its highest element. -/
def extent (b : List Byte) (base : Nat) (stride : Nat → Int) : Int × Int :=
  let span := fun (j : Nat) => ((count b j : Int) - 1) * stride j
  (base + min 0 (span 0) + min 0 (span 1) + min 0 (span 2),
   base + max 0 (span 0) + max 0 (span 1) + max 0 (span 2) + elem b)

def srcExtent (b : List Byte) : Int × Int := extent b (src b) (srcStride b)
def dstExtent (b : List Byte) : Int × Int := extent b (dst b) (dstStride b)

/-- Two ranges share a byte. -/
def meets (x y : Int × Int) : Bool := x.1 < y.2 && y.1 < x.2

/-- Contiguous (R432). -/
def contiguous (b : List Byte) : Bool :=
  let want := fun (j : Nat) => ((elem b * (match j with | 0 => 1 | 1 => count b 0 | _ => count b 0 * count b 1) : Nat) : Int)
  transform b == 0 && sstr b 0 == want 0 && dstr b 0 == want 0 &&
    [1, 2].all fun j => count b j == 1 || (sstr b j == want j && dstr b j == want j)

/-- A contiguous copy whose ranges overlap. -/
def overlapping (b : List Byte) : Bool := contiguous b && meets (srcExtent b) (dstExtent b)

/-- Such a copy runs in descending address order. -/
def descending (b : List Byte) : Bool := overlapping b && dst b > src b

/-! ### Checks at fetch (R433) -/

def reservedClear (b : List Byte) : Bool :=
  leAt b 0 4 % 2 ^ 31 == 0 && bitsOf (ctrl b) 12 18 == 0 && bitsOf (ctrl b) 6 2 == 0 && bitsOf (ctrl b) 3 1 == 0 &&
    leAt b 30 2 == 0 && esize b ≤ 5 &&
    (match transform b with | 0 => true | 1 => tparam b ≤ 2 | _ => tparam b ≤ 14)

def inSpace (x : Int × Int) : Bool := 0 ≤ x.1 && x.2 ≤ (2 ^ 48 : Nat)

def winnowShape (b : List Byte) : Bool :=
  transform b != 1 || (elem b == block b / 8 && count b 0 % block b == 0)

def interleaveShape (b : List Byte) : Bool :=
  match transform b with
  | 2 => count b 1 == streams b && dstr b 0 == 0 && dstr b 1 == 0
  | 3 => count b 1 == streams b && sstr b 0 == 0 && sstr b 1 == 0
  | _ => true

/-- First check that an owned descriptor fails, given the range of the channel's ring. -/
def refusal (b : List Byte) (ring : Int × Int) : Option Nat :=
  if !reservedClear b then some 0x90
  else if src b ≥ 2 ^ 48 || dst b ≥ 2 ^ 48 || !inSpace (srcExtent b) || !inSpace (dstExtent b) then some 0x91
  else if !winnowShape b then some 0x92
  else if !interleaveShape b then some 0x93
  else if meets (srcExtent b) (dstExtent b) && !contiguous b then some 0x94
  else if meets (dstExtent b) ring then some 0x95
  else none

/-- Winnow of a group of elements' values: bit `c` of element `r` is bit `r` of element `c` (R429). -/
def winnow (n : Nat) (vals : List Nat) : List Nat :=
  (List.range n).map fun r => bitsWhere n fun c => bitAt (vals.getD c 0) r

end Desc

/-! ### Accesses (R428, R431) -/

/-- Whole beats from `b` to `e` cut into bursts of at most 16 beats that do not cross 4 KiB: first beat and number. -/
def cutBeats : Nat → Nat → Nat → List (Nat × Nat)
  | 0, _, _ => []
  | fuel + 1, b, e =>
    if b > e then []
    else
      let n := min (e - b + 1) (min 16 (128 - b % 128))
      (b, n) :: cutBeats fuel (b + n) e

/-- Bursts that read the bytes from `a`: native ones round outward; funnel ones have a head and a tail of one beat, and
single beats at the register target. -/
def readBursts (funnel : Bool) (a n : Nat) : List (Nat × Nat) :=
  let b := a / 32
  let e := (a + n - 1) / 32
  let fuel := e - b + 1
  if !funnel then cutBeats fuel b e
  else if a < regEnd then (List.range fuel).map fun i => (b + i, 1)
  else
    let head := a % 32 ≠ 0
    let tail := (a + n) % 32 ≠ 0 ∧ (e ≠ b ∨ ¬ head)
    (if head then [(b, 1)] else []) ++
    cutBeats fuel (if head then b + 1 else b) (if tail then e - 1 else e) ++
    (if tail then [(e, 1)] else [])

def writeBursts (funnel : Bool) (a n : Nat) : List (Nat × Nat) :=
  if funnel && a < regEnd then (List.range ((a + n - 1) / 32 - a / 32 + 1)).map fun i => (a / 32 + i, 1)
  else cutBeats ((a + n - 1) / 32 - a / 32 + 1) (a / 32) ((a + n - 1) / 32)

/-- A failed access: write or read, response, start address of the burst. -/
structure DmaErr where
  write : Bool
  resp : Nat
  addr : Nat
  deriving DecidableEq, Repr

/-- One read burst: the bytes of it that lie in `n` bytes from `a`. -/
def dmaReadBurst (s : State) (funnel : Bool) (a n : Nat) (b : Nat × Nat) : List Byte × Nat × State :=
  let base := 32 * b.1
  let inRange := fun (i : Nat) => decide (a ≤ base + i ∧ base + i < a + n)
  let en := (List.range (32 * b.2)).map fun i => !funnel || inRange i
  let t := burst s ⟨.dmaR, false, BitVec.ofNat 48 base, b.2, [], en⟩
  (((List.range (32 * b.2)).filter inRange).map fun i => byteAt t.1 i, t.2)

/-- Read of `n` bytes from `a`, burst by burst until one fails. -/
def dmaRead (s : State) (funnel : Bool) (a n : Nat) : List Byte × Option DmaErr × State :=
  (readBursts funnel a n).foldl (fun (t : List Byte × Option DmaErr × State) b =>
    match t.2.1 with
    | some _ => t
    | none =>
      let u := dmaReadBurst t.2.2 funnel a n b
      if u.2.1 = 0 then (t.1 ++ u.1, none, u.2.2) else (t.1, some ⟨false, u.2.1, 32 * b.1⟩, u.2.2)) ([], none, s)

/-- One write burst of bytes from `a`: bytes of it, response, state. -/
def dmaWriteBurst (s : State) (a : Nat) (bs : List Byte) (b : Nat × Nat) : Nat × Nat × State :=
  let base := 32 * b.1
  let inRange := fun (i : Nat) => decide (a ≤ base + i ∧ base + i < a + bs.length)
  let idx := List.range (32 * b.2)
  let data := idx.map fun i => if inRange i then byteAt bs (base + i - a) else 0
  let t := burst s ⟨.dmaW, true, BitVec.ofNat 48 base, b.2, data, idx.map inRange⟩
  ((idx.filter inRange).length, t.2)

/-- Write of bytes from `a`, burst by burst until one fails: bytes answered OKAY, error, state. -/
def dmaWrite (s : State) (funnel : Bool) (a : Nat) (bs : List Byte) : Nat × Option DmaErr × State :=
  (writeBursts funnel a bs.length).foldl (fun (t : Nat × Option DmaErr × State) b =>
    match t.2.1 with
    | some _ => t
    | none =>
      let u := dmaWriteBurst t.2.2 a bs b
      if u.2.1 = 0 then (t.1 + u.1, none, u.2.2) else (t.1, some ⟨true, u.2.1, 32 * b.1⟩, u.2.2)) (0, none, s)

/-! ### Elements -/

def isFunnel (s : State) (d : Nat) : Bool := s.fb DMA_CH_CFG.FUNNEL d

/-- Count bytes answered OKAY. -/
def countBytes (s : State) (d n : Nat) : State := s.addCnt .DMA_BYTES d n

/-- Ranges of `k` elements from element `n` on one side: one where the side runs with the stride of an element (R428). -/
def elemRanges (e : Nat) (stride : Int) (addr : Nat → Nat) (n k : Nat) : List (Nat × Nat) :=
  if stride = (e : Int) then [(addr n, e * k)] else (List.range k).map fun i => (addr (n + i), e)

/-- How a piece of a pass is moved: the ranges (address, bytes) read and written, in order; how many bytes read are turned at a
time, and into what; the bytes of that which are written already. A descending copy writes its last burst first. -/
structure Plan where
  reads : List (Nat × Nat)
  writes : List (Nat × Nat)
  unit : Nat
  turn : List Byte → List Byte
  skip : Nat
  down : Bool

/-- A write burst of a range: address and number of its bytes, first beat and number of beats. -/
abbrev WriteBurst := Nat × Nat × Nat × Nat

def rangeWrites (funnel : Bool) (r : Nat × Nat) : List WriteBurst :=
  (writeBursts funnel r.1 r.2).map fun b =>
    let lo := max r.1 (32 * b.1)
    (lo, min (r.1 + r.2) (32 * (b.1 + b.2)) - lo, b)

/-- A piece under way: bytes read and not turned, bytes turned that are written already, bytes that wait for their burst, bursts
to come, bytes answered OKAY, the access that failed, how many accesses were outstanding behind it, and the state. -/
structure Flow where
  inp : List Byte
  skip : Nat
  out : List Byte
  todo : List WriteBurst
  ok : Nat
  err : Option DmaErr
  left : Nat
  s : State

/-- An access fails. In native mode without overlap up to 31 more are outstanding, a free number (R428, R436). -/
def Flow.fail (t : Flow) (exact : Bool) (e : DmaErr) : Flow :=
  { t with err := some e, left := if exact then 0 else Config.freeNat t.s.freeCtr % 32,
           s := { t.s with freeCtr := t.s.freeCtr + 1 } }

/-- No access of the channel is left. -/
def Flow.over (t : Flow) : Bool := t.err.isSome && t.left == 0

/-- The write bursts whose bytes are there are written. -/
def flowWrites (d : Nat) (exact down : Bool) : List WriteBurst → Flow → Flow
  | [], t => { t with todo := [] }
  | w :: ws, t =>
    let n := w.2.1
    if t.out.length < n || t.over then { t with todo := w :: ws }
    else
      let at_ := if down then t.out.length - n else 0
      let u := dmaWriteBurst t.s w.1 (sliceAt t.out at_ n) w.2.2
      let t := { t with out := t.out.take at_ ++ t.out.drop (at_ + n), s := if u.2.1 = 0 then countBytes u.2.2 d n else u.2.2 }
      flowWrites d exact down ws (
        if t.err.isSome then { t with left := t.left - 1 }
        else if u.2.1 = 0 then { t with ok := t.ok + n }
        else t.fail exact ⟨true, u.2.1, 32 * w.2.2.1⟩)

/-- Bytes have been read: whole units are turned, and go on to their bursts. -/
def flowTurn (d : Nat) (exact : Bool) (p : Plan) (t : Flow) : Flow :=
  let n := t.inp.length / p.unit * p.unit
  if n = 0 then t
  else
    let o := p.turn (t.inp.take n)
    flowWrites d exact p.down t.todo
      { t with inp := t.inp.drop n, skip := t.skip - o.length, out := t.out ++ o.drop t.skip }

/-- A read burst. The data of one that was outstanding behind a failed read are discarded; behind a failed write they were there
already. -/
def flowRead (d : Nat) (exact funnel : Bool) (p : Plan) (t : Flow) (r : (Nat × Nat) × (Nat × Nat)) : Flow :=
  if t.over then t
  else
    let u := dmaReadBurst t.s funnel r.1.1 r.1.2 r.2
    let t := { t with s := u.2.2 }
    match t.err with
    | none => if u.2.1 = 0 then flowTurn d exact p { t with inp := t.inp ++ u.1 } else t.fail exact ⟨false, u.2.1, 32 * r.2.1⟩
    | some e =>
      let t := { t with left := t.left - 1 }
      if !e.write then t
      else if u.2.1 = 0 then flowTurn d exact p { t with inp := t.inp ++ u.1 }
      else { t with left := 0 }

/-- Progress of a piece: elements written and answered OKAY, the failed access, the state. -/
structure Moved where
  done : Nat
  err : Option DmaErr
  s : State

/-- A piece moves: read burst by read burst, with every write burst as soon as its bytes are there. -/
def movePlan (s : State) (d : Nat) (b : List Byte) (p : Plan) : Moved :=
  let f := isFunnel s d
  let exact := f || Desc.overlapping b
  let bursts := p.writes.flatMap (rangeWrites f)
  let t := (p.reads.flatMap fun r => (readBursts f r.1 r.2).map fun c => (r, c)).foldl (flowRead d exact f p)
    ⟨[], p.skip, [], if p.down then bursts.reverse else bursts, 0, none, 0, s⟩
  ⟨t.ok / Desc.elem b, t.err, t.s⟩

/-- Elements held whole in a string of bytes. -/
def wholeElems (e : Nat) (bs : List Byte) : List (List Byte) := (List.range (bs.length / e)).map fun i => sliceAt bs (e * i) e

def srcRanges (b : List Byte) (n k : Nat) : List (Nat × Nat) := elemRanges (Desc.elem b) (Desc.srcStride b 0) (Desc.readAt b) n k
def dstRanges (b : List Byte) (n k : Nat) : List (Nat × Nat) := elemRanges (Desc.elem b) (Desc.dstStride b 0) (Desc.writeAt b) n k

/-- `k` elements from element `n` of one loop-0 run. -/
def planRun (b : List Byte) (n k : Nat) : Plan := ⟨srcRanges b n k, dstRanges b n k, 1, id, 0, false⟩

/-- `k` elements from element `n` of one loop-0 run, winnowed: whole groups are read (R429). -/
def planWinnow (b : List Byte) (n k : Nat) : Plan :=
  let g := Desc.block b
  let e := Desc.elem b
  let lo := n / g * g
  let turn := fun (bs : List Byte) => (List.range (bs.length / (g * e))).flatMap fun i =>
    ((Desc.winnow g ((wholeElems e (sliceAt bs (g * e * i) (g * e))).map leNat)).map (leBytes e)).flatten
  ⟨srcRanges b lo (ceilDiv (n + k) g * g - lo), dstRanges b n k, g * e, turn, e * (n - lo), false⟩

/-- A chunk of an overlapping copy, read and then written (R432). -/
def planChunk (b : List Byte) (n k : Nat) : Plan :=
  ⟨srcRanges b n k, dstRanges b n k, Desc.elem b * k, id, 0, Desc.descending b⟩

/-- What an interleave stages, from the element of the transfer at `pos` on, at most `k` of them (R430). -/
def planStage (b : List Byte) (pos k : Nat) : Plan :=
  let e := Desc.elem b
  let n := Desc.streams b
  let plane := Desc.count b 0 * n
  let i2 := pos / plane
  let a := pos % plane / (Desc.stage b * n) * Desc.stage b
  let m := min (Desc.stage b) (Desc.count b 0 - a)
  let r := pos % plane - a * n
  let k := min k (m * n - r)
  let first := Desc.elemAt b a 0 i2
  if Desc.transform b = 2 then
    let turn := fun (bs : List Byte) =>
      (List.range m).flatMap fun i0 => (List.range n).flatMap fun i1 => sliceAt bs (e * (i1 * m + i0)) e
    ⟨(List.range n).flatMap fun i1 => srcRanges b (Desc.elemAt b a i1 i2) m, [(Desc.writeAt b first + e * r, e * k)],
      m * n * e, turn, e * r, false⟩
  else
    let turn := fun (bs : List Byte) =>
      (List.range n).flatMap fun i1 => (List.range m).flatMap fun i0 => sliceAt bs (e * (i0 * n + i1)) e
    let part := fun (i1 : Nat) =>
      let lo := max r (i1 * m)
      let hi := min (r + k) ((i1 + 1) * m)
      if lo < hi then dstRanges b (Desc.elemAt b (a + (lo - i1 * m)) i1 i2) (hi - lo) else []
    ⟨[(Desc.readAt b first, m * n * e)], (List.range n).flatMap part, m * n * e, turn, e * r, false⟩

/-- The next piece of a pass that has transferred `pos` elements, at most `k` of them. -/
def movePiece (s : State) (d : Nat) (b : List Byte) (pos k : Nat) : Moved :=
  let run := min k (Desc.count b 0 - pos % Desc.count b 0)
  let chunk := min k (512 / Desc.elem b)
  movePlan s d b (
    if Desc.transform b = 1 then planWinnow b pos run
    else if Desc.transform b ≥ 2 then planStage b pos k
    else if Desc.overlapping b then planChunk b (if Desc.descending b then Desc.total b - pos - chunk else pos) chunk
    else planRun b pos run)

/-- Elements that the accesses outstanding at a PAUSE or ABORT can still write: 32 bursts, what is staged, or one chunk (R428,
R431, R432). -/
def inFlight (s : State) (d : Nat) (b : List Byte) : Nat :=
  if Desc.transform b ≥ 2 then Desc.stage b * Desc.streams b
  else (if isFunnel s d || Desc.overlapping b then 512 else 16384) / Desc.elem b + (if Desc.transform b = 1 then Desc.block b else 0)

/-! ### Halting (R436) -/

/-- `DMA_CH_POS`: loop counters of the next element; past the last one they are free. -/
def latchPos (s : State) (d : Nat) : State :=
  let c := s.dmaCh d
  let b := c.desc
  if c.phase ≠ phData then s
  else if c.pos ≥ Desc.total b then
    let f := s.free 6
    (f.2.setReg .DMA_CH_POS_A d (word (leAt f.1 0 4))).setReg .DMA_CH_POS_B d (word (leAt f.1 4 2))
  else
    let n := if Desc.descending b then Desc.total b - 1 - c.pos else Desc.firstOpen b c.pos
    (s.setReg .DMA_CH_POS_A d (word (Desc.loopAt b n 1 * 2 ^ 16 + Desc.loopAt b n 0))).setReg .DMA_CH_POS_B d
      (word (Desc.loopAt b n 2))

/-- A non-OKAY response halts the channel. -/
def dmaHalt (s : State) (d phase : Nat) (e : DmaErr) : State :=
  let s := (s.setReg .DMA_CH_ERRADDR_LO d (word e.addr)).setReg .DMA_CH_ERRADDR_HI d (word (e.addr / 2 ^ 32))
  let s := s.setReg .DMA_CH_ERRINFO d (word (b2n e.write * 2 ^ 31 + e.resp * 2 ^ 29 + phase * 2 ^ 27))
  (setDState (latchPos s d) d dHalted).raise DMA_CH_EVT.HALTED d

/-! ### A pass -/

/-- HALF is raised once the first half of a cyclic pass has been answered (R434). -/
def noteHalf (s : State) (d : Nat) : State :=
  let c := s.dmaCh d
  if Desc.cyclic c.desc && !c.half && c.pos ≥ Desc.total c.desc / 2 then
    (s.setDmaCh d { c with half := true }).raise DMA_CH_EVT.HALF d
  else s

/-- Transfer until `upto` elements of the pass are done or an access fails: the position is then that of the first element whose
write has not been answered OKAY. -/
def dmaRun : Nat → State → Nat → Nat → State
  | 0, s, _, _ => s
  | fuel + 1, s, d, upto =>
    let s := noteHalf s d
    let c := s.dmaCh d
    if c.pos ≥ min upto (Desc.total c.desc) then s
    else
      let m := movePiece s d c.desc c.pos (min upto (Desc.total c.desc) - c.pos)
      match m.err with
      | none => dmaRun fuel (m.s.setDmaCh d { c with pos := c.pos + m.done }) d upto
      | some e =>
        dmaHalt (noteHalf (m.s.setDmaCh d { c with pos := c.pos + m.done }) d) d 0 e

/-- The channel moves data up to an element of the pass. -/
def dmaMove (s : State) (d upto : Nat) : State :=
  let c := s.dmaCh d
  dmaRun (min upto (Desc.total c.desc) - c.pos + 1) s d upto

/-! ### Completion (R433, R434, R437, R439) -/

/-- A descriptor ends: HEAD advances, it is counted, and after outcome 0 the next is fetched. -/
def dmaFinish (s : State) (d outcome : Nat) : State :=
  let c := s.dmaCh d
  let s := if Desc.irq c.desc && outcome ≤ 1 then s.raise DMA_CH_EVT.DONE d else s
  let s := s.setF DMA_CH_HEAD.INDEX d ((s.f DMA_CH_HEAD.INDEX d + 1) % ringLen s d)
  let s := (s.inc .DMA_DESC_DONE d).setDmaCh d DmaCh.reset
  let s := s.setF DMA_CH_STATUS.CYCLIC d 0
  let s := if outcome ≥ 2 then s.raise DMA_CH_EVT.ABORTED d else s
  if outcome = 0 then setDState s d dRunning else s.setReg .DMA_CH_STATUS d 0

/-- STATUS, then OWN_WORD = 0 but for a cyclic descriptor that software took back, then the end. A failed write halts. -/
def dmaComplete (s : State) (d : Nat) : State :=
  let c := s.dmaCh d
  let outcome := bitsOf c.status.toNat 29 2
  let s := s.setDmaCh d { c with phase := phDone }
  let a := headAddr s d
  let t := dmaWrite s (isFunnel s d) (a + 60) (leBytes 4 c.status.toNat)
  match t.2.1 with
  | some e => dmaHalt t.2.2 d 2 e
  | none =>
    if Desc.cyclic c.desc && outcome == 0 then dmaFinish t.2.2 d 0
    else
      let u := dmaWrite t.2.2 (isFunnel s d) a (zeros 4)
      match u.2.1 with
      | some e => dmaHalt u.2.2 d 2 e
      | none => dmaFinish u.2.2 d outcome

/-- Completion with a STATUS word. -/
def dmaCompleteWith (s : State) (d status : Nat) : State :=
  dmaComplete (s.setDmaCh d { s.dmaCh d with status := word status }) d

/-! ### Fetch (R433, R435) -/

/-- What a fetched descriptor makes the channel do. -/
def dmaTake (s : State) (d : Nat) (b : List Byte) : State :=
  let ring : Int × Int := (ringBase s d, ringBase s d + 64 * ringLen s d)
  let s := s.setDmaCh d ⟨b, phData, 0, false, 0x80000000, false⟩
  match Desc.refusal b ring with
  | some c =>
    let s := (recordRefusal s 0x04 0x61 d c).raise DMA_CH_EVT.REFUSED d
    dmaCompleteWith s d (0xA0000000 + c)
  | none => s.setB DMA_CH_STATUS.CYCLIC d (Desc.cyclic b)

/-- Fetch of the descriptor at HEAD; one found unowned is fetched once more when a doorbell has been latched. -/
def dmaFetch : Nat → State → Nat → State
  | 0, s, _ => s
  | fuel + 1, s, d =>
    let t := dmaRead s (isFunnel s d) (headAddr s d) 64
    match t.2.1 with
    | some e => dmaHalt t.2.2 d 1 e
    | none =>
      if Desc.own t.1 then dmaTake t.2.2 d t.1
      else if t.2.2.fb DMA_CH_STATUS.DB_LATCHED d then dmaFetch fuel (t.2.2.setF DMA_CH_STATUS.DB_LATCHED d 0) d
      else setDState t.2.2 d dWaiting

/-- OWN of the descriptor at HEAD read again. -/
def dmaReadOwn (s : State) (d : Nat) : Bool × Option DmaErr × State :=
  let t := dmaRead s (isFunnel s d) (headAddr s d) 4
  (Desc.own t.1, t.2.1, t.2.2)

/-! ### The events of a channel -/

def dmaFetchStep (s : State) (d : Nat) : State :=
  if dState s d = dRunning ∧ (s.dmaCh d).phase = phFetch then dmaFetch 2 s d else s

/-- The rest of a descriptor that is not cyclic, or the completion that was under way. -/
def dmaEndStep (s : State) (d : Nat) : State :=
  let c := s.dmaCh d
  if dState s d ≠ dRunning then s
  else if c.phase = phDone then dmaComplete s d
  else if c.phase = phData ∧ !Desc.cyclic c.desc then
    let t := dmaMove s d (Desc.total c.desc)
    if dState t d = dRunning then dmaCompleteWith t d 0x80000000 else t
  else s

/-- The end of a cyclic pass. -/
def dmaPassStep (s : State) (d : Nat) : State :=
  let c := s.dmaCh d
  if dState s d = dRunning ∧ c.phase = phData ∧ Desc.cyclic c.desc then
    let t := dmaMove s d (Desc.total c.desc)
    if dState t d ≠ dRunning then t
    else
      let t := t.raise DMA_CH_EVT.FULL d
      let u := dmaReadOwn t d
      match u.2.1 with
      | some e => dmaHalt (u.2.2.setDmaCh d { u.2.2.dmaCh d with phase := phFetch }) d 1 e
      | none =>
        if u.1 then u.2.2.setDmaCh d { u.2.2.dmaCh d with pos := 0, half := false }
        else dmaCompleteWith u.2.2 d 0x80000000
  else s

/-- The first half of a cyclic pass has been written. -/
def dmaHalfStep (s : State) (d : Nat) : State :=
  let c := s.dmaCh d
  if dState s d = dRunning ∧ c.phase = phData ∧ Desc.cyclic c.desc ∧ c.half = false then
    let t := dmaMove s d (Desc.total c.desc / 2)
    if dState t d = dRunning then noteHalf t d else t
  else s

/-- The descriptor of a channel ends by an ABORT after an error (R437). -/
def endsByError (c : DmaCh) : Bool := bitsOf c.status.toNat 29 2 == 2

/-- The next access of the channel that fails: what it does up to there. A pause under way is dropped (R440). -/
def dmaErrStep (s : State) (d : Nat) : State :=
  let c := s.dmaCh d
  let busy := dState s d = dRunning ∨ dState s d = dPausing
  let t :=
    if busy ∧ c.phase = phFetch then dmaFetch 2 s d
    else if (busy ∨ (dState s d = dAborting ∧ !c.idle ∧ !endsByError c)) ∧ c.phase = phData then dmaMove s d (Desc.total c.desc)
    else if busy ∧ c.phase = phDone then dmaComplete s d
    else s
  if dState t d = dHalted then t else s

/-- Up to `n` more elements are written, as far as accesses are outstanding, and the channel pauses. -/
def dmaPauseStep (s : State) (d n : Nat) : State :=
  if dState s d ≠ dPausing then s
  else
    let c := s.dmaCh d
    let t := if c.phase = phData then dmaMove s d (c.pos + min n (inFlight s d c.desc)) else s
    if dState t d = dPausing then (setDState (latchPos t d) d dPaused).raise DMA_CH_EVT.PAUSED d else t

/-- Up to `n` more elements are written, as far as accesses are outstanding: none after a pause or a halt. The channel ends its
descriptor; one that it does not own is left alone (R439). -/
def dmaAbortStep (s : State) (d n : Nat) : State :=
  if dState s d ≠ dAborting then s
  else
    let c := s.dmaCh d
    let byError := endsByError c
    let t := if c.phase = phData ∧ !byError ∧ !c.idle then dmaMove s d (c.pos + min n (inFlight s d c.desc)) else s
    if dState t d ≠ dAborting then t
    else
      let c := t.dmaCh d
      if c.phase = phFetch ∧ !byError then
        let u := dmaReadOwn t d
        match u.2.1 with
        | some e => dmaHalt u.2.2 d 1 e
        | none =>
          if u.1 then dmaComplete u.2.2 d
          else ((u.2.2.setDmaCh d DmaCh.reset).setReg .DMA_CH_STATUS d 0).raise DMA_CH_EVT.ABORTED d
      else dmaComplete t d

/-! ### The commands -/

def execDmaDescriptorFetch (d : Fin 64) (s : State) : Host.Outcome State Fault Refusal := .next (dmaFetchStep s d)
def execDmaDescriptorComplete (d : Fin 64) (s : State) : Host.Outcome State Fault Refusal := .next (dmaEndStep s d)
def execDmaPassEnd (d : Fin 64) (s : State) : Host.Outcome State Fault Refusal := .next (dmaPassStep s d)
def execDmaHalfPass (d : Fin 64) (s : State) : Host.Outcome State Fault Refusal := .next (dmaHalfStep s d)
def execDmaBusError (d : Fin 64) (s : State) : Host.Outcome State Fault Refusal := .next (dmaErrStep s d)

def execDmaPauseComplete (d : Fin 64) (n : Nat) (s : State) : Host.Outcome State Fault Refusal := .next (dmaPauseStep s d n)
def execDmaAbortComplete (d : Fin 64) (n : Nat) (s : State) : Host.Outcome State Fault Refusal := .next (dmaAbortStep s d n)

end Sys2Proof.Machine
end

