-- ==== Sys2Proof/Machine/EngIssue.lean ====
section
/-! DEFINITION. The crossbar port of an engine (R333), and the issue of a whole bundle with the cycles that it takes (R254–R256,
R264–R268, R291). -/

namespace Sys2Proof.Machine

/-! ### Crossbar port (R333) -/

/-- Crossbar master of a key or management engine. -/
def engXm (e : Nat) : XMaster :=
  match e with
  | 64 => .ke0 | 65 => .ke1 | 66 => .ke2 | 67 => .ke3 | 68 => .me0 | _ => .me1

/-- Words of a read, 64 bits each. -/
def busWords (l : List Byte) : List W64 := (List.range (l.length / 8)).map fun i => BitVec.ofNat 64 (leAt l (8 * i) 8)

/-- A SYNC marker has one crossbar write less to wait for (R305). -/
def Marker.written (m : Marker) : Marker := { m with x := m.x - 1 }

/-- The oldest request of an engine goes out: a write once its data are there, and any request only while fewer than 64 words
wait on XB_RD. A request of which nothing was performed returns its response word alone (DESIGN CHOICE, log 54). -/
def xbStep (s : State) (e : Nat) : State :=
  let x := s.eng e
  match x.xbCmd with
  | [] => s
  | c :: rest =>
    let w := bitAt c.toNat 63
    let beats := bitsOf c.toNat 48 4 + 1
    if x.xbRd.length ≥ xbRdDepth ∨ x.xbFeed ≠ [] ∨ (w ∧ x.xbWd.length < 4 * beats) then s
    else
      let data := if w then ((x.xbWd.take (4 * beats)).map fun v => leBytes 8 v.toNat).flatten else []
      let s := s.setEng e { x with xbCmd := rest, xbWd := if w then x.xbWd.drop (4 * beats) else x.xbWd,
                                   sync := if w then x.sync.map (·.written) else x.sync }
      let t := burst s { master := engXm e, write := w, addr := BitVec.ofNat 48 c.toNat, beats := beats, data := data,
                         enables := List.replicate (32 * beats) true }
      let words := if w ∨ t.2.1 = rDecErr ∨ t.2.1 = rTgtErr then [] else (busWords t.1).map fun v => (v, false)
      t.2.2.updEng e fun x => x.setXbRd (x.xbRd ++ words ++ [(BitVec.ofNat 64 t.2.1, true)])

/-- Every request of an engine that can go out does. -/
def xbPump (s : State) (e : Nat) : State := (List.range (s.eng e).xbCmd.length).foldl (fun s _ => xbStep s e) s

/-! ### Issue (R255, R264–R268) -/

/-- Banks that are busy in each cycle that a bundle takes: those of its accesses, one access to a bank after the other, then
none while a blocking unit runs. A CODE_WR takes its bank in the first of four further cycles, and fetch restarts in the second
(R317). -/
def busyCycles (i : Issue) : List (List Nat) :=
  let banks := i.run.banks.eraseDups
  if i.codeWr then [[0, 1, 2], [0, 1, 2], [], [], []]
  else
    let extra := banks.flatMap fun b => List.replicate (i.run.banks.count b - 1) [b]
    [banks] ++ extra ++ List.replicate (i.run.busy - 1) []

/-- Cycles and stall cycles of a bundle that issues. -/
def countIssue (s : State) (e : Nat) (i : Issue) (buffered : Bool) : State :=
  let c := i.run.conflicts
  let b := i.run.busy - 1
  let w := if i.codeWr then 4 else 0
  let s := ((s.inc .ENG_BUNDLES e).addCnt .ENG_STALL_BANK e c).addCnt .ENG_STALL_BLOCK e b
  let s := (s.addCnt .ENG_STALL_FETCH e w).addCnt .ENG_CYCLES e (1 + c + b + w)
  if buffered then s.inc .ENG_LOOPBUF e else s

/-- The bundle has issued: it leaves the queue with its last issue, fetch uses the cycles and those for which the path of a branch
is late, and the issue cycle ends. -/
def finishIssue (s0 : State) (e : Nat) (i : Issue) (buffered : Bool) : State :=
  let s := countIssue i.run.s e i buffered
  let s := if buffered || i.left ≠ 0 then s else s.updEng e fun x => { x with fetchQ := x.fetchQ.drop 1 }
  if i.reti then
    -- the return leaves from this bundle
    xbPump (doReti (s.updEng e fun x => { x with pc := (s0.eng e).pc }) e) e
  else
    let wait := (s0.eng e).br.any fun b => b.late && b.slots ≤ 1
    let s := fetchCycles s e (busyCycles i ++ (if wait then [[], [], []] else []))
    let s := if i.flush then s.updEng e fun x => { x with predEmpty := true } else s
    let late := (s.eng e).fly.any fun f => f.left ≤ 1 && f.eff == .poison
    let s := endCycle s e
    xbPump (if i.sleep && !late then goToSleep s e else s) e

/-- The bundle due, held by its 64 bytes, issues, stalls for a cycle, or raises an exception; `buffered` where it comes from the
loop buffer. -/
def issueLine (s : State) (e : Nat) (line : List Byte) (buffered : Bool) : State :=
  let i := issueRun s e line
  match i.run.stall, i.run.codes.min? with
  | some c, _ => fetchCycles ((stallCycle s e c |>.inc c e).inc .ENG_CYCLES e) e [[]]
  | none, some c => takeException s e c
  | none, none => finishIssue s e i buffered

/-- BUNDLE_ISSUE: the bundle due issues from the loop buffer or from the fetch queue; one fetched from an uncorrectable word
raises POISON_FETCH (R264, R265, R284). -/
def bundleIssue (s : State) (e : Nat) : State :=
  if engState s e ≠ engRunning ∨ (s.eng e).blocked.isSome then s
  else
    let s := dueLine s e
    let x := s.eng e
    match loopLine x, x.fetchQ with
    | some l, _ => issueLine s e l true
    | none, f :: _ => if f.bad then takeException s e excPoisonFetch else issueLine s e f.line false
    | none, [] => takeException s e excAddress

/-! ### The commands -/

def execBundleIssue (e : Fin 70) (s : State) : Host.Outcome State Fault Refusal := .next (bundleIssue s e)

def execXbCmd (e : Fin 70) (v : W64) (s : State) : Host.Outcome State Fault Refusal :=
  .next (xbPump (runMove s e fun r => opXbCmd r e v.toNat) e)

def execXbWd (e : Fin 70) (v : W64) (s : State) : Host.Outcome State Fault Refusal :=
  .next (xbPump (runMove s e fun r => opXbWd r e v.toNat) e)

def execXbRd (e : Fin 70) (g : Fin 64) (s : State) : Host.Outcome State Fault Refusal :=
  .next (xbPump (runMove s e fun r => toG e g (opXbRd r e)) e)

end Sys2Proof.Machine
end

