-- ==== Sys2Proof/Machine/HostTlp.lean ====
section
/-! DEFINITION. Memory requests of the host: the two windows, the MSI-X region, and how a TLP is split, performed and
answered (R532–R535). -/

namespace Sys2Proof.Machine

/-! ### The MSI-X table and the PBA (R531, R532) -/

def msixBase : Nat := 0x3FF0000
def pbaAt : Nat := 0x8000

/-- One 32-bit word of the MSI-X region; places beside the table and the PBA read as zero. -/
def msixWord (s : State) (o : Nat) : Nat :=
  if o < 1024 then
    let e := s.msixEnt (o / 16)
    match o / 4 % 4 with
    | 0 => bitsOf e.addr.toNat 0 32
    | 1 => bitsOf e.addr.toNat 32 32
    | 2 => e.data.toNat
    | _ => b2n e.masked
  else if o = pbaAt then bitsOf s.evc.pba 0 32
  else if o = pbaAt + 4 then bitsOf s.evc.pba 32 32
  else 0

/-- Write of one word of the table; the PBA is read only. -/
def msixPut (s : State) (o v : Nat) : State :=
  if o < 1024 then
    let e := s.msixEnt (o / 16)
    let x : MsixEnt := match o / 4 % 4 with
      | 0 => { e with addr := BitVec.ofNat 64 (putBits e.addr.toNat 0 32 v) }
      | 1 => { e with addr := BitVec.ofNat 64 (putBits e.addr.toNat 32 32 v) }
      | 2 => { e with data := word v }
      | _ => { e with masked := bitAt v 0 }
    s.setMsixEnt (o / 16) x
  else s

/-- The request lies in the MSI-X region, which the host interface holds. -/
def inMsix (bar2 : Bool) (off : Nat) : Bool := !bar2 && msixBase ≤ off

def msixRead (s : State) (r : XReq) : List Byte :=
  ((List.range (xLen r / 4)).map fun i => leBytes 4 (msixWord s (xBase r - msixBase + 4 * i))).flatten

/-- Enabled bytes replace those of the word; a message that waits is sent once its vector is open. -/
def msixWrite (s : State) (r : XReq) : State :=
  msixFlush ((List.range (xLen r / 4)).foldl (fun s i =>
    let en := bitsWhere 4 fun j => xEn r (4 * i + j)
    let o := xBase r - msixBase + 4 * i
    let old := msixWord s o
    let mask := byteMask en
    if en = 0 then s else msixPut s o ((old &&& (2 ^ 32 - 1 - mask)) ||| (leAt r.data (4 * i) 4 &&& mask))) s)

/-! ### Requests of a TLP (R533, R534) -/

/-- Crossbar address of an offset in a window. -/
def hostAddr (s : State) (bar2 : Bool) (off : Nat) : Nat :=
  if !bar2 then off
  else if off % 2 ^ 24 < 0x800000 then sramBase + off % 2 ^ 24
  else s.f GLB_BAR2_APER.BASE 0 * 0x800000 + (off % 2 ^ 24 - 0x800000)

/-- Bytes of a window that no request of it crosses: 32 in BAR0, 512 in BAR2, so that none crosses 4 KiB either. -/
def hostUnit (bar2 : Bool) : Nat := if bar2 then 512 else 32

def hostSize (bar2 : Bool) : Nat := if bar2 then 2 ^ 24 else 2 ^ 26

/-- Pieces of a TLP in ascending order: offset and length of each. A TLP of no bytes has one piece. -/
def hostPieces (bar2 : Bool) (off len : Nat) : List (Nat × Nat) :=
  let u := hostUnit bar2
  let first := off / u
  let last := (off + len - 1) / u
  ((List.range (last + 1 - first)).map fun i =>
    let a := max off ((first + i) * u)
    (a, min (off + len) ((first + i + 1) * u) - a)).filter fun p => p.1 < hostSize bar2

/-- The crossbar request of a piece: whole beats, with the bytes of the piece enabled as `en` says. -/
def hostReq (s : State) (bar2 write : Bool) (p : Nat × Nat) (data : List Byte) (en : List Bool) : XReq :=
  let a := hostAddr s bar2 p.1
  let pad := a % 32
  let beats := (pad + p.2 + 31) / 32
  { master := .host, write := write, addr := BitVec.ofNat 48 (a / 32 * 32), beats := beats,
    data := List.replicate pad 0 ++ data ++ List.replicate (32 * beats - pad - p.2) 0,
    enables := List.replicate pad false ++ en ++ List.replicate (32 * beats - pad - p.2) false }

/-- One request, by the host interface itself or over the crossbar. -/
def hostBurst (s : State) (bar2 : Bool) (off : Nat) (r : XReq) : List Byte × Nat × State :=
  if inMsix bar2 off then (if r.write then ([], rOkay, msixWrite s r) else (msixRead s r, rOkay, s))
  else burst s r

/-- A request answered other than OKAY is counted, and the first since the last clear is recorded (R534, R548). -/
def hostError (s : State) (bar2 write : Bool) (off resp : Nat) : State :=
  let s := (s.inc .GLB_HOST_ERRS 0).raise GLB_EVT.HOST_ERR 0
  if s.fb GLB_HOST_ERR.VALID 0 then s
  else
    let s := ((s.setF GLB_HOST_ERR.VALID 0 1).setB GLB_HOST_ERR.DIR 0 write).setF GLB_HOST_ERR.RESP 0 resp
    (s.setB GLB_HOST_ERRADDR.BAR 0 bar2).setF GLB_HOST_ERRADDR.OFFSET 0 off

/-- A piece performed, with its error recorded: data of the piece, response, state. -/
def hostPiece (s : State) (bar2 write : Bool) (p : Nat × Nat) (data : List Byte) (en : List Bool) :
    List Byte × Nat × State :=
  let r := hostReq s bar2 write p data en
  let t := hostBurst s bar2 p.1 r
  let got := ((t.1.drop (hostAddr s bar2 p.1 % 32)).take p.2)
  (got ++ zeros (p.2 - got.length), t.2.1, if t.2.1 = rOkay then t.2.2 else hostError t.2.2 bar2 write p.1 t.2.1)

/-- All pieces of a TLP in order: data, response of the first that fails, state. -/
def hostTlp (s : State) (bar2 write : Bool) (off : Nat) (data : List Byte) (en : List Bool) : List Byte × Nat × State :=
  (hostPieces bar2 off en.length).foldl (fun (t : List Byte × Nat × State) p =>
    let u := hostPiece t.2.2 bar2 write p ((data.drop (p.1 - off)).take p.2) ((en.drop (p.1 - off)).take p.2)
    (t.1 ++ u.1, firstBad t.2.1 u.2.1, u.2.2)) ([], rOkay, s)

/-- Bit of the AER uncorrectable-error registers for a response: Unsupported Request, Completer Abort, Poisoned TLP. Its place is
that of PCI Express (PRESUMED, log 103). -/
def aerBit (resp : Nat) : Nat := if resp = rDecErr then 20 else if resp = rTgtErr then 15 else 12

/-- AER records an error and reports it unless its mask bit is set (R531, R534). -/
def aerReport (s : State) (resp : Nat) : State :=
  let b := aerBit resp
  let t := { s with pcie := { s.pcie with aerStatus := s.pcie.aerStatus ||| BitVec.ofNat 32 (2 ^ b) } }
  if s.pcie.aerMask.toNat.testBit b then t else t.emit (.aer resp)

/-- A write TLP: what fails in it shows by AER. -/
def hostWrite (s : State) (bar2 : Bool) (off : Nat) (data : List Byte) (en : List Bool) : State :=
  if !s.fb GLB_PCIE_STATUS.LINK_UP 0 then s
  else
    let t := hostTlp s bar2 true off data ((List.range data.length).map fun i => en.getD i false)
    if t.2.1 = rOkay then t.2.2 else aerReport t.2.2 t.2.1

/-- A read TLP and its completion; one that an Unsupported Request or a Completer Abort answers carries no data. -/
def hostRead (s : State) (bar2 : Bool) (off len : Nat) : State :=
  if !s.fb GLB_PCIE_STATUS.LINK_UP 0 then s
  else
    let t := hostTlp s bar2 false off (zeros len) (List.replicate len true)
    t.2.2.emit (.completion (if t.2.1 = rDecErr ∨ t.2.1 = rTgtErr then [] else t.1) t.2.1)

/-! ### The commands -/

def execHostMemoryWrite (bar2 : Bool) (off : BitVec 26) (data : List Byte) (en : List Bool) (s : State) :
    Host.Outcome State Fault Refusal := .next (hostWrite s bar2 off.toNat data en)

def execHostMemoryRead (bar2 : Bool) (off : BitVec 26) (len : Nat) (s : State) : Host.Outcome State Fault Refusal :=
  .next (hostRead s bar2 off.toNat len)

end Sys2Proof.Machine
end

