-- ==== Sys2Proof/Machine/TwinAssoc.lean ====
section
/-! DEFINITION. The association of the twin agents: the messages of R182–R187 on a twin link, with the differences that R238
names. They go in clear, and no command resends them: an association that stays open at the next timer has failed
(log 34). -/

namespace Sys2Proof.Machine

/-- Partner that the TWIN pin names. -/
def twinPin (s : State) : Option Pin := s.silo.pins.find? (·.twin)

/-- Suites of an association: 0x0101 and 0x0102, as far as the policy allows them. -/
def twinSuites (s : State) : List Nat := (ownSuites s).filter fun x => x != 0x0031

/-- ROOT_LIFE of an association, in minutes. -/
def twinLife : Nat := 15

/-- A handshake message on twin link `k`. -/
def twinSay (s : State) (k : Nat) (m : List Byte) : State := s.emit (.twin k twinHandshake m m)

/-- Reason against the sender of a message: it must hold the TWIN pin (R238, check 4). A CHANGED pin bars nobody who holds it
(R212). -/
def twinSender (s : State) (m : List Byte) : Option Nat :=
  match twinPin s with
  | none => some hsNotEnrolled
  | some p => if p.node == hsSender m then none else if (s.pin (hsSender m)).isSome then some hsWrongPeer else some hsNotEnrolled

/-- Reason, known before any message, why no association can start here. -/
def assocBar (s : State) : Option Nat :=
  if (twinPin s).isNone then some hsNotEnrolled
  else if !s.silo.identity || !randomFor s helloDraws then some hsEntropy
  else if twinSuites s = [] then some hsNoSuite
  else none

/-- This member has the lower node ID, so it starts the association. -/
def twinStarts (s : State) : Bool := (twinPin s).any fun p => s.silo.node.toNat < p.node.toNat

/-- HELLO of an association: SENDER_CH, PARAMS and the first epochs are zero, and the labels are the node IDs. -/
def twinHello (s : State) : State :=
  match assocBar s, twinPin s with
  | none, some p =>
    let b := helloBuild s p.node
      ⟨true, 0, false, twinSuites s, zeros 8, nodeBytes s.silo.node, nodeBytes p.node, 0, 0, twinLife⟩
    twinSay (setTwinSess b.2 (some b.1)) (twinPath s) b.1.hello
  | r, _ => assocFail s (r.getD hsNotEnrolled)

/-- Reason with which an open session ends at the timer. -/
def assocTimeout (x : Session) : Nat :=
  if x.reason ≠ 0 then x.reason
  else if !x.initiator then hsNoAccept
  else if x.accept == [] then hsNoOffer
  else hsNoConfirm

/-- A HELLO that no OFFER of any kind answered: the next attempt takes the other link (R238; DESIGN CHOICE, log 34). -/
def noAnswer (s : State) (x : Session) : State :=
  if x.initiator && x.accept == [] && x.reason == 0 then { s with twin := { s.twin with skip0 := !s.twin.skip0 } } else s

/-- TWIN_REASSOCIATE_TIMER: a session still open has failed, and the member with the lower node ID begins again. -/
def execTwinReassociateTimer (s : State) : Host.Outcome State Fault Refusal :=
  .next (if s.fb TWN_CFG.EN 0 then
    let s := match s.twin.sess with | some x => noAnswer (assocFail s (assocTimeout x)) x | none => s
    if twinStarts s then twinHello s else s
  else s)

/-- Suite that the responder chooses. -/
def twinSuite (s : State) (m : List Byte) : Option Nat := (helloSuites m).find? fun x => (twinSuites s).contains x

/-- First of the checks 1, 2, 4, 7 and 8 of R181 that a HELLO fails. -/
def twinHelloReason (s : State) (m : List Byte) : Option Nat :=
  if !(hsFormed m 1 && hsReceiver m == s.silo.node && (twinSuite s m).all (helloValuesOk m)) then some hsFormat
  else if !versionUsable s (min 2 (hsVer m)) then some hsVersion
  else
    match twinSender s m with
    | some r => some r
    | none =>
      if (twinSuite s m).isNone || hsVer m < 2 then some hsNoSuite
      else if !randomFor s offerDraws then some hsEntropy
      else none

/-- A HELLO of the association is turned away. At check 4 R211 decides, with the TWIN pin for that of PEER_NODE: an unpinned node
in the partner's place makes the pin CHANGED. -/
def twinHelloRefuse (s : State) (m : List Byte) (r : Nat) : State :=
  match twinPin s with
  | some p =>
    if r = hsNotEnrolled ∧ p.node ≠ hsSender m then assocRefuse (markChanged s p.node) hsIdentityChanged else assocRefuse s r
  | none => assocRefuse s r

/-- A received HELLO; the member that starts associations itself answers none (R180). A repeated one is answered with its
OFFER (R194). -/
def twinHelloRx (s : State) (k : Nat) (m : List Byte) : State :=
  match (s.twin.sess.toList ++ s.twin.kept.toList).find? fun x => !x.initiator && x.hello == m with
  | some x => twinSay s k x.offer
  | none =>
    if twinStarts s then s
    else
      match twinHelloReason s m, twinSuite s m with
      | some r, _ => twinHelloRefuse s m r
      | none, none => assocRefuse s hsNoSuite
      | none, some suite =>
        let b := offerBuild s m ⟨true, 0, false, 2, suite, 0, 0, 0, twinLife⟩
        twinSay (setTwinSess b.2 (some b.1)) k b.1.offer

/-- A received OFFER. The mode in ATTEST is not held against it, since members in STANDBY associate too (DEDUCED,
log 93). -/
def twinOfferRx (s : State) (k : Nat) (m : List Byte) : State :=
  match s.twin.sess with
  | some x =>
    if x.initiator && x.id == hsSession m && x.accept == [] then
      let why := offerReasonFor s 0 (twinSender s m) (attestSvnOk s) x m
      let s := offerWork s .twin 0 x m why
      match why with
      | some r => assocReject s x r
      | none =>
        if randomFor s acceptDraws then
          let b := acceptBuild s .twin x m 0 (hsSender m)
          twinSay (setTwinSess b.2 (some b.1)) k b.1.accept
        else assocFail s hsEntropy
    else s
  | none => countReason s hsFormat

/-- Digests of the committed POLICY and PORTMAP sections (R237, R383). -/
def twinSections (s : State) : List Byte := s.sheaf.digests.getD 4 [] ++ s.sheaf.digests.getD 2 []

/-- The members may form a twin: the ATTEST tells the same ordering code, and the partner's committed
POLICY and PORTMAP are the module's own (R237, R383). How the partner's digests come is not said (log 34). -/
def assocClose (s : State) (k : Nat) (x : Session) (attest sec : List Byte) (act : Bool) : State :=
  if (byteAt attest 54).toNat ≠ s.variant ∨ sec ≠ twinSections s then assocFail s 0x6E
  else associated s k x.peer (sessionKeys x x.z).2.2 x.suite act

/-- A received ACCEPT: CONFIRM goes out, and the association is complete. -/
def twinAcceptRx (s : State) (k : Nat) (m : List Byte) (sec : List Byte) (act : Bool) : State :=
  match s.twin.kept.toList.find? fun x => x.accept == m with
  | some x => twinSay s k x.confirm
  | none =>
    match s.twin.sess with
    | some x =>
      if !x.initiator && x.id == hsSession m then
        let why := acceptReasonFor s (twinSender s m) (attestSvnOk s) x m
        let s := acceptWork s .twin 0 x m why
        match why with
        | some r => assocReject s x r
        | none =>
          let x := { x with accept := m }
          let s := keepDigest s (hsSender m) (sliceAt m 32 64)
          let confirm := confirmBuild s x m 0
          let s := twinSay { s with twin := { s.twin with kept := some (keptOf x confirm) } } k confirm
          assocClose s k x (sliceAt m 32 64) sec act
      else s
    | none => countReason s hsFormat

/-- A received CONFIRM: the association is complete. -/
def twinConfirmRx (s : State) (k : Nat) (m : List Byte) (sec : List Byte) (act : Bool) : State :=
  match s.twin.sess with
  | some x =>
    if x.initiator && x.id == hsSession m && x.accept != [] then
      if !hsFormed m 4 || hsReceiver m != s.silo.node || hsVer m != x.ver then assocReject s x hsFormat
      else
        match twinSender s m with
        | some r => assocReject s x r
        | none =>
          if macROk x m then assocClose s k x (sliceAt x.offer (offAttest x.ver) 64) sec act
          else assocReject s x hsMac
    else s
  | none => countReason s hsFormat

/-- A handshake message of the association. -/
def twinMessage (s : State) (k : Nat) (m : List Byte) (sec : List Byte) (act : Bool) : State :=
  if !s.fb TWN_CFG.EN 0 || !s.silo.identity then s
  else
    let s := if k = 0 then { s with twin := { s.twin with skip0 := false } } else s
    match hsType m with
    | 1 => twinHelloRx s k m
    | 2 => twinOfferRx s k m
    | 3 => twinAcceptRx s k m sec act
    | 4 => twinConfirmRx s k m sec act
    | _ => countReason s hsFormat

def execTwinAssociation (k : Fin 2) (msg : List Byte) (sec : List Byte) (act : Bool) (s : State) : Host.Outcome State Fault Refusal :=
  .next (twinMessage s k msg sec act)

end Sys2Proof.Machine
end

