-- ==== Sys2Proof/Machine/Dispatch.lean ====
section
/-! DEFINITION. One arm for each command. -/

namespace Sys2Proof.Machine

def exec (i : Instr) (s : State) : Host.Outcome State Fault Refusal :=
  match i with
  | .clientFrameRx p f note => Sys2Proof.Machine.execClientFrameRx p f note s
  | .pauseRepeat p => Sys2Proof.Machine.execPauseRepeat p s
  | .macControlFrameRx p f => Sys2Proof.Machine.execMacControlFrameRx p f s
  | .pauseQuantaExpiry p pri => Sys2Proof.Machine.execPauseQuantaExpiry p pri s
  | .transmitOpportunity p => Sys2Proof.Machine.execTransmitOpportunity p s
  | .egressSlotRetire c => Sys2Proof.Machine.execEgressSlotRetire c s
  | .reorderEmit p => Sys2Proof.Machine.execReorderEmit p s
  | .baleTimeout c => Sys2Proof.Machine.execBaleTimeout c s
  | .tfcSendInstant c => Sys2Proof.Machine.execTfcSendInstant c s
  | .lineFrameRx p f note => Sys2Proof.Machine.execLineFrameRx p f note s
  | .macsecFrameRx p f => Sys2Proof.Machine.execMacsecFrameRx p f s
  | .baleRx p f => Sys2Proof.Machine.execBaleRx p f s
  | .prevHoldExpiry c => Sys2Proof.Machine.execPrevHoldExpiry c s
  | .otnDescriptorRx p ix opuc => Sys2Proof.Machine.execOtnDescriptorRx p ix opuc s
  | .otnGroupRx p ix g => Sys2Proof.Machine.execOtnGroupRx p ix g s
  | .otnGroupTx p ix g => Sys2Proof.Machine.execOtnGroupTx p ix g s
  | .clientDelivery p => Sys2Proof.Machine.execClientDelivery p s
  | .contextCounterFlush c => Sys2Proof.Machine.execContextCounterFlush c s
  | .sliceWakeDone sl => Sys2Proof.Machine.execSliceWakeDone sl s
  | .keyEngineWake k => Sys2Proof.Machine.execKeyEngineWake k s
  | .pllLock pll => Sys2Proof.Machine.execPllLock pll s
  | .portProvision m v => Sys2Proof.Machine.execPortProvision m v s
  | .portDeprovision m v => Sys2Proof.Machine.execPortDeprovision m v s
  | .portLoopbackSet m v => Sys2Proof.Machine.execPortLoopbackSet m v s
  | .portCfgWrite m v => Sys2Proof.Machine.execPortCfgWrite m v s
  | .portLaneMapWrite m r v => Sys2Proof.Machine.execPortLaneMapWrite m r v s
  | .portFcWrite m v => Sys2Proof.Machine.execPortFcWrite m v s
  | .portThresholdWrite m r v => Sys2Proof.Machine.execPortThresholdWrite m r v s
  | .portTxeqWrite m ix v => Sys2Proof.Machine.execPortTxeqWrite m ix v s
  | .portCntClr m v => Sys2Proof.Machine.execPortCntClr m v s
  | .cdrLock p => Sys2Proof.Machine.execCdrLock p s
  | .rxAdaptationDone p => Sys2Proof.Machine.execRxAdaptationDone p s
  | .portAlignment p => Sys2Proof.Machine.execPortAlignment p s
  | .upHoldExpiry p => Sys2Proof.Machine.execUpHoldExpiry p s
  | .laneFailure p lane k => Sys2Proof.Machine.execLaneFailure p lane k s
  | .downHoldExpiry p => Sys2Proof.Machine.execDownHoldExpiry p s
  | .unmappedWindowAccess m b write => Sys2Proof.Machine.execUnmappedWindowAccess m b write s
  | .counterLoRead m a => Sys2Proof.Machine.execCounterLoRead m a s
  | .readClearAccess m a => Sys2Proof.Machine.execReadClearAccess m a s
  | .registerWrite m a v => Sys2Proof.Machine.execRegisterWrite m a v s
  | .sakStartTime c => Sys2Proof.Machine.execSakStartTime c s
  | .chKey m v => Sys2Proof.Machine.execChKey m v s
  | .chEnable m v => Sys2Proof.Machine.execChEnable m v s
  | .chDisable m v => Sys2Proof.Machine.execChDisable m v s
  | .chEpochNow m v => Sys2Proof.Machine.execChEpochNow m v s
  | .chRemap m v => Sys2Proof.Machine.execChRemap m v s
  | .chContextWrite m off v => Sys2Proof.Machine.execChContextWrite m off v s
  | .chCntClr m v => Sys2Proof.Machine.execChCntClr m v s
  | .channelDrainEnd c => Sys2Proof.Machine.execChannelDrainEnd c s
  | .epochKeyInstall c h => Sys2Proof.Machine.execEpochKeyInstall c h s
  | .rerootDue c => Sys2Proof.Machine.execRerootDue c s
  | .rootExpiry c => Sys2Proof.Machine.execRootExpiry c s
  | .hello p msg => Sys2Proof.Machine.execHello p msg s
  | .offer p msg => Sys2Proof.Machine.execOffer p msg s
  | .accept p msg => Sys2Proof.Machine.execAccept p msg s
  | .confirm p msg => Sys2Proof.Machine.execConfirm p msg s
  | .helloRetransmit c => Sys2Proof.Machine.execHelloRetransmit c s
  | .acceptRetransmit c => Sys2Proof.Machine.execAcceptRetransmit c s
  | .responderSessionExpiry c => Sys2Proof.Machine.execResponderSessionExpiry c s
  | .rerootRetry c => Sys2Proof.Machine.execRerootRetry c s
  | .jobRes e v => Sys2Proof.Machine.execJobRes e v s
  | .entropySrcFail ix raw => Sys2Proof.Machine.execEntropySrcFail ix raw s
  | .drbgReseedDue ix => Sys2Proof.Machine.execDrbgReseedDue ix s
  | .titheFrameTx l => Sys2Proof.Machine.execTitheFrameTx l s
  | .titheFrameRx l f => Sys2Proof.Machine.execTitheFrameRx l f s
  | .titheReassemblyTimeout l src id => Sys2Proof.Machine.execTitheReassemblyTimeout l src id s
  | .fabricMessageRx l cls lk msg => Sys2Proof.Machine.execFabricMessageRx l cls lk msg s
  | .nhello l node addr ver num => Sys2Proof.Machine.execNhello l node addr ver num s
  | .lsa l node addr seq nbrs => Sys2Proof.Machine.execLsa l node addr seq nbrs s
  | .lsaAck l node seq => Sys2Proof.Machine.execLsaAck l node seq s
  | .addrReq l node pref => Sys2Proof.Machine.execAddrReq l node pref s
  | .addrGrant l node addr => Sys2Proof.Machine.execAddrGrant l node addr s
  | .kill l orig body => Sys2Proof.Machine.execKill l orig body s
  | .killAck l orig seq result => Sys2Proof.Machine.execKillAck l orig seq result s
  | .alarm l orig seq code subject ch => Sys2Proof.Machine.execAlarm l orig seq code subject ch s
  | .nhelloTimer => Sys2Proof.Machine.execNhelloTimer s
  | .neighbourTimeout l => Sys2Proof.Machine.execNeighbourTimeout l s
  | .addrReqTimer => Sys2Proof.Machine.execAddrReqTimer s
  | .lsaRefresh => Sys2Proof.Machine.execLsaRefresh s
  | .lsaRetransmit l node => Sys2Proof.Machine.execLsaRetransmit l node s
  | .lsaExpiry node => Sys2Proof.Machine.execLsaExpiry node s
  | .fabricKeyPrevExpiry => Sys2Proof.Machine.execFabricKeyPrevExpiry s
  | .fabRouteWrite m a v => Sys2Proof.Machine.execFabRouteWrite m a v s
  | .fabCfgWrite m v => Sys2Proof.Machine.execFabCfgWrite m v s
  | .fabKill m v => Sys2Proof.Machine.execFabKill m v s
  | .killRepeat c => Sys2Proof.Machine.execKillRepeat c s
  | .killTimeout c => Sys2Proof.Machine.execKillTimeout c s
  | .twnCfgWrite m v => Sys2Proof.Machine.execTwnCfgWrite m v s
  | .handover m v => Sys2Proof.Machine.execHandover m v s
  | .takeover m v => Sys2Proof.Machine.execTakeover m v s
  | .twinAssociation k msg sec act => Sys2Proof.Machine.execTwinAssociation k msg sec act s
  | .twinReassociateTimer => Sys2Proof.Machine.execTwinReassociateTimer s
  | .twinHeartbeat => Sys2Proof.Machine.execTwinHeartbeat s
  | .twinLinkTimeout k => Sys2Proof.Machine.execTwinLinkTimeout k s
  | .split => Sys2Proof.Machine.execSplit s
  | .relinquish k frame => Sys2Proof.Machine.execRelinquish k frame s
  | .takeoverForcedSwitch c => Sys2Proof.Machine.execTakeoverForcedSwitch c s
  | .mirrorRecord k frame r => Sys2Proof.Machine.execMirrorRecord k frame r s
  | .mirrorAck k frame a => Sys2Proof.Machine.execMirrorAck k frame a s
  | .fullMirrorDone => Sys2Proof.Machine.execFullMirrorDone s
  | .partnerDeadInput => Sys2Proof.Machine.execPartnerDeadInput s
  | .bundleIssue e => Sys2Proof.Machine.execBundleIssue e s
  | .unitResultLand e => Sys2Proof.Machine.execUnitResultLand e s
  | .blockingOpDone e => Sys2Proof.Machine.execBlockingOpDone e s
  | .interruptAccept e => Sys2Proof.Machine.execInterruptAccept e s
  | .exception e code => Sys2Proof.Machine.execException e code s
  | .engineReset m v => Sys2Proof.Machine.execEngineReset m v s
  | .engineResetDone e => Sys2Proof.Machine.execEngineResetDone e s
  | .engCntClr m v => Sys2Proof.Machine.execEngCntClr m v s
  | .engineTimerExpiry e => Sys2Proof.Machine.execEngineTimerExpiry e s
  | .jump e t => Sys2Proof.Machine.execJump e t s
  | .call e t => Sys2Proof.Machine.execCall e t s
  | .ret e => Sys2Proof.Machine.execRet e s
  | .reti e => Sys2Proof.Machine.execReti e s
  | .codeWr e t => Sys2Proof.Machine.execCodeWr e t s
  | .syncPush e => Sys2Proof.Machine.execSyncPush e s
  | .syncPop e g => Sys2Proof.Machine.execSyncPop e g s
  | .wait e => Sys2Proof.Machine.execWait e s
  | .engineWake e line => Sys2Proof.Machine.execEngineWake e line s
  | .rpt e v => Sys2Proof.Machine.execRpt e v s
  | .predFlush e => Sys2Proof.Machine.execPredFlush e s
  | .predBar e => Sys2Proof.Machine.execPredBar e s
  | .trap e => Sys2Proof.Machine.execTrap e s
  | .nopredWrite e v => Sys2Proof.Machine.execNopredWrite e v s
  | .dbSend e v => Sys2Proof.Machine.execDbSend e v s
  | .doorbellRead e g => Sys2Proof.Machine.execDoorbellRead e g s
  | .ld e bk a => Sys2Proof.Machine.execLd e bk a s
  | .st e bk v => Sys2Proof.Machine.execSt e bk v s
  | .storeBufferDrain e bk => Sys2Proof.Machine.execStoreBufferDrain e bk s
  | .lr e a => Sys2Proof.Machine.execLr e a s
  | .sc e v => Sys2Proof.Machine.execSc e v s
  | .add e ix fm t => Sys2Proof.Machine.execAdd e ix fm t s
  | .sub e ix fm t => Sys2Proof.Machine.execSub e ix fm t s
  | .adds e ix fm t => Sys2Proof.Machine.execAdds e ix fm t s
  | .subs e ix fm t => Sys2Proof.Machine.execSubs e ix fm t s
  | .addus e ix fm t => Sys2Proof.Machine.execAddus e ix fm t s
  | .subus e ix fm t => Sys2Proof.Machine.execSubus e ix fm t s
  | .neg e ix fm t => Sys2Proof.Machine.execNeg e ix fm t s
  | .negs e ix fm t => Sys2Proof.Machine.execNegs e ix fm t s
  | .abs e ix fm t => Sys2Proof.Machine.execAbs e ix fm t s
  | .abss e ix fm t => Sys2Proof.Machine.execAbss e ix fm t s
  | .min e ix fm t => Sys2Proof.Machine.execMin e ix fm t s
  | .max e ix fm t => Sys2Proof.Machine.execMax e ix fm t s
  | .minu e ix fm t => Sys2Proof.Machine.execMinu e ix fm t s
  | .maxu e ix fm t => Sys2Proof.Machine.execMaxu e ix fm t s
  | .and e ix t => Sys2Proof.Machine.execAnd e ix t s
  | .or e ix t => Sys2Proof.Machine.execOr e ix t s
  | .xor e ix t => Sys2Proof.Machine.execXor e ix t s
  | .andn e ix t => Sys2Proof.Machine.execAndn e ix t s
  | .not e ix t => Sys2Proof.Machine.execNot e ix t s
  | .pass e ix t => Sys2Proof.Machine.execPass e ix t s
  | .clz e ix fm t => Sys2Proof.Machine.execClz e ix fm t s
  | .popc e ix fm t => Sys2Proof.Machine.execPopc e ix fm t s
  | .bswap e ix fm t => Sys2Proof.Machine.execBswap e ix fm t s
  | .shl e ix fm t => Sys2Proof.Machine.execShl e ix fm t s
  | .shr e ix fm t => Sys2Proof.Machine.execShr e ix fm t s
  | .sar e ix fm t => Sys2Proof.Machine.execSar e ix fm t s
  | .rol e ix fm t => Sys2Proof.Machine.execRol e ix fm t s
  | .ror e ix fm t => Sys2Proof.Machine.execRor e ix fm t s
  | .cmpEq e ix fm t => Sys2Proof.Machine.execCmpEq e ix fm t s
  | .cmpNe e ix fm t => Sys2Proof.Machine.execCmpNe e ix fm t s
  | .cmpLt e ix fm t => Sys2Proof.Machine.execCmpLt e ix fm t s
  | .cmpLe e ix fm t => Sys2Proof.Machine.execCmpLe e ix fm t s
  | .cmpLtu e ix fm t => Sys2Proof.Machine.execCmpLtu e ix fm t s
  | .cmpLeu e ix fm t => Sys2Proof.Machine.execCmpLeu e ix fm t s
  | .btst e ix fm t => Sys2Proof.Machine.execBtst e ix fm t s
  | .mul e ix t => Sys2Proof.Machine.execMul e ix t s
  | .muls e ix t => Sys2Proof.Machine.execMuls e ix t s
  | .mulh e ix t => Sys2Proof.Machine.execMulh e ix t s
  | .mulhu e ix t => Sys2Proof.Machine.execMulhu e ix t s
  | .mulw e ix t => Sys2Proof.Machine.execMulw e ix t s
  | .mulwu e ix t => Sys2Proof.Machine.execMulwu e ix t s
  | .div e fm t => Sys2Proof.Machine.execDiv e fm t s
  | .divu e fm t => Sys2Proof.Machine.execDivu e fm t s
  | .divs e fm t => Sys2Proof.Machine.execDivs e fm t s
  | .kld128 e ix t => Sys2Proof.Machine.execKld128 e ix t s
  | .kld256 e ix t => Sys2Proof.Machine.execKld256 e ix t s
  | .enc128 e ix t => Sys2Proof.Machine.execEnc128 e ix t s
  | .enc256 e ix t => Sys2Proof.Machine.execEnc256 e ix t s
  | .dec128 e ix t => Sys2Proof.Machine.execDec128 e ix t s
  | .dec256 e ix t => Sys2Proof.Machine.execDec256 e ix t s
  | .ctr128 e ix t => Sys2Proof.Machine.execCtr128 e ix t s
  | .ctr256 e ix t => Sys2Proof.Machine.execCtr256 e ix t s
  | .hset e ix t => Sys2Proof.Machine.execHset e ix t s
  | .gacc e ix j t => Sys2Proof.Machine.execGacc e ix j t s
  | .gclr e ix j => Sys2Proof.Machine.execGclr e ix j s
  | .crcInit e ix => Sys2Proof.Machine.execCrcInit e ix s
  | .crcFeed e ix n t => Sys2Proof.Machine.execCrcFeed e ix n t s
  | .crd e t => Sys2Proof.Machine.execCrd e t s
  | .hashLookup e t => Sys2Proof.Machine.execHashLookup e t s
  | .complicationTrigger e k op t => Sys2Proof.Machine.execComplicationTrigger e k op t s
  | .inDesc e g => Sys2Proof.Machine.execInDesc e g s
  | .inData e g => Sys2Proof.Machine.execInData e g s
  | .outDesc e v => Sys2Proof.Machine.execOutDesc e v s
  | .outData e v => Sys2Proof.Machine.execOutData e v s
  | .ctxWb e v => Sys2Proof.Machine.execCtxWb e v s
  | .job e g => Sys2Proof.Machine.execJob e g s
  | .xbCmd e v => Sys2Proof.Machine.execXbCmd e v s
  | .xbWd e v => Sys2Proof.Machine.execXbWd e v s
  | .xbRd e g => Sys2Proof.Machine.execXbRd e g s
  | .macClr e ix ctl => Sys2Proof.Machine.execMacClr e ix ctl s
  | .macMac e ix ctl => Sys2Proof.Machine.execMacMac e ix ctl s
  | .macMsu e ix ctl => Sys2Proof.Machine.execMacMsu e ix ctl s
  | .macMul e ix ctl => Sys2Proof.Machine.execMacMul e ix ctl s
  | .macAddx e ix ctl => Sys2Proof.Machine.execMacAddx e ix ctl s
  | .macLdx e ix ctl => Sys2Proof.Machine.execMacLdx e ix ctl s
  | .macStz e ix ctl => Sys2Proof.Machine.execMacStz e ix ctl s
  | .macStr e ix ctl => Sys2Proof.Machine.execMacStr e ix ctl s
  | .macStzr e ix ctl => Sys2Proof.Machine.execMacStzr e ix ctl s
  | .macRda e ix ctl => Sys2Proof.Machine.execMacRda e ix ctl s
  | .macWra e ix ctl => Sys2Proof.Machine.execMacWra e ix ctl s
  | .macClrf e ix ctl => Sys2Proof.Machine.execMacClrf e ix ctl s
  | .butterflyCt e ix ctl => Sys2Proof.Machine.execButterflyCt e ix ctl s
  | .butterflyGs e ix ctl => Sys2Proof.Machine.execButterflyGs e ix ctl s
  | .kf e a => Sys2Proof.Machine.execKf e a s
  | .mmp e a => Sys2Proof.Machine.execMmp e a s
  | .mmn e a => Sys2Proof.Machine.execMmn e a s
  | .comp e a => Sys2Proof.Machine.execComp e a s
  | .samplerInit e => Sys2Proof.Machine.execSamplerInit e s
  | .samplerStep e => Sys2Proof.Machine.execSamplerStep e s
  | .drbgSeed e a => Sys2Proof.Machine.execDrbgSeed e a s
  | .drbgGen e => Sys2Proof.Machine.execDrbgGen e s
  | .drbgEnd e => Sys2Proof.Machine.execDrbgEnd e s
  | .eccWriteback k word => Sys2Proof.Machine.execEccWriteback k word s
  | .scrubPass k => Sys2Proof.Machine.execScrubPass k s
  | .scrubNow m v => Sys2Proof.Machine.execScrubNow m v s
  | .candidateEntryExpiry k word => Sys2Proof.Machine.execCandidateEntryExpiry k word s
  | .retire m v => Sys2Proof.Machine.execRetire m v s
  | .pageRetired h page => Sys2Proof.Machine.execPageRetired h page s
  | .memCfgWrite m v => Sys2Proof.Machine.execMemCfgWrite m v s
  | .memFlipmaskArm m v => Sys2Proof.Machine.execMemFlipmaskArm m v s
  | .pop m v => Sys2Proof.Machine.execPop m v s
  | .feClr m v => Sys2Proof.Machine.execFeClr m v s
  | .memCntClr m v => Sys2Proof.Machine.execMemCntClr m v s
  | .lostClear m v => Sys2Proof.Machine.execLostClear m v s
  | .zeroiseOverwriteDone k => Sys2Proof.Machine.execZeroiseOverwriteDone k s
  | .crossbarRequest r => Sys2Proof.Machine.execCrossbarRequest r s
  | .crossbarGrant t waiting => Sys2Proof.Machine.execCrossbarGrant t waiting s
  | .start m v => Sys2Proof.Machine.execStart m v s
  | .pause m v => Sys2Proof.Machine.execPause m v s
  | .resume m v => Sys2Proof.Machine.execResume m v s
  | .abort m v => Sys2Proof.Machine.execAbort m v s
  | .dmaChDoorbell m v => Sys2Proof.Machine.execDmaChDoorbell m v s
  | .dmaRingConfigWrite m r v => Sys2Proof.Machine.execDmaRingConfigWrite m r v s
  | .dmaDescriptorFetch d => Sys2Proof.Machine.execDmaDescriptorFetch d s
  | .dmaDescriptorComplete d => Sys2Proof.Machine.execDmaDescriptorComplete d s
  | .dmaPassEnd d => Sys2Proof.Machine.execDmaPassEnd d s
  | .dmaHalfPass d => Sys2Proof.Machine.execDmaHalfPass d s
  | .dmaBusError d => Sys2Proof.Machine.execDmaBusError d s
  | .dmaPauseComplete d n => Sys2Proof.Machine.execDmaPauseComplete d n s
  | .dmaAbortComplete d n => Sys2Proof.Machine.execDmaAbortComplete d n s
  | .eventFire n => Sys2Proof.Machine.execEventFire n s
  | .levelSourceDeassert n => Sys2Proof.Machine.execLevelSourceDeassert n s
  | .evcSet m v => Sys2Proof.Machine.execEvcSet m v s
  | .coalesceTimeExpiry g => Sys2Proof.Machine.execCoalesceTimeExpiry g s
  | .evtClaim e g => Sys2Proof.Machine.execEvtClaim e g s
  | .evcHclaim m v => Sys2Proof.Machine.execEvcHclaim m v s
  | .evtDone e v => Sys2Proof.Machine.execEvtDone e v s
  | .evcHcomplete m v => Sys2Proof.Machine.execEvcHcomplete m v s
  | .stormWindowExpiry n => Sys2Proof.Machine.execStormWindowExpiry n s
  | .targetIneligible t => Sys2Proof.Machine.execTargetIneligible t s
  | .externalInputChange ix level => Sys2Proof.Machine.execExternalInputChange ix level s
  | .wakeLatched => Sys2Proof.Machine.execWakeLatched s
  | .evcSrcCfgWrite m n v => Sys2Proof.Machine.execEvcSrcCfgWrite m n v s
  | .evcGrpWrite m g v => Sys2Proof.Machine.execEvcGrpWrite m g v s
  | .evcCtlWrite m v => Sys2Proof.Machine.execEvcCtlWrite m v s
  | .evcInCfgWrite m ix v => Sys2Proof.Machine.execEvcInCfgWrite m ix v s
  | .feedLost f volt => Sys2Proof.Machine.execFeedLost f volt s
  | .feedRestored f volt => Sys2Proof.Machine.execFeedRestored f volt s
  | .overvolt f volt => Sys2Proof.Machine.execOvervolt f volt s
  | .holdup va vb => Sys2Proof.Machine.execHoldup va vb s
  | .shutdown => Sys2Proof.Machine.execShutdown s
  | .bakReady mv vbak => Sys2Proof.Machine.execBakReady mv vbak s
  | .bakLow mv vbak => Sys2Proof.Machine.execBakLow mv vbak s
  | .refclkLost r => Sys2Proof.Machine.execRefclkLost r s
  | .refclkRecovered => Sys2Proof.Machine.execRefclkRecovered s
  | .pllUnlock pll => Sys2Proof.Machine.execPllUnlock pll s
  | .clkSscWrite m v => Sys2Proof.Machine.execClkSscWrite m v s
  | .pwrCheckedWrite m r v => Sys2Proof.Machine.execPwrCheckedWrite m r v s
  | .modeReqOperational m => Sys2Proof.Machine.execModeReqOperational m s
  | .modeReqMaintenance m => Sys2Proof.Machine.execModeReqMaintenance m s
  | .modeReqDrain m => Sys2Proof.Machine.execModeReqDrain m s
  | .modeReqEscapement m => Sys2Proof.Machine.execModeReqEscapement m s
  | .drainModeComplete => Sys2Proof.Machine.execDrainModeComplete s
  | .coldStart => Sys2Proof.Machine.execColdStart s
  | .escapementWake w => Sys2Proof.Machine.execEscapementWake w s
  | .wakeTimerExpiry => Sys2Proof.Machine.execWakeTimerExpiry s
  | .selftestDone ok raw => Sys2Proof.Machine.execSelftestDone ok raw s
  | .load a b => Sys2Proof.Machine.execLoad a b s
  | .modResetN => Sys2Proof.Machine.execModResetN s
  | .glbReset m v => Sys2Proof.Machine.execGlbReset m v s
  | .pcieReset k => Sys2Proof.Machine.execPcieReset k s
  | .pcieLinkTrainingDone speed width => Sys2Proof.Machine.execPcieLinkTrainingDone speed width s
  | .tamperTrip t => Sys2Proof.Machine.execTamperTrip t s
  | .tamperTripDormant t => Sys2Proof.Machine.execTamperTripDormant t s
  | .fatalFault f => Sys2Proof.Machine.execFatalFault f s
  | .enrol m req => Sys2Proof.Machine.execEnrol m req s
  | .domainUpdate m req => Sys2Proof.Machine.execDomainUpdate m req s
  | .peerAdmit m req => Sys2Proof.Machine.execPeerAdmit m req s
  | .peerRemove m req => Sys2Proof.Machine.execPeerRemove m req s
  | .peerDismiss m req => Sys2Proof.Machine.execPeerDismiss m req s
  | .fabricKey m req => Sys2Proof.Machine.execFabricKey m req s
  | .sakImport m req => Sys2Proof.Machine.execSakImport m req s
  | .authorise m req => Sys2Proof.Machine.execAuthorise m req s
  | .authoriseExpiry ix => Sys2Proof.Machine.execAuthoriseExpiry ix s
  | .tamperCfg m req => Sys2Proof.Machine.execTamperCfg m req s
  | .acknowledge m req => Sys2Proof.Machine.execAcknowledge m req s
  | .retireRecord m req => Sys2Proof.Machine.execRetireRecord m req s
  | .getCert m => Sys2Proof.Machine.execGetCert m s
  | .quote m req => Sys2Proof.Machine.execQuote m req s
  | .getImportKey m => Sys2Proof.Machine.execGetImportKey m s
  | .importKeyExpiry id => Sys2Proof.Machine.execImportKeyExpiry id s
  | .readDomain m => Sys2Proof.Machine.execReadDomain m s
  | .readPin m req => Sys2Proof.Machine.execReadPin m req s
  | .readLog m req => Sys2Proof.Machine.execReadLog m req s
  | .verify m v => Sys2Proof.Machine.execVerify m v s
  | .activate m v => Sys2Proof.Machine.execActivate m v s
  | .stage m v => Sys2Proof.Machine.execStage m v s
  | .shfOpDone r => Sys2Proof.Machine.execShfOpDone r s
  | .drain m v => Sys2Proof.Machine.execDrain m v s
  | .sliceDrained sl => Sys2Proof.Machine.execSliceDrained sl s
  | .undrain m v => Sys2Proof.Machine.execUndrain m v s
  | .update m v => Sys2Proof.Machine.execUpdate m v s
  | .revert m v => Sys2Proof.Machine.execRevert m v s
  | .updateDone sl => Sys2Proof.Machine.execUpdateDone sl s
  | .promote m v => Sys2Proof.Machine.execPromote m v s
  | .abandon m v => Sys2Proof.Machine.execAbandon m v s
  | .erase m v => Sys2Proof.Machine.execErase m v s
  | .program m v => Sys2Proof.Machine.execProgram m v s
  | .read m v => Sys2Proof.Machine.execRead m v s
  | .flashDone ok => Sys2Proof.Machine.execFlashDone ok s
  | .complicationRegionLoaded r => Sys2Proof.Machine.execComplicationRegionLoaded r s
  | .hourglassUpdate rails => Sys2Proof.Machine.execHourglassUpdate rails s
  | .hourglassHourly osc esr => Sys2Proof.Machine.execHourglassHourly osc esr s
  | .supercapMeasurement capUF esrMOhm => Sys2Proof.Machine.execSupercapMeasurement capUF esrMOhm s
  | .hlthPredWrite m ix v => Sys2Proof.Machine.execHlthPredWrite m ix v s
  | .predictionStale ix => Sys2Proof.Machine.execPredictionStale ix s
  | .temperatureSample t => Sys2Proof.Machine.execTemperatureSample t s
  | .eyeMeasurement lane vert horiz => Sys2Proof.Machine.execEyeMeasurement lane vert horiz s
  | .i3cPrivateWrite dest data => Sys2Proof.Machine.execI3cPrivateWrite dest data s
  | .i3cPrivateRead dest n => Sys2Proof.Machine.execI3cPrivateRead dest n s
  | .i3cAddressAssignment setdasa a => Sys2Proof.Machine.execI3cAddressAssignment setdasa a s
  | .hostMemoryWrite bar2 off data en => Sys2Proof.Machine.execHostMemoryWrite bar2 off data en s
  | .hostMemoryRead bar2 off len => Sys2Proof.Machine.execHostMemoryRead bar2 off len s
  | .glbIfverSelWrite m v => Sys2Proof.Machine.execGlbIfverSelWrite m v s
  | .glbBar2AperWrite m v => Sys2Proof.Machine.execGlbBar2AperWrite m v s
  | .gpioWrite m r v => Sys2Proof.Machine.execGpioWrite m r v s
  | .rly1Write m v => Sys2Proof.Machine.execRly1Write m v s
  | .todMessage txt => Sys2Proof.Machine.execTodMessage txt s
  | .ppsInEdge => Sys2Proof.Machine.execPpsInEdge s
  | .ppsLost => Sys2Proof.Machine.execPpsLost s
  | .ppsOutSecond => Sys2Proof.Machine.execPpsOutSecond s
  | .todTx => Sys2Proof.Machine.execTodTx s
  | .glbRtcSetHi m v => Sys2Proof.Machine.execGlbRtcSetHi m v s
  | .lrReservationTimeout e => Sys2Proof.Machine.execLrReservationTimeout e s
  | .complicationFault e k integrity => Sys2Proof.Machine.execComplicationFault e k integrity s
  | .memorySoftError x => Sys2Proof.Machine.execMemorySoftError x s
  | .refclkPresent r => Sys2Proof.Machine.execRefclkPresent r s
  | .configurationRequest q => Sys2Proof.Machine.execConfigurationRequest q s
  | .pcieLinkDown => Sys2Proof.Machine.execPcieLinkDown s
  | .debugPortConnection connect => Sys2Proof.Machine.execDebugPortConnection connect s
  | .faultOrderedSetsRx p lf rf => Sys2Proof.Machine.execFaultOrderedSetsRx p lf rf s

end Sys2Proof.Machine
end

