-- ==== Sys2Proof/Machine/Time.lean ====
section
/-! DEFINITION. What passes while no command waits. -/

namespace Sys2Proof.Machine

/-- One microsecond of the real-time clock: it counts, or, while it runs ahead of the corrected time, every second one
(R477, R545). -/
def countUs (s : State) : State :=
  if s.tod.ahead = 0 then { s with rtc := s.rtc + 1 }
  else if s.tod.skip then { s with tod := { s.tod with ahead := s.tod.ahead - 1, skip := false } }
  else { s with rtc := s.rtc + 1, tod := { s.tod with skip := true } }

/-- The real-time clock advances: by one microsecond, and in DORMANT and ESCAPEMENT by a tick of 30.5 µs, which are 30 and 31 in
turn (R477). -/
def countTime (s : State) : State :=
  if s.mode = modeDormant ∨ s.mode = modeEscapement then
    let n := if s.tod.half then 31 else 30
    (List.range n).foldl (fun s _ => countUs s) { s with tod := { s.tod with half := !s.tod.half } }
  else countUs s

/-- Time passes (DESIGN CHOICE, log 1): the real-time clock counts, and a mode transition that runs ends (R483). -/
def idle (s : State) : State := endTransition (countTime s)

end Sys2Proof.Machine
end

