-- ==== Sys2Proof/Safety.lean ====
section
/-! DEFINITION. What counts as a safe run, and the terms in which claims are made: what a command leaves as it was, and
the conditions under which the units of the module work. -/

namespace Sys2Proof.Machine

/-- A step that the machine survives: it answers a next state. -/
def State.safe (s : State) : Prop := ∃ t, step s = .next t

/-! ### What is left as it was -/

/-- Registers outside a list hold what they held. -/
def keepsRegs (s t : State) (l : List (Reg × Nat)) : Prop := ∀ r i, (r, i) ∉ l → t.reg r i = s.reg r i

/-- Counters outside a list hold what they held. -/
def keepsCnts (s t : State) (l : List (Ctr × Nat)) : Prop := ∀ c i, (c, i) ∉ l → t.cnt c i = s.cnt c i

/-- Nothing but registers and counters differs, and of them only those listed. -/
def onlyRegs (s t : State) (rs : List (Reg × Nat)) (cs : List (Ctr × Nat)) : Prop :=
  t = { s with regs := t.regs, cnts := t.cnts } ∧ keepsRegs s t rs ∧ keepsCnts s t cs

/-- Nothing but one engine differs. -/
def onlyEng (s t : State) (e : Nat) : Prop := t = { s with engs := t.engs } ∧ ∀ k, k ≠ e → t.eng k = s.eng k

/-- Nothing but one channel's tables, its context and counters, and the registers listed differ. -/
def onlyChan (s t : State) (c : Nat) (rs : List (Reg × Nat)) : Prop :=
  t = { s with regs := t.regs, chans := t.chans, cntPend := t.cntPend, rams := t.rams, errs := t.errs, valid := t.valid } ∧
  keepsRegs s t rs ∧ ∀ k, k ≠ c → t.chan k = s.chan k

/-! ### Engines -/

/-- The engine runs, and no blocking unit holds it: a move of the bundle due can take effect. -/
abbrev engReady (s : State) (e : Nat) : Prop := engState s e = engRunning ∧ (s.eng e).blocked = none

/-- What a bus of the engine carries of a value. -/
def onBus (e : Nat) (v : BusVal) : Nat := v.toNat % 2 ^ busW e

/-- No word of any memory has a bit error. -/
abbrev noErrors (s : State) : Prop := s.errs = []

/-! ### Registers as software reaches them -/

/-- The block answers, and the master's selector shows the unit. -/
abbrev reaches (s : State) (b : SelBlock) (m : Master) (i : Nat) : Prop :=
  s.blkUp (selBlk b) = true ∧ selected s b m = some i

/-- The check that the master's register shows ended with an acceptance: BUSY clear, OK set, REASON zero. -/
def accepted (t : State) (chk : Reg) (m : Master) : Prop := t.reg chk (masterIdx m) = 0x40000000

/-- A check was refused with a code: the master's check register shows it and the last-refusal record holds block, master and
code, and nothing else of the module differs but the count and the event of refusals (R10, R542). -/
def refusedWith (s t : State) (chk : Reg) (m : Master) (inst code : Nat) : Prop :=
  t.reg chk (masterIdx m) = BitVec.ofNat 32 code ∧
  t.reg .GLB_LASTREF 0 = BitVec.ofNat 32 (chk.info.blk.base / 2 ^ 16 % 256 * 2 ^ 24 + masterCode m * 2 ^ 16 + code) ∧
  t.reg .GLB_LASTREF_INST 0 = BitVec.ofNat 32 inst ∧
  t.reg .GLB_LASTREF_TIME_LO 0 = s.rtc.setWidth 32 ∧ t.reg .GLB_LASTREF_TIME_HI 0 = (s.rtc >>> 32).setWidth 32 ∧
  t.fb GLB_EVT.REFUSAL 0 = true ∧ t.cnt .GLB_REFUSALS 0 = BitVec.ofNat 64 (satAdd 64 (s.cnt .GLB_REFUSALS 0).toNat 1) ∧
  onlyRegs s t [(chk, masterIdx m), (.GLB_LASTREF, 0), (.GLB_LASTREF_INST, 0), (.GLB_LASTREF_TIME_LO, 0),
    (.GLB_LASTREF_TIME_HI, 0), (.GLB_EVT, 0)] [(.GLB_REFUSALS, 0)]

/-- A counter counts one event and stops at all ones. -/
def counted (s t : State) (c : Ctr) (i : Nat) : Prop := t.cnt c i = BitVec.ofNat 64 (satAdd 64 (s.cnt c i).toNat 1)

/-! ### Protected memory and channel contexts -/

/-- No word has a bit error and no corruption is armed at a controller: reads and writes of it are plain. -/
abbrev memQuiet (s : State) (k : Nat) : Prop := s.errs = [] ∧ s.f MEM_FLIPMASK.MODE k = 0

/-- Every byte of every memory outside the listed ranges (controller, first address, length) holds what it held. -/
def keepsMem (s t : State) (l : List (Nat × Nat × Nat)) : Prop :=
  ∀ k a, (∀ r ∈ l, ¬ (r.1 = k ∧ r.2.1 ≤ a ∧ a < r.2.1 + r.2.2)) →
    Mem.read (ramDefault t k) (t.ram k) a = Mem.read (ramDefault s k) (s.ram k) a

/-- The bytes of a context field of a channel. -/
def fieldRange (s : State) (c : Nat) (x : CtxF) : Nat × Nat × Nat :=
  (ctxCtl, ctxAddr s c x.off + fieldFirst x, fieldBytes x)

/-- Bytes of context memory outside the listed fields of a channel, and every other memory, hold what they held. -/
def keepsCtx (s t : State) (c : Nat) (fs : List CtxF) : Prop := keepsMem s t (fs.map (fieldRange s c))

/-- Increments that the engines hold for a counter of a channel (R24). -/
def pends (s : State) (c i : Nat) : Nat := SMap.get (fun _ => 0) s.cntPend (16 * c + i)

/-- Nothing of the twin agent, of the outputs or of the counters differs but what its records make: an ACTIVE member alone sends
some (R240). -/
def onlyMirrors (s t : State) : Prop :=
  t.twin = { s.twin with seqTx := t.twin.seqTx } ∧ keepsCnts s t [(.TWN_MIRROR_TX, 0)] ∧
  (s.f TWN_STATUS.ROLE 0 ≠ 1 → t.twin = s.twin ∧ t.out = s.out ∧ t.cnts = s.cnts)

/-- Nothing of the Silo or of the engines differs but the jobs: they wait in the Silo or stand with the key engines (R511). -/
def onlyJobs (s t : State) : Prop :=
  t.silo = { s.silo with jobs := t.silo.jobs, jobTag := t.silo.jobTag } ∧ ∀ e, e < 64 ∨ 68 ≤ e → t.eng e = s.eng e

/-- The derivation of a channel's next epoch is under way (R34, R144): a job of the Silo, and of its key record what names it. -/
def onlyDerives (s t : State) (c : Nat) : Prop :=
  onlyJobs s t ∧ t.key c = { s.key c with jobTx := (t.key c).jobTx, jobRx := (t.key c).jobRx } ∧
  ∀ d, d ≠ c → t.key d = s.key d

/-- A frame passed one half of the slice buffer of its port, and nothing else of the slices differs (R15). -/
def passedBuffer (s t : State) (p : Nat) (ingress : Bool) (f : List Byte) : Prop :=
  t.slice (anchor p) = (s.slice (anchor p)).setHalf ingress (((s.slice (anchor p)).half ingress).put f) ∧
  ∀ j, j ≠ anchor p → t.slice j = s.slice j

/-- What a handshake does beside its session (R202, R217, R511): the Silo draws random numbers, queues jobs and may note the
digest of a pinned peer; nothing else of it or of the engines differs but the jobs that the key engines hold. -/
def hsWork (s t : State) : Prop :=
  t.silo = { s.silo with drbg := t.silo.drbg, drbgReqs := t.silo.drbgReqs, srcTurn := t.silo.srcTurn, jobs := t.silo.jobs,
                         jobTag := t.silo.jobTag, pins := t.silo.pins } ∧
  t.silo.pins.map (·.node) = s.silo.pins.map (·.node) ∧ ∀ e, e < 64 ∨ 68 ≤ e → t.eng e = s.eng e

/-- The bytes of buffer memory that a frame takes, in whole words (R38). -/
def frameRanges (q : QFrame) : List (Nat × Nat × Nat) := q.runs.map fun r => (71 + q.half, r.1, ceilDiv r.2 8 * 8)

/-- A buffer half has room for a number of frames behind a queue: with four pages for each, some page is left over, and the
queue ends inside the half. -/
abbrev hasRoom (s : State) (half : Nat) (q : List QFrame) (n : Nat) : Prop :=
  let cur := queueEnd (q.filter fun f => f.half == half)
  (cur % pageBytes = 0 ∨ cur / pageBytes < halfPages s) ∧ (takenPages s half).length + 4 * n < halfPages s

/-- The counters of the FEC decoder of a port (R48). -/
def fecCnts (p : Nat) : List (Ctr × Nat) := [(.PORT_FEC_CORR, p), (.PORT_FEC_UNCORR, p), (.PORT_FEC_SYM, p)]

/-- Channels other than one hold what they held. -/
def keepsChans (s t : State) (c : Nat) : Prop := ∀ d, d ≠ c → t.chan d = s.chan d

/-! ### Where an access lands -/

/-- A master's access to an address reaches offset `off` of a block, with unit `i` selected where the offset lies in a
window. -/
def lands (s : State) (m : Master) (a : Nat) (b : Blk) (off i : Nat) : Prop :=
  placeOf s m a = .at b off ∧
  match blkSel b with
  | some sel => if inWindowRange b off then selected s sel m = some i else i = 0
  | none => i = 0

/-! ### Canonical form -/

/-- The sparse tables of registers, counters, ports, channels, links, slices, keys, engines, transfers and event sources, those
of protected memory, and every memory region, slice buffers among them, are in their canonical form: keys strictly rising, no
entry equal to what an unlisted key reads as. Equal contents are then equal data. -/
structure State.Canon (s : State) : Prop where
  regs : SMap.wf regResetAt s.regs = true
  cnts : SMap.wf (fun _ => 0) s.cnts = true
  rams : SMap.wf (fun _ => []) s.rams = true
  bytes : ∀ k, Mem.wf (ramDefault s k) (s.ram k) = true
  errs : SMap.wf (fun _ => WordErr.none) s.errs = true
  valid : SMap.wf (validDefault s) s.valid = true
  memCtl : SMap.wf (fun _ => MemCtl.reset) s.memCtl = true
  ports : SMap.wf (fun _ => PortSt.reset) s.ports = true
  chans : SMap.wf (fun _ => Chan.reset) s.chans = true
  links : SMap.wf (fun _ => LinkQ.reset) s.links = true
  slices : SMap.wf (fun _ => SliceSt.reset) s.slices = true
  keys : SMap.wf (fun _ => ChanKey.reset) s.keys = true
  engs : SMap.wf (fun _ => Eng.reset) s.engs = true
  dma : SMap.wf (fun _ => DmaCh.reset) s.dma = true
  stages : ∀ i, Mem.wf zeroByte (s.slice i).egBuf.bytes = true ∧ Mem.wf zeroByte (s.slice i).inBuf.bytes = true
  srcs : SMap.wf (fun _ => EvSrc.reset) s.evc.srcs = true
  grps : SMap.wf (fun _ => EvGrp.reset) s.evc.grps = true

/-! ### Resets -/

/-- What a warm reset leaves of a state (R482, R486): SELFTEST with its cause, the registers that the Escapement and the Silo
keep, the clock, the pins, the enrolment and the message and kill sequences (R225, R233); no port, channel, key, engine,
transfer or random-number state, and every entropy source untested (R215). -/
def warmFrom (s t : State) (cause : Nat) : Prop :=
  t.mode = modeSelftest ∧ t.reg .PWR_WAKE_CAUSE 0 = BitVec.ofNat 32 (cause * 2 ^ 28) ∧ t.fb GLB_EVT.MODE 0 = true ∧
  t.pending = s.pending ∧ t.rtc = s.rtc ∧ t.out = s.out ∧ t.silo.pins = s.silo.pins ∧ t.silo.domain = s.silo.domain ∧
  t.silo.importKeys = [] ∧ t.ports = [] ∧ t.chans = [] ∧ t.keys = [] ∧ t.sessions = [] ∧ t.engs = [] ∧ t.dma = [] ∧
  t.evc.srcs = [] ∧ t.fab.killSeq = s.fab.killSeq ∧ t.fab.sendSeq = s.fab.sendSeq ∧ t.silo.srcBad = 255 ∧ t.silo.custody = none ∧
  t.silo.drbg = none ∧ t.lost = [] ∧ (∀ k, t.ram k = if warmRegion k then s.ram k else []) ∧
  ∀ r i, r ∉ [Reg.PWR_WAKE_CAUSE, .GLB_MODE, .GLB_EVT, .GLB_MODE_CHECK, .PWR_CFG, .CLK_STATUS, .CLK_EVT] →
    t.reg r i = if warmKeeps (r.key i) then s.reg r i else regResetAt (r.key i)

end Sys2Proof.Machine
end

