-- ==== Sys2Proof/WellFormed.lean ====
section
/-! DEFINITION. Which commands can be sent: a row that shares its control register with others carries the word that
selects it, addresses are aligned, frames and bursts have the sizes of their kind, ports are on the side that the row
names. What the module does with a command is said in `Sys2Proof/Machine/` alone, for other words too. -/

namespace Sys2Proof

/-- The `n`-bit field of a written word at bit `lo` holds `x`: the word asks for the row's action. -/
def selects (v : Word) (lo n x : Nat) : Bool := v.toNat / 2 ^ lo % 2 ^ n == x

/-- Registers stand at multiples of 4 (R9). -/
def aligned (a : Word) : Bool := a.toNat % 4 == 0

/-- A frame is received whole, with its four FCS bytes, and holds the two addresses and the EtherType (R29, R57). -/
def framed (f : List Byte) : Bool := decide (18 ≤ f.length)

/-- Payload bytes of the eight frames of an OTN group in one OPUC (R108, R109). -/
def groupBytes : Nat := 8 * 15232

/-- A group comes whole: the payload and the overhead of eight frames (R47, R109). -/
def wholeGroup (g : OtnIn) : Bool :=
  g.payload.length == groupBytes && g.oh.opuc.length == 64 && g.oh.oduc.length == 336 && g.oh.sm.length == 24

/-- Bursts have 1 to 16 beats of 32 bytes, with one enable for each byte; a write brings its data (R413, R417). -/
def burst (r : XReq) : Bool :=
  decide (1 ≤ r.beats ∧ r.beats ≤ 16) && r.addr.toNat % 32 == 0 && r.enables.length == 32 * r.beats &&
    (!r.write || r.data.length == 32 * r.beats)

/-- The bytes of a TLP lie inside the region it names: 64 MiB of BAR0, 16 MiB of BAR2 (R531). -/
def inBar (bar2 : Bool) (off : BitVec 26) (len : Nat) : Bool :=
  decide (1 ≤ len ∧ off.toNat + len ≤ if bar2 then 2 ^ 24 else 2 ^ 26)

/-- A command that can be sent. -/
def Instr.wf : Instr → Bool
  | .clientFrameRx p f _ => decide (p.val < 32) && framed f
  | .macControlFrameRx _ f => framed f
  | .reorderEmit p => decide (32 ≤ p.val)
  | .lineFrameRx p f _ => decide (32 ≤ p.val) && framed f
  | .macsecFrameRx _ f => framed f
  | .baleRx p f => decide (32 ≤ p.val) && framed f
  | .otnDescriptorRx p _ opuc => decide (32 ≤ p.val) && opuc.length == 32
  | .otnGroupRx p _ g => decide (32 ≤ p.val) && wholeGroup g
  | .otnGroupTx _ _ g => wholeGroup g
  | .clientDelivery p => decide (p.val < 32)
  | .portProvision _ v => selects v 0 1 1
  | .portDeprovision _ v => selects v 0 1 0
  | .counterLoRead _ a => aligned a
  | .readClearAccess _ a => aligned a
  | .registerWrite _ a _ => aligned a
  | .chKey _ v => selects v 3 1 1
  | .chEnable _ v => selects v 0 1 1
  | .chDisable _ v => selects v 0 1 0
  | .chEpochNow _ v => selects v 4 1 1
  | .chRemap _ v => selects v 5 1 1
  | .fabKill _ v => selects v 31 1 1
  | .handover _ v => selects v 0 1 1
  | .takeover _ v => selects v 1 1 1
  | .exception _ code => decide (1 ≤ code.toNat ∧ code.toNat ≤ 12)
  | .engineReset _ v => selects v 31 1 1
  | .engCntClr _ v => selects v 0 1 1
  | .eccWriteback _ word => decide (word < 2 ^ 32)
  | .scrubNow _ v => selects v 28 4 2
  | .candidateEntryExpiry _ word => decide (word < 2 ^ 32)
  | .retire _ v => selects v 28 4 1
  | .pageRetired _ page => decide (page < 2 ^ 24)
  | .pop _ v => selects v 0 1 1
  | .feClr _ v => selects v 1 1 1
  | .memCntClr _ v => selects v 2 1 1
  | .lostClear _ v => selects v 31 1 1
  | .crossbarRequest r => burst r
  | .start _ v => selects v 0 1 1
  | .pause _ v => selects v 1 1 1
  | .resume _ v => selects v 2 1 1
  | .abort _ v => selects v 3 1 1
  | .glbReset _ v => selects v 0 16 42435
  | .verify _ v => selects v 28 4 1
  | .activate _ v => selects v 28 4 2
  | .stage _ v => selects v 28 4 3
  | .drain _ v => selects v 28 4 4
  | .undrain _ v => selects v 28 4 5
  | .update _ v => selects v 28 4 6
  | .revert _ v => selects v 28 4 7
  | .promote _ v => selects v 28 4 8
  | .abandon _ v => selects v 28 4 9
  | .erase _ v => selects v 28 4 1
  | .program _ v => selects v 28 4 2
  | .read _ v => selects v 28 4 3
  | .hourglassUpdate rails => rails.length == 8
  | .hourglassHourly osc _ => osc.length == 32
  | .temperatureSample t => t.length == 9
  | .i3cPrivateRead _ n => decide (1 ≤ n)
  | .hostMemoryWrite bar2 off data en => data.length == en.length && inBar bar2 off data.length && decide (data.length ≤ 512)
  | .hostMemoryRead bar2 off len => inBar bar2 off len
  | .memorySoftError (.word _ word bits _) => decide (word < 2 ^ 32) && bits.all (· < 80)
  | .memorySoftError (.vote _ word _) => decide (word < 2 ^ 32)
  | .memorySoftError _ => true
  | .pauseRepeat _ | .pauseQuantaExpiry _ _ | .transmitOpportunity _ | .egressSlotRetire _ | .baleTimeout _
  | .tfcSendInstant _ | .prevHoldExpiry _ | .contextCounterFlush _ | .sliceWakeDone _ | .keyEngineWake _
  | .pllLock _ | .portLoopbackSet _ _ | .portCfgWrite _ _ | .portLaneMapWrite _ _ _ | .portFcWrite _ _
  | .portThresholdWrite _ _ _ | .portTxeqWrite _ _ _ | .portCntClr _ _ | .cdrLock _ | .rxAdaptationDone _
  | .portAlignment _ | .upHoldExpiry _ | .laneFailure _ _ _ | .downHoldExpiry _ | .unmappedWindowAccess _ _ _
  | .sakStartTime _ | .chContextWrite _ _ _ | .chCntClr _ _ | .channelDrainEnd _ | .epochKeyInstall _ _
  | .rerootDue _ | .rootExpiry _ | .hello _ _ | .offer _ _ | .accept _ _ | .confirm _ _ | .helloRetransmit _
  | .acceptRetransmit _ | .responderSessionExpiry _ | .rerootRetry _ | .jobRes _ _ | .entropySrcFail _ _
  | .drbgReseedDue _ | .titheFrameTx _ | .titheFrameRx _ _ | .titheReassemblyTimeout _ _ _
  | .fabricMessageRx _ _ _ _ | .nhello _ _ _ _ _ | .lsa _ _ _ _ _ | .lsaAck _ _ _ | .addrReq _ _ _
  | .addrGrant _ _ _ | .kill _ _ _ | .killAck _ _ _ _ | .alarm _ _ _ _ _ _ | .nhelloTimer | .neighbourTimeout _
  | .addrReqTimer | .lsaRefresh | .lsaRetransmit _ _ | .lsaExpiry _ | .fabricKeyPrevExpiry | .fabRouteWrite _ _ _
  | .fabCfgWrite _ _ | .killRepeat _ | .killTimeout _ | .twnCfgWrite _ _ | .twinAssociation _ _ _ _
  | .twinReassociateTimer | .twinHeartbeat | .twinLinkTimeout _ | .split | .relinquish _ _ | .takeoverForcedSwitch _
  | .mirrorRecord _ _ _ | .mirrorAck _ _ _ | .fullMirrorDone | .partnerDeadInput | .bundleIssue _ | .unitResultLand _
  | .blockingOpDone _ | .interruptAccept _ | .engineResetDone _ | .engineTimerExpiry _ | .jump _ _ | .call _ _
  | .ret _ | .reti _ | .codeWr _ _ | .syncPush _ | .syncPop _ _ | .wait _ | .engineWake _ _ | .rpt _ _
  | .predFlush _ | .predBar _ | .trap _ | .nopredWrite _ _ | .dbSend _ _ | .doorbellRead _ _ | .ld _ _ _
  | .st _ _ _ | .storeBufferDrain _ _ | .lr _ _ | .sc _ _ | .add _ _ _ _ | .sub _ _ _ _ | .adds _ _ _ _
  | .subs _ _ _ _ | .addus _ _ _ _ | .subus _ _ _ _ | .neg _ _ _ _ | .negs _ _ _ _ | .abs _ _ _ _ | .abss _ _ _ _
  | .min _ _ _ _ | .max _ _ _ _ | .minu _ _ _ _ | .maxu _ _ _ _ | .and _ _ _ | .or _ _ _ | .xor _ _ _ | .andn _ _ _
  | .not _ _ _ | .pass _ _ _ | .clz _ _ _ _ | .popc _ _ _ _ | .bswap _ _ _ _ | .shl _ _ _ _ | .shr _ _ _ _
  | .sar _ _ _ _ | .rol _ _ _ _ | .ror _ _ _ _ | .cmpEq _ _ _ _ | .cmpNe _ _ _ _ | .cmpLt _ _ _ _ | .cmpLe _ _ _ _
  | .cmpLtu _ _ _ _ | .cmpLeu _ _ _ _ | .btst _ _ _ _ | .mul _ _ _ | .muls _ _ _ | .mulh _ _ _ | .mulhu _ _ _
  | .mulw _ _ _ | .mulwu _ _ _ | .div _ _ _ | .divu _ _ _ | .divs _ _ _ | .kld128 _ _ _ | .kld256 _ _ _
  | .enc128 _ _ _ | .enc256 _ _ _ | .dec128 _ _ _ | .dec256 _ _ _ | .ctr128 _ _ _ | .ctr256 _ _ _ | .hset _ _ _
  | .gacc _ _ _ _ | .gclr _ _ _ | .crcInit _ _ | .crcFeed _ _ _ _ | .crd _ _ | .hashLookup _ _
  | .complicationTrigger _ _ _ _ | .inDesc _ _ | .inData _ _ | .outDesc _ _ | .outData _ _ | .ctxWb _ _ | .job _ _
  | .xbCmd _ _ | .xbWd _ _ | .xbRd _ _ | .macClr _ _ _ | .macMac _ _ _ | .macMsu _ _ _ | .macMul _ _ _
  | .macAddx _ _ _ | .macLdx _ _ _ | .macStz _ _ _ | .macStr _ _ _ | .macStzr _ _ _ | .macRda _ _ _ | .macWra _ _ _
  | .macClrf _ _ _ | .butterflyCt _ _ _ | .butterflyGs _ _ _ | .kf _ _ | .mmp _ _ | .mmn _ _ | .comp _ _
  | .samplerInit _ | .samplerStep _ | .drbgSeed _ _ | .drbgGen _ | .drbgEnd _ | .scrubPass _ | .memCfgWrite _ _
  | .memFlipmaskArm _ _ | .zeroiseOverwriteDone _ | .crossbarGrant _ _ | .dmaChDoorbell _ _
  | .dmaRingConfigWrite _ _ _ | .dmaDescriptorFetch _ | .dmaDescriptorComplete _ | .dmaPassEnd _ | .dmaHalfPass _
  | .dmaBusError _ | .dmaPauseComplete _ _ | .dmaAbortComplete _ _ | .eventFire _ | .levelSourceDeassert _
  | .evcSet _ _ | .coalesceTimeExpiry _ | .evtClaim _ _ | .evcHclaim _ _ | .evtDone _ _ | .evcHcomplete _ _
  | .stormWindowExpiry _ | .targetIneligible _ | .externalInputChange _ _ | .wakeLatched | .evcSrcCfgWrite _ _ _
  | .evcGrpWrite _ _ _ | .evcCtlWrite _ _ | .evcInCfgWrite _ _ _ | .feedLost _ _ | .feedRestored _ _
  | .overvolt _ _ | .holdup _ _ | .shutdown | .bakReady _ _ | .bakLow _ _ | .refclkLost _ | .refclkRecovered
  | .pllUnlock _ | .clkSscWrite _ _ | .pwrCheckedWrite _ _ _ | .modeReqOperational _ | .modeReqMaintenance _
  | .modeReqDrain _ | .modeReqEscapement _ | .drainModeComplete | .coldStart | .escapementWake _ | .wakeTimerExpiry
  | .selftestDone _ _ | .load _ _ | .modResetN | .pcieReset _ | .pcieLinkTrainingDone _ _ | .tamperTrip _
  | .tamperTripDormant _ | .fatalFault _ | .enrol _ _ | .domainUpdate _ _ | .peerAdmit _ _ | .peerRemove _ _
  | .peerDismiss _ _ | .fabricKey _ _ | .sakImport _ _ | .authorise _ _ | .authoriseExpiry _ | .tamperCfg _ _
  | .acknowledge _ _ | .retireRecord _ _ | .getCert _ | .quote _ _ | .getImportKey _ | .importKeyExpiry _
  | .readDomain _ | .readPin _ _ | .readLog _ _ | .shfOpDone _ | .sliceDrained _ | .updateDone _ | .flashDone _
  | .complicationRegionLoaded _ | .supercapMeasurement _ _ | .hlthPredWrite _ _ _ | .predictionStale _
  | .eyeMeasurement _ _ _ | .i3cPrivateWrite _ _ | .i3cAddressAssignment _ _ | .glbIfverSelWrite _ _
  | .glbBar2AperWrite _ _ | .gpioWrite _ _ _ | .rly1Write _ _ | .todMessage _ | .ppsInEdge | .ppsLost
  | .ppsOutSecond | .todTx | .glbRtcSetHi _ _ | .lrReservationTimeout _ | .complicationFault _ _ _
  | .refclkPresent _ | .configurationRequest _ | .pcieLinkDown | .debugPortConnection _ | .faultOrderedSetsRx _ _ _ => true

end Sys2Proof
end

