-- ==== Sys2Proof/Certificates/Slice0/Obligations.lean ====
section
/-! DEFINITION. The statements for the provers. -/

open Sys2Proof Sys2Proof.Machine

/-- A step with a command at the front of the queue runs that command on the state that holds the rest of the queue.
The queue is the model's way to hand commands to the block; with none in it time passes, which the real-time clock counts
unless it still runs ahead of the corrected time: one microsecond, and in DORMANT and ESCAPEMENT a tick of 30.5 µs, counted as
30 and 31 in turn. Where no mode transition ends with it, nothing else changes (log 1). -/
def Obligations.StepRunsTheFrontCommand : Prop :=
  ∀ (s : State) (c : Instr) (rest : List Instr), step { s with pending := c :: rest } = exec c { s with pending := rest } ∧
    let slow := s.mode = modeDormant ∨ s.mode = modeEscapement
    let still := s.pending = [] ∧ s.fb GLB_MODE.TRANS 0 = false ∧ ¬ (s.mode = modeEscapement ∧ s.silo.retired = true)
    (still → ¬ slow → s.tod.ahead = 0 → step s = .next { s with rtc := s.rtc + 1 }) ∧
    (still → ¬ slow → 0 < s.tod.ahead → ∃ t, step s = .next t ∧ t = { s with rtc := t.rtc, tod := t.tod } ∧
      if s.tod.skip then t.rtc = s.rtc ∧ t.tod.ahead = s.tod.ahead - 1 else t.rtc = s.rtc + 1 ∧ t.tod.ahead = s.tod.ahead) ∧
    (still → slow → s.tod.ahead = 0 → step s = .next { s with
      rtc := s.rtc + (if s.tod.half then 31 else 30), tod := { s.tod with half := !s.tod.half } })

/-- ALU (R322), of a unit that the structure selects: AND, OR, XOR, ANDN, NOT and PASS on the whole bus, the others on the
width `W` of the forms .W and .D. R takes the result that the table names at once, V is set by exactly the cases it names and
is never cleared, and nothing else changes. CLZ
counts the zeros above the highest set bit of T and gives W for 0, POPC the set bits, BSWAP reverses the bytes. -/
def Obligations.AluOperationsGiveTheirResults : Prop :=
  ∀ (s : State) (e : Fin 70) (i : Fin 8) (t : BusVal) (fm : Form), engReady s e →
    (engUnits s e).any (fun u => u.kind == kAlu && u.inst == i) = true →
    let after := fun (w : Nat) (r : BitVec w) (v : Bool) =>
      Host.Outcome.next (s.updEng e fun x => { x.setVal (resKey kAlu i 0) r.toNat with v := x.v || v }) (φ := Fault) (ρ := Refusal)
    let o := (s.eng e).val (opKey kAlu i 0)
    let W := formBits fm
    let O := BitVec.ofNat W o
    let T := BitVec.ofNat W t.toNat
    let O' := BitVec.ofNat (busW e) o
    let T' := BitVec.ofNat (busW e) t.toNat
    let clamp := fun (neg : Bool) => if neg then BitVec.intMin W else BitVec.intMax W
    (fm ≠ .q → exec (.add e i fm t) s = after W (O + T) (O.saddOverflow T)) ∧
    (fm ≠ .q → exec (.sub e i fm t) s = after W (O - T) (O.ssubOverflow T)) ∧
    (fm ≠ .q → exec (.adds e i fm t) s =
      after W (if O.saddOverflow T then clamp O.msb else O + T) (O.saddOverflow T)) ∧
    (fm ≠ .q → exec (.subs e i fm t) s =
      after W (if O.ssubOverflow T then clamp O.msb else O - T) (O.ssubOverflow T)) ∧
    (fm ≠ .q → exec (.addus e i fm t) s =
      after W (if O.uaddOverflow T then BitVec.allOnes W else O + T) (O.uaddOverflow T)) ∧
    (fm ≠ .q → exec (.subus e i fm t) s =
      after W (if O.usubOverflow T then 0 else O - T) (O.usubOverflow T)) ∧
    (fm ≠ .q → exec (.neg e i fm t) s = after W (-T) (T == BitVec.intMin W)) ∧
    (fm ≠ .q → exec (.negs e i fm t) s =
      after W (if T = BitVec.intMin W then BitVec.intMax W else -T) (T == BitVec.intMin W)) ∧
    (fm ≠ .q → exec (.abs e i fm t) s = after W T.abs (T == BitVec.intMin W)) ∧
    (fm ≠ .q → exec (.abss e i fm t) s =
      after W (if T = BitVec.intMin W then BitVec.intMax W else T.abs) (T == BitVec.intMin W)) ∧
    (fm ≠ .q → exec (.min e i fm t) s = after W (if O.slt T then O else T) false) ∧
    (fm ≠ .q → exec (.max e i fm t) s = after W (if O.slt T then T else O) false) ∧
    (fm ≠ .q → exec (.minu e i fm t) s = after W (if O.ult T then O else T) false) ∧
    (fm ≠ .q → exec (.maxu e i fm t) s = after W (if O.ult T then T else O) false) ∧
    (exec (.and e i t) s = after (busW e) (O' &&& T') false) ∧
    (exec (.or e i t) s = after (busW e) (O' ||| T') false) ∧
    (exec (.xor e i t) s = after (busW e) (O' ^^^ T') false) ∧
    (exec (.andn e i t) s = after (busW e) (O' &&& ~~~T') false) ∧
    (exec (.not e i t) s = after (busW e) (~~~T') false) ∧
    (exec (.pass e i t) s = after (busW e) T' false) ∧
    (fm ≠ .q → ∃ n, exec (.clz e i fm t) s = after (W + 1) (BitVec.ofNat (W + 1) n) false ∧
      n ≤ W ∧ (∀ k : Nat, k < n → T.getMsbD k = false) ∧ (n < W → T.getMsbD n = true)) ∧
    (fm ≠ .q → exec (.popc e i fm t) s =
      after (W + 1) (BitVec.ofNat (W + 1) ((List.range W).countP fun k => T.getLsbD k)) false) ∧
    (fm ≠ .q → ∃ R : BitVec W, exec (.bswap e i fm t) s = after W R false ∧
      ∀ k j, k < W / 8 → j < 8 → R.getLsbD (8 * k + j) = T.getLsbD (8 * (W / 8 - 1 - k) + j))

/-- Shift unit (R323): a selected unit has each operation on 32 and 64 bits, in data engines also on 128; the count is
T[7:0]; a count of W or more gives zero, or the sign of O, and rotations take it modulo W. R holds the result at once and
nothing else changes. -/
def Obligations.ShiftsGiveTheirResults : Prop :=
  ∀ (s : State) (e : Fin 70) (i : Fin 3) (t : BusVal) (fm : Form), engReady s e →
    (engUnits s e).any (fun u => u.kind == kShift && u.inst == i) = true → (fm = .q → engClass e = 0) →
    let W := formBits fm
    let after := fun (r : BitVec W) =>
      Host.Outcome.next (s.updEng e fun x => x.setVal (resKey kShift i 0) r.toNat) (φ := Fault) (ρ := Refusal)
    let O := BitVec.ofNat W ((s.eng e).val (opKey kShift i 0))
    let c := t.toNat % 256
    (exec (.shl e i fm t) s = after (O <<< c)) ∧
    (exec (.shr e i fm t) s = after (O >>> c)) ∧
    (exec (.sar e i fm t) s = after (O.sshiftRight c)) ∧
    (exec (.rol e i fm t) s = after (O.rotateLeft (c % W))) ∧
    (exec (.ror e i fm t) s = after (O.rotateRight (c % W)))

/-- Compare unit (R324): R and the predicate that PD names take 1 if the condition holds and 0 otherwise; PD = 0 writes
no predicate.
Divider (R326, R327): quotient rounded toward zero and remainder with the sign of the dividend land when the unit
finishes; a zero divisor sets DZ and gives MAXS, MINS or MAXU with the dividend as remainder; MINS by −1 sets V. -/
def Obligations.ComparisonsAndDivisionsGiveTheirResults : Prop :=
  (∀ (s : State) (e : Fin 70) (i : Fin 3) (t : BusVal) (fm : Form), engReady s e →
      let has := fun (o : CmpOp) => hasTrig s e kCmp i (.cmp o fm) = true
      let W := formBits fm
      let pd := (s.eng e).val (opKey kCmp i 1) % 8
      let after := fun (b : Bool) =>
        Host.Outcome.next (s.updEng e fun x => { x.setVal (resKey kCmp i 0) (if b then 1 else 0) with
          preds := if pd = 0 then x.preds else putBits x.preds pd 1 (if b then 1 else 0) }) (φ := Fault) (ρ := Refusal)
      let O := BitVec.ofNat W ((s.eng e).val (opKey kCmp i 0))
      let T := BitVec.ofNat W t.toNat
      (has .eq → exec (.cmpEq e i fm t) s = after (O == T)) ∧
      (has .ne → exec (.cmpNe e i fm t) s = after (O != T)) ∧
      (has .lt → exec (.cmpLt e i fm t) s = after (O.slt T)) ∧
      (has .le → exec (.cmpLe e i fm t) s = after (O.sle T)) ∧
      (has .ltu → exec (.cmpLtu e i fm t) s = after (O.ult T)) ∧
      (has .leu → exec (.cmpLeu e i fm t) s = after (O.ule T)) ∧
      (has .btst → exec (.btst e i fm t) s = after (O.getLsbD (t.toNat % 256)))) ∧
  (∀ (s : State) (e : Fin 70) (t : BusVal) (fm : Form), engReady s e →
      let has := fun (o : DivOp) => hasTrig s e kDiv 0 (.div o fm) = true
      let W := formBits fm
      let after := fun (q r : BitVec W) (v dz : Bool) =>
        Host.Outcome.next (s.updEng e fun x =>
          { x.hold [wholeVal (resKey kDiv 0 0) q.toNat, wholeVal (resKey kDiv 0 1) r.toNat] with
            v := x.v || v, dz := x.dz || dz }) (φ := Fault) (ρ := Refusal)
      let O := BitVec.ofNat W ((s.eng e).val (opKey kDiv 0 0))
      let T := BitVec.ofNat W t.toNat
      let byZero := if O.msb then BitVec.intMin W else BitVec.intMax W
      let ovf := O == BitVec.intMin W && T == BitVec.allOnes W
      (has .div → exec (.div e fm t) s =
        if T = 0 then after byZero O false true
        else if ovf then after (BitVec.intMin W) 0 true false
        else after (O.sdiv T) (O.srem T) false false) ∧
      (has .divs → exec (.divs e fm t) s =
        if T = 0 then after byZero O false true
        else if ovf then after (BitVec.intMax W) 0 true false
        else after (O.sdiv T) (O.srem T) false false) ∧
      (has .divu → exec (.divu e fm t) s =
        if T = 0 then after (BitVec.allOnes W) O false true else after (O / T) (O % T) false false))

/-- Multiplier (R325): R lands in 3 issue cycles; V is set where the signed product leaves the 32-bit range. -/
def Obligations.MultiplicationsGiveTheirResults : Prop :=
  ∀ (s : State) (e : Fin 70) (i : Fin 2) (t : BusVal), engReady s e →
    (engUnits s e).any (fun u => u.kind == kMul && u.inst == i) = true →
    let after := fun (r : Nat) (v : Bool) =>
      Host.Outcome.next (s.updEng e fun x => { x.result 3 (resKey kMul i 0) r with v := x.v || v }) (φ := Fault) (ρ := Refusal)
    let O := BitVec.ofNat 32 ((s.eng e).val (opKey kMul i 0))
    let T := BitVec.ofNat 32 t.toNat
    let P := O.toInt * T.toInt
    let out := decide (P < -2 ^ 31) || decide (2 ^ 31 ≤ P)
    (exec (.mul e i t) s = after (O * T).toNat out) ∧
    (exec (.muls e i t) s =
      after (if P < -2 ^ 31 then BitVec.intMin 32 else if 2 ^ 31 ≤ P then BitVec.intMax 32 else O * T).toNat out) ∧
    (exec (.mulh e i t) s = after ((BitVec.ofInt 64 P).extractLsb' 32 32).toNat false) ∧
    (exec (.mulhu e i t) s = after (O.toNat * T.toNat / 2 ^ 32) false) ∧
    (exec (.mulw e i t) s = after (BitVec.ofInt 64 P).toNat false) ∧
    (exec (.mulwu e i t) s = after (O.toNat * T.toNat) false)

/-- AES units (R328): KLD brings a key into the slot that KS names after 4 issue cycles; a block under a slot that holds a key
of the trigger's length lands in 11 or 15 issue cycles as its encryption or decryption; CTR also gives the next counter block
at once. Under another slot the block that lands is open (log 43).
GHASH and CRC units (R329, R330): HSET brings H after 8 issue cycles; GACC j with power p of 1 to 4 lands (Xj ⊕ T)·H^p after
4, and another power is ILLEGAL_PORT; GCLR clears an accumulator after 4. INIT starts a CRC from all ones for CRC-32 and
CRC-32C and from zero for CRC-8, a feed takes the low bytes of T in byte order through the code that MODE names, and R lands in
2 issue cycles with the final complement of the two 32-bit codes. Under another MODE the code that lands is open (log 44). -/
def Obligations.CipherUnitsLandTheirResults : Prop :=
  (∀ (s : State) (e : Fin 70) (i : Fin 2) (t : BusVal) (k : List Byte), engReady s e →
      let has := fun (o : UOp) => hasTrig s e kAes i o = true
      let slot := (s.eng e).val (opKey kAes i 0) % 4
      let key := fun (n : Nat) => SMap.get (fun _ => []) (s.eng e).aes (4 * i + slot) = k ∧ k.length = n
      let b := leBytes 16 (onBus e t)
      let lands := fun (l : Nat) (r : List Byte) =>
        Host.Outcome.next (s.updEng e fun x => x.result l (resKey kAes i 0) (leNat r)) (φ := Fault) (ρ := Refusal)
      let counts := fun (l : Nat) => Host.Outcome.next (s.updEng e fun x =>
        (x.result l (resKey kAes i 0) (leNat (Crypto.aesEnc k b))).setVal (resKey kAes i 1)
          (leNat (b.take 12 ++ beBytes 4 (beNat (b.drop 12) + 1)))) (φ := Fault) (ρ := Refusal)
      let holds := fun (n : Nat) => (SMap.get (fun _ => []) (s.eng e).aes (4 * i + slot)).length = n
      let some' := fun (ins : Instr) (l : Nat) => ∃ u v, exec ins s = .next u ∧
        (u.eng e).fly = (s.eng e).fly ++ [⟨l, wholeVal (resKey kAes i 0) v⟩]
      (has (.kld false) → exec (.kld128 e i t) s = .next (s.updEng e fun x => x.launch 4 (.aesKey (4 * i + slot) b))) ∧
      (has (.kld true) → exec (.kld256 e i t) s = .next (s.updEng e fun x =>
        x.launch 4 (.aesKey (4 * i + slot) (b ++ leBytes 16 (x.val (opKey kAes i 1)))))) ∧
      (has (.enc false) → key 16 → exec (.enc128 e i t) s = lands 11 (Crypto.aesEnc k b)) ∧
      (has (.enc true) → key 32 → exec (.enc256 e i t) s = lands 15 (Crypto.aesEnc k b)) ∧
      (has (.dec false) → key 16 → exec (.dec128 e i t) s = lands 11 (Crypto.aesDec k b)) ∧
      (has (.dec true) → key 32 → exec (.dec256 e i t) s = lands 15 (Crypto.aesDec k b)) ∧
      (has (.ctr false) → key 16 → exec (.ctr128 e i t) s = counts 11) ∧
      (has (.ctr true) → key 32 → exec (.ctr256 e i t) s = counts 15) ∧
      (¬holds 16 → (has (.enc false) → some' (.enc128 e i t) 11) ∧ (has (.dec false) → some' (.dec128 e i t) 11) ∧
        (has (.ctr false) → some' (.ctr128 e i t) 11)) ∧
      (¬holds 32 → (has (.enc true) → some' (.enc256 e i t) 15) ∧ (has (.dec true) → some' (.dec256 e i t) 15) ∧
        (has (.ctr true) → some' (.ctr256 e i t) 15))) ∧
  (∀ (s : State) (e : Fin 70) (i j : Fin 2) (n : CrcLen) (t : BusVal), engReady s e →
      let p := (s.eng e).val (opKey kGhash i 0) % 8
      let num := fun (v : Nat) => beNat (leBytes 16 v)
      let h := num ((s.eng e).val (hidKey kGhash i 0))
      let x := num ((s.eng e).val (resKey kGhash i j)) ^^^ num (onBus e t)
      let m := Crypto.gf128Mul
      let lands := fun (v : Nat) => Host.Outcome.next (s.updEng e fun x => x.result 4 (resKey kGhash i j) (leNat (beBytes 16 v)))
        (φ := Fault) (ρ := Refusal)
      let mode := (s.eng e).val (opKey kCrc i 0)
      let run := (s.eng e).val (hidKey kCrc i 0)
      let len := match n with | .n1 => 1 | .n4 => 4 | .n8 => 8 | .n16 => 16
      let bs := leBytes len (onBus e t)
      let gives := fun (st r : Nat) => Host.Outcome.next (s.updEng e fun x =>
        (x.setVal (hidKey kCrc i 0) st).result 2 (resKey kCrc i 0) r) (φ := Fault) (ρ := Refusal)
      let fed := fun (poly : Nat) => bs.foldl (Crypto.crcReflByte poly) run
      let fed8 := bs.foldl (fun c b => (List.range 8).foldl (fun c _ => if 128 ≤ c then 2 * c % 256 ^^^ 7 else 2 * c)
        (c % 256 ^^^ b.toNat)) run
      let open' := fun (ins : Instr) => ∃ u v, exec ins s = .next u ∧ (u.eng e).vals = (s.eng e).vals ∧
        (u.eng e).fly = (s.eng e).fly ++ [⟨2, wholeVal (resKey kCrc i 0) v⟩]
      (hasTrig s e kGhash i .hset = true → exec (.hset e i t) s =
        .next (s.updEng e fun x => x.launch 8 (wholeVal (hidKey kGhash i 0) (onBus e t)))) ∧
      (hasTrig s e kGhash i (.gacc j) = true →
        (p = 1 → exec (.gacc e i j t) s = lands (m x h)) ∧
        (p = 2 → exec (.gacc e i j t) s = lands (m x (m h h))) ∧
        (p = 3 → exec (.gacc e i j t) s = lands (m x (m (m h h) h))) ∧
        (p = 4 → exec (.gacc e i j t) s = lands (m x (m (m (m h h) h) h))) ∧
        (p = 0 ∨ 5 ≤ p → exec (.gacc e i j t) s = .next (takeException s e 1))) ∧
      (hasTrig s e kGhash i (.gclr j) = true →
        exec (.gclr e i j) s = .next (s.updEng e fun x => x.result 4 (resKey kGhash i j) 0)) ∧
      (hasTrig s e kCrc i .crcInit = true →
        (mode < 2 → exec (.crcInit e i) s = gives 0xFFFFFFFF 0) ∧ (mode = 2 → exec (.crcInit e i) s = gives 0 0) ∧
        (2 < mode → open' (.crcInit e i))) ∧
      (hasTrig s e kCrc i (.crcFeed len) = true →
        (mode = 0 → exec (.crcFeed e i n t) s = gives (fed 0xEDB88320) (fed 0xEDB88320 ^^^ 0xFFFFFFFF)) ∧
        (mode = 1 → exec (.crcFeed e i n t) s = gives (fed 0x82F63B78) (fed 0x82F63B78 ^^^ 0xFFFFFFFF)) ∧
        (mode = 2 → exec (.crcFeed e i n t) s = gives fed8 (fed8 % 256)) ∧ (2 < mode → open' (.crcFeed e i n t))))

/-- Context port, hash lookup and complications (R22, R331, R332, R335–R337): 64 bytes of the line that CRD names land in
C0–C3 after 10 issue cycles, and the context cache then holds the line; a lookup lands after 12 with bit 63 set on a hit; a
trigger of a socket enters the region word under way, which its fourth one completes, and its result is due after the declared
latency; a socket of throughput one per two that has just taken a trigger lets the bundle wait; a socket that shows a fault
raises COMPL, and a fault that the region reports shows in STATUS.
Sampler and DRBG unit (R216, R357, R358): INIT empties the buffers and zeroes R; a STEP takes the bytes of its mode, drawn from
stream X where fewer are at hand, keeps the coefficients that its mode makes of them, writes four of them to stream Z once
there are four and reports the count after 6 issue cycles; SEED instantiates or reseeds; GEN gives 128 bits, or zero and FAIL
while a reseed is due; the 33rd GEN of a request begins another one; END updates the state, and 65,536 requests make a reseed
due. -/
def Obligations.LookupsSamplerAndDrbgAnswer : Prop :=
  (∀ (s : State) (e : Fin 70) (k op : Fin 4) (t : BusVal), engReady s e →
      let c := onBus e t % 2 ^ 14
      let half := onBus e t / 2 ^ 16 % 2
      let line := onBus e t / 2 ^ 17 % 8
      let l := 16 * slotOf s c + 8 * half + line
      let b := ramBytes s ctxCtl (64 * l) 64
      let tbl := (s.eng e).val (opKey kHash 0 0) % 16
      let w := (s.eng e).sock k
      let decl := socketDecl s e k
      let ready := decl.testBit 7 = false ∨ (w.hot = false ∧ w.now = false)
      (hasTrig s e kCtx 0 .crd = true → noErrors s → ∃ u, exec (.crd e t) s = .next u ∧
        u = { s with engs := u.engs, memCtl := u.memCtl } ∧ (∀ j, j ≠ e.val → u.eng j = s.eng j) ∧
        (∀ k, u.memc k = { s.memc k with copies := (u.memc k).copies }) ∧ cachedLine u e l = some b ∧
          u.eng e = { ((((s.eng e).result 10 (resKey kCtx 0 0) (leNat (b.take 16))).result 10
          (resKey kCtx 0 1) (leNat ((b.drop 16).take 16))).result 10 (resKey kCtx 0 2) (leNat ((b.drop 32).take 16))).result 10
          (resKey kCtx 0 3) (leNat (b.drop 48)) with cache := (u.eng e).cache }) ∧
      (hasTrig s e kHash 0 .hash = true → hashEnt e tbl (onBus e t) ∉ s.lost →
        exec (.hashLookup e t) s = .next (s.updEng e fun x => x.result 12 (resKey kHash 0 0)
          (match Config.hashLookup s.sheaf.digest e tbl (onBus e t) with
           | some v => 2 ^ 63 + v.toNat
           | none => 0))) ∧
      (hasTrig s e kHash 0 .hash = true → hashEnt e tbl (onBus e t) ∈ s.lost → ∃ u, exec (.hashLookup e t) s = .next u ∧
        u.eng e = (s.eng e).result 12 (resKey kHash 0 0) 0 ∧ hashEnt e tbl (onBus e t) ∉ u.lost) ∧
      (hasTrig s e kCompl k (.compl op) = true →
        (socketFaulty s e k = true → exec (.complicationTrigger e k op t) s = .next (takeException s e 11)) ∧
        (socketFaulty s e k = false → ready → w.word.length < 3 →
          exec (.complicationTrigger e k op t) s = .next (s.updEng e fun x =>
            (x.setSock k { w with word := w.word ++ [(op.val, BitVec.ofNat 128 (onBus e t))], now := true }).launch
              (decl / 2 ^ 8 % 2 ^ 8) (.sock k))) ∧
        (socketFaulty s e k = false → ready → 3 ≤ w.word.length →
          ∃ u, exec (.complicationTrigger e k op t) s = .next u ∧ ((u.eng e).sock k).word = [] ∧
            (u.eng e).fly = (s.eng e).fly ++ [⟨decl / 2 ^ 8 % 2 ^ 8, .sock k⟩] ∧
            ((u.eng e).sock k).out.length = w.out.length + w.word.length + 1) ∧
        (socketFaulty s e k = false → ¬ready → ∃ u, exec (.complicationTrigger e k op t) s = .next u ∧ onlyEng s u e ∧
          (u.eng e).fly = (s.eng e).fly ∧ (u.eng e).vals = (s.eng e).vals)) ∧
      (∀ b : Bool, e.val < 64 → ∃ u, exec (.complicationFault e k b) s = .next u ∧ onlyEng s u e ∧ socketFaulty u e k = true)) ∧
  (∀ (s : State) (e : Fin 70) (a : Word) (n p5 p7 : Nat), engReady s e →
      let x := s.eng e
      let mode := x.val (opKey kSamp 0 1) % 16
      let q := x.val (opKey kSamp 0 0)
      let d := x.drbg
      let draws := x.samp.inb.length < n
      let inb := x.samp.inb ++ (if draws then ramBytes s e (x.agReg 5 0) 8 else [])
      let v := leNat (inb.take n)
      let ones := fun (i m : Nat) => ((List.range m).countP fun j => v.testBit (i + j) : Int)
      let halves := (List.range 4).map fun i => v / 16 ^ i % 16
      let coefs : List Int :=
        if mode = 0 then (List.range 4).map fun k => ones (4 * k) 2 - ones (4 * k + 2) 2
        else if mode = 1 then (List.range 4).map fun k => ones (6 * k) 3 - ones (6 * k + 3) 3
        else if mode = 2 then ([v % 2 ^ 12, v / 2 ^ 12].filter (· < q)).map Int.ofNat
        else if mode = 3 then ([v % 2 ^ 23, v / 2 ^ 24 % 2 ^ 23].filter (· < q)).map Int.ofNat
        else if mode = 4 then (halves.filter (· < 15)).map fun (z : Nat) => (2 : Int) - (z % 5 : Nat)
        else (halves.filter (· < 9)).map fun (z : Nat) => (4 : Int) - z
      let out := x.samp.outc ++ coefs.map (BitVec.ofInt 32)
      let full := 4 ≤ out.length
      let count := x.samp.count + if full then 4 else 0
      let fails := fun (u : State) => onlyEng s u e ∧ (u.eng e).drbg.failed = true ∧ (u.eng e).drbg.due = true ∧
        (u.eng e).blocked = some [wholeVal (resKey kDrbg 0 0) 0, wholeVal (resKey kDrbg 0 1) 0]
      let gives := fun (u : State) (o : List Byte) => onlyEng s u e ∧
        (u.eng e).blocked = some [wholeVal (resKey kDrbg 0 0) (leNat (sliceAt o 0 8)), wholeVal (resKey kDrbg 0 1) (leNat (sliceAt o 8 8))]
      (hasTrig s e kSamp 0 .sInit = true → exec (.samplerInit e) s =
        .next (s.updEng e fun x => ({ x with samp := ⟨[], [], 0⟩ } : Eng).setVal (resKey kSamp 0 0) 0)) ∧
      (hasTrig s e kSamp 0 .sStep = true → 6 ≤ mode → exec (.samplerStep e) s = .next (takeException s e 1)) ∧
      (hasTrig s e kSamp 0 .sStep = true → mode < 6 → n = [2, 3, 3, 6, 2, 2].getD mode 0 →
        (draws → noErrors s ∧ x.lineX = none ∧ x.z = none ∧ x.sb = [] ∧ x.nextPtr 5 = some p5 ∧
          localOk s e (x.agReg 5 0) 8 8 = true) →
        (full → x.nextPtr 7 = some p7 ∧ localOk s e (x.agReg 7 0) 16 16 = true ∧ touchesWindow s e (x.agReg 7 0) 16 = false) →
        ∃ u, exec (.samplerStep e) s = .next u ∧ onlyEng s u e ∧
          (u.eng e).samp = ⟨inb.drop n, if full then out.drop 4 else out, count⟩ ∧
          ⟨6, wholeVal (resKey kSamp 0 0) count⟩ ∈ (u.eng e).fly ∧
          (full → ⟨6, .zdata (x.agReg 7 0) ((out.take 4).map fun c => leBytes 4 c.toNat).flatten⟩ ∈ (u.eng e).fly)) ∧
      (hasTrig s e kDrbg 0 .seed = true → localOk s e a.toNat 48 1 = true → (localRead s e a.toNat 48).2 = (false, s) →
        ∃ u, exec (.drbgSeed e a) s = .next u ∧ onlyEng s u e ∧ (u.eng e).blocked = some [] ∧
          (u.eng e).drbg = ⟨some (match d.st with
            | none => Crypto.drbgSeed (xorBytes (localRead s e a.toNat 48).1 (drbgPers s e))
            | some y => Crypto.drbgUpdate y (xorBytes (localRead s e a.toNat 48).1 (drbgPers s e))), 0, false, false, 0⟩) ∧
      (hasTrig s e kDrbg 0 .gen = true → d.due = true ∨ d.st = none → ∃ u, exec (.drbgGen e) s = .next u ∧ fails u) ∧
      (hasTrig s e kDrbg 0 .gen = true → d.due = false → ∀ y, d.st = some y → d.gens < 32 →
        let o := Crypto.drbgOut y 1
        ∃ u, exec (.drbgGen e) s = .next u ∧ gives u o.1 ∧ (u.eng e).drbg = { d with st := some o.2, gens := d.gens + 1 }) ∧
      (hasTrig s e kDrbg 0 .gen = true → d.due = false → ∀ y, d.st = some y → 32 ≤ d.gens → d.reqs + 1 < 65536 →
        let o := Crypto.drbgOut (Crypto.drbgUpdate y (zeros 48)) 1
        ∃ u, exec (.drbgGen e) s = .next u ∧ gives u o.1 ∧
          (u.eng e).drbg = { d with st := some o.2, gens := 1, reqs := d.reqs + 1 }) ∧
      (hasTrig s e kDrbg 0 .gen = true → 32 ≤ d.gens → 65536 ≤ d.reqs + 1 → ∃ u, exec (.drbgGen e) s = .next u ∧ fails u) ∧
      (hasTrig s e kDrbg 0 .fin = true → exec (.drbgEnd e) s = .next (s.updEng e fun x =>
        let r := x.drbg.reqs + if 0 < x.drbg.gens then 1 else 0
        ({ x with drbg := { x.drbg with
            st := x.drbg.st.map fun y => Crypto.drbgUpdate y (zeros 48), gens := 0, reqs := r,
            due := x.drbg.due || decide (65536 ≤ r) } } : Eng).hold [])))

/-- MAC units (R345–R348), operations 0 to 5, in each mode: the accumulator of every lane enabled takes the value that the
operation names, wrapped to 56 bits in INT and FRAC and reduced in MOD; a lane that is not enabled keeps its own. An operand is a
scalar or 16 bytes of its stream, whose pointer is then post-modified (R339, R346). Nothing of the module but this engine's
accumulators, flags, ST and streams changes. An operation executes where the mode is legal, its modulus too, and the shift is at
most 48 (R344, R346), and where the streams that it reads can be read.
MAC units, operations 6 to 11 (R347, R349): STR and STZR land the converted lanes in R0 and R1 after 3 issue cycles, STZ
and STZR write them to stream Z at its pointer, which is then post-modified; the conversion rounds to the nearest integer, ties
to the even neighbour, and then clamps, and in MOD centres where CENTRE says so; RDA lands the accumulator that ASEL names, WRA
replaces it, CLRF clears the sticky flags. -/
def Obligations.MacUnitsAccumulateAndStore : Prop :=
  (∀ (s : State) (e : Fin 70) (i : Fin 2) (ctl : W64) (px py : Nat), engReady s e → hasTrig s e kMac i .mac = true →
      let c := ctl.toNat
      let u := s.eng e
      let mode := c / 16 % 4
      let q := mqOf u kMac i
      let k := fun (n : Nat) => hidKey kMac i (1 + n)
      let a := fun (n : Nat) => signedOf 56 (u.val (k n))
      let lane := fun (g n : Nat) => signedOf 24 (leNat (ramBytes s e (u.agReg g 0 + 4 * n) 4))
      let x := fun (n : Nat) => if c.testBit 6 then signedOf 24 (u.val (opKey kMac i 1)) else lane 5 n
      let y := fun (n : Nat) => if c.testBit 7 then signedOf 24 (u.val (opKey kMac i 2)) else lane 6 n
      let wide := fun (n : Nat) => if mode = 1 then x n * 2 ^ 24 else x n
      let prod := fun (n : Nat) => if mode = 1 then x n * y n * 2 else x n * y n
      let kept := fun (z : Int) => if mode = 2 then (z % (q : Int)).toNat else unsignedOf 56 z
      let reads := fun (g p : Nat) => noErrors s ∧ u.lineOf g = none ∧ u.z = none ∧ u.sb = [] ∧ u.nextPtr g = some p ∧
        localOk s e (u.agReg g 0) 16 16 = true
      let hasX := c.testBit 6 = true ∨ reads 5 px
      let hasY := c.testBit 7 = true ∨ reads 6 py
      let gives := fun (t : State) (z : Nat → Int) => onlyEng s t e ∧
        t.eng e = { u with vals := (t.eng e).vals, fly := (t.eng e).fly, ag := (t.eng e).ag, lineX := (t.eng e).lineX,
                           lineY := (t.eng e).lineY } ∧
        ∀ n, n < 4 → (t.eng e).val (k n) = if c.testBit (16 + n) then kept (z n) else u.val (k n)
      mode < 2 ∨ (mode = 2 ∧ q % 2 = 1 ∧ 3 ≤ q) → c / 2 ^ 10 % 64 ≤ 48 →
      (∃ t, exec (.macClr e i ctl) s = .next t ∧ gives t fun _ => 0) ∧
      (hasX → hasY → ∃ t, exec (.macMac e i ctl) s = .next t ∧ gives t fun n => a n + prod n) ∧
      (hasX → hasY → ∃ t, exec (.macMsu e i ctl) s = .next t ∧ gives t fun n => a n - prod n) ∧
      (hasX → hasY → ∃ t, exec (.macMul e i ctl) s = .next t ∧ gives t prod) ∧
      (hasX → ∃ t, exec (.macAddx e i ctl) s = .next t ∧ gives t fun n => a n + wide n) ∧
      (hasX → ∃ t, exec (.macLdx e i ctl) s = .next t ∧ gives t wide)) ∧
  (∀ (s : State) (e : Fin 70) (i : Fin 2) (ctl : W64) (p : Nat), engReady s e → hasTrig s e kMac i .mac = true →
      let c := ctl.toNat
      let x := s.eng e
      let mode := c / 16 % 4
      let q := mqOf x kMac i
      let sh := c / 2 ^ 10 % 64
      let acc := fun (n : Nat) => signedOf 56 (x.val (hidKey kMac i (1 + n)))
      let near := fun (n : Nat) => if roundEven (acc n) sh < -2 ^ 23 then -2 ^ 23
        else if 2 ^ 23 ≤ roundEven (acc n) sh then 2 ^ 23 - 1 else roundEven (acc n) sh
      let residue := fun (n : Nat) => if c.testBit 8 = true ∧ ((q - 1) / 2 : Nat) < acc n then acc n - q else acc n
      let v := fun (n : Nat) => signedOf 24 (unsignedOf 24 (if mode = 2 then residue n else near n))
      let w := fun (n : Nat) => if c.testBit (16 + n) then unsignedOf 32 (v n) else 0
      let m := fun (n : Nat) => if c.testBit (16 + n) then 2 ^ 32 - 1 else 0
      let lands := fun (u : State) (k : Nat) => ∃ f ∈ (u.eng e).fly, f.left = 3 ∧
        f.eff = .val (resKey kMac i k) (BitVec.ofNat 128 (m (2 * k) + m (2 * k + 1) * 2 ^ 32))
          (BitVec.ofNat 128 (w (2 * k) + w (2 * k + 1) * 2 ^ 32))
      let writesZ := fun (u : State) => (∃ f ∈ (u.eng e).fly, f.left = 3 ∧
        f.eff = .zdata (x.agReg 7 0) (leBytes 4 (w 0) ++ leBytes 4 (w 1) ++ leBytes 4 (w 2) ++ leBytes 4 (w 3))) ∧
        (u.eng e).agReg 7 0 = p
      let zOk := x.nextPtr 7 = some p ∧ localOk s e (x.agReg 7 0) 16 16 = true ∧ touchesWindow s e (x.agReg 7 0) 16 = false
      mode < 2 ∨ (mode = 2 ∧ q % 2 = 1 ∧ 3 ≤ q) → sh ≤ 48 →
      (∃ u, exec (.macStr e i ctl) s = .next u ∧ onlyEng s u e ∧ lands u 0 ∧ lands u 1) ∧
      (zOk → ∃ u, exec (.macStz e i ctl) s = .next u ∧ onlyEng s u e ∧ writesZ u) ∧
      (zOk → ∃ u, exec (.macStzr e i ctl) s = .next u ∧ onlyEng s u e ∧ writesZ u ∧ lands u 0 ∧ lands u 1) ∧
      (∃ u, exec (.macRda e i ctl) s = .next u ∧ onlyEng s u e ∧
        ∃ f ∈ (u.eng e).fly, f.left = 3 ∧ f.eff = wholeVal (resKey kMac i 0) (unsignedOf 64 (acc (c / 2 ^ 20 % 4)))) ∧
      (∃ u, exec (.macWra e i ctl) s = .next u ∧ onlyEng s u e ∧
        (u.eng e).val (hidKey kMac i (1 + c / 2 ^ 20 % 4)) = x.val (opKey kMac i 1) % 2 ^ 56) ∧
      (∃ u, exec (.macClrf e i ctl) s = .next u ∧ onlyEng s u e ∧ (u.eng e).val (hidKey kMac i 5) = 0) ∧
      ∀ (a : Int) (n : Nat), (2 * (a - roundEven a n * 2 ^ n)).natAbs ≤ 2 ^ n ∧
        ((2 * (a - roundEven a n * 2 ^ n)).natAbs = 2 ^ n → roundEven a n % 2 = 0))

/-- Butterfly units (R350): with the pairs of A and B, or those that streams X and Y bring, and the twiddles of W, a′ and b′ of
each lane, reduced modulo q and centred where CENTRE says so, land in RA and RB after 4 issue cycles; ZEN writes them to stream Z,
lane by lane, and each stream used is post-modified (R339); an even modulus or one below 3 is ILLEGAL_PORT (R344).
Units that work in the banks (R353–R356): Keccak-f[1600] on the 200 bytes at the address, the Montgomery product of the
integers that MA and MB name, the SHA-2 compression of a block into the state that HS names. Each writes its result in place
and holds the engine until it finishes; an operand outside its bank or misaligned raises ADDRESS. -/
def Obligations.ButterfliesAndBankUnitsGiveTheirResults : Prop :=
  (∀ (s : State) (e : Fin 70) (i : Fin 2) (ctl : W64), engReady s e → hasTrig s e kBf i .bf = true →
      let c := ctl.toNat
      let q := mqOf (s.eng e) kBf i
      let lane := fun (n k : Nat) => signedOf 24 ((s.eng e).val (opKey kBf i n) / 2 ^ (32 * k))
      let red := fun (z : Int) => unsignedOf 32 (z % (q : Int))
      let pair := fun (z : Nat → Int) => red (z 0) + red (z 1) * 2 ^ 32
      let gives := fun (a b : Nat → Int) => Host.Outcome.next (s.updEng e fun x =>
        (x.result 4 (resKey kBf i 0) (pair a)).result 4 (resKey kBf i 1) (pair b)) (φ := Fault) (ρ := Refusal)
      c < 2 ^ 5 → c.testBit 2 = false → c.testBit 3 = true → c.testBit 4 = false →
      (q % 2 = 1 → 3 ≤ q →
        exec (.butterflyCt e i ctl) s =
          gives (fun k => lane 2 k + lane 1 k * lane 3 k) (fun k => lane 2 k - lane 1 k * lane 3 k) ∧
        exec (.butterflyGs e i ctl) s =
          gives (fun k => lane 2 k + lane 3 k) (fun k => lane 1 k * (lane 2 k - lane 3 k))) ∧
      (q % 2 = 0 ∨ q < 3 → exec (.butterflyCt e i ctl) s = .next (takeException s e 1) ∧
        exec (.butterflyGs e i ctl) s = .next (takeException s e 1))) ∧
  (∀ (s : State) (e : Fin 70) (i : Fin 2) (ctl : W64) (px py pz : Nat), engReady s e → hasTrig s e kBf i .bf = true →
      let c := ctl.toNat
      let x := s.eng e
      let q := mqOf x kBf i
      let port := fun (n k : Nat) => signedOf 24 (x.val (opKey kBf i n) / 2 ^ (32 * k))
      let lane := fun (n g k : Nat) => if c.testBit 3 then port n k else signedOf 24 (leNat (ramBytes s e (x.agReg g 0 + 4 * k) 4))
      let a := lane 2 5
      let b := lane 3 6
      let w := port 1
      let fit := fun (z : Int) => unsignedOf 32
        (if c.testBit 4 = true ∧ ((q - 1) / 2 : Nat) < z % (q : Int) then z % (q : Int) - q else z % (q : Int))
      let reads := fun (g p : Nat) => noErrors s ∧ x.lineOf g = none ∧ x.z = none ∧ x.sb = [] ∧ x.nextPtr g = some p ∧
        localOk s e (x.agReg g 0) 8 8 = true
      let zOk := x.nextPtr 7 = some pz ∧ localOk s e (x.agReg 7 0) 16 16 = true ∧ touchesWindow s e (x.agReg 7 0) 16 = false
      let gives := fun (ins : Instr) (f g : Nat → Int) => ∃ u, exec ins s = .next u ∧ onlyEng s u e ∧
        ⟨4, wholeVal (resKey kBf i 0) (fit (f 0) + fit (f 1) * 2 ^ 32)⟩ ∈ (u.eng e).fly ∧
        ⟨4, wholeVal (resKey kBf i 1) (fit (g 0) + fit (g 1) * 2 ^ 32)⟩ ∈ (u.eng e).fly ∧
        (c.testBit 2 = true → (u.eng e).agReg 7 0 = pz ∧ ⟨4, .zdata (x.agReg 7 0) (leBytes 4 (fit (f 0)) ++
          leBytes 4 (fit (g 0)) ++ leBytes 4 (fit (f 1)) ++ leBytes 4 (fit (g 1)))⟩ ∈ (u.eng e).fly) ∧
        (c.testBit 3 = false → (u.eng e).agReg 5 0 = px ∧ (u.eng e).agReg 6 0 = py)
      q % 2 = 1 → 3 ≤ q → (c.testBit 3 = true ∨ reads 5 px ∧ reads 6 py) → (c.testBit 2 = false ∨ zOk) →
      gives (.butterflyCt e i ctl) (fun k => a k + w k * b k) (fun k => a k - w k * b k) ∧
      gives (.butterflyGs e i ctl) (fun k => a k + b k) (fun k => w k * (a k - b k))) ∧
  (∀ (s : State) (e : Fin 70) (a : Word), engReady s e →
      let rd := fun (p n : Nat) => (localRead s e p n).1
      let ok := fun (p n al : Nat) => localOk s e p n al = true ∧ (localRead s e p n).2.1 = false ∧ (localRead s e p n).2.2 = s
      let gives := fun (p : Nat) (bs : List Byte) =>
        Host.Outcome.next ((writeInPlace s e p bs).updEng e fun x => x.hold []) (φ := Fault) (ρ := Refusal)
      let p := a.toNat
      let ma := (s.eng e).val (opKey kP384 0 0) % 2 ^ 32
      let mb := (s.eng e).val (opKey kP384 0 1) % 2 ^ 32
      let hs := (s.eng e).val (opKey kSha 0 0) % 2 ^ 32
      let mont := fun (m : Nat) (c : Instr) => ∃ r, r < m ∧ r * 2 ^ 384 % m = leNat (rd ma 48) * leNat (rd mb 48) % m ∧
        exec c s = gives p (leBytes 48 r)
      (hasTrig s e kKeccak 0 .kf = true → ok p 200 64 → touchesWindow s e p 200 = false →
        exec (.kf e a) s = gives p ((Crypto.keccakF ((List.range 25).map fun i => leNat (sliceAt (rd p 200) (8 * i) 8))).map
          (leBytes 8)).flatten) ∧
      (hasTrig s e kKeccak 0 .kf = true → localOk s e p 200 64 = false → exec (.kf e a) s = .next (takeException s e 8)) ∧
      (hasTrig s e kP384 0 .mmp = true → ok ma 48 16 → ok mb 48 16 → localOk s e p 48 1 = true →
        touchesWindow s e p 48 = false → mont Crypto.p384P (.mmp e a)) ∧
      (hasTrig s e kP384 0 .mmn = true → ok ma 48 16 → ok mb 48 16 → localOk s e p 48 1 = true →
        touchesWindow s e p 48 = false → mont Crypto.p384N (.mmn e a)) ∧
      (hasTrig s e kSha 0 .comp = true → ok hs 64 64 → ok p 128 64 → touchesWindow s e hs 64 = false →
        exec (.comp e a) s = gives hs ((Crypto.shaBlock ((List.range 8).map fun i => leNat (sliceAt (rd hs 64) (8 * i) 8))
          (rd p 128)).map (leBytes 8)).flatten))

/-- Every trigger of an engine for which the committed structure selects no unit raises ILLEGAL_PORT (R260, R284), code 1.
Issue cycles (R254, R255, R257, R264, R291, R298): a bundle whose one move takes a short immediate to a general register, read
from the engine's bank or standing in the fetch queue, writes the sign-extended value, counts one bundle and one cycle and leads
to the next bundle; a bundle of another FORMAT raises ILLEGAL_PORT; at the end of a cycle what is due lands, in trigger order,
and the rest comes a cycle nearer. -/
def Obligations.BundlesIssueAndTriggersAreSelected : Prop :=
  (∀ (s : State) (e : Fin 70) (i8 : Fin 8) (i3 : Fin 3) (i2 j2 : Fin 2) (k op : Fin 4) (n : CrcLen) (fm : Form) (t : BusVal)
      (c : W64) (a : Word) (bk : Bank), engReady s e → engUnits s e = [] →
      ∀ ins ∈ ([.add e i8 fm t, .sub e i8 fm t, .adds e i8 fm t, .subs e i8 fm t, .addus e i8 fm t, .subus e i8 fm t, .neg e i8 fm t,
          .negs e i8 fm t, .abs e i8 fm t, .abss e i8 fm t, .min e i8 fm t, .max e i8 fm t, .minu e i8 fm t, .maxu e i8 fm t,
          .and e i8 t, .or e i8 t, .xor e i8 t, .andn e i8 t, .not e i8 t, .pass e i8 t, .clz e i8 fm t, .popc e i8 fm t,
          .bswap e i8 fm t, .shl e i3 fm t, .shr e i3 fm t, .sar e i3 fm t, .rol e i3 fm t, .ror e i3 fm t, .cmpEq e i3 fm t,
          .cmpNe e i3 fm t, .cmpLt e i3 fm t, .cmpLe e i3 fm t, .cmpLtu e i3 fm t, .cmpLeu e i3 fm t, .btst e i3 fm t,
          .mul e i2 t, .muls e i2 t, .mulh e i2 t, .mulhu e i2 t, .mulw e i2 t, .mulwu e i2 t, .div e fm t, .divu e fm t,
          .divs e fm t] ++
          [.kld128 e i2 t, .kld256 e i2 t, .enc128 e i2 t, .enc256 e i2 t, .dec128 e i2 t, .dec256 e i2 t, .ctr128 e i2 t,
          .ctr256 e i2 t, .hset e i2 t, .gacc e i2 j2 t, .gclr e i2 j2, .crcInit e i2, .crcFeed e i2 n t, .crd e t, .hashLookup e t,
          .complicationTrigger e k op t, .macClr e i2 c, .macMac e i2 c, .macMsu e i2 c, .macMul e i2 c, .macAddx e i2 c,
          .macLdx e i2 c, .macStz e i2 c, .macStr e i2 c, .macStzr e i2 c, .macRda e i2 c, .macWra e i2 c, .macClrf e i2 c,
          .butterflyCt e i2 c, .butterflyGs e i2 c, .kf e a, .mmp e a, .mmn e a, .comp e a,
          .samplerInit e, .samplerStep e, .drbgSeed e a, .drbgGen e, .drbgEnd e, .ld e bk a, .st e bk t] : List Instr),
        exec ins s = .next (takeException s e 1)) ∧
  (∀ (s : State) (e : Fin 70) (g : Fin 64) (imm : BitVec 24) (line : List Byte) (rest : List Fetched), engReady s e →
      let x := s.eng e
      let n := leNat line
      let slot := fun (i : Nat) => n / 2 ^ (64 + 56 * i) % 2 ^ 56
      let queued := x.fetchQ = ⟨x.pc.toNat, line, false, none⟩ :: rest
      let fetched := x.fetchQ = [] ∧ x.slip = false ∧ line = ramBytes s e x.pc.toNat 64 ∧ localOk s e x.pc.toNat 64 64 = true
      (noErrors s → queued ∨ fetched → x.fly = [] → x.socks = [] → x.rep.active = false → x.rep.srep = 0 → x.br = none →
        x.xbCmd = [] → n % 2 ^ 64 = 2 ^ 56 → slot 0 = 0xF00 * 2 ^ 40 + g.val * 2 ^ 28 + imm.toNat →
        (∀ i, 1 ≤ i → i < 8 → slot i = 8 * 2 ^ 52 + 0xFFF * 2 ^ 28) →
        ∃ u, exec (.bundleIssue e) s = .next u ∧ (u.eng e).gReg g = (BitVec.ofInt (busW e) imm.toInt).toNat ∧
          (∀ k, k ≠ g.val → (u.eng e).gReg k = x.gReg k) ∧ (u.eng e).pc = x.pc + 64 ∧ (u.eng e).vals = x.vals ∧
          u = { s with engs := u.engs, cnts := u.cnts, freeCtr := u.freeCtr } ∧ (∀ k, k ≠ e.val → u.eng k = s.eng k) ∧
          counted s u .ENG_BUNDLES e ∧ counted s u .ENG_CYCLES e ∧ keepsCnts s u [(.ENG_BUNDLES, e), (.ENG_CYCLES, e)]) ∧
      (queued → x.rep.active = false → n / 2 ^ 56 % 2 ^ 8 ≠ 1 → exec (.bundleIssue e) s = .next (takeException s e 1))) ∧
  (∀ (s : State) (e : Fin 70) (fl : List (Nat × Nat × Nat)),
      let x := s.eng e
      let due := fun (j : Nat) => (fl.filter fun f => decide (f.1 ≤ 1) && f.2.1 == j).getLast?.map (·.2.2)
      (¬engReady s e → exec (.unitResultLand e) s = .next s) ∧
      (engReady s e → x.socks = [] → x.fly = fl.map (fun f => ⟨f.1, wholeVal f.2.1 f.2.2⟩) → (∀ f ∈ fl, f.2.2 < 2 ^ 128) →
        ∃ u, exec (.unitResultLand e) s = .next u ∧ onlyEng s u e ∧
          (u.eng e).fly = ((fl.filter fun f => decide (2 ≤ f.1)).map fun f => ⟨f.1 - 1, wholeVal f.2.1 f.2.2⟩) ∧
          ∀ j, (u.eng e).val j = (due j).getD (x.val j)))

/-- Load-store units (R312–R315): a load of the size that SZ names lands its bytes, those of the store buffer over those of
the bank, extended as SZ[3] says, in 3 issue cycles; a store enters the buffer of its bank and changes nothing else; the
oldest entry drains to the bank. Misplaced and misaligned accesses raise ADDRESS, stores into a code window CODE_STORE.
A load that follows a store of its address in an earlier bundle returns what was stored, whether or not the store has
drained (R313, R314). -/
def Obligations.LoadsAndStoresUseTheirBank : Prop :=
  (∀ (s : State) (e : Fin 70) (bk : Bank) (a : Word) (v : BusVal) (n : Nat), engReady s e → noErrors s →
      let x := s.eng e
      let b := bankIdx bk
      let sz := x.val (opKey kLs b 0)
      let sa := x.val (opKey kLs b 1) % 2 ^ 32
      let byte := fun (i : Nat) => (x.buffered (a.toNat + i)).getD ((ramBytes s e (a.toNat + i) 1).headD 0)
      let value := leNat ((List.range n).map byte)
      let has := fun (o : UOp) => hasTrig s e kLs b o = true
      szBytes (busW e) sz = some n →
      (has .ld → bankOf a.toNat = b → localOk s e a.toNat n n = true →
        exec (.ld e bk a) s = .next (s.updEng e fun x => x.result 3 (resKey kLs b 0)
          (if sz.testBit 3 then (BitVec.ofInt (busW e) (BitVec.ofNat (8 * n) value).toInt).toNat else value))) ∧
      (has .ld → bankOf a.toNat ≠ b ∨ localOk s e a.toNat n n = false →
        exec (.ld e bk a) s = .next (takeException s e 8)) ∧
      (has .st → bankOf sa = b → localOk s e sa n n = true → touchesWindow s e sa n = false → (x.sbOf b).length < 8 →
        exec (.st e bk v) s = .next (s.updEng e fun x =>
          x.setSb b (x.sbOf b ++ [⟨offOf sa, (leBytes n (onBus e v)).map some⟩]))) ∧
      (has .st → bankOf sa = b → localOk s e sa n n = true → touchesWindow s e sa n = true →
        exec (.st e bk v) s = .next (takeException s e 5)) ∧
      (∀ t rest, x.sbOf b = t :: rest →
        ∃ u, exec (.storeBufferDrain e bk) s = .next u ∧ (u.eng e).sbOf b = rest ∧
          ∀ i y, t.bytes[i]? = some (some y) → s.f MEM_FLIPMASK.MODE e = 0 →
            Mem.read (ramDefault u e) (u.ram e) (b * 2 ^ 30 + t.off + i) = y)) ∧
  (∀ (s : State) (e : Fin 70) (bk : Bank) (a : Word) (v : BusVal) (n : Nat), engReady s e → noErrors s →
      let x := s.eng e
      let b := bankIdx bk
      szBytes (busW e) (x.val (opKey kLs b 0)) = some n → (x.val (opKey kLs b 0)).testBit 3 = false →
      x.val (opKey kLs b 1) = a.toNat → hasTrig s e kLs b .ld = true → hasTrig s e kLs b .st = true →
      bankOf a.toNat = b → localOk s e a.toNat n n = true → touchesWindow s e a.toNat n = false → (x.sbOf b).length < 8 →
      x.z = none →
      ∃ t, exec (.st e bk v) s = .next t ∧
        exec (.ld e bk a) t = .next (t.updEng e fun x => x.result 3 (resKey kLs b 0) (onBus e v % 2 ^ (8 * n))))

/-- Branches (R269, R270, R302–R304): JUMP, CALL and RET go to their target after two delay slots, CALL pushes the bundle
after the second slot on the stack and RET pops it; a target or a stack pointer out of its limits raises ADDRESS or STACK, and
a branch or RPT in a delay slot BRANCH_IN_SLOT; RETI outside a handler raises PRIV, and inside one goes on at the return address
of the innermost save area. -/
def Obligations.BranchesTakeTheirTarget : Prop :=
  ∀ (s : State) (e : Fin 70) (t : Word), engReady s e →
    let x := s.eng e
    let goes := fun (u : State) (a : Nat) => (∃ late, (u.eng e).br = some ⟨2, some (BitVec.ofNat 32 a), late⟩) ∧ (u.eng e).pc = x.pc ∧
      (u.eng e).g = x.g ∧ (u.eng e).vals = x.vals ∧ (∀ k, k ≠ e.val → u.eng k = s.eng k) ∧
      u = { s with engs := u.engs, cnts := u.cnts, freeCtr := u.freeCtr } ∧
      u.cnt .ENG_BRANCHES e = BitVec.ofNat 64 (satAdd 64 (s.cnt .ENG_BRANCHES e).toNat 1) ∧
      keepsCnts s u [(.ENG_BRANCHES, e), (.ENG_MISPRED, e), (.ENG_FETCH_DISCARD, e), (.ENG_CYCLES, e)]
    let slot := x.br ≠ none
    let ok := fun (a : Nat) => localOk s e a 64 64 = true
    let top := localRead s e (2 * 2 ^ 30 + x.sp.toNat) 8
    let back := leNat (top.1.take 4)
    (slot → ∀ ins ∈ ([.jump e t, .call e t, .ret e, .rpt e t] : List Instr), exec ins s = .next (takeException s e 3)) ∧
    (¬slot → ok t.toNat → ∃ u, exec (.jump e t) s = .next u ∧ goes u t.toNat ∧ (u.eng e).sp = x.sp) ∧
    (¬slot → ¬ok t.toNat → exec (.jump e t) s = .next (takeException s e 8) ∧ exec (.call e t) s = .next (takeException s e 8)) ∧
    (¬slot → ok t.toNat → 8 ≤ x.sp.toNat → x.stkLim.toNat ≤ x.sp.toNat - 8 → x.sp.toNat ≤ bankSize s e 2 →
      (x.sbOf 2).length < 8 →
      ∃ u, exec (.call e t) s = .next u ∧ goes u t.toNat ∧ (u.eng e).sp = x.sp - 8 ∧ (u.eng e).sbOf 2 = x.sbOf 2 ++
        [⟨x.sp.toNat - 8, (leBytes 8 ((x.pc.toNat + 128) % 2 ^ 32)).map some⟩]) ∧
    (¬slot → ok t.toNat → x.sp.toNat < 8 ∨ x.sp.toNat - 8 < x.stkLim.toNat → exec (.call e t) s = .next (takeException s e 4)) ∧
    (¬slot → ok t.toNat → 8 ≤ x.sp.toNat → x.stkLim.toNat ≤ x.sp.toNat - 8 → bankSize s e 2 < x.sp.toNat →
      exec (.call e t) s = .next (takeException s e 8)) ∧
    (¬slot → noErrors s → x.sp.toNat + 8 ≤ x.stkTop.toNat → x.sp.toNat + 8 ≤ bankSize s e 2 → ok back →
      ∃ u, exec (.ret e) s = .next u ∧ goes u back ∧ (u.eng e).sp = x.sp + 8) ∧
    (¬slot → noErrors s → x.sp.toNat + 8 ≤ x.stkTop.toNat → x.sp.toNat + 8 ≤ bankSize s e 2 → ¬ok back →
      exec (.ret e) s = .next (takeException s e 8)) ∧
    (¬slot → x.stkTop.toNat < x.sp.toNat + 8 → exec (.ret e) s = .next (takeException s e 4)) ∧
    (x.save = 0 → exec (.reti e) s = .next (takeException s e 10)) ∧
    (x.save ≠ 0 → noErrors s → x.fly = [] → ∃ u, exec (.reti e) s = .next u ∧ (∀ k, k ≠ e.val → u.eng k = s.eng k) ∧
      u = { s with engs := u.engs, cnts := u.cnts, freeCtr := u.freeCtr } ∧
      keepsCnts s u [(.ENG_FETCH_DISCARD, e), (.ENG_CYCLES, e)] ∧
      u.cnt .ENG_CYCLES e = BitVec.ofNat 64 (satAdd 64 (s.cnt .ENG_CYCLES e).toNat 64) ∧
      (u.eng e).save = x.save - 1 ∧ (u.eng e).causes = x.causes.drop 1 ∧
      (u.eng e).pc = BitVec.ofNat 32 (leNat (sliceAt (localRead s e (saveBase s e (x.save - 1)) 2048).1 0x404 4)))

/-- Exceptions and interrupts (R276, R277, R284, R285): an exception outside a handler is recorded, saves the visible state in
the area that is next, clears IE and goes to IVB + 64 × (8 + code); TRAP is code 12; an exception that meets a handler that
has not issued its first bundle, or two save areas in use, wedges the engine; an interrupt of the lowest pending line goes to
IVB + 64 × line. With nothing under way in the engine, the area then holds the state, the bundle that did not issue as the return
address, and the cause.
What a save area holds brings the visible state back (R278, R281): general registers, predicates, sticky flags, stack
registers, interrupt control and generator registers read from it as they were saved. -/
def Obligations.HandlersAreEnteredAndStateIsRestored : Prop :=
  (∀ (s : State) (e : Fin 70) (code : BitVec 8), engReady s e →
      let x := s.eng e
      let entered := fun (u : State) (v kind : Nat) => (u.eng e).pc = BitVec.ofNat 32 (x.ivb.toNat + 64 * v) ∧
        (u.eng e).ie = false ∧ (u.eng e).save = x.save + 1 ∧ (u.eng e).causes = kind :: x.causes ∧ (u.eng e).rsv = none ∧
        (u.eng e).fly = [] ∧ (u.eng e).br = none ∧ (∀ k, k ≠ e.val → u.eng k = s.eng k) ∧
        engState u e = engRunning
      let saved := fun (u : State) (kind v fault : Nat) => memQuiet s e → x.fly = [] → x.z = none → x.sb = [] →
        ramBytes u e (saveBase s e x.save) 2048 = saveBytes s e x.pc.toNat (kind * 2 ^ 24 + v * 2 ^ 16) fault ∧
          u.cnt .ENG_CYCLES e = BitVec.ofNat 64 (satAdd 64 (s.cnt .ENG_CYCLES e).toNat 64)
      let raised := fun (ins : Instr) (c : Nat) => ∃ u, exec ins s = .next u ∧ entered u (8 + c) c ∧
        saved u 1 c x.pc.toNat ∧ u.f ENG_EXC.CODE e = c ∧ u.reg .ENG_EXC_PC e = x.pc ∧ u.fb ENG_EVT.EXC e = true ∧
        u.cnt .ENG_EXC_TAKEN e = BitVec.ofNat 64 (satAdd 64 (s.cnt .ENG_EXC_TAKEN e).toNat 1)
      let wedged := fun (ins : Instr) (c : Nat) => ∃ u, exec ins s = .next u ∧ engState u e = engWedged ∧
        u.f ENG_EXC.CODE e = x.causes.headD 0 % 2 ^ 8 ∧ u.f ENG_EXC.SECOND e = c ∧ u.reg .ENG_EXC_PC e = x.pc ∧ u.fb ENG_EVT.WEDGED e = true
      (code.toNat = 0 ∨ 12 < code.toNat → exec (.exception e code) s = .next s) ∧
      (1 ≤ code.toNat → code.toNat ≤ 12 → x.fresh = false → x.save < 2 → x.poisonFlying = false → raised (.exception e code) code.toNat ∧ raised (.trap e) 12) ∧
      (1 ≤ code.toNat → code.toNat ≤ 12 → x.fresh = true ∨ 2 ≤ x.save → 64 ≤ e.val → e.val < 68 →
        wedged (.exception e code) code.toNat ∧ wedged (.trap e) 12) ∧
      (∀ l, acceptPoint s e = true → x.poisonFlying = false →
        l < 8 → linePending s e l = true → (∀ k : Nat, k < l → linePending s e k = false) →
        ∃ u, exec (.interruptAccept e) s = .next u ∧ entered u l 0 ∧ saved u 0 l 0 ∧
          u.cnt .ENG_IRQ_TAKEN e = BitVec.ofNat 64 (satAdd 64 (s.cnt .ENG_IRQ_TAKEN e).toNat 1))) ∧
  (∀ (s : State) (e ret cause fault : Nat),
      let x := s.eng e
      let y := restoreFrom s e (saveBytes s e ret cause fault)
      x.preds < 2 ^ 8 → x.imask < 2 ^ 8 → x.agBank < 4 → x.agMode < 2 ^ 16 →
      (∀ i : Nat, i < 64 → y.gReg i = x.gReg i) ∧ (∀ n r, n < 8 → r < 4 → y.agReg n r = x.agReg n r) ∧
      (∀ i, y.pred i = x.pred i ∨ 8 ≤ i) ∧ y.v = x.v ∧ y.dz = x.dz ∧ y.pc = BitVec.ofNat 32 ret ∧ y.sp = x.sp ∧
      y.stkLim = x.stkLim ∧ y.stkTop = x.stkTop ∧ y.ie = x.ie ∧ y.imask = x.imask ∧ y.ivb = x.ivb ∧ y.agBank = x.agBank ∧
      y.agMode = x.agMode ∧ y.rep.lc = x.rep.lc ∧ y.rep.active = x.rep.active ∧ y.rep.irqOk = x.rep.irqOk)

/-- Program control beside branches (R273, R283, R300, R305, R306, R317): each port changes what it controls and nothing
else; CODE_WR writes the staged line and discards what was fetched, RPT starts the repeat or skips its body, WAIT puts the engine
to sleep unless a line is pending or work keeps it awake, DB_SEND rings the doorbell that a read of DOORBELL takes.
Atomics on shared SRAM (R319, R320): LR reads eight bytes and reserves their granule; SC stores only under the reservation
and loses it; a store of another master to the granule, and 4,096 cycles, take the reservation away. -/
def Obligations.ControlPortsAndAtomicsTakeEffect : Prop :=
  (∀ (s : State) (e : Fin 70) (v : Word) (d : W64) (g : Fin 64), engReady s e →
      let x := s.eng e
      let n := v.toNat % 2 ^ 31
      let at' := fun (ins : Instr) (f : Eng → Eng) => exec ins s = .next (s.updEng e f)
      let body := bankOf x.rep.le.toNat = bankOf x.pc.toNat ∧ bankOf x.rep.le.toNat < 3 ∧ x.pc.toNat ≤ x.rep.le.toNat ∧
        x.rep.le.toNat % 2 ^ 30 < bankSize s e (bankOf x.rep.le.toNat)
      at' (.predFlush e) (fun x => { x with predEmpty := true }) ∧
      at' (.predBar e) (fun x => { x with predBar := true }) ∧
      at' (.doorbellRead e g) (fun x => ({ x with doorbell := 0, dbHit := false } : Eng).setG g x.doorbell.toNat) ∧
      (engClass e ≠ 0 → engGrant s e % 2 = 1 → at' (.nopredWrite e v) fun x => { x with nopred := v.toNat.testBit 8 }) ∧
      (engClass e ≠ 0 → engGrant s e % 2 = 0 → exec (.nopredWrite e v) s = .next (takeException s e 10)) ∧
      (memQuiet s e → engGrant s e / 2 % 2 = 1 → v.toNat % 64 = 0 → inCodeWindow s e v.toNat = true →
        localOk s e v.toNat 64 64 = true → ∃ u, exec (.codeWr e v) s = .next u ∧ ramBytes u e v.toNat 64 = stagedLine x e ∧
          keepsMem s u [(e, v.toNat, 64)] ∧ (u.eng e).fetchQ = [] ∧ (u.eng e).lbuf = [] ∧ (u.eng e).lbufOk = false ∧
          (u.eng e).pc = x.pc ∧ (u.eng e).vals = x.vals ∧ (u.eng e).g = x.g ∧ ∀ k, k ≠ e.val → u.eng k = s.eng k) ∧
      (engGrant s e / 2 % 2 = 1 → v.toNat % 64 ≠ 0 ∨ inCodeWindow s e v.toNat = false →
        exec (.codeWr e v) s = .next (takeException s e 8)) ∧
      (engGrant s e / 2 % 2 = 0 → exec (.codeWr e v) s = .next (takeException s e 10)) ∧
      (x.sync.length < 4 → x.z = none → at' (.syncPush e) fun x => { x with sync := x.sync ++
        [⟨(x.sbOf 0).length, (x.sbOf 1).length, (x.sbOf 2).length, (x.xbCmd.filter fun c => bitAt c.toNat 63).length⟩] }) ∧
      (∀ rest, x.sync = ⟨0, 0, 0, 0⟩ :: rest → at' (.syncPop e g) fun x => ({ x with sync := rest } : Eng).setG g 0) ∧
      (anyLine s e = false → engClass e ≠ 1 → (engClass e = 0 → sliceProvisioned s (e / 2) = false) →
        exec (.wait e) s = .next (s.setF ENG_STATUS.STATE e engAsleep)) ∧
      (anyLine s e = false → engClass e = 1 → bitAt (s.f PWR_CFG.KE_KEEP 0) (e - 64) = false → s.silo.jobs = [] →
        ∃ u, exec (.wait e) s = .next u ∧ engState u e = engAsleep) ∧
      (anyLine s e = true ∨ (engClass e = 0 ∧ sliceProvisioned s (e / 2) = true) ∨
        (engClass e = 1 ∧ (bitAt (s.f PWR_CFG.KE_KEEP 0) (e - 64) = true ∨ s.silo.jobs ≠ [])) → exec (.wait e) s = .next s) ∧
      (x.br = none → body → 1 ≤ n → ∃ u, exec (.rpt e v) s = .next u ∧
        onlyEng s u e ∧ (u.eng e).rep.active = true ∧ (u.eng e).rep.lc = BitVec.ofNat 32 (n - 1) ∧ (u.eng e).rep.ls = x.pc ∧
        (u.eng e).rep.le = x.rep.le ∧ (u.eng e).rep.irqOk = v.toNat.testBit 31 ∧ (u.eng e).pc = x.pc) ∧
      (x.br = none → body → n = 0 → ∃ u, exec (.rpt e v) s = .next u ∧ u = { s with engs := u.engs, cnts := u.cnts } ∧
        keepsCnts s u [(.ENG_CYCLES, e)] ∧
        (∀ k, k ≠ e.val → u.eng k = s.eng k) ∧ (u.eng e).rep.active = false ∧ (u.eng e).pc = x.rep.le + 64) ∧
      (x.br = none → ¬body → exec (.rpt e v) s = .next (takeException s e 8)) ∧
      (engClass e = 2 → ∀ t, t = d.toNat % 128 → t < 70 → engState s t ≠ engOff → exec (.dbSend e d) s =
        .next (s.updEng t fun x => { x with doorbell := BitVec.ofNat 32 (d.toNat / 2 ^ 32), dbHit := true }))) ∧
  (∀ (s : State) (e : Fin 70) (a v : W64) (off : Nat), engReady s e → engClass e ≠ 0 → noErrors s →
      let x := s.eng e
      (sramOffset s (a.toNat % 2 ^ 48) 8 = .ok off → off % 8 = 0 → exec (.lr e a) s = .next (s.updEng e fun x =>
        { x with lrR := some (BitVec.ofNat 64 (leNat (ramBytes s sramCtl off 8)), 0), rsv := some (off / 64) })) ∧
      (sramOffset s (x.scA.toNat % 2 ^ 48) 8 = .ok off → x.rsv ≠ some (off / 64) →
        exec (.sc e v) s = .next (s.updEng e fun x => { x with scR := some (1, 0), rsv := none })) ∧
      (sramOffset s (x.scA.toNat % 2 ^ 48) 8 = .ok off → x.rsv = some (off / 64) → s.f MEM_FLIPMASK.MODE sramCtl = 0 →
        off % 8 = 0 → ∃ u, exec (.sc e v) s = .next u ∧ (u.eng e).scR = some (0, 0) ∧ (u.eng e).rsv = none ∧
          ramBytes u sramCtl off 8 = leBytes 8 v.toNat ∧ ∀ k, (u.eng k).rsv ≠ some (off / 64)) ∧
      exec (.lrReservationTimeout e) s = .next (s.updEng e fun x => { x with rsv := none }))

/-- Stream ports (R333, R334, R511): a read takes the head of its FIFO, into which what waits follows, and a write joins its
tail; an empty head or a full tail stalls the move and changes nothing; the reorder stage takes up to 4,096 words of OUT_DATA
ahead of their descriptor (log 99), and the Silo takes result words as they come, and a whole
result that carries the OPCODE and the TAG of the engine's job ends it; one whose STATUS says that entropy failed fails the
handshake of its session with ENTROPY.
Events of an engine from outside its bundles (R33, R268, R283, R287, R290, R300): a blocking unit finishes, the timer runs
out, a pending line or a job wakes the engine, a reset stops and clears a wedged one, is ignored for a running one, and ends
with the entry bundle; the performance counters are cleared by command. -/
def Obligations.StreamsAndEngineEventsTakeEffect : Prop :=
  (∀ (s : State) (e : Fin 70) (g : Fin 64) (w : BusVal) (d : W64) (rest : List BusVal) (r64 : List W64)
      (rrd : List (W64 × Bool)), engReady s e →
      let x := s.eng e
      let at' := fun (ins : Instr) (f : Eng → Eng) => exec ins s = .next (s.updEng e f)
      (engClass e = 0 →
        (x.inDesc = w :: rest → at' (.inDesc e g) fun x => ({ x with
          inDesc := (rest ++ x.descFeed).take 8, descFeed := (rest ++ x.descFeed).drop 8,
          inData := (x.inData ++ x.dataFeed).take 64, dataFeed := (x.inData ++ x.dataFeed).drop 64 } : Eng).setG g w.toNat) ∧
        (x.inData = w :: rest → at' (.inData e g) fun x => ({ x with
          inDesc := (x.inDesc ++ x.descFeed).take 8, descFeed := (x.inDesc ++ x.descFeed).drop 8,
          inData := (rest ++ x.dataFeed).take 64, dataFeed := (rest ++ x.dataFeed).drop 64 } : Eng).setG g w.toNat) ∧
        (x.inDesc = [] → exec (.inDesc e g) s = .next s) ∧ (x.inData = [] → exec (.inData e g) s = .next s) ∧
        (x.outDesc = [] → x.outData = [] → x.outTaken = [] → 1 ≤ w.toNat / 2 ^ 32 % 2 ^ 16 →
          at' (.outDesc e w) fun x => { x with outDesc := [w] }) ∧
        (x.outDesc = [] → x.outData = [] → x.outTaken.length < 4096 →
          at' (.outData e w) fun x => { x with outTaken := x.outTaken ++ [w] }) ∧
        (x.outDesc = [] → x.outTaken.length = 4096 → x.outData.length < 64 →
          at' (.outData e w) fun x => { x with outData := x.outData ++ [w] }) ∧
        (64 ≤ x.outData.length → exec (.outData e w) s = .next s) ∧
        (8 ≤ x.outDesc.length → exec (.outDesc e w) s = .next s) ∧
        (x.ctxWb.length < 4 → at' (.ctxWb e w) fun x => { x with ctxWb := x.ctxWb ++ [w] }) ∧
        (16 ≤ x.ctxWb.length → exec (.ctxWb e w) s = .next s)) ∧
      (engClass e = 1 →
        (x.job = d :: r64 → at' (.job e g) fun x =>
          ({ x with job := (r64 ++ x.jobFeed).take 16, jobFeed := (r64 ++ x.jobFeed).drop 16 } : Eng).setG g d.toNat) ∧
        (x.job = [] → exec (.job e g) s = .next s) ∧
        (x.jobRes = [] → x.answer = [] → 1 ≤ d.toNat / 2 ^ 40 % 2 ^ 16 → at' (.jobRes e d) fun x => { x with answer := [d] }) ∧
        (∀ j h, x.jobRes = [] → x.answer = [] → d.toNat / 2 ^ 40 % 2 ^ 16 = 0 → x.running = some j → j.tag = d.toNat % 2 ^ 16 →
          j.words.head? = some h → h.toNat / 2 ^ 56 = d.toNat / 2 ^ 56 → s.silo.jobs = [] →
          let ended := s.updEng e fun x => { x with running := none }
          (d.toNat / 2 ^ 16 % 2 ^ 8 = 0 → exec (.jobRes e d) s = .next ended) ∧
          (∀ c q, j.owner = .session c q.id → s.session c = some q → d.toNat / 2 ^ 16 % 2 ^ 8 = 2 →
            exec (.jobRes e d) s = .next (serveKeyWait (hsFail ended c hsEntropy q.reroot)))) ∧
        (16 ≤ x.jobRes.length → exec (.jobRes e d) s = .next s)) ∧
      (engClass e ≠ 0 → x.xbCmd = [] →
        (x.xbRd = (d, false) :: rrd → at' (.xbRd e g) fun x =>
          ({ x with xbRd := (rrd ++ x.xbFeed).take 64, xbFeed := (rrd ++ x.xbFeed).drop 64 } : Eng).setG g d.toNat) ∧
        (x.xbRd = [] → exec (.xbRd e g) s = .next s) ∧ (64 ≤ x.xbWd.length → exec (.xbWd e d) s = .next s) ∧
        (x.xbRd = (d, true) :: rrd → d ≠ 0 → exec (.xbRd e g) s = .next (takeException s e 9)) ∧
        (x.xbWd.length < 64 → at' (.xbWd e d) fun x => { x with xbWd := x.xbWd ++ [d] }) ∧
        (d.toNat.testBit 63 = true → x.xbWd = [] → at' (.xbCmd e d) fun x => { x with xbCmd := [d] }))) ∧
  (∀ (s : State) (e : Fin 70) (line : Fin 8) (k : Fin 4) (m : Master) (w : Word),
      let x := s.eng e
      (engState s e = engRunning → ∀ j v, x.blocked = some [wholeVal j v] → v < 2 ^ 128 →
        ∃ u, exec (.blockingOpDone e) s = .next u ∧ onlyEng s u e ∧ (u.eng e).blocked = none ∧ (u.eng e).val j = v) ∧
      (x.timer ≠ 0 → exec (.engineTimerExpiry e) s = .next (s.updEng e fun x => { x with timer := 0, timerHit := true })) ∧
      (engState s e = engAsleep → engClass e ≠ 1 → linePending s e line = true →
        exec (.engineWake e line) s = .next (s.setF ENG_STATUS.STATE e engRunning)) ∧
      (linePending s e line = false → exec (.engineWake e line) s = .next s) ∧
      (engState s (64 + k) = engAsleep → kclkLocked s = true →
        exec (.keyEngineWake k) s = .next (s.setF ENG_STATUS.STATE (64 + k) engRunning)) ∧
      (reaches s .eng m e → w.toNat = 2 ^ 31 → engState s e = engRunning → 64 ≤ e.val →
        exec (.engineReset m w) s = .next (s.raise ENG_EVT.CTL_IGNORED e)) ∧
      (reaches s .eng m e → w.toNat = 2 ^ 31 → engState s e = engWedged → e.val < 68 →
        ∃ u, exec (.engineReset m w) s = .next u ∧ u.eng e = { Eng.reset with cfault := x.cfault &&& 0x55 } ∧
          engState u e = engResetting ∧ u.ram e = [] ∧ u.reg .ENG_EXC e = 0 ∧ ∀ j, j ≠ e.val → u.eng j = s.eng j) ∧
      (reaches s .eng m e → w.toNat = 1 → ∃ u, exec (.engCntClr m w) s = .next u ∧
        (∀ c ∈ engCounters, u.cnt c e = 0) ∧ onlyRegs s u [] (engCounters.map fun c => (c, e.val))) ∧
      (∀ img, engState s e = engResetting → codeImage (codeSheaf s e) e = some img → 64 ≤ e.val → e.val < 68 →
        ∃ u, exec (.engineResetDone e) s = .next u ∧ engState u e = engRunning ∧ u.fb ENG_EVT.RESET_DONE e = true ∧
          (u.eng e).pc = BitVec.ofNat 32 (leAt img.bytes 12 4) ∧ (u.eng e).ivb = BitVec.ofNat 32 (leAt img.bytes 16 4) ∧
          (u.eng e).fly = [] ∧ (u.eng e).g = []))

/-- A refused request has no effect but its record (R10, R541, R542): of several causes the lowest code is reported, and
with none the request takes effect after OK is set. -/
def Obligations.RefusedRequestsChangeOnlyTheRecord : Prop :=
  ∀ (s : State) (chk : Reg) (m : Master) (inst : Nat) (codes : List Nat) (effect : State → State),
    chk.info.blk ≠ .GLB → (∀ c ∈ codes, c < 2 ^ 16) →
    (codes = [] → checked s chk m inst codes effect = effect (s.setReg chk (masterIdx m) 0x40000000)) ∧
    (∀ c, c ∈ codes → (∀ d ∈ codes, c ≤ d) → refusedWith s (checked s chk m inst codes effect) chk m inst c)

/-- PORT_CTL (R53, R63, R64, R75): an accepted provisioning sets PROV and powers every slice of the port, whose sleeping
engines load; READY follows the slices; an ACTIVE twin member sends a record of it and a SHADOW judges SYNC, and nothing else
goes out. An accepted deprovisioning discards what the port's queues hold, clears its status and gates the slices on which no
port remains; an accepted loopback request takes effect on a provisioned port. A request with a cause against it is
refused.
Port configuration (R54, R55, R69, R79): a write that no cause refuses leaves the written bits in its register; flow control
is then judged anew; taps that add up to more than 63 are ignored; the counters are cleared by command. -/
def Obligations.PortRequestsTakeEffect : Prop :=
  (∀ (s : State) (m : Master) (p : Fin 64) (v : Word), reaches s .port m p →
      let lpbk := v.toNat / 2 ^ 8 % 4
      let ctl := BitVec.ofNat 32 (lpbk * 2 ^ 8 + v.toNat % 2)
      let chk := masterIdx m
      (v.toNat % 2 = 1 → provisioned s p = false → loopbackCauses s p lpbk = [] →
        provisionCauses (s.setF PORT_STATUS.PROV p 1) p = [] →
        ∃ t, exec (.portProvision m v) s = .next t ∧ accepted t .PORT_CHECK m ∧ provisioned t p = true ∧ t.reg .PORT_CTL p = ctl ∧
          (∀ sl ∈ portSlices s p, (t.slice sl).powered = true) ∧ (∀ sl, sl ∉ portSlices s p → t.slice sl = s.slice sl) ∧
          (∀ sl ∈ portSlices s p, (s.slice sl).powered = false → ∀ e, e / 2 = sl →
            engState t e = if engState s e = engWedged then engWedged else engLoading) ∧
          t.fb PORT_STATUS.READY p = (portSlices s p).all (fun sl => (t.slice sl).ready) ∧
          t = { s with regs := t.regs, cnts := t.cnts, slices := t.slices, pllRun := t.pllRun, twin := t.twin, out := t.out } ∧
          (s.f TWN_STATUS.ROLE 0 ≠ 1 → s.f TWN_STATUS.ROLE 0 ≠ 2 → t.twin = s.twin ∧ t.out = s.out ∧ t.cnts = s.cnts) ∧
          keepsCnts s t [(.TWN_MIRROR_TX, 0)] ∧
          keepsRegs s t ([(.PORT_CTL, p.val), (.PORT_STATUS, p.val), (.PORT_CHECK, chk), (.TWN_STATUS, 0), (.TWN_EVT, 0)] ++
            (portSlices s p).flatMap fun sl => [(.ENG_STATUS, 2 * sl), (.ENG_STATUS, 2 * sl + 1)])) ∧
      (v.toNat % 2 = 0 → provisioned s p = true → linkUp s p = false → loopbackCauses s p lpbk = [] → portInUse s p = false →
        clientsOf s p = [] → ∃ t, exec (.portDeprovision m v) s = .next t ∧ accepted t .PORT_CHECK m ∧
          t.reg .PORT_STATUS p = 0 ∧ t.reg .PORT_CTL p = ctl ∧ (t.port p).slots = [] ∧ (t.port p).paused = [] ∧
          (32 ≤ p.val → (t.link (p - 32)).tx = [] ∧ (t.link (p - 32)).msgs = []) ∧
          (p.val < 32 → s.Canon → ∀ c, (t.chan c).eq = (s.chan c).eq.filter (fun q => q.port != p.val) ∧
            (t.chan c).iq = (s.chan c).iq.filter (fun q => q.port != p.val)) ∧
          (∀ sl ∈ portSlices s p, sliceProvisioned t sl = false → (t.slice sl).powered = false) ∧
          (∀ q, q ≠ p.val → t.reg .PORT_STATUS q = s.reg .PORT_STATUS q)) ∧
      (v.toNat % 2 = 1 → provisioned s p = true → loopbackCauses s p lpbk = [] →
        ∃ t, exec (.portLoopbackSet m v) s = .next t ∧ accepted t .PORT_CHECK m ∧ t.f PORT_CTL.LPBK p = lpbk ∧
          onlyRegs s t [(.PORT_CTL, p), (.PORT_CHECK, chk)] []) ∧
      (v.toNat % 2 = 1 → provisioned s p = true → ∀ c ∈ loopbackCauses s p lpbk, (∀ d ∈ loopbackCauses s p lpbk, c ≤ d) →
        ∃ t, exec (.portLoopbackSet m v) s = .next t ∧ refusedWith s t .PORT_CHECK m p c) ∧
      (v.toNat % 2 = 0 → provisioned s p = true → loopbackCauses s p lpbk = [] → portInUse s p = true →
        ∃ t, exec (.portDeprovision m v) s = .next t ∧ refusedWith s t .PORT_CHECK m p 0x4B)) ∧
  (∀ (s : State) (m : Master) (p : Fin 64) (v : Word) (lr : LaneReg) (tr : ThrReg) (i : Fin 8), reaches s .port m p →
      let chk := masterIdx m
      let written := fun (r : Reg) => s.setReg r p (maskedWrite r v)
      let taps := v.toNat / 2 ^ 18 % 64 + v.toNat / 2 ^ 12 % 64 + v.toNat / 2 ^ 6 % 64 + v.toNat % 64
      let flows := fun (ins : Instr) (r : Reg) => ∃ t, exec ins s = .next t ∧ accepted t .PORT_CHECK m ∧
        t.reg r p = maskedWrite r v ∧ t = { s with regs := t.regs, cnts := t.cnts, out := t.out, ports := t.ports } ∧
        keepsRegs s t [(r, p), (.PORT_CHECK, chk), (.PORT_STATUS, p), (.PORT_EVT, p), (.PORT_EXP_OCC, p)] ∧
        keepsCnts s t [(.PORT_PAUSE_TX, p), (.PORT_TX_FRAMES, p), (.PORT_RX_FRAMES, p), (.PORT_PAUSE_RX, p), (.PORT_CTL_DROP, p)] ∧
        (s.f PORT_CTL.LPBK p ≠ 1 → t.ports = s.ports) ∧
        (s.f PORT_CTL.LPBK p = 1 ∨ s.f PORT_CTL.LPBK p = 2 → t.out = s.out)
      let sets := fun (ins : Instr) (r : Reg) => ∃ t, exec ins s = .next t ∧ accepted t .PORT_CHECK m ∧
        t.reg r p = maskedWrite r v ∧ onlyRegs s t [(r, p), (.PORT_CHECK, chk)] []
      (cfgCauses s (written .PORT_CFG) p = [] → sets (.portCfgWrite m v) .PORT_CFG) ∧
      (provisioned s p = false → sets (.portLaneMapWrite m lr v) (laneRegName lr)) ∧
      (provisioned s p = true → ∃ t, exec (.portLaneMapWrite m lr v) s = .next t ∧ refusedWith s t .PORT_CHECK m p 0x52) ∧
      (fcCauses (written .PORT_FC) p = [] → flows (.portFcWrite m v) .PORT_FC) ∧
      (thresholdCauses (written (thrRegName tr)) p (provisioned s p && !isLine p) = [] →
        flows (.portThresholdWrite m tr v) (thrRegName tr)) ∧
      (taps ≤ 63 → exec (.portTxeqWrite m i v) s = .next (s.setReg .PORT_TXEQ (8 * p + i) (maskedWrite .PORT_TXEQ v))) ∧
      (63 < taps → exec (.portTxeqWrite m i v) s = .next s) ∧
      (v.toNat % 2 = 1 → ∃ t, exec (.portCntClr m v) s = .next t ∧ (∀ c ∈ portCtrs, t.cnt c p = 0) ∧
        onlyRegs s t [] (portCtrs.map fun c => (c, p.val))))

/-- R54: on a provisioned port a write to WIDTH, TYPE, FRAMING or PAIR is refused with 0x52, and the fields keep their values;
once the port is deprovisioned a write sets them. -/
def Obligations.ProvisionedPortsKeepTheirShape : Prop :=
  ∀ (s : State) (m : Master) (p : Fin 64) (v : Word), reaches s .port m p →
    let w := s.setReg .PORT_CFG p (maskedWrite .PORT_CFG v)
    let shape := [PORT_CFG.WIDTH, PORT_CFG.TYPE, PORT_CFG.FRAMING, PORT_CFG.PAIR]
    (provisioned s p = true → (∃ x ∈ shape, w.f x p ≠ s.f x p) →
      ∃ t, exec (.portCfgWrite m v) s = .next t ∧ refusedWith s t .PORT_CHECK m p 0x52 ∧ ∀ x ∈ shape, t.f x p = s.f x p) ∧
    (provisioned s p = false → ∃ t, exec (.portCfgWrite m v) s = .next t ∧ accepted t .PORT_CHECK m ∧
      (∀ x ∈ shape, t.f x p = w.f x p) ∧ onlyRegs s t [(.PORT_CFG, p), (.PORT_CHECK, masterIdx m)] [])

/-- R122 and R288: each master has its own CH_SEL and ENG_SEL; a master's write never changes what another selects; a channel
number from 16,384 up, and an engine number above 69 or of an engine that is fused off, maps no window, which then reads as
zero and ignores writes, and sets the error bit of that master. CH_SEL.CH is 16 bits wide. -/
def Obligations.SelectorsBelongToTheirMaster : Prop :=
  ∀ (s : State) (m : Master) (sel : SelBlock) (a v : Word) (off : Nat), sel = .ch ∨ sel = .eng →
    placeOf s m a.toNat = .at (selBlk sel) off →
    let n := s.f (selField sel).1 (masterIdx m)
    let missed := s.setF (selField sel).2 (masterIdx m) 1
    (a.toNat % 4 = 0 → off = 0 → ∃ t, exec (.registerWrite m a v) s = .next t ∧
      (∀ k, k ≠ m → ∀ b, selected t b k = selected s b k) ∧
      (m ≠ .host ∨ hostView s ≠ 1 → t.f (selField sel).1 (masterIdx m) = v.toNat % 2 ^ (if sel = .ch then 16 else 7))) ∧
    (selected s sel m = none ↔ (sel = .ch ∧ 16384 ≤ n) ∨ (sel = .eng ∧ (69 < n ∨ (s.isHA = true ∧ 32 ≤ n ∧ n < 64)))) ∧
    (selected s sel m = none → 0x100 ≤ off → off < (if sel = .ch then 0x1000 else 0x100000) →
      regRead s m a.toNat = (0, rOkay, missed) ∧
      (a.toNat % 4 = 0 → exec (.registerWrite m a v) s = .next missed))

/-- Stages of link-up and of a loss (R58–R60, R77): lock on every lane, adaptation, alignment, the up-hold, the link; a lane
that fails starts a down-hold, whose end clears the link; fault ordered sets show in LF and RF. -/
def Obligations.LinksComeUpAndGoDown : Prop :=
  ∀ (s : State) (p : Fin 64) (lane : Fin 8) (k : LaneFail) (lf rf : Bool),
    let ready := s.fb PORT_STATUS.READY p = true
    let st := [(Reg.PORT_STATUS, p.val)]
    let ev := [(Reg.PORT_STATUS, p.val), (Reg.PORT_EVT, p.val)]
    (ready → ∃ t, exec (.cdrLock p) s = .next t ∧ t.f PORT_STATUS.LOCK p = laneMask s p ∧ t.f PORT_STATUS.SIG p = laneMask s p ∧
      onlyRegs s t st []) ∧
    (ready → s.f PORT_STATUS.LOCK p = laneMask s p →
      exec (.rxAdaptationDone p) s = .next (s.setPort p { s.port p with adapted := true })) ∧
    (canAlign s p = true → linkUp s p = false → s.f PORT_HOLD.UP_HOLD p ≠ 0 → ∃ t, exec (.portAlignment p) s = .next t ∧
      t.fb PORT_STATUS.ALIGN p = true ∧ linkUp t p = false ∧ onlyRegs s t st []) ∧
    (canAlign s p = true → linkUp s p = false → s.f PORT_HOLD.UP_HOLD p = 0 →
      p.val < 32 ∨ s.keys = [] →
      ∃ t, exec (.portAlignment p) s = .next t ∧ linkUp t p = true ∧ t.fb PORT_EVT.LINK_UP p = true ∧ onlyRegs s t ev []) ∧
    (canAlign s p = true → linkUp s p = true → ∃ t, exec (.portAlignment p) s = .next t ∧ t.fb PORT_STATUS.HOLD p = false ∧
      linkUp t p = true ∧ onlyRegs s t st []) ∧
    (ready → s.fb PORT_STATUS.ALIGN p = true → linkUp s p = false → p.val < 32 ∨ s.keys = [] → ∃ t, exec (.upHoldExpiry p) s = .next t ∧
      linkUp t p = true ∧ t.fb PORT_EVT.LINK_UP p = true ∧ onlyRegs s t ev []) ∧
    (ready → lane.val < portWidth s p → linkUp s p = true → s.f PORT_HOLD.DOWN_HOLD p ≠ 0 →
      (isLine p && framing s p == frOtn) = false → ∃ t, exec (.laneFailure p lane k) s = .next t ∧
        t.fb PORT_STATUS.ALIGN p = false ∧ t.fb PORT_STATUS.HOLD p = true ∧ linkUp t p = true ∧
        (k ≠ .align → bitAt (t.f PORT_STATUS.LOCK p) lane = false) ∧ (k = .signal → bitAt (t.f PORT_STATUS.SIG p) lane = false) ∧
        onlyRegs s t ev []) ∧
    (s.fb PORT_STATUS.HOLD p = true → p.val < 32 → ∃ t, exec (.downHoldExpiry p) s = .next t ∧ linkUp t p = false ∧
      t.fb PORT_STATUS.HOLD p = false ∧ t.fb PORT_EVT.LINK_DOWN p = true ∧ (t.port p).adapted = false ∧
      t = { s with regs := t.regs, ports := t.ports } ∧ keepsRegs s t ev) ∧
    (s.fb PORT_STATUS.HOLD p = true → 32 ≤ p.val → s.sessions = [] → adjacent s (p - 32) = false →
      s.fb TWN_CFG.FO_LINK 0 = false → ∃ t, exec (.downHoldExpiry p) s = .next t ∧ linkUp t p = false ∧
        t.fb PORT_EVT.LINK_DOWN p = true ∧ (t.port p).adapted = false) ∧
    (ready → seesLine s p = false → exec (.faultOrderedSetsRx p lf rf) s = .next s) ∧
    (ready → seesLine s p = true → ∃ t, exec (.faultOrderedSetsRx p lf rf) s = .next t ∧
      t.fb PORT_STATUS.LF p = (lf || !s.fb PORT_STATUS.ALIGN p) ∧ t.fb PORT_STATUS.RF p = rf ∧
      t = { s with regs := t.regs, ports := t.ports } ∧ keepsRegs s t st)

/-- Pause (R45, R65, R69): a MAC control frame with a bad FCS or size is dropped and counted as such; a PAUSE or PFC frame that
a client port receives sets the quanta of what it names, and their expiry clears them; while the occupancy stays above XON the
port repeats its own frame, which a far-end loopback keeps back (R63). CLIENT_FRAME_RX (R15, R29, R131, R155): a frame with a
bad FCS or size counts as such, and one that no channel matches is counted. A frame of a channel then passes the egress half of
the slice buffer of its port's first slice (log 79), and one with an uncorrectable word there is discarded and counted (R408).
One of a running MACsec Seal channel that fits both limits is written to the buffer half of its port without its FCS, from where
it can be read again, and is appended to the channel's egress queue; one over PORT_EXP_LIMIT is dropped and counted. Beside that
the FEC counts that come with the frame are added up (R48, R79). -/
def Obligations.FramesOfClientPortsAreTaken : Prop :=
  (∀ (s : State) (p : Fin 64) (f : List Byte) (pri : BitVec 8) (n : Fin 8),
      let quanta := fun (t : State) (k : Nat) => ((t.port p).paused.find? fun e => e.1 == k).map (·.2)
      let op := beAt f 14 2
      let sized := 64 ≤ f.length ∧ f.length ≤ 9600
      (p.val < 32 → hears s p = true → fcsGood f = false ∨ ¬ sized → ∃ t, exec (.macControlFrameRx p f) s = .next t ∧
        counted s t .PORT_FCS_ERR p ∧ onlyRegs s t [] [(.PORT_FCS_ERR, p)]) ∧
      (p.val < 32 → sized → hears s p = true → fcsGood f = true → op = 1 → beAt f 16 2 ≠ 0 →
        ∃ t, exec (.macControlFrameRx p f) s = .next t ∧ quanta t 8 = some (beAt f 16 2) ∧
          (∀ k : Nat, k < 8 → quanta t k = quanta s k) ∧ counted s t .PORT_PAUSE_RX p ∧ counted s t .PORT_RX_FRAMES p ∧
          t = { s with cnts := t.cnts, ports := t.ports }) ∧
      (p.val < 32 → sized → hears s p = true → fcsGood f = true → op = 0x0101 → beAt f (18 + 2 * n) 2 ≠ 0 →
        bitAt (beAt f 16 2) n = true → ∃ t, exec (.macControlFrameRx p f) s = .next t ∧
          quanta t n = some (beAt f (18 + 2 * n) 2) ∧ counted s t .PORT_PAUSE_RX p ∧ t = { s with cnts := t.cnts, ports := t.ports }) ∧
      (p.val < 32 → sized → hears s p = true → fcsGood f = true → op ≠ 1 → op ≠ 0x0101 →
        ∃ t, exec (.macControlFrameRx p f) s = .next t ∧ counted s t .PORT_CTL_DROP p ∧ t.fb PORT_EVT.CTL_DROP p = true ∧
          onlyRegs s t [(.PORT_EVT, p)] [(.PORT_CTL_DROP, p), (.PORT_RX_FRAMES, p)]) ∧
      (∃ t, exec (.pauseQuantaExpiry p 0) s = .next t ∧ quanta t 8 = none ∧ (∀ k : Nat, k < 8 → quanta t k = quanta s k) ∧
        t = { s with ports := t.ports }) ∧
      (pri.getLsbD n = true → ∃ t, exec (.pauseQuantaExpiry p pri) s = .next t ∧ quanta t n = none ∧
        quanta t 8 = quanta s 8 ∧ t = { s with ports := t.ports }) ∧
      (p.val < 32 → provisioned s p = true → s.f PORT_FC.MODE p = 1 ∨ s.f PORT_FC.MODE p = 2 → s.fb PORT_STATUS.XOFF p = true →
        1024 * s.f PORT_XON.KIB p < occupancy s p → s.f PORT_CTL.LPBK p = 0 →
        ∃ t, exec (.pauseRepeat p) s = .next t ∧ t.out = s.out ++ [.client p (pauseFrame s p 0xFFFF)] ∧
          counted s t .PORT_PAUSE_TX p ∧ counted s t .PORT_TX_FRAMES p ∧
          t = { s with regs := t.regs, cnts := t.cnts, out := t.out } ∧ keepsRegs s t [(.PORT_EXP_OCC, p)]) ∧
      (s.f PORT_CTL.LPBK p = 2 → ∃ t, exec (.pauseRepeat p) s = .next t ∧
        onlyRegs s t [(.PORT_EXP_OCC, p), (.PORT_STATUS, p), (.PORT_EVT, p)] [])) ∧
  (∀ (s : State) (p : Fin 64) (f : List Byte) (c w : Nat) (wrong : List Nat) (n : Staged) (fec : FecCount), p.val < 32 → hears s p = true → framing s p ≠ frOtn →
      let fr := f.take (f.length - 4)
      let pri := (vlanOf fr).2
      let e : QFrame := ⟨fr.length, p, pri, 0, []⟩
      let good := fcsGood f = true ∧ 64 ≤ f.length ∧ f.length ≤ 9600 ∧ beAt f 12 2 ≠ 0x8808
      let cls := classify s p (vlanOf fr).1 pri
      let half := 71 + halfOf p
      let fecs := fecCnts p
      let takes := fun (t : State) (n : Staged) => exec (.clientFrameRx p f ⟨fec, n⟩) s = .next t ∧
        passedBuffer s t p false fr
      (good → cls = some c → s.lost = [] → chFraming s c = frMacsec → ctxBit s Ctx.TFC_EN c = false → ctx s Ctx.MARK_KIB c = 0 →
        occupancyAll s p + lineLen s c e ≤ 1024 * s.f PORT_EXP_LIMIT.KIB p →
        chanOccupancy s c + lineLen s c e ≤ 1024 * ctx s Ctx.EQ_LIMIT c →
        hasRoom s (halfOf p) (s.chan c).eq 1 → memQuiet s half →
        ∃ t q, takes t .clean ∧ t.chan c = { s.chan c with eq := (s.chan c).eq ++ [q] } ∧ keepsChans s t c ∧
          q.len = fr.length ∧ q.port = p.val ∧ q.pri = pri ∧ q.half = halfOf p ∧ bufFetch t q = (fr, false, t) ∧
          keepsMem s t (frameRanges q) ∧ counted s t .PORT_RX_FRAMES p ∧
          t = { s with regs := t.regs, cnts := t.cnts, chans := t.chans, out := t.out, slices := t.slices, rams := t.rams,
                       valid := t.valid, memCtl := t.memCtl } ∧
          keepsRegs s t [(.PORT_EXP_OCC, p), (.PORT_STATUS, p), (.PORT_EVT, p)] ∧
          keepsCnts s t ([(.PORT_RX_FRAMES, p.val), (.PORT_PAUSE_TX, p.val), (.PORT_TX_FRAMES, p.val)] ++ fecs)) ∧
      (good → cls = some c → s.lost = [] → 1024 * s.f PORT_EXP_LIMIT.KIB p < occupancyAll s p + lineLen s c e →
        ∃ t, takes t .clean ∧ counted s t .PORT_EXP_DROP p ∧ t.fb PORT_EVT.EXP_DROP p = true ∧
          pends t c cOutDropQ = pends s c cOutDropQ + 1 ∧
          t = { s with regs := t.regs, cnts := t.cnts, cntPend := t.cntPend, slices := t.slices } ∧
          keepsRegs s t [(.PORT_EVT, p)] ∧ keepsCnts s t ([(.PORT_EXP_DROP, p.val), (.PORT_RX_FRAMES, p.val)] ++ fecs)) ∧
      (good → cls = none → s.lost = [] → polBypass s p = false →
        ∃ t, exec (.clientFrameRx p f ⟨fec, n⟩) s = .next t ∧ counted s t .CH_PORTCNT p ∧ counted s t .PORT_RX_FRAMES p ∧
          t = { s with regs := t.regs, cnts := t.cnts } ∧
          keepsRegs s t [(.PORT_EVT, p)] ∧ keepsCnts s t ([(.CH_PORTCNT, p.val), (.PORT_RX_FRAMES, p.val)] ++ fecs)) ∧
      (fcsGood f = false ∨ f.length < 64 ∨ 9600 < f.length →
        ∃ t, exec (.clientFrameRx p f ⟨fec, n⟩) s = .next t ∧ counted s t .PORT_FCS_ERR p ∧
          t = { s with regs := t.regs, cnts := t.cnts } ∧
          keepsRegs s t [(.PORT_EVT, p)] ∧ keepsCnts s t ((.PORT_FCS_ERR, p.val) :: fecs)) ∧
      (good → cls = some c → s.lost = [] → ∃ t, takes t (.bad w wrong) ∧ counted s t .MEM_DP_DISCARD half ∧
        counted s t .MEM_UE half ∧ t.fb MEM_EVT.UE half = true ∧ counted s t .PORT_RX_FRAMES p ∧
        t = { s with regs := t.regs, cnts := t.cnts, slices := t.slices, memCtl := t.memCtl } ∧
        keepsRegs s t ([(.PORT_EVT, p.val), (.MEM_EVT, half), (.MEM_OVF, half)] ++
          (List.range 4).map fun i => (.MEM_FE, 4 * half + i)) ∧
        keepsCnts s t ([(.MEM_DP_DISCARD, half), (.MEM_UE, half), (.PORT_RX_FRAMES, p.val)] ++ fecs)) ∧
      (s.fb PORT_STATUS.ALIGN p = true → ∃ t, exec (.clientFrameRx p f ⟨fec, n⟩) s = .next t ∧
        t.cnt .PORT_FEC_UNCORR p = BitVec.ofNat 64 (satAdd 64 (s.cnt .PORT_FEC_UNCORR p).toNat fec.uncorr) ∧
        (fec.uncorr ≠ 0 → t.fb PORT_EVT.FEC_UNCORR p = true)))

/-- TRANSMIT_OPPORTUNITY (R30, R86–R90, R140, R159, R334): with no tithe frame to send, the port's one MACsec Seal channel, whose
deficit with what the pointer gives it as it comes covers the frame at the head of its queue, seals that frame under the
current slot and the next number; the number and the blocks used advance, and the unit takes the next transmit slot and goes
to its engine with a descriptor.
Bales leave as one sealed unit each (R97–R102): at its timeout an open bale closes with what it holds; at a sending instant
of traffic-flow confidentiality a bale of TFC_LEN leaves, with padding where no frame waits.
The round robin reaches every unit (R160): whichever deficits the channels hold and wherever the pointer stands, with weights
of at least 1 and units of at most 16,446 bytes some channel is served, its deficit is charged its unit, it is one of the
candidates, and every other channel has gained whole credits. -/
def Obligations.OpportunitiesSealAndServe : Prop :=
  (∀ (s u : State) (p : Fin 64) (c e : Nat) (f : QFrame) (rest : List QFrame),
      let blocks := macsecBlocks s c f.len
      let n := ctx s Ctx.NEXT_SEQ c
      let k := egCur s c
      let ps := s.port p
      let fr := (bufFetch s f).1
      let credit := if ps.rrHere = true ∧ ps.rrNext = c then 0 else 64 * ctx s Ctx.WEIGHT c
      lineSends s p = true → titheServe s (p.val - 32) = none → portChans s p = [c] → chFraming s c = frMacsec →
      ctxBit s Ctx.TFC_EN c = false → (s.chan c).eq = f :: rest →
      lineLen s c f ≤ (s.chan c).deficit + credit → seqDecide s c blocks = .stay → takeEngine s p = some (e, u) →
      s.f TWN_STATUS.ROLE 0 ≠ 1 → memQuiet s ctxCtl →
      ∃ t, exec (.transmitOpportunity p) s = .next t ∧ (t.chan c).eq = rest ∧ keepsChans s t c ∧
        (t.chan c).deficit =
          (if rest = [] ∧ (s.chan c).ready = [] then 0 else (s.chan c).deficit + credit - lineLen s c f) ∧
        (t.port p).slots = ps.slots ++ [⟨c, e, macsecFrame s c (egMat s c k) n fr, false, ps.slotNext⟩] ∧
        (t.port p).slotNext = (ps.slotNext + 1) % 2 ^ 16 ∧
        t.eng e = (s.eng e).giveUnit (inDescOf n fr.length ps.slotNext k c) fr ∧ (∀ j, j ≠ e → t.eng j = s.eng j) ∧
        ctx t Ctx.NEXT_SEQ c = n + 1 ∧ ctx t Ctx.EPOCH_BLOCKS c = (ctx s Ctx.EPOCH_BLOCKS c + blocks) % 2 ^ 64 ∧
        pends t c cOutOk = pends s c cOutOk + 1 ∧ pends t c cOutOctets = pends s c cOutOctets + f.len ∧
        keepsCtx s t c [Ctx.NEXT_SEQ, Ctx.EPOCH_BLOCKS] ∧ (∀ q, q ≠ p.val → q ≠ f.port → t.port q = s.port q) ∧
        t = { s with regs := t.regs, cnts := t.cnts, out := t.out, chans := t.chans, ports := t.ports, cntPend := t.cntPend,
                     rams := t.rams, valid := t.valid, memCtl := t.memCtl, engs := t.engs } ∧
        keepsRegs s t [(.PORT_EXP_OCC, f.port), (.PORT_STATUS, f.port), (.PORT_EVT, f.port)]) ∧
  (∀ (s : State) (c : Fin 16384) (b : OpenBale),
      let k := egCur s c
      let n := ctx s Ctx.NEXT_SEQ c
      let sealed := fun (t : State) (fs : List QFrame) (payload : List Byte) =>
        (t.chan c).openBale = none ∧
        (t.chan c).ready = (s.chan c).ready ++
          [⟨baleFrame s c (egMat s c k) n payload, fs.length, false, n, k, payload⟩] ∧
        ctx t Ctx.NEXT_SEQ c = n + 1 ∧
        pends t c cOutOctets = pends s c cOutOctets + clientBytes fs ∧ keepsCtx s t c [Ctx.NEXT_SEQ, Ctx.EPOCH_BLOCKS] ∧
        keepsChans s t c ∧ (∀ q, q ≠ chClient s c → t.port q = s.port q) ∧
        t = { s with regs := t.regs, cnts := t.cnts, out := t.out, chans := t.chans, ports := t.ports, cntPend := t.cntPend,
                     rams := t.rams, valid := t.valid, memCtl := t.memCtl }
      let runs := chFraming s c = frBale ∧ chRuns s c = true ∧ (s.chan c).eq = [] ∧ s.f TWN_STATUS.ROLE 0 ≠ 1 ∧ memQuiet s ctxCtl
      let bytes := fun (fs : List QFrame) => (bufFetchAll s fs).1
      let long := fun (fs : List QFrame) => balePayload (bytes fs) (some (baleMax s c))
      let blocks := fun (fs : List QFrame) => baleBlocks (max (recordBytes fs) (baleMax s c))
      (runs → ctxBit s Ctx.TFC_EN c = false → (s.chan c).openBale = some b →
        seqDecide s c (baleBlocks (recordBytes b.frames)) = .stay →
        ∃ t, exec (.baleTimeout c) s = .next t ∧ sealed t b.frames (balePayload (bytes b.frames) none)) ∧
      (runs → ctxBit s Ctx.TFC_EN c = true → (s.chan c).openBale = some b → seqDecide s c (blocks b.frames) = .stay →
        ∃ t, exec (.tfcSendInstant c) s = .next t ∧ sealed t b.frames (long b.frames)) ∧
      (runs → ctxBit s Ctx.TFC_EN c = true → (s.chan c).openBale = none → seqDecide s c (blocks []) = .stay →
        ∃ t, exec (.tfcSendInstant c) s = .next t ∧ sealed t [] (long [])) ∧
      (ctxBit s Ctx.TFC_EN c = true → exec (.baleTimeout c) s = .next s)) ∧
  (∀ (cands : List Nat) (len weight d : Nat → Nat) (ptr : Nat) (here : Bool), cands ≠ [] → cands.Pairwise (· < ·) →
      (∀ c ∈ cands, 1 ≤ weight c ∧ len c ≤ 16446) →
      ∃ c d', dwrr cands len weight (dwrrFuel cands.length) d ptr here = some (c, d') ∧ c ∈ cands ∧
        (∃ k, d' c + len c = d c + 64 * weight c * k) ∧ ∀ x, x ≠ c → ∃ k, d' x = d x + 64 * weight x * k)

/-- A switch of the egress key (R139, R141, R147): the next slot becomes current, numbering and the block count start anew,
the clock of the epoch starts now, and the channel starves no longer; an ACTIVE twin member sends a record of it (R240).
Rotation (R142): the next slot becomes current, the old current previous, and the slot that becomes next is empty. Both start the
derivation of the epoch that follows, where one may follow (R34, R144).
Epoch keys (R139, R144, R145, R192): the key that is derived for the epoch that follows goes into the next slot of its half,
complete before its VALID bit, which on an ACTIVE twin member waits for the SHADOW in the egress half (R241); the derivation is
a job that the Silo queues (R511). A root that expires says so and derives no more. -/
def Obligations.SlotsSwitchRotateAndFill : Prop :=
  (∀ (s : State) (c : Nat), memQuiet s ctxCtl →
      let t := epochSwitch s c
      egCur t c = 1 - egCur s c ∧ ctx t Ctx.NEXT_SEQ c = 1 ∧ ctx t Ctx.EPOCH_BLOCKS c = 0 ∧
        ctx t Ctx.EPOCH_START c = s.rtc.toNat ∧ pends t c cEpochCount = pends s c cEpochCount + 1 ∧
        t.fb CH_STATUS.STARVED c = false ∧ (t.chan c).forced = false ∧
        (t.chan c).retiring = bitAt (ctx s Ctx.VALID c) (egCur s c) ∧
        keepsCtx s t c [Ctx.CUR, Ctx.NEXT_SEQ, Ctx.EPOCH_BLOCKS, Ctx.EPOCH_START] ∧ keepsChans s t c ∧
        t = { s with regs := t.regs, chans := t.chans, cntPend := t.cntPend, rams := t.rams, valid := t.valid,
                     memCtl := t.memCtl, twin := t.twin, out := t.out, cnts := t.cnts, silo := t.silo, engs := t.engs,
                     pllRun := t.pllRun, keys := t.keys } ∧
        (∀ r e, nextEpoch t c (curEpoch t c true) true = some (r, e) → ctxBit s Ctx.IMPORT c = false → shadows s = false →
          (t.key c).jobTx = some e) ∧
        onlyDerives s t c ∧ onlyMirrors s t ∧ keepsRegs s t [(.CH_STATUS, c), (.CH_EVT, c)]) ∧
  (∀ (s : State) (c : Nat), memQuiet s ctxCtl → inCur s c ≤ 2 →
      let t := rotate s c
      let n := (inNext s c + 1) % 3
      inCur t c = inNext s c ∧ inPrev t c = inCur s c ∧ inNext t c = n ∧ ctxBit t Ctx.PREV_LIVE c = true ∧
        ctx t Ctx.ROT_TIME c = s.rtc.toNat / 1000 % 2 ^ 32 ∧ inValid t c n = false ∧ ctx t (inHigh n) c = 0 ∧
        ctxBytes t (inKey n) c = zeros 32 ∧ ctxBytes t (inAux n) c = zeros 32 ∧ ctx t (inSalt n) c = 0 ∧
        ctx t (inEpoch n) c = 0 ∧ ctx t Ctx.REPLAY_MAP c = 0 ∧
        (∀ k : Nat, k ≤ 2 → k ≠ n → inValid t c k = inValid s c k ∧ inMat t c k = inMat s c k ∧ ctx t (inHigh k) c = ctx s (inHigh k) c) ∧
        t = { s with rams := t.rams, valid := t.valid, memCtl := t.memCtl, twin := t.twin, out := t.out, cnts := t.cnts,
                     silo := t.silo, engs := t.engs, pllRun := t.pllRun, keys := t.keys } ∧
        onlyDerives s t c ∧ onlyMirrors s t ∧
        keepsCtx s t c [Ctx.IN_CUR, Ctx.PREV_LIVE, Ctx.ROT_TIME, Ctx.IN_VALID, inHigh n, Ctx.REPLAY_MAP, inKey n, inAux n,
          inEpoch n, inSalt n]) ∧
  (∀ (s : State) (c : Fin 16384) (r : Root) (e : Nat), memQuiet s ctxCtl → (s.key c).old = none →
      let free := ctxBit s Ctx.IMPORT c = false ∧ stReady ≤ chState s c
      let active := s.f TWN_STATUS.ROLE 0 = 1
      let holds := fun (t : State) (key aux epoch salt : CtxF) (mat : KeyMat) =>
        ctxBytes t key c = mat.key ∧ ctxBytes t aux c = mat.aux ∧ ctx t epoch c = e % 2 ^ 32 ∧ ctxBytes t salt c = mat.salt ∧
        t = { s with rams := t.rams, valid := t.valid, memCtl := t.memCtl, silo := t.silo, engs := t.engs, pllRun := t.pllRun,
                     keys := t.keys, twin := t.twin, out := t.out, cnts := t.cnts } ∧
        onlyJobs s t ∧ onlyMirrors s t ∧ ∀ d, d ≠ c.val → t.key d = s.key d
      (free → bitAt (ctx s Ctx.VALID c) (egNext s c) = false → (s.chan c).retiring = false → (s.key c).waitAck = false →
        nextEpoch s c (ctx s (egEpoch (egCur s c)) c) true = some (r, e) →
        let k := egNext s c
        ∃ t, exec (.epochKeyInstall c .egress) s = .next t ∧
          holds t (egKey k) (egAux k) (egEpoch k) (egSalt k) (epochKeys s c r true e) ∧
          keepsCtx s t c [egKey k, egAux k, egEpoch k, egSalt k, Ctx.VALID] ∧
          (¬ active → egValid t c k = true ∧ t.key c = { s.key c with jobTx := (t.key c).jobTx }) ∧
          (active → ctx t Ctx.VALID c = ctx s Ctx.VALID c ∧
            t.key c = { s.key c with waitAck := true, jobTx := (t.key c).jobTx })) ∧
      (free → inCur s c ≤ 2 → bitAt (ctx s Ctx.IN_VALID c) (inNext s c) = false →
        nextEpoch s c (ctx s (inEpoch (inCur s c)) c) false = some (r, e) → anBusy s c e = false →
        let k := inNext s c
        ∃ t, exec (.epochKeyInstall c .ingress) s = .next t ∧ inValid t c k = true ∧
          t.key c = { s.key c with jobRx := (t.key c).jobRx } ∧
          holds t (inKey k) (inAux k) (inEpoch k) (inSalt k) (epochKeys s c r false e) ∧
          keepsCtx s t c [inKey k, inAux k, inEpoch k, inSalt k, Ctx.IN_VALID]) ∧
      (ctxBit s Ctx.ROOT_OK c = true → ctxBit s Ctx.IMPORT c = false → ∃ t, exec (.rootExpiry c) s = .next t ∧
        ctxBit t Ctx.ROOT_EXP c = true ∧ t.fb CH_EVT.ROOT_EXPIRED c = true ∧ (t.key c).due = false ∧
        (s.session c = none → t.fb CH_STATUS.REKEYING c = false) ∧
        (∀ cur tx, nextEpoch t c cur tx = none) ∧ keepsCtx s t c [Ctx.ROOT_EXP] ∧
        keepsRegs s t [(.CH_EVT, c), (.CH_STATUS, c)] ∧
        t = { s with regs := t.regs, keys := t.keys, rams := t.rams, valid := t.valid, memCtl := t.memCtl }))

/-- Units leave in the order of their slots (R30, R286): discarded ones ahead are passed over, and what their engines have not
begun leaves with them (log 99). The slot that a switch left loses its key once no unit needs it (R141).
The ends of an ingress unit's way (R24, R143, R161, R395): the oldest frame of a delivery queue leaves on the client port with
its FCS, or is discarded for a poisoned word; the hold of the previous slot runs out; the counts that the engines hold reach
the context. -/
def Obligations.UnitsLeaveAndHoldsEnd : Prop :=
  (∀ (s : State) (p : Fin 64) (c : Fin 16384) (u : TxUnit) (rest : List TxUnit),
      let skipped := (s.port p).slots.takeWhile (·.discarded)
      let engines := fun (t : State) (us : List TxUnit) => ∀ e, (∀ x ∈ us, x.eng ≠ e) → t.eng e = s.eng e
      (lineSends s p = true → (s.port p).slots.dropWhile (·.discarded) = u :: rest → s.f PORT_CTL.LPBK p = 0 →
        ∃ t, exec (.reorderEmit p) s = .next t ∧ t.out = s.out ++ [.line p (u.bytes ++ Crypto.fcs u.bytes)] ∧
          t.port p = { s.port p with slots := rest } ∧ (∀ q, q ≠ p.val → t.port q = s.port q) ∧ counted s t .PORT_TX_FRAMES p ∧
          engines t (skipped ++ [u]) ∧ (skipped = [] → t.eng u.eng = (s.eng u.eng).takeBack u.tslot) ∧
          t = { s with out := t.out, ports := t.ports, cnts := t.cnts, engs := t.engs } ∧
          keepsCnts s t [(.PORT_TX_FRAMES, p)]) ∧
      (lineSends s p = true → (s.port p).slots.dropWhile (·.discarded) = [] →
        ∃ t, exec (.reorderEmit p) s = .next t ∧ t.port p = { s.port p with slots := [] } ∧
          (∀ q, q ≠ p.val → t.port q = s.port q) ∧ engines t skipped ∧ t = { s with ports := t.ports, engs := t.engs }) ∧
      ((s.chan c).retiring = true → (s.key c).old = none → memQuiet s ctxCtl →
        let k := egNext s c
        ∃ t, exec (.egressSlotRetire c) s = .next t ∧ t.chan c = { s.chan c with retiring := false } ∧ keepsChans s t c ∧
          egValid t c k = false ∧ ctxBytes t (egKey k) c = zeros 32 ∧ ctxBytes t (egAux k) c = zeros 32 ∧
          ctx t (egEpoch k) c = 0 ∧ ctx t (egSalt k) c = 0 ∧
          keepsCtx s t c [Ctx.VALID, egKey k, egAux k, egEpoch k, egSalt k] ∧
          t = { s with chans := t.chans, rams := t.rams, valid := t.valid, memCtl := t.memCtl })) ∧
  (∀ (s : State) (p : Fin 64) (c : Nat) (ch : Fin 16384) (f : QFrame) (rest : List QFrame),
      let fr := (bufFetch s f).1
      let credit := if (s.port p).rrHere = true ∧ (s.port p).rrNext = c then 0 else 64 * deliveryWeight s c
      let turn := clientSends s p = true ∧ deliveryChans s p = [c] ∧ (s.chan c).iq = f :: rest ∧ halted s p f = false ∧
        f.len ≤ (s.chan c).inDeficit + credit
      let left : Chan := { s.chan c with
        iq := rest, inDeficit := if rest = [] then 0 else (s.chan c).inDeficit + credit - f.len }
      (turn → s.f PORT_CTL.LPBK p = 0 → noErrors s →
        ∃ t, exec (.clientDelivery p) s = .next t ∧ t.out = s.out ++ [.client p (fr ++ Crypto.fcs fr)] ∧
          t.chan c = left ∧ keepsChans s t c ∧ counted s t .PORT_TX_FRAMES p ∧
          t = { s with out := t.out, cnts := t.cnts, chans := t.chans, ports := t.ports } ∧ keepsCnts s t [(.PORT_TX_FRAMES, p)]) ∧
      (turn → (bufFetch s f).2.1 = true →
        ∃ t, exec (.clientDelivery p) s = .next t ∧ t.out = s.out ∧ t.chan c = left ∧ keepsChans s t c ∧
          counted s t .MEM_DP_DISCARD (71 + f.half)) ∧
      (ctxBit s Ctx.PREV_LIVE ch = true → (s.key ch).old = none → memQuiet s ctxCtl →
        ∃ t, exec (.prevHoldExpiry ch) s = .next t ∧ inValid t ch (inPrev s ch) = false ∧ ctxBit t Ctx.PREV_LIVE ch = false ∧
          t = { s with rams := t.rams, valid := t.valid, memCtl := t.memCtl } ∧ keepsCtx s t ch [Ctx.IN_VALID, Ctx.PREV_LIVE]) ∧
      (memQuiet s ctxCtl → ∃ t, exec (.contextCounterFlush ch) s = .next t ∧
        (∀ i : Nat, i < 16 → pends t ch i = 0 ∧ ctx t (chCounter i) ch = satAdd 64 (ctx s (chCounter i) ch) (pends s ch i)) ∧
        (∀ d i, i < 16 → d ≠ ch.val → pends t d i = pends s d i) ∧
        t = { s with rams := t.rams, valid := t.valid, memCtl := t.memCtl, cntPend := t.cntPend } ∧
        keepsCtx s t ch ((List.range 16).map chCounter)))

/-- MACSEC_FRAME_RX and LINE_FRAME_RX on a MACsec Seal port (R15, R88, R94, R152, R157): the ordered checks, with the counter or
event of the first that fails; a frame that opens under the current slot is written to the buffer half of its client port,
joins the delivery queue and moves the slot's high mark. A frame of a channel passes the ingress half of the slice buffer of the
port's first slice (log 79), and past the replay pre-check it goes to an ingress engine with its descriptor (R334, log 99).
LINE_FRAME_RX adds up the FEC counts that come with the frame. -/
def Obligations.MacsecFramesPassTheirChecks : Prop :=
  ∀ (s : State) (p : Fin 64) (f : List Byte) (c k : Nat) (fr : List Byte) (fec : FecCount) (ins : Instr),
    ins = .macsecFrameRx p f ∨ ins = .lineFrameRx p f ⟨fec, .clean⟩ →
    isLine p = true → hears s p = true → framing s p = frMacsec → ingressSlices s p ≠ [] → fcsGood f = true → 64 ≤ f.length →
    f.length ≤ 9632 → beAt f 12 2 = 0x88E5 → pmTitheEtype s ≠ 0x88E5 → noErrors s → s.lost = [] →
    let t0 := secTag f
    let lowest := max 1 (ctx s (inHigh k) c - ctx s Ctx.REPLAY_WIN c)
    let pn := if isXpn s c then recoverPn t0.pn lowest else t0.pn
    let found := secTagOk f t0 = true ∧ macsecChannel s p t0.sci = some c
    let slot := inSlotFor s c 2 (t0.tci % 4)
    let opened := macsecOpen s c (inMat s c k) (ctxBytes s Ctx.RX_SCI c) pn f t0
    let unit := f.take (f.length - 4)
    let fed := fun (t : State) => let u := giveIngress s p [(inDescOf pn unit.length 0 k c, unit)]
      t.engs = u.engs ∧ t.ports = u.ports
    let fresh := pn ≠ 0 ∧ macsecReplayOk s c k pn = true
    let half := halfOf (anchor (chClient s c))
    let took := fun (t : State) (r : List (Reg × Nat)) (n : List (Ctr × Nat)) =>
      exec ins s = .next t ∧ counted s t .PORT_RX_FRAMES p ∧ keepsRegs s t ((.PORT_EVT, p.val) :: r) ∧
      keepsCnts s t ((.PORT_RX_FRAMES, p.val) :: n ++ fecCnts p) ∧
      (ins = .macsecFrameRx p f → t.reg .PORT_EVT p = s.reg .PORT_EVT p)
    let through := fun (t : State) => passedBuffer s t p true f
    let drops := fun (i : Nat) => ∃ t, took t [] [] ∧ through t ∧ pends t c i = pends s c i + 1 ∧
      t = { s with regs := t.regs, cnts := t.cnts, slices := t.slices, cntPend := t.cntPend }
    (secTagOk f t0 = false ∨ macsecChannel s p t0.sci = none → ∃ t, took t [] [(.CH_PORTCNT, p)] ∧ counted s t .CH_PORTCNT p ∧
      t = { s with regs := t.regs, cnts := t.cnts }) ∧
    (found → slot = none → drops cInDropNokey) ∧
    (found → slot = some k → ¬ fresh → drops cInDropReplay) ∧
    (found → slot = some k → fresh → opened = none → ∃ t, took t [(.CH_EVT, c)] [] ∧ through t ∧
      pends t c cInDropAuth = pends s c cInDropAuth + 1 ∧ t.fb CH_EVT.AUTH_FAIL c = true ∧ fed t ∧
      t = { s with regs := t.regs, cnts := t.cnts, slices := t.slices, cntPend := t.cntPend, engs := t.engs, ports := t.ports }) ∧
    (found → slot = some k → fresh → opened = some fr → k = inCur s c → pn < 2 ^ 64 → memQuiet s ctxCtl →
      memQuiet s (71 + half) → hasRoom s half (s.chan c).iq 1 → iqBytes s c + fr.length ≤ 1024 * ctx s Ctx.IQ_LIMIT c →
      ∃ t q, took t [] [] ∧ through t ∧ t.chan c = { s.chan c with iq := (s.chan c).iq ++ [q] } ∧ keepsChans s t c ∧
        q.len = fr.length ∧ q.port = chClient s c ∧ q.pri = (vlanOf fr).2 ∧ q.half = half ∧ bufFetch t q = (fr, false, t) ∧
        ctx t (inHigh k) c = max (ctx s (inHigh k) c) pn ∧ pends t c cInOk = pends s c cInOk + 1 ∧
        keepsMem s t (fieldRange s c (inHigh k) :: frameRanges q) ∧ fed t ∧
        t = { s with regs := t.regs, cnts := t.cnts, slices := t.slices, chans := t.chans, cntPend := t.cntPend, rams := t.rams,
                     valid := t.valid, memCtl := t.memCtl, engs := t.engs, ports := t.ports })

/-- BALE_RX (R104–R106, R153): a bale that opens under the current slot delivers its records in order, and its sequence number
enters the window; a padding bale delivers nothing; one that has no key, is a replay or does not open is counted. The bale passes
the ingress half of the slice buffer of the port's first slice (R15, log 79), and past the replay pre-check it goes to an ingress
engine with its descriptor (R334, log 99). -/
def Obligations.BalesPassTheirChecks : Prop :=
  ∀ (s : State) (p : Fin 64) (f : List Byte) (k : Nat) (payload : List Byte) (frs : List (List Byte)),
    isLine p = true → hears s p = true → framing s p = frBale → ingressSlices s p ≠ [] → fcsGood f = true → 74 ≤ f.length →
    f.length ≤ 16450 → beAt f 12 2 = pmBaleEtype s → noErrors s → s.lost = [] →
    let h := baleHdr f
    let c := h.chan
    let found := baleHdrOk f h = true ∧ chRuns s c = true ∧ chLine s c = p ∧ baleV1 s c = h.v1
    let slot := inSlotFor s c (if h.v1 then 16 else 32) h.epoch
    let opened := baleOpen s c (inMat s c k) f h
    let unit := sliceAt f 14 (f.length - 18)
    let fed := fun (t : State) => let u := giveIngress s p [(inDescOf h.seq unit.length 0 k c, unit)]
      t.engs = u.engs ∧ t.ports = u.ports
    let fresh := h.seq ≠ 0 ∧ baleReplayOk s c k h.seq = true
    let half := halfOf (anchor (chClient s c))
    let takes := fun (t : State) (qs : List QFrame) => ctx t (inHigh k) c = max (ctx s (inHigh k) c) h.seq ∧
      ctx t Ctx.REPLAY_MAP c = mapAfter (ctx s Ctx.REPLAY_MAP c) (ctx s (inHigh k) c) h.seq % 2 ^ 1024 ∧
      keepsMem s t ([inHigh k, Ctx.REPLAY_MAP].map (fieldRange s c) ++ qs.flatMap frameRanges) ∧ keepsChans s t c ∧
      keepsCnts s t [(.PORT_RX_FRAMES, p)] ∧ passedBuffer s t p true f ∧ fed t ∧
      t = { s with cnts := t.cnts, slices := t.slices, chans := t.chans, cntPend := t.cntPend, rams := t.rams, valid := t.valid,
                   memCtl := t.memCtl, engs := t.engs, ports := t.ports }
    let drops := fun (i : Nat) => ∃ t, exec (.baleRx p f) s = .next t ∧ pends t c i = pends s c i + 1 ∧
      passedBuffer s t p true f ∧ t = { s with cnts := t.cnts, slices := t.slices, cntPend := t.cntPend } ∧ keepsCnts s t [(.PORT_RX_FRAMES, p)]
    (found → slot = none → drops cInDropNokey) ∧ (found → slot = some k → ¬ fresh → drops cInDropReplay) ∧
    (found → slot = some k → fresh → opened = none → ∃ t, exec (.baleRx p f) s = .next t ∧
      pends t c cInDropAuth = pends s c cInDropAuth + 1 ∧ t.fb CH_EVT.AUTH_FAIL c = true ∧
      passedBuffer s t p true f ∧ fed t ∧
      t = { s with regs := t.regs, cnts := t.cnts, slices := t.slices, cntPend := t.cntPend, engs := t.engs, ports := t.ports } ∧
      keepsRegs s t [(.CH_EVT, c)] ∧ keepsCnts s t [(.PORT_RX_FRAMES, p)]) ∧
    (found → slot = some k → fresh → opened = some payload → k = inCur s c → memQuiet s ctxCtl → memQuiet s (71 + half) →
      h.tfc = ctxBit s Ctx.TFC_EN c → beAt payload 0 2 ≠ 0xC000 → baleRecords payload.length payload = (frs, false) →
      hasRoom s half (s.chan c).iq frs.length → iqBytes s c + frs.flatten.length ≤ 1024 * ctx s Ctx.IQ_LIMIT c →
      ∃ t qs, exec (.baleRx p f) s = .next t ∧ t.chan c = { s.chan c with iq := (s.chan c).iq ++ qs } ∧
        bufFetchAll t qs = (frs, false, t) ∧ qs.map (·.len) = frs.map (·.length) ∧
        pends t c cInOk = pends s c cInOk + frs.length ∧ takes t qs) ∧
    (found → slot = some k → fresh → opened = some payload → k = inCur s c → memQuiet s ctxCtl →
      h.tfc = ctxBit s Ctx.TFC_EN c → beAt payload 0 2 = 0xC000 →
      ∃ t, exec (.baleRx p f) s = .next t ∧ t.chan c = s.chan c ∧ pends t c cInPad = pends s c cInPad + 1 ∧ takes t [])

/-- OTN_DESCRIPTOR_RX (R110, R113, R114): HUNT to PRESYNC on a good descriptor, PRESYNC to LOCKED on one that follows and is above
the highest verified counter, which also keeps LOCKED; PRESYNC stays on a good one that is not; LOCKED to HUNT with SEAL_LOS on
the third bad one in a row.
OTN_GROUP_RX (R47, R111–R117, R154): under LOCKED a group of a known epoch is decrypted and forwarded with its overhead and
both BIP-8 made anew, and waits for its tag; the tag that arrives with the next group, at the place of the channel's seal
seal bytes, counts the group as good, or raises SEAL_AUTH; a group that opens goes to an ingress engine, and one that is sealed
to an egress engine, frame by frame with descriptors (R334, log 99).
OTN_GROUP_TX (R47, R107–R112): a group leaves encrypted with the tag of the group before and the descriptor of the group that
follows, which takes the next counter; with an OPUC that no channel carries, ODUC-OCI leaves. -/
def Obligations.GroupsLockOpenAndAreSealed : Prop :=
  (∀ (s : State) (p : Fin 64) (i : Fin 16) (opuc : List Byte) (c k : Nat) (a : OtnAnn),
      otnHears s p = true → otnChan s p i = some c → memQuiet s ctxCtl →
      let d := takeSeal s c opuc
      let slot := inSlotFor s c 16 (beAt d 4 2)
      let full := otnCounter s c (beAt d 0 4)
      let ann : OtnAnn := ⟨full, ctx s (inEpoch k) c, d, false⟩
      let went := fun (st : Nat) (e : Option OtnAnn) (l : List CtxF) => ∃ t, exec (.otnDescriptorRx p i opuc) s = .next t ∧
        ctx t Ctx.SEAL_STATE c = st ∧ (t.chan c).rxExp = e ∧ keepsChans s t c ∧ keepsCtx s t c l ∧
        t = { s with regs := t.regs, chans := t.chans, cntPend := t.cntPend, rams := t.rams, valid := t.valid, memCtl := t.memCtl } ∧
        (st ≠ sealHunt → t.regs = s.regs) ∧
        (st = sealHunt → t.fb CH_EVT.SEAL_LOS c = true ∧ (t.chan c).rxPend = none ∧ keepsRegs s t [(.CH_EVT, c)])
      (descOk d = true → slot = some k → ctx s Ctx.SEAL_STATE c = sealHunt → went sealPresync (some ann) [Ctx.SEAL_STATE]) ∧
      (descOk d = true → slot = some k → ctx s Ctx.SEAL_STATE c = sealPresync ∨ ctx s Ctx.SEAL_STATE c = sealLocked →
        (s.chan c).rxExp = some a → full = a.counter + 1 → inHighest s c < full →
        went sealLocked (some ann) [Ctx.SEAL_STATE, Ctx.BAD_DESC]) ∧
      (descOk d = true → slot = some k → ctx s Ctx.SEAL_STATE c = sealPresync → full ≤ inHighest s c →
        went sealPresync (some ann) [Ctx.SEAL_STATE]) ∧
      (descOk d = false → ctx s Ctx.SEAL_STATE c = sealLocked → ctx s Ctx.BAD_DESC c = 2 →
        went sealHunt none [Ctx.SEAL_STATE, Ctx.BAD_DESC])) ∧
  (∀ (s : State) (p : Fin 64) (i : Fin 16) (g : OtnIn) (c k : Nat) (a : OtnAnn) (w : OtnPend),
      let lp := p.val - 32
      let m := (s.chan c).mon
      let pt := otnCrypt s c true (inMat s c k) a.counter g.payload
      let oh := regenerate lp i m.clientOut (putSeal s c g.oh.opuc (zeros 16)) g.oh.oduc pt 8
      let chk := checkBips m.lineIn g
      let tag := takeSeal s c (g.oh.opuc.take 32)
      let want := otnTag s c true (inMat s c w.slot) w.counter i w.desc w.ct
      let fed := fun (t : State) (k : Nat) => let u := giveIngress s p (groupUnits a.counter k c g.payload)
        t.engs = u.engs ∧ t.ports = u.ports
      let counts : List (Ctr × Nat) := [(.PORT_RX_FRAMES, p.val), (.PORT_TX_FRAMES, lp), (.PORT_RX_FRAMES, lp)] ++ fecCnts p
      otnHears s p = true → otnEngines s p = true → otnCarries s p = true → otnChan s p i = some c → memQuiet s ctxCtl →
      ctx s Ctx.SEAL_STATE c = sealLocked → (s.chan c).rxExp = some a → a.replaced = false → (s.chan c).rxReplace = false →
      (s.chan c).rxClear = false → ctxBit s Ctx.OTN_HOLD c = false →
      (inSlotFor s c 32 a.epoch = some k → (s.chan c).rxPend = none → s.f PORT_CTL.LPBK lp = 0 →
        ∃ t, exec (.otnGroupRx p i g) s = .next t ∧ t.out = s.out ++ [.otn lp i pt oh.1] ∧ fed t k ∧
          t.chan c = { s.chan c with
            rxPend := some ⟨a.counter, a.epoch, k, a.desc, g.payload, g.oh.opuc, g.oh.oduc, none⟩, rxHold := false,
            mon := { m with lineIn := chk.2.2, clientOut := oh.2, pmErrs := m.pmErrs + chk.1, smErrs := m.smErrs + chk.2.1 } } ∧
          keepsChans s t c ∧ t = { s with out := t.out, chans := t.chans, regs := t.regs, cnts := t.cnts, engs := t.engs,
                                          ports := t.ports } ∧
          keepsRegs s t [(.PORT_EVT, p)] ∧ keepsCnts s t counts) ∧
      ((s.chan c).rxPend = some w → w.held = none → tag = want → w.slot = inCur s c → inHighest s c < w.counter →
        w.counter < 2 ^ 64 → ∃ t, exec (.otnGroupRx p i g) s = .next t ∧ pends t c cInOk = pends s c cInOk + 1 ∧
          ctx t (inHigh w.slot) c = w.counter ∧ ctx t Ctx.GOOD_RUN c = min 8 (ctx s Ctx.GOOD_RUN c + 1) ∧
          keepsRegs s t [(.PORT_EVT, p)] ∧ keepsCnts s t counts ∧
          keepsCtx s t c [inHigh w.slot, Ctx.GOOD_RUN, Ctx.REPLACING]) ∧
      ((s.chan c).rxPend = some w → w.held = none → tag ≠ want →
        ∃ t, exec (.otnGroupRx p i g) s = .next t ∧ pends t c cInDropAuth = pends s c cInDropAuth + 1 ∧
          t.fb CH_EVT.SEAL_AUTH c = true ∧ ctxBit t Ctx.REPLACING c = true ∧ ctx t Ctx.GOOD_RUN c = 0 ∧
          (t.chan c).rxReplace = true ∧ keepsCtx s t c [Ctx.GOOD_RUN, Ctx.REPLACING] ∧
          keepsRegs s t [(.CH_EVT, c), (.PORT_EVT, p)] ∧ keepsCnts s t counts)) ∧
  (∀ (s : State) (p : Fin 64) (i : Fin 16) (g : OtnIn) (c : Nat) (u : OtnUnit),
      let cp := p.val - 32
      let x := s.chan c
      let m := egMat s c u.slot
      let ct := otnCrypt s c false m u.counter g.payload
      let n := ctx s Ctx.OTN_GROUP c
      let e := ctx s (egEpoch (egCur s c)) c
      let v : OtnUnit := ⟨n, egCur s c, e, otnDesc s c n e⟩
      let oh := regenerate p i x.mon.lineOut (putSeal s c g.oh.opuc (x.otnTag ++ v.desc)) g.oh.oduc ct 8
      let chk := checkBips x.mon.clientIn g
      let counts : List (Ctr × Nat) := [(.PORT_RX_FRAMES, cp), (.PORT_TX_FRAMES, p.val)] ++ fecCnts cp
      (otnSends s p i = true → otnCarries s p = true → otnEngines s p = true → otnChan s p i = some c → receiving s cp = true →
        s.f PORT_CTL.LPBK p = 0 → s.f PORT_CTL.LPBK cp = 0 → g.payload.length = otnGroupBytes → x.otnNext = some u →
        seqDecide s c otnBlocks = .stay → s.f TWN_STATUS.ROLE 0 ≠ 1 → memQuiet s ctxCtl →
        ∃ t, exec (.otnGroupTx p i g) s = .next t ∧ t.out = s.out ++ [.otn p i ct oh.1] ∧
          (let y := giveEgress s p (groupUnits u.counter u.slot c g.payload); t.engs = y.engs ∧ t.ports = y.ports) ∧
          t.chan c = { x with
            otnTag := otnTag s c false m u.counter i u.desc ct, otnNext := some v,
            mon := { x.mon with
              clientIn := chk.2.2, lineOut := oh.2, pmErrs := x.mon.pmErrs + chk.1, smErrs := x.mon.smErrs + chk.2.1 } } ∧
          keepsChans s t c ∧ ctx t Ctx.OTN_GROUP c = n + 1 ∧ pends t c cOutOk = pends s c cOutOk + 1 ∧
          pends t c cOutOctets = pends s c cOutOctets + otnGroupBytes ∧
          keepsCtx s t c [Ctx.OTN_GROUP, Ctx.EPOCH_BLOCKS] ∧ keepsRegs s t [(.PORT_EVT, cp)] ∧ keepsCnts s t counts ∧
          t = { s with out := t.out, regs := t.regs, cnts := t.cnts, chans := t.chans, cntPend := t.cntPend, rams := t.rams,
                       valid := t.valid, memCtl := t.memCtl, engs := t.engs, ports := t.ports }) ∧
      (otnSends s p i = true → otnCarries s p = false → s.f PORT_CTL.LPBK p ≠ 1 → s.f PORT_CTL.LPBK cp ≠ 2 →
        ∃ t, exec (.otnGroupTx p i g) s = .next t ∧ t.out = s.out ++ [.oci p] ∧
          t = { s with out := t.out, regs := t.regs, cnts := t.cnts } ∧ keepsRegs s t [(.PORT_EVT, cp)] ∧ keepsCnts s t counts))

/-- Register accesses (R9, R164, R536): through a selector that maps no window an access does nothing but set the error bit, and
a read returns zero; a read of the capturing word of a counter returns its half and keeps the other for the master; a read of
PORT_EXP_OCC shows KiB (R65, R79) and clears its peak; a write of a register whose bits are cleared by writing 1 clears those
bits. -/
def Obligations.AccessesReadCaptureAndClear : Prop :=
  ∀ (s : State) (m : Master) (sel : SelBlock) (a v : Word) (b : Blk) (off i row : Nat) (c : Ctr) (r : Reg) (hi : Bool),
    let answers := fun (t : State) (n resp : Nat) => SMap.get (fun _ => ([], 0)) t.resp (respKey m) = (leBytes 4 n, resp)
    let n := (s.cnt c (if c.info.2.1 = .window then i else row)).toNat
    let half := fun (h : Bool) => if h then n / 2 ^ 32 % 2 ^ 32 else n % 2 ^ 32
    let err := (selField sel).2
    (s.blkUp (selBlk sel) = true → selected s sel m = none →
      (exec (.unmappedWindowAccess m sel true) s = .next (s.setF err (masterIdx m) 1)) ∧
      ∃ t, exec (.unmappedWindowAccess m sel false) s = .next t ∧ answers t 0 0 ∧
        t = { s.setF err (masterIdx m) 1 with resp := t.resp }) ∧
    (lands s m a.toNat b off i → ctrAt b off = some (c, row, hi) → hi = decide (m = .host ∧ hostView s = 1) →
      ∃ t, exec (.counterLoRead m a) s = .next t ∧ answers t (half hi) rOkay ∧
        t.shadowOf (masterIdx m) = BitVec.ofNat 32 (half (!hi)) ∧ t = { s with shadow := t.shadow, resp := t.resp }) ∧
    (lands s m a.toNat .PORT Reg.PORT_EXP_OCC.info.off i → i < 64 →
      ∃ t, exec (.readClearAccess m a) s = .next t ∧
        answers t (max (s.f PORT_EXP_OCC.PEAK i) (occupancyKib s i) * 2 ^ 16 + occupancyKib s i) rOkay ∧
        t = { s.setF PORT_EXP_OCC.PEAK i 0 with resp := t.resp }) ∧
    (a.toNat % 4 = 0 → lands s m a.toNat b off i → regAt b off = some (r, row) → r.info.acc = .w1c → r ≠ .MEM_OVF →
      exec (.registerWrite m a v) s =
        .next (s.setReg r (copyOf r m i row) (s.reg r (copyOf r m i row) &&& ~~~(maskedWrite r v))))

/-- Clocks and starts of clocked units (R33, R474–R476): a PLL that runs locks; a core reference that comes back is selected in
the order REFCLK_C, REFCLK_L, holdover; the loss of one selects the next; a slice that has loaded its code is ready.
Feeds and backup (R467–R470, R554): a feed is lost below 33 V and back at 35 V; overvoltage shows; both feeds low start a
hold-up; the supercapacitor's thresholds raise their events, and VBAK in its range is the backup; a checked PWR register takes
its value, and KE_KEEP wakes the sleeping key engine that it names (R473). -/
def Obligations.ClocksAndFeedsAreWatched : Prop :=
  (∀ (s : State) (m : Master) (v : Word) (sl : Fin 32), s.pwr.held = none →
      let clk := fun (t : State) => onlyRegs s t [(.CLK_STATUS, 0), (.CLK_EVT, 0)] []
      let noReady := (∀ p : Nat, p < 64 → s.fb PORT_STATUS.READY p = false) ∧ s.fb TWN_STATUS.LINK0 0 = false ∧
        s.fb TWN_STATUS.LINK1 0 = false
      (s.pllRun.getD 0 false = true → ∃ t, exec (.pllLock .d) s = .next t ∧ t.fb CLK_STATUS.D_LOCK 0 = true ∧ clk t) ∧
      (s.pllRun.getD 1 false = true → s.f PWR_CFG.KE_KEEP 0 = 0 → ∃ t, exec (.pllLock .k) s = .next t ∧ t.fb CLK_STATUS.K_LOCK 0 = true ∧ clk t) ∧
      (modeSelftest ≤ s.mode → ∃ t, exec (.pllLock .c) s = .next t ∧ t.fb CLK_STATUS.C_LOCK 0 = true ∧ clk t) ∧
      (∀ p, s.fb (lockBit p) 0 = true → ∃ t, exec (.pllUnlock p) s = .next t ∧ warmFrom s t 7 ∧
        t.fb CLK_EVT.PLL_UNLOCK 0 = true) ∧
      (∃ t, exec .refclkRecovered s = .next t ∧ t.fb CLK_STATUS.REFC_OK 0 = true ∧ t.f CLK_STATUS.CORE_REF 0 = 0 ∧ clk t) ∧
      (s.fb CLK_STATUS.REFC_OK 0 = false → ∃ t, exec (.refclkPresent .l) s = .next t ∧ t.fb CLK_STATUS.REFL_OK 0 = true ∧
        t.f CLK_STATUS.CORE_REF 0 = 1 ∧ clk t) ∧
      (noReady → s.fb CLK_STATUS.REFC_OK 0 = true → s.fb CLK_STATUS.REFL_OK 0 = true → ∃ t, exec (.refclkLost .c) s = .next t ∧
        t.fb CLK_STATUS.REFC_OK 0 = false ∧ t.f CLK_STATUS.CORE_REF 0 = 1 ∧ t.fb CLK_EVT.REFC_LOST 0 = true ∧ clk t) ∧
      (noReady → s.fb CLK_STATUS.REFC_OK 0 = false → s.fb CLK_STATUS.REFL_OK 0 = true → s.f CLK_STATUS.CORE_REF 0 = 1 →
        ∃ t, exec (.refclkLost .l) s = .next t ∧ t.f CLK_STATUS.CORE_REF 0 = 2 ∧ t.fb CLK_EVT.REFL_LOST 0 = true ∧
          t.fb CLK_EVT.HOLDOVER 0 = true ∧ clk t) ∧
      (s.blkUp .CLK = true → (∀ i : Nat, i < 3 → bitsOf v.toNat (4 * i) 4 ≤ 8) → ∃ t, exec (.clkSscWrite m v) s = .next t ∧
        accepted t .CLK_CHECK m ∧ t.reg .CLK_SSC 0 = maskedWrite .CLK_SSC v ∧
        onlyRegs s t [(.CLK_SSC, 0), (.CLK_CHECK, masterIdx m)] []) ∧
      (s.blkUp .CLK = true → 8 < v.toNat % 16 → ∃ t, exec (.clkSscWrite m v) s = .next t ∧ refusedWith s t .CLK_CHECK m 0 0xB8) ∧
      ((s.slice sl).powered = true → (s.slice sl).ready = false →
        engState (startEngine (startEngine (s.setF CLK_STATUS.D_LOCK 0 1) (2 * sl)) (2 * sl + 1)) (2 * sl) ≠ engWedged →
        engState (startEngine (startEngine (s.setF CLK_STATUS.D_LOCK 0 1) (2 * sl)) (2 * sl + 1)) (2 * sl + 1) ≠ engWedged →
        ∃ t, exec (.sliceWakeDone sl) s = .next t ∧ t.slice sl = { s.slice sl with ready := true, failed := false } ∧
          (∀ k, k ≠ sl.val → t.slice k = s.slice k) ∧ t.fb CLK_STATUS.D_LOCK 0 = true ∧ t.pending = s.pending)) ∧
  (∀ (s : State) (f : Fin 2) (x y : BitVec 16) (m : Master) (v : Word),
      let pwr := fun (t : State) (l : List (Reg × Nat)) => onlyRegs s t (l ++ [(.PWR_STATUS, 0), (.PWR_EVT, 0)]) []
      let shown := fun (t : State) => (t.reg (feedReg f) 0).toNat / 2 ^ 16 = x.toNat
      let fr := [(feedReg f, 0)]
      (s.fb (feedBit f) 0 = true → x.toInt < 3300 → ∃ t, exec (.feedLost f x) s = .next t ∧ t.fb (feedBit f) 0 = false ∧
        t.fb (feedLost f) 0 = true ∧ shown t ∧ pwr t fr) ∧
      (s.fb (feedBit f) 0 = false → 3500 ≤ x.toInt → ∃ t, exec (.feedRestored f x) s = .next t ∧ t.fb (feedBit f) 0 = true ∧
        t.fb PWR_STATUS.HOLDUP 0 = false ∧ t.fb PWR_EVT.FEED_RESTORED 0 = true ∧ shown t ∧ pwr t fr) ∧
      (7500 < x.toInt → ∃ t, exec (.overvolt f x) s = .next t ∧ t.fb PWR_STATUS.OVERV 0 = true ∧
        t.fb PWR_EVT.OVERVOLT 0 = true ∧ shown t ∧ pwr t fr) ∧
      (powered s = true → x.toInt < 3500 → y.toInt < 3500 → s.fb PWR_STATUS.HOLDUP 0 = false → twinRole s ≠ roleActive →
        ∃ t, exec (.holdup x y) s = .next t ∧ t.fb PWR_STATUS.HOLDUP 0 = true ∧ t.fb PWR_EVT.HOLDUP 0 = true ∧
          pwr t [(.PWR_FEED_A, 0), (.PWR_FEED_B, 0)]) ∧
      (2900 ≤ x.toNat → s.fb PWR_STATUS.BAK_READY 0 = false → ∃ t, exec (.bakReady x y) s = .next t ∧
        t.fb PWR_STATUS.BAK_READY 0 = true ∧ t.fb PWR_EVT.BAK_READY 0 = true ∧ t.f PWR_BAK.SCAP 0 = x.toNat ∧
        t.f PWR_BAK.VBAK 0 = y.toNat ∧ pwr t [(.PWR_BAK, 0)]) ∧
      (x.toNat < 2200 → anyFeed s = true → y.toNat < 2500 ∨ 3600 < y.toNat → ∃ t, exec (.bakLow x y) s = .next t ∧
        t.fb PWR_EVT.BAK_LOW 0 = true ∧ t.fb PWR_STATUS.BAK_READY 0 = false ∧ t.f PWR_BAK.SCAP 0 = x.toNat ∧
        t.f PWR_STATUS.BAK_SRC 0 = 2 ∧ pwr t [(.PWR_BAK, 0)]) ∧
      (2500 ≤ y.toNat → y.toNat ≤ 3600 → ∃ t, exec (.bakLow x y) s = .next t ∧ t.f PWR_STATUS.BAK_SRC 0 = 1 ∧
        t.fb PWR_EVT.BAK_LOW 0 = s.fb PWR_EVT.BAK_LOW 0 ∧ t.f PWR_BAK.VBAK 0 = y.toNat ∧ pwr t [(.PWR_BAK, 0)]) ∧
      (∀ r, s.blkUp .PWR = true → pwrCauses s r v.toNat = [] →
        r ≠ .cfg ∨ (∀ k : Nat, k < 4 → engState s (64 + k) ≠ engAsleep) → ∃ t, exec (.pwrCheckedWrite m r v) s = .next t ∧
        accepted t .PWR_CHECK m ∧ t.reg (pwrRegName r) 0 = maskedWrite (pwrRegName r) v ∧
        t = { s with regs := t.regs, pwr := t.pwr } ∧ keepsRegs s t [(pwrRegName r, 0), (.PWR_CHECK, masterIdx m)]) ∧
      (∀ k : Fin 4, s.blkUp .PWR = true → bitAt v.toNat (8 + k) = true → engState s (64 + k) = engAsleep → kclkLocked s = true →
        ∃ t, exec (.pwrCheckedWrite m .cfg v) s = .next t ∧ accepted t .PWR_CHECK m ∧ engState t (64 + k) = engRunning ∧
          keepsRegs s t [(.PWR_CFG, 0), (.PWR_CHECK, masterIdx m), (.ENG_STATUS, 64), (.ENG_STATUS, 65), (.ENG_STATUS, 66),
            (.ENG_STATUS, 67)] ∧ t = { s with regs := t.regs, pwr := t.pwr }) ∧
      (s.blkUp .PWR = true → v = 0 → s.fb PWR_WAKE_EN.TIMER 0 = true → ∃ t, exec (.pwrCheckedWrite m .wakeTimer v) s = .next t ∧
        refusedWith s t .PWR_CHECK m 0 0xB9))

/-- Modes (R480–R487): an accepted request shows its transition, which ends as time passes (log 1), and refuses further ones
with 0xB5; starts and wakes reach ESCAPEMENT and SELFTEST, SELFTEST ends in LOADING with the start tests of the entropy sources
done (R215), in RETIRED or in ALARM; the load takes the preferred slot, or falls back with the code that stops it, 0xD4 where
its flash cannot be read and 0xDC where the programming of its floor row fails (R370, R375, R387); requests move between the
operating modes, resets pass through SELFTEST, and a shutdown ends in DORMANT. -/
def Obligations.ModesFollowTheTransitions : Prop :=
  ∀ (s : State) (m : Master) (v : Word) (i code why : Nat) (raw : List (List Byte)) (x : Sheaf) (fa fb : FlashRead),
    let fl := if s.shf.pref = 0 then fa else fb
    let passes := fun (t u : State) => step { t with pending := [] } = .next u
    let moves := fun (ins : Instr) (md : Nat) => ∃ t, exec ins s = .next t ∧ t.mode = s.mode ∧ t.fb GLB_MODE.TRANS 0 = true ∧
      t.f GLB_MODE.TARGET 0 = md ∧ accepted t .GLB_MODE_CHECK m ∧
      onlyRegs s t [(.GLB_MODE, 0), (.GLB_MODE_CHECK, masterIdx m)] [] ∧ ∃ u, passes t u ∧ u.mode = md ∧
        u.fb GLB_MODE.TRANS 0 = false ∧ u.fb GLB_EVT.MODE 0 = true ∧
        u = { s with pending := [], rtc := u.rtc, tod := u.tod, regs := u.regs } ∧
        keepsRegs s u [(.GLB_MODE, 0), (.GLB_EVT, 0), (.GLB_MODE_CHECK, masterIdx m)]
    let starts := fun (ins : Instr) (cause : Nat) => ∃ t, exec ins s = .next t ∧ t.mode = modeSelftest ∧
      t.reg .PWR_WAKE_CAUSE 0 = BitVec.ofNat 32 cause ∧ t = { s with regs := t.regs, pwr := t.pwr } ∧
      keepsRegs s t [(.GLB_MODE, 0), (.GLB_EVT, 0), (.PWR_WAKE_CAUSE, 0)]
    let up := s.blkUp .GLB = true
    (up → modeCauses s modeOperational = [] → twinRole s ≠ roleShadow → moves (.modeReqOperational m) modeOperational) ∧
    (up → modeCauses s modeMaintenance = [] → twinRole s ≠ roleActive → moves (.modeReqMaintenance m) modeMaintenance) ∧
    (up → modeCauses s modeDrain = [] → twinRole s ≠ roleActive → busyChannels s = [] → moves (.modeReqDrain m) modeDrain) ∧
    (up → modeCauses s modeEscapement = [] → s.evc.latch = [] → s.pwr.perst = false →
      (∀ i : Nat, i < 17 → s.fb EVC_IN_CFG.MODE i = false) → ∃ t, exec (.modeReqEscapement m) s = .next t ∧ t.mode = s.mode ∧
      t.fb GLB_MODE.TRANS 0 = true ∧ ∃ u, passes t u ∧ u.mode = modeEscapement ∧ u.chans = [] ∧ u.engs = [] ∧
      u.pwr.timer = false ∧ (∀ i : Nat, i < 17 → u.reg .EVC_IN_CFG i = s.reg .EVC_IN_CFG i)) ∧
    (up → requestable s modeOperational = false → ∃ t, exec (.modeReqOperational m) s = .next t ∧
      refusedWith s t .GLB_MODE_CHECK m 0 0xB1) ∧
    (up → requestable s modeOperational = true → s.f SHF_STATUS.SOURCE 0 ≠ 2 → s.fb GLB_MODE.TRANS 0 = true →
      ∃ t, exec (.modeReqOperational m) s = .next t ∧ refusedWith s t .GLB_MODE_CHECK m 0 0xB5) ∧
    (s.mode = modeDrain → busyChannels s = [] → twinRole s ≠ roleShadow → ∃ t, exec .drainModeComplete s = .next t ∧
      t.mode = modeStandby ∧ onlyRegs s t [(.GLB_MODE, 0), (.GLB_EVT, 0)] []) ∧
    (s.mode = modeDormant → anyFeed s = true → s.pwr.bakOut = false →
      ∃ t, exec .coldStart s = .next t ∧ t.mode = modeEscapement ∧ t.reg .PWR_WAKE_CAUSE 0 = 0 ∧ t.pwr.cold = true ∧
        t.f PWR_BAK.SCAP 0 ≤ s.f PWR_BAK.SCAP 0 ∧ t.fb PWR_STATUS.BAK_READY 0 = decide (2900 ≤ t.f PWR_BAK.SCAP 0) ∧
        t = { s with regs := t.regs, pwr := t.pwr, freeCtr := t.freeCtr } ∧
        keepsRegs s t [(.GLB_MODE, 0), (.GLB_EVT, 0), (.PWR_WAKE_CAUSE, 0), (.PWR_BAK, 0), (.PWR_STATUS, 0)]) ∧
    (s.mode = modeEscapement → s.fb GLB_MODE.TRANS 0 = false → s.silo.retired = true → s.pending = [] →
      ∃ t, passes s t ∧ t.mode = modeRetired) ∧
    (s.mode = modeEscapement → s.silo.retired = false → coreRef s = true → bitAt (s.f PWR_WAKE_EN.GPIO 0) i = true →
      s.evc.latch.contains i = true → i < 16 → starts (.escapementWake (.gpio (Fin.ofNat 16 i))) (2 ^ 28 + i)) ∧
    (s.mode = modeEscapement → s.silo.retired = false → coreRef s = true → s.fb PWR_WAKE_EN.TIMER 0 = true → starts .wakeTimerExpiry (4 * 2 ^ 28)) ∧
    (s.mode = modeSelftest → s.silo.retired = false → s.silo.identity = true → ∃ t, exec (.selftestDone true raw) s = .next t ∧
      t.mode = modeLoading ∧ t.silo.drbg.isSome = decide (2 ≤ healthySources t) ∧
      (∀ j, j < 8 → bitAt t.silo.srcBad j = !(512 ≤ (raw.getD j []).length &&
        healthOk ((raw.getD j []).take 512))) ∧ (noErrors s → t.silo.custody.isSome = decide (2 ≤ healthySources t)) ∧
      t = { s with errs := t.errs, memCtl := t.memCtl, regs := t.regs, silo := t.silo, freeCtr := t.freeCtr } ∧
      (∀ e : Nat, 64 ≤ e → e < 70 → engState t e = if engState s e = engWedged then engWedged else engLoading) ∧
      keepsRegs s t ([(.GLB_MODE, 0), (.GLB_EVT, 0), (.SILO_EVT, 0)] ++ (List.range 6).map fun k => (.ENG_STATUS, 64 + k))) ∧
    (s.mode = modeSelftest → s.silo.retired = true → ∃ t, exec (.selftestDone true raw) s = .next t ∧ t.mode = modeRetired) ∧
    (s.mode = modeSelftest → s.silo.retired = false → s.silo.identity = false →
      ∃ t, exec (.selftestDone true raw) s = .next t ∧ t.mode = modeAlarm ∧ t.fb SILO_EVT.ALARM 0 = true) ∧
    (s.mode = modeLoading → ∃ t, exec (.load fa fb) s = .next t ∧
      t.mode = (if t.silo.domain.isSome then modeStandby else modeUnsealed) ∧ t.pending = s.pending) ∧
    (s.mode = modeLoading → verifySlot s s.shf.pref fl = (0, x) → rowFails s x = false → ∃ t, exec (.load fa fb) s = .next t ∧ t.sheaf = x ∧
      t.shf.floor = max s.shf.floor (hdrFloorReq x.header) ∧ t.shf.pref = s.shf.pref ∧
      t.fb SHF_STATUS.FALLBACK 0 = false ∧ t.f SHF_STATUS.FB_REASON 0 = 0 ∧
      t.reg .SHF_SVN 0 = BitVec.ofNat 32 (hdrSvn x.header)) ∧
    (s.mode = modeLoading → verifySlot s s.shf.pref fl = (code, x) → (0 < code ∧ code < 0x100 ∧ why = code) ∨
      (code = 0 ∧ rowFails s x = true ∧ why = 0xDC) → ∃ t, exec (.load fa fb) s = .next t ∧ t.fb SHF_STATUS.FALLBACK 0 = true ∧
        t.f SHF_STATUS.FB_REASON 0 = why ∧
        s.shf.rows + b2n (code == 0) ≤ t.shf.rows) ∧
    (powered s = true → twinRole s ≠ roleActive → ∃ t, exec .modResetN s = .next t ∧ warmFrom s t 5) ∧
    (up → v.toNat % 2 ^ 16 = 0xA5C3 → twinRole s ≠ roleActive → s.fb GLB_MODE.TRANS 0 = false →
      ∃ t, exec (.glbReset m v) s = .next t ∧ warmFrom s t 6) ∧
    (up → v.toNat % 2 ^ 16 = 0xA5C3 → s.fb GLB_MODE.TRANS 0 = true →
      ∃ t, exec (.glbReset m v) s = .next t ∧ refusedWith s t .GLB_MODE_CHECK m 0 0xB5) ∧
    (v.toNat % 2 ^ 16 ≠ 0xA5C3 → exec (.glbReset m v) s = .next s) ∧
    (powered s = true → anyFeed s = false → ∃ t, exec .shutdown s = .next t ∧ t.mode = modeDormant ∧ t.chans = [] ∧
      t.keys = [] ∧ t.engs = [] ∧ t.silo.auths = [] ∧ t.ram 74 = s.ram 74 ∧ t.fb PWR_STATUS.HOLDUP 0 = false ∧
      t.pending = s.pending ∧ t.rtc = s.rtc)

/-- PCIe (R531, R537, R538, R548): training brings the link up with its speed and width; its loss clears them; a reset clears the
host's selectors, MSI-X, configuration space and the view, and raises its event; a configuration request is answered with
Configuration Request Retry Status until the function is ready; then writes set MSI-X, the power state and the addresses of
BAR0 and BAR2, and reads answer with the IDs, the class and the BARs (in the places of log 103). -/
def Obligations.PcieLinkAndFunctionFollowTheirEvents : Prop :=
  ∀ (s : State) (speed width : BitVec 4) (en fm d3 : Bool) (k : PcieReset) (q : CfgReq) (v : Word),
    let ready := s.pcie.ready = true ∧ s.fb GLB_PCIE_STATUS.LINK_UP 0 = true
    let st := [(Reg.GLB_PCIE_STATUS, 0), (.GLB_PCIE_EVT, 0)]
    (pcieOn s = true → 1 ≤ speed.toNat → speed.toNat ≤ 5 → width = 1 ∨ width = 2 ∨ width = 4 → s.evc.pba = 0 →
      ∃ t, exec (.pcieLinkTrainingDone speed width) s = .next t ∧ t.fb GLB_PCIE_STATUS.LINK_UP 0 = true ∧
        t.f GLB_PCIE_STATUS.SPEED 0 = speed.toNat ∧ t.f GLB_PCIE_STATUS.WIDTH 0 = width.toNat ∧ t.pcie = { s.pcie with ready := true } ∧
        onlyRegs { s with pcie := t.pcie } t st []) ∧
    (s.fb GLB_PCIE_STATUS.LINK_UP 0 = true → ∃ t, exec .pcieLinkDown s = .next t ∧ t.fb GLB_PCIE_STATUS.LINK_UP 0 = false ∧
      t.f GLB_PCIE_STATUS.SPEED 0 = 0 ∧ t.f GLB_PCIE_STATUS.WIDTH 0 = 0 ∧ t.fb GLB_PCIE_EVT.LINK_DOWN 0 = true ∧
      onlyRegs s t st []) ∧
    (modeSelftest ≤ s.mode → s.evc.srcs = [] → ∃ t, exec (.pcieReset k) s = .next t ∧ hostView t = 2 ∧
      t.reg .GLB_BAR2_APER 0 = 16 ∧ t.fb GLB_PCIE_STATUS.MSIX_EN 0 = false ∧ t.fb GLB_PCIE_STATUS.FN_MASK 0 = false ∧
      t.fb GLB_PCIE_STATUS.LINK_UP 0 = false ∧ t.evc.msix = [] ∧ t.evc.pba = 0 ∧ t.pcie = Pcie.reset ∧ t.shadowOf (masterIdx .host) = 0 ∧
      (k = .flr → t.fb GLB_PCIE_EVT.FLR 0 = true) ∧ (k ≠ .flr → t.fb GLB_PCIE_EVT.HOT_RESET 0 = true) ∧
      (∀ b : SelBlock, t.reg (selField b).1.reg (masterIdx .host) = 0) ∧
      ∀ r j, r ∉ [Reg.GLB_PCIE_STATUS, .GLB_PCIE_EVT, .GLB_IFVER_SEL, .GLB_BAR2_APER] →
        (r.info.cls = .perMaster ∧ j = masterIdx .host) ∨ t.reg r j = s.reg r j) ∧
    (s.pcie.ready = false → pcieOn s = true → exec (.configurationRequest q) s = .next (s.emit (.completion [] 4))) ∧
    (ready → s.evc.srcs = [] → s.evc.pba = 0 →
      ∃ t, exec (.configurationRequest (.msixControl en fm)) s = .next t ∧ t.fb GLB_PCIE_STATUS.MSIX_EN 0 = en ∧
        t.fb GLB_PCIE_STATUS.FN_MASK 0 = fm ∧ t = { s with regs := t.regs, evc := t.evc } ∧
        keepsRegs s t [(.GLB_PCIE_STATUS, 0)]) ∧
    (ready → s.evc.pba = 0 → exec (.configurationRequest (.powerState d3)) s =
      .next { s with evc := { s.evc with d3 := d3 } }) ∧
    (ready → ∀ x ∈ [(0, 0x64001F91), (2, 0x108000B0), (8, 0), (9, 0), (11, s.variant * 2 ^ 16 + 0x1F91), (12, 0),
        (4, s.pcie.bar0.toNat % 2 ^ 32 + 4), (6, s.pcie.bar2.toNat % 2 ^ 32 + 12)],
      exec (.configurationRequest (.read (BitVec.ofNat 10 x.1))) s = .next (s.emit (.completion (leBytes 4 x.2) 0))) ∧
    (ready → ∃ t, exec (.configurationRequest (.write 4 v)) s = .next t ∧ t.pcie.bar0.toNat % 2 ^ 26 = 0 ∧
      t.pcie.bar0.toNat % 2 ^ 32 = v.toNat / 2 ^ 26 * 2 ^ 26 ∧ t.pcie.bar0.toNat / 2 ^ 32 = s.pcie.bar0.toNat / 2 ^ 32 ∧
      t = { s with pcie := { s.pcie with bar0 := t.pcie.bar0 } }) ∧
    (ready → ∃ t, exec (.configurationRequest (.write 6 v)) s = .next t ∧ t.pcie.bar2.toNat % 2 ^ 24 = 0 ∧
      t.pcie.bar2.toNat % 2 ^ 32 = v.toNat / 2 ^ 24 * 2 ^ 24 ∧ t.pcie.bar2.toNat / 2 ^ 32 = s.pcie.bar2.toNat / 2 ^ 32 ∧
      t = { s with pcie := { s.pcie with bar2 := t.pcie.bar2 } })

/-- Time of day, GPIOs and the host's registers (R533, R539, R543–R546): the clock is set forward at an edge whose message names
a later time and otherwise counts at half rate; outputs leave while they are enabled; writes take their values. -/
def Obligations.TimeAndPinsFollowTheirRegisters : Prop :=
  ∀ (s : State) (m : Master) (v : Word) (txt : List Byte) (n : Nat) (at_ : W64) (r : GpioReg),
    let up := s.blkUp .GLB = true
    let target := v.toNat * 2 ^ 32 + (s.reg .GLB_RTC_SET_LO 0).toNat
    let todRegs := [(Reg.GLB_TOD_STATUS, 0), (.GLB_TOD_EVT, 0)]
    let stepped := fun (t : State) (goal : Nat) => (s.rtc.toNat < goal → t.rtc = BitVec.ofNat 64 goal ∧ t.tod.ahead = 0 ∧
        t.fb GLB_TOD_EVT.STEP 0 = true) ∧ (goal ≤ s.rtc.toNat → t.rtc = s.rtc ∧ t.tod.ahead = s.rtc.toNat - goal) ∧
      t.fb GLB_TOD_EVT.TOD_OK 0 = true ∧ t = { s with regs := t.regs, tod := t.tod, rtc := t.rtc } ∧ keepsRegs s t todRegs
    (up → ∃ t, exec (.glbRtcSetHi m v) s = .next t ∧ stepped t target) ∧
    (s.fb GLB_TOD_CFG.PPS_IN_EN 0 = true → s.tod.msg = some (n, at_) → 1000 ≤ s.rtc.toNat - at_.toNat →
      s.rtc.toNat - at_.toNat ≤ 1000000 → ∃ t, exec .ppsInEdge s = .next t ∧ stepped t (n * 1000000) ∧ t.tod.msg = none) ∧
    (s.fb GLB_TOD_CFG.PPS_IN_EN 0 = true → s.tod.msg = none → ∃ t, exec .ppsInEdge s = .next t ∧ t.tod.streak = 0 ∧
      t.fb GLB_TOD_STATUS.LOCKED 0 = false ∧ t = { s with regs := t.regs, tod := t.tod } ∧ keepsRegs s t [(.GLB_TOD_STATUS, 0)]) ∧
    (todOn s = true → todParse txt = some n → exec (.todMessage txt) s =
      .next { s with tod := { s.tod with msg := some (n, s.rtc) } }) ∧
    (todOn s = true → todParse txt = none → ∃ t, exec (.todMessage txt) s = .next t ∧ t.fb GLB_TOD_EVT.TOD_ERR 0 = true ∧
      onlyRegs s t [(.GLB_TOD_EVT, 0)] []) ∧
    (s.fb GLB_TOD_CFG.PPS_IN_EN 0 = true → ∃ t, exec .ppsLost s = .next t ∧ t.fb GLB_TOD_EVT.PPS_LOST 0 = true ∧
      onlyRegs s t [(.GLB_TOD_EVT, 0)] []) ∧
    (s.fb GLB_TOD_CFG.PPS_OUT_EN 0 = true → exec .ppsOutSecond s = .next { s with
      tod := { s.tod with edge := true }, out := s.out ++ [.pps (max 1 (s.f GLB_TOD_CFG.PPS_OUT_WIDTH 0))] }) ∧
    (s.tod.edge = true → s.fb GLB_TOD_CFG.TOD_TX_EN 0 = true → exec .todTx s = .next { s with
      tod := { s.tod with edge := false }, out := s.out ++
        [.uart (todText (s.rtc.toNat / 1000000 + 1) (b2n (!s.fb GLB_TOD_STATUS.LOCKED 0)))] }) ∧
    (up → ∃ t, exec (.gpioWrite m r v) s = .next t ∧ t.reg (gpioReg r) 0 = maskedWrite (gpioReg r) v ∧
      onlyRegs s t [(gpioReg r, 0)] []) ∧
    (up → ∃ t, exec (.rly1Write m v) s = .next t ∧ t.fb GLB_ALARM.RLY1 0 = bitAt v.toNat 1 ∧ onlyRegs s t [(.GLB_ALARM, 0)] []) ∧
    (up → v.toNat % 4 = 2 → hostView s ≠ 2 → ∃ t, exec (.glbIfverSelWrite .host v) s = .next t ∧ hostView t = 2 ∧
      (∀ b : SelBlock, t.reg (selField b).1.reg (masterIdx .host) = 0) ∧ t = { s with regs := t.regs }) ∧
    (up → aperOk (v.toNat % 512) = true → ∃ t, exec (.glbBar2AperWrite .host v) s = .next t ∧
      t.f GLB_BAR2_APER.BASE 0 = v.toNat % 512 ∧ onlyRegs s t [(.GLB_BAR2_APER, 0)] []) ∧
    (m ≠ .host → exec (.glbIfverSelWrite m v) s = .next s ∧ exec (.glbBar2AperWrite m v) s = .next s)

/-- Requests on a channel (R132–R138, R146, R165, R167, R168, R92, R202): KEY opens a handshake, waits while 16,384 sessions are
held, or fails at once where a flow label is zero; EN runs a READY channel or starts its drain, EPOCH_NOW forces a switch, REMAP
moves the context to the next spare slot, CNT_CLR zeroes the counters, a context write stores the bits of M fields, after the
tests of the fields that it changes on a channel that is not DISABLED, and the end of a drain or a SAK's start time has its
effect. -/
def Obligations.ChannelRequestsTakeEffect : Prop :=
  ∀ (s : State) (m : Master) (v : Word) (c : Fin 16384) (off : BitVec 12), reaches s .ch m c → s.f TWN_STATUS.ROLE 0 ≠ 1 →
    memQuiet s ctxCtl → s.mode = modeOperational →
    let ok := fun (t : State) => accepted t .CH_CHECK m
    let st := chState s c
    let held := s.fb CH_CTL.EN c
    let w := off.toNat / 4 * 4
    let mine := ctxFields.filter fun x => mayWrite m x && fieldMask x w != 0
    let mask := mine.foldl (fun n x => n ||| fieldMask x w) 0
    let new := 16384 + (1024 - s.f CH_SPARE.FREE 0)
    let alone := (s.session c).isNone = true ∧ s.keyWait = []
    let labels := ctxBytes s Ctx.TX_SCI c ≠ zeros 8 ∧ ctxBytes s Ctx.RX_SCI c ≠ zeros 8 ∧ reservedNode (peerNode s c) = false ∧
      (s.pin (peerNode s c)).isSome = true
    let able := s.silo.identity = true ∧ randomFor s helloDraws = true ∧ ownSuites s ≠ []
    let asked := { s with silo := { s.silo with keySeq := s.silo.keySeq + 1 } }
    let request := fun (t : State) => t.key c = { s.key c with request := s.silo.keySeq } ∧ ∀ d, d ≠ c.val → t.key d = s.key d
    let keyed := v = 8 ∧ held = false ∧ st = stDisabled ∧ ctxBit s Ctx.IMPORT c = false
    let fs := ctxFields.filter fun x => x.cls == .m && fieldMask x w != 0
    let changed := fs.filter fun x => (ctxWord s c w ^^^ v.toNat) &&& fieldMask x w != 0
    let put := ctxStore s c w mask v.toNat (masterCode m)
    let codes := ((changed.map liveTest).flatten.map (liveCause put c)).flatten ++ cause (changed.any (·.disabled)) 0x2B
    let stored := fun (t : State) => ctxWord t c w = (ctxWord s c w &&& (2 ^ 32 - 1 - mask)) ||| (v.toNat &&& mask) ∧
      keepsMem s t [(ctxCtl, ctxAddr s c w, 4)]
    (keyed → labels → able → sessionRoom s = true → ∃ t x, exec (.chKey m v) s = .next t ∧
      ok t ∧ chState t c = stKeying ∧ t.session c = some x ∧ x.initiator = true ∧ x.reroot = false ∧ x.peer = peerNode s c ∧
      t = { s with regs := t.regs, cnts := t.cnts, pllRun := t.pllRun, sessions := t.sessions, links := t.links,
                   msgId := t.msgId, freeCtr := t.freeCtr, silo := t.silo, engs := t.engs, fab := t.fab, keys := t.keys } ∧
      hsWork asked t ∧ request t ∧ keepsRegs s t [(.CH_STATUS, c), (.CH_CHECK, masterIdx m)]) ∧
    (keyed → labels → sessionRoom s = false → ∃ t, exec (.chKey m v) s = .next t ∧ ok t ∧ chState t c = stKeying ∧
      c.val ∈ t.keyWait ∧ (∀ d, d ≠ c.val → (d ∈ t.keyWait ↔ d ∈ s.keyWait)) ∧ request t ∧
      t = { asked with regs := t.regs, keyWait := t.keyWait, keys := t.keys } ∧
      keepsRegs s t [(.CH_STATUS, c), (.CH_CHECK, masterIdx m)]) ∧
    (keyed → ctxBytes s Ctx.TX_SCI c = zeros 8 ∨ ctxBytes s Ctx.RX_SCI c = zeros 8 → (s.session c).isNone = true →
      ∃ t, exec (.chKey m v) s = .next t ∧ ok t ∧ chState t c = stDisabled ∧ t.f CH_STATUS.HS_REASON c = hsFlowLabel ∧
        t.fb CH_EVT.HS_FAIL c = true) ∧
    (v = 1 → held = false → st = stReady → enableCauses s c = [] → ∃ t, exec (.chEnable m v) s = .next t ∧ ok t ∧
      chState t c = stActive ∧ t.fb CH_CTL.EN c = true ∧ t.fb CH_STATUS.STARVED c = false ∧ ctx t Ctx.NEXT_SEQ c = 0 ∧
      ctx t Ctx.OTN_GROUP c = 1 ∧ ctx t Ctx.REPLAY_MAP c = 0 ∧ (t.chan c).eq = [] ∧ keepsChans s t c ∧
      keepsRegs s t [(.CH_STATUS, c), (.CH_CTL, c), (.CH_CHECK, masterIdx m)]) ∧
    (v = 1 → held = false → st ≠ stReady → ∃ t, exec (.chEnable m v) s = .next t ∧ refusedWith s t .CH_CHECK m c 0x01) ∧
    (v = 0 → st = stActive → chFraming s c = frMacsec → ∃ t, exec (.chDisable m v) s = .next t ∧ ok t ∧
      chState t c = stDraining ∧ t.fb CH_CTL.EN c = false ∧
      onlyRegs s t [(.CH_STATUS, c), (.CH_CTL, c), (.CH_CHECK, masterIdx m)] []) ∧
    (v = 0 → st = stReady → alone → ∃ t, exec (.chDisable m v) s = .next t ∧ ok t ∧ chState t c = stDisabled ∧
      t.key c = ChanKey.reset ∧ ctx t Ctx.VALID c = 0 ∧ ctx t Ctx.IN_VALID c = 0 ∧
      (∀ k : Nat, k ≤ 1 → ctxBytes t (egKey k) c = zeros 32 ∧ ctxBytes t (egAux k) c = zeros 32) ∧
      (∀ k : Nat, k ≤ 2 → ctxBytes t (inKey k) c = zeros 32 ∧ ctxBytes t (inAux k) c = zeros 32)) ∧
    (v = 0x11 → held = true → st = stActive → egNextReady s c = true → ∃ t, exec (.chEpochNow m v) s = .next t ∧ ok t ∧
      t.chan c = { s.chan c with forced := true } ∧ keepsChans s t c ∧ t = { s with regs := t.regs, chans := t.chans } ∧
      keepsRegs s t [(.CH_CHECK, masterIdx m)]) ∧
    (v = 0x20 → held = false → st = stDisabled → s.f CH_SPARE.FREE 0 ≠ 0 → s.f CH_SPARE.FREE 0 ≤ 1024 →
      ∃ t, exec (.chRemap m v) s = .next t ∧ ok t ∧ slotOf t c = new ∧ t.f CH_SPARE.FREE 0 = s.f CH_SPARE.FREE 0 - 1 ∧
        (∀ x ∈ ctxFields, x.cls = .m → ctx t x c = ctx s x c) ∧ keepsMem s t [(ctxCtl, 1024 * new, 1024)] ∧
        keepsRegs s t [(.CH_REMAP, c), (.CH_SPARE, 0), (.CH_CHECK, masterIdx m)]) ∧
    (0x200 ≤ w → w < 0x600 → st = stDisabled → (mine.any fun x => (ctxWord s c w ^^^ v.toNat) &&& fieldMask x w != 0) = true →
      ∃ t, exec (.chContextWrite m off v) s = .next t ∧ stored t ∧
        t = { s with rams := t.rams, valid := t.valid, memCtl := t.memCtl }) ∧
    (0x200 ≤ w → w < 0x600 → w ≠ 0x320 → w ≠ 0x324 → st ≠ stDisabled → changed ≠ [] → codes = [] →
      ∃ t, exec (.chContextWrite m off v) s = .next t ∧ ok t ∧ stored t ∧
        t = { s with regs := t.regs, rams := t.rams, valid := t.valid, memCtl := t.memCtl } ∧
        keepsRegs s t [(.CH_CHECK, masterIdx m)]) ∧
    (0x200 ≤ w → w < 0x600 → w ≠ 0x320 → w ≠ 0x324 → st ≠ stDisabled → changed ≠ [] → ∀ k ∈ codes, (∀ d ∈ codes, k ≤ d) →
      ∃ t, exec (.chContextWrite m off v) s = .next t ∧ refusedWith s t .CH_CHECK m c k) ∧
    (v.toNat % 2 = 1 → ∃ t, exec (.chCntClr m v) s = .next t ∧ (∀ i : Nat, i < 16 → ctx t (chCounter i) c = 0) ∧
      t = { s with rams := t.rams, valid := t.valid, memCtl := t.memCtl } ∧ keepsCtx s t c ((List.range 16).map chCounter)) ∧
    (st = stDraining → alone → ∃ t, exec (.channelDrainEnd c) s = .next t ∧ chState t c = stDisabled ∧
      t.fb CH_EVT.DRAINED c = true ∧ (t.chan c).eq = [] ∧ (t.chan c).openBale = none ∧ (t.chan c).ready = [] ∧
      (t.chan c).iq = (s.chan c).iq ∧ t.key c = ChanKey.reset) ∧
    ((s.chan c).sakStart.isSome = true → ∃ t, exec (.sakStartTime c) s = .next t ∧
      t.chan c = { s.chan c with sakStart := none, importDue := egValid s c (egNext s c) } ∧ keepsChans s t c ∧
      t = { s with chans := t.chans })

/-- R165: writing 1 to CH_CNT_CLR[0] zeroes all sixteen counters of the selected channel; an increment that is in flight
stays, and appears when the engines add what they hold. -/
def Obligations.ClearedCountersStartFromZero : Prop :=
  ∀ (s : State) (m : Master) (c : Fin 16384) (v : Word), reaches s .ch m c → memQuiet s ctxCtl → v.toNat % 2 = 1 →
    ∃ t u, exec (.chCntClr m v) s = .next t ∧ exec (.contextCounterFlush c) t = .next u ∧
      ∀ i : Nat, i < 16 → ctx t (chCounter i) c = 0 ∧ pends t c i = pends s c i ∧
        ctx u (chCounter i) c = satAdd 64 0 (pends s c i)

/-- Key material stays in its slots (R124, R126, R138): whatever a master writes through the context window, every field that is
not its to write keeps its value; and whatever it reads there, the bits of key fields read as zero. -/
def Obligations.TheContextWindowHidesAndKeepsKeys : Prop :=
  ∀ (s : State) (m : Master) (c : Fin 16384) (off : BitVec 12) (v : Word), reaches s .ch m c → memQuiet s ctxCtl →
    (∃ t, exec (.chContextWrite m off v) s = .next t ∧
      ∀ x ∈ ctxFields, mayWrite m x = false → ctx t x c = ctx s x c) ∧
    (∀ x ∈ ctxFields, x.cls = .k → ∀ i : Nat, i < x.len →
      (ctxWindowRead s m c ((x.off * 8 + x.lo + i) / 32 * 4)).1.testBit ((x.off * 8 + x.lo + i) % 32) = false)

/-- The handshake (R179–R200, R223, R239): a handshake message that the link's receive queue serves is taken; a SHADOW and a
module without identity drop it. A HELLO that passes the checks is answered with an OFFER, an OFFER with an ACCEPT, or with a
failure where there are no random numbers (R217; log 89); a right ACCEPT at the responder and a right CONFIRM at the initiator
commit the root, install epoch 0 and make the channel READY; while the channel drains they are dropped (R137; log 87). An OFFER
of no open session is counted. -/
def Obligations.HandshakesOpenAndCommit : Prop :=
  ∀ (s : State) (p : Fin 64) (msg : List Byte) (c suite : Nat) (x : Session) (q : TMsg),
    isLine p = true → provisioned s p = true → rxHead (s.link (p.val - 32)) = some q → q.cls = 2 → q.bytes = msg → s.keyWait = [] →
    let l := p.val - 32
    let took := s.setLink l { s.link l with msgs := (s.link l).msgs.erase q }
    let ver := min 2 (hsVer msg)
    let mine := fun (e : Nat × Session) => e.2.id == hsSession msg && chLine s e.1 == p.val
    let asked := s.sessions.find? fun e => e.2.initiator && mine e
    let accepted := s.sessions.find? fun e => e.2.initiator && mine e && e.2.accept != []
    let answering := s.sessions.find? fun e => !e.2.initiator && mine e
    (∀ ins ∈ [Instr.hello p msg, .offer p msg, .accept p msg, .confirm p msg], shadows s = true ∨ s.silo.identity = false →
      exec ins s = .next took) ∧
    (s.mode = modeOperational → shadows s = false → s.silo.identity = true → memQuiet s ctxCtl → s.f TWN_STATUS.ROLE 0 ≠ 1 →
      let ready := fun (ins : Instr) (root : List Byte) => ∃ t r, exec ins s = .next t ∧ t.session c = none ∧
        chState t c = stReady ∧ t.fb CH_EVT.HS_DONE c = true ∧ t.f CH_STATUS.HS_REASON c = 0 ∧ (t.key c).root = some r ∧
        r.key = root ∧ r.life = x.life ∧ r.peer = x.peer ∧ ctxBit t Ctx.ROOT_OK c = true ∧ ctxBit t Ctx.ROOT_EXP c = false ∧
        egValid t c (egNext t c) = true ∧ inValid t c (inNext t c) = true
      (helloFormed s msg = true → versionUsable s ver = true → labelChannel s p msg = some c →
        isPeer s (peerNode s c) (hsSender msg) = true → (s.pin (hsSender msg)).isSome = true →
        bitAt (byteAt msg 26).toNat 0 = false → chState s c = stKeying → sliceAt msg 48 8 = hsParams s c →
        chooseSuite s msg ver = some suite → randomFor s offerDraws = true → s.sessions = [] → s.kept = [] →
        ∃ t y, exec (.hello p msg) s = .next t ∧ t.session c = some y ∧ y.initiator = false ∧ y.hello = msg ∧
          y.suite = suite ∧ y.ver = ver ∧ y.peer = hsSender msg ∧ hsType y.offer = 2 ∧ hsWork s t ∧
          t = { s with cnts := t.cnts, links := t.links, msgId := t.msgId, fab := t.fab, sessions := t.sessions, silo := t.silo,
                       engs := t.engs, pllRun := t.pllRun, freeCtr := t.freeCtr }) ∧
      (asked = some (c, x) → x.accept = [] → offerReason s c x msg = none → randomFor s acceptDraws = true →
        ∃ t y, exec (.offer p msg) s = .next t ∧ t.session c = some y ∧ y.offer = msg ∧ y.suite = beAt msg 32 2 ∧
          hsType y.accept = 3 ∧ y.ecPriv = [] ∧ y.dk = [] ∧ y.sends = 1 ∧ t.regs = s.regs ∧ hsWork s t) ∧
      (asked = some (c, x) → x.accept = [] → offerReason s c x msg = none → randomFor s acceptDraws = false →
        ∃ t, exec (.offer p msg) s = .next t ∧ t.session c = none ∧ t.f CH_STATUS.HS_REASON c = hsEntropy ∧
          t.fb CH_EVT.HS_FAIL c = true) ∧
      (accepted = some (c, x) → x.reroot = false → inCur s c ≤ 2 → chState s c ≠ stDraining → hsFormed msg 4 = true →
        hsReceiver msg = s.silo.node → hsVer msg = x.ver → senderReason s c msg = none →
        sliceAt msg 32 48 = Crypto.hmac384 (sessionKeys x x.z).2.1 (th4 x.hello x.offer x.accept msg) →
        ready (.confirm p msg) (sessionKeys x x.z).2.2) ∧
      (s.kept = [] → answering = some (c, x) → x.reroot = false → inCur s c ≤ 2 → chState s c ≠ stDraining →
        acceptReason s c x msg = none → ready (.accept p msg) (sessionKeys { x with accept := msg } x.z).2.2) ∧
      (accepted = some (c, x) → chState s c = stDraining → exec (.confirm p msg) s = .next took) ∧
      (s.kept = [] → answering = some (c, x) → chState s c = stDraining → exec (.accept p msg) s = .next took) ∧
      (asked = none → ∃ t, exec (.offer p msg) s = .next t ∧ counted s t .SILO_HS (hsFormat - 1) ∧
        t = { took with cnts := t.cnts } ∧ keepsCnts s t [(.SILO_HS, hsFormat - 1)]))

/-- Timers of the handshake (R145, R193, R194, R198): a message is sent again until its eighth transmission, after which the
session fails with its reason: a re-root is then due again, with twice the interval, until its root expires, and a KEY handshake
returns the channel to DISABLED; a responder's session expires; a re-root starts when it is due and after a failure again. -/
def Obligations.HandshakeTimersRetryAndFail : Prop :=
  ∀ (s : State) (c : Fin 16384) (x : Session),
    let again := fun (ins : Instr) => x.sends < 8 → ∃ t, exec ins s = .next t ∧
      t.session c = some { x with sends := x.sends + 1 } ∧
      t = { s with sessions := t.sessions, links := t.links, cnts := t.cnts, msgId := t.msgId, fab := t.fab }
    let fails := fun (ins : Instr) (why : Nat) => x.reason = 0 → s.keyWait = [] →
      ∃ t, exec ins s = .next t ∧ t.session c = none ∧ t.f CH_STATUS.HS_REASON c = why ∧ t.fb CH_EVT.HS_FAIL c = true ∧
        counted s t .SILO_HS (why - 1) ∧ (x.reroot = false → chState t c = stDisabled ∧ t.key c = ChanKey.reset) ∧
        (x.reroot = true → hsWork s t ∧
          t = { s with regs := t.regs, cnts := t.cnts, sessions := t.sessions, keys := t.keys, silo := t.silo, engs := t.engs } ∧
          keepsRegs s t [(.CH_STATUS, c), (.CH_EVT, c)] ∧
          (ctxBit s Ctx.ROOT_EXP c = false → t.fb CH_STATUS.REKEYING c = true ∧ t.key c = { s.key c with
            due := true, retry := if (s.key c).retry = 0 then 1 else min 32 (2 * (s.key c).retry) }) ∧
          (ctxBit s Ctx.ROOT_EXP c = true → t.fb CH_STATUS.REKEYING c = false ∧ t.keys = s.keys))
    let open_ := rerootOpen s c = true ∧ ctxBit s Ctx.ROOT_EXP c = false ∧ ctxBytes s Ctx.TX_SCI c ≠ zeros 8 ∧
      ctxBytes s Ctx.RX_SCI c ≠ zeros 8 ∧ reservedNode (peerNode s c) = false ∧ (s.pin (peerNode s c)).isSome = true ∧
      s.silo.identity = true ∧ randomFor s helloDraws = true ∧ ownSuites s ≠ []
    let room := sessionRoom s = true
    let waits := fun (ins : Instr) => ∃ t, exec ins s = .next t ∧ c.val ∈ t.keyWait ∧ t.sessions = s.sessions
    let starts := fun (ins : Instr) => ∃ t y, exec ins s = .next t ∧ t.session c = some y ∧ y.initiator = true ∧
      y.reroot = true ∧ y.fI2R = proposeTx s c ∧ y.fR2I = floorRx s c ∧ (t.key c).due = true ∧
      t.fb CH_STATUS.REKEYING c = true ∧ keepsRegs s t [(.CH_STATUS, c)]
    (s.session c = some x → x.initiator = true → x.accept = [] → again (.helloRetransmit c)) ∧
    (s.session c = some x → x.initiator = true → x.accept ≠ [] → again (.acceptRetransmit c)) ∧
    (s.session c = some x → x.initiator = true → x.accept = [] → 8 ≤ x.sends → fails (.helloRetransmit c) hsNoOffer) ∧
    (s.session c = some x → x.initiator = true → x.accept ≠ [] → 8 ≤ x.sends → fails (.acceptRetransmit c) hsNoConfirm) ∧
    ((∀ e ∈ s.kept, e.1 ≠ c.val) → s.session c = some x → x.initiator = false → fails (.responderSessionExpiry c) hsNoAccept) ∧
    ((∃ e ∈ s.kept, e.1 = c.val) ∨ s.session c = none → s.keyWait = [] →
      exec (.responderSessionExpiry c) s = .next { s with kept := SMap.erase s.kept c }) ∧
    (open_ → room → starts (.rerootDue c)) ∧ (open_ → ¬ room → waits (.rerootDue c)) ∧
    (open_ → room → (s.key c).due = true → linkUp s (chLine s c) = true → starts (.rerootRetry c)) ∧
    (open_ → (s.key c).due = true → linkUp s (chLine s c) = false →
      exec (.rerootRetry c) s = .next (s.setKey c { s.key c with waitLink := true }))

/-- Tithe and fabric messages (R219–R236): frames leave within the credit, in the form of their link; they arrive within the
policing, from an Ethernet line, from GCC0 bytes with a right CRC, or sealed on a twin link, and are put together; a protected
message of the receive queue's head is taken once; NHELLO, LSA, address and kill messages that passed those tests have their
effects, and a broadcast goes on, with the originator's SRC and MSG_ID and one hop less. -/
def Obligations.FabricMessagesHaveTheirEffects : Prop :=
  ∀ (s u : State) (l : Fin 34) (f : TFrame) (b msg body : List Byte) (node orig seq : W64) (addr : BitVec 12) (ver : BitVec 4)
    (num : BitVec 8) (cls : BitVec 3) (lk : Bool) (x : Lsa) (v c a o : Nat) (id : Word) (k : KillReq) (y : TMsg) (fm : FabMsg)
    (sealed : List Byte) (code : BitVec 16) (ch : BitVec 14),
    let q := s.link l
    let port := 32 + l.val
    let b1 := (byteAt b 1).toNat
    let type := beAt msg 16 2
    let eth := l.val < 32 ∧ framing s port ≠ frOtn
    let otn := l.val < 32 ∧ framing s port = frOtn
    let others := fun (t : State) => ∀ j, j ≠ l.val → t.link j = s.link j
    let same := fun (r : Reasm) => r.src == beAt b 4 2 && r.id == BitVec.ofNat 32 (beAt b 6 4) && r.segs == 1
    let fits := titheFormat b = true ∧ beAt b 2 2 = 0xFFF ∧ byteAt b 11 = 1 ∧ q.parts.find? same = none ∧
      rxOccupancy q < classLimit (b1 / 32)
    let took := fun (t : State) => others t ∧ (t.link l).tx = q.tx ∧ (t.link l).parts = q.parts ∧
      counted s t .FAB_RX_FRAMES l ∧ (t.link l).msgs = q.msgs ++
        [⟨b1 / 32, bitAt b1 4, beAt b 4 2, BitVec.ofNat 32 (beAt b 6 4), b1 % 16, sliceAt b 16 (beAt b 12 2)⟩]
    let fresh := match highSeq s orig cls.toNat with | some h => h.toNat < seq.toNat | none => True
    let carries := nodeOf (sliceAt msg 0 8) = orig ∧ BitVec.ofNat 64 (beAt msg 8 8) = seq ∧
      rxHead q = some y ∧ y.cls = cls.toNat ∧ y.lk = lk ∧ y.bytes = msg ∧ cls ≠ 2
    let served := fun (t : State) => (t.link l).msgs = q.msgs.erase y ∧ others t
    let has := fun (type : Nat) (p : FabMsg → Bool) => inboxTake s l type p = some (fm, u)
    let taken := fun (t : State) => t.fab.inbox = s.fab.inbox.erase fm
    let sent := fun (t : State) (ls : List Nat) => ∀ o ∈ ls, (s.link o).tx = [] → (t.link o).tx ≠ []
    let net := fun (t : State) => t = { s with regs := t.regs, cnts := t.cnts, links := t.links, msgId := t.msgId, fab := t.fab }
    let resent := fun (t : State) => o ∈ adjLinks s → o ≠ l.val → (s.link o).tx = [] → fm.msg.hops ≠ 0 → fm.msg.cls ≠ 4 →
      fm.msg.bytes ≠ [] → fm.msg.bytes.length ≤ 2048 → (t.link o).tx = [⟨fm.msg.cls, titheHeader (linkVer s o) fm.msg.cls false
        (fm.msg.hops - 1) 0xFFF fm.msg.src fm.msg.id 0 1 fm.msg.bytes.length ++ fm.msg.bytes⟩]
    (eth → s.f PORT_CTL.LPBK port = 0 → linkSends s l = true → txHead q = some f → 10000 * (f.bytes.length + 38) ≤ (refill s l).credit →
      ∃ t, exec (.titheFrameTx l) s = .next t ∧ t.out = s.out ++ [.line port (titheEthernet s l f.bytes)] ∧
        t.link l = { refill s l with tx := q.tx.erase f, credit := (refill s l).credit - 10000 * (f.bytes.length + 38) } ∧
        others t ∧ counted s t .FAB_TX_FRAMES l ∧ counted s t .PORT_TX_FRAMES port ∧
        keepsCnts s t [(.FAB_TX_FRAMES, l), (.PORT_TX_FRAMES, port)] ∧
        t = { s with out := t.out, links := t.links, cnts := t.cnts }) ∧
    (eth → txHead q = some f → (refill s l).credit < 10000 * (f.bytes.length + 38) → exec (.titheFrameTx l) s = .next s) ∧
    (otn → s.f PORT_CTL.LPBK port = 0 → linkSends s l = true → txHead q = some f → ∃ t, exec (.titheFrameTx l) s = .next t ∧
      (t.link l).tx = q.tx.erase f ∧
      t.out = s.out ++ [.tithe l (beBytes 2 0x7E5A ++ f.bytes ++ Crypto.fcs f.bytes)] ∧ others t ∧
      counted s t .FAB_TX_FRAMES l ∧ keepsCnts s t [(.FAB_TX_FRAMES, l)] ∧
      t = { s with out := t.out, links := t.links, cnts := t.cnts }) ∧
    (eth → linkHears s l = true → fits → 10000 * (b.length + titheEthOverhead) ≤ (refill s l).tokens →
      ∃ t, exec (.titheFrameRx l b) s = .next t ∧ took t ∧ keepsCnts s t [(.FAB_RX_FRAMES, l)] ∧
        (t.link l).tokens = (refill s l).tokens - 10000 * (b.length + titheEthOverhead) ∧
        t = { s with links := t.links, cnts := t.cnts }) ∧
    (eth → linkHears s l = true → (refill s l).tokens < 10000 * (b.length + titheEthOverhead) →
      ∃ t, exec (.titheFrameRx l b) s = .next t ∧ (t.link l).msgs = q.msgs ∧ (t.link l).parts = q.parts ∧ others t ∧
        counted s t .FAB_RX_DROP_POLICE l ∧ t = { s with links := t.links, cnts := t.cnts }) ∧
    (otn → linkHears s l = true → fits → q.gcc = [] → b.length = 16 + beAt b 12 2 →
      (∃ t, exec (.titheFrameRx l (beBytes 2 0x7E5A ++ b ++ Crypto.fcs b)) s = .next t ∧ took t ∧ (t.link l).gcc = [] ∧
        keepsCnts s t [(.FAB_RX_FRAMES, l)] ∧ t = { s with links := t.links, cnts := t.cnts }) ∧
      (id.toNat ≠ beAt (Crypto.fcs b) 0 4 → (s.cnt .FAB_RX_DROP_FMT l).toNat < 2 ^ 64 - 1 →
        ∃ t, exec (.titheFrameRx l (beBytes 2 0x7E5A ++ b ++ beBytes 4 id.toNat)) s = .next t ∧
          (s.cnt .FAB_RX_DROP_FMT l).toNat < (t.cnt .FAB_RX_DROP_FMT l).toNat)) ∧
    (l.val ≥ 32 → fits → (twinArrive s (l.val - 32) sealed).1 = some (BitVec.ofNat 8 twinTithe :: b) →
      ∃ t, exec (.titheFrameRx l sealed) s = .next t ∧ took t ∧ keepsCnts s t [(.FAB_RX_FRAMES, l)] ∧
        t = { s with regs := t.regs, links := t.links, cnts := t.cnts, twin := t.twin } ∧ keepsRegs s t [(.TWN_STATUS, 0)]) ∧
    (q.parts.any (fun r => r.src == addr.toNat && r.id == id) = true → ∃ t, exec (.titheReassemblyTimeout l addr id) s = .next t ∧
      (t.link l).parts = q.parts.filter (fun r => !(r.src == addr.toNat && r.id == id)) ∧ counted s t .FAB_RX_DROP_FMT l ∧
      others t ∧ t = { s with links := t.links, cnts := t.cnts }) ∧
    (carries → type ≠ fmNhello → fabOpen s msg = some body → orig ≠ ownNode s → neighbour s l ≠ orig → fresh →
      ∃ t, exec (.fabricMessageRx l cls lk msg) s = .next t ∧ highSeq t orig cls.toNat = some seq ∧ served t ∧
        t.fab.inbox = s.fab.inbox ++ [⟨l, cls.toNat, orig, seq, type, body, y⟩] ∧ t = { s with links := t.links, fab := t.fab }) ∧
    (carries → type ≠ fmNhello → fabOpen s msg = some body → orig ≠ ownNode s → neighbour s l = orig → adjacent s l = true →
      fresh → ∃ t, exec (.fabricMessageRx l cls lk msg) s = .next t ∧ highSeq t orig cls.toNat = some seq ∧ served t ∧
        t.fab.inbox = s.fab.inbox ++ [⟨l, cls.toNat, orig, seq, type, body, y⟩] ∧ t.fab.authed.contains l.val = true ∧
        t = { s with links := t.links, fab := t.fab }) ∧
    (carries → type ≠ fmNhello → fabOpen s msg = none ∨ orig = ownNode s ∨ ¬ fresh →
      ∃ t, exec (.fabricMessageRx l cls lk msg) s = .next t ∧ counted s t .FAB_RX_DROP_TAG l ∧ served t ∧
        t = { s with links := t.links, cnts := t.cnts }) ∧
    (carries → type = fmNhello → ∃ t, exec (.fabricMessageRx l cls lk msg) s = .next t ∧ served t ∧
      t.fab.inbox = s.fab.inbox ++ [⟨l, cls.toNat, orig, seq, type, msg.drop 20, y⟩] ∧ t = { s with links := t.links, fab := t.fab }) ∧
    (rxHead q = none → exec (.fabricMessageRx l cls lk msg) s = .next s) ∧
    (has fmNhello (fun m => m.body == nhelloBody node addr.toNat ver.toNat num.toNat) →
      (fabEn s = true → fabLinkUp s l = true → reservedNode node = false → (s.pin node).isSome = true → adjacent s l = false →
        s.fab.authed.contains l.val = false → linkVersion s l ver.toNat = some v → ∃ t, exec (.nhello l node addr ver num) s = .next t ∧
        neighbour t l = node ∧ t.f FAB_LINK_STATUS.VER l = v ∧ t.f FAB_LINK_STATUS.NEIGH_ADDR l = addr.toNat ∧
        t.fb FAB_LINK_STATUS.UNPINNED l = false ∧ taken t ∧ t = { s with regs := t.regs, fab := t.fab } ∧
        keepsRegs s t [(.FAB_LINK_STATUS, l), (.FAB_LINK_NEIGH, 2 * l), (.FAB_LINK_NEIGH, 2 * l + 1)]) ∧
      (fabEn s = true → fabLinkUp s l = true → reservedNode node = true → ∃ t, exec (.nhello l node addr ver num) s = .next t ∧
        counted s t .FAB_RX_DROP_FMT l ∧ taken t ∧ t = { s with cnts := t.cnts, fab := t.fab })) ∧
    (has fmLsa (fun m => m.body == lsaBody x) → x.addr = addr.toNat → fabEn s = true → x.node ≠ ownNode s →
      s.fab.lsdb.find? (fun y => y.node == x.node) = none → fabAddr s = 0 → ∃ t, exec (.lsa l x.node addr x.seq x.nbrs) s = .next t ∧
        t.fab.lsdb = s.fab.lsdb.filter (fun y => y.node != x.node) ++ [x] ∧ taken t ∧
        (s.silo.fabKey.isSome = true → sent t [l.val]) ∧
        t = { s with regs := t.regs, cnts := t.cnts, links := t.links, msgId := t.msgId, fab := t.fab, lost := t.lost } ∧
        ∀ r i, r ≠ .FAB_ROUTE → (r, i) ≠ (.FAB_EVT, 0) → t.reg r i = s.reg r i) ∧
    (has fmLsaAck (fun m => m.body == nodeBytes node ++ beBytes 8 seq.toNat) → ∃ t, exec (.lsaAck l node seq) s = .next t ∧
      t = { s with fab := t.fab } ∧ taken t ∧
      t.fab.unacked = s.fab.unacked.filter fun u => !(u.1 == l.val && u.2.1 == node && decide (u.2.2.toNat ≤ seq.toNat))) ∧
    (has fmAddrReq (fun m => m.body == addrBody node addr.toNat) → fabEn s = true →
      (isRegistrar s = true → s.silo.fabKey.isSome = true → grantAddr s node addr.toNat = some a →
        ∃ t, exec (.addrReq l node addr) s = .next t ∧ sent t (openLinks s) ∧ t.fab.sendSeq = (nextSeq s).1 ∧ taken t ∧
          t.regs = s.regs ∧ net t) ∧
      (isRegistrar s = false → ∃ t, exec (.addrReq l node addr) s = .next t ∧ resent t ∧ taken t ∧ t.regs = s.regs ∧ net t)) ∧
    (has fmAddrGrant (fun m => m.body == addrBody node addr.toNat) → fabEn s = true →
      (node = ownNode s → addr ≠ 0 → ∃ t, exec (.addrGrant l node addr) s = .next t ∧ fabAddr t = addr.toNat ∧ resent t ∧ taken t ∧
        t.f FAB_STATUS.STATE 0 = 2 ∧ t.fab.lastAddr = addr.toNat ∧ net t ∧ keepsRegs s t [(.FAB_STATUS, 0)]) ∧
      (node ≠ ownNode s → ∃ t, exec (.addrGrant l node addr) s = .next t ∧ resent t ∧ taken t ∧ t.regs = s.regs ∧ net t)) ∧
    (has fmKill (fun m => m.orig == orig && m.body == body) → body.length = 40 →
      body.drop 24 = (Crypto.sha384 (body.take 24)).take 16 → c = beAt body 8 2 → c < 16384 →
      nodeOf (sliceAt body 0 8) = ownNode s → s.fab.acted.find? (fun e => e.1 == orig) = none → chState s c ≠ stDisabled →
      killFrom s (peerNode s c) orig = true → ctx s Ctx.PEER_CH c = beAt body 10 2 → ∃ t, exec (.kill l orig body) s = .next t ∧
        chState t c = stDisabled ∧ t.key c = ChanKey.reset ∧ t.fb FAB_EVT.KILL_RX 0 = true ∧ (t.chan c).eq = [] ∧ taken t ∧
        (orig, BitVec.ofNat 64 (beAt body 16 8)) ∈ t.fab.acted) ∧
    (has fmKillAck (fun m => m.orig == orig && m.body == beBytes 8 seq.toNat ++ [BitVec.ofNat 8 num.toNat]) →
      s.fab.kills.find? (fun e => e.2.seq == seq && isPeer s e.2.target orig) = some (c, k) →
      ∃ t, exec (.killAck l orig seq num) s = .next t ∧ t.fab.kills = SMap.erase s.fab.kills c ∧ taken t ∧
        t.fb FAB_EVT.KILL_ACKED 0 = true ∧ t = { s with regs := t.regs, fab := t.fab } ∧ keepsRegs s t [(.FAB_EVT, 0)]) ∧
    (has fmAlarm (fun m => m.orig == orig && m.seq == seq && m.body == alarmBody code.toNat node ch.toNat) → fabEn s = true →
      ∃ t, exec (.alarm l orig seq code node ch) s = .next t ∧ resent t ∧ taken t ∧ t.regs = s.regs ∧ net t) ∧
    (s.fab.inbox = [] → ∀ ins ∈ [.nhello l node addr ver num, .lsa l node addr seq x.nbrs, .lsaAck l node seq,
      .addrReq l node addr, .addrGrant l node addr, .kill l orig body, .killAck l orig seq num, .alarm l orig seq code node ch],
      exec ins s = .next s)

/-- Timers and registers of the fabric (R227–R236, R250, R253): NHELLOs and LSAs go out when due, a silent neighbour is
forgotten, addresses are asked for, kills are sent, repeated and given up, and registers take what may be written. A kill
sequence rises above the last one and is no lower than the clock (the model's choice, log 92). -/
def Obligations.FabricTimersAndRegistersTakeEffect : Prop :=
  ∀ (s : State) (l : Fin 34) (node : W64) (m : Master) (a : BitVec 12) (v : Word) (c : Fin 16384) (k : KillReq) (g : Nat),
    let up := s.blkUp .FAB = true
    let sent := fun (t : State) (ls : List Nat) => ∀ o ∈ ls, (s.link o).tx = [] → (t.link o).tx ≠ []
    let net := fun (t : State) => t = { s with regs := t.regs, cnts := t.cnts, links := t.links, msgId := t.msgId, fab := t.fab }
    let routed := fun (t : State) =>
      t = { s with regs := t.regs, cnts := t.cnts, links := t.links, msgId := t.msgId, fab := t.fab, lost := t.lost }
    let route := fun (r : Reg) (i : Nat) => r = .FAB_ROUTE ∨ r = .FAB_EVT ∧ i = 0
    let key := s.silo.fabKey.isSome = true
    (fabEn s = true → ∃ t, exec .nhelloTimer s = .next t ∧ sent t ((List.range 34).filter (fabLinkUp s)) ∧
      (∀ o, o < 34 → fabLinkUp s o = true → (s.link o).tx = [] → ∀ f ∈ (t.link o).tx, byteAt f.bytes 0 = 3) ∧
      t.regs = s.regs ∧ net t) ∧
    (∃ t, exec (.neighbourTimeout l) s = .next t ∧ t.reg .FAB_LINK_STATUS l = 0 ∧ neighbour t l = 0 ∧
      (adjacent s l = true → t.fb FAB_EVT.NEIGH_LOST 0 = true) ∧ t.fab.authed.contains l.val = false ∧ routed t ∧
      ∀ r i, ¬ route r i → (r, i) ∉ [(Reg.FAB_LINK_STATUS, l.val), (.FAB_LINK_NEIGH, 2 * l), (.FAB_LINK_NEIGH, 2 * l + 1)] →
        t.reg r i = s.reg r i) ∧
    (isRegistrar s = true → fabAddr s = 0 → grantAddr s (ownNode s) (ownPref s) = some g → ∃ t, exec .addrReqTimer s = .next t ∧
      fabAddr t = g % 2 ^ 12 ∧ t.f FAB_STATUS.STATE 0 = 2 ∧ t = { s with regs := t.regs, fab := t.fab } ∧
      keepsRegs s t [(.FAB_STATUS, 0)]) ∧
    (fabEn s = true → isRegistrar s = false → fabAddr s = 0 → key → ∃ t, exec .addrReqTimer s = .next t ∧
      sent t (openLinks s) ∧ t.regs = s.regs ∧ net t) ∧
    (fabEn s = true → key → ∃ t, exec .lsaRefresh s = .next t ∧ t.fab.lsaSeq = s.fab.lsaSeq + 1 ∧ sent t (openLinks s) ∧
      t.regs = s.regs ∧ net t) ∧
    (key → (s.fab.unacked.any fun u => u.1 == l.val && u.2.1 == ownNode s) = true →
      ∃ t, exec (.lsaRetransmit l (ownNode s)) s = .next t ∧ sent t [l.val] ∧ t.regs = s.regs ∧ net t) ∧
    (∃ t, exec (.lsaExpiry node) s = .next t ∧ t.fab.lsdb = s.fab.lsdb.filter (fun x => x.node != node) ∧
      (∀ u ∈ t.fab.unacked, u.2.1 ≠ node) ∧ t = { s with regs := t.regs, fab := t.fab, lost := t.lost } ∧
      ∀ r i, ¬ route r i → t.reg r i = s.reg r i) ∧
    (noErrors s → exec .fabricKeyPrevExpiry s = .next { s with silo := { s.silo with prevKey := none } }) ∧
    (up → m = .me0 ∨ m = .me1 → a ≠ 0 → a ≠ 4095 → ∃ t, exec (.fabRouteWrite m a v) s = .next t ∧
      t.reg .FAB_ROUTE a.toNat = maskedWrite .FAB_ROUTE v ∧
      (s.reg .FAB_ROUTE a.toNat ≠ maskedWrite .FAB_ROUTE v → t.fb FAB_EVT.ROUTE_CHANGE 0 = true) ∧
      t.lost = s.lost.filter (· != .route a) ∧ t = { s with regs := t.regs, lost := t.lost } ∧
      keepsRegs s t [(.FAB_ROUTE, a.toNat), (.FAB_EVT, 0)]) ∧
    ((m ≠ .me0 ∧ m ≠ .me1) ∨ a = 0 ∨ a = 4095 → exec (.fabRouteWrite m a v) s = .next s) ∧
    (up → key → v.toNat % 4096 ≠ 0xFFF → bitAt v.toNat 31 = true → fabEn s = false → fabAddr s = 0 →
      ∃ t, exec (.fabCfgWrite m v) s = .next t ∧ accepted t .FAB_CHECK m ∧ t.reg .FAB_CFG 0 = maskedWrite .FAB_CFG v ∧
        t.f FAB_STATUS.STATE 0 = 1 ∧ onlyRegs s t [(.FAB_CFG, 0), (.FAB_STATUS, 0), (.FAB_CHECK, masterIdx m)] []) ∧
    (up → s.silo.fabKey = none → v.toNat % 4096 ≠ 0xFFF → bitAt v.toNat 31 = true → ∃ t, exec (.fabCfgWrite m v) s = .next t ∧
      refusedWith s t .FAB_CHECK m (s.f FAB_LINK_SEL.LINK (masterIdx m)) 0x65) ∧
    (up → v = BitVec.ofNat 32 (2 ^ 31 + c.val) → chState s c ≠ stDisabled → (s.key c).root.isSome = true → killPending s c = none →
      32 ≤ chLine s c → linkUp s (chLine s c) = true → key → fabEn s = true → ∃ t, exec (.fabKill m v) s = .next t ∧
        accepted t .FAB_CHECK m ∧ chState t c = stDisabled ∧ t.key c = ChanKey.reset ∧ t.fab.killSeq = nextKill s ∧
        killPending t c = some ⟨nextKill s, peerNode s c, ctx s Ctx.PEER_CH c, chLine s c⟩) ∧
    (s.fab.killSeq.toNat < 2 ^ 64 - 1 → s.fab.killSeq.toNat < (nextKill s).toNat) ∧
    (killPending s c = some k → 32 ≤ k.line → linkUp s k.line = true → key → ∃ t, exec (.killRepeat c) s = .next t ∧
      sent t [k.line - 32] ∧ t.fab.kills = s.fab.kills ∧ (s.lost = [] → t.regs = s.regs ∧ net t)) ∧
    (killPending s c = some k → ∃ t, exec (.killTimeout c) s = .next t ∧ killPending t c = none ∧
      t.fb FAB_EVT.KILL_FAILED 0 = true ∧ t = { s with regs := t.regs, fab := t.fab } ∧ keepsRegs s t [(.FAB_EVT, 0)])

/-- The twin pair (R237–R248, R252, R253): the messages of an association and its end; the roles that an association, a
handover, a relinquishment, a split, a command, a disabling and the input of a dead partner give; the frames that count, the
mirror's records and acknowledgements; and the forced switch after a takeover. The layouts of frames and records, and the
reassociation by the timer alone, are the model's choices (log 34). -/
def Obligations.TwinRolesAndMirrorFollowTheRules : Prop :=
  ∀ (s : State) (m : Master) (c : Fin 16384) (k : Fin 2) (v mask : Word) (r n made : W64) (off : BitVec 12) (msg frame : List Byte)
    (sec : List Byte) (same act : Bool) (x : Session) (why suite life fTx fRx : Nat) (key : List Byte) (rk : MirrorRec) (ak : MirrorAck)
    (cs : List W64) (p : Fin 64) (inp : Fin 17),
    let up := s.blkUp .TWN = true
    let quiet := busyChannels s = [] ∧ s.sessions = [] ∧ s.keyWait = [] ∧ s.keys = []
    let turned := fun (ins : Instr) (role cause : Nat) => ∃ t, exec ins s = .next t ∧ twinRole t = role ∧
      t.reg .TWN_LAST_FO 0 = BitVec.ofNat 32 (cause * 2 ^ 28) ∧ counted s t .TWN_ROLE_CHANGES 0 ∧ t.silo = s.silo ∧
      t.chans = s.chans ∧ t.keys = s.keys ∧ t.rams = s.rams
    let mir := fun (t : State) => counted s t .TWN_MIRROR_RX 0
    let down := s.fb TWN_STATUS.LINK0 0 = false ∧ s.fb TWN_STATUS.LINK1 0 = false
    let assoc := s.fb TWN_STATUS.ASSOC 0 = true
    let en := s.fb TWN_CFG.EN 0 = true
    let inert := s.fb TWN_CFG.DEAD_IN_EN 0 = false
    let split := quiet ∧ s.twin.lost = true ∧ down ∧ en ∧ inert
    let opens := fun (kind : Nat) (body : List Byte) => assoc ∧ twinOpen s k frame = some (BitVec.ofNat 8 kind :: body)
    let linkField := if k = 0 then TWN_STATUS.LINK0 else TWN_STATUS.LINK1
    let sends := fun (t : State) (link : Nat) (b : List Byte) => t.out = s.out ++ [.twin link twinHandshake b b]
    let work := fun (t : State) => hsWork s t ∧ t = { s with
      out := t.out, twin := t.twin, silo := t.silo, engs := t.engs, pllRun := t.pllRun, freeCtr := t.freeCtr }
    let heard := k.val != 0 && s.twin.skip0
    let tells := fun (t : State) (why : Nat) => t.f TWN_STATUS.ASSOC_REASON 0 = why ∧ t.fb TWN_EVT.ASSOC_FAIL 0 = true ∧
      keepsCnts s t [(.SILO_HS, why - 1)]
    let ends := fun (t : State) (why : Nat) => tells t why ∧ keepsRegs s t [(.TWN_STATUS, 0), (.TWN_EVT, 0)] ∧
      t = { s with regs := t.regs, cnts := t.cnts, twin := t.twin, silo := t.silo, engs := t.engs } ∧
      t.silo = { s.silo with jobs := t.silo.jobs } ∧ ∀ e, e < 64 ∨ 68 ≤ e → t.eng e = s.eng e
    let asked := en ∧ s.silo.identity = true
    (up → quiet → v = 1 → twinRole s = roleActive → s.fb TWN_STATUS.SYNC 0 = true → twinLinkUp s = true →
      turned (.handover m v) roleShadow foHandover) ∧
    (up → v = 1 → twinRole s = roleActive → s.fb TWN_STATUS.SYNC 0 = false → ∃ t, exec (.handover m v) s = .next t ∧
      refusedWith s t .TWN_CHECK m 0 0x6B) ∧
    (up → quiet → v = 2 → twinRole s = roleShadow → down → turned (.takeover m v) roleSolo foCommand) ∧
    (up → v = 1 → twinRole s ≠ roleActive → ∃ t, exec (.handover m v) s = .next t ∧ refusedWith s t .TWN_CHECK m 0 0x6A) ∧
    (up → v = 0x80000000 → s.mode = modeOperational → s.reg .TWN_CFG 0 = 0 → (s.silo.pins.any fun p => p.twin) = true →
      ∃ t, exec (.twnCfgWrite m v) s = .next t ∧ accepted t .TWN_CHECK m ∧ t.reg .TWN_CFG 0 = v ∧
        twinRole t = roleAssociating ∧ onlyRegs s t [(.TWN_CFG, 0), (.TWN_STATUS, 0), (.TWN_CHECK, masterIdx m)] []) ∧
    (up → v = 0 → s.reg .TWN_CFG 0 = 0x80000000 → leads s = true → s.keys = [] → ∃ t, exec (.twnCfgWrite m v) s = .next t ∧
      accepted t .TWN_CHECK m ∧ t.reg .TWN_STATUS 0 = 0 ∧ t.fb TWN_EVT.DEMOTED 0 = true ∧ counted s t .TWN_ROLE_CHANGES 0) ∧
    (asked → hsType msg = 1 → s.twin.sess = none → s.twin.kept = none → twinStarts s = false →
      (twinHelloReason s msg = none → twinSuite s msg = some suite → ∃ t y, exec (.twinAssociation k msg sec act) s = .next t ∧
        t.twin = { s.twin with sess := some y, skip0 := heard } ∧ y.hello = msg ∧ y.suite = suite ∧ sends t k y.offer ∧ work t) ∧
      (twinHelloReason s msg = some why → 0 < why → why < 0x20 → why ≠ hsNotEnrolled ∨ twinPin s = none →
        ∃ t, exec (.twinAssociation k msg sec act) s = .next t ∧ tells t why ∧ counted s t .SILO_HS (why - 1) ∧
          t = { s with regs := t.regs, cnts := t.cnts, twin := { s.twin with skip0 := heard } } ∧
          keepsRegs s t [(.TWN_STATUS, 0), (.TWN_EVT, 0)]) ∧
      (∀ p, twinHelloReason s msg = some hsNotEnrolled → twinPin s = some p → s.pin p.node = some p →
        ∃ t q, exec (.twinAssociation k msg sec act) s = .next t ∧ tells t hsIdentityChanged ∧ t.pin p.node = some q ∧
          q.changed = true ∧ (p.changed = false → t.fb SILO_EVT.PEER_CHANGED 0 = true) ∧
          t = { s with regs := t.regs, cnts := t.cnts, silo := { s.silo with pins := t.silo.pins },
                       twin := { s.twin with skip0 := heard } } ∧
          keepsRegs s t [(.TWN_STATUS, 0), (.TWN_EVT, 0), (.SILO_EVT, 0)])) ∧
    (asked → hsType msg = 1 → s.twin.sess = some x → x.initiator = false → x.hello = msg → ∃ t,
      exec (.twinAssociation k msg sec act) s = .next t ∧ sends t k x.offer ∧
        t = { s with out := t.out, twin := { s.twin with skip0 := heard } }) ∧
    (asked → s.twin.sess = some x → x.initiator = true → x.id = hsSession msg → x.accept ≠ [] → hsFormed msg 4 = true →
      hsReceiver msg = s.silo.node → hsVer msg = x.ver → twinSender s msg = none →
      (macROk x msg = true → (byteAt (sliceAt x.offer (offAttest x.ver) 64) 54).toNat = s.variant →
        (sec = twinSections s → s.fb TWN_STATUS.ASSOC 0 = false → twinRole s = roleAssociating → quiet →
          ∃ t, exec (.twinAssociation k msg sec act) s = .next t ∧ t.fb TWN_STATUS.ASSOC 0 = true ∧ t.fb linkField 0 = true ∧
            twinPartner t = x.peer ∧ t.twin.root = (sessionKeys x x.z).2.2 ∧ t.twin.suite = x.suite ∧ t.twin.sess = none ∧
            twinRole t = (if !act && decide (s.silo.node.toNat < x.peer.toNat) then roleActive else roleShadow)) ∧
        (sec ≠ twinSections s → ∃ t, exec (.twinAssociation k msg sec act) s = .next t ∧
          t.twin = { s.twin with sess := none, skip0 := heard } ∧ ends t 0x6E)) ∧
      (macROk x msg = false → ∃ t, exec (.twinAssociation k msg sec act) s = .next t ∧
        t.twin = { s.twin with sess := some { x with reason := hsMac }, skip0 := heard } ∧ counted s t .SILO_HS (hsMac - 1) ∧
        t = { s with cnts := t.cnts, twin := t.twin })) ∧
    (s.fb TWN_CFG.EN 0 = false → exec (.twinAssociation k msg sec act) s = .next s ∧ exec .twinReassociateTimer s = .next s) ∧
    (en → twinStarts s = true → s.twin.sess = none → assocBar s = none → ∃ t y, exec .twinReassociateTimer s = .next t ∧
      t.twin = { s.twin with sess := some y } ∧ y.initiator = true ∧ hsType y.hello = 1 ∧ sends t (twinPath s) y.hello ∧ work t) ∧
    (en → twinStarts s = false → s.twin.sess = none → exec .twinReassociateTimer s = .next s) ∧
    (en → twinStarts s = false → s.twin.sess = some x → 0 < assocTimeout x → assocTimeout x < 0x20 →
      ∃ t, exec .twinReassociateTimer s = .next t ∧ ends t (assocTimeout x) ∧ t.twin = { s.twin with
        sess := none, skip0 := s.twin.skip0 != (x.initiator && x.accept == [] && x.reason == 0) }) ∧
    (assoc → twinRole s ≠ roleActive → ∃ t y z, exec .twinHeartbeat s = .next t ∧
      t.out = s.out ++ [.twin 0 twinHeartbeat [] y, .twin 1 twinHeartbeat [] z] ∧
      t.twin = { s.twin with seqTx := s.twin.seqTx + 2 } ∧ t = { s with out := t.out, twin := t.twin, cnts := t.cnts }) ∧
    (assoc → twinRole s = roleActive → ∃ t y z, exec .twinHeartbeat s = .next t ∧
      let body := mirBody (.heartbeat ((busyChannels s).map (marksOf s)))
      t.out = s.out ++ [.twin 0 twinHeartbeat body y, .twin 1 twinHeartbeat body z] ∧
      t.f TWN_LAG.CUR 0 ≤ t.f TWN_LAG.PEAK 0 ∧ s.f TWN_LAG.PEAK 0 ≤ t.f TWN_LAG.PEAK 0 ∧ keepsRegs s t [(.TWN_LAG, 0)] ∧
      t.twin = { s.twin with seqTx := s.twin.seqTx + 2 } ∧
      t = { s with out := t.out, twin := t.twin, cnts := t.cnts, regs := t.regs, freeCtr := t.freeCtr }) ∧
    (s.fb linkField 0 = true → adjacent s (32 + k) = false →
      ∃ t, exec (.twinLinkTimeout k) s = .next t ∧ t.fb linkField 0 = false ∧
        t.fb TWN_EVT.LINK_LOST 0 = true ∧ (twinLinkUp t = false → t.twin.lost = true) ∧
        (∀ i : Nat, i < 8 → laneLocked t (64 + 8 * k + i) = false) ∧
        t = { s with regs := t.regs, fab := t.fab, twin := t.twin, hlth := { s.hlth with lanes := t.hlth.lanes } }) ∧
    (split → twinLower s = true → twinRole s = roleShadow → s.fb TWN_STATUS.SYNC 0 = true → turned .split roleSolo foSplit) ∧
    (split → twinLower s = true → twinRole s = roleActive → turned .split roleSolo foSplit) ∧
    (split → twinLower s = false → twinRole s = roleActive → turned .split roleShadow foSplit) ∧
    (split → twinRole s = roleShadow → twinLower s = false ∨ s.fb TWN_STATUS.SYNC 0 = false → ∃ t, exec .split s = .next t ∧
      twinRole t = roleShadow ∧ t.twin = { s.twin with lost := false, split := true } ∧ t.fb TWN_EVT.SPLIT 0 = true ∧
      t.fb TWN_STATUS.SYNC 0 = false ∧ onlyRegs { s with twin := t.twin } t [(.TWN_STATUS, 0), (.TWN_EVT, 0)] []) ∧
    (quiet → opens twinRelinquish [] → twinRole s = roleShadow → s.fb TWN_STATUS.SYNC 0 = true →
      turned (.relinquish k frame) roleActive foRelinquish) ∧
    (assoc → twinOpen s k frame = none → ∀ ins ∈ [.relinquish k frame, .mirrorRecord k frame rk, .mirrorAck k frame ak],
      ∃ t, exec ins s = .next t ∧ counted s t .TWN_LINK_ERR 0 ∧ keepsCnts s t [(.TWN_LINK_ERR, 0)] ∧ t = { s with cnts := t.cnts }) ∧
    (quiet → en → s.fb TWN_CFG.DEAD_IN_EN 0 = true → twinRole s = roleShadow → s.twin.split = true → down →
      s.fb TWN_CFG.ACT_EN 0 = false →
        (twinLower s = false → turned .partnerDeadInput roleSolo foDeadInput ∧
          (inp.val = s.f TWN_CFG.DEAD_GPIO 0 → act ≠ s.fb EVC_IN_CFG.POL inp →
            turned (.externalInputChange inp act) roleSolo foDeadInput)) ∧
        (twinLower s = true → ∃ t, exec .partnerDeadInput s = .next t ∧ twinRole t = roleShadow ∧
          t = { s with evc := { s.evc with pins := t.evc.pins } })) ∧
    (s.twin.forced.contains c.val = true → ∃ t, exec (.takeoverForcedSwitch c) s = .next t ∧
      t.chan c = { s.chan c with forced := true } ∧ keepsChans s t c ∧ t.twin.forced = s.twin.forced.filter (· != c.val) ∧
      t = { s with chans := t.chans, twin := t.twin }) ∧
    (twinRole s = roleShadow → s.twin.fullDone = false → memQuiet s ctxCtl →
      (opens twinReservation (mirBody (.reservation c r)) → ∃ t, exec (.mirrorRecord k frame (.reservation c r)) s = .next t ∧
        ctx t Ctx.RES_END c = r.toNat ∧ mir t ∧ t.out.length = s.out.length + 1 ∧ keepsCtx s t c [Ctx.RES_END]) ∧
      (opens twinField (mirBody (.field c off mask v)) → ∃ t, exec (.mirrorRecord k frame (.field c off mask v)) s = .next t ∧
        let a := ctxAddr s c off.toNat
        leNat (ramBytes t ctxCtl a 4) = (leNat (ramBytes s ctxCtl a 4) &&& (2 ^ 32 - 1 - mask.toNat)) ||| (v.toNat &&& mask.toNat) ∧
        mir t ∧ keepsMem s t [(ctxCtl, a, 4)]) ∧
      (opens twinHeartbeat (mirBody (.heartbeat [⟨c, r, [n, n, n], n, cs⟩])) →
        ∃ t, exec (.mirrorRecord k frame (.heartbeat [⟨c, r, [n, n, n], n, cs⟩])) s = .next t ∧
          ctx t Ctx.NEXT_SEQ c = r.toNat ∧ ctx t Ctx.OTN_GROUP c = n.toNat ∧ (∀ i : Nat, i ≤ 2 → ctx t (inHigh i) c = n.toNat) ∧
          (∀ i : Nat, i < 16 → ctx t (chCounter i) c = (cs.getD i 0).toNat) ∧ mir t ∧
          keepsCtx s t c ([Ctx.NEXT_SEQ, Ctx.OTN_GROUP, inHigh 0, inHigh 1, inHigh 2] ++ (List.range 16).map chCounter)) ∧
      (opens twinRoot (mirBody (.root c key life made same fTx fRx suite why n why)) →
        ∃ t, exec (.mirrorRecord k frame (.root c key life made same fTx fRx suite why n why)) s = .next t ∧
          (t.key c).root = some ⟨key, life, made, same, fTx, fRx, suite, why, n, why⟩ ∧ (t.key c).old = (s.key c).root ∧
          ctx t Ctx.ROOT_OK c = 1 ∧ (s.rtc.toNat < made.toNat + 60000000 * life → ctxBit t Ctx.ROOT_EXP c = false) ∧ mir t ∧
          keepsCtx s t c [Ctx.ROOT_OK, Ctx.ROOT_EXP, Ctx.ROOT_END]) ∧
      (opens twinPort (mirBody (.port p v)) → ∃ t, exec (.mirrorRecord k frame (.port p v)) s = .next t ∧ mir t ∧
        t.twin.ports = SMap.set (fun _ => 0) s.twin.ports p v ∧ t.rams = s.rams)) ∧
    (twinRole s = roleActive → opens twinAck (ackBody (.reservation c r)) → memQuiet s ctxCtl →
      (s.twin.resDue.find? fun x => x.1 == c.val && x.2 == r) = some (c.val, r) →
      ∃ t, exec (.mirrorAck k frame (.reservation c r)) s = .next t ∧ ctx t Ctx.RES_END c = r.toNat ∧
        t.twin.resDue = SMap.erase s.twin.resDue c ∧ keepsCtx s t c [Ctx.RES_END] ∧ mir t) ∧
    (twinRole s = roleActive → opens twinAck (ackBody (.sync same)) → s.twin.fullDone = true →
      ∃ t, exec (.mirrorAck k frame (.sync same)) s = .next t ∧ t.fb TWN_STATUS.SYNC 0 = same ∧ mir t ∧
        (same = true → s.fb TWN_STATUS.SYNC 0 = false → t.fb TWN_EVT.SYNC_DONE 0 = true) ∧
        t = { s with regs := t.regs, cnts := t.cnts, twin := t.twin } ∧ keepsRegs s t [(.TWN_STATUS, 0), (.TWN_EVT, 0)]) ∧
    (assoc → twinRole s = roleActive → ∃ t, exec .fullMirrorDone s = .next t ∧ t.fb TWN_STATUS.SYNC 0 = s.twin.peerSync ∧
      (s.fb TWN_STATUS.SYNC 0 = false → s.twin.peerSync = true → t.fb TWN_EVT.SYNC_DONE 0 = true) ∧
      t.twin = { s.twin with fullDone := true } ∧ t = { s with regs := t.regs, twin := t.twin } ∧
      keepsRegs s t [(.TWN_STATUS, 0), (.TWN_EVT, 0)]) ∧
    (assoc → twinRole s = roleShadow → (busyChannels s).all (portsMatch s) = true → s.fb TWN_STATUS.SYNC 0 = false →
      ∃ t, exec .fullMirrorDone s = .next t ∧ t.fb TWN_STATUS.SYNC 0 = true ∧ t.fb TWN_EVT.SYNC_DONE 0 = true ∧
        t.twin.fullDone = true ∧ t.out.length = s.out.length + 1 ∧ keepsRegs s t [(.TWN_STATUS, 0), (.TWN_EVT, 0)]) ∧
    (assoc → twinRole s = roleShadow → (busyChannels s).all (portsMatch s) = false → ∃ t, exec .fullMirrorDone s = .next t ∧
      t.fb TWN_EVT.PORT_MISMATCH 0 = true ∧ t.fb TWN_STATUS.SYNC 0 = s.fb TWN_STATUS.SYNC 0 ∧
      t = { s with regs := t.regs, twin := t.twin } ∧ keepsRegs s t [(.TWN_EVT, 0)])

/-- Bit errors and retirement (R389, R391–R394, R398, R399, R402, R407, R408, R503): bits flip or stick in a word; a waiting
write-back removes what does not stick; a pass of the scrubber corrects a correctable word and counts it, the third correction
of a word within the window makes it a candidate, and an entry expires; one wrong copy of a valid bit changes nothing until a
read rewrites it and logs VOTE, and a second one turns the vote; a free page leaves the map; the overwrite ends. An error of a
small RAM discards the copy, the unit or the frame, or makes a table entry a miss, and a root lost in both copies is erased with
the keys of the channel's next slots (when each is found, and its log fields, are the model's choice: log 100). A Granary word
that is uncorrectable in one copy is written again from the other one in a scrub pass; an identity, domain or fabric-key word
that is so in both zeroises (where the words lie and when the loss is found is the model's choice: log 110). The MEM window
(R398, R400, R402, R409, R411, R412): an accepted request starts a pass, takes out or marks a page, sets the hours or arms a
corruption; a refused one has only its code; the logs are popped and cleared. -/
def Obligations.ProtectedMemoryCorrectsAndIsControlled : Prop :=
  (∀ (s : State) (k : Fin 75) (h : Fin 2) (word b page i p : Nat) (bits : List Nat) (stuck : Bool) (x : Track)
      (cp : Fin 3) (ch : Fin 16384) (ln : Nat × List Byte) (e : Fin 70) (l : Fin 34) (entry : TableEnt) (ts : BitVec 16) (st : PortSt),
      let c := s.memc k
      let eg := egNext s ch
      let inx := inNext s ch
      let hit := fun (u : TxUnit) => u.eng == e && u.tslot == ts.toNat && !u.discarded
      let others := fun (t : State) => ∀ j, j ≠ k.val → t.memc j = s.memc j
      let sameErrs := fun (t : State) => ∀ j w, j < 75 → ¬ (j = k.val ∧ w = word) → wordErr t j w = wordErr s j w
      let logs := fun (t : State) => t = { s with regs := t.regs, cnts := t.cnts, errs := t.errs, memCtl := t.memCtl }
      (noErrors s → bits.Nodup → (∀ i ∈ bits, i < 72) → wordValid s k word = true →
        ∃ t, exec (.memorySoftError (.word k word bits stuck)) s = .next t ∧ (wordErr t k word).flips = bits ∧ sameErrs t ∧
          (wordErr t k word).stuck.map (·.1) = (if stuck then bits else []) ∧
          t = { s with errs := t.errs, freeCtr := t.freeCtr }) ∧
      (noErrors s → b < 64 → wordValid s k word = true → ∃ t, exec (.memorySoftError (.word k word [b] true)) s = .next t ∧
        wordErr t k word = ⟨[b], [(b, !(ramWord s k word).testBit b)], none⟩ ∧ sameErrs t) ∧
      (c.writeBack.contains word = true → ∃ t, exec (.eccWriteback k word) s = .next t ∧
        wordErr t k word = { wordErr s k word with flips := stuckWrong (wordErr s k word) (ramWord s k word) } ∧
        t.memc k = { c with writeBack := c.writeBack.erase word } ∧ others t ∧ sameErrs t ∧
        t = { s with errs := t.errs, memCtl := t.memCtl }) ∧
      (c.writeBack.contains word = false → exec (.eccWriteback k word) s = .next s) ∧
      (noErrors s → ∃ t, exec (.scrubPass k) s = .next t ∧ t.fb MEM_STATUS.SCRUB_BUSY k = false ∧
        t.fb MEM_EVT.SCRUB_DONE k = true ∧ onlyRegs s t [(.MEM_STATUS, k), (.MEM_EVT, k)] []) ∧
      (s.errs = [(k.val + 75 * word, ⟨[b], [], none⟩)] → wordValid s k word = true →
        isStrong s k (8 * word) = true ∨ s.fb MEM_CFG.SCRUB_LIGHT k = true → c.writeBack = [] →
        ∃ t, exec (.scrubPass k) s = .next t ∧ t.errs = [] ∧ (t.memc k).writeBack = [] ∧ counted s t .MEM_SCRUB_CE k ∧
          counted s t .MEM_CE k ∧ t.fb MEM_EVT.CE k = true ∧ t.fb MEM_EVT.SCRUB_DONE k = true ∧ others t ∧ logs t ∧
          (∃ y ∈ (t.memc k).tracks, y.word = word) ∧
          ((liveTracks s k).find? (fun y => y.word == word) = some x → x.count = 2 →
            t.fb MEM_EVT.CANDIDATE k = true ∧ (⟨word, 0, x.first, true⟩ : Track) ∈ (t.memc k).tracks)) ∧
      (∃ t, exec (.candidateEntryExpiry k word) s = .next t ∧
        t.memc k = { c with tracks := c.tracks.filter fun y => y.word != word } ∧ others t ∧
        t = { s with regs := t.regs, memCtl := t.memCtl } ∧ keepsRegs s t [(.MEM_STATUS, k)]) ∧
      ((s.memc (71 + h)).retiring.contains page = true → (usedPages s h).contains page = false →
        ∃ t, exec (.pageRetired h page) s = .next t ∧
        (t.memc (71 + h)).retired = (s.memc (71 + h)).retired ++ [page] ∧
        (t.memc (71 + h)).retiring = (s.memc (71 + h)).retiring.erase page ∧ t.fb MEM_EVT.RETIRED (71 + h) = true ∧
        t = { s with regs := t.regs, memCtl := t.memCtl } ∧ keepsRegs s t [(.MEM_EVT, 71 + h)]) ∧
      ((s.memc (71 + h)).retiring.contains page = false ∨ (usedPages s h).contains page = true →
        exec (.pageRetired h page) s = .next s) ∧
      ((wordErr s k word).odd = none → k.val ≠ granaryCtl ∨ noErrors s → ∃ t, exec (.memorySoftError (.vote k word cp)) s = .next t ∧
        wordErr t k word = { wordErr s k word with odd := some cp } ∧ sameErrs t ∧ t = { s with errs := t.errs } ∧
        (∀ j, wordValid t j word = wordValid s j word) ∧ ∀ q, (validCopy t k word q = wordValid s k word ↔ q ≠ cp)) ∧
      (∀ q, (wordErr s k word).odd = some q → q ≠ cp → k.val ≠ granaryCtl → wordValid s k word = true →
        ∃ t, exec (.memorySoftError (.vote k word cp)) s = .next t ∧ wordValid t k word = false ∧ (wordErr t k word).flips = [] ∧
          ramBytes t k (8 * word) 8 = zeros 8 ∧ sameErrs t ∧ keepsMem s t [(k, 8 * word, 8)] ∧
          t = { s with errs := t.errs, rams := t.rams, valid := t.valid }) ∧
      (s.errs = [(k.val + 75 * word, ⟨[], [], some cp⟩)] → wordValid s k word = true → c.fifo.length < 16 →
        isStrong s k (8 * word) = true ∨ s.fb MEM_CFG.SCRUB_LIGHT k = true →
        ∃ t, exec (.scrubPass k) s = .next t ∧ t.errs = [] ∧
          t.memc k = { c with fifo := c.fifo ++ [logEntry s k kindVote 2 false 0x70 [] [] word] } ∧ others t ∧ logs t) ∧
      (exec (.memorySoftError (.table entry)) s =
        .next { s with lost := if s.lost.contains entry then s.lost else s.lost ++ [entry] }) ∧
      ((s.eng e).cache[i]? = some ln → (s.memc e).fifo.length < 16 → ∃ t, exec (.memorySoftError (.line e .cache i)) s = .next t ∧
        t.eng e = { s.eng e with cache := (s.eng e).cache.eraseIdx i } ∧
        (t.memc e).fifo = (s.memc e).fifo ++ [logEntry s e kindParity 0 false e [] [] (8 * ln.1)] ∧
        t = { s with regs := t.regs, memCtl := t.memCtl, engs := t.engs }) ∧
      (s.ports.find? (fun q => q.2.slots.any hit) = some (p, st) → ∃ t, exec (.memorySoftError (.unit e ts)) s = .next t ∧
          (t.port p).slots = st.slots.map (fun u => if hit u then { u with discarded := true } else u) ∧
          counted s t .MEM_DP_DISCARD (71 + halfOf (e / 2)) ∧ t = { s with cnts := t.cnts, ports := t.ports, engs := t.engs }) ∧
      (i < (s.link l).msgs.length → ∃ t, exec (.memorySoftError (.titheRx l i)) s = .next t ∧
        t.link l = { s.link l with msgs := (s.link l).msgs.eraseIdx i } ∧ counted s t .FAB_RX_DROP_FMT l ∧
        t = { s with links := t.links, cnts := t.cnts }) ∧
      (i < (s.link l).tx.length → ∃ t, exec (.memorySoftError (.titheTx l i)) s = .next t ∧
        t.link l = { s.link l with tx := (s.link l).tx.eraseIdx i } ∧ counted s t .FAB_RX_DROP_FMT l ∧
        t = { s with links := t.links, cnts := t.cnts }) ∧
      (memQuiet s ctxCtl → ∃ t, exec (.memorySoftError (.granaryRoot ch true)) s = .next t ∧ (t.key ch).root = none ∧
        (t.key ch).old = none ∧ ctx t Ctx.ROOT_OK ch = 0 ∧ counted s t .MEM_UE 74 ∧ t.fb MEM_EVT.UE 74 = true ∧
        (∀ d, d ≠ ch.val → t.key d = s.key d) ∧ bitAt (ctx t Ctx.IN_VALID ch) inx = false ∧
        ((s.chan ch).retiring = false → bitAt (ctx t Ctx.VALID ch) eg = false) ∧
        (∀ q, q ≠ eg → bitAt (ctx t Ctx.VALID ch) q = bitAt (ctx s Ctx.VALID ch) q) ∧
        keepsCtx s t ch [Ctx.ROOT_OK, Ctx.VALID, Ctx.IN_VALID, egKey eg, egAux eg, egEpoch eg, egSalt eg, inKey inx, inAux inx,
          inEpoch inx, inSalt inx]) ∧
      (∃ t, exec (.memorySoftError (.granaryRoot ch false)) s = .next t ∧ counted s t .MEM_UE 74 ∧
        t = { s with regs := t.regs, cnts := t.cnts, memCtl := t.memCtl, freeCtr := t.freeCtr }) ∧
      (∀ w i l, w < granaryWords → i < 2 → l.length = 3 → (granaryWord s w).isSome = true →
        s.errs = [(granaryCtl + 75 * (w + granaryWords * i), ⟨l, [], none⟩)] → ∃ t, exec (.scrubPass ⟨granaryCtl, by decide⟩) s = .next t ∧
        t.errs = [] ∧ counted s t .MEM_UE granaryCtl ∧ t.fb MEM_EVT.UE granaryCtl = true ∧ t.silo = s.silo ∧ logs t) ∧
      (∀ w l, w < 3088 → l.length = 3 → l.Nodup → (∀ x ∈ l, x < 80) → (granaryWord s w).isSome = true →
        s.errs = [(granaryCtl + 75 * w, ⟨l, [], none⟩)] → s.mode ≠ modeDormant → s.mode ≠ modeRetired → s.silo.latch = false →
        ∃ t, exec (.memorySoftError (.word ⟨granaryCtl, by decide⟩ (w + granaryWords) l false)) s = .next t ∧
        t.mode = modeAlarm ∧ t.silo.identity = false ∧ t.silo.zeroised = true ∧
        t.silo.log = (⟨causeFatal, 0, s.rtc, s.mode⟩ :: s.silo.log).take 256) ∧
      exec (.zeroiseOverwriteDone k) s = .next (s.setMemc k { c with overwriting := false })) ∧
  (∀ (s : State) (m : Master) (k : Nat) (v : Word), reaches s .mem m k →
      let n := v.toNat
      let chk := (Reg.MEM_CHECK, masterIdx m)
      let h0 := n % 2 ^ 8
      let h1 := n / 2 ^ 8 % 2 ^ 8
      (n / 2 ^ 28 = 2 → k ≠ 74 → s.fb MEM_STATUS.SCRUB_BUSY k = false → ∃ t, exec (.scrubNow m v) s = .next t ∧
        accepted t .MEM_CHECK m ∧ t.fb MEM_STATUS.SCRUB_BUSY k = true ∧ onlyRegs s t [chk, (.MEM_STATUS, k)] []) ∧
      (n / 2 ^ 28 = 2 → k ≠ 74 → s.fb MEM_STATUS.SCRUB_BUSY k = true → ∃ t, exec (.scrubNow m v) s = .next t ∧
        refusedWith s t .MEM_CHECK m k 0xE8) ∧
      (k = 74 → n / 2 ^ 28 = 1 ∨ n / 2 ^ 28 = 2 → ∃ t, exec (.scrubNow m v) s = .next t ∧ refusedWith s t .MEM_CHECK m k 0xE1) ∧
      (n / 2 ^ 28 = 1 → retireCauses s k (n % 2 ^ 14) = [] → (usedPages s (k - 71)).contains (n % 2 ^ 14) = false →
        ∃ t, exec (.retire m v) s = .next t ∧ accepted t .MEM_CHECK m ∧ t.fb MEM_EVT.RETIRED k = true ∧
        t.memc k = { s.memc k with retired := (s.memc k).retired ++ [n % 2 ^ 14] } ∧ (∀ j, j ≠ k → t.memc j = s.memc j) ∧
        t = { s with regs := t.regs, memCtl := t.memCtl } ∧ keepsRegs s t [chk, (.MEM_EVT, k)]) ∧
      (n / 2 ^ 28 = 1 → retireCauses s k (n % 2 ^ 14) = [] → (usedPages s (k - 71)).contains (n % 2 ^ 14) = true →
        ∃ t, exec (.retire m v) s = .next t ∧ accepted t .MEM_CHECK m ∧
        t.memc k = { s.memc k with retiring := (s.memc k).retiring ++ [n % 2 ^ 14] } ∧ (∀ j, j ≠ k → t.memc j = s.memc j) ∧
        t = { s with regs := t.regs, memCtl := t.memCtl } ∧ keepsRegs s t [chk]) ∧
      (n / 2 ^ 28 = 1 → k < 71 ∨ k = 73 → ∃ t, exec (.retire m v) s = .next t ∧ refusedWith s t .MEM_CHECK m k 0xE2) ∧
      (k ≠ 74 → 1 ≤ h0 → h0 ≤ 168 → 1 ≤ h1 → h1 ≤ 168 → ∃ t, exec (.memCfgWrite m v) s = .next t ∧ accepted t .MEM_CHECK m ∧
        t.reg .MEM_CFG k = maskedWrite .MEM_CFG v ∧ onlyRegs s t [chk, (.MEM_CFG, k)] []) ∧
      (k ≠ 74 → h0 = 0 ∨ 168 < h0 ∨ h1 = 0 ∨ 168 < h1 → ∃ t, exec (.memCfgWrite m v) s = .next t ∧
        refusedWith s t .MEM_CHECK m k 0xE7) ∧
      (flipCauses s k n = [] → ∃ t, exec (.memFlipmaskArm m v) s = .next t ∧ accepted t .MEM_CHECK m ∧
        t.reg .MEM_FLIPMASK k = maskedWrite .MEM_FLIPMASK v ∧ (t.fb MEM_STATUS.FLIP_ARMED k = true ↔ n / 2 ^ 16 % 4 ≠ 0) ∧
        onlyRegs s t [chk, (.MEM_FLIPMASK, k), (.MEM_STATUS, k)] []) ∧
      (k ≠ 74 → n / 2 ^ 16 % 4 ≠ 0 → s.mode ≠ modeMaintenance → ∃ t, exec (.memFlipmaskArm m v) s = .next t ∧
        refusedWith s t .MEM_CHECK m k 0xE9) ∧
      (n % 8 = 1 → exec (.pop m v) s = .next (s.setMemc k { s.memc k with fifo := (s.memc k).fifo.drop 1 })) ∧
      (n % 8 = 2 → ∃ t, exec (.feClr m v) s = .next t ∧ (∀ i : Nat, i < 4 → t.reg .MEM_FE (4 * k + i) = 0) ∧
        onlyRegs s t [(.MEM_FE, 4 * k), (.MEM_FE, 4 * k + 1), (.MEM_FE, 4 * k + 2), (.MEM_FE, 4 * k + 3)] []) ∧
      (n % 8 = 4 → ∃ t, exec (.memCntClr m v) s = .next t ∧ (∀ x ∈ memCtrs, t.cnt x k = 0) ∧
        onlyRegs s t [] (memCtrs.map fun x => (x, k))) ∧
      (n / 2 ^ 31 = 1 → exec (.lostClear m v) s = .next (s.setReg .MEM_OVF k 0)) ∧
      (n / 2 ^ 31 = 0 → exec (.lostClear m v) s = .next s))

/-- Protected memory (R391, R396): a write of bytes to a region whose words have no error is never refused, writes the bytes
given and no other, whole words or parts of words, and a read returns them; the region stays in canonical form. -/
def Obligations.WrittenMemoryReadsBack : Prop :=
  ∀ (s : State) (k a n b op code : Nat) (bs : List (Option Byte)), k < 75 → memQuiet s k →
    let r := memWrite s k a bs code
    let t := r.2
    let at_ := fun (u : State) (x : Nat) => Mem.read (ramDefault u k) (u.ram k) x
    r.1 = false ∧ memQuiet t k ∧
    (∀ i v, bs[i]? = some (some v) → at_ t (a + i) = v) ∧
    (∀ x, (∀ i v, bs[i]? = some (some v) → x ≠ a + i) → at_ t x = at_ s x) ∧
    (∀ j, j ≠ k → t.ram j = s.ram j) ∧ memRead t k b n op code = (ramBytes t k b n, false, t) ∧
    (Mem.wf (ramDefault s k) (s.ram k) = true → Mem.wf (ramDefault t k) (t.ram k) = true) ∧
    t = { s with rams := t.rams, errs := t.errs, valid := t.valid, memCtl := t.memCtl }

/-- Bursts and arbitration (R413–R419, R557): a burst of a permitted master writes the enabled bytes of buffer memory and no
other byte, or returns them; one that leaves its page, its range or the powered targets is answered DECERR and has no
effect; a forbidden access gets its response; the twin agent wins, after four wins in a row another master, and the others
take turns. -/
def Obligations.BurstsAreServedInTurn : Prop :=
  ∀ (s : State) (r : XReq) (x : XTarget) (waiting : List XMaster) (c : Nat) (other : XMaster),
    let a := xBase r
    let tg := targetOf s a
    let arb := SMap.get (fun _ => XArb.reset) s.xarb (xtIdx x)
    let answers := fun (t : State) (d : List Byte) (resp : Nat) => SMap.get (fun _ => ([], 0)) t.resp (xmIdx r.master) = (d, resp)
    let inside := a / 4096 = (a + xLen r - 1) / 4096 ∧ a + xLen r ≤ tg.2 ∧ targetUp s tg.1 = true
    let k := (bufPlace a).1
    let off := (bufPlace a).2
    let at_ := fun (u : State) (b : Nat) => Mem.read (ramDefault u k) (u.ram k) b
    let granted := fun (t : State) => SMap.get (fun _ => XArb.reset) t.xarb (xtIdx x)
    (mayAsk s r.master = true → inside → tg.1 = .buffer → forbidden r.master true .buffer = none → r.write = true →
      memQuiet s k → ∃ t, exec (.crossbarRequest r) s = .next t ∧ answers t [] rOkay ∧
        (∀ i : Nat, i < xLen r → xEn r i = true → at_ t (off + i) = byteAt r.data i) ∧
        (∀ b, (∀ i : Nat, i < xLen r → xEn r i = true → b ≠ off + i) → at_ t b = at_ s b) ∧
        (∀ j, j ≠ k → t.ram j = s.ram j) ∧
        t = { s with rams := t.rams, errs := t.errs, valid := t.valid, memCtl := t.memCtl, resp := t.resp }) ∧
    (mayAsk s r.master = true → inside → tg.1 = .buffer → forbidden r.master false .buffer = none → r.write = false →
      noErrors s → ∃ t, exec (.crossbarRequest r) s = .next t ∧
        answers t ((List.range (xLen r)).map fun i => if xEn r i then at_ s (off + i) else 0) rOkay ∧
        t = { s with resp := t.resp }) ∧
    (mayAsk s r.master = true → ¬ inside → ∃ t, exec (.crossbarRequest r) s = .next t ∧ answers t [] rDecErr ∧
      t = { s with resp := t.resp }) ∧
    (mayAsk s r.master = true → inside → forbidden r.master r.write tg.1 = some c →
      ∃ t, exec (.crossbarRequest r) s = .next t ∧ answers t [] c ∧ t = { s with resp := t.resp }) ∧
    (mayAsk s r.master = true → inside → tg.1 = .regs → forbidden r.master r.write .regs = none → (blockAt a).isSome = true →
      xLen r ≠ 32 ∨ (xmDma r.master = true ∧ ∃ i ∈ regLanes r, dmaBarred (a + 4 * i) = true) ∨
        (r.write = true ∧ ∃ i ∈ regLanes r, partLane r i = true) →
      ∃ t, exec (.crossbarRequest r) s = .next t ∧ answers t [] rTgtErr ∧ t = { s with resp := t.resp }) ∧
    (r.master = .debug → s.dbg = false → exec (.crossbarRequest r) s = .next s) ∧
    (XMaster.twin ∈ waiting → arb.twinRun < 4 → ∃ t, exec (.crossbarGrant x waiting) s = .next t ∧
      granted t = { arb with owner := some .twin, twinRun := if (nextOther arb.last waiting).isSome then arb.twinRun + 1 else 0 } ∧
      t = { s with xarb := t.xarb }) ∧
    (XMaster.twin ∉ waiting ∨ 4 ≤ arb.twinRun → nextOther arb.last waiting = some other →
      ∃ t, exec (.crossbarGrant x waiting) s = .next t ∧ granted t = ⟨xmIdx other, 0, some other⟩ ∧
        other ∈ waiting ∧ other ≠ .twin ∧ t = { s with xarb := t.xarb })

/-- The two host windows, the debug port and the I3C target (R528, R532–R534, R557): with the link up a TLP within one beat of
the shared SRAM window writes the enabled bytes, or completes with the bytes read; one that finds no target is counted and
recorded, a write also in AER (the bit's place there is presumed: log 103); without the link nothing happens. The I3C target takes
its address by SETDASA at 0x5A or by dynamic assignment, and reads run on from a pointer. -/
def Obligations.HostWindowsReachTheirTargets : Prop :=
  ∀ (s : State) (off : BitVec 26) (bar2 : Bool) (data : List Byte) (en : List Bool) (n : Nat) (b : Byte) (a static : BitVec 7) (on : Bool),
    let o := off.toNat
    let oneBeat := fun (len : Nat) => 0 < len ∧ o % 32 + len ≤ 32 ∧ o / 32 * 32 + 32 ≤ min 0x800000 (codeStoreAt s)
    let up := s.fb GLB_PCIE_STATUS.LINK_UP 0 = true
    let on_ := fun (i : Nat) => i < data.length ∧ en.getD i false = true
    let at_ := fun (u : State) (x : Nat) => Mem.read (ramDefault u sramCtl) (u.ram sramCtl) x
    (up → targetUp s .sram = true → oneBeat data.length → memQuiet s sramCtl →
      ∃ t, exec (.hostMemoryWrite true off data en) s = .next t ∧
        (∀ i, on_ i → at_ t (o + i) = byteAt data i) ∧ (∀ x, (∀ i, on_ i → x ≠ o + i) → at_ t x = at_ s x) ∧
        (∀ j, j ≠ sramCtl → t.ram j = s.ram j) ∧
        t = { s with rams := t.rams, errs := t.errs, valid := t.valid, memCtl := t.memCtl, engs := t.engs }) ∧
    (up → targetUp s .sram = true → oneBeat n → noErrors s →
      exec (.hostMemoryRead true off n) s = .next (s.emit (.completion ((List.range n).map fun i => at_ s (o + i)) rOkay))) ∧
    (up → targetUp s .sram = false → oneBeat n → s.fb GLB_HOST_ERR.VALID 0 = false →
      ∃ t, exec (.hostMemoryRead true off n) s = .next t ∧ t.out = s.out ++ [.completion [] rDecErr] ∧
        counted s t .GLB_HOST_ERRS 0 ∧ t.fb GLB_EVT.HOST_ERR 0 = true ∧ t.fb GLB_HOST_ERR.VALID 0 = true ∧
        t.f GLB_HOST_ERR.RESP 0 = rDecErr ∧ t.fb GLB_HOST_ERRADDR.BAR 0 = true ∧ t.f GLB_HOST_ERRADDR.OFFSET 0 = o ∧
        t = { s with regs := t.regs, cnts := t.cnts, out := t.out } ∧
        keepsRegs s t [(.GLB_EVT, 0), (.GLB_HOST_ERR, 0), (.GLB_HOST_ERRADDR, 0)]) ∧
    (up → targetUp s .sram = false → oneBeat data.length → s.pcie.aerMask.toNat.testBit 20 = false →
      ∃ t, exec (.hostMemoryWrite true off data en) s = .next t ∧ t.out = s.out ++ [.aer rDecErr] ∧
        counted s t .GLB_HOST_ERRS 0 ∧ t.fb GLB_EVT.HOST_ERR 0 = true ∧
        t.pcie = { s.pcie with aerStatus := s.pcie.aerStatus ||| 0x100000 } ∧
        t = { s with regs := t.regs, cnts := t.cnts, out := t.out, pcie := t.pcie } ∧
        keepsRegs s t [(.GLB_EVT, 0), (.GLB_HOST_ERR, 0), (.GLB_HOST_ERRADDR, 0)]) ∧
    (s.fb GLB_PCIE_STATUS.LINK_UP 0 = false →
      exec (.hostMemoryWrite bar2 off data en) s = .next s ∧ exec (.hostMemoryRead bar2 off n) s = .next s) ∧
    exec (.debugPortConnection on) s = .next { s with dbg := on } ∧
    (s.blkUp .HLTH = true → s.hlth.addr = some a → b.toNat < 64 → ∃ t, exec (.i3cPrivateWrite a (b :: data)) s = .next t ∧ t.hlth.ptr = b.toNat ∧
      t = { s with hlth := { s.hlth with ptr := t.hlth.ptr } }) ∧
    (s.blkUp .HLTH = true → s.hlth.addr = some a → ∃ t, exec (.i3cPrivateRead a n) s = .next t ∧ t.hlth.ptr = (s.hlth.ptr + n) % 64 ∧
      t.out = s.out ++ [.i3c ((List.range n).map fun i => byteAt (i3cMap s) ((s.hlth.ptr + i) % 64))] ∧
      t = { s with out := t.out, hlth := { s.hlth with ptr := t.hlth.ptr } }) ∧
    (s.blkUp .HLTH = false ∨ s.hlth.addr ≠ some a →
      exec (.i3cPrivateWrite a data) s = .next s ∧ exec (.i3cPrivateRead a n) s = .next s) ∧
    (s.blkUp .HLTH = true → exec (.i3cAddressAssignment none a) s = .next { s with hlth := { s.hlth with addr := some a } }) ∧
    (s.blkUp .HLTH = true → exec (.i3cAddressAssignment (some 0x5A) a) s = .next { s with hlth := { s.hlth with addr := some a } }) ∧
    (static ≠ 0x5A → exec (.i3cAddressAssignment (some static) a) s = .next s)

/-- Firings, coalescing and offers (R447–R454, R457–R461): a firing moves IDLE to HELD and SERVICE to SERVICE+ and is merged
elsewhere; a level source that falls is withdrawn unless EVC_SET fired it; a period counts its firings, and at its release
every HELD unmasked source is offered to the next eligible target; a latched input fires when the clock starts. -/
def Obligations.SourcesFireAndAreOffered : Prop :=
  ∀ (s : State) (n : Fin 512) (m : Master) (v : Word) (g : Fin 64) (i : Fin 17) (level : Bool) (tg : Fin 3) (nx : Nat),
    let x := s.src n
    let y := s.src (104 + i)
    let mk := srcMasked s n = true
    let grp := s.grp (n / 8)
    let only := fun (t : State) (k : Nat) (z : EvSrc) => t = s.setSrc k z
    let held : EvSrc := { x with st := 1, edge := true, rel := false }
    let clock := cclkStopped s = false
    let calm := s.twin.split = false ∨ twinRole s ≠ roleShadow
    let edge := clock ∧ srcFused s n = false ∧ srcKind s n = .edge
    let flat := clock ∧ srcKind s n = .level
    let offered := fun (z : EvSrc) (o : Option Nat) => match o with
      | some k => ({ z with st := 2, last := some k, rel := false } : EvSrc)
      | none => { z with rel := true }
    let merged := fun (ins : Instr) => ∃ t, exec ins s = .next t ∧ counted s t .EVC_MERGED 0 ∧
      t.fb EVC_SRC_STATUS.MERGED n = true ∧ onlyRegs s t [(.EVC_SRC_STATUS, n)] [(.EVC_MERGED, 0)]
    (edge → x.st = 0 → mk → exec (.eventFire n) s = .next (s.setSrc n held)) ∧
    (edge → x.st = 0 → ¬ mk → grp.count + 1 < s.f EVC_GRP.COUNT (n / 8) →
      exec (.eventFire n) s = .next ((s.setSrc n held).setGrp (n / 8) ⟨true, grp.count + 1⟩)) ∧
    (edge → x.st = 0 → ¬ mk → s.f EVC_GRP.COUNT (n / 8) ≤ grp.count + 1 → nextTarget s n = some nx → nx ≠ 2 →
      (∀ j : Nat, j < 512 → j / 8 = n / 8 → j ≠ n → (s.src j).st ≠ 1) →
      ∃ t, exec (.eventFire n) s = .next t ∧ t.src n = { held with st := 2, last := some nx } ∧
        t.grp (n / 8) = EvGrp.reset ∧ (∀ j, j ≠ n.val → t.src j = s.src j) ∧ t = { s with evc := t.evc }) ∧
    (edge → x.st = 0 → ¬ mk → s.f EVC_GRP.COUNT (n / 8) ≤ grp.count + 1 → nextTarget s n = some 2 →
      (∀ j : Nat, j < 512 → j / 8 = n / 8 → j ≠ n → (s.src j).st ≠ 1) → msixRuns s = true →
      let vec := s.f EVC_SRC_CFG.VECTOR n
      s.evc.disarmed.contains vec = false → (s.msixEnt vec).masked = false →
      ∃ t, exec (.eventFire n) s = .next t ∧ t.src n = { held with st := 2, last := some 2 } ∧
        t.out = s.out ++ [.msix vec (s.msixEnt vec).addr (s.msixEnt vec).data] ∧
        t.evc.disarmed = s.evc.disarmed ++ [vec] ∧ t = { s with evc := t.evc, out := t.out }) ∧
    (edge → x.st = 3 → mk → exec (.eventFire n) s = .next (s.setSrc n { held with st := 4 })) ∧
    (edge → x.st = 1 ∨ x.st = 2 ∨ x.st = 4 → merged (.eventFire n)) ∧
    (flat → srcFused s n = false → srcCond s n = true → x.cond = false → x.st = 0 → mk →
      ∃ t, exec (.eventFire n) s = .next t ∧ only t n { x with st := 1, edge := false, rel := false, cond := true }) ∧
    (flat → srcCond s n = false → x.cond = true → x.st = 1 ∨ x.st = 2 → x.edge = false →
      ∃ t, exec (.levelSourceDeassert n) s = .next t ∧ only t n { x with st := 0, rel := false, cond := false }) ∧
    (flat → srcCond s n = false → x.cond = true → x.edge = true ∨ 3 ≤ x.st →
      ∃ t, exec (.levelSourceDeassert n) s = .next t ∧ only t n { x with cond := false }) ∧
    (s.blkUp .EVC = true → v.toNat % 512 = n → x.st = 0 → mk → exec (.evcSet m v) s = .next (s.setSrc n held)) ∧
    (s.blkUp .EVC = true → v.toNat % 512 = n → x.st = 1 ∨ x.st = 2 ∨ x.st = 4 → merged (.evcSet m v)) ∧
    ((s.grp g).running = true → clock → (∀ k : Nat, k < 8 → nextTarget s (8 * g + k) ≠ some 2) →
      ∃ t, exec (.coalesceTimeExpiry g) s = .next t ∧ t.grp g = EvGrp.reset ∧
        (∀ j : Nat, j / 8 = g.val → t.src j = if (s.src j).st = 1 ∧ srcMasked s j = false then offered (s.src j) (nextTarget s j)
          else s.src j) ∧
        (∀ j : Nat, j / 8 ≠ g.val → t.src j = s.src j) ∧ t = { s with evc := t.evc }) ∧
    exec (.stormWindowExpiry n) s = .next (s.setSrc n { x with repends := 0 }) ∧
    (eligible s tg = true → exec (.targetIneligible tg) s = .next s) ∧
    (eligible s tg = false → s.evc.srcs = [(n.val, x)] → x.last = some tg.val → x.st = 2 → nextTarget s n = some nx → nx ≠ 2 →
      ∃ t, exec (.targetIneligible tg) s = .next t ∧ only t n { x with st := 2, last := some nx, rel := false }) ∧
    (eligible s tg = false → s.evc.srcs = [(n.val, x)] → x.last = some tg.val → x.st = 3 → srcCond s n = false →
      ∃ t, exec (.targetIneligible tg) s = .next t ∧ (t.src n).st = 0 ∧ counted s t .EVC_ORPHANED 0 ∧
        t = { s with evc := t.evc, cnts := t.cnts }) ∧
    (cclkStopped s = true → (i.val < 16 → gpioOut s i = false) → inputActive s i = false → level ≠ s.fb EVC_IN_CFG.POL i →
      s.evc.latch.contains i.val = false → calm → ∃ t, exec (.externalInputChange i level) s = .next t ∧
        t.evc.latch = s.evc.latch ++ [i.val] ∧ bitAt t.evc.pins i = level ∧
        t = { s with evc := { s.evc with pins := t.evc.pins, latch := t.evc.latch } }) ∧
    (clock → (i.val < 16 → gpioOut s i = false) → srcKind s (104 + i) = .edge → level ≠ s.fb EVC_IN_CFG.POL i →
      y.cond = false → y.st = 0 → srcMasked s (104 + i) = true → calm → ∃ t, exec (.externalInputChange i level) s = .next t ∧
        t.src (104 + i) = { y with st := 1, edge := true, rel := false, cond := true } ∧ bitAt t.evc.pins i = level ∧
        (∀ j, j ≠ 104 + i.val → t.src j = s.src j) ∧ t = { s with evc := t.evc }) ∧
    (clock → s.evc.latch = [i.val] → s.evc.latch2 = [] → y.st = 0 → srcMasked s (104 + i) = true →
      ∃ t, exec .wakeLatched s = .next t ∧ (t.src (104 + i)).st = 1 ∧ t.fb EVC_SRC_STATUS.LATCHED (104 + i) = true ∧
        t.fb EVC_EVT.WAKE_LATCHED 0 = true ∧ t.evc.latch = [] ∧ t = { s with regs := t.regs, evc := t.evc } ∧
        keepsRegs s t [(.EVC_SRC_STATUS, 104 + i), (.EVC_EVT, 0)])

/-- Claims, completions and settings (R451, R455, R456, R461): a claim takes the REQUESTED source of highest priority and lowest
number, or counts as spurious; a valid completion ends or re-pends the source, and 64 re-pends mask it; any other completion is
counted; a checked register takes its value and acts on what waits: a condition that a setting of an input makes true fires a
level source, and one that it makes false withdraws it (R447, R449). -/
def Obligations.ClaimsAndCompletionsMoveTheSource : Prop :=
  ∀ (s : State) (n : Fin 512) (m : Master) (v : Word) (w : W64) (vec g : Fin 64) (i : Fin 17) (e : Fin 70) (r : Fin 64) (tgt : Nat),
    SMap.sorted s.evc.srcs = true →
    let x := s.src n
    let up := s.blkUp .EVC = true
    let asks := fun (tg : Nat) (p : Nat → Prop) (j : Nat) => (s.src j).st = 2 ∧ (s.src j).last = some tg ∧ p j
    let prio := fun (j : Nat) => s.fb EVC_SRC_CFG.PRIO j
    let best := fun (tg : Nat) (p : Nat → Prop) => asks tg p n ∧
      ∀ j, asks tg p j → j = n ∨ (prio n = true ∧ prio j = false) ∨ (prio n = prio j ∧ n.val < j)
    let none_ := fun (tg : Nat) (p : Nat → Prop) => ∀ j, ¬ asks tg p j
    let hers := fun (j : Nat) => s.f EVC_SRC_CFG.VECTOR j = vec
    let taken := s.setSrc n { x with st := 3 }
    let gone := s.inc .EVC_SPURIOUS 0
    let done := fun (ins : Instr) (tg : Nat) =>
      (x.st = 3 → x.last = some tg → srcCond s n = false ∨ srcKind s n ≠ .level →
        ∃ t, exec ins s = .next t ∧ (t.src n).st = 0 ∧ (∀ j, j ≠ n.val → t.src j = s.src j) ∧ t = { s with evc := t.evc }) ∧
      (x.st = 4 → x.last = some tg → x.edge = true → srcMasked s n = true →
        ∃ t, exec ins s = .next t ∧ (t.src n).st = 1 ∧ (t.src n).edge = true ∧ t = { s with evc := t.evc }) ∧
      (x.st = 3 → x.last = some tg → srcCond s n = true → srcKind s n = .level → srcMasked s n = true → n ≠ 122 →
        x.repends < 63 → ∃ t, exec ins s = .next t ∧ (t.src n).st = 1 ∧ (t.src n).repends = x.repends + 1 ∧
          t = { s with evc := t.evc }) ∧
      (x.st = 3 → x.last = some tg → srcCond s n = true → srcKind s n = .level → n ≠ 122 → x.repends = 63 →
        ∃ t, exec ins s = .next t ∧ (t.src n).st = 1 ∧ srcMasked t n = true ∧ t.fb EVC_SRC_CFG.STORMED n = true ∧
          t.fb EVC_EVT.STORM 0 = true ∧ counted s t .EVC_STORMS 0) ∧
      ((x.st ≠ 3 ∧ x.st ≠ 4) ∨ x.last ≠ some tg → ∃ t, exec ins s = .next t ∧ counted s t .EVC_BADCOMP 0 ∧
        t.fb EVC_EVT.BADCOMP 0 = true ∧ onlyRegs s t [(.EVC_EVT, 0)] [(.EVC_BADCOMP, 0)])
    let check := fun (ins : Instr) (code : Nat) => ∃ t, exec ins s = .next t ∧ refusedWith s t .EVC_CHECK m 0 code
    let sets := fun (ins : Instr) (q : Reg) (k : Nat) => ∃ t, exec ins s = .next t ∧ accepted t .EVC_CHECK m ∧
      t.reg q k = maskedWrite q v ∧ onlyRegs s t [(q, k), (.EVC_CHECK, masterIdx m)] []
    (up → best 2 hers → exec (.evcHclaim m vec) s = .next (answer taken m n)) ∧
    (up → none_ 2 hers → exec (.evcHclaim m vec) s = .next (answer { gone with evc := { s.evc with
      disarmed := s.evc.disarmed.filter (· != vec.val) } } m 1023)) ∧
    (engReady s e → engClass e = 2 → tgt = e - 68 → best tgt (fun _ => True) →
      exec (.evtClaim e r) s = .next (taken.updEng e fun q => q.setG r n)) ∧
    (engReady s e → engClass e = 2 → tgt = e - 68 → none_ tgt (fun _ => True) →
      exec (.evtClaim e r) s = .next (gone.updEng e fun q => q.setG r 1023)) ∧
    (up → v.toNat % 512 = n → done (.evcHcomplete m v) 2) ∧
    (engReady s e → engClass e = 2 → w.toNat = n → done (.evtDone e w) (e - 68)) ∧
    (up → srcFused s n = true → check (.evcSrcCfgWrite m n v) 0xA7) ∧
    (up → srcFused s n = false → x.st = 0 → v.toNat / 2 ^ EVC_SRC_CFG.MASK.lo % 2 = 0 → sets (.evcSrcCfgWrite m n v) .EVC_SRC_CFG n) ∧
    (up → srcFused s n = false → x.st = 2 → srcMasked s n = false → v.toNat / 2 ^ EVC_SRC_CFG.MASK.lo % 2 = 1 →
      ∃ t, exec (.evcSrcCfgWrite m n v) s = .next t ∧ t.src n = { x with st := 1, rel := false } ∧ srcMasked t n = true ∧
        t = { s with regs := t.regs, evc := t.evc } ∧ keepsRegs s t [(.EVC_SRC_CFG, n), (.EVC_CHECK, masterIdx m)]) ∧
    (up → 1 ≤ v.toNat % 512 → v.toNat % 512 ≤ 256 → v.toNat / 2 ^ 16 ≠ 0 → (s.grp g).running = false →
      sets (.evcGrpWrite m g v) .EVC_GRP g) ∧
    (up → v.toNat % 512 = 0 ∨ 256 < v.toNat % 512 → check (.evcGrpWrite m g v) 0xA1) ∧
    (up → v.toNat % 8 = 0 → check (.evcCtlWrite m v) 0xA3) ∧
    (up → v.toNat % 8 ≠ 0 → s.evc.srcs = [] → sets (.evcCtlWrite m v) .EVC_CTL 0) ∧
    (up → 10 ≤ v.toNat % 16 → check (.evcInCfgWrite m i v) 0xA4) ∧
    (up → v.toNat % 16 < 10 → (i.val < 16 → gpioOut s i = false) → (i.val = 16 → v.toNat.testBit 9 = false) →
      let y := s.src (104 + i)
      let active := pinLevel s i != v.toNat.testBit 8
      let was := srcKind s (104 + i) == .level && y.cond
      let becomes := fun (z : EvSrc) => ∃ t, exec (.evcInCfgWrite m i v) s = .next t ∧ accepted t .EVC_CHECK m ∧
        t.reg .EVC_IN_CFG i = maskedWrite .EVC_IN_CFG v ∧ t.src (104 + i) = z ∧ (∀ j, j ≠ 104 + i.val → t.src j = s.src j) ∧
        t = { s with regs := t.regs, evc := { s.evc with srcs := t.evc.srcs } } ∧
        keepsRegs s t [(.EVC_IN_CFG, i), (.EVC_CHECK, masterIdx m)]
      (v.toNat.testBit 9 = false ∨ active = was → becomes { y with cond := active }) ∧
      (v.toNat.testBit 9 = true → active = true → was = false → y.st = 0 → srcMasked s (104 + i) = true →
        becomes { y with st := 1, edge := false, rel := false, cond := true }) ∧
      (v.toNat.testBit 9 = true → active = false → was = true → y.st = 1 ∨ y.st = 2 → y.edge = false →
        becomes { y with st := 0, rel := false, cond := false }))

/-- DMA actions, doorbells and ring registers (R435, R437–R439, R441, R445): an accepted action moves the channel to the state
that the rule names; one that the state does not allow is refused; a doorbell wakes a waiting channel or is latched. -/
def Obligations.DmaRequestsMoveTheChannel : Prop :=
  ∀ (s : State) (m : Master) (d : Nat) (v : Word) (r : RingReg), reaches s .dma m d →
    let c := s.dmaCh d
    let st := dState s d
    let bits := v.toNat % 16
    let chk := (Reg.DMA_CH_CHECK, masterIdx m)
    let ok := fun (t : State) => accepted t .DMA_CH_CHECK m ∧ (∀ j, j ≠ d → t.dmaCh j = s.dmaCh j)
    let state := fun (t : State) => t = { s with regs := t.regs, dma := t.dma } ∧ keepsRegs s t [chk, (.DMA_CH_STATUS, d)]
    let no := fun (ins : Instr) (code : Nat) => ∃ t, exec ins s = .next t ∧ refusedWith s t .DMA_CH_CHECK m d code
    let waits := st = dWaiting ∨ c.phase = phWait
    let tail := BitVec.ofNat 32 (v.toNat % 2 ^ 16)
    let u : Word := if r = .cfg ∧ m = .host ∧ hostView s = 1 then v ||| 0x100 else v
    let rung := fun (t : State) => t = { s with regs := t.regs, dma := t.dma } ∧ t.reg .DMA_CH_TAIL d = tail ∧
      keepsRegs s t [(.DMA_CH_TAIL, d), (.DMA_CH_STATUS, d)]
    (bits = 1 → ringOk s d = true → st = dStopped → s.mode ≠ modeRetired → ∃ t, exec (.start m v) s = .next t ∧ ok t ∧
      state t ∧ t.dmaCh d = DmaCh.reset ∧ t.reg .DMA_CH_STATUS d = BitVec.ofNat 32 (2 ^ DMA_CH_STATUS.STATE.lo)) ∧
    (bits = 1 → ringOk s d = false → no (.start m v) 0x82) ∧
    (bits = 1 → ringOk s d = true → st ≠ dStopped → no (.start m v) 0x8A) ∧
    (bits = 3 → no (.start m v) 0x81) ∧
    (bits = 2 → st = dRunning → ∃ t, exec (.pause m v) s = .next t ∧ ok t ∧ state t ∧ t.dma = s.dma ∧ dState t d = dPausing) ∧
    (bits = 2 → st = dWaiting → ∃ t, exec (.pause m v) s = .next t ∧ ok t ∧ state t ∧ dState t d = dPausing ∧
      t.dmaCh d = { c with phase := phWait }) ∧
    (bits = 2 → st ≠ dRunning → st ≠ dWaiting → no (.pause m v) 0x87) ∧
    (bits = 4 → st = dPaused ∨ st = dHalted → c.phase ≠ phWait → ∃ t, exec (.resume m v) s = .next t ∧ ok t ∧ state t ∧
      t.dma = s.dma ∧ dState t d = dRunning) ∧
    (bits = 4 → st = dPaused ∨ st = dHalted → c.phase = phWait → ∃ t, exec (.resume m v) s = .next t ∧ ok t ∧ state t ∧
      t.dmaCh d = { c with phase := phFetch } ∧ dState t d = dWaiting) ∧
    (bits = 4 → st ≠ dPaused → st ≠ dHalted → no (.resume m v) 0x88) ∧
    (bits = 8 → waits → st ≠ dStopped → st ≠ dAborting → ∃ t, exec (.abort m v) s = .next t ∧ ok t ∧
      t.dmaCh d = DmaCh.reset ∧ t.reg .DMA_CH_STATUS d = 0 ∧ t.fb DMA_CH_EVT.ABORTED d = true ∧
      t = { s with regs := t.regs, dma := t.dma } ∧ keepsRegs s t [chk, (.DMA_CH_STATUS, d), (.DMA_CH_EVT, d)]) ∧
    (bits = 8 → ¬ waits → st = dRunning ∨ st = dPausing ∨ st = dPaused → ∃ t, exec (.abort m v) s = .next t ∧ ok t ∧ state t ∧
      t.dmaCh d = { c with status := 0xE0000000, idle := decide (st = dPaused) } ∧ dState t d = dAborting) ∧
    (bits = 8 → ¬ waits → st = dHalted → ∃ t, exec (.abort m v) s = .next t ∧ ok t ∧ state t ∧ dState t d = dAborting ∧
      t.dmaCh d = { c with status := BitVec.ofNat 32 (0xC0000000 + s.f DMA_CH_ERRINFO.RESP d), idle := false }) ∧
    (bits = 8 → st = dStopped ∨ st = dAborting → no (.abort m v) 0x89) ∧
    (st = dWaiting → ∃ t, exec (.dmaChDoorbell m v) s = .next t ∧ rung t ∧ dState t d = dRunning ∧
      t.dmaCh d = { c with phase := phFetch } ∧ ∀ j, j ≠ d → t.dmaCh j = s.dmaCh j) ∧
    (st = dRunning → c.phase = phFetch → ∃ t, exec (.dmaChDoorbell m v) s = .next t ∧ rung t ∧ t.dma = s.dma ∧
      dState t d = dRunning ∧ t.fb DMA_CH_STATUS.DB_LATCHED d = true) ∧
    (st ≠ dWaiting → c.phase ≠ phWait → ¬ (st = dRunning ∧ c.phase = phFetch) →
      exec (.dmaChDoorbell m v) s = .next (s.setReg .DMA_CH_TAIL d tail)) ∧
    (st ≠ dWaiting → c.phase = phWait → ∃ t, exec (.dmaChDoorbell m v) s = .next t ∧ rung t ∧
      t.dmaCh d = { c with phase := phFetch } ∧ t.reg .DMA_CH_STATUS d = s.reg .DMA_CH_STATUS d) ∧
    (ringCauses s d r u.toNat = [] → ∃ t, exec (.dmaRingConfigWrite m r v) s = .next t ∧ accepted t .DMA_CH_CHECK m ∧
      t.reg (ringRegName r) d = maskedWrite (ringRegName r) u ∧ onlyRegs s t [chk, (ringRegName r, d)] []) ∧
    (∀ code ∈ ringCauses s d r u.toNat, (∀ x ∈ ringCauses s d r u.toNat, code ≤ x) → no (.dmaRingConfigWrite m r v) code)

/-- DMA channels at work (R424, R427, R433–R439) with a ring in working shared SRAM: a descriptor is taken, waited for or
refused; its element is copied, its STATUS and then its owner word are written and HEAD advances; halves and passes are
reported; a failed access halts the channel and drops a pause under way (R440); a pause holds the position and an abort ends the
descriptor. -/
def Obligations.DmaDescriptorsRunToTheirEnd : Prop :=
  ∀ (s : State) (d : Fin 64) (code : Nat), ringOk s d = true → s.f DMA_CH_CFG.RING_K d ≤ 16 →
    s.f DMA_CH_HEAD.INDEX d < ringLen s d →
    let c := s.dmaCh d
    let st := dState s d
    let h := headAddr s d - sramBase
    let now := ramBytes s sramCtl h 64
    let ring : Int × Int := (ringBase s d, ringBase s d + 64 * ringLen s d)
    let works := memQuiet s sramCtl ∧ targetUp s .sram = true
    let others := fun (t : State) => ∀ j, j ≠ d.val → t.dmaCh j = s.dmaCh j
    let raised := fun (t : State) (x : Fld) => t.fb x d = true
    let moved := fun (t : State) => t.f DMA_CH_HEAD.INDEX d = (s.f DMA_CH_HEAD.INDEX d + 1) % ringLen s d ∧
      counted s t .DMA_DESC_DONE d ∧ t.dmaCh d = DmaCh.reset ∧ others t
    let marked := fun (t : State) (word : Nat) => ramBytes t sramCtl (h + 60) 4 = leBytes 4 word
    let freed := fun (t : State) => ramBytes t sramCtl h 4 = zeros 4
    let b := c.desc
    let n := Desc.elem b
    let sa := Desc.src b - sramBase
    let da := Desc.dst b - sramBase
    let inBeat := fun (a : Nat) => sramBase ≤ a ∧ a % 32 + n ≤ 32 ∧ a + n ≤ sramBase + codeStoreAt s
    (works → st = dRunning → c.phase = phFetch → Desc.own now = true → Desc.refusal now ring = none →
      ∃ t, exec (.dmaDescriptorFetch d) s = .next t ∧ t.dmaCh d = ⟨now, phData, 0, false, 0x80000000, false⟩ ∧ others t ∧
        t.fb DMA_CH_STATUS.CYCLIC d = Desc.cyclic now ∧ t = { s with regs := t.regs, dma := t.dma } ∧
        keepsRegs s t [(.DMA_CH_STATUS, d)]) ∧
    (works → st = dRunning → c.phase = phFetch → Desc.own now = false → s.fb DMA_CH_STATUS.DB_LATCHED d = false →
      exec (.dmaDescriptorFetch d) s = .next (setDState s d dWaiting)) ∧
    (works → st = dRunning → c.phase = phFetch → Desc.own now = true → Desc.refusal now ring = some code →
      ∃ t, exec (.dmaDescriptorFetch d) s = .next t ∧ moved t ∧ marked t (0xA0000000 + code) ∧ freed t ∧
        t.reg .DMA_CH_STATUS d = 0 ∧ raised t DMA_CH_EVT.REFUSED ∧ counted s t .GLB_REFUSALS 0 ∧
        keepsMem s t [(sramCtl, h, 4), (sramCtl, h + 60, 4)]) ∧
    (works → st = dRunning → c.phase = phDone → c.status = 0x80000000 → Desc.cyclic b = false →
      ∃ t, exec (.dmaDescriptorComplete d) s = .next t ∧ moved t ∧ marked t 0x80000000 ∧ freed t ∧ dState t d = dRunning ∧
        (raised t DMA_CH_EVT.DONE ↔ Desc.irq b = true ∨ s.fb DMA_CH_EVT.DONE d = true) ∧
        keepsMem s t [(sramCtl, h, 4), (sramCtl, h + 60, 4)]) ∧
    (works → st = dRunning → c.phase = phData → c.pos = 0 → Desc.total b = 1 → Desc.transform b = 0 → Desc.cyclic b = false →
      inBeat (Desc.src b) → inBeat (Desc.dst b) → Desc.meets (Desc.srcExtent b) (Desc.dstExtent b) = false →
      Desc.meets (Desc.dstExtent b) ring = false →
      ∃ t, exec (.dmaDescriptorComplete d) s = .next t ∧ moved t ∧ marked t 0x80000000 ∧ freed t ∧ dState t d = dRunning ∧
        ramBytes t sramCtl da n = ramBytes s sramCtl sa n ∧
        t.cnt .DMA_BYTES d = BitVec.ofNat 64 (satAdd 64 (s.cnt .DMA_BYTES d).toNat n) ∧
        keepsMem s t [(sramCtl, da, n), (sramCtl, h, 4), (sramCtl, h + 60, 4)]) ∧
    (works → st = dRunning → c.phase = phData → Desc.cyclic b = true → c.half = true → Desc.total b ≤ c.pos →
      Desc.own now = true → ∃ t, exec (.dmaPassEnd d) s = .next t ∧ t.dmaCh d = { c with pos := 0, half := false } ∧
        others t ∧ raised t DMA_CH_EVT.FULL ∧ t = { s with regs := t.regs, dma := t.dma } ∧ keepsRegs s t [(.DMA_CH_EVT, d)]) ∧
    (works → st = dRunning → c.phase = phData → Desc.cyclic b = true → c.half = true → Desc.total b ≤ c.pos →
      Desc.own now = false → ∃ t, exec (.dmaPassEnd d) s = .next t ∧ moved t ∧ marked t 0x80000000 ∧
        raised t DMA_CH_EVT.FULL ∧ dState t d = dRunning ∧ keepsMem s t [(sramCtl, h + 60, 4)]) ∧
    (st = dRunning → c.phase = phData → Desc.cyclic b = true → c.half = false → Desc.total b / 2 ≤ c.pos →
      ∃ t, exec (.dmaHalfPass d) s = .next t ∧ t.dmaCh d = { c with half := true } ∧ others t ∧ raised t DMA_CH_EVT.HALF ∧
        t = { s with regs := t.regs, dma := t.dma } ∧ keepsRegs s t [(.DMA_CH_EVT, d)]) ∧
    (targetUp s .sram = false → st = dRunning ∨ st = dPausing → c.phase = phFetch → ∃ t, exec (.dmaBusError d) s = .next t ∧
      dState t d = dHalted ∧ raised t DMA_CH_EVT.HALTED ∧ t.reg .DMA_CH_ERRADDR_LO d = BitVec.ofNat 32 (headAddr s d) ∧
      t.reg .DMA_CH_ERRINFO d = BitVec.ofNat 32 (rDecErr * 2 ^ 29 + 2 ^ 27) ∧ onlyRegs s t [(.DMA_CH_STATUS, d),
        (.DMA_CH_EVT, d), (.DMA_CH_ERRADDR_LO, d), (.DMA_CH_ERRADDR_HI, d), (.DMA_CH_ERRINFO, d)] []) ∧
    (st = dPausing → c.phase ≠ phData → ∃ t, exec (.dmaPauseComplete d 0) s = .next t ∧ dState t d = dPaused ∧
      raised t DMA_CH_EVT.PAUSED ∧ onlyRegs s t [(.DMA_CH_STATUS, d), (.DMA_CH_EVT, d)] []) ∧
    (st = dPausing → c.phase = phData → Desc.cyclic b = false → Desc.overlapping b = false → c.pos < Desc.total b →
      let open_ := Desc.firstOpen b c.pos
      ∃ t, exec (.dmaPauseComplete d 0) s = .next t ∧ dState t d = dPaused ∧ raised t DMA_CH_EVT.PAUSED ∧
        t.reg .DMA_CH_POS_A d = BitVec.ofNat 32 (Desc.loopAt b open_ 1 * 2 ^ 16 + Desc.loopAt b open_ 0) ∧
        t.reg .DMA_CH_POS_B d = BitVec.ofNat 32 (Desc.loopAt b open_ 2) ∧
        onlyRegs s t [(.DMA_CH_STATUS, d), (.DMA_CH_EVT, d), (.DMA_CH_POS_A, d), (.DMA_CH_POS_B, d)] []) ∧
    (works → st = dAborting → c.phase = phData → c.status = 0xE0000000 → Desc.cyclic b = false →
      ∃ t, exec (.dmaAbortComplete d 0) s = .next t ∧ moved t ∧ marked t 0xE0000000 ∧ freed t ∧ t.reg .DMA_CH_STATUS d = 0 ∧
        raised t DMA_CH_EVT.ABORTED ∧ keepsMem s t [(sramCtl, h, 4), (sramCtl, h + 60, 4)]) ∧
    (works → st = dAborting → c.phase = phFetch → c.status = 0xE0000000 → Desc.own now = false →
      ∃ t, exec (.dmaAbortComplete d 0) s = .next t ∧ t.dmaCh d = DmaCh.reset ∧ others t ∧ t.reg .DMA_CH_STATUS d = 0 ∧
        raised t DMA_CH_EVT.ABORTED ∧ t = { s with regs := t.regs, dma := t.dma } ∧
        keepsRegs s t [(.DMA_CH_STATUS, d), (.DMA_CH_EVT, d)])

/-- Winnow (R429): bit `c` of the element written at position `r` is bit `r` of the element read at position `c`, and
winnowing the output again restores the input. -/
def Obligations.WinnowingTwiceRestoresTheBlock : Prop :=
  ∀ (n : Nat) (vals : List Nat), vals.length = n → (∀ x ∈ vals, x < 2 ^ n) →
    (∀ r c, r < n → c < n → ((Desc.winnow n vals).getD r 0).testBit c = (vals.getD c 0).testBit r) ∧
    (∀ x ∈ Desc.winnow n vals, x < 2 ^ n) ∧ Desc.winnow n (Desc.winnow n vals) = vals

/-- Officer records (R497–R500, R206–R213, R495, R507, R508, R510): a record against which no cause stands is answered, leaves
its SEQ as the last accepted one and has the effect of its type; with a cause the lowest code is reported and the key
store is as it was. -/
def Obligations.RecordsAreJudgedAndTakeEffect : Prop :=
  ∀ (s : State) (m : Master) (req secret : List Byte) (code : Nat), s.blkUp .SILO = true → hasMailbox m = true →
    1 ≤ req.length → req.length ≤ reqSize → noErrors s →
    let b := recBody req
    let type := recType req
    let node := nodeOf (b.take 8)
    let causes := envelopeCauses s req ++ (if envelopeCauses s req = [] then bodyCauses s req else [])
    let fine := causes = []
    let rows := [Instr.enrol m req, .domainUpdate m req, .peerAdmit m req, .peerRemove m req, .peerDismiss m req,
      .fabricKey m req, .sakImport m req, .authorise m req, .tamperCfg m req, .acknowledge m req, .retireRecord m req]
    let seq := BitVec.ofNat 64 (recSeq req)
    let done := fun (t : State) => accepted t .SILO_CHECK m ∧ t.fb SILO_EVT.DONE 0 = true ∧ t.silo.seq = seq
    let plain := fun (t : State) (x : Silo) => done t ∧ t.silo = { x with seq := seq } ∧ t.reg .SILO_RESP_LEN (masterIdx m) = 0 ∧
      t = { s with regs := t.regs, rams := t.rams, silo := t.silo } ∧
      keepsRegs s t [(.SILO_CHECK, masterIdx m), (.SILO_RESP_LEN, masterIdx m), (.SILO_EVT, 0)] ∧
      ∀ k, k ≠ reqRegion m → k ≠ respRegion m → t.ram k = s.ram k
    let used := s.silo.importKeys.filter fun k => k.id != (b.drop (if type = 6 then 4 else 16)).take 8
    let c := sakCh b
    let an := sakAn b
    (∀ i ∈ rows, code < 0xF9 → code ∈ causes → (∀ x ∈ causes, code ≤ x) → ∃ t, exec i s = .next t ∧ t.silo = s.silo ∧
      t.reg .SILO_CHECK (masterIdx m) = BitVec.ofNat 32 code ∧ t.fb SILO_EVT.RECORD_REJECTED 0 = true ∧
      t.fb SILO_EVT.DONE 0 = true ∧ counted s t .GLB_REFUSALS 0 ∧ t = { s with regs := t.regs, cnts := t.cnts, rams := t.rams }) ∧
    (fine → type = 1 → ∃ t, exec (.enrol m req) s = .next t ∧ done t ∧
      t.silo.domain = some (domainOf (recDomain req) b) ∧ t.mode = modeLoading ∧
      ramBytes t (respRegion m) 0 4 = ascii "QQTE" ∧ ramBytes t (respRegion m) 16 32 = (recDigest req).take 32) ∧
    (fine → type = 2 → ∃ t, exec (.domainUpdate m req) s = .next t ∧
      plain t { s.silo with domain := s.silo.domain.map fun d => domainOf d.id b }) ∧
    (fine → type = 3 → s.pin (pinReplaces b) = none → ∃ t, exec (.peerAdmit m req) s = .next t ∧
      plain t { s.silo with pins := s.silo.pins ++ [pinOf b] }) ∧
    (fine → type = 3 → ∃ t, exec (.peerAdmit m req) s = .next t ∧ done t ∧ (t.pin (certNode b)).isSome = true ∧
      (pinReplaces b ≠ certNode b → t.pin (pinReplaces b) = none)) ∧
    (fine → type = 4 → ∃ t, exec (.peerRemove m req) s = .next t ∧ done t ∧ t.pin node = none ∧
      ∀ n, n ≠ node → t.pin n = s.pin n) ∧
    (fine → type = 5 → ∃ t, exec (.peerDismiss m req) s = .next t ∧
      plain t { s.silo with pins := s.silo.pins.map fun p => if p.node = node then { p with changed := false } else p }) ∧
    (fine → type = 6 → unwrap s req (b.drop 4) 32 = some secret → ∃ t, exec (.fabricKey m req) s = .next t ∧
      plain t { s.silo with importKeys := used, prevKey := s.silo.fabKey, fabKey := some ((byteAt b 0).toNat, secret) }) ∧
    (fine → type = 6 → unwrap s req (b.drop 4) 32 = none → ∃ t, exec (.fabricKey m req) s = .next t ∧
      t.reg .SILO_CHECK (masterIdx m) = 0xF9 ∧ t.silo = { s.silo with importKeys := used }) ∧
    (fine → type = 7 → unwrap s req (b.drop 16) 44 = some secret → memQuiet s ctxCtl → (s.chan c).retiring = false →
      s.f TWN_STATUS.ROLE 0 ≠ 1 → ∃ t, exec (.sakImport m req) s = .next t ∧ done t ∧ t.silo.importKeys = used ∧
        ctxBytes t (inKey (inNext s c)) c = secret.take 32 ∧ ctxBytes t (egKey (egNext s c)) c = secret.take 32 ∧
        ctx t (inEpoch (inNext s c)) c = an ∧ ctx t (egEpoch (egNext s c)) c = an ∧
        bitAt (ctx t Ctx.IN_VALID c) (inNext s c) = true ∧ bitAt (ctx t Ctx.VALID c) (egNext s c) = true) ∧
    (fine → type = 8 → ∃ t, exec (.authorise m req) s = .next t ∧ plain t { s.silo with auths := liveAuths s ++
      [⟨m, (byteAt b 0).toNat, (byteAt b 1).toNat, sliceAt b 4 48,
        BitVec.ofNat 64 (min (leAt b 52 8) (s.rtc.toNat + 3600000000))⟩] }) ∧
    (fine → type = 9 → s.f SILO_TAMPER.LOOP 0 &&& (byteAt b 0).toNat = 0 → ∃ t, exec (.tamperCfg m req) s = .next t ∧ done t ∧
      t.f SILO_LOOP_CFG.ARMED 0 = (byteAt b 0).toNat ∧ t.silo = { s.silo with seq := seq } ∧ t.mode = s.mode) ∧
    (fine → type = 10 → s.reg .SILO_TAMPER 0 = 0 → s.silo.zeroizeHigh = true → ∃ t, exec (.acknowledge m req) s = .next t ∧
      done t ∧ t.silo.latch = false ∧ t.mode = s.mode ∧ t.silo.domain = s.silo.domain) ∧
    (fine → type = 10 → ∃ t, exec (.acknowledge m req) s = .next t ∧ ((done t ∧ t.silo.latch = false) ∨
      (t.silo.latch = s.silo.latch ∧ t.silo.seq = s.silo.seq ∧ t.reg .SILO_CHECK (masterIdx m) = 0xFE ∧
        t.fb SILO_EVT.RECORD_REJECTED 0 = true))) ∧
    (fine → type = 11 → ∃ t, exec (.retireRecord m req) s = .next t ∧ t.mode = modeRetired ∧ t.silo.retired = true ∧
      t.silo.domain = (if s.mode = modeAlarm then s.silo.domain else none) ∧ ∀ p : Nat, p < 64 → provisioned t p = false)

/-- The other mailbox commands and the Silo's timers (R205, R214–R217, R499, R500, R509, R510): a command answers with what it
reads or makes, in the response buffer, with the length and the check; an absent entry is refused; keys and
authorisations lapse, an entropy source whose raw bits fail a test leaves use, the Silo's generator reseeds from a conditioned
seed, or stops while fewer than two sources are healthy. -/
def Obligations.MailboxCommandsAnswer : Prop :=
  ∀ (s : State) (m : Master) (req : List Byte) (p : Pin) (x : TamperEnt) (id : W64) (a : Fin 4) (i : Fin 8) (u : Fin 5)
    (raw : List Byte), s.blkUp .SILO = true → noErrors s →
    let mail := hasMailbox m = true ∧ req.length ≤ reqSize
    let ready := fun (draws : Nat) => s.silo.identity = true ∧ randomFor s draws = true
    let n := leNat (req.take 2)
    let answers := fun (t : State) (resp : List Byte) => accepted t .SILO_CHECK m ∧ t.fb SILO_EVT.DONE 0 = true ∧
      t.reg .SILO_RESP_LEN (masterIdx m) = BitVec.ofNat 32 (resp.length % 2 ^ 16) ∧
      ramBytes t (respRegion m) 0 resp.length = resp
    let reads := fun (ins : Instr) (resp : List Byte) => ∃ t, exec ins s = .next t ∧ answers t resp ∧
      t = { s with regs := t.regs, rams := t.rams } ∧
      keepsRegs s t [(.SILO_CHECK, masterIdx m), (.SILO_RESP_LEN, masterIdx m), (.SILO_EVT, 0)]
    let no := fun (ins : Instr) (code : Nat) => ∃ t, exec ins s = .next t ∧
      t.reg .SILO_CHECK (masterIdx m) = BitVec.ofNat 32 code ∧ t.reg .SILO_RESP_LEN (masterIdx m) = 0 ∧ t.silo = s.silo
    let drew := fun (t : State) (x : Silo) =>
      t.silo = { x with drbg := t.silo.drbg, drbgReqs := t.silo.drbgReqs, srcTurn := t.silo.srcTurn }
    (mail → s.silo.identity = true → reads (.getCert m) (ownCert s)) ∧
    ((ownCert s).take 16 = ascii "QIDC" ++ [1, BitVec.ofNat 8 s.variant, 0xB0, 0] ++ nodeBytes s.silo.node) ∧
    (mail → s.silo.identity = false → no (.getCert m) 0xFC) ∧
    (mail → ready signDraws → req.length = 32 → ∃ t resp, exec (.quote m req) s = .next t ∧ answers t resp ∧ resp.length = 4851 ∧
      resp.take 4 = ascii "QQTE" ∧ sliceAt resp 8 40 = nodeBytes s.silo.node ++ req ∧
      drew t s.silo ∧ t = { s with regs := t.regs, rams := t.rams, freeCtr := t.freeCtr, silo := t.silo }) ∧
    (mail → s.silo.identity = true → randomFor s signDraws = false → req.length = 32 → no (.quote m req) 0xFD) ∧
    (mail → ready importDraws → s.silo.importKeys.length < 4 → ∃ t resp k, exec (.getImportKey m) s = .next t ∧ answers t resp ∧
      resp.take 8 = k.id ∧ drew t { s.silo with importKeys := s.silo.importKeys ++ [k] } ∧
      t = { s with regs := t.regs, rams := t.rams, silo := t.silo, freeCtr := t.freeCtr }) ∧
    (mail → 4 ≤ s.silo.importKeys.length → no (.getImportKey m) 0xF8) ∧
    (mail → reads (.readDomain m) (domainBytes s)) ∧
    (mail → 2 ≤ req.length → s.silo.pins[n]? = some p → reads (.readPin m req) (pinBytes p)) ∧
    (mail → 2 ≤ req.length → s.silo.pins[n]? = none → no (.readPin m req) 0xF8) ∧
    (mail → 2 ≤ req.length → s.silo.log[n]? = some x → reads (.readLog m req) (logBytes x)) ∧
    (mail → 2 ≤ req.length → s.silo.log[n]? = none → no (.readLog m req) 0xF8) ∧
    exec (.importKeyExpiry id) s = .next { s with silo := { s.silo with
      importKeys := s.silo.importKeys.filter fun k => k.id != nodeBytes id } } ∧
    exec (.authoriseExpiry a) s = .next { s with silo := { s.silo with auths := s.silo.auths.eraseIdx a } } ∧
    (bitAt s.silo.srcBad i = false → healthOk raw = false → ∃ t, exec (.entropySrcFail i raw) s = .next t ∧
      bitAt t.silo.srcBad i = true ∧ (∀ j, j ≠ i.val → bitAt t.silo.srcBad j = bitAt s.silo.srcBad j) ∧
      t.fb SILO_EVT.ENTROPY_SRC_FAIL 0 = true ∧
      t = { s with regs := t.regs, silo := { s.silo with srcBad := t.silo.srcBad } } ∧ keepsRegs s t [(.SILO_EVT, 0)]) ∧
    (bitAt s.silo.srcBad i = true ∨ healthOk raw = true → exec (.entropySrcFail i raw) s = .next s) ∧
    (u.val = 0 → randomOk s = true → 2 ≤ healthySources s → ∃ t seed, exec (.drbgReseedDue u) s = .next t ∧ seed.length = 128 ∧
      t.silo.drbg = some (drbgTake s.silo.drbg (Crypto.sha384 seed) (drbgPers s siloDrbg)) ∧ t.silo.drbgReqs = 0 ∧
      bitAt s.silo.srcBad ((t.silo.srcTurn + 7) % 8) = false ∧ drew t s.silo ∧
      t = { s with freeCtr := t.freeCtr, silo := t.silo }) ∧
    (u.val = 0 → randomOk s = false ∨ healthySources s < 2 → ∃ t, exec (.drbgReseedDue u) s = .next t ∧ randomOk t = false ∧
      t = { s with silo := { s.silo with drbg := none } }) ∧
    (u.val ≠ 0 → ∃ t, exec (.drbgReseedDue u) s = .next t ∧ (t.eng (63 + u)).drbg.due = true ∧ onlyEng s t (63 + u))

/-- Tamper and fatal faults (R494, R502–R504, R513): the first trip clears the key store, is counted and logged with its cause,
sets the latch and enters ALARM-HOLD with no port provisioned, or acts so in DORMANT on reserve energy; a trip before the
acknowledgement is logged only; an unarmed loop is only shown, and a supercapacitor that is spent while VBAK is in its range, or
while a feed powers the module, clears nothing (R470). -/
def Obligations.TripsZeroiseTheKeyStore : Prop :=
  ∀ (s : State) (w : Sensor) (f : FatalKind),
    let logged := fun (t : State) (c l : Nat) => t.silo.log = (⟨c, l, s.rtc, s.mode⟩ :: s.silo.log).take 256
    let cleared := fun (t : State) (c l : Nat) => t.silo.latch = true ∧ t.silo.identity = false ∧ t.silo.domain = none ∧
      t.silo.pins = [] ∧ t.silo.fabKey = none ∧ t.silo.prevKey = none ∧ t.silo.importKeys = [] ∧ t.silo.custody = none ∧ t.silo.auths = [] ∧
      t.silo.zeroised = true ∧ t.silo.seq = s.silo.seq ∧ t.silo.node = s.silo.node ∧
      t.reg .SILO_TAMPER_CAUSE 0 = BitVec.ofNat 32 (c * 2 ^ 24 + l * 2 ^ 16) ∧
      t.reg .SILO_TAMPER_TIME_LO 0 = s.rtc.setWidth 32 ∧ t.reg .SILO_TAMPER_TIME_HI 0 = (s.rtc >>> 32).setWidth 32 ∧
      t.f SILO_ZCOUNT.COUNT 0 = satAdd 16 (s.f SILO_ZCOUNT.COUNT 0) 1 ∧ logged t c l ∧ t.pending = s.pending
    let held := fun (t : State) => t.mode = modeAlarm ∧ t.fb SILO_EVT.ALARM 0 = true ∧ t.dma = [] ∧
      ∀ p : Nat, p < 64 → provisioned t p = false
    let trips := match w with
      | .loop n => bitAt (s.f SILO_LOOP_CFG.ARMED 0) n = true
      | .backup y => s.mode = modeDormant ∧ (y.toNat < 2500 ∨ 3600 < y.toNat)
      | _ => True
    let shown := fun (t : State) => ∀ b, sensorBit w = some b → (t.reg .SILO_TAMPER 0).toNat.testBit b = true
    (s.mode ≠ modeDormant → s.mode ≠ modeRetired → s.silo.latch = false → trips →
      ∃ t, exec (.tamperTrip w) s = .next t ∧ cleared t (causeOf w) (loopOf w) ∧ held t ∧ shown t) ∧
    (s.mode ≠ modeDormant → s.mode = modeRetired ∨ s.silo.latch = true → trips →
      ∃ t, exec (.tamperTrip w) s = .next t ∧ logged t (causeOf w) (loopOf w) ∧ shown t ∧
        t.silo = { s.silo with log := t.silo.log, zeroizeHigh := t.silo.zeroizeHigh } ∧
        t = { s with regs := t.regs, silo := t.silo } ∧ keepsRegs s t [(.SILO_TAMPER, 0)]) ∧
    (s.mode ≠ modeDormant → ¬ trips → ∃ t, exec (.tamperTrip w) s = .next t ∧ shown t ∧
      t = { s with regs := t.regs } ∧ keepsRegs s t [(.SILO_TAMPER, 0)]) ∧
    (s.mode = modeDormant → s.silo.latch = false → s.silo.retired = false → trips →
      ∃ t, exec (.tamperTripDormant w) s = .next t ∧ cleared t (causeOf w) (loopOf w) ∧ t.mode = modeDormant ∧ shown t) ∧
    (s.mode = modeDormant → s.silo.latch = true ∨ s.silo.retired = true → trips →
      ∃ t, exec (.tamperTripDormant w) s = .next t ∧ logged t (causeOf w) (loopOf w) ∧
        t.silo = { s.silo with log := t.silo.log, zeroizeHigh := t.silo.zeroizeHigh } ∧
        t.pwr = { s.pwr with bakOut := s.pwr.bakOut || causeOf w == 8 } ∧ t = { s with regs := t.regs, silo := t.silo, pwr := t.pwr }) ∧
    (s.mode = modeDormant → ¬ trips → ∃ t, exec (.tamperTripDormant w) s = .next t ∧ shown t ∧ t = { s with regs := t.regs }) ∧
    (s.mode = modeDormant → exec (.tamperTrip w) s = .next s) ∧ (s.mode ≠ modeDormant → exec (.tamperTripDormant w) s = .next s) ∧
    (f = .granary ∨ s.blkUp .SILO = true → s.mode ≠ modeDormant → s.mode ≠ modeRetired → s.silo.latch = false →
      ∃ t, exec (.fatalFault f) s = .next t ∧ cleared t causeFatal 0 ∧ held t) ∧
    (f = .granary → s.mode = modeDormant → s.silo.latch = false → s.silo.retired = false →
      ∃ t, exec (.fatalFault f) s = .next t ∧ cleared t causeFatal 0 ∧ t.mode = modeDormant)

/-- SHF commands (R376–R381, R387): VERIFY, ACTIVATE and STAGE show BUSY and end with their result; slices are drained and
change their code; PROMOTE and ABANDON end the staged image, and a promotion with 16 or fewer floor rows left raises FUSE_LOW
(R369); a command with a cause against it is refused with the lowest
code, and one written while the master's earlier command runs is ignored. -/
def Obligations.SheafCommandsTakeEffect : Prop :=
  ∀ (s : State) (m : Master) (v : Word) (o : ShfOp) (x : Sheaf) (fl : FlashRead) (code : Nat)
    (sl : Fin 32) (rg : Fin 64),
    let cmd := v.toNat / 2 ^ 28
    let slot := v.toNat / 2 ^ 8 % 2
    let n := v.toNat % 32
    let able := s.blkUp .SHF = true ∧ shfBusy s m = false
    let chk := (Reg.SHF_CHECK, masterIdx m)
    let begun := fun (ins : Instr) => ∃ t, exec ins s = .next t ∧ t.reg .SHF_CHECK (masterIdx m) = 0x80000000 ∧
      t.fb SHF_STATUS.OP_BUSY 0 = true ∧ t.shf = { s.shf with op := some ⟨m, cmd, slot, needsAuth s cmd⟩ }
    let ok := fun (ins : Instr) (f : State → Prop) => ∃ t, exec ins s = .next t ∧ accepted t .SHF_CHECK m ∧ f t
    let no := fun (ins : Instr) (c : Nat) => ∃ t, exec ins s = .next t ∧ refusedWith s t .SHF_CHECK m 0 c
    let drained := fun (t : State) (k : Nat) => bitAt (t.reg .SHF_DRAINED 0).toNat k
    let slices := fun (t : State) (l : List (Reg × Nat)) => t = { s with regs := t.regs, slices := t.slices } ∧ keepsRegs s t l
    let selects := fun (ins : Instr) (staged : Bool) => sliceProvisioned s n = false → ok ins fun t => sliceBit t n = staged ∧
      t.fb SHF_EVT.UPDATE_DONE 0 = true ∧ (t.fb SHF_STATUS.MIXED 0 = true ↔ t.reg .SHF_SLICE_CODE 0 ≠ 0) ∧
      onlyRegs s t [chk, (.SHF_SLICE_CODE, 0), (.SHF_STATUS, 0), (.SHF_EVT, 0)] []
    let reloads := fun (ins : Instr) (staged : Bool) => sliceProvisioned s n = true → ok ins fun t => sliceBit t n = staged ∧
      engState t (2 * n) = engResetting ∧ engState t (2 * n + 1) = engResetting ∧ t.shf.updating.contains n = true ∧
      t.eng (2 * n) = (s.eng (2 * n)).cleared ∧ t.eng (2 * n + 1) = (s.eng (2 * n + 1)).cleared ∧
      t.ram (2 * n) = [] ∧ t.ram (2 * n + 1) = []
    (able → cmd = 1 → opCauses s m 1 slot = [] → begun (.verify m v)) ∧
    (able → cmd = 2 → opCauses s m 2 slot = [] → begun (.activate m v)) ∧
    (able → cmd = 3 → opCauses s m 3 slot = [] → begun (.stage m v) ∧ ∀ t, exec (.stage m v) s = .next t → t.staged = none) ∧
    (able → 1 ≤ cmd → cmd ≤ 3 → code ∈ opCauses s m cmd slot → (∀ y ∈ opCauses s m cmd slot, code ≤ y) →
      no (.verify m v) code ∧ no (.activate m v) code ∧ no (.stage m v) code) ∧
    (s.blkUp .SHF = true → shfBusy s m = true → exec (.verify m v) s = .next s) ∧
    (able → cmd = 4 → sliceCauses s 4 n = [] →
      (sliceProvisioned s n = true → sliceDrained s n = false →
        ok (.drain m v) fun t => t.slice n = { s.slice n with draining := true } ∧ slices t [chk]) ∧
      (sliceProvisioned s n = false → ok (.drain m v) fun t => drained t n = true ∧ t.fb SHF_EVT.DRAINED 0 = true ∧
        onlyRegs s t [chk, (.SHF_DRAINED, 0), (.SHF_EVT, 0)] [])) ∧
    (able → cmd = 4 → sliceCauses s 4 n = [] → sliceProvisioned s n = true → sliceDrained s n = true →
      exec (.drain m v) s = .next (acceptCheck s .SHF_CHECK m)) ∧
    (able → cmd = 5 → sliceCauses s 5 n = [] → ok (.undrain m v) fun t => drained t n = false ∧
      (∀ k, k ≠ n → drained t k = drained s k) ∧ t.slice n = { s.slice n with draining := false } ∧
      slices t [chk, (.SHF_DRAINED, 0)]) ∧
    (able → cmd = 6 → sliceCauses s 6 n = [] → selects (.update m v) true ∧ reloads (.update m v) true) ∧
    (able → cmd = 7 → sliceCauses s 7 n = [] → selects (.revert m v) false ∧ reloads (.revert m v) false) ∧
    (able → cmd = 6 → shfMode s 6 = true → slicePresent s n = true → sliceProvisioned s n = true → sliceDrained s n = false →
      no (.update m v) 0xD8) ∧
    (able → cmd = 8 → promoteCauses s m = [] → s.staged = some x → ok (.promote m v) fun t => t.sheaf = x ∧ t.staged = none ∧
      t.codeHigh = !s.codeHigh ∧ t.reg .SHF_SLICE_CODE 0 = 0 ∧ t.shf.pref = s.f SHF_STATUS.STAGED_SLOT 0 ∧
      t.fb SHF_EVT.PROMOTED 0 = true ∧ t.reg .SHF_SVN 0 = BitVec.ofNat 32 (hdrSvn x.header) ∧
      (256 - s.shf.rows ≤ 16 → t.fb SHF_EVT.FUSE_LOW 0 = true)) ∧
    (able → cmd = 9 → abandonCauses s = [] → ok (.abandon m v) fun t => t.staged = none ∧ t.fb SHF_STATUS.STAGED 0 = false ∧
      t = { s with regs := t.regs, staged := none }) ∧
    (s.shf.op = some o → shfBusy s o.master = true → verifySlot s o.slot fl = (0, x) → o.auth = false → o.cmd = 1 ∨ o.cmd = 2 →
      ∃ t, exec (.shfOpDone fl) s = .next t ∧ accepted t .SHF_CHECK o.master ∧ t.fb SHF_EVT.OP_DONE 0 = true ∧
        t.fb SHF_STATUS.OP_BUSY 0 = false ∧ t.shf = { s.shf with op := none, pref := if o.cmd = 2 then o.slot else s.shf.pref }) ∧
    (s.shf.op = some o → shfBusy s o.master = true → verifySlot s o.slot fl = (0, x) → o.auth = false → o.cmd = 3 →
      stageCauses s x = [] → ∃ t, exec (.shfOpDone fl) s = .next t ∧ accepted t .SHF_CHECK o.master ∧ t.staged = some x ∧
        t.fb SHF_STATUS.STAGED 0 = true ∧ t.f SHF_STATUS.STAGED_SLOT 0 = o.slot % 2 ∧ t.sheaf = s.sheaf) ∧
    (s.shf.op = some o → shfBusy s o.master = true → (verifySlot s o.slot fl).1 = code → code ≠ 0 →
      ∃ t, exec (.shfOpDone fl) s = .next t ∧ t.reg .SHF_CHECK (masterIdx o.master) = BitVec.ofNat 32 code ∧
        t.fb SHF_EVT.OP_DONE 0 = true ∧ t.shf = { s.shf with op := none } ∧ counted s t .GLB_REFUSALS 0) ∧
    ((s.slice sl).draining = true → (∀ p ∈ s.ports, ∀ u ∈ p.2.slots, u.eng / 2 ≠ sl) →
      ∃ t, exec (.sliceDrained sl) s = .next t ∧ drained t sl = true ∧ t.slice sl = { s.slice sl with draining := false } ∧
        t.fb SHF_EVT.DRAINED 0 = true ∧ slices t [(.SHF_DRAINED, 0), (.SHF_EVT, 0)]) ∧
    (s.shf.updating.contains sl.val = true → ∃ t, exec (.updateDone sl) s = .next t ∧ t.fb SHF_EVT.UPDATE_DONE 0 = true ∧
      t.shf = { s.shf with updating := s.shf.updating.erase sl }) ∧
    ((s.slice (rg / 2)).powered = true → s.variant ≠ 2 → s.sheaf.compl.any (fun y => bitAt (leAt y.bytes 0 8) rg) = true →
      s.loaded.contains rg.val = false → ∃ t, exec (.complicationRegionLoaded rg) s = .next t ∧
      t.loaded = s.loaded ++ [rg.val] ∧ t.eng rg = { s.eng rg with cfault := (s.eng rg).cfault &&& 0xAA } ∧
      (∀ k, k ≠ rg.val → t.eng k = s.eng k) ∧ t = { s with loaded := t.loaded, engs := t.engs })

/-- The flash (R372, R385, R386): an accepted command shows BUSY and latches its operands, and an ERASE counts its cycle as it
begins (log 101); an erased slot reads as ones, a
programmed range as the shared SRAM it came from, and a read copies it back; a command that fails raises its error, and the
check then shows OK 0 with REASON 0x00 (the model's choice, log 101). -/
def Obligations.FlashCommandsMoveTheirBytes : Prop :=
  ∀ (s : State) (m : Master) (v : Word) (o : FlOp) (code : Nat) (ok : Bool),
    let cmd := v.toNat / 2 ^ 28
    let slot := v.toNat / 2 ^ 8 % 2
    let able := s.blkUp .SHF = true ∧ shfBusy s m = false
    let op := some (⟨m, cmd, slot, s.f SHF_FL_SRC.OFF 0, s.f SHF_FL_DST.OFF 0, s.f SHF_FL_LEN.BYTES 0⟩ : FlOp)
    let taken : List (Reg × Nat) := [(.SHF_CHECK, masterIdx m), (.SHF_STATUS, 0), (.SHF_FL_STATUS, 0)]
    let begins := fun (t : State) => t.reg .SHF_CHECK (masterIdx m) = 0x80000000 ∧
      t.fb SHF_STATUS.FL_BUSY 0 = true ∧ t.fb SHF_FL_STATUS.BUSY 0 = true ∧ t.fb SHF_FL_STATUS.ERR 0 = false
    let begun := fun (ins : Instr) => ∃ t, exec ins s = .next t ∧ begins t ∧ t.shf = { s.shf with fl := op } ∧
      t = { s with regs := t.regs, shf := t.shf } ∧ keepsRegs s t taken
    let no := fun (ins : Instr) (c : Nat) => ∃ t, exec ins s = .next t ∧ refusedWith s t .SHF_CHECK m 0 c
    let runs := s.shf.fl = some o ∧ shfBusy s o.master = true
    let at_ := slotBase o.slot + o.dst
    let ended := fun (t : State) => t.shf.fl = none ∧ t.fb SHF_STATUS.FL_BUSY 0 = false ∧ t.fb SHF_FL_STATUS.BUSY 0 = false
    let done := fun (t : State) => ended t ∧ accepted t .SHF_CHECK o.master ∧ t.fb SHF_EVT.FLASH_DONE 0 = true
    let flash := fun (u : State) (a : Nat) => Mem.read erasedByte (u.ram flashRegion) a
    (able → cmd = 1 → flashCauses s 1 slot = [] → ∃ t, exec (.erase m v) s = .next t ∧ begins t ∧
      t.shf = { s.shf with fl := op, erases := setAt s.shf.erases slot (s.shf.erases.getD slot 0 + 1) } ∧
      t = { s with regs := t.regs, shf := t.shf, hlth := t.hlth } ∧
      keepsRegs s t (taken ++ [(.HLTH_EVT, 0), (.HLTH_TCYC, 0)] ++ (List.range 8).map fun k => (.HLTH_CONS, k))) ∧
    (able → cmd = 2 → flashCauses s 2 slot = [] → begun (.program m v)) ∧
    (able → cmd = 3 → flashCauses s 3 slot = [] → begun (.read m v)) ∧
    (able → code ∈ flashCauses s cmd slot → (∀ y ∈ flashCauses s cmd slot, code ≤ y) →
      no (.erase m v) code ∧ no (.program m v) code ∧ no (.read m v) code) ∧
    (s.shf.fl = none → exec (.flashDone ok) s = .next s) ∧
    (runs → o.cmd = 1 → ∃ t, exec (.flashDone true) s = .next t ∧ done t ∧
      (∀ a, slotBase o.slot ≤ a → a < slotBase (o.slot + 1) → flash t a = 0xFF) ∧
      (∀ a, ¬ (slotBase o.slot ≤ a ∧ a < slotBase (o.slot + 1)) → flash t a = flash s a) ∧
      (∀ k, k ≠ flashRegion → t.ram k = s.ram k) ∧ t.shf.incomplete.contains o.slot = false) ∧
    (runs → o.cmd = 2 → unerased s o = false → noErrors s → ∃ t, exec (.flashDone true) s = .next t ∧ done t ∧
      ramBytes t flashRegion at_ o.len = ramBytes s sramCtl o.src o.len ∧ keepsMem s t [(flashRegion, at_, o.len)]) ∧
    (runs → o.cmd = 3 → s.shf.incomplete.contains o.slot = false → memQuiet s sramCtl →
      ∃ t, exec (.flashDone true) s = .next t ∧ done t ∧ ramBytes t sramCtl o.src o.len = ramBytes s flashRegion at_ o.len ∧
        keepsMem s t [(sramCtl, o.src, o.len)]) ∧
    (runs → ∃ t, exec (.flashDone false) s = .next t ∧ ended t ∧ t.fb SHF_FL_STATUS.ERR 0 = true ∧
      t.reg .SHF_CHECK (masterIdx o.master) = 0 ∧ t.fb SHF_EVT.FLASH_ERR 0 = true ∧
      (o.cmd = 1 → t.shf.incomplete.contains o.slot = true))

/-- Hourglass (R515–R525, R527, R530): the second, the hour and the discharge step move the integrators and every indicator is
shown as it stands; forecasts give the module's end of life, and go stale; a temperature and an eye are shown, and a
threshold passed raises its event. -/
def Obligations.HourglassFollowsItsMeasurements : Prop :=
  ∀ (s : State) (rails : List (BitVec 16 × BitVec 16)) (osc : List Nat) (esr cap : Nat) (m : Master) (i : Fin 8) (v : Word)
    (ts : List (BitVec 16)) (x : BitVec 16) (lane : Fin 80) (vert horiz : BitVec 8) (sl : Nat),
    let up := s.blkUp .HLTH = true
    let h := s.hlth
    let shows := fun (t : State) => ∀ k : Nat, k < 8 → t.reg .HLTH_CONS k = BitVec.ofNat 32 (min (consumed t k) (2 ^ 32 - 1))
    let rate := ageRate (h.t0.getD 0)
    let me := m = .me0 ∨ m = .me1
    let eol := fun (t : State) =>
      (∀ k : Nat, k < 8 → predGrade t k ≠ 0 → (t.reg .HLTH_EOL 0).toNat % 2 ^ 16 ≤ predDays t k) ∧
      ((∀ k : Nat, k < 8 → predGrade t k = 0) → t.reg .HLTH_EOL 0 = 0x0000FFFF)
    let frame := fun (t : State) => t = { s with regs := t.regs, hlth := t.hlth }
    let same := fun (t : State) => frame t ∧ keepsRegs s t ([(.HLTH_EVT, 0), (.HLTH_TCYC, 0)] ++
      (List.range 8).map fun k => (.HLTH_CONS, k))
    (∃ t, exec (.hourglassUpdate rails) s = .next t ∧ shows t ∧ frame t ∧
      (sl < 32 → t.hlth.now.model.getD sl 0 = h.now.model.getD sl 0 + if (s.slice sl).powered then rate else 0) ∧
      t.hlth.now.em = h.now.em + (if modeSelftest ≤ s.mode then rate * (rails.headD (0, 0)).2.toNat ^ 2 else 0) ∧
      t.hlth.now.secs = h.now.secs + (if s.mode = modeDormant then 0 else 1) ∧
      (up → t.reg .HLTH_RAIL i = BitVec.ofNat 32 ((rails.getD i (0, 0)).1.toNat * 2 ^ 16 + (rails.getD i (0, 0)).2.toNat))) ∧
    (s.mode ≠ modeDormant → ∃ t, exec (.hourglassHourly osc esr) s = .next t ∧ shows t ∧ same t ∧ t.hlth.saved = t.hlth.now ∧
      t.hlth.now.esr = esr - 1000000 ∧ t.hlth.now.model = h.now.model) ∧
    (s.mode ≠ modeDormant → ∃ t, exec (.supercapMeasurement cap esr) s = .next t ∧ shows t ∧ same t ∧ t.hlth.now.scap =
      max ((Config.scapMade.1 - cap) * 1000000 / (Config.scapMade.1 - 1944000))
        ((esr - Config.scapMade.2) * 1000000 / (2000 - Config.scapMade.2))) ∧
    (up → me → ∃ t, exec (.hlthPredWrite m i v) s = .next t ∧ t.reg .HLTH_PRED i = maskedWrite .HLTH_PRED v ∧
      bitAt (t.f HLTH_STATUS.STALE 0) i = false ∧ eol t ∧ frame t ∧
      keepsRegs s t [(.HLTH_PRED, i), (.HLTH_STATUS, 0), (.HLTH_EOL, 0), (.HLTH_EVT, 0)]) ∧
    (¬ me → exec (.hlthPredWrite m i v) s = .next s) ∧
    (up → ∃ t, exec (.predictionStale i) s = .next t ∧ predGrade t i = 0 ∧ predDays t i = predDays s i ∧
      bitAt (t.f HLTH_STATUS.STALE 0) i = true ∧ t.fb HLTH_EVT.STALE 0 = true ∧ eol t ∧ frame t ∧
      keepsRegs s t [(.HLTH_PRED, i), (.HLTH_STATUS, 0), (.HLTH_EOL, 0), (.HLTH_EVT, 0)]) ∧
    (up → ts.length ≤ 8 → ∃ t, exec (.temperatureSample (x :: ts)) s = .next t ∧ t.hlth.t0 = some x.toInt ∧ frame t ∧
      (∀ k : Nat, k ≤ ts.length → t.f HLTH_TEMP.CUR k = ((x :: ts).getD k 0).toNat) ∧
      (2000 < x.toInt → bitAt h.hot 1 = false → t.fb HLTH_EVT.OVERTEMP 0 = true) ∧
      ((16 * min 125 (s.f HLTH_CFG.TEMP_WARN 0) : Nat) < x.toInt → bitAt h.hot 0 = false → t.fb HLTH_EVT.TEMP_WARN 0 = true)) ∧
    (¬ up → ∃ t, exec (.temperatureSample (x :: ts)) s = .next t ∧ t.hlth.t0 = some x.toInt ∧ t.regs = s.regs) ∧
    (up → 64 ≤ lane.val ∨ laneLocked s lane = true → ∃ t, exec (.eyeMeasurement lane vert horiz) s = .next t ∧ shows t ∧ frame t ∧
      laneLocked t lane = true ∧ consumed t 7 = marginNow t ∧
      (∀ x, s.eyeBase lane = some x → t.eyeBase lane = some x ∧
        (t.reg .HLTH_EYE lane).toNat / 2 ^ 8 % 2 ^ 8 = x % 2 ^ 8) ∧
      (s.eyeBase lane = none → eyeDay ≤ (s.lane lane).first.length + 1 →
        t.eyeBase lane = some (median (vert.toNat :: (s.lane lane).first))) ∧
      (t.lane lane).win = (vert.toNat :: (s.lane lane).win).take 8640 ∧ (∀ k, k ≠ lane.val → t.lane k = s.lane k) ∧
      (t.reg .HLTH_EYE lane).toNat / 2 ^ 16 = vert.toNat * 2 ^ 8 + horiz.toNat ∧
      (t.reg .HLTH_EYE lane).toNat % 2 ^ 8 = 1) ∧
    (up → lane.val < 64 → laneLocked s lane = false → exec (.eyeMeasurement lane vert horiz) s = .next s)

/-- Whenever a prediction word is written, HLTH_EOL takes the smallest DAYS among the indicators whose GRADE is not 0, on a
tie the lowest indicator number, and reads DAYS 0xFFFF with GRADE 0 where every GRADE is 0 (R522). -/
def Obligations.PredictionsGiveTheEndOfLife : Prop :=
  ∀ (s : State) (m : Master) (i : Fin 8) (v : Word), s.blkUp .HLTH = true → m = .me0 ∨ m = .me1 →
    ∃ t, exec (.hlthPredWrite m i v) s = .next t ∧
      let eol := (t.reg .HLTH_EOL 0).toNat
      let days := fun (k : Nat) => predDays t k
      let grade := fun (k : Nat) => predGrade t k
      ((∀ k : Nat, k < 8 → grade k = 0) → eol % 2 ^ 16 = 0xFFFF ∧ eol / 2 ^ 30 = 0) ∧
      ((∃ k : Nat, k < 8 ∧ grade k ≠ 0) → ∃ j : Nat, j < 8 ∧ grade j ≠ 0 ∧ eol % 2 ^ 16 = days j ∧ eol / 2 ^ 16 % 8 = j ∧
        eol / 2 ^ 30 = grade j ∧ ∀ k : Nat, k < 8 → grade k ≠ 0 → days j < days k ∨ (days j = days k ∧ j ≤ k))

/-- The state after reset is the model's choice of a module before its first start (logs 2, 5, 6): DORMANT, nothing pending,
every register and counter at its reset value, no port provisioned, no channel enabled, every memory at its reset
contents; its tables are in canonical form. -/
def Obligations.ResetLeavesADormantModule : Prop :=
  let s := State.reset
  s.Canon ∧ s.pending = [] ∧ s.mode = modeDormant ∧ (∀ r i, s.reg r i = regResetAt (r.key i)) ∧ (∀ c i, s.cnt c i = 0) ∧
    (∀ p : Nat, provisioned s p = false) ∧ (∀ c : Nat, chState s c = stDisabled) ∧ s.silo.domain = none ∧ s.out = [] ∧
    (∀ k a, Mem.read (ramDefault s k) (s.ram k) a = ramDefault s k a) ∧
    ∀ c : Nat, c < 16384 → ctx s Ctx.BALE_TMO c = 20 ∧ ctx s Ctx.EPOCH_BLK c = 32 ∧ ctx s Ctx.ROOT_LIFE c = 15 ∧
      ctx s Ctx.EPOCH_TIME c = 10000 ∧ ctx s Ctx.VALID c = 0 ∧ ctxBytes s Ctx.SLOT0_KEY c = zeros 32

/-- Every step keeps every sparse table and every memory in canonical form (R391 for memory; the form is the model's, log 2). -/
def Obligations.EveryStepKeepsTheTablesCanonical : Prop := ∀ s t : State, s.Canon → step s = .next t → t.Canon

/-- No command touches the commands that wait behind it, and an idle step adds none (log 1). -/
def Obligations.CommandsLeaveTheRestOfTheQueue : Prop := ∀ s t : State, step s = .next t → t.pending = s.pending.tail

/-- What is sealed opens again with the same key material: GCM, a channel's AEAD, a fabric message, and the payload of an OTN
group, whose cipher is its own inverse (R85, R112, R222). -/
def Obligations.WhatIsSealedOpensAgain : Prop :=
  ∀ (s : State) (c n : Nat) (m : KeyMat) (key iv aad pt : List Byte) (orig seq : W64) (type id : BitVec 8),
    let r := Crypto.gcmSeal key iv aad pt
    let a := aeadSeal s c m iv aad pt
    (key.length = 16 ∨ key.length = 32 → Crypto.gcmOpen key iv aad r.1 r.2 = some pt ∧ r.1.length = pt.length ∧ r.2.length = 16) ∧
    (m.key.length = 32 → ctx s Ctx.COMPL c = 0 → aeadOpen s c m iv aad a.1 a.2 = some pt) ∧
    (fabKeyOf s id.toNat = some key → fabOpen s (fabSeal key orig seq type.toNat id.toNat pt) = some pt) ∧
    (m.key.length = 32 → ctx s Ctx.COMPL c = 0 → pt.length = 121856 →
      otnCrypt s c true m n (otnCrypt s c false m n pt) = pt)
end

