-- ==== Sys2Proof/Laws/SMap.lean ====
section
/-! SUPPORT. Sparse tables: a read after a write, and that every operation keeps the canonical form. -/

namespace Sys2Proof.Machine.SMap

variable {α : Type} {d : Nat → α} {m : SMap α} {k k' : Nat} {v : α}

@[simp] theorem get_nil : get d [] k = d k := rfl

theorem get_erase : get d (erase m k) k' = if k' = k then d k else get d m k' := by
  induction m with
  | nil => by_cases h : k' = k <;> simp [erase, get, h]
  | cons e m ih =>
    obtain ⟨a, b⟩ := e
    simp only [erase] at ih
    by_cases h : a = k
    · simp only [erase, get, h, bne_self_eq_false, Bool.false_eq_true, not_false_eq_true, List.filter_cons_of_neg, ih]
      by_cases h1 : k' = k
      · simp [h1]
      · simp [h1, Ne.symm h1]
    · by_cases h1 : a = k'
      · subst h1; simp [erase, get, h]
      · simp [erase, get, h, h1, ih]

theorem get_insert (hk : ∀ e ∈ m, e.1 ≠ k) : get d (insert k v m) k' = if k' = k then v else get d m k' := by
  induction m with
  | nil => by_cases h : k = k' <;> simp [insert, get, h, eq_comm]
  | cons e m ih =>
    obtain ⟨a, b⟩ := e
    have ha : a ≠ k := hk (a, b) (by simp)
    have ih := ih fun e he => hk e (by simp [he])
    by_cases h : k < a
    · by_cases h1 : k = k'
      · subst h1; simp [insert, get, h]
      · simp [insert, get, h, h1, Ne.symm h1]
    · by_cases h1 : a = k'
      · subst h1; simp [insert, get, h, ha]
      · simp [insert, get, h, h1, ih]

theorem mem_erase {e : Nat × α} : e ∈ erase m k ↔ e ∈ m ∧ e.1 ≠ k := by simp [erase]

theorem erase_eq_self (h : ∀ e ∈ m, e.1 ≠ k) : erase m k = m := by
  simp only [erase, List.filter_eq_self]; intro e he; simpa using h e he

variable [DecidableEq α]

/-- A read after a write. -/
theorem get_set : get d (set d m k v) k' = if k' = k then v else get d m k' := by
  unfold set
  split
  · rename_i h; rw [get_erase, h]
  · rw [get_insert fun e he => (mem_erase.1 he).2, get_erase]
    split <;> simp_all

@[simp] theorem get_set_self : get d (set d m k v) k = v := by simp [get_set]

theorem get_set_ne (h : k' ≠ k) : get d (set d m k v) k' = get d m k' := by simp [get_set, h]

omit [DecidableEq α] in
theorem erase_insert (hk : ∀ e ∈ m, e.1 ≠ k) : erase (insert k v m) k = m := by
  induction m with
  | nil => simp [insert, erase]
  | cons x m ih =>
    obtain ⟨a, b⟩ := x
    have ha : a ≠ k := hk (a, b) (by simp)
    have hm : ∀ e ∈ m, e.1 ≠ k := fun e he => hk e (by simp [he])
    have ih := ih hm
    have hs : List.filter (fun e => e.1 != k) m = m := erase_eq_self hm
    by_cases h : k < a
    · simp [insert, h, erase, ha, hs]
    · simp only [erase] at ih
      simp [insert, h, erase, ha, ih]

/-- The later of two writes to a key counts. -/
theorem set_set {v' : α} : set d (set d m k v) k v' = set d m k v' := by
  have h1 : erase (set d m k v) k = erase m k := by
    unfold set
    split
    · exact erase_eq_self fun e he => (mem_erase.1 he).2
    · exact erase_insert fun e he => (mem_erase.1 he).2
  simp only [set, h1] at *

omit [DecidableEq α] in
theorem sorted_iff : sorted m = true ↔ m.Pairwise fun x y => x.1 < y.1 := by
  induction m with
  | nil => simp [sorted]
  | cons e m ih => 
    cases m with
    | nil => simp [sorted]
    | cons x m =>
      obtain ⟨a, b⟩ := e
      obtain ⟨c, g⟩ := x
      simp only [sorted, Bool.and_eq_true, decide_eq_true_eq, ih]
      constructor
      · rintro ⟨h, hs⟩
        refine List.pairwise_cons.2 ⟨fun y hy => ?_, hs⟩
        rcases List.mem_cons.1 hy with rfl | hy
        · exact h
        · exact lt_trans h ((List.pairwise_cons.1 hs).1 y hy)
      · intro h
        have h := List.pairwise_cons.1 h
        exact ⟨h.1 (c, g) (by simp), h.2⟩

omit [DecidableEq α] in
theorem sorted_filter {p : Nat × α → Bool} (h : sorted m = true) : sorted (m.filter p) = true :=
  sorted_iff.2 ((sorted_iff.1 h).filter p)

omit [DecidableEq α] in
theorem mem_insert {e : Nat × α} : e ∈ insert k v m ↔ e = (k, v) ∨ e ∈ m := by
  induction m with
  | nil => simp [insert]
  | cons x m ih =>
    obtain ⟨a, b⟩ := x
    by_cases h : k < a <;> simp [insert, h, ih]
    tauto

omit [DecidableEq α] in
theorem sorted_insert (h : sorted m = true) (hk : ∀ e ∈ m, e.1 ≠ k) : sorted (insert k v m) = true := by
  induction m with
  | nil => simp [insert, sorted]
  | cons x m ih =>
    obtain ⟨a, b⟩ := x
    have hp := List.pairwise_cons.1 (sorted_iff.1 h)
    by_cases hka : k < a
    · simp only [insert, hka, if_true]
      refine sorted_iff.2 (List.pairwise_cons.2 ⟨fun y hy => ?_, sorted_iff.1 h⟩)
      rcases List.mem_cons.1 hy with rfl | hy
      · exact hka
      · exact lt_trans hka (hp.1 y hy)
    · simp only [insert, hka, if_false]
      have hak : a < k := lt_of_le_of_ne (not_lt.1 hka) (hk (a, b) (by simp))
      refine sorted_iff.2 (List.pairwise_cons.2 ⟨fun y hy => ?_, sorted_iff.1 (ih (sorted_iff.2 hp.2) fun e he => hk e (by simp [he]))⟩)
      rcases mem_insert.1 hy with rfl | hy
      · exact hak
      · exact hp.1 y hy

theorem wf_iff : wf d m = true ↔ sorted m = true ∧ ∀ e ∈ m, e.2 ≠ d e.1 := by
  simp [wf, List.all_eq_true]

/-- Removing entries keeps the canonical form. -/
theorem wf_filter {p : Nat × α → Bool} (h : wf d m = true) : wf d (m.filter p) = true := by
  rw [wf_iff] at h ⊢
  exact ⟨sorted_filter h.1, fun e he => h.2 e (List.mem_filter.1 he).1⟩

/-- A write keeps the canonical form. -/
theorem wf_set (h : wf d m = true) : wf d (set d m k v) = true := by
  unfold set
  split
  · exact wf_filter h
  · rename_i hv
    have he := wf_iff.1 (wf_filter (p := fun e => e.1 != k) h)
    refine wf_iff.2 ⟨sorted_insert he.1 fun e hm => (mem_erase.1 hm).2, fun e hm => ?_⟩
    rcases mem_insert.1 hm with rfl | hm
    · exact hv
    · exact he.2 e hm

@[simp] theorem wf_nil : wf d ([] : SMap α) = true := rfl

end Sys2Proof.Machine.SMap
end

