-- ==== Sys2Proof/Laws/Regs.lean ====
section
/-! SUPPORT. Registers, fields and counters: a read after a write. -/

namespace Sys2Proof.Machine

/-! ### Bit fields -/

theorem bitsOf_lt (v lo n : Nat) : bitsOf v lo n < 2 ^ n := Nat.mod_lt _ (Nat.two_pow_pos n)

/-- A field's bits lie inside the word. -/
theorem bitsOf_mul_le (v lo n : Nat) : bitsOf v lo n * 2 ^ lo ≤ v :=
  le_trans (Nat.mul_le_mul_right _ (Nat.mod_le _ _)) (Nat.div_mul_le_self v (2 ^ lo))

/-- The three parts of a word around a field. -/
theorem putBits_eq (v lo n x : Nat) :
    putBits v lo n x = v % 2 ^ lo + 2 ^ lo * (x % 2 ^ n + 2 ^ n * (v / 2 ^ lo / 2 ^ n)) := by
  unfold putBits bitsOf
  have h1 := Nat.div_add_mod v (2 ^ lo)
  have h2 := Nat.div_add_mod (v / 2 ^ lo) (2 ^ n)
  have h3 : v = v % 2 ^ lo + 2 ^ lo * (v / 2 ^ lo % 2 ^ n + 2 ^ n * (v / 2 ^ lo / 2 ^ n)) := by
    rw [add_comm (_ % _) (2 ^ n * _), h2, add_comm, h1]
  generalize hA : v % 2 ^ lo = A at *
  generalize hB : v / 2 ^ lo % 2 ^ n = B at *
  generalize hC : v / 2 ^ lo / 2 ^ n = C at *
  generalize x % 2 ^ n = X
  rw [h3]
  have e1 : 2 ^ lo * (B + 2 ^ n * C) = B * 2 ^ lo + 2 ^ lo * (2 ^ n * C) := by ring
  have e2 : 2 ^ lo * (X + 2 ^ n * C) = X * 2 ^ lo + 2 ^ lo * (2 ^ n * C) := by ring
  rw [e1, e2]; omega

/-- The field just written. -/
theorem bitsOf_putBits (v lo n x : Nat) : bitsOf (putBits v lo n x) lo n = x % 2 ^ n := by
  rw [putBits_eq, bitsOf, Nat.add_mul_div_left _ _ (Nat.two_pow_pos lo),
    Nat.div_eq_of_lt (Nat.mod_lt _ (Nat.two_pow_pos lo)), zero_add, Nat.add_mul_mod_self_left, Nat.mod_mod]

theorem testBit_putBits (v lo n x i : Nat) :
    (putBits v lo n x).testBit i = if lo ≤ i ∧ i < lo + n then x.testBit (i - lo) else v.testBit i := by
  rw [putBits_eq, add_comm, Nat.testBit_two_pow_mul_add _ (Nat.mod_lt _ (Nat.two_pow_pos lo)), Nat.testBit_mod_two_pow]
  by_cases h : i < lo
  · simp [h, Nat.not_le.2 h]
  · simp only [h, if_false]
    rw [add_comm, Nat.testBit_two_pow_mul_add _ (Nat.mod_lt _ (Nat.two_pow_pos n)), Nat.testBit_mod_two_pow]
    by_cases h1 : i - lo < n
    · have : lo ≤ i ∧ i < lo + n := by omega
      simp [h1, this]
    · have h2 : ¬(lo ≤ i ∧ i < lo + n) := by omega
      simp only [h1, h2, if_false, Nat.testBit_div_two_pow]
      congr 1; omega

theorem testBit_bitsOf (v lo n i : Nat) : (bitsOf v lo n).testBit i = (decide (i < n) && v.testBit (lo + i)) := by
  simp [bitsOf, Nat.testBit_mod_two_pow, Nat.testBit_div_two_pow, add_comm]

/-- A field that does not meet the one written. -/
theorem bitsOf_putBits_disjoint {v lo n x lo' n' : Nat} (h : lo' + n' ≤ lo ∨ lo + n ≤ lo') :
    bitsOf (putBits v lo n x) lo' n' = bitsOf v lo' n' := by
  apply Nat.eq_of_testBit_eq
  intro i
  rw [testBit_bitsOf, testBit_bitsOf, testBit_putBits]
  by_cases hi : i < n'
  · have : ¬(lo ≤ lo' + i ∧ lo' + i < lo + n) := by omega
    simp [this]
  · simp [hi]

theorem putBits_lt {v lo n x w : Nat} (hv : v < 2 ^ w) (h : lo + n ≤ w) : putBits v lo n x < 2 ^ w := by
  apply Nat.lt_pow_two_of_testBit
  intro i hi
  rw [testBit_putBits]
  have : ¬(lo ≤ i ∧ i < lo + n) := by omega
  simp only [this, if_false]
  exact Nat.testBit_lt_two_pow (lt_of_lt_of_le hv (Nat.pow_le_pow_right (by norm_num) hi))

/-! ### Registers -/

theorem Reg.ctorIdx_lt (r : Reg) : r.ctorIdx < 213 := by cases r <;> decide

theorem Reg.key_inj {r r' : Reg} {i i' : Nat} (h : r.key i = r'.key i') : r = r' ∧ i = i' := by
  have h1 := r.ctorIdx_lt
  have h2 := r'.ctorIdx_lt
  unfold Reg.key at h
  have hi : i = i' := by omega
  have hr : r.ctorIdx = r'.ctorIdx := by omega
  refine ⟨?_, hi⟩
  have e1 : Reg.ofNat r.ctorIdx = r := Reg.ofNat_ctorIdx r
  have e2 : Reg.ofNat r'.ctorIdx = r' := Reg.ofNat_ctorIdx r'
  rw [← e1, ← e2, hr]

theorem Ctr.ctorIdx_lt (c : Ctr) : c.ctorIdx < 51 := by cases c <;> decide

theorem Ctr.key_inj {c c' : Ctr} {i i' : Nat} (h : c.key i = c'.key i') : c = c' ∧ i = i' := by
  have h1 := c.ctorIdx_lt
  have h2 := c'.ctorIdx_lt
  unfold Ctr.key at h
  have hi : i = i' := by omega
  have hr : c.ctorIdx = c'.ctorIdx := by omega
  refine ⟨?_, hi⟩
  have e1 : Ctr.ofNat c.ctorIdx = c := Ctr.ofNat_ctorIdx c
  have e2 : Ctr.ofNat c'.ctorIdx = c' := Ctr.ofNat_ctorIdx c'
  rw [← e1, ← e2, hr]

namespace State

variable {s : State} {r r' : Reg} {i i' : Nat} {v : Word}

theorem reg_setReg : (s.setReg r i v).reg r' i' = if r' = r ∧ i' = i then v else s.reg r' i' := by
  simp only [reg, setReg, SMap.get_set]
  by_cases h : r' = r ∧ i' = i
  · simp [h]
  · have : r'.key i' ≠ r.key i := fun e => h (Reg.key_inj e)
    simp [h, this]

@[simp] theorem reg_setReg_self : (s.setReg r i v).reg r i = v := by simp [reg_setReg]

theorem reg_setReg_ne (h : r' ≠ r) : (s.setReg r i v).reg r' i' = s.reg r' i' := by simp [reg_setReg, h]

theorem cnt_setCnt {c c' : Ctr} {v : W64} :
    (s.setCnt c i v).cnt c' i' = if c' = c ∧ i' = i then v else s.cnt c' i' := by
  simp only [cnt, setCnt, SMap.get_set]
  by_cases h : c' = c ∧ i' = i
  · simp [h]
  · have : c'.key i' ≠ c.key i := fun e => h (Ctr.key_inj e)
    simp [h, this]

@[simp] theorem cnt_setCnt_self {c : Ctr} {v : W64} : (s.setCnt c i v).cnt c i = v := by simp [cnt_setCnt]

/-- The register that a field write leaves. -/
theorem reg_setF {x : Fld} {n : Nat} (hx : x.lo + x.len ≤ 32) :
    ((s.setF x i n).reg x.reg i).toNat = putBits (s.reg x.reg i).toNat x.lo x.len n := by
  rw [setF, reg_setReg_self, BitVec.toNat_ofNat, Nat.mod_eq_of_lt (putBits_lt (s.reg x.reg i).isLt hx)]

theorem reg_setF_ne {x : Fld} {n : Nat} (h : ¬(r' = x.reg ∧ i' = i)) : (s.setF x i n).reg r' i' = s.reg r' i' := by
  rw [setF, reg_setReg]; simp [h]

/-- The field just written. -/
theorem f_setF {x : Fld} {n : Nat} (hx : x.lo + x.len ≤ 32) : (s.setF x i n).f x i = n % 2 ^ x.len := by
  rw [f, reg_setF hx, bitsOf_putBits]

/-- Another field, of another register, of another copy, or beside the one written. -/
theorem f_setF_ne {x y : Fld} {n : Nat} (hx : x.lo + x.len ≤ 32)
    (h : y.reg ≠ x.reg ∨ i' ≠ i ∨ y.lo + y.len ≤ x.lo ∨ x.lo + x.len ≤ y.lo) : (s.setF x i n).f y i' = s.f y i' := by
  by_cases hr : y.reg = x.reg ∧ i' = i
  · obtain ⟨h1, rfl⟩ := hr
    have hd : y.lo + y.len ≤ x.lo ∨ x.lo + x.len ≤ y.lo := by simpa [h1] using h
    simp only [f, h1]
    rw [reg_setF hx, bitsOf_putBits_disjoint hd]
  · rw [f, reg_setF_ne hr, f]

theorem f_setReg_ne {x : Fld} (h : ¬(x.reg = r ∧ i' = i)) : (s.setReg r i v).f x i' = s.f x i' := by
  rw [f, reg_setReg]; simp [h, f]

/-- An event bit raised. -/
theorem fb_raise {x : Fld} (hx : x.lo + 1 ≤ 32) (h1 : x.len = 1) : (s.raise x i).fb x i = true := by
  rw [fb, raise, f_setF (by rw [h1]; exact hx), h1]; rfl

/-- A counter counts by one and stops at all ones (R164). -/
theorem cnt_inc {c : Ctr} : (s.inc c i).cnt c i = BitVec.ofNat 64 (satAdd 64 (s.cnt c i).toNat 1) := by
  simp [inc, addCnt]

end State

end Sys2Proof.Machine
end

