-- ==== Sys2Proof/Laws/State.lean ====
section
/-! SUPPORT. Each named update of the state leaves every other field as it was. -/

namespace Sys2Proof.Machine.State

section
variable (s : State) (r : Reg) (i : Nat) (v : Word)
@[simp] theorem setReg_pending : (s.setReg r i v).pending = s.pending := rfl
@[simp] theorem setReg_cnts : (s.setReg r i v).cnts = s.cnts := rfl
@[simp] theorem setReg_rtc : (s.setReg r i v).rtc = s.rtc := rfl
@[simp] theorem setReg_shadow : (s.setReg r i v).shadow = s.shadow := rfl
@[simp] theorem setReg_resp : (s.setReg r i v).resp = s.resp := rfl
@[simp] theorem setReg_xarb : (s.setReg r i v).xarb = s.xarb := rfl
@[simp] theorem setReg_variant : (s.setReg r i v).variant = s.variant := rfl
@[simp] theorem setReg_slices : (s.setReg r i v).slices = s.slices := rfl
@[simp] theorem setReg_pllRun : (s.setReg r i v).pllRun = s.pllRun := rfl
@[simp] theorem setReg_ports : (s.setReg r i v).ports = s.ports := rfl
@[simp] theorem setReg_chans : (s.setReg r i v).chans = s.chans := rfl
@[simp] theorem setReg_links : (s.setReg r i v).links = s.links := rfl
@[simp] theorem setReg_msgId : (s.setReg r i v).msgId = s.msgId := rfl
@[simp] theorem setReg_cntPend : (s.setReg r i v).cntPend = s.cntPend := rfl
@[simp] theorem setReg_rams : (s.setReg r i v).rams = s.rams := rfl
@[simp] theorem setReg_errs : (s.setReg r i v).errs = s.errs := rfl
@[simp] theorem setReg_valid : (s.setReg r i v).valid = s.valid := rfl
@[simp] theorem setReg_memCtl : (s.setReg r i v).memCtl = s.memCtl := rfl
@[simp] theorem setReg_sheaf : (s.setReg r i v).sheaf = s.sheaf := rfl
@[simp] theorem setReg_keys : (s.setReg r i v).keys = s.keys := rfl
@[simp] theorem setReg_sessions : (s.setReg r i v).sessions = s.sessions := rfl
@[simp] theorem setReg_kept : (s.setReg r i v).kept = s.kept := rfl
@[simp] theorem setReg_silo : (s.setReg r i v).silo = s.silo := rfl
@[simp] theorem setReg_shf : (s.setReg r i v).shf = s.shf := rfl
@[simp] theorem setReg_staged : (s.setReg r i v).staged = s.staged := rfl
@[simp] theorem setReg_codeHigh : (s.setReg r i v).codeHigh = s.codeHigh := rfl
@[simp] theorem setReg_loaded : (s.setReg r i v).loaded = s.loaded := rfl
@[simp] theorem setReg_engs : (s.setReg r i v).engs = s.engs := rfl
@[simp] theorem setReg_pwr : (s.setReg r i v).pwr = s.pwr := rfl
@[simp] theorem setReg_dma : (s.setReg r i v).dma = s.dma := rfl
@[simp] theorem setReg_hlth : (s.setReg r i v).hlth = s.hlth := rfl
@[simp] theorem setReg_tod : (s.setReg r i v).tod = s.tod := rfl
@[simp] theorem setReg_dbg : (s.setReg r i v).dbg = s.dbg := rfl
@[simp] theorem setReg_evc : (s.setReg r i v).evc = s.evc := rfl
@[simp] theorem setReg_fab : (s.setReg r i v).fab = s.fab := rfl
@[simp] theorem setReg_twin : (s.setReg r i v).twin = s.twin := rfl
@[simp] theorem setReg_out : (s.setReg r i v).out = s.out := rfl
@[simp] theorem setReg_freeCtr : (s.setReg r i v).freeCtr = s.freeCtr := rfl
@[simp] theorem setReg_pcie : (s.setReg r i v).pcie = s.pcie := rfl
@[simp] theorem setReg_ctxBlank : (s.setReg r i v).ctxBlank = s.ctxBlank := rfl
@[simp] theorem setReg_lost : (s.setReg r i v).lost = s.lost := rfl
@[simp] theorem setReg_keyWait : (s.setReg r i v).keyWait = s.keyWait := rfl
end

section
variable (s : State) (x : Fld) (i n : Nat)
@[simp] theorem setF_pending : (s.setF x i n).pending = s.pending := rfl
@[simp] theorem setF_cnts : (s.setF x i n).cnts = s.cnts := rfl
@[simp] theorem setF_rtc : (s.setF x i n).rtc = s.rtc := rfl
@[simp] theorem setF_shadow : (s.setF x i n).shadow = s.shadow := rfl
@[simp] theorem setF_resp : (s.setF x i n).resp = s.resp := rfl
@[simp] theorem setF_xarb : (s.setF x i n).xarb = s.xarb := rfl
@[simp] theorem setF_variant : (s.setF x i n).variant = s.variant := rfl
@[simp] theorem setF_slices : (s.setF x i n).slices = s.slices := rfl
@[simp] theorem setF_pllRun : (s.setF x i n).pllRun = s.pllRun := rfl
@[simp] theorem setF_ports : (s.setF x i n).ports = s.ports := rfl
@[simp] theorem setF_chans : (s.setF x i n).chans = s.chans := rfl
@[simp] theorem setF_links : (s.setF x i n).links = s.links := rfl
@[simp] theorem setF_msgId : (s.setF x i n).msgId = s.msgId := rfl
@[simp] theorem setF_cntPend : (s.setF x i n).cntPend = s.cntPend := rfl
@[simp] theorem setF_rams : (s.setF x i n).rams = s.rams := rfl
@[simp] theorem setF_errs : (s.setF x i n).errs = s.errs := rfl
@[simp] theorem setF_valid : (s.setF x i n).valid = s.valid := rfl
@[simp] theorem setF_memCtl : (s.setF x i n).memCtl = s.memCtl := rfl
@[simp] theorem setF_sheaf : (s.setF x i n).sheaf = s.sheaf := rfl
@[simp] theorem setF_keys : (s.setF x i n).keys = s.keys := rfl
@[simp] theorem setF_sessions : (s.setF x i n).sessions = s.sessions := rfl
@[simp] theorem setF_kept : (s.setF x i n).kept = s.kept := rfl
@[simp] theorem setF_silo : (s.setF x i n).silo = s.silo := rfl
@[simp] theorem setF_shf : (s.setF x i n).shf = s.shf := rfl
@[simp] theorem setF_staged : (s.setF x i n).staged = s.staged := rfl
@[simp] theorem setF_codeHigh : (s.setF x i n).codeHigh = s.codeHigh := rfl
@[simp] theorem setF_loaded : (s.setF x i n).loaded = s.loaded := rfl
@[simp] theorem setF_engs : (s.setF x i n).engs = s.engs := rfl
@[simp] theorem setF_pwr : (s.setF x i n).pwr = s.pwr := rfl
@[simp] theorem setF_dma : (s.setF x i n).dma = s.dma := rfl
@[simp] theorem setF_hlth : (s.setF x i n).hlth = s.hlth := rfl
@[simp] theorem setF_tod : (s.setF x i n).tod = s.tod := rfl
@[simp] theorem setF_dbg : (s.setF x i n).dbg = s.dbg := rfl
@[simp] theorem setF_evc : (s.setF x i n).evc = s.evc := rfl
@[simp] theorem setF_fab : (s.setF x i n).fab = s.fab := rfl
@[simp] theorem setF_twin : (s.setF x i n).twin = s.twin := rfl
@[simp] theorem setF_out : (s.setF x i n).out = s.out := rfl
@[simp] theorem setF_freeCtr : (s.setF x i n).freeCtr = s.freeCtr := rfl
@[simp] theorem setF_pcie : (s.setF x i n).pcie = s.pcie := rfl
@[simp] theorem setF_ctxBlank : (s.setF x i n).ctxBlank = s.ctxBlank := rfl
@[simp] theorem setF_lost : (s.setF x i n).lost = s.lost := rfl
@[simp] theorem setF_keyWait : (s.setF x i n).keyWait = s.keyWait := rfl
end

section
variable (s : State) (x : Fld) (i : Nat) (b : Bool)
@[simp] theorem setB_pending : (s.setB x i b).pending = s.pending := rfl
@[simp] theorem setB_cnts : (s.setB x i b).cnts = s.cnts := rfl
@[simp] theorem setB_rtc : (s.setB x i b).rtc = s.rtc := rfl
@[simp] theorem setB_shadow : (s.setB x i b).shadow = s.shadow := rfl
@[simp] theorem setB_resp : (s.setB x i b).resp = s.resp := rfl
@[simp] theorem setB_xarb : (s.setB x i b).xarb = s.xarb := rfl
@[simp] theorem setB_variant : (s.setB x i b).variant = s.variant := rfl
@[simp] theorem setB_slices : (s.setB x i b).slices = s.slices := rfl
@[simp] theorem setB_pllRun : (s.setB x i b).pllRun = s.pllRun := rfl
@[simp] theorem setB_ports : (s.setB x i b).ports = s.ports := rfl
@[simp] theorem setB_chans : (s.setB x i b).chans = s.chans := rfl
@[simp] theorem setB_links : (s.setB x i b).links = s.links := rfl
@[simp] theorem setB_msgId : (s.setB x i b).msgId = s.msgId := rfl
@[simp] theorem setB_cntPend : (s.setB x i b).cntPend = s.cntPend := rfl
@[simp] theorem setB_rams : (s.setB x i b).rams = s.rams := rfl
@[simp] theorem setB_errs : (s.setB x i b).errs = s.errs := rfl
@[simp] theorem setB_valid : (s.setB x i b).valid = s.valid := rfl
@[simp] theorem setB_memCtl : (s.setB x i b).memCtl = s.memCtl := rfl
@[simp] theorem setB_sheaf : (s.setB x i b).sheaf = s.sheaf := rfl
@[simp] theorem setB_keys : (s.setB x i b).keys = s.keys := rfl
@[simp] theorem setB_sessions : (s.setB x i b).sessions = s.sessions := rfl
@[simp] theorem setB_kept : (s.setB x i b).kept = s.kept := rfl
@[simp] theorem setB_silo : (s.setB x i b).silo = s.silo := rfl
@[simp] theorem setB_shf : (s.setB x i b).shf = s.shf := rfl
@[simp] theorem setB_staged : (s.setB x i b).staged = s.staged := rfl
@[simp] theorem setB_codeHigh : (s.setB x i b).codeHigh = s.codeHigh := rfl
@[simp] theorem setB_loaded : (s.setB x i b).loaded = s.loaded := rfl
@[simp] theorem setB_engs : (s.setB x i b).engs = s.engs := rfl
@[simp] theorem setB_pwr : (s.setB x i b).pwr = s.pwr := rfl
@[simp] theorem setB_dma : (s.setB x i b).dma = s.dma := rfl
@[simp] theorem setB_hlth : (s.setB x i b).hlth = s.hlth := rfl
@[simp] theorem setB_tod : (s.setB x i b).tod = s.tod := rfl
@[simp] theorem setB_dbg : (s.setB x i b).dbg = s.dbg := rfl
@[simp] theorem setB_evc : (s.setB x i b).evc = s.evc := rfl
@[simp] theorem setB_fab : (s.setB x i b).fab = s.fab := rfl
@[simp] theorem setB_twin : (s.setB x i b).twin = s.twin := rfl
@[simp] theorem setB_out : (s.setB x i b).out = s.out := rfl
@[simp] theorem setB_freeCtr : (s.setB x i b).freeCtr = s.freeCtr := rfl
@[simp] theorem setB_pcie : (s.setB x i b).pcie = s.pcie := rfl
@[simp] theorem setB_ctxBlank : (s.setB x i b).ctxBlank = s.ctxBlank := rfl
@[simp] theorem setB_lost : (s.setB x i b).lost = s.lost := rfl
@[simp] theorem setB_keyWait : (s.setB x i b).keyWait = s.keyWait := rfl
end

section
variable (s : State) (x : Fld) (i : Nat)
@[simp] theorem raise_pending : (s.raise x i).pending = s.pending := rfl
@[simp] theorem raise_cnts : (s.raise x i).cnts = s.cnts := rfl
@[simp] theorem raise_rtc : (s.raise x i).rtc = s.rtc := rfl
@[simp] theorem raise_shadow : (s.raise x i).shadow = s.shadow := rfl
@[simp] theorem raise_resp : (s.raise x i).resp = s.resp := rfl
@[simp] theorem raise_xarb : (s.raise x i).xarb = s.xarb := rfl
@[simp] theorem raise_variant : (s.raise x i).variant = s.variant := rfl
@[simp] theorem raise_slices : (s.raise x i).slices = s.slices := rfl
@[simp] theorem raise_pllRun : (s.raise x i).pllRun = s.pllRun := rfl
@[simp] theorem raise_ports : (s.raise x i).ports = s.ports := rfl
@[simp] theorem raise_chans : (s.raise x i).chans = s.chans := rfl
@[simp] theorem raise_links : (s.raise x i).links = s.links := rfl
@[simp] theorem raise_msgId : (s.raise x i).msgId = s.msgId := rfl
@[simp] theorem raise_cntPend : (s.raise x i).cntPend = s.cntPend := rfl
@[simp] theorem raise_rams : (s.raise x i).rams = s.rams := rfl
@[simp] theorem raise_errs : (s.raise x i).errs = s.errs := rfl
@[simp] theorem raise_valid : (s.raise x i).valid = s.valid := rfl
@[simp] theorem raise_memCtl : (s.raise x i).memCtl = s.memCtl := rfl
@[simp] theorem raise_sheaf : (s.raise x i).sheaf = s.sheaf := rfl
@[simp] theorem raise_keys : (s.raise x i).keys = s.keys := rfl
@[simp] theorem raise_sessions : (s.raise x i).sessions = s.sessions := rfl
@[simp] theorem raise_kept : (s.raise x i).kept = s.kept := rfl
@[simp] theorem raise_silo : (s.raise x i).silo = s.silo := rfl
@[simp] theorem raise_shf : (s.raise x i).shf = s.shf := rfl
@[simp] theorem raise_staged : (s.raise x i).staged = s.staged := rfl
@[simp] theorem raise_codeHigh : (s.raise x i).codeHigh = s.codeHigh := rfl
@[simp] theorem raise_loaded : (s.raise x i).loaded = s.loaded := rfl
@[simp] theorem raise_engs : (s.raise x i).engs = s.engs := rfl
@[simp] theorem raise_pwr : (s.raise x i).pwr = s.pwr := rfl
@[simp] theorem raise_dma : (s.raise x i).dma = s.dma := rfl
@[simp] theorem raise_hlth : (s.raise x i).hlth = s.hlth := rfl
@[simp] theorem raise_tod : (s.raise x i).tod = s.tod := rfl
@[simp] theorem raise_dbg : (s.raise x i).dbg = s.dbg := rfl
@[simp] theorem raise_evc : (s.raise x i).evc = s.evc := rfl
@[simp] theorem raise_fab : (s.raise x i).fab = s.fab := rfl
@[simp] theorem raise_twin : (s.raise x i).twin = s.twin := rfl
@[simp] theorem raise_out : (s.raise x i).out = s.out := rfl
@[simp] theorem raise_freeCtr : (s.raise x i).freeCtr = s.freeCtr := rfl
@[simp] theorem raise_pcie : (s.raise x i).pcie = s.pcie := rfl
@[simp] theorem raise_ctxBlank : (s.raise x i).ctxBlank = s.ctxBlank := rfl
@[simp] theorem raise_lost : (s.raise x i).lost = s.lost := rfl
@[simp] theorem raise_keyWait : (s.raise x i).keyWait = s.keyWait := rfl
end

section
variable (s : State) (c : Ctr) (i : Nat) (v : W64)
@[simp] theorem setCnt_pending : (s.setCnt c i v).pending = s.pending := rfl
@[simp] theorem setCnt_regs : (s.setCnt c i v).regs = s.regs := rfl
@[simp] theorem setCnt_rtc : (s.setCnt c i v).rtc = s.rtc := rfl
@[simp] theorem setCnt_shadow : (s.setCnt c i v).shadow = s.shadow := rfl
@[simp] theorem setCnt_resp : (s.setCnt c i v).resp = s.resp := rfl
@[simp] theorem setCnt_xarb : (s.setCnt c i v).xarb = s.xarb := rfl
@[simp] theorem setCnt_variant : (s.setCnt c i v).variant = s.variant := rfl
@[simp] theorem setCnt_slices : (s.setCnt c i v).slices = s.slices := rfl
@[simp] theorem setCnt_pllRun : (s.setCnt c i v).pllRun = s.pllRun := rfl
@[simp] theorem setCnt_ports : (s.setCnt c i v).ports = s.ports := rfl
@[simp] theorem setCnt_chans : (s.setCnt c i v).chans = s.chans := rfl
@[simp] theorem setCnt_links : (s.setCnt c i v).links = s.links := rfl
@[simp] theorem setCnt_msgId : (s.setCnt c i v).msgId = s.msgId := rfl
@[simp] theorem setCnt_cntPend : (s.setCnt c i v).cntPend = s.cntPend := rfl
@[simp] theorem setCnt_rams : (s.setCnt c i v).rams = s.rams := rfl
@[simp] theorem setCnt_errs : (s.setCnt c i v).errs = s.errs := rfl
@[simp] theorem setCnt_valid : (s.setCnt c i v).valid = s.valid := rfl
@[simp] theorem setCnt_memCtl : (s.setCnt c i v).memCtl = s.memCtl := rfl
@[simp] theorem setCnt_sheaf : (s.setCnt c i v).sheaf = s.sheaf := rfl
@[simp] theorem setCnt_keys : (s.setCnt c i v).keys = s.keys := rfl
@[simp] theorem setCnt_sessions : (s.setCnt c i v).sessions = s.sessions := rfl
@[simp] theorem setCnt_kept : (s.setCnt c i v).kept = s.kept := rfl
@[simp] theorem setCnt_silo : (s.setCnt c i v).silo = s.silo := rfl
@[simp] theorem setCnt_shf : (s.setCnt c i v).shf = s.shf := rfl
@[simp] theorem setCnt_staged : (s.setCnt c i v).staged = s.staged := rfl
@[simp] theorem setCnt_codeHigh : (s.setCnt c i v).codeHigh = s.codeHigh := rfl
@[simp] theorem setCnt_loaded : (s.setCnt c i v).loaded = s.loaded := rfl
@[simp] theorem setCnt_engs : (s.setCnt c i v).engs = s.engs := rfl
@[simp] theorem setCnt_pwr : (s.setCnt c i v).pwr = s.pwr := rfl
@[simp] theorem setCnt_dma : (s.setCnt c i v).dma = s.dma := rfl
@[simp] theorem setCnt_hlth : (s.setCnt c i v).hlth = s.hlth := rfl
@[simp] theorem setCnt_tod : (s.setCnt c i v).tod = s.tod := rfl
@[simp] theorem setCnt_dbg : (s.setCnt c i v).dbg = s.dbg := rfl
@[simp] theorem setCnt_evc : (s.setCnt c i v).evc = s.evc := rfl
@[simp] theorem setCnt_fab : (s.setCnt c i v).fab = s.fab := rfl
@[simp] theorem setCnt_twin : (s.setCnt c i v).twin = s.twin := rfl
@[simp] theorem setCnt_out : (s.setCnt c i v).out = s.out := rfl
@[simp] theorem setCnt_freeCtr : (s.setCnt c i v).freeCtr = s.freeCtr := rfl
@[simp] theorem setCnt_pcie : (s.setCnt c i v).pcie = s.pcie := rfl
@[simp] theorem setCnt_ctxBlank : (s.setCnt c i v).ctxBlank = s.ctxBlank := rfl
@[simp] theorem setCnt_lost : (s.setCnt c i v).lost = s.lost := rfl
@[simp] theorem setCnt_keyWait : (s.setCnt c i v).keyWait = s.keyWait := rfl
end

section
variable (s : State) (c : Ctr) (i n : Nat)
@[simp] theorem addCnt_pending : (s.addCnt c i n).pending = s.pending := rfl
@[simp] theorem addCnt_regs : (s.addCnt c i n).regs = s.regs := rfl
@[simp] theorem addCnt_rtc : (s.addCnt c i n).rtc = s.rtc := rfl
@[simp] theorem addCnt_shadow : (s.addCnt c i n).shadow = s.shadow := rfl
@[simp] theorem addCnt_resp : (s.addCnt c i n).resp = s.resp := rfl
@[simp] theorem addCnt_xarb : (s.addCnt c i n).xarb = s.xarb := rfl
@[simp] theorem addCnt_variant : (s.addCnt c i n).variant = s.variant := rfl
@[simp] theorem addCnt_slices : (s.addCnt c i n).slices = s.slices := rfl
@[simp] theorem addCnt_pllRun : (s.addCnt c i n).pllRun = s.pllRun := rfl
@[simp] theorem addCnt_ports : (s.addCnt c i n).ports = s.ports := rfl
@[simp] theorem addCnt_chans : (s.addCnt c i n).chans = s.chans := rfl
@[simp] theorem addCnt_links : (s.addCnt c i n).links = s.links := rfl
@[simp] theorem addCnt_msgId : (s.addCnt c i n).msgId = s.msgId := rfl
@[simp] theorem addCnt_cntPend : (s.addCnt c i n).cntPend = s.cntPend := rfl
@[simp] theorem addCnt_rams : (s.addCnt c i n).rams = s.rams := rfl
@[simp] theorem addCnt_errs : (s.addCnt c i n).errs = s.errs := rfl
@[simp] theorem addCnt_valid : (s.addCnt c i n).valid = s.valid := rfl
@[simp] theorem addCnt_memCtl : (s.addCnt c i n).memCtl = s.memCtl := rfl
@[simp] theorem addCnt_sheaf : (s.addCnt c i n).sheaf = s.sheaf := rfl
@[simp] theorem addCnt_keys : (s.addCnt c i n).keys = s.keys := rfl
@[simp] theorem addCnt_sessions : (s.addCnt c i n).sessions = s.sessions := rfl
@[simp] theorem addCnt_kept : (s.addCnt c i n).kept = s.kept := rfl
@[simp] theorem addCnt_silo : (s.addCnt c i n).silo = s.silo := rfl
@[simp] theorem addCnt_shf : (s.addCnt c i n).shf = s.shf := rfl
@[simp] theorem addCnt_staged : (s.addCnt c i n).staged = s.staged := rfl
@[simp] theorem addCnt_codeHigh : (s.addCnt c i n).codeHigh = s.codeHigh := rfl
@[simp] theorem addCnt_loaded : (s.addCnt c i n).loaded = s.loaded := rfl
@[simp] theorem addCnt_engs : (s.addCnt c i n).engs = s.engs := rfl
@[simp] theorem addCnt_pwr : (s.addCnt c i n).pwr = s.pwr := rfl
@[simp] theorem addCnt_dma : (s.addCnt c i n).dma = s.dma := rfl
@[simp] theorem addCnt_hlth : (s.addCnt c i n).hlth = s.hlth := rfl
@[simp] theorem addCnt_tod : (s.addCnt c i n).tod = s.tod := rfl
@[simp] theorem addCnt_dbg : (s.addCnt c i n).dbg = s.dbg := rfl
@[simp] theorem addCnt_evc : (s.addCnt c i n).evc = s.evc := rfl
@[simp] theorem addCnt_fab : (s.addCnt c i n).fab = s.fab := rfl
@[simp] theorem addCnt_twin : (s.addCnt c i n).twin = s.twin := rfl
@[simp] theorem addCnt_out : (s.addCnt c i n).out = s.out := rfl
@[simp] theorem addCnt_freeCtr : (s.addCnt c i n).freeCtr = s.freeCtr := rfl
@[simp] theorem addCnt_pcie : (s.addCnt c i n).pcie = s.pcie := rfl
@[simp] theorem addCnt_ctxBlank : (s.addCnt c i n).ctxBlank = s.ctxBlank := rfl
@[simp] theorem addCnt_lost : (s.addCnt c i n).lost = s.lost := rfl
@[simp] theorem addCnt_keyWait : (s.addCnt c i n).keyWait = s.keyWait := rfl
end

section
variable (s : State) (c : Ctr) (i : Nat)
@[simp] theorem inc_pending : (s.inc c i).pending = s.pending := rfl
@[simp] theorem inc_regs : (s.inc c i).regs = s.regs := rfl
@[simp] theorem inc_rtc : (s.inc c i).rtc = s.rtc := rfl
@[simp] theorem inc_shadow : (s.inc c i).shadow = s.shadow := rfl
@[simp] theorem inc_resp : (s.inc c i).resp = s.resp := rfl
@[simp] theorem inc_xarb : (s.inc c i).xarb = s.xarb := rfl
@[simp] theorem inc_variant : (s.inc c i).variant = s.variant := rfl
@[simp] theorem inc_slices : (s.inc c i).slices = s.slices := rfl
@[simp] theorem inc_pllRun : (s.inc c i).pllRun = s.pllRun := rfl
@[simp] theorem inc_ports : (s.inc c i).ports = s.ports := rfl
@[simp] theorem inc_chans : (s.inc c i).chans = s.chans := rfl
@[simp] theorem inc_links : (s.inc c i).links = s.links := rfl
@[simp] theorem inc_msgId : (s.inc c i).msgId = s.msgId := rfl
@[simp] theorem inc_cntPend : (s.inc c i).cntPend = s.cntPend := rfl
@[simp] theorem inc_rams : (s.inc c i).rams = s.rams := rfl
@[simp] theorem inc_errs : (s.inc c i).errs = s.errs := rfl
@[simp] theorem inc_valid : (s.inc c i).valid = s.valid := rfl
@[simp] theorem inc_memCtl : (s.inc c i).memCtl = s.memCtl := rfl
@[simp] theorem inc_sheaf : (s.inc c i).sheaf = s.sheaf := rfl
@[simp] theorem inc_keys : (s.inc c i).keys = s.keys := rfl
@[simp] theorem inc_sessions : (s.inc c i).sessions = s.sessions := rfl
@[simp] theorem inc_kept : (s.inc c i).kept = s.kept := rfl
@[simp] theorem inc_silo : (s.inc c i).silo = s.silo := rfl
@[simp] theorem inc_shf : (s.inc c i).shf = s.shf := rfl
@[simp] theorem inc_staged : (s.inc c i).staged = s.staged := rfl
@[simp] theorem inc_codeHigh : (s.inc c i).codeHigh = s.codeHigh := rfl
@[simp] theorem inc_loaded : (s.inc c i).loaded = s.loaded := rfl
@[simp] theorem inc_engs : (s.inc c i).engs = s.engs := rfl
@[simp] theorem inc_pwr : (s.inc c i).pwr = s.pwr := rfl
@[simp] theorem inc_dma : (s.inc c i).dma = s.dma := rfl
@[simp] theorem inc_hlth : (s.inc c i).hlth = s.hlth := rfl
@[simp] theorem inc_tod : (s.inc c i).tod = s.tod := rfl
@[simp] theorem inc_dbg : (s.inc c i).dbg = s.dbg := rfl
@[simp] theorem inc_evc : (s.inc c i).evc = s.evc := rfl
@[simp] theorem inc_fab : (s.inc c i).fab = s.fab := rfl
@[simp] theorem inc_twin : (s.inc c i).twin = s.twin := rfl
@[simp] theorem inc_out : (s.inc c i).out = s.out := rfl
@[simp] theorem inc_freeCtr : (s.inc c i).freeCtr = s.freeCtr := rfl
@[simp] theorem inc_pcie : (s.inc c i).pcie = s.pcie := rfl
@[simp] theorem inc_ctxBlank : (s.inc c i).ctxBlank = s.ctxBlank := rfl
@[simp] theorem inc_lost : (s.inc c i).lost = s.lost := rfl
@[simp] theorem inc_keyWait : (s.inc c i).keyWait = s.keyWait := rfl
end

section
variable (s : State) (o : Out)
@[simp] theorem emit_pending : (s.emit o).pending = s.pending := rfl
@[simp] theorem emit_regs : (s.emit o).regs = s.regs := rfl
@[simp] theorem emit_cnts : (s.emit o).cnts = s.cnts := rfl
@[simp] theorem emit_rtc : (s.emit o).rtc = s.rtc := rfl
@[simp] theorem emit_shadow : (s.emit o).shadow = s.shadow := rfl
@[simp] theorem emit_resp : (s.emit o).resp = s.resp := rfl
@[simp] theorem emit_xarb : (s.emit o).xarb = s.xarb := rfl
@[simp] theorem emit_variant : (s.emit o).variant = s.variant := rfl
@[simp] theorem emit_slices : (s.emit o).slices = s.slices := rfl
@[simp] theorem emit_pllRun : (s.emit o).pllRun = s.pllRun := rfl
@[simp] theorem emit_ports : (s.emit o).ports = s.ports := rfl
@[simp] theorem emit_chans : (s.emit o).chans = s.chans := rfl
@[simp] theorem emit_links : (s.emit o).links = s.links := rfl
@[simp] theorem emit_msgId : (s.emit o).msgId = s.msgId := rfl
@[simp] theorem emit_cntPend : (s.emit o).cntPend = s.cntPend := rfl
@[simp] theorem emit_rams : (s.emit o).rams = s.rams := rfl
@[simp] theorem emit_errs : (s.emit o).errs = s.errs := rfl
@[simp] theorem emit_valid : (s.emit o).valid = s.valid := rfl
@[simp] theorem emit_memCtl : (s.emit o).memCtl = s.memCtl := rfl
@[simp] theorem emit_sheaf : (s.emit o).sheaf = s.sheaf := rfl
@[simp] theorem emit_keys : (s.emit o).keys = s.keys := rfl
@[simp] theorem emit_sessions : (s.emit o).sessions = s.sessions := rfl
@[simp] theorem emit_kept : (s.emit o).kept = s.kept := rfl
@[simp] theorem emit_silo : (s.emit o).silo = s.silo := rfl
@[simp] theorem emit_shf : (s.emit o).shf = s.shf := rfl
@[simp] theorem emit_staged : (s.emit o).staged = s.staged := rfl
@[simp] theorem emit_codeHigh : (s.emit o).codeHigh = s.codeHigh := rfl
@[simp] theorem emit_loaded : (s.emit o).loaded = s.loaded := rfl
@[simp] theorem emit_engs : (s.emit o).engs = s.engs := rfl
@[simp] theorem emit_pwr : (s.emit o).pwr = s.pwr := rfl
@[simp] theorem emit_dma : (s.emit o).dma = s.dma := rfl
@[simp] theorem emit_hlth : (s.emit o).hlth = s.hlth := rfl
@[simp] theorem emit_tod : (s.emit o).tod = s.tod := rfl
@[simp] theorem emit_dbg : (s.emit o).dbg = s.dbg := rfl
@[simp] theorem emit_evc : (s.emit o).evc = s.evc := rfl
@[simp] theorem emit_fab : (s.emit o).fab = s.fab := rfl
@[simp] theorem emit_twin : (s.emit o).twin = s.twin := rfl
@[simp] theorem emit_freeCtr : (s.emit o).freeCtr = s.freeCtr := rfl
@[simp] theorem emit_pcie : (s.emit o).pcie = s.pcie := rfl
@[simp] theorem emit_ctxBlank : (s.emit o).ctxBlank = s.ctxBlank := rfl
@[simp] theorem emit_lost : (s.emit o).lost = s.lost := rfl
@[simp] theorem emit_keyWait : (s.emit o).keyWait = s.keyWait := rfl
end

section
variable (s : State) (m : Nat) (v : Word)
@[simp] theorem setShadow_pending : (s.setShadow m v).pending = s.pending := rfl
@[simp] theorem setShadow_regs : (s.setShadow m v).regs = s.regs := rfl
@[simp] theorem setShadow_cnts : (s.setShadow m v).cnts = s.cnts := rfl
@[simp] theorem setShadow_rtc : (s.setShadow m v).rtc = s.rtc := rfl
@[simp] theorem setShadow_resp : (s.setShadow m v).resp = s.resp := rfl
@[simp] theorem setShadow_xarb : (s.setShadow m v).xarb = s.xarb := rfl
@[simp] theorem setShadow_variant : (s.setShadow m v).variant = s.variant := rfl
@[simp] theorem setShadow_slices : (s.setShadow m v).slices = s.slices := rfl
@[simp] theorem setShadow_pllRun : (s.setShadow m v).pllRun = s.pllRun := rfl
@[simp] theorem setShadow_ports : (s.setShadow m v).ports = s.ports := rfl
@[simp] theorem setShadow_chans : (s.setShadow m v).chans = s.chans := rfl
@[simp] theorem setShadow_links : (s.setShadow m v).links = s.links := rfl
@[simp] theorem setShadow_msgId : (s.setShadow m v).msgId = s.msgId := rfl
@[simp] theorem setShadow_cntPend : (s.setShadow m v).cntPend = s.cntPend := rfl
@[simp] theorem setShadow_rams : (s.setShadow m v).rams = s.rams := rfl
@[simp] theorem setShadow_errs : (s.setShadow m v).errs = s.errs := rfl
@[simp] theorem setShadow_valid : (s.setShadow m v).valid = s.valid := rfl
@[simp] theorem setShadow_memCtl : (s.setShadow m v).memCtl = s.memCtl := rfl
@[simp] theorem setShadow_sheaf : (s.setShadow m v).sheaf = s.sheaf := rfl
@[simp] theorem setShadow_keys : (s.setShadow m v).keys = s.keys := rfl
@[simp] theorem setShadow_sessions : (s.setShadow m v).sessions = s.sessions := rfl
@[simp] theorem setShadow_kept : (s.setShadow m v).kept = s.kept := rfl
@[simp] theorem setShadow_silo : (s.setShadow m v).silo = s.silo := rfl
@[simp] theorem setShadow_shf : (s.setShadow m v).shf = s.shf := rfl
@[simp] theorem setShadow_staged : (s.setShadow m v).staged = s.staged := rfl
@[simp] theorem setShadow_codeHigh : (s.setShadow m v).codeHigh = s.codeHigh := rfl
@[simp] theorem setShadow_loaded : (s.setShadow m v).loaded = s.loaded := rfl
@[simp] theorem setShadow_engs : (s.setShadow m v).engs = s.engs := rfl
@[simp] theorem setShadow_pwr : (s.setShadow m v).pwr = s.pwr := rfl
@[simp] theorem setShadow_dma : (s.setShadow m v).dma = s.dma := rfl
@[simp] theorem setShadow_hlth : (s.setShadow m v).hlth = s.hlth := rfl
@[simp] theorem setShadow_tod : (s.setShadow m v).tod = s.tod := rfl
@[simp] theorem setShadow_dbg : (s.setShadow m v).dbg = s.dbg := rfl
@[simp] theorem setShadow_evc : (s.setShadow m v).evc = s.evc := rfl
@[simp] theorem setShadow_fab : (s.setShadow m v).fab = s.fab := rfl
@[simp] theorem setShadow_twin : (s.setShadow m v).twin = s.twin := rfl
@[simp] theorem setShadow_out : (s.setShadow m v).out = s.out := rfl
@[simp] theorem setShadow_freeCtr : (s.setShadow m v).freeCtr = s.freeCtr := rfl
@[simp] theorem setShadow_pcie : (s.setShadow m v).pcie = s.pcie := rfl
@[simp] theorem setShadow_ctxBlank : (s.setShadow m v).ctxBlank = s.ctxBlank := rfl
@[simp] theorem setShadow_lost : (s.setShadow m v).lost = s.lost := rfl
@[simp] theorem setShadow_keyWait : (s.setShadow m v).keyWait = s.keyWait := rfl
end

section
variable (s : State) (p : Nat) (v : PortSt)
@[simp] theorem setPort_pending : (s.setPort p v).pending = s.pending := rfl
@[simp] theorem setPort_regs : (s.setPort p v).regs = s.regs := rfl
@[simp] theorem setPort_cnts : (s.setPort p v).cnts = s.cnts := rfl
@[simp] theorem setPort_rtc : (s.setPort p v).rtc = s.rtc := rfl
@[simp] theorem setPort_shadow : (s.setPort p v).shadow = s.shadow := rfl
@[simp] theorem setPort_resp : (s.setPort p v).resp = s.resp := rfl
@[simp] theorem setPort_xarb : (s.setPort p v).xarb = s.xarb := rfl
@[simp] theorem setPort_variant : (s.setPort p v).variant = s.variant := rfl
@[simp] theorem setPort_slices : (s.setPort p v).slices = s.slices := rfl
@[simp] theorem setPort_pllRun : (s.setPort p v).pllRun = s.pllRun := rfl
@[simp] theorem setPort_chans : (s.setPort p v).chans = s.chans := rfl
@[simp] theorem setPort_links : (s.setPort p v).links = s.links := rfl
@[simp] theorem setPort_msgId : (s.setPort p v).msgId = s.msgId := rfl
@[simp] theorem setPort_cntPend : (s.setPort p v).cntPend = s.cntPend := rfl
@[simp] theorem setPort_rams : (s.setPort p v).rams = s.rams := rfl
@[simp] theorem setPort_errs : (s.setPort p v).errs = s.errs := rfl
@[simp] theorem setPort_valid : (s.setPort p v).valid = s.valid := rfl
@[simp] theorem setPort_memCtl : (s.setPort p v).memCtl = s.memCtl := rfl
@[simp] theorem setPort_sheaf : (s.setPort p v).sheaf = s.sheaf := rfl
@[simp] theorem setPort_keys : (s.setPort p v).keys = s.keys := rfl
@[simp] theorem setPort_sessions : (s.setPort p v).sessions = s.sessions := rfl
@[simp] theorem setPort_kept : (s.setPort p v).kept = s.kept := rfl
@[simp] theorem setPort_silo : (s.setPort p v).silo = s.silo := rfl
@[simp] theorem setPort_shf : (s.setPort p v).shf = s.shf := rfl
@[simp] theorem setPort_staged : (s.setPort p v).staged = s.staged := rfl
@[simp] theorem setPort_codeHigh : (s.setPort p v).codeHigh = s.codeHigh := rfl
@[simp] theorem setPort_loaded : (s.setPort p v).loaded = s.loaded := rfl
@[simp] theorem setPort_engs : (s.setPort p v).engs = s.engs := rfl
@[simp] theorem setPort_pwr : (s.setPort p v).pwr = s.pwr := rfl
@[simp] theorem setPort_dma : (s.setPort p v).dma = s.dma := rfl
@[simp] theorem setPort_hlth : (s.setPort p v).hlth = s.hlth := rfl
@[simp] theorem setPort_tod : (s.setPort p v).tod = s.tod := rfl
@[simp] theorem setPort_dbg : (s.setPort p v).dbg = s.dbg := rfl
@[simp] theorem setPort_evc : (s.setPort p v).evc = s.evc := rfl
@[simp] theorem setPort_fab : (s.setPort p v).fab = s.fab := rfl
@[simp] theorem setPort_twin : (s.setPort p v).twin = s.twin := rfl
@[simp] theorem setPort_out : (s.setPort p v).out = s.out := rfl
@[simp] theorem setPort_freeCtr : (s.setPort p v).freeCtr = s.freeCtr := rfl
@[simp] theorem setPort_pcie : (s.setPort p v).pcie = s.pcie := rfl
@[simp] theorem setPort_ctxBlank : (s.setPort p v).ctxBlank = s.ctxBlank := rfl
@[simp] theorem setPort_lost : (s.setPort p v).lost = s.lost := rfl
@[simp] theorem setPort_keyWait : (s.setPort p v).keyWait = s.keyWait := rfl
end

section
variable (s : State) (c : Nat) (v : Chan)
@[simp] theorem setChan_pending : (s.setChan c v).pending = s.pending := rfl
@[simp] theorem setChan_regs : (s.setChan c v).regs = s.regs := rfl
@[simp] theorem setChan_cnts : (s.setChan c v).cnts = s.cnts := rfl
@[simp] theorem setChan_rtc : (s.setChan c v).rtc = s.rtc := rfl
@[simp] theorem setChan_shadow : (s.setChan c v).shadow = s.shadow := rfl
@[simp] theorem setChan_resp : (s.setChan c v).resp = s.resp := rfl
@[simp] theorem setChan_xarb : (s.setChan c v).xarb = s.xarb := rfl
@[simp] theorem setChan_variant : (s.setChan c v).variant = s.variant := rfl
@[simp] theorem setChan_slices : (s.setChan c v).slices = s.slices := rfl
@[simp] theorem setChan_pllRun : (s.setChan c v).pllRun = s.pllRun := rfl
@[simp] theorem setChan_ports : (s.setChan c v).ports = s.ports := rfl
@[simp] theorem setChan_links : (s.setChan c v).links = s.links := rfl
@[simp] theorem setChan_msgId : (s.setChan c v).msgId = s.msgId := rfl
@[simp] theorem setChan_cntPend : (s.setChan c v).cntPend = s.cntPend := rfl
@[simp] theorem setChan_rams : (s.setChan c v).rams = s.rams := rfl
@[simp] theorem setChan_errs : (s.setChan c v).errs = s.errs := rfl
@[simp] theorem setChan_valid : (s.setChan c v).valid = s.valid := rfl
@[simp] theorem setChan_memCtl : (s.setChan c v).memCtl = s.memCtl := rfl
@[simp] theorem setChan_sheaf : (s.setChan c v).sheaf = s.sheaf := rfl
@[simp] theorem setChan_keys : (s.setChan c v).keys = s.keys := rfl
@[simp] theorem setChan_sessions : (s.setChan c v).sessions = s.sessions := rfl
@[simp] theorem setChan_kept : (s.setChan c v).kept = s.kept := rfl
@[simp] theorem setChan_silo : (s.setChan c v).silo = s.silo := rfl
@[simp] theorem setChan_shf : (s.setChan c v).shf = s.shf := rfl
@[simp] theorem setChan_staged : (s.setChan c v).staged = s.staged := rfl
@[simp] theorem setChan_codeHigh : (s.setChan c v).codeHigh = s.codeHigh := rfl
@[simp] theorem setChan_loaded : (s.setChan c v).loaded = s.loaded := rfl
@[simp] theorem setChan_engs : (s.setChan c v).engs = s.engs := rfl
@[simp] theorem setChan_pwr : (s.setChan c v).pwr = s.pwr := rfl
@[simp] theorem setChan_dma : (s.setChan c v).dma = s.dma := rfl
@[simp] theorem setChan_hlth : (s.setChan c v).hlth = s.hlth := rfl
@[simp] theorem setChan_tod : (s.setChan c v).tod = s.tod := rfl
@[simp] theorem setChan_dbg : (s.setChan c v).dbg = s.dbg := rfl
@[simp] theorem setChan_evc : (s.setChan c v).evc = s.evc := rfl
@[simp] theorem setChan_fab : (s.setChan c v).fab = s.fab := rfl
@[simp] theorem setChan_twin : (s.setChan c v).twin = s.twin := rfl
@[simp] theorem setChan_out : (s.setChan c v).out = s.out := rfl
@[simp] theorem setChan_freeCtr : (s.setChan c v).freeCtr = s.freeCtr := rfl
@[simp] theorem setChan_pcie : (s.setChan c v).pcie = s.pcie := rfl
@[simp] theorem setChan_ctxBlank : (s.setChan c v).ctxBlank = s.ctxBlank := rfl
@[simp] theorem setChan_lost : (s.setChan c v).lost = s.lost := rfl
@[simp] theorem setChan_keyWait : (s.setChan c v).keyWait = s.keyWait := rfl
end

section
variable (s : State) (l : Nat) (v : LinkQ)
@[simp] theorem setLink_pending : (s.setLink l v).pending = s.pending := rfl
@[simp] theorem setLink_regs : (s.setLink l v).regs = s.regs := rfl
@[simp] theorem setLink_cnts : (s.setLink l v).cnts = s.cnts := rfl
@[simp] theorem setLink_rtc : (s.setLink l v).rtc = s.rtc := rfl
@[simp] theorem setLink_shadow : (s.setLink l v).shadow = s.shadow := rfl
@[simp] theorem setLink_resp : (s.setLink l v).resp = s.resp := rfl
@[simp] theorem setLink_xarb : (s.setLink l v).xarb = s.xarb := rfl
@[simp] theorem setLink_variant : (s.setLink l v).variant = s.variant := rfl
@[simp] theorem setLink_slices : (s.setLink l v).slices = s.slices := rfl
@[simp] theorem setLink_pllRun : (s.setLink l v).pllRun = s.pllRun := rfl
@[simp] theorem setLink_ports : (s.setLink l v).ports = s.ports := rfl
@[simp] theorem setLink_chans : (s.setLink l v).chans = s.chans := rfl
@[simp] theorem setLink_msgId : (s.setLink l v).msgId = s.msgId := rfl
@[simp] theorem setLink_cntPend : (s.setLink l v).cntPend = s.cntPend := rfl
@[simp] theorem setLink_rams : (s.setLink l v).rams = s.rams := rfl
@[simp] theorem setLink_errs : (s.setLink l v).errs = s.errs := rfl
@[simp] theorem setLink_valid : (s.setLink l v).valid = s.valid := rfl
@[simp] theorem setLink_memCtl : (s.setLink l v).memCtl = s.memCtl := rfl
@[simp] theorem setLink_sheaf : (s.setLink l v).sheaf = s.sheaf := rfl
@[simp] theorem setLink_keys : (s.setLink l v).keys = s.keys := rfl
@[simp] theorem setLink_sessions : (s.setLink l v).sessions = s.sessions := rfl
@[simp] theorem setLink_kept : (s.setLink l v).kept = s.kept := rfl
@[simp] theorem setLink_silo : (s.setLink l v).silo = s.silo := rfl
@[simp] theorem setLink_shf : (s.setLink l v).shf = s.shf := rfl
@[simp] theorem setLink_staged : (s.setLink l v).staged = s.staged := rfl
@[simp] theorem setLink_codeHigh : (s.setLink l v).codeHigh = s.codeHigh := rfl
@[simp] theorem setLink_loaded : (s.setLink l v).loaded = s.loaded := rfl
@[simp] theorem setLink_engs : (s.setLink l v).engs = s.engs := rfl
@[simp] theorem setLink_pwr : (s.setLink l v).pwr = s.pwr := rfl
@[simp] theorem setLink_dma : (s.setLink l v).dma = s.dma := rfl
@[simp] theorem setLink_hlth : (s.setLink l v).hlth = s.hlth := rfl
@[simp] theorem setLink_tod : (s.setLink l v).tod = s.tod := rfl
@[simp] theorem setLink_dbg : (s.setLink l v).dbg = s.dbg := rfl
@[simp] theorem setLink_evc : (s.setLink l v).evc = s.evc := rfl
@[simp] theorem setLink_fab : (s.setLink l v).fab = s.fab := rfl
@[simp] theorem setLink_twin : (s.setLink l v).twin = s.twin := rfl
@[simp] theorem setLink_out : (s.setLink l v).out = s.out := rfl
@[simp] theorem setLink_freeCtr : (s.setLink l v).freeCtr = s.freeCtr := rfl
@[simp] theorem setLink_pcie : (s.setLink l v).pcie = s.pcie := rfl
@[simp] theorem setLink_ctxBlank : (s.setLink l v).ctxBlank = s.ctxBlank := rfl
@[simp] theorem setLink_lost : (s.setLink l v).lost = s.lost := rfl
@[simp] theorem setLink_keyWait : (s.setLink l v).keyWait = s.keyWait := rfl
end

section
variable (s : State) (n : Nat) (v : SliceSt)
@[simp] theorem setSlice_pending : (s.setSlice n v).pending = s.pending := rfl
@[simp] theorem setSlice_regs : (s.setSlice n v).regs = s.regs := rfl
@[simp] theorem setSlice_cnts : (s.setSlice n v).cnts = s.cnts := rfl
@[simp] theorem setSlice_rtc : (s.setSlice n v).rtc = s.rtc := rfl
@[simp] theorem setSlice_shadow : (s.setSlice n v).shadow = s.shadow := rfl
@[simp] theorem setSlice_resp : (s.setSlice n v).resp = s.resp := rfl
@[simp] theorem setSlice_xarb : (s.setSlice n v).xarb = s.xarb := rfl
@[simp] theorem setSlice_variant : (s.setSlice n v).variant = s.variant := rfl
@[simp] theorem setSlice_pllRun : (s.setSlice n v).pllRun = s.pllRun := rfl
@[simp] theorem setSlice_ports : (s.setSlice n v).ports = s.ports := rfl
@[simp] theorem setSlice_chans : (s.setSlice n v).chans = s.chans := rfl
@[simp] theorem setSlice_links : (s.setSlice n v).links = s.links := rfl
@[simp] theorem setSlice_msgId : (s.setSlice n v).msgId = s.msgId := rfl
@[simp] theorem setSlice_cntPend : (s.setSlice n v).cntPend = s.cntPend := rfl
@[simp] theorem setSlice_rams : (s.setSlice n v).rams = s.rams := rfl
@[simp] theorem setSlice_errs : (s.setSlice n v).errs = s.errs := rfl
@[simp] theorem setSlice_valid : (s.setSlice n v).valid = s.valid := rfl
@[simp] theorem setSlice_memCtl : (s.setSlice n v).memCtl = s.memCtl := rfl
@[simp] theorem setSlice_sheaf : (s.setSlice n v).sheaf = s.sheaf := rfl
@[simp] theorem setSlice_keys : (s.setSlice n v).keys = s.keys := rfl
@[simp] theorem setSlice_sessions : (s.setSlice n v).sessions = s.sessions := rfl
@[simp] theorem setSlice_kept : (s.setSlice n v).kept = s.kept := rfl
@[simp] theorem setSlice_silo : (s.setSlice n v).silo = s.silo := rfl
@[simp] theorem setSlice_shf : (s.setSlice n v).shf = s.shf := rfl
@[simp] theorem setSlice_staged : (s.setSlice n v).staged = s.staged := rfl
@[simp] theorem setSlice_codeHigh : (s.setSlice n v).codeHigh = s.codeHigh := rfl
@[simp] theorem setSlice_loaded : (s.setSlice n v).loaded = s.loaded := rfl
@[simp] theorem setSlice_engs : (s.setSlice n v).engs = s.engs := rfl
@[simp] theorem setSlice_pwr : (s.setSlice n v).pwr = s.pwr := rfl
@[simp] theorem setSlice_dma : (s.setSlice n v).dma = s.dma := rfl
@[simp] theorem setSlice_hlth : (s.setSlice n v).hlth = s.hlth := rfl
@[simp] theorem setSlice_tod : (s.setSlice n v).tod = s.tod := rfl
@[simp] theorem setSlice_dbg : (s.setSlice n v).dbg = s.dbg := rfl
@[simp] theorem setSlice_evc : (s.setSlice n v).evc = s.evc := rfl
@[simp] theorem setSlice_fab : (s.setSlice n v).fab = s.fab := rfl
@[simp] theorem setSlice_twin : (s.setSlice n v).twin = s.twin := rfl
@[simp] theorem setSlice_out : (s.setSlice n v).out = s.out := rfl
@[simp] theorem setSlice_freeCtr : (s.setSlice n v).freeCtr = s.freeCtr := rfl
@[simp] theorem setSlice_pcie : (s.setSlice n v).pcie = s.pcie := rfl
@[simp] theorem setSlice_ctxBlank : (s.setSlice n v).ctxBlank = s.ctxBlank := rfl
@[simp] theorem setSlice_lost : (s.setSlice n v).lost = s.lost := rfl
@[simp] theorem setSlice_keyWait : (s.setSlice n v).keyWait = s.keyWait := rfl
end

section
variable (s : State) (k : Nat) (m : Mem)
@[simp] theorem setRam_pending : (s.setRam k m).pending = s.pending := rfl
@[simp] theorem setRam_regs : (s.setRam k m).regs = s.regs := rfl
@[simp] theorem setRam_cnts : (s.setRam k m).cnts = s.cnts := rfl
@[simp] theorem setRam_rtc : (s.setRam k m).rtc = s.rtc := rfl
@[simp] theorem setRam_shadow : (s.setRam k m).shadow = s.shadow := rfl
@[simp] theorem setRam_resp : (s.setRam k m).resp = s.resp := rfl
@[simp] theorem setRam_xarb : (s.setRam k m).xarb = s.xarb := rfl
@[simp] theorem setRam_variant : (s.setRam k m).variant = s.variant := rfl
@[simp] theorem setRam_slices : (s.setRam k m).slices = s.slices := rfl
@[simp] theorem setRam_pllRun : (s.setRam k m).pllRun = s.pllRun := rfl
@[simp] theorem setRam_ports : (s.setRam k m).ports = s.ports := rfl
@[simp] theorem setRam_chans : (s.setRam k m).chans = s.chans := rfl
@[simp] theorem setRam_links : (s.setRam k m).links = s.links := rfl
@[simp] theorem setRam_msgId : (s.setRam k m).msgId = s.msgId := rfl
@[simp] theorem setRam_cntPend : (s.setRam k m).cntPend = s.cntPend := rfl
@[simp] theorem setRam_errs : (s.setRam k m).errs = s.errs := rfl
@[simp] theorem setRam_valid : (s.setRam k m).valid = s.valid := rfl
@[simp] theorem setRam_memCtl : (s.setRam k m).memCtl = s.memCtl := rfl
@[simp] theorem setRam_sheaf : (s.setRam k m).sheaf = s.sheaf := rfl
@[simp] theorem setRam_keys : (s.setRam k m).keys = s.keys := rfl
@[simp] theorem setRam_sessions : (s.setRam k m).sessions = s.sessions := rfl
@[simp] theorem setRam_kept : (s.setRam k m).kept = s.kept := rfl
@[simp] theorem setRam_silo : (s.setRam k m).silo = s.silo := rfl
@[simp] theorem setRam_shf : (s.setRam k m).shf = s.shf := rfl
@[simp] theorem setRam_staged : (s.setRam k m).staged = s.staged := rfl
@[simp] theorem setRam_codeHigh : (s.setRam k m).codeHigh = s.codeHigh := rfl
@[simp] theorem setRam_loaded : (s.setRam k m).loaded = s.loaded := rfl
@[simp] theorem setRam_engs : (s.setRam k m).engs = s.engs := rfl
@[simp] theorem setRam_pwr : (s.setRam k m).pwr = s.pwr := rfl
@[simp] theorem setRam_dma : (s.setRam k m).dma = s.dma := rfl
@[simp] theorem setRam_hlth : (s.setRam k m).hlth = s.hlth := rfl
@[simp] theorem setRam_tod : (s.setRam k m).tod = s.tod := rfl
@[simp] theorem setRam_dbg : (s.setRam k m).dbg = s.dbg := rfl
@[simp] theorem setRam_evc : (s.setRam k m).evc = s.evc := rfl
@[simp] theorem setRam_fab : (s.setRam k m).fab = s.fab := rfl
@[simp] theorem setRam_twin : (s.setRam k m).twin = s.twin := rfl
@[simp] theorem setRam_out : (s.setRam k m).out = s.out := rfl
@[simp] theorem setRam_freeCtr : (s.setRam k m).freeCtr = s.freeCtr := rfl
@[simp] theorem setRam_pcie : (s.setRam k m).pcie = s.pcie := rfl
@[simp] theorem setRam_ctxBlank : (s.setRam k m).ctxBlank = s.ctxBlank := rfl
@[simp] theorem setRam_lost : (s.setRam k m).lost = s.lost := rfl
@[simp] theorem setRam_keyWait : (s.setRam k m).keyWait = s.keyWait := rfl
end

section
variable (s : State) (k : Nat) (v : MemCtl)
@[simp] theorem setMemc_pending : (s.setMemc k v).pending = s.pending := rfl
@[simp] theorem setMemc_regs : (s.setMemc k v).regs = s.regs := rfl
@[simp] theorem setMemc_cnts : (s.setMemc k v).cnts = s.cnts := rfl
@[simp] theorem setMemc_rtc : (s.setMemc k v).rtc = s.rtc := rfl
@[simp] theorem setMemc_shadow : (s.setMemc k v).shadow = s.shadow := rfl
@[simp] theorem setMemc_resp : (s.setMemc k v).resp = s.resp := rfl
@[simp] theorem setMemc_xarb : (s.setMemc k v).xarb = s.xarb := rfl
@[simp] theorem setMemc_variant : (s.setMemc k v).variant = s.variant := rfl
@[simp] theorem setMemc_slices : (s.setMemc k v).slices = s.slices := rfl
@[simp] theorem setMemc_pllRun : (s.setMemc k v).pllRun = s.pllRun := rfl
@[simp] theorem setMemc_ports : (s.setMemc k v).ports = s.ports := rfl
@[simp] theorem setMemc_chans : (s.setMemc k v).chans = s.chans := rfl
@[simp] theorem setMemc_links : (s.setMemc k v).links = s.links := rfl
@[simp] theorem setMemc_msgId : (s.setMemc k v).msgId = s.msgId := rfl
@[simp] theorem setMemc_cntPend : (s.setMemc k v).cntPend = s.cntPend := rfl
@[simp] theorem setMemc_rams : (s.setMemc k v).rams = s.rams := rfl
@[simp] theorem setMemc_errs : (s.setMemc k v).errs = s.errs := rfl
@[simp] theorem setMemc_valid : (s.setMemc k v).valid = s.valid := rfl
@[simp] theorem setMemc_sheaf : (s.setMemc k v).sheaf = s.sheaf := rfl
@[simp] theorem setMemc_keys : (s.setMemc k v).keys = s.keys := rfl
@[simp] theorem setMemc_sessions : (s.setMemc k v).sessions = s.sessions := rfl
@[simp] theorem setMemc_kept : (s.setMemc k v).kept = s.kept := rfl
@[simp] theorem setMemc_silo : (s.setMemc k v).silo = s.silo := rfl
@[simp] theorem setMemc_shf : (s.setMemc k v).shf = s.shf := rfl
@[simp] theorem setMemc_staged : (s.setMemc k v).staged = s.staged := rfl
@[simp] theorem setMemc_codeHigh : (s.setMemc k v).codeHigh = s.codeHigh := rfl
@[simp] theorem setMemc_loaded : (s.setMemc k v).loaded = s.loaded := rfl
@[simp] theorem setMemc_engs : (s.setMemc k v).engs = s.engs := rfl
@[simp] theorem setMemc_pwr : (s.setMemc k v).pwr = s.pwr := rfl
@[simp] theorem setMemc_dma : (s.setMemc k v).dma = s.dma := rfl
@[simp] theorem setMemc_hlth : (s.setMemc k v).hlth = s.hlth := rfl
@[simp] theorem setMemc_tod : (s.setMemc k v).tod = s.tod := rfl
@[simp] theorem setMemc_dbg : (s.setMemc k v).dbg = s.dbg := rfl
@[simp] theorem setMemc_evc : (s.setMemc k v).evc = s.evc := rfl
@[simp] theorem setMemc_fab : (s.setMemc k v).fab = s.fab := rfl
@[simp] theorem setMemc_twin : (s.setMemc k v).twin = s.twin := rfl
@[simp] theorem setMemc_out : (s.setMemc k v).out = s.out := rfl
@[simp] theorem setMemc_freeCtr : (s.setMemc k v).freeCtr = s.freeCtr := rfl
@[simp] theorem setMemc_pcie : (s.setMemc k v).pcie = s.pcie := rfl
@[simp] theorem setMemc_ctxBlank : (s.setMemc k v).ctxBlank = s.ctxBlank := rfl
@[simp] theorem setMemc_lost : (s.setMemc k v).lost = s.lost := rfl
@[simp] theorem setMemc_keyWait : (s.setMemc k v).keyWait = s.keyWait := rfl
end

section
variable (s : State) (e : Nat) (v : Eng)
@[simp] theorem setEng_pending : (s.setEng e v).pending = s.pending := rfl
@[simp] theorem setEng_regs : (s.setEng e v).regs = s.regs := rfl
@[simp] theorem setEng_cnts : (s.setEng e v).cnts = s.cnts := rfl
@[simp] theorem setEng_rtc : (s.setEng e v).rtc = s.rtc := rfl
@[simp] theorem setEng_shadow : (s.setEng e v).shadow = s.shadow := rfl
@[simp] theorem setEng_resp : (s.setEng e v).resp = s.resp := rfl
@[simp] theorem setEng_xarb : (s.setEng e v).xarb = s.xarb := rfl
@[simp] theorem setEng_variant : (s.setEng e v).variant = s.variant := rfl
@[simp] theorem setEng_slices : (s.setEng e v).slices = s.slices := rfl
@[simp] theorem setEng_pllRun : (s.setEng e v).pllRun = s.pllRun := rfl
@[simp] theorem setEng_ports : (s.setEng e v).ports = s.ports := rfl
@[simp] theorem setEng_chans : (s.setEng e v).chans = s.chans := rfl
@[simp] theorem setEng_links : (s.setEng e v).links = s.links := rfl
@[simp] theorem setEng_msgId : (s.setEng e v).msgId = s.msgId := rfl
@[simp] theorem setEng_cntPend : (s.setEng e v).cntPend = s.cntPend := rfl
@[simp] theorem setEng_rams : (s.setEng e v).rams = s.rams := rfl
@[simp] theorem setEng_errs : (s.setEng e v).errs = s.errs := rfl
@[simp] theorem setEng_valid : (s.setEng e v).valid = s.valid := rfl
@[simp] theorem setEng_memCtl : (s.setEng e v).memCtl = s.memCtl := rfl
@[simp] theorem setEng_sheaf : (s.setEng e v).sheaf = s.sheaf := rfl
@[simp] theorem setEng_keys : (s.setEng e v).keys = s.keys := rfl
@[simp] theorem setEng_sessions : (s.setEng e v).sessions = s.sessions := rfl
@[simp] theorem setEng_kept : (s.setEng e v).kept = s.kept := rfl
@[simp] theorem setEng_silo : (s.setEng e v).silo = s.silo := rfl
@[simp] theorem setEng_shf : (s.setEng e v).shf = s.shf := rfl
@[simp] theorem setEng_staged : (s.setEng e v).staged = s.staged := rfl
@[simp] theorem setEng_codeHigh : (s.setEng e v).codeHigh = s.codeHigh := rfl
@[simp] theorem setEng_loaded : (s.setEng e v).loaded = s.loaded := rfl
@[simp] theorem setEng_pwr : (s.setEng e v).pwr = s.pwr := rfl
@[simp] theorem setEng_dma : (s.setEng e v).dma = s.dma := rfl
@[simp] theorem setEng_hlth : (s.setEng e v).hlth = s.hlth := rfl
@[simp] theorem setEng_tod : (s.setEng e v).tod = s.tod := rfl
@[simp] theorem setEng_dbg : (s.setEng e v).dbg = s.dbg := rfl
@[simp] theorem setEng_evc : (s.setEng e v).evc = s.evc := rfl
@[simp] theorem setEng_fab : (s.setEng e v).fab = s.fab := rfl
@[simp] theorem setEng_twin : (s.setEng e v).twin = s.twin := rfl
@[simp] theorem setEng_out : (s.setEng e v).out = s.out := rfl
@[simp] theorem setEng_freeCtr : (s.setEng e v).freeCtr = s.freeCtr := rfl
@[simp] theorem setEng_pcie : (s.setEng e v).pcie = s.pcie := rfl
@[simp] theorem setEng_ctxBlank : (s.setEng e v).ctxBlank = s.ctxBlank := rfl
@[simp] theorem setEng_lost : (s.setEng e v).lost = s.lost := rfl
@[simp] theorem setEng_keyWait : (s.setEng e v).keyWait = s.keyWait := rfl
end

section
variable (s : State) (e : Nat) (g : Eng → Eng)
@[simp] theorem updEng_pending : (s.updEng e g).pending = s.pending := rfl
@[simp] theorem updEng_regs : (s.updEng e g).regs = s.regs := rfl
@[simp] theorem updEng_cnts : (s.updEng e g).cnts = s.cnts := rfl
@[simp] theorem updEng_rtc : (s.updEng e g).rtc = s.rtc := rfl
@[simp] theorem updEng_shadow : (s.updEng e g).shadow = s.shadow := rfl
@[simp] theorem updEng_resp : (s.updEng e g).resp = s.resp := rfl
@[simp] theorem updEng_xarb : (s.updEng e g).xarb = s.xarb := rfl
@[simp] theorem updEng_variant : (s.updEng e g).variant = s.variant := rfl
@[simp] theorem updEng_slices : (s.updEng e g).slices = s.slices := rfl
@[simp] theorem updEng_pllRun : (s.updEng e g).pllRun = s.pllRun := rfl
@[simp] theorem updEng_ports : (s.updEng e g).ports = s.ports := rfl
@[simp] theorem updEng_chans : (s.updEng e g).chans = s.chans := rfl
@[simp] theorem updEng_links : (s.updEng e g).links = s.links := rfl
@[simp] theorem updEng_msgId : (s.updEng e g).msgId = s.msgId := rfl
@[simp] theorem updEng_cntPend : (s.updEng e g).cntPend = s.cntPend := rfl
@[simp] theorem updEng_rams : (s.updEng e g).rams = s.rams := rfl
@[simp] theorem updEng_errs : (s.updEng e g).errs = s.errs := rfl
@[simp] theorem updEng_valid : (s.updEng e g).valid = s.valid := rfl
@[simp] theorem updEng_memCtl : (s.updEng e g).memCtl = s.memCtl := rfl
@[simp] theorem updEng_sheaf : (s.updEng e g).sheaf = s.sheaf := rfl
@[simp] theorem updEng_keys : (s.updEng e g).keys = s.keys := rfl
@[simp] theorem updEng_sessions : (s.updEng e g).sessions = s.sessions := rfl
@[simp] theorem updEng_kept : (s.updEng e g).kept = s.kept := rfl
@[simp] theorem updEng_silo : (s.updEng e g).silo = s.silo := rfl
@[simp] theorem updEng_shf : (s.updEng e g).shf = s.shf := rfl
@[simp] theorem updEng_staged : (s.updEng e g).staged = s.staged := rfl
@[simp] theorem updEng_codeHigh : (s.updEng e g).codeHigh = s.codeHigh := rfl
@[simp] theorem updEng_loaded : (s.updEng e g).loaded = s.loaded := rfl
@[simp] theorem updEng_pwr : (s.updEng e g).pwr = s.pwr := rfl
@[simp] theorem updEng_dma : (s.updEng e g).dma = s.dma := rfl
@[simp] theorem updEng_hlth : (s.updEng e g).hlth = s.hlth := rfl
@[simp] theorem updEng_tod : (s.updEng e g).tod = s.tod := rfl
@[simp] theorem updEng_dbg : (s.updEng e g).dbg = s.dbg := rfl
@[simp] theorem updEng_evc : (s.updEng e g).evc = s.evc := rfl
@[simp] theorem updEng_fab : (s.updEng e g).fab = s.fab := rfl
@[simp] theorem updEng_twin : (s.updEng e g).twin = s.twin := rfl
@[simp] theorem updEng_out : (s.updEng e g).out = s.out := rfl
@[simp] theorem updEng_freeCtr : (s.updEng e g).freeCtr = s.freeCtr := rfl
@[simp] theorem updEng_pcie : (s.updEng e g).pcie = s.pcie := rfl
@[simp] theorem updEng_ctxBlank : (s.updEng e g).ctxBlank = s.ctxBlank := rfl
@[simp] theorem updEng_lost : (s.updEng e g).lost = s.lost := rfl
@[simp] theorem updEng_keyWait : (s.updEng e g).keyWait = s.keyWait := rfl
end

section
variable (s : State) (c : Nat) (v : ChanKey)
@[simp] theorem setKey_pending : (s.setKey c v).pending = s.pending := rfl
@[simp] theorem setKey_regs : (s.setKey c v).regs = s.regs := rfl
@[simp] theorem setKey_cnts : (s.setKey c v).cnts = s.cnts := rfl
@[simp] theorem setKey_rtc : (s.setKey c v).rtc = s.rtc := rfl
@[simp] theorem setKey_shadow : (s.setKey c v).shadow = s.shadow := rfl
@[simp] theorem setKey_resp : (s.setKey c v).resp = s.resp := rfl
@[simp] theorem setKey_xarb : (s.setKey c v).xarb = s.xarb := rfl
@[simp] theorem setKey_variant : (s.setKey c v).variant = s.variant := rfl
@[simp] theorem setKey_slices : (s.setKey c v).slices = s.slices := rfl
@[simp] theorem setKey_pllRun : (s.setKey c v).pllRun = s.pllRun := rfl
@[simp] theorem setKey_ports : (s.setKey c v).ports = s.ports := rfl
@[simp] theorem setKey_chans : (s.setKey c v).chans = s.chans := rfl
@[simp] theorem setKey_links : (s.setKey c v).links = s.links := rfl
@[simp] theorem setKey_msgId : (s.setKey c v).msgId = s.msgId := rfl
@[simp] theorem setKey_cntPend : (s.setKey c v).cntPend = s.cntPend := rfl
@[simp] theorem setKey_rams : (s.setKey c v).rams = s.rams := rfl
@[simp] theorem setKey_errs : (s.setKey c v).errs = s.errs := rfl
@[simp] theorem setKey_valid : (s.setKey c v).valid = s.valid := rfl
@[simp] theorem setKey_memCtl : (s.setKey c v).memCtl = s.memCtl := rfl
@[simp] theorem setKey_sheaf : (s.setKey c v).sheaf = s.sheaf := rfl
@[simp] theorem setKey_sessions : (s.setKey c v).sessions = s.sessions := rfl
@[simp] theorem setKey_kept : (s.setKey c v).kept = s.kept := rfl
@[simp] theorem setKey_silo : (s.setKey c v).silo = s.silo := rfl
@[simp] theorem setKey_shf : (s.setKey c v).shf = s.shf := rfl
@[simp] theorem setKey_staged : (s.setKey c v).staged = s.staged := rfl
@[simp] theorem setKey_codeHigh : (s.setKey c v).codeHigh = s.codeHigh := rfl
@[simp] theorem setKey_loaded : (s.setKey c v).loaded = s.loaded := rfl
@[simp] theorem setKey_engs : (s.setKey c v).engs = s.engs := rfl
@[simp] theorem setKey_pwr : (s.setKey c v).pwr = s.pwr := rfl
@[simp] theorem setKey_dma : (s.setKey c v).dma = s.dma := rfl
@[simp] theorem setKey_hlth : (s.setKey c v).hlth = s.hlth := rfl
@[simp] theorem setKey_tod : (s.setKey c v).tod = s.tod := rfl
@[simp] theorem setKey_dbg : (s.setKey c v).dbg = s.dbg := rfl
@[simp] theorem setKey_evc : (s.setKey c v).evc = s.evc := rfl
@[simp] theorem setKey_fab : (s.setKey c v).fab = s.fab := rfl
@[simp] theorem setKey_twin : (s.setKey c v).twin = s.twin := rfl
@[simp] theorem setKey_out : (s.setKey c v).out = s.out := rfl
@[simp] theorem setKey_freeCtr : (s.setKey c v).freeCtr = s.freeCtr := rfl
@[simp] theorem setKey_pcie : (s.setKey c v).pcie = s.pcie := rfl
@[simp] theorem setKey_ctxBlank : (s.setKey c v).ctxBlank = s.ctxBlank := rfl
@[simp] theorem setKey_lost : (s.setKey c v).lost = s.lost := rfl
@[simp] theorem setKey_keyWait : (s.setKey c v).keyWait = s.keyWait := rfl
end

section
variable (s : State) (c : Nat) (v : Session)
@[simp] theorem setSession_pending : (s.setSession c v).pending = s.pending := rfl
@[simp] theorem setSession_regs : (s.setSession c v).regs = s.regs := rfl
@[simp] theorem setSession_cnts : (s.setSession c v).cnts = s.cnts := rfl
@[simp] theorem setSession_rtc : (s.setSession c v).rtc = s.rtc := rfl
@[simp] theorem setSession_shadow : (s.setSession c v).shadow = s.shadow := rfl
@[simp] theorem setSession_resp : (s.setSession c v).resp = s.resp := rfl
@[simp] theorem setSession_xarb : (s.setSession c v).xarb = s.xarb := rfl
@[simp] theorem setSession_variant : (s.setSession c v).variant = s.variant := rfl
@[simp] theorem setSession_slices : (s.setSession c v).slices = s.slices := rfl
@[simp] theorem setSession_pllRun : (s.setSession c v).pllRun = s.pllRun := rfl
@[simp] theorem setSession_ports : (s.setSession c v).ports = s.ports := rfl
@[simp] theorem setSession_chans : (s.setSession c v).chans = s.chans := rfl
@[simp] theorem setSession_links : (s.setSession c v).links = s.links := rfl
@[simp] theorem setSession_msgId : (s.setSession c v).msgId = s.msgId := rfl
@[simp] theorem setSession_cntPend : (s.setSession c v).cntPend = s.cntPend := rfl
@[simp] theorem setSession_rams : (s.setSession c v).rams = s.rams := rfl
@[simp] theorem setSession_errs : (s.setSession c v).errs = s.errs := rfl
@[simp] theorem setSession_valid : (s.setSession c v).valid = s.valid := rfl
@[simp] theorem setSession_memCtl : (s.setSession c v).memCtl = s.memCtl := rfl
@[simp] theorem setSession_sheaf : (s.setSession c v).sheaf = s.sheaf := rfl
@[simp] theorem setSession_keys : (s.setSession c v).keys = s.keys := rfl
@[simp] theorem setSession_kept : (s.setSession c v).kept = s.kept := rfl
@[simp] theorem setSession_silo : (s.setSession c v).silo = s.silo := rfl
@[simp] theorem setSession_shf : (s.setSession c v).shf = s.shf := rfl
@[simp] theorem setSession_staged : (s.setSession c v).staged = s.staged := rfl
@[simp] theorem setSession_codeHigh : (s.setSession c v).codeHigh = s.codeHigh := rfl
@[simp] theorem setSession_loaded : (s.setSession c v).loaded = s.loaded := rfl
@[simp] theorem setSession_engs : (s.setSession c v).engs = s.engs := rfl
@[simp] theorem setSession_pwr : (s.setSession c v).pwr = s.pwr := rfl
@[simp] theorem setSession_dma : (s.setSession c v).dma = s.dma := rfl
@[simp] theorem setSession_hlth : (s.setSession c v).hlth = s.hlth := rfl
@[simp] theorem setSession_tod : (s.setSession c v).tod = s.tod := rfl
@[simp] theorem setSession_dbg : (s.setSession c v).dbg = s.dbg := rfl
@[simp] theorem setSession_evc : (s.setSession c v).evc = s.evc := rfl
@[simp] theorem setSession_fab : (s.setSession c v).fab = s.fab := rfl
@[simp] theorem setSession_twin : (s.setSession c v).twin = s.twin := rfl
@[simp] theorem setSession_out : (s.setSession c v).out = s.out := rfl
@[simp] theorem setSession_freeCtr : (s.setSession c v).freeCtr = s.freeCtr := rfl
@[simp] theorem setSession_pcie : (s.setSession c v).pcie = s.pcie := rfl
@[simp] theorem setSession_ctxBlank : (s.setSession c v).ctxBlank = s.ctxBlank := rfl
@[simp] theorem setSession_lost : (s.setSession c v).lost = s.lost := rfl
@[simp] theorem setSession_keyWait : (s.setSession c v).keyWait = s.keyWait := rfl
end

section
variable (s : State) (c : Nat)
@[simp] theorem dropSession_pending : (s.dropSession c).pending = s.pending := rfl
@[simp] theorem dropSession_regs : (s.dropSession c).regs = s.regs := rfl
@[simp] theorem dropSession_cnts : (s.dropSession c).cnts = s.cnts := rfl
@[simp] theorem dropSession_rtc : (s.dropSession c).rtc = s.rtc := rfl
@[simp] theorem dropSession_shadow : (s.dropSession c).shadow = s.shadow := rfl
@[simp] theorem dropSession_resp : (s.dropSession c).resp = s.resp := rfl
@[simp] theorem dropSession_xarb : (s.dropSession c).xarb = s.xarb := rfl
@[simp] theorem dropSession_variant : (s.dropSession c).variant = s.variant := rfl
@[simp] theorem dropSession_slices : (s.dropSession c).slices = s.slices := rfl
@[simp] theorem dropSession_pllRun : (s.dropSession c).pllRun = s.pllRun := rfl
@[simp] theorem dropSession_ports : (s.dropSession c).ports = s.ports := rfl
@[simp] theorem dropSession_chans : (s.dropSession c).chans = s.chans := rfl
@[simp] theorem dropSession_links : (s.dropSession c).links = s.links := rfl
@[simp] theorem dropSession_msgId : (s.dropSession c).msgId = s.msgId := rfl
@[simp] theorem dropSession_cntPend : (s.dropSession c).cntPend = s.cntPend := rfl
@[simp] theorem dropSession_rams : (s.dropSession c).rams = s.rams := rfl
@[simp] theorem dropSession_errs : (s.dropSession c).errs = s.errs := rfl
@[simp] theorem dropSession_valid : (s.dropSession c).valid = s.valid := rfl
@[simp] theorem dropSession_memCtl : (s.dropSession c).memCtl = s.memCtl := rfl
@[simp] theorem dropSession_sheaf : (s.dropSession c).sheaf = s.sheaf := rfl
@[simp] theorem dropSession_keys : (s.dropSession c).keys = s.keys := rfl
@[simp] theorem dropSession_kept : (s.dropSession c).kept = s.kept := rfl
@[simp] theorem dropSession_silo : (s.dropSession c).silo = s.silo := rfl
@[simp] theorem dropSession_shf : (s.dropSession c).shf = s.shf := rfl
@[simp] theorem dropSession_staged : (s.dropSession c).staged = s.staged := rfl
@[simp] theorem dropSession_codeHigh : (s.dropSession c).codeHigh = s.codeHigh := rfl
@[simp] theorem dropSession_loaded : (s.dropSession c).loaded = s.loaded := rfl
@[simp] theorem dropSession_engs : (s.dropSession c).engs = s.engs := rfl
@[simp] theorem dropSession_pwr : (s.dropSession c).pwr = s.pwr := rfl
@[simp] theorem dropSession_dma : (s.dropSession c).dma = s.dma := rfl
@[simp] theorem dropSession_hlth : (s.dropSession c).hlth = s.hlth := rfl
@[simp] theorem dropSession_tod : (s.dropSession c).tod = s.tod := rfl
@[simp] theorem dropSession_dbg : (s.dropSession c).dbg = s.dbg := rfl
@[simp] theorem dropSession_evc : (s.dropSession c).evc = s.evc := rfl
@[simp] theorem dropSession_fab : (s.dropSession c).fab = s.fab := rfl
@[simp] theorem dropSession_twin : (s.dropSession c).twin = s.twin := rfl
@[simp] theorem dropSession_out : (s.dropSession c).out = s.out := rfl
@[simp] theorem dropSession_freeCtr : (s.dropSession c).freeCtr = s.freeCtr := rfl
@[simp] theorem dropSession_pcie : (s.dropSession c).pcie = s.pcie := rfl
@[simp] theorem dropSession_ctxBlank : (s.dropSession c).ctxBlank = s.ctxBlank := rfl
@[simp] theorem dropSession_lost : (s.dropSession c).lost = s.lost := rfl
@[simp] theorem dropSession_keyWait : (s.dropSession c).keyWait = s.keyWait := rfl
end

section
variable (s : State) (n : Nat) (v : EvSrc)
@[simp] theorem setSrc_pending : (s.setSrc n v).pending = s.pending := rfl
@[simp] theorem setSrc_regs : (s.setSrc n v).regs = s.regs := rfl
@[simp] theorem setSrc_cnts : (s.setSrc n v).cnts = s.cnts := rfl
@[simp] theorem setSrc_rtc : (s.setSrc n v).rtc = s.rtc := rfl
@[simp] theorem setSrc_shadow : (s.setSrc n v).shadow = s.shadow := rfl
@[simp] theorem setSrc_resp : (s.setSrc n v).resp = s.resp := rfl
@[simp] theorem setSrc_xarb : (s.setSrc n v).xarb = s.xarb := rfl
@[simp] theorem setSrc_variant : (s.setSrc n v).variant = s.variant := rfl
@[simp] theorem setSrc_slices : (s.setSrc n v).slices = s.slices := rfl
@[simp] theorem setSrc_pllRun : (s.setSrc n v).pllRun = s.pllRun := rfl
@[simp] theorem setSrc_ports : (s.setSrc n v).ports = s.ports := rfl
@[simp] theorem setSrc_chans : (s.setSrc n v).chans = s.chans := rfl
@[simp] theorem setSrc_links : (s.setSrc n v).links = s.links := rfl
@[simp] theorem setSrc_msgId : (s.setSrc n v).msgId = s.msgId := rfl
@[simp] theorem setSrc_cntPend : (s.setSrc n v).cntPend = s.cntPend := rfl
@[simp] theorem setSrc_rams : (s.setSrc n v).rams = s.rams := rfl
@[simp] theorem setSrc_errs : (s.setSrc n v).errs = s.errs := rfl
@[simp] theorem setSrc_valid : (s.setSrc n v).valid = s.valid := rfl
@[simp] theorem setSrc_memCtl : (s.setSrc n v).memCtl = s.memCtl := rfl
@[simp] theorem setSrc_sheaf : (s.setSrc n v).sheaf = s.sheaf := rfl
@[simp] theorem setSrc_keys : (s.setSrc n v).keys = s.keys := rfl
@[simp] theorem setSrc_sessions : (s.setSrc n v).sessions = s.sessions := rfl
@[simp] theorem setSrc_kept : (s.setSrc n v).kept = s.kept := rfl
@[simp] theorem setSrc_silo : (s.setSrc n v).silo = s.silo := rfl
@[simp] theorem setSrc_shf : (s.setSrc n v).shf = s.shf := rfl
@[simp] theorem setSrc_staged : (s.setSrc n v).staged = s.staged := rfl
@[simp] theorem setSrc_codeHigh : (s.setSrc n v).codeHigh = s.codeHigh := rfl
@[simp] theorem setSrc_loaded : (s.setSrc n v).loaded = s.loaded := rfl
@[simp] theorem setSrc_engs : (s.setSrc n v).engs = s.engs := rfl
@[simp] theorem setSrc_pwr : (s.setSrc n v).pwr = s.pwr := rfl
@[simp] theorem setSrc_dma : (s.setSrc n v).dma = s.dma := rfl
@[simp] theorem setSrc_hlth : (s.setSrc n v).hlth = s.hlth := rfl
@[simp] theorem setSrc_tod : (s.setSrc n v).tod = s.tod := rfl
@[simp] theorem setSrc_dbg : (s.setSrc n v).dbg = s.dbg := rfl
@[simp] theorem setSrc_fab : (s.setSrc n v).fab = s.fab := rfl
@[simp] theorem setSrc_twin : (s.setSrc n v).twin = s.twin := rfl
@[simp] theorem setSrc_out : (s.setSrc n v).out = s.out := rfl
@[simp] theorem setSrc_freeCtr : (s.setSrc n v).freeCtr = s.freeCtr := rfl
@[simp] theorem setSrc_pcie : (s.setSrc n v).pcie = s.pcie := rfl
@[simp] theorem setSrc_ctxBlank : (s.setSrc n v).ctxBlank = s.ctxBlank := rfl
@[simp] theorem setSrc_lost : (s.setSrc n v).lost = s.lost := rfl
@[simp] theorem setSrc_keyWait : (s.setSrc n v).keyWait = s.keyWait := rfl
end

section
variable (s : State) (g : Nat) (v : EvGrp)
@[simp] theorem setGrp_pending : (s.setGrp g v).pending = s.pending := rfl
@[simp] theorem setGrp_regs : (s.setGrp g v).regs = s.regs := rfl
@[simp] theorem setGrp_cnts : (s.setGrp g v).cnts = s.cnts := rfl
@[simp] theorem setGrp_rtc : (s.setGrp g v).rtc = s.rtc := rfl
@[simp] theorem setGrp_shadow : (s.setGrp g v).shadow = s.shadow := rfl
@[simp] theorem setGrp_resp : (s.setGrp g v).resp = s.resp := rfl
@[simp] theorem setGrp_xarb : (s.setGrp g v).xarb = s.xarb := rfl
@[simp] theorem setGrp_variant : (s.setGrp g v).variant = s.variant := rfl
@[simp] theorem setGrp_slices : (s.setGrp g v).slices = s.slices := rfl
@[simp] theorem setGrp_pllRun : (s.setGrp g v).pllRun = s.pllRun := rfl
@[simp] theorem setGrp_ports : (s.setGrp g v).ports = s.ports := rfl
@[simp] theorem setGrp_chans : (s.setGrp g v).chans = s.chans := rfl
@[simp] theorem setGrp_links : (s.setGrp g v).links = s.links := rfl
@[simp] theorem setGrp_msgId : (s.setGrp g v).msgId = s.msgId := rfl
@[simp] theorem setGrp_cntPend : (s.setGrp g v).cntPend = s.cntPend := rfl
@[simp] theorem setGrp_rams : (s.setGrp g v).rams = s.rams := rfl
@[simp] theorem setGrp_errs : (s.setGrp g v).errs = s.errs := rfl
@[simp] theorem setGrp_valid : (s.setGrp g v).valid = s.valid := rfl
@[simp] theorem setGrp_memCtl : (s.setGrp g v).memCtl = s.memCtl := rfl
@[simp] theorem setGrp_sheaf : (s.setGrp g v).sheaf = s.sheaf := rfl
@[simp] theorem setGrp_keys : (s.setGrp g v).keys = s.keys := rfl
@[simp] theorem setGrp_sessions : (s.setGrp g v).sessions = s.sessions := rfl
@[simp] theorem setGrp_kept : (s.setGrp g v).kept = s.kept := rfl
@[simp] theorem setGrp_silo : (s.setGrp g v).silo = s.silo := rfl
@[simp] theorem setGrp_shf : (s.setGrp g v).shf = s.shf := rfl
@[simp] theorem setGrp_staged : (s.setGrp g v).staged = s.staged := rfl
@[simp] theorem setGrp_codeHigh : (s.setGrp g v).codeHigh = s.codeHigh := rfl
@[simp] theorem setGrp_loaded : (s.setGrp g v).loaded = s.loaded := rfl
@[simp] theorem setGrp_engs : (s.setGrp g v).engs = s.engs := rfl
@[simp] theorem setGrp_pwr : (s.setGrp g v).pwr = s.pwr := rfl
@[simp] theorem setGrp_dma : (s.setGrp g v).dma = s.dma := rfl
@[simp] theorem setGrp_hlth : (s.setGrp g v).hlth = s.hlth := rfl
@[simp] theorem setGrp_tod : (s.setGrp g v).tod = s.tod := rfl
@[simp] theorem setGrp_dbg : (s.setGrp g v).dbg = s.dbg := rfl
@[simp] theorem setGrp_fab : (s.setGrp g v).fab = s.fab := rfl
@[simp] theorem setGrp_twin : (s.setGrp g v).twin = s.twin := rfl
@[simp] theorem setGrp_out : (s.setGrp g v).out = s.out := rfl
@[simp] theorem setGrp_freeCtr : (s.setGrp g v).freeCtr = s.freeCtr := rfl
@[simp] theorem setGrp_pcie : (s.setGrp g v).pcie = s.pcie := rfl
@[simp] theorem setGrp_ctxBlank : (s.setGrp g v).ctxBlank = s.ctxBlank := rfl
@[simp] theorem setGrp_lost : (s.setGrp g v).lost = s.lost := rfl
@[simp] theorem setGrp_keyWait : (s.setGrp g v).keyWait = s.keyWait := rfl
end

section
variable (s : State) (n : Nat) (v : MsixEnt)
@[simp] theorem setMsixEnt_pending : (s.setMsixEnt n v).pending = s.pending := rfl
@[simp] theorem setMsixEnt_regs : (s.setMsixEnt n v).regs = s.regs := rfl
@[simp] theorem setMsixEnt_cnts : (s.setMsixEnt n v).cnts = s.cnts := rfl
@[simp] theorem setMsixEnt_rtc : (s.setMsixEnt n v).rtc = s.rtc := rfl
@[simp] theorem setMsixEnt_shadow : (s.setMsixEnt n v).shadow = s.shadow := rfl
@[simp] theorem setMsixEnt_resp : (s.setMsixEnt n v).resp = s.resp := rfl
@[simp] theorem setMsixEnt_xarb : (s.setMsixEnt n v).xarb = s.xarb := rfl
@[simp] theorem setMsixEnt_variant : (s.setMsixEnt n v).variant = s.variant := rfl
@[simp] theorem setMsixEnt_slices : (s.setMsixEnt n v).slices = s.slices := rfl
@[simp] theorem setMsixEnt_pllRun : (s.setMsixEnt n v).pllRun = s.pllRun := rfl
@[simp] theorem setMsixEnt_ports : (s.setMsixEnt n v).ports = s.ports := rfl
@[simp] theorem setMsixEnt_chans : (s.setMsixEnt n v).chans = s.chans := rfl
@[simp] theorem setMsixEnt_links : (s.setMsixEnt n v).links = s.links := rfl
@[simp] theorem setMsixEnt_msgId : (s.setMsixEnt n v).msgId = s.msgId := rfl
@[simp] theorem setMsixEnt_cntPend : (s.setMsixEnt n v).cntPend = s.cntPend := rfl
@[simp] theorem setMsixEnt_rams : (s.setMsixEnt n v).rams = s.rams := rfl
@[simp] theorem setMsixEnt_errs : (s.setMsixEnt n v).errs = s.errs := rfl
@[simp] theorem setMsixEnt_valid : (s.setMsixEnt n v).valid = s.valid := rfl
@[simp] theorem setMsixEnt_memCtl : (s.setMsixEnt n v).memCtl = s.memCtl := rfl
@[simp] theorem setMsixEnt_sheaf : (s.setMsixEnt n v).sheaf = s.sheaf := rfl
@[simp] theorem setMsixEnt_keys : (s.setMsixEnt n v).keys = s.keys := rfl
@[simp] theorem setMsixEnt_sessions : (s.setMsixEnt n v).sessions = s.sessions := rfl
@[simp] theorem setMsixEnt_kept : (s.setMsixEnt n v).kept = s.kept := rfl
@[simp] theorem setMsixEnt_silo : (s.setMsixEnt n v).silo = s.silo := rfl
@[simp] theorem setMsixEnt_shf : (s.setMsixEnt n v).shf = s.shf := rfl
@[simp] theorem setMsixEnt_staged : (s.setMsixEnt n v).staged = s.staged := rfl
@[simp] theorem setMsixEnt_codeHigh : (s.setMsixEnt n v).codeHigh = s.codeHigh := rfl
@[simp] theorem setMsixEnt_loaded : (s.setMsixEnt n v).loaded = s.loaded := rfl
@[simp] theorem setMsixEnt_engs : (s.setMsixEnt n v).engs = s.engs := rfl
@[simp] theorem setMsixEnt_pwr : (s.setMsixEnt n v).pwr = s.pwr := rfl
@[simp] theorem setMsixEnt_dma : (s.setMsixEnt n v).dma = s.dma := rfl
@[simp] theorem setMsixEnt_hlth : (s.setMsixEnt n v).hlth = s.hlth := rfl
@[simp] theorem setMsixEnt_tod : (s.setMsixEnt n v).tod = s.tod := rfl
@[simp] theorem setMsixEnt_dbg : (s.setMsixEnt n v).dbg = s.dbg := rfl
@[simp] theorem setMsixEnt_fab : (s.setMsixEnt n v).fab = s.fab := rfl
@[simp] theorem setMsixEnt_twin : (s.setMsixEnt n v).twin = s.twin := rfl
@[simp] theorem setMsixEnt_out : (s.setMsixEnt n v).out = s.out := rfl
@[simp] theorem setMsixEnt_freeCtr : (s.setMsixEnt n v).freeCtr = s.freeCtr := rfl
@[simp] theorem setMsixEnt_pcie : (s.setMsixEnt n v).pcie = s.pcie := rfl
@[simp] theorem setMsixEnt_ctxBlank : (s.setMsixEnt n v).ctxBlank = s.ctxBlank := rfl
@[simp] theorem setMsixEnt_lost : (s.setMsixEnt n v).lost = s.lost := rfl
@[simp] theorem setMsixEnt_keyWait : (s.setMsixEnt n v).keyWait = s.keyWait := rfl
end

section
variable (s : State) (d : Nat) (v : DmaCh)
@[simp] theorem setDmaCh_pending : (s.setDmaCh d v).pending = s.pending := rfl
@[simp] theorem setDmaCh_regs : (s.setDmaCh d v).regs = s.regs := rfl
@[simp] theorem setDmaCh_cnts : (s.setDmaCh d v).cnts = s.cnts := rfl
@[simp] theorem setDmaCh_rtc : (s.setDmaCh d v).rtc = s.rtc := rfl
@[simp] theorem setDmaCh_shadow : (s.setDmaCh d v).shadow = s.shadow := rfl
@[simp] theorem setDmaCh_resp : (s.setDmaCh d v).resp = s.resp := rfl
@[simp] theorem setDmaCh_xarb : (s.setDmaCh d v).xarb = s.xarb := rfl
@[simp] theorem setDmaCh_variant : (s.setDmaCh d v).variant = s.variant := rfl
@[simp] theorem setDmaCh_slices : (s.setDmaCh d v).slices = s.slices := rfl
@[simp] theorem setDmaCh_pllRun : (s.setDmaCh d v).pllRun = s.pllRun := rfl
@[simp] theorem setDmaCh_ports : (s.setDmaCh d v).ports = s.ports := rfl
@[simp] theorem setDmaCh_chans : (s.setDmaCh d v).chans = s.chans := rfl
@[simp] theorem setDmaCh_links : (s.setDmaCh d v).links = s.links := rfl
@[simp] theorem setDmaCh_msgId : (s.setDmaCh d v).msgId = s.msgId := rfl
@[simp] theorem setDmaCh_cntPend : (s.setDmaCh d v).cntPend = s.cntPend := rfl
@[simp] theorem setDmaCh_rams : (s.setDmaCh d v).rams = s.rams := rfl
@[simp] theorem setDmaCh_errs : (s.setDmaCh d v).errs = s.errs := rfl
@[simp] theorem setDmaCh_valid : (s.setDmaCh d v).valid = s.valid := rfl
@[simp] theorem setDmaCh_memCtl : (s.setDmaCh d v).memCtl = s.memCtl := rfl
@[simp] theorem setDmaCh_sheaf : (s.setDmaCh d v).sheaf = s.sheaf := rfl
@[simp] theorem setDmaCh_keys : (s.setDmaCh d v).keys = s.keys := rfl
@[simp] theorem setDmaCh_sessions : (s.setDmaCh d v).sessions = s.sessions := rfl
@[simp] theorem setDmaCh_kept : (s.setDmaCh d v).kept = s.kept := rfl
@[simp] theorem setDmaCh_silo : (s.setDmaCh d v).silo = s.silo := rfl
@[simp] theorem setDmaCh_shf : (s.setDmaCh d v).shf = s.shf := rfl
@[simp] theorem setDmaCh_staged : (s.setDmaCh d v).staged = s.staged := rfl
@[simp] theorem setDmaCh_codeHigh : (s.setDmaCh d v).codeHigh = s.codeHigh := rfl
@[simp] theorem setDmaCh_loaded : (s.setDmaCh d v).loaded = s.loaded := rfl
@[simp] theorem setDmaCh_engs : (s.setDmaCh d v).engs = s.engs := rfl
@[simp] theorem setDmaCh_pwr : (s.setDmaCh d v).pwr = s.pwr := rfl
@[simp] theorem setDmaCh_hlth : (s.setDmaCh d v).hlth = s.hlth := rfl
@[simp] theorem setDmaCh_tod : (s.setDmaCh d v).tod = s.tod := rfl
@[simp] theorem setDmaCh_dbg : (s.setDmaCh d v).dbg = s.dbg := rfl
@[simp] theorem setDmaCh_evc : (s.setDmaCh d v).evc = s.evc := rfl
@[simp] theorem setDmaCh_fab : (s.setDmaCh d v).fab = s.fab := rfl
@[simp] theorem setDmaCh_twin : (s.setDmaCh d v).twin = s.twin := rfl
@[simp] theorem setDmaCh_out : (s.setDmaCh d v).out = s.out := rfl
@[simp] theorem setDmaCh_freeCtr : (s.setDmaCh d v).freeCtr = s.freeCtr := rfl
@[simp] theorem setDmaCh_pcie : (s.setDmaCh d v).pcie = s.pcie := rfl
@[simp] theorem setDmaCh_ctxBlank : (s.setDmaCh d v).ctxBlank = s.ctxBlank := rfl
@[simp] theorem setDmaCh_lost : (s.setDmaCh d v).lost = s.lost := rfl
@[simp] theorem setDmaCh_keyWait : (s.setDmaCh d v).keyWait = s.keyWait := rfl
end

end Sys2Proof.Machine.State
end

