-- ==== Sys2Proof/Laws/Engine.lean ====
section
/-! SUPPORT. Engines: what a move of an engine that is ready does, and what a trigger does. -/

namespace Sys2Proof.Machine

variable {s : State} {e : Nat}

theorem State.eng_setEng {k : Nat} {v : Eng} : (s.setEng e v).eng k = if k = e then v else s.eng k := by
  simp [State.eng, State.setEng, SMap.get_set]

@[simp] theorem State.eng_setEng_self {v : Eng} : (s.setEng e v).eng e = v := by simp [State.eng_setEng]

theorem State.eng_updEng {k : Nat} {g : Eng → Eng} :
    (s.updEng e g).eng k = if k = e then g (s.eng e) else s.eng k := by
  simp [State.updEng, State.eng_setEng]

@[simp] theorem State.eng_updEng_self {g : Eng → Eng} : (s.updEng e g).eng e = g (s.eng e) := by
  simp [State.eng_updEng]

/-- A move of a ready engine takes effect, or raises what it fails with, or waits. -/
theorem runMove_ready (h : engReady s e) (f : Run → Run) : runMove s e f = (f (Run.of s)).close s e := by
  simp [runMove, h.1, h.2]

/-- A move of an engine that does not run, or that a blocking unit holds, does nothing. -/
theorem runMove_not_ready (h : ¬engReady s e) (f : Run → Run) : runMove s e f = s := by
  unfold runMove
  by_cases h1 : engState s e = engRunning
  · have : (s.eng e).blocked ≠ none := fun h2 => h ⟨h1, h2⟩
    simp [h1, this]
  · simp [h1]

/-- A trigger that the engine's structure selects starts its unit. -/
theorem trigger_ready (h : engReady s e) {kind inst : Nat} {op : UOp} (ht : hasTrig s e kind inst op = true) (t : Nat) :
    trigger s e kind inst op t = (startOp (Run.of s) e (s.eng e) inst op t).close s e := by
  rw [trigger, runMove_ready h, if_pos ht]

/-- A trigger that it does not select raises ILLEGAL_PORT. -/
theorem trigger_illegal (h : engReady s e) {kind inst : Nat} {op : UOp} (ht : hasTrig s e kind inst op = false) (t : Nat) :
    trigger s e kind inst op t = takeException s e excIllegalPort := by
  rw [trigger, runMove_ready h]
  simp [ht, Run.fail, Run.of, Run.close]

@[simp] theorem Run.close_upd_of {g : Eng → Eng} : ((Run.of s).upd e g).close s e = s.updEng e g := rfl

@[simp] theorem Run.close_fail_of {code : Nat} : ((Run.of s).fail code).close s e = takeException s e code := by
  simp [Run.fail, Run.of, Run.close]

theorem State.setEng_setEng {v w : Eng} : (s.setEng e v).setEng e w = s.setEng e w := by
  simp [State.setEng, SMap.set_set]

/-- Two changes of one engine make one. -/
theorem updEng_updEng {g h : Eng → Eng} : (s.updEng e g).updEng e h = s.updEng e fun x => h (g x) := by
  simp [State.updEng, State.setEng_setEng]

end Sys2Proof.Machine
end

