-- ==== Sys2Proof/Laws/Mem.lean ====
section
/-! SUPPORT. Bytes of memory: a read after a write, that every operation keeps the canonical form, that a frame passes a
slice buffer unchanged, and a change of the Granary without errors. -/

namespace Sys2Proof.Machine

namespace Mem

variable {d : Nat → Byte} {m : Mem} {a k : Nat} {b : Byte}

theorem read_write : read d (write d m a b) k = if k = a then b else read d m k := SMap.get_set

@[simp] theorem read_write_self : read d (write d m a b) a = b := SMap.get_set_self

theorem read_write_ne (h : k ≠ a) : read d (write d m a b) k = read d m k := SMap.get_set_ne h

theorem wf_write (h : wf d m = true) : wf d (write d m a b) = true := SMap.wf_set h

/-- A byte after a write of several: the one written there, if one was. -/
theorem read_put {bs : List (Option Byte)} :
    read d (put d m a bs) k = if a ≤ k then ((bs[k - a]?).join).getD (read d m k) else read d m k := by
  induction bs generalizing m a with
  | nil => simp [put]
  | cons x bs ih =>
    have tail : ∀ n : Mem, (k ≠ a → read d n k = read d m k) → (k = a → read d n k = x.getD (read d m k)) →
        read d (put d n (a + 1) bs) k =
          if a ≤ k then (((x :: bs)[k - a]?).join).getD (read d m k) else read d m k := fun n h1 h2 => by
      rw [ih]
      rcases Nat.lt_trichotomy k a with h | rfl | h
      · rw [if_neg (by omega), if_neg (by omega), h1 (by omega)]
      · rw [if_neg (by omega), if_pos (Nat.le_refl k), h2 rfl]
        simp
      · rw [if_pos (by omega), if_pos (by omega), h1 (by omega), show k - a = (k - (a + 1)) + 1 by omega,
          List.getElem?_cons_succ]
    cases x with
    | none => exact tail m (fun _ => rfl) fun _ => rfl
    | some b => exact tail _ (fun h => read_write_ne h) fun h => by rw [h]; exact read_write_self

theorem wf_put {bs : List (Option Byte)} (h : wf d m = true) : wf d (put d m a bs) = true := by
  induction bs generalizing m a with
  | nil => exact h
  | cons x bs ih =>
    cases x with
    | none => exact ih h
    | some b => exact ih (wf_write h)

/-- Writes of single bytes leave every other byte. -/
theorem read_writes_ne {l : List (Nat × Byte)} (h : ∀ e ∈ l, e.1 ≠ k) :
    read d (l.foldl (fun m e => write d m e.1 e.2) m) k = read d m k := by
  induction l generalizing m with
  | nil => rfl
  | cons e l ih =>
    rw [List.foldl_cons, ih fun x hx => h x (List.mem_cons_of_mem _ hx),
      read_write_ne (Ne.symm (h e List.mem_cons_self))]

/-- Of writes to different addresses each byte is the one written there. -/
theorem read_writes {l : List (Nat × Byte)} (h : (l.map (·.1)).Nodup) {e : Nat × Byte} (he : e ∈ l) :
    read d (l.foldl (fun m e => write d m e.1 e.2) m) e.1 = e.2 := by
  induction l generalizing m with
  | nil => cases he
  | cons x l ih =>
    rw [List.map_cons, List.nodup_cons] at h
    rcases List.mem_cons.1 he with rfl | he
    · rw [List.foldl_cons, read_writes_ne fun y hy hk => h.1 (List.mem_map.2 ⟨y, hy, hk⟩), read_write_self]
    · exact ih h.2 he

end Mem

theorem StageBuf.wf_put {b : StageBuf} {f : List Byte} (h : Mem.wf zeroByte b.bytes = true) :
    Mem.wf zeroByte (b.put f).bytes = true := by
  unfold StageBuf.put
  generalize f.zipIdx = l
  generalize b.bytes = m at h
  induction l generalizing m with
  | nil => exact h
  | cons x l ih => exact ih _ (Mem.wf_write h)

/-- A frame that fits a half of a slice buffer is read back as it was written (R15). -/
theorem StageBuf.take_put (b : StageBuf) {f : List Byte} (h : f.length ≤ stageBytes) :
    (b.put f).take b.next f.length = f := by
  have put_eq : (b.put f).bytes = (f.zipIdx.map fun x => ((b.next + x.2) % stageBytes, x.1)).foldl
      (fun m e => Mem.write zeroByte m e.1 e.2) b.bytes := by rw [List.foldl_map]; rfl
  have apart : ((f.zipIdx.map fun x => ((b.next + x.2) % stageBytes, x.1)).map (·.1)).Nodup := by
    rw [List.map_map, show ((fun e : Nat × Byte => e.1) ∘ fun x : Byte × Nat => ((b.next + x.2) % stageBytes, x.1)) =
      (fun i => (b.next + i) % stageBytes) ∘ Prod.snd from rfl, ← List.map_map, List.zipIdx_map_snd]
    refine (List.nodup_range' (step := 1)).map_on fun i hi j hj hij => ?_
    have := List.mem_range'_1.1 hi
    have := List.mem_range'_1.1 hj
    unfold stageBytes at hij h
    omega
  apply List.ext_getElem
  · simp [StageBuf.take]
  · intro i h1 h2
    have mem : ((b.next + i) % stageBytes, f[i]) ∈ f.zipIdx.map fun x => ((b.next + x.2) % stageBytes, x.1) :=
      List.mem_map.2 ⟨(f[i], i), List.mk_mem_zipIdx_iff_getElem?.2 (List.getElem?_eq_getElem h2), rfl⟩
    simp only [StageBuf.take, List.getElem_map, List.getElem_range, put_eq]
    exact Mem.read_writes apart mem

/-- A frame that nothing befalls in the slice buffer goes on unchanged. -/
theorem stageFrame_clean (s : State) (sl : Nat) (ingress : Bool) {f : List Byte} (h : f.length ≤ stageBytes) :
    (stageFrame s sl ingress f .clean).1 = some f := by
  simp [stageFrame, StageBuf.take_put _ h]

/-- Where no word has an error, a change of the Granary's contents is nothing else. -/
theorem granaryPut_quiet (s : State) (x : Silo) (h : s.errs = []) : granaryPut s x = { s with silo := x } := by
  simp [granaryPut, h]

end Sys2Proof.Machine
end

