-- ==== Sys2Proof/Laws/Numbers.lean ====
section
/-! SUPPORT. The engines' arithmetic on numbers agrees with arithmetic on bit vectors. -/

namespace Sys2Proof.Machine

theorem signedOf_eq {w : Nat} (hw : 0 < w) (v : Nat) : signedOf w v = (BitVec.ofNat w v).toInt := by
  obtain ⟨n, rfl⟩ : ∃ n, w = n + 1 := ⟨w - 1, by omega⟩
  simp only [signedOf, BitVec.toInt_eq_toNat_cond, BitVec.toNat_ofNat, Nat.add_sub_cancel]
  have : 2 ^ (n + 1) = 2 * 2 ^ n := by rw [pow_succ]; ring
  by_cases h : v % 2 ^ (n + 1) < 2 ^ n
  · have h2 : 2 * (v % 2 ^ (n + 1)) < 2 ^ (n + 1) := by omega
    simp [h, h2]
  · have h2 : ¬ 2 * (v % 2 ^ (n + 1)) < 2 ^ (n + 1) := by omega
    simp [h, h2]

theorem unsignedOf_eq (w : Nat) (z : Int) : unsignedOf w z = (BitVec.ofInt w z).toNat := by
  simp [unsignedOf, BitVec.toNat_ofInt]

theorem unsignedOf_toInt {w : Nat} (x : BitVec w) : unsignedOf w x.toInt = x.toNat := by
  rw [unsignedOf_eq, BitVec.ofInt_toInt]

end Sys2Proof.Machine
end

