-- ==== Sys2Proof/Tests/Slice0.lean ====
section
/-! SUPPORT. Tests: the commands that WellFormed refuses, and for every statement with hypotheses a state and operands
that meet them together. -/

open Sys2Proof Sys2Proof.Machine

namespace Sys2Proof.Tests

-- One theorem is checked after another: several at once need more memory than the check has.
set_option Elab.async false

/-! ### States of the tests -/

/-- The module of reset with a node ID of its own, for the one that its opaque public keys give cannot be computed (log 10), and
with entropy sources that have passed their test. -/
def base : State := { State.reset with silo := { State.reset.silo with node := 0x2F906B110D4C7A35, srcBad := 0 } }

/-- A pin of a node with an ECDSA key. -/
def pinned (node : W64) (key : List Byte) (twin changed : Bool) : Pin :=
  ⟨node, [], key, twin, 0, changed, [], Crypto.sha384 key⟩

/-- Fields of registers set one after another. -/
def fields (l : List (Fld × Nat × Nat)) (s : State) : State := l.foldl (fun s x => s.setF x.1 x.2.1 x.2.2) s

/-- STRUCT with one class record: units by kind and number (R371). -/
def structOf (cls : Nat) (us : List (Nat × Nat)) : List Byte :=
  zeros (16 + 200 * cls) ++ [0, BitVec.ofNat 8 us.length] ++ zeros 6 ++
    (us.map fun u => [BitVec.ofNat 8 u.1, BitVec.ofNat 8 u.2] ++ zeros 6).flatten

/-- A running engine with units. -/
def runs (e : Nat) (us : List (Nat × Nat)) (f : Eng → Eng) : State :=
  State.updEng { fields [(ENG_STATUS.STATE, e, engRunning)] base with
    sheaf := { Sheaf.none with struct := structOf (engClass e) us } } e f

/-- The same engine with port values. -/
def vals (l : List (Nat × Nat)) (x : Eng) : Eng := l.foldl (fun x p => x.setVal p.1 p.2) x

/-- Bytes of a memory from an address. -/
def bytesAt (k a : Nat) (bs : List Byte) (s : State) : State :=
  s.setRam k (Mem.put (ramDefault s k) (s.ram k) a (bs.map some))

/-- Fields of channel contexts set one after another. -/
def ctxs (l : List (CtxF × Nat × Nat)) (s : State) : State := l.foldl (fun s x => ctxSet s x.1 x.2.1 x.2.2 0) s

/-- A mode, and what the host selects. -/
def inMode (mode : Nat) (l : List (Fld × Nat × Nat)) : State := fields ((GLB_MODE.MODE, 0, mode) :: l) base

/-- A sheaf whose PORTMAP allows every width and type and names the EtherTypes of bales and tithe. -/
def mapped : Sheaf := { Sheaf.none with portmap := [0, 0, 0xB5, 0x88, 0xB6, 0x88] ++ zeros 10 ++ List.replicate 256 3 ++ zeros 192 }

/-! ### Engines -/

theorem test_witness_alu : engReady (runs 0 [(0, 7)] id) 0 ∧
    (engUnits (runs 0 [(0, 7)] id) 0).any (fun u => u.kind == kAlu && u.inst == 7) = true ∧ Form.d ≠ .q := by decide

theorem test_witness_shift : engReady (runs 63 [(1, 2)] id) 63 ∧
    (engUnits (runs 63 [(1, 2)] id) 63).any (fun u => u.kind == kShift && u.inst == 2) = true ∧ engClass 63 = 0 := by decide

theorem test_witness_compare : let s := runs 64 [(2, 2)] id
    engReady s 64 ∧ ([CmpOp.eq, .ne, .lt, .le, .ltu, .leu, .btst].all fun o => hasTrig s 64 kCmp 2 (.cmp o .w)) = true := by decide

theorem test_witness_divide : let s := runs 69 [(5, 0)] id
    engReady s 69 ∧ ([DivOp.div, .divs, .divu].all fun o => hasTrig s 69 kDiv 0 (.div o .d)) = true := by decide

theorem test_witness_multiply : engReady (runs 5 [(3, 1)] id) 5 ∧
    (engUnits (runs 5 [(3, 1)] id) 5).any (fun u => u.kind == kMul && u.inst == 1) = true := by decide

theorem test_witness_aes :
    let s := fun (n : Nat) => runs 0 [(6, 1)] fun x => { vals [(opKey kAes 1 0, 3)] x with aes := [(7, List.replicate n 1)] }
    ∀ n ∈ [0, 16, 32], engReady (s n) 0 ∧
      ([UOp.kld false, .kld true, .enc false, .enc true, .dec false, .dec true, .ctr false, .ctr true].all
        fun o => hasTrig (s n) 0 kAes 1 o) = true ∧
      (SMap.get (fun _ => []) ((s n).eng 0).aes (4 * 1 + ((s n).eng 0).val (opKey kAes 1 0) % 4)).length = n := by decide

theorem test_witness_ghash_crc : let s := fun (p mode : Nat) => runs 0 [(7, 1), (8, 1)] (vals [(opKey kGhash 1 0, p), (opKey kCrc 1 0, mode)])
    (∀ p ∈ [0, 1, 2, 3, 4, 5, 7], engReady (s p 0) 0 ∧ ((s p 0).eng 0).val (opKey kGhash 1 0) % 8 = p) ∧
    (∀ mode ∈ [0, 1, 2, 3], ((s 1 mode).eng 0).val (opKey kCrc 1 0) = mode) ∧
    ([(kGhash, UOp.hset), (kGhash, .gacc 1), (kGhash, .gclr 1), (kCrc, .crcInit), (kCrc, .crcFeed 1), (kCrc, .crcFeed 16)].all
      fun o => hasTrig (s 1 0) 0 o.1 1 o.2) = true := by decide

/-- A region whose socket 0 declares its four functions with `decl` above them, its faults and what the socket holds. -/
def socketed (decl faults : Nat) (w : Sock) : State :=
  let s := runs 1 [(9, 0), (10, 0), (11, 0)] fun x => Eng.setSock { x with cfault := faults } 0 w
  { s with sheaf := { s.sheaf with compl := [⟨false, [], leBytes 8 2 ++ zeros 4 ++ leBytes 4 decl⟩] } }

theorem test_witness_ports :
    let s := socketed 0x50F 0 Sock.reset
    engReady s 1 ∧ noErrors s ∧ hasTrig s 1 kCtx 0 .crd = true ∧ hasTrig s 1 kHash 0 .hash = true ∧
    hashEnt 1 (((s.eng 1).val (opKey kHash 0 0)) % 16) (onBus 1 5) ∉ s.lost ∧
    (let t := { s with lost := [hashEnt 1 0 (onBus 1 5)] }
     engReady t 1 ∧ hasTrig t 1 kHash 0 .hash = true ∧ hashEnt 1 (((t.eng 1).val (opKey kHash 0 0)) % 16) (onBus 1 5) ∈ t.lost) := by
  decide

theorem test_witness_sockets :
    let w := fun (n : Nat) (hot now : Bool) => ({ Sock.reset with word := List.replicate n (0, 0), hot := hot, now := now } : Sock)
    let at_ := fun (decl faults : Nat) (w : Sock) => engReady (socketed decl faults w) 1 ∧
      (∀ op : Fin 4, hasTrig (socketed decl faults w) 1 kCompl 0 (.compl op) = true) ∧
      ((socketed decl faults w).eng 1).sock 0 = w ∧ socketDecl (socketed decl faults w) 1 0 = decl
    (∀ n ∈ [0, 2, 3], ∀ decl ∈ [0x50F, 0x58F], at_ decl 0 (w n false false) ∧
      socketFaulty (socketed decl 0 (w n false false)) 1 0 = false) ∧
    (at_ 0x50F 0 (w 0 true true) ∧ (0x50F : Nat).testBit 7 = false ∧ socketFaulty (socketed 0x50F 0 (w 0 true true)) 1 0 = false) ∧
    (∀ h ∈ [(true, false), (false, true)], at_ 0x58F 0 (w 0 h.1 h.2) ∧ (0x58F : Nat).testBit 7 = true ∧
      socketFaulty (socketed 0x58F 0 (w 0 h.1 h.2)) 1 0 = false) ∧
    at_ 0x50F 2 (w 0 false false) ∧ socketFaulty (socketed 0x50F 2 (w 0 false false)) 1 0 = true := by decide

theorem test_witness_sampler :
    let s := fun (mode : Nat) (inb : List Byte) (outc : List Word) => runs 66 [(17, 0)] fun x =>
      { vals [(opKey kSamp 0 1, mode), (opKey kSamp 0 0, 3329)] x with samp := ⟨inb, outc, 0⟩ }
    let at_ := fun (s : State) (mode : Nat) => engReady s 66 ∧ hasTrig s 66 kSamp 0 .sInit = true ∧
      hasTrig s 66 kSamp 0 .sStep = true ∧ (s.eng 66).val (opKey kSamp 0 1) % 16 = mode
    (∀ mode ∈ [0, 1, 2, 3, 4, 5, 6, 15], at_ (s mode (zeros 6) []) mode) ∧
    (∀ mode ∈ [0, 1, 2, 3, 4, 5], let u := s mode [] [1, 2, 3]
      at_ u mode ∧ (u.eng 66).samp.inb.length < [2, 3, 3, 6, 2, 2].getD mode 0 ∧ noErrors u ∧ (u.eng 66).lineX = none ∧
        (u.eng 66).z = none ∧ (u.eng 66).sb = [] ∧ (u.eng 66).nextPtr 5 = some ((u.eng 66).agReg 5 0) ∧
        localOk u 66 ((u.eng 66).agReg 5 0) 8 8 = true ∧ (u.eng 66).nextPtr 7 = some ((u.eng 66).agReg 7 0) ∧
        localOk u 66 ((u.eng 66).agReg 7 0) 16 16 = true ∧ touchesWindow u 66 ((u.eng 66).agReg 7 0) 16 = false) := by
  decide

theorem test_witness_drbg :
    let y := Crypto.drbgSeed (zeros 48)
    let s := fun (d : DrbgUnit) => runs 67 [(18, 0)] fun x => { x with drbg := d }
    (∀ d ∈ [(⟨none, 0, false, true, 0⟩ : DrbgUnit), ⟨some y, 31, false, false, 0⟩, ⟨some y, 32, false, false, 65534⟩,
        ⟨some y, 32, false, false, 65535⟩, ⟨some y, 0, false, true, 65536⟩],
      engReady (s d) 67 ∧ ([UOp.seed, .gen, .fin].all fun o => hasTrig (s d) 67 kDrbg 0 o) = true ∧ ((s d).eng 67).drbg = d) ∧
    (let u := s ⟨some y, 31, false, false, 0⟩
     localOk u 67 0 48 1 = true ∧ (localRead u 67 0 48).2 = (false, u)) := by decide +kernel

theorem test_witness_mac : let s := runs 65 [(12, 1)] (vals [(hidKey kMac 1 0, 3)])
    let ctl := fun (mode sh : Nat) => 0xF * 2 ^ 16 + sh * 2 ^ 10 + 2 ^ 7 + 2 ^ 6 + mode * 2 ^ 4
    engReady s 65 ∧ hasTrig s 65 kMac 1 .mac = true ∧
    (∀ mode ∈ [0, 1, 2], ∀ sh ∈ [0, 48], (ctl mode sh) / 16 % 4 = mode ∧ (ctl mode sh) / 2 ^ 10 % 64 = sh ∧
      (ctl mode sh).testBit 6 = true ∧ (ctl mode sh).testBit 7 = true ∧ ctl mode sh < 2 ^ 22) ∧
    mqOf (s.eng 65) kMac 1 = 3 ∧ (s.eng 65).nextPtr 7 = some 0 ∧ localOk s 65 ((s.eng 65).agReg 7 0) 16 16 = true ∧
    touchesWindow s 65 ((s.eng 65).agReg 7 0) 16 = false := by decide

theorem test_witness_butterfly : let s := fun (q : Nat) => runs 64 [(13, 0)] (vals [(hidKey kBf 0 0, q)])
    (∀ q ∈ [0, 1, 2, 3, 4, 8380417], engReady (s q) 64 ∧ hasTrig (s q) 64 kBf 0 .bf = true ∧ mqOf ((s q).eng 64) kBf 0 = q) ∧
    8 < 2 ^ 5 ∧ (8 : Nat).testBit 2 = false ∧ (8 : Nat).testBit 3 = true ∧ (8 : Nat).testBit 4 = false := by decide

/-- A key engine whose butterfly unit holds modulus, twiddles and pairs, and whose streams X and Y name two lines of bank 0. -/
def streaming : State := bytesAt 64 64 (leBytes 8 (100 + 2 ^ 32 * 3300)) <|
    bytesAt 64 128 (leBytes 8 (3000 + 2 ^ 32 * 7)) <| runs 64 [(13, 0)] fun x =>
  { vals [(hidKey kBf 0 0, 3329), (opKey kBf 0 1, 17 + 2 ^ 32 * 3328)] x with
    ag := [(4 * 5, 64), (4 * 5 + 1, 8), (4 * 6, 128), (4 * 6 + 1, 8), (4 * 7, 192), (4 * 7 + 1, 16)] }

theorem test_witness_butterfly_streams : let s := streaming
    let x := s.eng 64
    engReady s 64 ∧ hasTrig s 64 kBf 0 .bf = true ∧ mqOf x kBf 0 = 3329 ∧ noErrors s ∧
    (∀ g ∈ [(5, 72), (6, 136)], x.lineOf g.1 = none ∧ x.z = none ∧ x.sb = [] ∧ x.nextPtr g.1 = some g.2 ∧
      localOk s 64 (x.agReg g.1 0) 8 8 = true) ∧
    x.nextPtr 7 = some 208 ∧ localOk s 64 (x.agReg 7 0) 16 16 = true ∧ touchesWindow s 64 (x.agReg 7 0) 16 = false := by decide

theorem test_witness_bank_units :
    let s := runs 64 [(14, 0), (15, 0), (16, 0)]
      (vals [(opKey kP384 0 0, 16), (opKey kP384 0 1, 64), (opKey kSha 0 0, 128)])
    let ok := fun (p n al : Nat) => localOk s 64 p n al = true ∧ (localRead s 64 p n).2 = (false, s)
    engReady s 64 ∧ ([(kKeccak, UOp.kf), (kP384, .mmp), (kP384, .mmn), (kSha, .comp)].all fun o => hasTrig s 64 o.1 0 o.2) = true ∧
    ok 64 200 64 ∧ touchesWindow s 64 64 200 = false ∧ localOk s 64 8 200 64 = false ∧ ok 16 48 16 ∧ ok 64 48 16 ∧
    localOk s 64 9 48 1 = true ∧ touchesWindow s 64 9 48 = false ∧
    ok 128 64 64 ∧ ok 0 128 64 ∧ touchesWindow s 64 128 64 = false := by decide +kernel

theorem test_witness_no_unit : engReady (runs 69 [] id) 69 ∧ engUnits (runs 69 [] id) 69 = [] := by decide

/-- A bundle whose slot 0 moves an immediate to a general register, the others empty. -/
def bundle (g imm : Nat) : Nat :=
  2 ^ 56 + (0xF00 * 2 ^ 40 + g * 2 ^ 28 + imm) * 2 ^ 64 +
    ((List.range 8).filter (1 ≤ ·)).foldl (fun n i => n + (8 * 2 ^ 52 + 0xFFF * 2 ^ 28) * 2 ^ (64 + 56 * i)) 0

theorem test_witness_bundle : ∀ gi ∈ [(0, 0), (63, 0xFFFFFF)],
    let line := leBytes 64 (bundle gi.1 gi.2)
    let fetched := bytesAt 0 64 line (runs 0 [] fun x => { x with pc := 64 })
    let queued := runs 0 [] fun x => { x with pc := 64, fetchQ := [⟨64, line, false, none⟩] }
    let n := leNat line
    let slot := fun (i : Nat) => n / 2 ^ (64 + 56 * i) % 2 ^ 56
    (∀ s ∈ [fetched, queued], let x := s.eng 0
      engReady s 0 ∧ noErrors s ∧ x.fly = [] ∧ x.socks = [] ∧ x.rep.active = false ∧ x.rep.srep = 0 ∧ x.br = none ∧
        x.xbCmd = []) ∧
    ((fetched.eng 0).fetchQ = [] ∧ (fetched.eng 0).slip = false ∧ line = ramBytes fetched 0 (fetched.eng 0).pc.toNat 64 ∧
      localOk fetched 0 (fetched.eng 0).pc.toNat 64 64 = true) ∧
    (queued.eng 0).fetchQ = ⟨(queued.eng 0).pc.toNat, line, false, none⟩ :: [] ∧
    n % 2 ^ 64 = 2 ^ 56 ∧ slot 0 = 0xF00 * 2 ^ 40 + gi.1 * 2 ^ 28 + gi.2 ∧
    ∀ i : Fin 8, 1 ≤ i.val → slot i = 8 * 2 ^ 52 + 0xFFF * 2 ^ 28 := by decide +kernel

theorem test_witness_format : ∀ fm ∈ [0, 2, 255],
    let line := zeros 7 ++ [BitVec.ofNat 8 fm] ++ zeros 56
    let s := runs 0 [] fun x => { x with pc := 64, fetchQ := [⟨64, line, false, none⟩] }
    engReady s 0 ∧ (s.eng 0).fetchQ = ⟨(s.eng 0).pc.toNat, line, false, none⟩ :: [] ∧ (s.eng 0).rep.active = false ∧
      leNat line / 2 ^ 56 % 2 ^ 8 = fm := by decide +kernel

theorem test_witness_landing :
    let fl := [(1, 5, 2 ^ 128 - 1), (2, 5, 0), (1, 5, 7)]
    let s := runs 3 [] fun x => { x with fly := fl.map fun f => ⟨f.1, wholeVal f.2.1 f.2.2⟩ }
    engReady s 3 ∧ (s.eng 3).socks = [] ∧ (s.eng 3).fly = fl.map (fun f => ⟨f.1, wholeVal f.2.1 f.2.2⟩) ∧
      (∀ f ∈ fl, f.2.2 < 2 ^ 128) ∧ ¬engReady State.reset 3 := by decide

theorem test_witness_load_store : let s := fun (a : Nat) => runs 0 [(4, 1)] fun x =>
      { vals [(opKey kLs 1 0, 3), (opKey kLs 1 1, a)] x with sb := [(1, [⟨8, [some 1, none]⟩])] }
    let top := 2 ^ 30 + bankSize (s 0) 0 1 - 8
    engReady (s top) 0 ∧ noErrors (s top) ∧ szBytes (busW 0) (((s top).eng 0).val (opKey kLs 1 0)) = some 8 ∧
    (((s top).eng 0).val (opKey kLs 1 0)).testBit 3 = false ∧ ((s top).eng 0).val (opKey kLs 1 1) % 2 ^ 32 = top ∧
    hasTrig (s top) 0 kLs 1 .ld = true ∧ hasTrig (s top) 0 kLs 1 .st = true ∧ bankOf top = 1 ∧
    localOk (s top) 0 top 8 8 = true ∧ localOk (s top) 0 (top + 8) 8 8 = false ∧ localOk (s top) 0 (top + 4) 8 8 = false ∧
    touchesWindow (s top) 0 top 8 = false ∧ (((s top).eng 0).sbOf 1).length < 8 ∧ ((s top).eng 0).z = none ∧
    ((s top).eng 0).sbOf 1 = ⟨8, [some 1, none]⟩ :: [] ∧ (s top).f MEM_FLIPMASK.MODE 0 = 0 := by decide +kernel

/-- BANKCFG whose data engines have one code window (R371). -/
def windowed (lo hi : Nat) : List Byte := zeros 24 ++ leBytes 4 lo ++ leBytes 4 hi ++ zeros 152

theorem test_witness_code_store : let s0 := runs 0 [(4, 0)] id
    let s := { s0 with sheaf := { s0.sheaf with bankcfg := windowed 0 64 } }
    engReady s 0 ∧ noErrors s ∧ szBytes (busW 0) ((s.eng 0).val (opKey kLs 0 0)) = some 1 ∧ hasTrig s 0 kLs 0 .st = true ∧
    bankOf 63 = 0 ∧ localOk s 0 0 1 1 = true ∧ touchesWindow s 0 0 1 = true ∧ touchesWindow s 0 63 1 = true ∧
    touchesWindow s 0 64 1 = false := by decide +kernel

theorem test_witness_branch :
    let s := runs 0 [] fun x => { x with sp := 8, stkTop := 16 }
    let top := bankSize s 0 2
    let u := runs 0 [] fun x => { x with sp := 7, stkTop := 14 }
    let low := runs 0 [] fun x => { x with sp := 15, stkLim := 8 }
    let high := runs 0 [] fun x => { x with sp := BitVec.ofNat 32 (top + 8) }
    let lost := bytesAt 0 (2 * 2 ^ 30 + 8) (leBytes 8 8) s
    let slot := runs 0 [] fun x => { x with br := some ⟨1, none, false⟩ }
    engReady s 0 ∧ (s.eng 0).br = none ∧ localOk s 0 64 64 64 = true ∧ localOk s 0 (3 * 2 ^ 30) 64 64 = false ∧
    localOk s 0 8 64 64 = false ∧
    8 ≤ (s.eng 0).sp.toNat ∧ (s.eng 0).stkLim.toNat ≤ (s.eng 0).sp.toNat - 8 ∧ (s.eng 0).sp.toNat ≤ top ∧
    ((s.eng 0).sbOf 2).length < 8 ∧ noErrors s ∧ (s.eng 0).sp.toNat + 8 ≤ (s.eng 0).stkTop.toNat ∧
    (s.eng 0).sp.toNat + 8 ≤ top ∧
    localOk s 0 (leNat ((localRead s 0 (2 * 2 ^ 30 + 8) 8).1.take 4)) 64 64 = true ∧ (s.eng 0).save = 0 ∧
    engReady u 0 ∧ (u.eng 0).sp.toNat < 8 ∧ (u.eng 0).stkTop.toNat < (u.eng 0).sp.toNat + 8 ∧
    (low.eng 0).sp.toNat - 8 < (low.eng 0).stkLim.toNat ∧ bankSize high 0 2 < (high.eng 0).sp.toNat ∧ (high.eng 0).br = none ∧
    8 ≤ (high.eng 0).sp.toNat ∧ (high.eng 0).stkLim.toNat ≤ (high.eng 0).sp.toNat - 8 ∧
    noErrors lost ∧ localOk lost 0 (leNat ((localRead lost 0 (2 * 2 ^ 30 + 8) 8).1.take 4)) 64 64 = false ∧
    (lost.eng 0).sp.toNat + 8 ≤ (lost.eng 0).stkTop.toNat ∧ engReady slot 0 ∧ (slot.eng 0).br ≠ none := by decide +kernel

theorem test_witness_return : let s := runs 2 [] fun x => { x with save := 1, causes := [1] }
    engReady s 2 ∧ (s.eng 2).save ≠ 0 ∧ noErrors s ∧ (s.eng 2).fly = [] := by decide

theorem test_witness_handler :
    let s := fun (fresh : Bool) (n : Nat) => runs 64 [] fun x => { x with fresh := fresh, save := n, ie := true, timerHit := true }
    (∀ n ∈ [0, 1], engReady (s false n) 64 ∧ ((s false n).eng 64).fresh = false ∧ ((s false n).eng 64).save = n ∧
      ((s false n).eng 64).poisonFlying = false) ∧
    engReady (s true 0) 64 ∧ ((s true 0).eng 64).fresh = true ∧ engReady (s false 2) 64 ∧ ((s false 2).eng 64).save = 2 ∧
    memQuiet (s false 0) 64 ∧ ((s false 0).eng 64).fly = [] ∧ ((s false 0).eng 64).z = none ∧ ((s false 0).eng 64).sb = [] ∧
    acceptPoint (s false 0) 64 = true ∧ linePending (s false 0) 64 2 = true ∧ linePending (s false 0) 64 0 = false ∧
    linePending (s false 0) 64 1 = false := by decide

theorem test_witness_restore : let x := (State.reset.updEng 64 fun x => { x with preds := 255, imask := 255, agBank := 3, agMode := 65535 }).eng 64
    x.preds < 2 ^ 8 ∧ x.imask < 2 ^ 8 ∧ x.agBank < 4 ∧ x.agMode < 2 ^ 16 := by decide

/-- An engine whose image has a grant. -/
def granted (e grant : Nat) (f : Eng → Eng) : State :=
  let s := runs e [] f
  let code : Section := ⟨false, [], [BitVec.ofNat 8 (engClass e), BitVec.ofNat 8 grant, 0, 0] ++ leBytes 8 255 ++ zeros 20⟩
  let cfg := zeros (24 + 48 * engClass e) ++ leBytes 4 0 ++ leBytes 4 64 ++ zeros 152
  { s with sheaf := { s.sheaf with bankcfg := cfg, code := [code] } }

theorem test_witness_control :
    let s := fun (g : Nat) => granted 68 g id
    (∀ g ∈ [0, 1, 2, 3], engReady (s g) 68 ∧ engGrant (s g) 68 = g) ∧ engClass 68 = 2 ∧ inCodeWindow (s 2) 68 0 = true ∧
    inCodeWindow (s 2) 68 64 = false ∧ memQuiet (s 2) 68 ∧
    localOk (s 2) 68 0 64 64 = true ∧ ((s 0).eng 68).sync.length < 4 ∧ ((s 0).eng 68).z = none ∧ anyLine (s 0) 68 = false ∧
    ((runs 68 [] fun x => { x with sync := [⟨0, 0, 0, 0⟩] }).eng 68).sync = ⟨0, 0, 0, 0⟩ :: [] ∧
    anyLine (runs 68 [] fun x => { x with timerHit := true }) 68 = true ∧ ((s 0).eng 68).br = none ∧
    bankOf ((s 0).eng 68).rep.le.toNat = bankOf ((s 0).eng 68).pc.toNat ∧
    bankOf ((s 0).eng 68).rep.le.toNat < 3 ∧ ((s 0).eng 68).pc.toNat ≤ ((s 0).eng 68).rep.le.toNat ∧
      ((s 0).eng 68).rep.le.toNat % 2 ^ 30 < bankSize (s 0) 68 0 ∧
    (let u := granted 68 0 fun x => { x with rep := { x.rep with le := BitVec.ofNat 32 (bankSize (s 0) 68 0) } }
     (u.eng 68).rep.le.toNat = bankSize u 68 0 ∧ (u.eng 68).br = none) ∧ engState (s 0) 68 ≠ engOff ∧
    (let u := runs 68 [] fun x => { x with rep := { x.rep with le := BitVec.ofNat 32 (2 ^ 30) } }
     bankOf (u.eng 68).rep.le.toNat ≠ bankOf (u.eng 68).pc.toNat) ∧
    (let u := runs 68 [] fun x => { x with pc := 64 }
     (u.eng 68).rep.le.toNat < (u.eng 68).pc.toNat) := by decide +kernel

theorem test_witness_wait :
    let key := fun (keep : Nat) (jobs : List KeyJob) =>
      let s := (runs 64 [] id).setF PWR_CFG.KE_KEEP 0 keep
      { s with silo := { s.silo with jobs := jobs } }
    let data := fun (prov : Nat) => (runs 63 [] id).setF PORT_STATUS.PROV 31 prov
    (∀ k ∈ [0, 1], engReady (key k []) 64 ∧ anyLine (key k []) 64 = false ∧ engClass 64 = 1 ∧
      bitAt ((key k []).f PWR_CFG.KE_KEEP 0) 0 = (k == 1)) ∧ (key 0 []).silo.jobs = [] ∧ (key 0 [⟨0, .other, 0, []⟩]).silo.jobs ≠ [] ∧
    (∀ p ∈ [0, 1], engReady (data p) 63 ∧ anyLine (data p) 63 = false ∧ engClass 63 = 0 ∧
      sliceProvisioned (data p) (63 / 2) = (p == 1)) := by decide +kernel

theorem test_witness_atomics :
    let s := fun (r : Option Nat) => runs 69 [] fun x => { x with scA := 0x47FFFF8, rsv := r }
    let off := 0x7FFFF8
    ∀ r ∈ [some (off / 64), none], engReady (s r) 69 ∧ engClass 69 ≠ 0 ∧ noErrors (s r) ∧ off % 8 = 0 ∧
      (sramOffset (s r) (((s r).eng 69).scA.toNat % 2 ^ 48) 8).toOption = some off ∧ ((s r).eng 69).rsv = r ∧
      (s r).f MEM_FLIPMASK.MODE sramCtl = 0 := by decide +kernel

theorem test_witness_streams :
    let d := runs 0 [] fun x => { x with inDesc := [1], inData := [2], outData := List.replicate 63 0, ctxWb := List.replicate 3 0 }
    let full := runs 0 [] fun x =>
      { x with outData := List.replicate 64 0, outDesc := List.replicate 8 1, ctxWb := List.replicate 16 0 }
    let w : BusVal := 2 ^ 32
    engReady d 0 ∧ engClass 0 = 0 ∧ (d.eng 0).inDesc = 1 :: [] ∧ (d.eng 0).inData = 2 :: [] ∧ (d.eng 0).outDesc = [] ∧
    (d.eng 0).outData.length < 64 ∧ (d.eng 0).ctxWb.length < 4 ∧ 1 ≤ w.toNat / 2 ^ 32 % 2 ^ 16 ∧
    (runs 0 [] id |>.eng 0).outData = [] ∧ (runs 0 [] id |>.eng 0).outTaken = [] ∧
    (∀ n ∈ [0, 4095, 4096], let t := runs 0 [] fun x => { x with outTaken := List.replicate n 0, outData := List.replicate (n / 4096 * 63) 0 }
     engReady t 0 ∧ (t.eng 0).outDesc = [] ∧ (t.eng 0).outTaken.length = n ∧ (t.eng 0).outData.length = n / 4096 * 63) ∧
    engReady full 0 ∧ 64 ≤ (full.eng 0).outData.length ∧
    8 ≤ (full.eng 0).outDesc.length ∧ 16 ≤ (full.eng 0).ctxWb.length ∧ (full.eng 0).inDesc = [] ∧ (full.eng 0).inData = [] := by
  decide +kernel

theorem test_witness_job_streams :
    let j : KeyJob := ⟨0, .session 7 9, 5, [3 * 2 ^ 56 + 5]⟩
    let q : Session := { Session.none with id := 9 }
    let k := runs 64 [] fun x => { x with job := [3], running := some j, xbRd := [(4, false)], xbWd := List.replicate 63 0 }
    let full := runs 64 [] fun x => { x with jobRes := List.replicate 16 0 }
    let m := runs 69 [] fun x => { x with xbRd := [(5, true)] }
    let wait := runs 69 [] fun x => { x with xbWd := List.replicate 64 0 }
    let head : W64 := 2 ^ 40
    engReady k 64 ∧ engClass 64 = 1 ∧ (k.eng 64).job = 3 :: [] ∧ (k.eng 64).jobRes = [] ∧ (k.eng 64).answer = [] ∧
    1 ≤ head.toNat / 2 ^ 40 % 2 ^ 16 ∧ (5 : W64).toNat / 2 ^ 40 % 2 ^ 16 = 0 ∧ (k.eng 64).running = some j ∧
    j.tag = (5 : W64).toNat % 2 ^ 16 ∧ k.silo.jobs = [] ∧ (State.setSession k 7 q).session 7 = some q ∧
    (∀ st ∈ [0, 2], let d : W64 := BitVec.ofNat 64 (3 * 2 ^ 56 + st * 2 ^ 16 + 5)
     d.toNat / 2 ^ 40 % 2 ^ 16 = 0 ∧ j.tag = d.toNat % 2 ^ 16 ∧ j.words.head? = some (3 * 2 ^ 56 + 5) ∧
       (3 * 2 ^ 56 + 5 : W64).toNat / 2 ^ 56 = d.toNat / 2 ^ 56 ∧ d.toNat / 2 ^ 16 % 2 ^ 8 = st) ∧ engReady full 64 ∧
         16 ≤ (full.eng 64).jobRes.length ∧
    (full.eng 64).job = [] ∧ (k.eng 64).xbCmd = [] ∧ (k.eng 64).xbRd = (4, false) :: [] ∧ (k.eng 64).xbWd.length < 64 ∧
    engReady m 69 ∧ (m.eng 69).xbRd = (5, true) :: [] ∧ (5 : W64) ≠ 0 ∧ (m.eng 69).xbWd = [] ∧ engReady wait 69 ∧
    64 ≤ (wait.eng 69).xbWd.length ∧ (wait.eng 69).xbRd = [] ∧ (wait.eng 69).xbCmd = [] ∧
    (BitVec.ofNat 64 (2 ^ 63) : W64).toNat.testBit 63 = true := by decide

/-- The host selects an engine that is in a state. -/
def asked (e st : Nat) (f : Eng → Eng) : State :=
  (fields [(ENG_STATUS.STATE, e, st), (ENG_SEL.ENG, 0, e), (GLB_MODE.MODE, 0, 5), (CLK_STATUS.K_LOCK, 0, 1)] base).updEng e f

theorem test_witness_engine_events :
    (engState (asked 66 engRunning fun x => { x with blocked := some [wholeVal 7 1] }) 66 = engRunning ∧
      ((asked 66 engRunning fun x => { x with blocked := some [wholeVal 7 1] }).eng 66).blocked = some [wholeVal 7 1]) ∧
    ((asked 0 engRunning fun x => { x with timer := 1 }).eng 0).timer ≠ 0 ∧
    (let s := asked 69 engAsleep fun x => { x with timerHit := true }
     engState s 69 = engAsleep ∧ engClass 69 ≠ 1 ∧ linePending s 69 2 = true ∧ linePending s 69 3 = false) ∧
    (let s := asked 67 engAsleep id
     engState s (64 + 3) = engAsleep ∧ kclkLocked s = true) ∧
    (let s := asked 64 engRunning id
     reaches s .eng .host 64 ∧ engState s 64 = engRunning) ∧
    (let s := asked 67 engWedged id
     reaches s .eng .host 67 ∧ engState s 67 = engWedged) ∧
    (let s0 := asked 67 engResetting id
     let s := { s0 with sheaf := { Sheaf.none with code := [⟨false, [], [1, 0, 0, 0] ++ leBytes 8 8 ++ zeros 20⟩] } }
     engState s 67 = engResetting ∧ (codeImage (codeSheaf s 67) 67).isSome = true) := by decide

/-! ### Ports -/

theorem test_witness_refusal : Reg.CH_CHECK.info.blk ≠ .GLB ∧ (∀ c ∈ [5, 1, 2 ^ 16 - 1], c < 2 ^ 16) ∧
    ∀ d ∈ [5, 1, 2 ^ 16 - 1], 1 ≤ d := by decide

theorem test_witness_provision :
    let s := { inMode 5 [(PORT_SEL.PORT, 0, 63)] with sheaf := mapped }
    reaches s .port .host 63 ∧ provisioned s 63 = false ∧ loopbackCauses s 63 0 = [] ∧
    provisionCauses (s.setF PORT_STATUS.PROV 63 1) 63 = [] ∧
    (let u := s.setF PORT_STATUS.PROV 63 1
     reaches u .port .host 63 ∧ provisioned u 63 = true ∧ linkUp u 63 = false ∧ loopbackCauses u 63 0 = [] ∧
       portInUse u 63 = false ∧ clientsOf u 63 = []) ∧
    (let u := ctxs [(Ctx.LINE_PORT, 3, 63)] (fields [(PORT_STATUS.PROV, 63, 1), (CH_STATUS.STATE, 3, stActive)] s)
     reaches u .port .host 63 ∧ provisioned u 63 = true ∧ loopbackCauses u 63 0 = [] ∧ portInUse u 63 = true) := by decide +kernel

theorem test_witness_loopback :
    let s := fun (mode : Nat) (drained : Word) =>
      { (inMode mode [(PORT_SEL.PORT, 1, 32), (PORT_STATUS.PROV, 32, 1)]).setReg .SHF_DRAINED 0 drained with
        sheaf := { mapped with policy := zeros 32 ++ [7] } }
    reaches (s 9 1) .port .me0 32 ∧ provisioned (s 9 1) 32 = true ∧ loopbackCauses (s 9 1) 32 3 = [] ∧
    reaches (s 5 0) .port .me0 32 ∧ loopbackCauses (s 5 0) 32 3 = [0x4F] := by decide +kernel

theorem test_witness_port_registers :
    let s := fun (prov : Nat) => { inMode 6 [(PORT_SEL.PORT, 0, 0), (PORT_STATUS.PROV, 0, prov)] with sheaf := mapped }
    let v : Word := 0x600
    (∀ prov ∈ [0, 1], reaches (s prov) .port .host 0 ∧ provisioned (s prov) 0 = (prov == 1)) ∧
    cfgCauses (s 0) ((s 0).setReg .PORT_CFG 0 (maskedWrite .PORT_CFG 1)) 0 = [] ∧
    cfgCauses (s 1) ((s 1).setReg .PORT_CFG 0 (maskedWrite .PORT_CFG (s 1 |>.reg .PORT_CFG 0))) 0 = [] ∧
    fcCauses ((s 1).setReg .PORT_FC 0 (maskedWrite .PORT_FC 1)) 0 = [] ∧
    thresholdCauses ((s 1).setReg (thrRegName .expLimit) 0 (maskedWrite (thrRegName .expLimit) v)) 0
      (provisioned (s 1) 0 && !isLine 0) = [] ∧
    (∀ x ∈ [PORT_CFG.WIDTH], ((s 1).setReg .PORT_CFG 0 (maskedWrite .PORT_CFG 0xFFFFFFFF)).f x 0 ≠ (s 1).f x 0) ∧
    (63 : Nat) * 2 ^ 12 / 2 ^ 18 % 64 + 63 * 2 ^ 12 / 2 ^ 12 % 64 + 63 * 2 ^ 12 / 2 ^ 6 % 64 + 63 * 2 ^ 12 % 64 ≤ 63 ∧
    63 < (1 + 63 * 2 ^ 12) / 2 ^ 18 % 64 + (1 + 63 * 2 ^ 12) / 2 ^ 12 % 64 + (1 + 63 * 2 ^ 12) / 2 ^ 6 % 64 +
      (1 + 63 * 2 ^ 12) % 64 := by decide +kernel

theorem test_witness_selectors : ∀ b ∈ [(SelBlock.ch, 16383), (.ch, 16384), (.ch, 65535), (.eng, 69), (.eng, 70), (.eng, 127)],
    let s := inMode 5 [((selField b.1).1, 0, b.2)]
    placeOf s .host ((selBlk b.1).base) = .at (selBlk b.1) 0 ∧ placeOf s .host ((selBlk b.1).base + 0x100) = .at (selBlk b.1) 0x100 ∧
    ((selBlk b.1).base + 0x100) % 4 = 0 ∧
    (selected s b.1 .host = none ↔ (b.1 = .ch ∧ 16384 ≤ b.2) ∨ (b.1 = .eng ∧ 69 < b.2)) := by decide +kernel

theorem test_witness_link :
    let s := fun (l : List (Fld × Nat × Nat)) => inMode 6 ((PORT_STATUS.PROV, 0, 1) :: (PORT_STATUS.READY, 0, 1) :: l)
    let a := fun (l : List (Fld × Nat × Nat)) => (s ((PORT_STATUS.LOCK, 0, 1) :: l)).setPort 0 { PortSt.reset with adapted := true }
    (s []).fb PORT_STATUS.READY 0 = true ∧ (s [(PORT_STATUS.LOCK, 0, 1)]).f PORT_STATUS.LOCK 0 = laneMask (s []) 0 ∧
    (∀ up ∈ [0, 1], canAlign (a [(PORT_HOLD.UP_HOLD, 0, up)]) 0 = true ∧ linkUp (a [(PORT_HOLD.UP_HOLD, 0, up)]) 0 = false ∧
      (a [(PORT_HOLD.UP_HOLD, 0, up)]).f PORT_HOLD.UP_HOLD 0 = up ∧ (a [(PORT_HOLD.UP_HOLD, 0, up)]).keys = []) ∧
    (canAlign (a [(PORT_STATUS.LINK, 0, 1)]) 0 = true ∧ linkUp (a [(PORT_STATUS.LINK, 0, 1)]) 0 = true) ∧
    ((s [(PORT_STATUS.ALIGN, 0, 1)]).fb PORT_STATUS.ALIGN 0 = true ∧ linkUp (s [(PORT_STATUS.ALIGN, 0, 1)]) 0 = false) ∧
    (let u := s [(PORT_STATUS.LINK, 0, 1), (PORT_HOLD.DOWN_HOLD, 0, 1)]
     u.fb PORT_STATUS.READY 0 = true ∧ 0 < portWidth u 0 ∧ linkUp u 0 = true ∧ u.f PORT_HOLD.DOWN_HOLD 0 ≠ 0 ∧
       (isLine 0 && framing u 0 == frOtn) = false) ∧
    (s [(PORT_STATUS.HOLD, 0, 1)]).fb PORT_STATUS.HOLD 0 = true ∧ seesLine (s []) 0 = true ∧
    seesLine (s [(PORT_CTL.LPBK, 0, 1)]) 0 = false ∧ (s [(PORT_CTL.LPBK, 0, 1)]).fb PORT_STATUS.READY 0 = true ∧
    (let u := inMode 6 [(PORT_STATUS.HOLD, 63, 1)]
     u.fb PORT_STATUS.HOLD 63 = true ∧ u.sessions = [] ∧ adjacent u (63 - 32) = false ∧ u.fb TWN_CFG.FO_LINK 0 = false) := by
  decide +kernel

/-! ### The data plane: client port 0 and line port 32 with channel 5 -/

/-- Both ports up under a framing, slice 0 ready, the channel ACTIVE with every slot valid and zero keys. -/
def traffic (fr : Nat) (l : List (Fld × Nat × Nat)) (x : List (CtxF × Nat × Nat)) (f : Chan → Chan) : State :=
  let ports := [0, 32].flatMap fun p => [(PORT_STATUS.PROV, p, 1), (PORT_STATUS.READY, p, 1), (PORT_STATUS.LINK, p, 1),
    (PORT_CFG.FRAMING, p, fr), (PORT_CFG.PAIR, p, 32)]
  let s := { inMode 6 (ports ++ (CH_STATUS.STATE, 5, stActive) :: l) with sheaf := mapped }
  let s := s.setSlice 0 { SliceSt.reset with powered := true, ready := true }
  let s := ctxs ([(Ctx.LINE_PORT, 5, 32), (Ctx.PCP_MASK, 5, 1), (Ctx.VALID, 5, 3), (Ctx.IN_VALID, 5, 7), (Ctx.EQ_LIMIT, 5, 64),
    (Ctx.IQ_LIMIT, 5, 64), (Ctx.WEIGHT, 5, 1), (Ctx.NEXT_SEQ, 5, 1), (Ctx.PEER_CH, 5, 5), (Ctx.IN1_EPOCH, 5, 1),
    (Ctx.IN2_EPOCH, 5, 2)] ++ x) s
  s.setChan 5 (f (s.chan 5))

/-- A frame of some length from client port 0 in buffer half 0, which holds zeros. -/
def queued (n : Nat) : QFrame := ⟨n, 0, 0, 0, [(0, n)]⟩

/-- A frame with its FCS. -/
def withFcs (b : List Byte) : List Byte := b ++ Crypto.fcs b

theorem test_witness_pause :
    let s := traffic 0 [(PORT_FC.MODE, 0, 1), (PORT_STATUS.XOFF, 0, 1)] [] fun c =>
      { c with eq := [queued 3000] }
    let f := fun (op q : Nat) => withFcs (zeros 14 ++ beBytes 2 op ++ beBytes 2 q ++ beBytes 2 q ++ zeros 40)
    hears s 0 = true ∧ (∀ op ∈ [1, 0x101, 0, 2], fcsGood (f op 1) = true ∧ beAt (f op 1) 14 2 = op ∧ beAt (f op 1) 16 2 = 1) ∧
    64 ≤ (f 1 1).length ∧ (f 1 1).length ≤ 9600 ∧ (zeros 63).length < 64 ∧ fcsGood (zeros 64) = false ∧
    beAt (f 0x101 1) 18 2 = 1 ∧ bitAt (beAt (f 0x101 1) 16 2) 0 = true ∧ (1 : BitVec 8).getLsbD 0 = true ∧
    provisioned s 0 = true ∧ s.f PORT_FC.MODE 0 = 1 ∧ s.fb PORT_STATUS.XOFF 0 = true := by decide +kernel

theorem test_witness_pause_repeat :
    let s := traffic 0 [(PORT_FC.MODE, 0, 2), (PORT_FC.PFC_PRI, 0, 1), (PORT_STATUS.XOFF, 0, 1),
      (PORT_XON.KIB, 0, 1)] [] fun c => { c with eq := [queued 1000] }
    provisioned s 0 = true ∧ s.f PORT_FC.MODE 0 = 2 ∧ s.fb PORT_STATUS.XOFF 0 = true ∧ s.f PORT_CTL.LPBK 0 = 0 ∧
    1024 * s.f PORT_XON.KIB 0 < occupancy s 0 ∧
    (s.setF PORT_CTL.LPBK 0 2).f PORT_CTL.LPBK 0 = 2 := by decide +kernel

theorem test_witness_client_frame :
    let good := fun (f : List Byte) => fcsGood f = true ∧ 64 ≤ f.length ∧ f.length ≤ 9600 ∧ beAt f 12 2 ≠ 0x8808
    let f := withFcs (zeros 60)
    let fr := f.take (f.length - 4)
    let e : QFrame := ⟨fr.length, 0, (vlanOf fr).2, 0, []⟩
    let at_ := fun (s : State) => hears s 0 = true ∧ framing s 0 ≠ frOtn ∧ s.lost = []
    good f ∧ fcsGood (zeros 64) = false ∧ (zeros 63).length < 64 ∧ 9600 < (zeros 9601).length ∧
    (let s := traffic 0 [(PORT_STATUS.ALIGN, 0, 1)] [] id
     at_ s ∧ s.fb PORT_STATUS.ALIGN 0 = true ∧ classify s 0 (vlanOf fr).1 (vlanOf fr).2 = some 5 ∧ chFraming s 5 = frMacsec ∧
       ctxBit s Ctx.TFC_EN 5 = false ∧ ctx s Ctx.MARK_KIB 5 = 0 ∧
       occupancyAll s 0 + lineLen s 5 e ≤ 1024 * s.f PORT_EXP_LIMIT.KIB 0 ∧
       chanOccupancy s 5 + lineLen s 5 e ≤ 1024 * ctx s Ctx.EQ_LIMIT 5 ∧ hasRoom s (halfOf 0) (s.chan 5).eq 1 ∧
       memQuiet s (71 + halfOf 0)) ∧
    (let s := traffic 0 [(PORT_EXP_LIMIT.KIB, 0, 0)] [] id
     at_ s ∧ classify s 0 0 0 = some 5 ∧ 1024 * s.f PORT_EXP_LIMIT.KIB 0 < occupancyAll s 0 + lineLen s 5 e) ∧
    (let s := traffic 0 [] [(Ctx.PCP_MASK, 5, 2)] id
     at_ s ∧ classify s 0 0 0 = none ∧ polBypass s 0 = false) := by decide +kernel

theorem test_witness_opportunity :
    let f := queued 60
    ∀ here ∈ [true, false],
    let s := traffic 0 [] [] fun c => { c with eq := [f], deficit := if here then 96 else 32 }
    let s := s.setPort 32 { s.port 32 with rrNext := 5, rrHere := here }
    let credit := if (s.port 32).rrHere = true ∧ (s.port 32).rrNext = 5 then 0 else 64 * ctx s Ctx.WEIGHT 5
    lineSends s 32 = true ∧ (titheServe s (32 - 32)).isNone = true ∧ portChans s 32 = [5] ∧ chFraming s 5 = frMacsec ∧
    ctxBit s Ctx.TFC_EN 5 = false ∧ (s.chan 5).eq = f :: [] ∧ lineLen s 5 f ≤ (s.chan 5).deficit + credit ∧
    seqDecide s 5 (macsecBlocks s 5 f.len) = .stay ∧ (takeEngine s 32).isSome = true ∧ s.f TWN_STATUS.ROLE 0 ≠ 1 ∧
    memQuiet s ctxCtl := by decide +kernel

theorem test_witness_bale_out : let b : OpenBale := ⟨[queued 60], 0⟩
    ∀ tfc ∈ [(0, some b), (1, some b), (1, none)], let s := traffic 1 [] [(Ctx.TFC_EN, 5, tfc.1), (Ctx.TFC_LEN, 5, 64)] fun c => { c with openBale := tfc.2 }
      chFraming s 5 = frBale ∧ chRuns s 5 = true ∧ (s.chan 5).eq = [] ∧ s.f TWN_STATUS.ROLE 0 ≠ 1 ∧ memQuiet s ctxCtl ∧
      ctxBit s Ctx.TFC_EN 5 = (tfc.1 == 1) ∧ (s.chan 5).openBale = tfc.2 ∧
      seqDecide s 5 (baleBlocks (recordBytes b.frames)) = .stay ∧
      seqDecide s 5 (baleBlocks (max (recordBytes b.frames) (baleMax s 5))) = .stay ∧
      seqDecide s 5 (baleBlocks (max (recordBytes []) (baleMax s 5))) = .stay := by decide +kernel

theorem test_witness_round_robin : [3, 5] ≠ [] ∧ [3, 5].Pairwise (· < ·) ∧ ∀ c ∈ [3, 5], 1 ≤ (fun _ => 1) c ∧ (fun _ => 16446) c ≤ 16446 := by
  decide

theorem test_witness_slots :
    let r : Root := ⟨zeros 48, 15, 0, true, 0, 0, 0x0101, 2, 1, 5⟩
    ∀ role ∈ [0, 1],
    let s := { traffic 0 [(TWN_STATUS.ROLE, 0, role)] [(Ctx.VALID, 5, 1), (Ctx.IN_VALID, 5, 1)] id with
      keys := [(5, { ChanKey.reset with root := some r })], silo := { Silo.reset with pins := [pinned 1 [] false false] } }
    memQuiet s ctxCtl ∧ inCur s 5 ≤ 2 ∧ s.f TWN_STATUS.ROLE 0 = role ∧ (s.key 5).old = none ∧ ctxBit s Ctx.IMPORT 5 = false ∧
    stReady ≤ chState s 5 ∧ bitAt (ctx s Ctx.VALID 5) (egNext s 5) = false ∧ (s.chan 5).retiring = false ∧ (s.key 5).waitAck = false ∧
    nextEpoch s 5 (ctx s (egEpoch (egCur s 5)) 5) true = some (r, 1) ∧ bitAt (ctx s Ctx.IN_VALID 5) (inNext s 5) = false ∧
    nextEpoch s 5 (ctx s (inEpoch (inCur s 5)) 5) false = some (r, 1) ∧ anBusy s 5 1 = false ∧
    ctxBit (traffic 0 [] [(Ctx.ROOT_OK, 5, 1)] id) Ctx.ROOT_OK 5 = true := by decide +kernel

theorem test_witness_units_leave :
    let u : TxUnit := ⟨5, 0, zeros 90, false, 1⟩
    let s := (traffic 0 [] [(Ctx.PREV_LIVE, 5, 1)] fun c => { c with retiring := true })
    let at_ := fun (us : List TxUnit) => s.setPort 32 { s.port 32 with slots := us }
    (∀ us ∈ [[u], [{ u with discarded := true, tslot := 0 }, u]], lineSends (at_ us) 32 = true ∧
      ((at_ us).port 32).slots.dropWhile (·.discarded) = u :: [] ∧ (at_ us).f PORT_CTL.LPBK 32 = 0) ∧
    (lineSends (at_ [{ u with discarded := true }]) 32 = true ∧
      ((at_ [{ u with discarded := true }]).port 32).slots.dropWhile (·.discarded) = []) ∧
    (s.chan 5).retiring = true ∧ (s.key 5).old = none ∧ memQuiet s ctxCtl ∧ ctxBit s Ctx.PREV_LIVE 5 = true := by decide +kernel

theorem test_witness_delivery : ∀ here ∈ [true, false], ∀ bad ∈ [false, true],
    let s := traffic 0 [] [] fun c => { c with iq := [queued 60], inDeficit := if here then 60 else 0 }
    let s := s.setPort 0 { s.port 0 with rrNext := 5, rrHere := here }
    let s := if bad then { s with errs := [(71, ⟨[0, 1], [], none⟩)] } else s
    let credit := if (s.port 0).rrHere = true ∧ (s.port 0).rrNext = 5 then 0 else 64 * deliveryWeight s 5
    (clientSends s 0 = true ∧ deliveryChans s 0 = [5] ∧ (s.chan 5).iq = queued 60 :: [] ∧ halted s 0 (queued 60) = false ∧
      (queued 60).len ≤ (s.chan 5).inDeficit + credit) ∧
    s.f PORT_CTL.LPBK 0 = 0 ∧ (bad = false → noErrors s) ∧ (bufFetch s (queued 60)).2.1 = bad := by decide +kernel

/-- A MACsec line frame of the channel itself with a packet number, and one with another tag byte. -/
def sealedFrame (s : State) (pn : Nat) (m : KeyMat) : List Byte :=
  let b := macsecFrame s 5 m pn (zeros 60)
  b ++ Crypto.fcs b

/-- The conditions of the statement on MACsec frames that a frame and a state meet whatever its checks say. -/
abbrev macsecArrives (s : State) (f : List Byte) : Prop :=
  isLine 32 = true ∧ hears s 32 = true ∧ framing s 32 = frMacsec ∧ ingressSlices s 32 ≠ [] ∧ fcsGood f = true ∧ 64 ≤ f.length ∧
    f.length ≤ 9632 ∧ beAt f 12 2 = 0x88E5 ∧ pmTitheEtype s ≠ 0x88E5 ∧ noErrors s ∧ s.lost = []

abbrev macsecFound (s : State) (f : List Byte) : Prop := secTagOk f (secTag f) = true ∧ macsecChannel s 32 (secTag f).sci = some 5

theorem test_witness_macsec_taken :
    let s := traffic 0 [] [] id
    let f := sealedFrame s 1 (egMat s 5 0)
    macsecArrives s f ∧ macsecFound s f ∧ inSlotFor s 5 2 ((secTag f).tci % 4) = some 0 ∧ (secTag f).pn = 1 ∧ isXpn s 5 = false ∧
    macsecReplayOk s 5 0 1 = true ∧
    macsecOpen s 5 (inMat s 5 0) (ctxBytes s Ctx.RX_SCI 5) 1 f (secTag f) = some (zeros 60) ∧ 0 = inCur s 5 ∧ memQuiet s ctxCtl ∧
    memQuiet s (71 + halfOf (anchor (chClient s 5))) ∧ hasRoom s (halfOf (anchor (chClient s 5))) (s.chan 5).iq 1 ∧
    iqBytes s 5 + (zeros 60).length ≤ 1024 * ctx s Ctx.IQ_LIMIT 5 := by decide +kernel

theorem test_witness_macsec_forged :
    let s := traffic 0 [] [] id
    let g := sealedFrame s 1 { egMat s 5 0 with key := List.replicate 32 1 }
    macsecArrives s g ∧ macsecFound s g ∧ macsecOpen s 5 (inMat s 5 0) (ctxBytes s Ctx.RX_SCI 5) 1 g (secTag g) = none := by
  decide +kernel

theorem test_witness_macsec_replayed :
    let s := traffic 0 [] [] id
    let g := sealedFrame s 0 (egMat s 5 0)
    macsecArrives s g ∧ macsecFound s g ∧ inSlotFor s 5 2 ((secTag g).tci % 4) = some 0 ∧ (secTag g).pn = 0 := by decide +kernel

theorem test_witness_macsec_keyless :
    let s := traffic 0 [] [] id
    let g := sealedFrame s 1 { egMat s 5 0 with epoch := 3 }
    macsecArrives s g ∧ macsecFound s g ∧ inSlotFor s 5 2 ((secTag g).tci % 4) = none := by decide +kernel

theorem test_witness_macsec_unknown :
    let s := traffic 0 [(CH_STATUS.STATE, 5, stReady)] [] id
    let f := sealedFrame s 1 (egMat s 5 0)
    macsecArrives s f ∧ macsecChannel s 32 (secTag f).sci = none := by decide +kernel

/-- A bale of the channel itself. -/
def balePacket (s : State) (seq : Nat) (m : KeyMat) (payload : List Byte) : List Byte :=
  let b := baleFrame s 5 m seq payload
  b ++ Crypto.fcs b

theorem test_fcs_good (b : List Byte) : fcsGood (b ++ Crypto.fcs b) = true := by
  have h : (Crypto.fcs b).length = 4 := rfl
  simp [fcsGood, h]

/-- The conditions of the statement on bales that a bale of channel 5 meets whatever its checks say; its FCS is good by
`test_fcs_good`. -/
abbrev baleArrives (s : State) (f : List Byte) : Prop :=
  isLine 32 = true ∧ hears s 32 = true ∧ framing s 32 = frBale ∧ ingressSlices s 32 ≠ [] ∧ 74 ≤ f.length ∧
    f.length ≤ 16450 ∧ beAt f 12 2 = pmBaleEtype s ∧ baleHdrOk f (baleHdr f) = true ∧ (baleHdr f).chan = 5 ∧ chRuns s 5 = true ∧
    chLine s 5 = 32 ∧ baleV1 s 5 = (baleHdr f).v1 ∧ noErrors s ∧ s.lost = []

abbrev baleSlot (s : State) (f : List Byte) : Option Nat := inSlotFor s 5 (if (baleHdr f).v1 then 16 else 32) (baleHdr f).epoch

theorem test_witness_bale_taken :
    let s := traffic 1 [] [] id
    let data := balePayload [zeros 60] none
    let f := balePacket s 1 (egMat s 5 0) data
    baleArrives s f ∧ baleSlot s f = some 0 ∧ (baleHdr f).seq ≠ 0 ∧ baleReplayOk s 5 0 (baleHdr f).seq = true ∧
    baleOpen s 5 (inMat s 5 0) f (baleHdr f) = some data ∧ 0 = inCur s 5 ∧ memQuiet s ctxCtl ∧
    (baleHdr f).tfc = ctxBit s Ctx.TFC_EN 5 ∧ beAt data 0 2 ≠ 0xC000 ∧ baleRecords data.length data = ([zeros 60], false) ∧
    memQuiet s (71 + halfOf (anchor (chClient s 5))) ∧ hasRoom s (halfOf (anchor (chClient s 5))) (s.chan 5).iq 1 ∧
    iqBytes s 5 + [zeros 60].flatten.length ≤ 1024 * ctx s Ctx.IQ_LIMIT 5 := by decide +kernel

theorem test_witness_bale_padding :
    let s := traffic 1 [] [] id
    let data := balePayload [] (some 64)
    let f := balePacket s 1 (egMat s 5 0) data
    baleArrives s f ∧ baleSlot s f = some 0 ∧ baleOpen s 5 (inMat s 5 0) f (baleHdr f) = some data ∧ beAt data 0 2 = 0xC000 := by
  decide +kernel

theorem test_witness_bale_refused :
    let s := traffic 1 [] [] id
    let k0 := egMat s 5 0
    let data := balePayload [zeros 60] none
    let f := balePacket s 1 { k0 with key := List.replicate 32 1 } data
    let g := balePacket s 0 k0 data
    let h := balePacket s 1 { k0 with epoch := 7 } data
    (baleArrives s f ∧ baleSlot s f = some 0 ∧ baleOpen s 5 (inMat s 5 0) f (baleHdr f) = none) ∧
    (baleArrives s g ∧ baleSlot s g = some 0 ∧ (baleHdr g).seq = 0) ∧ (baleArrives s h ∧ baleSlot s h = none) := by decide +kernel

/-- OTN Seal with a channel on each OPUC of line port 32. -/
def groups (l : List (CtxF × Nat × Nat)) (f : Chan → Chan) : State :=
  traffic 2 [(CH_STATUS.STATE, 6, stActive)] ([(Ctx.LINE_PORT, 6, 32), (Ctx.OPUC, 6, 1), (Ctx.OTN_GROUP, 5, 1)] ++ l) f

theorem test_witness_otn_descriptor :
    let at_ := fun (n : Nat) => beBytes 4 n ++ [0, 0, 0x10] ++ [Crypto.crc8 (beBytes 4 n ++ [0, 0, 0x10])]
    let hears := fun (s : State) => otnHears s 32 = true ∧ otnChan s 32 0 = some 5 ∧ memQuiet s ctxCtl
    let takes := fun (s : State) (d : List Byte) => takeSeal s 5 (putSeal s 5 (zeros 32) d) = d
    (∀ n ∈ [0, 1], descOk (at_ n) = true) ∧ descOk (zeros 8) = false ∧
    (∀ pos ∈ [0, 1, 2], let s := groups [(Ctx.SEAL_POS, 5, pos)] id
      hears s ∧ takes s (at_ 1) ∧ inSlotFor s 5 16 (beAt (at_ 1) 4 2) = some 0 ∧ ctx s Ctx.SEAL_STATE 5 = sealHunt) ∧
    (∀ st ∈ [1, 2], let s := groups [(Ctx.SEAL_STATE, 5, st)] fun c => { c with rxExp := some ⟨0, 0, [], false⟩ }
      hears s ∧ takes s (at_ 1) ∧ inSlotFor s 5 16 (beAt (at_ 1) 4 2) = some 0 ∧ ctx s Ctx.SEAL_STATE 5 = st ∧
        (s.chan 5).rxExp = some ⟨0, 0, [], false⟩ ∧ otnCounter s 5 (beAt (at_ 1) 0 4) = 0 + 1 ∧ inHighest s 5 < 1) ∧
    (let s := groups [(Ctx.SEAL_STATE, 5, 1)] fun c => { c with rxExp := some ⟨0, 0, [], false⟩ }
     hears s ∧ takes s (at_ 0) ∧ inSlotFor s 5 16 (beAt (at_ 0) 4 2) = some 0 ∧
       otnCounter s 5 (beAt (at_ 0) 0 4) ≤ inHighest s 5) ∧
    (let s := groups [(Ctx.SEAL_STATE, 5, 2), (Ctx.BAD_DESC, 5, 2)] id
     hears s ∧ takes s (zeros 8) ∧ ctx s Ctx.SEAL_STATE 5 = sealLocked ∧ ctx s Ctx.BAD_DESC 5 = 2) := by decide +kernel

theorem test_witness_otn_group :
    let a : OtnAnn := ⟨2, 0, [], false⟩
    let w : OtnPend := ⟨1, 0, 0, zeros 8, [], [], [], none⟩
    let locked := fun (s : State) => otnHears s 32 = true ∧ otnEngines s 32 = true ∧ otnCarries s 32 = true ∧
      otnChan s 32 0 = some 5 ∧ memQuiet s ctxCtl ∧ ctx s Ctx.SEAL_STATE 5 = sealLocked ∧ (s.chan 5).rxExp = some a ∧
      a.replaced = false ∧ (s.chan 5).rxReplace = false ∧ (s.chan 5).rxClear = false ∧ ctxBit s Ctx.OTN_HOLD 5 = false
    (let s := groups [(Ctx.SEAL_STATE, 5, 2)] fun c => { c with rxExp := some a }
     locked s ∧ inSlotFor s 5 32 a.epoch = some 0 ∧ (s.chan 5).rxPend = none ∧ s.f PORT_CTL.LPBK (32 - 32) = 0) ∧
    (let s := groups [(Ctx.SEAL_STATE, 5, 2)] fun c => { c with rxExp := some a, rxPend := some w }
     let want := otnTag s 5 true (inMat s 5 w.slot) w.counter 0 w.desc w.ct
     let got := fun (tag : List Byte) => takeSeal s 5 ((putSeal s 5 (zeros 64) (tag ++ zeros 8)).take 32)
     locked s ∧ (s.chan 5).rxPend = some w ∧ w.held = none ∧ got want = want ∧
       got (beBytes 8 (beNat want + 1)) ≠ want ∧ w.slot = inCur s 5 ∧ inHighest s 5 < w.counter ∧ w.counter < 2 ^ 64) := by
  decide +kernel

theorem test_witness_otn_send :
    let u : OtnUnit := ⟨1, 0, 0, zeros 8⟩
    let s := groups [] fun c => { c with otnNext := some u }
    let sends := fun (s : State) => otnSends s 32 0 = true ∧ s.f PORT_CTL.LPBK 32 = 0 ∧ s.f PORT_CTL.LPBK (32 - 32) = 0
    (sends s ∧ otnCarries s 32 = true ∧ otnEngines s 32 = true ∧ otnChan s 32 0 = some 5 ∧ receiving s (32 - 32) = true ∧
      (s.chan 5).otnNext = some u ∧ seqDecide s 5 otnBlocks = .stay ∧ s.f TWN_STATUS.ROLE 0 ≠ 1 ∧ memQuiet s ctxCtl) ∧
    (let v := traffic 2 [] [] id
     sends v ∧ otnCarries v 32 = false) := by decide +kernel

theorem test_witness_otn_payload : (List.replicate 121856 (0 : Byte)).length = otnGroupBytes := List.length_replicate

/-! ### Register accesses, power, clocks and modes -/

theorem test_witness_unmapped : ∀ b ∈ [(SelBlock.ch, 16384), (.eng, 70)],
    let s := inMode 5 [((selField b.1).1, 0, b.2)]
    s.blkUp (selBlk b.1) = true ∧ selected s b.1 .host = none := by decide +kernel

theorem test_witness_counter_read : ∀ view ∈ [1, 2],
    let s := inMode 5 [(PORT_SEL.PORT, 0, 63), (GLB_IFVER_SEL.VER, 0, view)]
    let hi := view == 1
    let off := if hi then 0x244 else 0x240
    placeOf s .host (0x100000 + off) = .at .PORT off ∧ inWindowRange .PORT off = true ∧ selected s .port .host = some 63 ∧
      ctrAt .PORT off = some (.PORT_RX_FRAMES, 0, hi) ∧ hi = decide (Master.host = .host ∧ hostView s = 1) := by decide +kernel

theorem test_witness_read_clear :
    let s := inMode 5 [(PORT_SEL.PORT, 0, 63)]
    placeOf s .host 0x100138 = .at .PORT Reg.PORT_EXP_OCC.info.off ∧ inWindowRange .PORT 0x138 = true ∧
      selected s .port .host = some 63 := by decide +kernel

theorem test_witness_write_one_to_clear :
    let s := inMode 5 [(PORT_SEL.PORT, 0, 63)]
    placeOf s .host 0x100110 = .at .PORT 0x110 ∧ selected s .port .host = some 63 ∧ 0x100110 % 4 = 0 ∧
      regAt .PORT 0x110 = some (.PORT_EVT, 0) ∧ Reg.PORT_EVT.info.acc = .w1c ∧ Reg.PORT_EVT ≠ .MEM_OVF := by decide +kernel

theorem test_witness_clocks :
    let s := { inMode 5 [(CLK_STATUS.D_LOCK, 0, 1), (CLK_STATUS.K_LOCK, 0, 1), (CLK_STATUS.C_LOCK, 0, 1),
      (CLK_STATUS.REFC_OK, 0, 1), (CLK_STATUS.REFL_OK, 0, 1)] with pllRun := [true, true] }
    let u := s.setF CLK_STATUS.REFC_OK 0 0
    s.pwr.held = none ∧ s.pllRun.getD 0 false = true ∧ s.pllRun.getD 1 false = true ∧ modeSelftest ≤ s.mode ∧
    (∀ p ∈ [Pll.d, .k, .c], s.fb (lockBit p) 0 = true) ∧ s.fb CLK_STATUS.REFC_OK 0 = true ∧ s.fb CLK_STATUS.REFL_OK 0 = true ∧
    u.pwr.held = none ∧ u.fb CLK_STATUS.REFC_OK 0 = false ∧ u.fb CLK_STATUS.REFL_OK 0 = true ∧
    (u.setF CLK_STATUS.CORE_REF 0 1).f CLK_STATUS.CORE_REF 0 = 1 ∧ s.blkUp .CLK = true ∧
    (∀ i : Nat, i < 3 → bitsOf 0x888 (4 * i) 4 ≤ 8) ∧ 8 < 0x889 % 16 ∧
    (∀ p : Nat, p < 64 → s.fb PORT_STATUS.READY p = false) ∧ s.fb TWN_STATUS.LINK0 0 = false ∧ s.fb TWN_STATUS.LINK1 0 = false ∧
    (∀ p : Nat, p < 64 → u.fb PORT_STATUS.READY p = false) := by decide +kernel

theorem test_witness_slice_wake :
    let s := { (inMode 5 []).setSlice 31 { SliceSt.reset with powered := true } with sheaf := { mapped with struct := structOf 0 [] } }
    let t := startEngine (startEngine (s.setF CLK_STATUS.D_LOCK 0 1) 62) 63
    s.pwr.held = none ∧ (s.slice 31).powered = true ∧ (s.slice 31).ready = false ∧ engState t 62 ≠ engWedged ∧
      engState t 63 ≠ engWedged := by decide +kernel

theorem test_witness_feeds :
    let s := inMode 5 [(PWR_STATUS.FEED_A, 0, 1), (PWR_STATUS.FEED_B, 0, 0), (PWR_WAKE_EN.TIMER, 0, 1)]
    s.fb (feedBit 0) 0 = true ∧ (3299 : BitVec 16).toInt < 3300 ∧ s.fb (feedBit 1) 0 = false ∧ 3500 ≤ (3500 : BitVec 16).toInt ∧
    7500 < (7501 : BitVec 16).toInt ∧ (0xFFFF : BitVec 16).toInt < 3300 ∧ powered s = true ∧ (3499 : BitVec 16).toInt < 3500 ∧
    s.fb PWR_STATUS.HOLDUP 0 = false ∧ twinRole s ≠ roleActive ∧ 2900 ≤ (2900 : BitVec 16).toNat ∧
    s.fb PWR_STATUS.BAK_READY 0 = false ∧ (2199 : BitVec 16).toNat < 2200 ∧ anyFeed s = true ∧
    (2499 : BitVec 16).toNat < 2500 ∧ 3600 < (3601 : BitVec 16).toNat ∧ 2500 ≤ (2500 : BitVec 16).toNat ∧
    (3600 : BitVec 16).toNat ≤ 3600 ∧ (∀ k : Nat, k < 4 → engState s (64 + k) ≠ engAsleep) ∧
    (∀ k ∈ [0, 3], let t := fields [(ENG_STATUS.STATE, 64 + k, engAsleep), (CLK_STATUS.K_LOCK, 0, 1)] s
     t.blkUp .PWR = true ∧ bitAt (0xF00 : Word).toNat (8 + k) = true ∧ engState t (64 + k) = engAsleep ∧ kclkLocked t = true) ∧
    s.blkUp .PWR = true ∧ (∀ r ∈ [PwrReg.cfg, .wakeEn, .io], pwrCauses s r 0 = []) ∧ pwrCauses s .wakeTimer 1 = [] ∧
    s.fb PWR_WAKE_EN.TIMER 0 = true := by decide +kernel

theorem test_witness_mode_requests :
    let s := inMode 5 [(PWR_WAKE_EN.GPIO, 0, 1)]
    s.blkUp .GLB = true ∧ modeCauses s modeOperational = [] ∧ modeCauses s modeMaintenance = [] ∧ modeCauses s modeEscapement = [] ∧
    twinRole s ≠ roleActive ∧ twinRole s ≠ roleShadow ∧ s.evc.latch = [] ∧ s.pwr.perst = false ∧
    (∀ i : Nat, i < 17 → s.fb EVC_IN_CFG.MODE i = false) ∧
    (let u := inMode 5 [(GLB_MODE.TRANS, 0, 1)]
     u.blkUp .GLB = true ∧ requestable u modeOperational = true ∧ u.f SHF_STATUS.SOURCE 0 ≠ 2 ∧ u.fb GLB_MODE.TRANS 0 = true) ∧
    (let u := inMode 6 []
     u.blkUp .GLB = true ∧ modeCauses u modeDrain = [] ∧ twinRole u ≠ roleActive ∧ busyChannels u = [] ∧
       requestable u modeOperational = false) ∧
    (let u := inMode 8 []
     u.mode = modeDrain ∧ busyChannels u = [] ∧ twinRole u ≠ roleShadow) := by decide +kernel

theorem test_witness_starts :
    (let s := inMode 0 [(PWR_STATUS.FEED_A, 0, 1)]
     s.mode = modeDormant ∧ anyFeed s = true ∧ s.pwr.bakOut = false) ∧
    (let s := { inMode 1 [] with silo := { base.silo with retired := true } }
     s.mode = modeEscapement ∧ s.fb GLB_MODE.TRANS 0 = false ∧ s.silo.retired = true ∧ s.pending = []) ∧
    (let s := inMode 1 [(CLK_STATUS.REFC_OK, 0, 1), (PWR_WAKE_EN.GPIO, 0, 0x8000), (PWR_WAKE_EN.TIMER, 0, 1)]
     let s := { s with evc := { s.evc with latch := [15] } }
     s.mode = modeEscapement ∧ s.silo.retired = false ∧ coreRef s = true ∧ s.evc.latch.contains 15 = true ∧
       bitAt (s.f PWR_WAKE_EN.GPIO 0) 15 = true ∧ s.fb PWR_WAKE_EN.TIMER 0 = true) ∧
    (let s := inMode 2 []
     s.mode = modeSelftest ∧ s.silo.retired = false ∧ s.silo.identity = true ∧ noErrors s ∧
       ({ s with silo := { s.silo with retired := true } } : State).mode = modeSelftest ∧
       ({ s with silo := { s.silo with identity := false } } : State).silo.retired = false) ∧
    (let s := inMode 5 []
     powered s = true ∧ twinRole s ≠ roleActive ∧ anyFeed s = false ∧ s.blkUp .GLB = true ∧ 0xA5C3 % 2 ^ 16 = 0xA5C3 ∧
       0xA5C2 % 2 ^ 16 ≠ 0xA5C3 ∧ s.fb GLB_MODE.TRANS 0 = false) ∧
    (let s := inMode 5 [(GLB_MODE.TRANS, 0, 1)]
     s.blkUp .GLB = true ∧ s.fb GLB_MODE.TRANS 0 = true) := by decide +kernel

/-- The image in the flash is any that passes its checks (the signature checks are opaque), and a row fails where the free
value says so; an erased slot fails its checks. -/
theorem test_witness_load (flash : Mem) (x : Sheaf) :
    let s := (inMode 4 []).setRam flashRegion flash
    (∀ fl, verifySlot s s.shf.pref fl = (0, x) → s.mode = modeLoading ∧ (hdrFloorReq x.header ≤ s.shf.floor → rowFails s x = false) ∧
      (s.shf.floor < hdrFloorReq x.header → Config.freeBool (s.freeCtr + 1) = true → rowFails s x = true)) ∧
    (inMode 4 []).mode = modeLoading ∧ ∀ fl ∈ [FlashRead.good, .badHead, .badSection],
      0 < (verifySlot (inMode 4 []) (inMode 4 []).shf.pref fl).1 ∧ (verifySlot (inMode 4 []) (inMode 4 []).shf.pref fl).1 < 0x100 := by
  refine ⟨fun fl _ => ⟨show (inMode 4 []).mode = modeLoading by decide +kernel, fun h => ?_, fun h g => ?_⟩, by decide +kernel⟩
  · simp only [rowFails, Nat.not_lt.mpr h, decide_false, Bool.false_and]
  · simp only [rowFails, g, Bool.and_true, decide_eq_true_eq]
    exact h

theorem test_witness_pcie :
    let s := inMode 5 [(CLK_STATUS.REFP_OK, 0, 1), (GLB_PCIE_STATUS.LINK_UP, 0, 1)]
    pcieOn s = true ∧ s.evc.pba = 0 ∧ s.evc.srcs = [] ∧ s.fb GLB_PCIE_STATUS.LINK_UP 0 = true ∧ modeSelftest ≤ s.mode ∧
    s.pcie.ready = false ∧ (let t := { s with pcie := { s.pcie with ready := true } }
     t.pcie.ready = true ∧ t.fb GLB_PCIE_STATUS.LINK_UP 0 = true ∧ t.evc.srcs = [] ∧ t.evc.pba = 0) ∧
    1 ≤ (1 : BitVec 4).toNat ∧ (5 : BitVec 4).toNat ≤ 5 := by decide +kernel

theorem test_witness_time :
    let s := { inMode 5 [(GLB_TOD_CFG.PPS_IN_EN, 0, 1), (GLB_TOD_CFG.PPS_OUT_EN, 0, 1), (GLB_TOD_CFG.TOD_RX_EN, 0, 1),
      (GLB_TOD_CFG.TOD_TX_EN, 0, 1)] with rtc := 1001000 }
    s.blkUp .GLB = true ∧ s.fb GLB_TOD_CFG.PPS_IN_EN 0 = true ∧ s.fb GLB_TOD_CFG.PPS_OUT_EN 0 = true ∧
    { s with tod := { s.tod with edge := true } }.tod.edge = true ∧ s.fb GLB_TOD_CFG.TOD_TX_EN 0 = true ∧ todOn s = true ∧
      todParse (todText 17 0) = some 17 ∧ todParse [] = none ∧
    s.tod.msg = none ∧ (2 : Nat) % 4 = 2 ∧ hostView (s.setF GLB_IFVER_SEL.VER 0 1) ≠ 2 ∧
    (∀ n ∈ [8, 16, 18, 32, 43, 64, 93], aperOk n = true) ∧ Master.me0 ≠ .host := by decide +kernel

theorem test_witness_time_edge :
    let s := { inMode 5 [(GLB_TOD_CFG.PPS_IN_EN, 0, 1)] with rtc := 1001000 }
    let early := { s with tod := { s.tod with msg := some (1, 1000) } }
    let late := { s with tod := { s.tod with msg := some (1, 1000000) } }
    early.tod.msg = some (1, 1000) ∧ 1000 ≤ s.rtc.toNat - (1000 : W64).toNat ∧ s.rtc.toNat - (1000 : W64).toNat ≤ 1000000 ∧
    late.tod.msg = some (1, 1000000) ∧ 1000 ≤ s.rtc.toNat - (1000000 : W64).toNat := by decide +kernel

/-! ### Channel requests and handshakes -/

/-- A policy that allows the suites of both versions, cipher 0 and roots of a day. -/
def policy : List Byte := [0, 0, 0, 0, 1, 1, 0x31, 0, 0, 0, 0, 0, 1, 1, 0, 0, 0, 0, 0, 0, 0xA0, 5, 0, 0] ++ zeros 40

/-- A generator of the Silo. -/
def generator : Crypto.Drbg := ⟨zeros 32, zeros 16⟩

/-- Channel `c` of client port 0 and line port 32, selected by the host, with a pinned peer and labels. -/
def chanOf (c st : Nat) (l : List (Fld × Nat × Nat)) (x : List (CtxF × Nat)) : State :=
  let ports := [0, 32].flatMap fun p => [(PORT_STATUS.PROV, p, 1), (PORT_STATUS.READY, p, 1), (PORT_CFG.PAIR, p, 32)]
  let s := inMode 6 (ports ++ [(CH_SEL.CH, 0, c), (CH_STATUS.STATE, c, st)] ++ l)
  let pin := pinned 7 [] false false
  let s := { s with silo := { s.silo with drbg := some generator, pins := [pin] }, sheaf := { mapped with policy := policy } }
  ctxs (([(Ctx.LINE_PORT, 32), (Ctx.TX_SCI, 1), (Ctx.RX_SCI, 2), (Ctx.PEER_NODE, 7 * 2 ^ 56), (Ctx.EQ_LIMIT, 64),
    (Ctx.IQ_LIMIT, 64), (Ctx.WEIGHT, 1), (Ctx.EPOCH_BLK, 32), (Ctx.EPOCH_TIME, 10000), (Ctx.ROOT_LIFE, 60),
    (Ctx.PREV_HOLD, 1), (Ctx.BALE_TMO, 5), (Ctx.PCP_MASK, 255)] ++ x).map fun (e : CtxF × Nat) => (e.1, c, e.2)) s

theorem test_witness_channel_requests :
    let at_ := fun (s : State) => reaches s .ch .host 16383 ∧ s.f TWN_STATUS.ROLE 0 ≠ 1 ∧ memQuiet s ctxCtl ∧ s.mode = modeOperational
    (let s := chanOf 16383 stDisabled [] []
     at_ s ∧ s.fb CH_CTL.EN 16383 = false ∧ chState s 16383 = stDisabled ∧ ctxBit s Ctx.IMPORT 16383 = false ∧
       ctxBytes s Ctx.TX_SCI 16383 ≠ zeros 8 ∧ ctxBytes s Ctx.RX_SCI 16383 ≠ zeros 8 ∧ reservedNode (peerNode s 16383) = false ∧
       (s.pin (peerNode s 16383)).isSome = true ∧ sessionRoom s = true ∧
       s.silo.identity = true ∧ randomFor s helloDraws = true ∧ ownSuites s ≠ [] ∧ s.f CH_SPARE.FREE 0 ≠ 0 ∧ s.f CH_SPARE.FREE 0 ≤ 1024) ∧
    (∀ x ∈ [Ctx.TX_SCI, Ctx.RX_SCI], let s := chanOf 16383 stDisabled [] [(x, 0)]
     at_ s ∧ s.fb CH_CTL.EN 16383 = false ∧ chState s 16383 = stDisabled ∧ ctxBit s Ctx.IMPORT 16383 = false ∧
       ctxBytes s x 16383 = zeros 8 ∧ (s.session 16383).isNone = true) ∧
    (let s := chanOf 16383 stReady [] [(Ctx.ROOT_OK, 1), (Ctx.SUITE, 0x101)]
     at_ s ∧ s.fb CH_CTL.EN 16383 = false ∧ chState s 16383 = stReady ∧ enableCauses s 16383 = [] ∧
       (s.session 16383).isNone = true ∧ s.keyWait = []) := by decide +kernel

/-- What the wait of a KEY request asks beside the count of sessions. -/
abbrev keyAsked (s : State) : Prop :=
  reaches s .ch .host 16383 ∧ s.f TWN_STATUS.ROLE 0 ≠ 1 ∧ memQuiet s ctxCtl ∧ s.mode = modeOperational ∧
    s.fb CH_CTL.EN 16383 = false ∧ chState s 16383 = stDisabled ∧ ctxBit s Ctx.IMPORT 16383 = false ∧
    ctxBytes s Ctx.TX_SCI 16383 ≠ zeros 8 ∧ ctxBytes s Ctx.RX_SCI 16383 ≠ zeros 8 ∧ reservedNode (peerNode s 16383) = false ∧
    (s.pin (peerNode s 16383)).isSome = true

theorem test_key_asked (s : State) (l : SMap Session) (h : keyAsked s) : keyAsked { s with sessions := l } := h

theorem test_witness_key_waits : ∃ l : SMap Session, let s := { chanOf 16383 stDisabled [] [] with sessions := l }
    keyAsked s ∧ sessionRoom s = false :=
  ⟨List.replicate 16384 (0, Session.none), test_key_asked _ _ (by decide +kernel),
    decide_eq_false (by simp only [List.length_replicate]; omega)⟩

theorem test_witness_running_requests :
    let s := chanOf 16383 stActive [(CH_CTL.EN, 16383, 1)] [(Ctx.VALID, 2)]
    let t := s.setChan 16383 { s.chan 16383 with sakStart := some 0 }
    reaches s .ch .host 16383 ∧ s.f TWN_STATUS.ROLE 0 ≠ 1 ∧ memQuiet s ctxCtl ∧ s.mode = modeOperational ∧
    chState s 16383 = stActive ∧ chFraming s 16383 = frMacsec ∧ s.fb CH_CTL.EN 16383 = true ∧
    egNextReady s 16383 = true ∧ reaches t .ch .host 16383 ∧ memQuiet t ctxCtl ∧
    (t.chan 16383).sakStart.isSome = true ∧
    (let u := chanOf 16383 stDraining [] []
     reaches u .ch .host 16383 ∧ memQuiet u ctxCtl ∧ chState u 16383 = stDraining ∧ (u.session 16383).isNone = true ∧
       u.keyWait = []) := by decide +kernel

theorem test_witness_context_write : ∀ w ∈ [0x204, 0x408],
    let s := chanOf 16383 stDisabled [] []
    let mine := ctxFields.filter fun x => mayWrite .host x && fieldMask x w != 0
    0x200 ≤ w ∧ w < 0x600 ∧ chState s 16383 = stDisabled ∧
      (mine.any fun x => (ctxWord s 16383 w ^^^ 1) &&& fieldMask x w != 0) = true ∧ (1 : Word).toNat % 2 = 1 ∧
      (∃ x ∈ ctxFields, mayWrite .host x = false) ∧ ∃ x ∈ ctxFields, x.cls = .k := by decide +kernel

/-- A live channel: a write of PREV_HOLD that its test lets pass, and one that it refuses. -/
theorem test_witness_live_context_write : ∀ v ∈ [1000, 1001],
    let s := chanOf 16383 stReady [] []
    let w := Ctx.PREV_HOLD.off
    let fs := ctxFields.filter fun x => x.cls == .m && fieldMask x w != 0
    let mask := (ctxFields.filter fun x => mayWrite .host x && fieldMask x w != 0).foldl (fun n x => n ||| fieldMask x w) 0
    let v' := ctxWord s 16383 w - ctx s Ctx.PREV_HOLD 16383 + v
    let changed := fs.filter fun x => (ctxWord s 16383 w ^^^ v') &&& fieldMask x w != 0
    let put := ctxStore s 16383 w mask v' (masterCode .host)
    let codes := ((changed.map liveTest).flatten.map (liveCause put 16383)).flatten ++ cause (changed.any (·.disabled)) 0x2B
    reaches s .ch .host 16383 ∧ memQuiet s ctxCtl ∧ 0x200 ≤ w ∧ w < 0x600 ∧ w ≠ 0x320 ∧ w ≠ 0x324 ∧ v' < 2 ^ 32 ∧
      chState s 16383 ≠ stDisabled ∧ changed ≠ [] ∧ codes = (if v = 1000 then [] else [0x20]) := by decide +kernel

/-- The generator of P-384, a valid public value. -/
def p384G : List Byte :=
  beBytes 48 0xaa87ca22be8b05378eb1c71ef320ad746e1d3b628ba79b9859f741e082542a385502f25dbf55296c3a545e3872760ab7 ++
  beBytes 48 0x3617de4a96262c6f5d9e98bf9292dc29f8f41dbd289a147ce9da3113b5f0b8c00a60b1ce1d7e819d7a431d7c90ea0e5f

/-- A HELLO of version 1 from node 7 for channel 5. -/
def helloMsg (s : State) : List Byte :=
  hsHeader 1 1 224 9 7 s.silo.node 5 false ++ [1, 0, 0, 0x31] ++ zeros 12 ++ hsParams s 5 ++ [2] ++ zeros 7 ++ [1] ++ zeros 7 ++
    zeros 8 ++ [0, 60] ++ zeros 46 ++ p384G

/-- The same module with a message at the head of the receive queue of line port 32. -/
def heard (m : List Byte) (s : State) : State := { s with links := [(0, { LinkQ.reset with msgs := [⟨2, false, 0, 0, 15, m⟩] })] }

abbrev hsReady (s : State) (m : List Byte) : Prop :=
  isLine 32 = true ∧ provisioned s 32 = true ∧ rxHead (s.link (32 - 32)) = some ⟨2, false, 0, 0, 15, m⟩ ∧ s.keyWait = [] ∧
    s.mode = modeOperational ∧ shadows s = false ∧ s.silo.identity = true ∧ memQuiet s ctxCtl ∧ s.f TWN_STATUS.ROLE 0 ≠ 1

theorem test_witness_hello :
    let m := helloMsg (chanOf 5 stKeying [] [])
    let s := heard m (chanOf 5 stKeying [] [])
    hsReady s m ∧ helloFormed s m = true ∧ min 2 (hsVer m) = 1 ∧ versionUsable s 1 = true ∧
    labelChannel s 32 m = some 5 ∧ isPeer s (peerNode s 5) (hsSender m) = true ∧ (s.pin (hsSender m)).isSome = true ∧
    bitAt (byteAt m 26).toNat 0 = false ∧ chState s 5 = stKeying ∧ sliceAt m 48 8 = hsParams s 5 ∧
    chooseSuite s m 1 = some 0x31 ∧ randomFor s offerDraws = true ∧ s.sessions = [] ∧ s.kept = [] ∧
    (∀ f ∈ [(GLB_MODE.MODE, modeShadow), (TWN_STATUS.ROLE, roleShadow)], let t := heard m (fields [(f.1, 0, f.2)] s)
     shadows t = true ∧ provisioned t 32 = true ∧ rxHead (t.link (32 - 32)) = some ⟨2, false, 0, 0, 15, m⟩ ∧ t.keyWait = []) := by decide +kernel

/-- A session of channel 5 under version 1 and suite 0x0031. -/
def sessionOf (initiator : Bool) (accept : List Byte) : Session :=
  { Session.none with
    initiator := initiator, id := 9, peer := 7, ver := 1, suite := 0x31, hello := zeros 32 ++ [1, 0, 0, 0x31] ++ zeros 188,
    accept := accept, life := 60, sends := 1 }

/-- Channel 5 in a state with a session, whose peer has an ECDSA key. -/
def withSession (st : Nat) (x : Session) (key : List Byte) : State :=
  let s := chanOf 5 st [] []
  State.setSession { s with silo := { s.silo with pins := [pinned 7 key false false] } } 5 x

/-- ATTEST that names OPERATIONAL at offset 52. -/
def attest : List Byte := zeros 52 ++ [6] ++ zeros 11

/-! Keys and signatures of the peer: for a hash e, r = e·u2/u1 and s = r/u2 with small u1 and u2 verify under the key that
takes u1·G + u2·Q to the point whose x-coordinate is r. -/

def offerKey : List Byte :=
  beBytes 48 0x26a34bbaf56c0b85435d1900dad0567522984ce02364ed821f1fe512ffcb6a031860f1665d00bea3f142f1732d6d7876 ++
  beBytes 48 0x4e338d4e24ea384b797b3bafa4099d6e9fa8ad786a72c9886c948cdbad017fcd8c33b89bac61388eff5a47dd1d34c78b

/-- An OFFER of version 1. -/
def offerMsg : List Byte :=
  let r := beBytes 48 0x22d570a72f35d24f3b577726f5a15b90fff7295090c11c54a3e0fdff579d7d1cb04272aff539b252d4c91f799bff2a35
  hsHeader 2 1 352 9 7 base.silo.node 5 false ++ [0, 0x31] ++ zeros 62 ++ p384G ++ attest ++ r ++ r

theorem test_witness_offer : ∀ drbg ∈ [none, some generator],
    let x := sessionOf true []
    let t := withSession stKeying x offerKey
    let s := heard offerMsg { t with silo := { t.silo with drbg := drbg } }
    (hsReady s offerMsg ∧ x.accept = [] ∧ randomFor s acceptDraws = drbg.isSome ∧
      s.sessions.find? (fun e => e.2.initiator && (e.2.id == hsSession offerMsg && chLine s e.1 == 32)) = some (5, x)) ∧
    offerReason s 5 x offerMsg = none := by decide +kernel

/-- A CONFIRM of version 1. -/
def confirmMsg : List Byte :=
  hsHeader 4 1 80 9 7 base.silo.node 5 false ++ beBytes 48 0xd5b1b2510ba73ff5145ed10e8bf04a33ea02ef209a2affe2d3a30a8f6a04c5e63f4d16329e06e5fa1dfea400ee1603d0

abbrev confirmArrives (x : Session) (s : State) (m : List Byte) : Prop :=
  hsReady s m ∧ s.sessions.find? (fun e => e.2.initiator && (e.2.id == hsSession m && chLine s e.1 == 32) && e.2.accept != []) =
    some (5, x)

theorem test_witness_confirm :
    let x := sessionOf true [1]
    let s := heard confirmMsg (withSession stKeying x [])
    confirmArrives x s confirmMsg ∧ x.reroot = false ∧ inCur s 5 ≤ 2 ∧ chState s 5 ≠ stDraining ∧ hsFormed confirmMsg 4 = true ∧
    hsReceiver confirmMsg = s.silo.node ∧ hsVer confirmMsg = x.ver ∧ senderReason s 5 confirmMsg = none ∧
    sliceAt confirmMsg 32 48 = Crypto.hmac384 (sessionKeys x x.z).2.1 (th4 x.hello x.offer x.accept confirmMsg) := by
  decide +kernel

def acceptKey : List Byte :=
  beBytes 48 0xd9895d9b701725076bca158f7c03d3013a9f41c3b3ec3f6bd3ba0634b6d1303f84624bfababf52975797bb8189779566 ++
  beBytes 48 0xa592dad6b3f37d043a266308a94da0506704ca7eb587aab89ea6f49b577153f2b38158dad57d3558b9a53efd1fcb6c8a

/-- An ACCEPT of version 1 as far as its MAC, and the whole of it. -/
def acceptHead : List Byte :=
  hsHeader 3 1 240 9 7 base.silo.node 5 false ++ attest ++
  beBytes 48 0x23c1f57a5c11caa6a7f867242dc50b42946542cca7c7198ff90fd4562872f9d3b410a68671492c19f4a552c27c2998df ++
  beBytes 48 0x91e0fabd2e08e55353fc339216e285a14a32a16653e38cc7e03990ec0e5513d986155a1c5cfce9ca70c8b616a4776129

def acceptMsg : List Byte :=
  acceptHead ++ beBytes 48 0xb04aa376dab6d43c8038f2e65bdc82dd051e2b9b11a4f2821a19f910add185b91a557366d29a3b6b6bb2cf78da03da35

abbrev acceptArrives (x : Session) (s : State) (m : List Byte) : Prop :=
  hsReady s m ∧ s.kept = [] ∧
    s.sessions.find? (fun e => !e.2.initiator && (e.2.id == hsSession m && chLine s e.1 == 32)) = some (5, x)

theorem test_witness_accept :
    let x := sessionOf false []
    let s := heard acceptMsg (withSession stKeying x acceptKey)
    acceptArrives x s acceptMsg ∧ x.reroot = false ∧ inCur s 5 ≤ 2 ∧ chState s 5 ≠ stDraining ∧
      acceptReason s 5 x acceptMsg = none := by decide +kernel

theorem test_witness_draining_handshake :
    let x := sessionOf true [1]
    let y := sessionOf false []
    let s := heard confirmMsg (withSession stDraining x [])
    let t := heard acceptMsg (withSession stDraining y [])
    confirmArrives x s confirmMsg ∧ chState s 5 = stDraining ∧ acceptArrives y t acceptMsg ∧ chState t 5 = stDraining := by
  decide +kernel

theorem test_witness_stray_offer :
    let s := heard offerMsg (chanOf 5 stKeying [] [])
    hsReady s offerMsg ∧
      s.sessions.find? (fun e => e.2.initiator && (e.2.id == hsSession offerMsg && chLine s e.1 == 32)) = none := by decide +kernel

theorem test_witness_handshake_timers :
    let at_ := fun (i : Bool) (a : List Byte) (n : Nat) (re : Bool) => { sessionOf i a with sends := n, reroot := re }
    (∀ n ∈ [7, 8], ∀ re : Bool, ∀ a ∈ [[], [1]], (withSession stKeying (at_ true a n re) []).session 5 = some (at_ true a n re)) ∧
    (at_ true [] 8 true).reason = 0 ∧ (withSession stKeying (at_ true [] 8 true) []).keyWait = [] ∧
    (∀ re : Bool, (withSession stKeying (at_ false [] 1 re) []).session 5 = some (at_ false [] 1 re)) ∧
    (withSession stKeying (at_ false [] 1 false) []).kept = [] ∧
    (let s := { withSession stKeying (at_ false [] 1 false) [] with kept := [(5, at_ false [] 1 false)] }
     (∃ e ∈ s.kept, e.1 = 5) ∧ s.keyWait = []) ∧
    (∀ n ∈ [0, 1], let s := ctxs [(Ctx.ROOT_EXP, 5, n)] (withSession stActive (at_ true [] 8 true) [])
      s.session 5 = some (at_ true [] 8 true) ∧ ctxBit s Ctx.ROOT_EXP 5 = (n == 1)) ∧
    State.reset.session 5 = none ∧ State.reset.keyWait = [] := by decide +kernel

theorem test_witness_reroot :
    let s := fun (up : Nat) => (chanOf 5 stActive [(PORT_STATUS.LINK, 32, up)] [(Ctx.ROOT_OK, 1)]).setKey 5
      { ChanKey.reset with due := true }
    ∀ up ∈ [0, 1], rerootOpen (s up) 5 = true ∧ ctxBit (s up) Ctx.ROOT_EXP 5 = false ∧
      ctxBytes (s up) Ctx.TX_SCI 5 ≠ zeros 8 ∧ ctxBytes (s up) Ctx.RX_SCI 5 ≠ zeros 8 ∧
      reservedNode (peerNode (s up) 5) = false ∧ ((s up).pin (peerNode (s up) 5)).isSome = true ∧
      (s up).silo.identity = true ∧ randomFor (s up) helloDraws = true ∧ sessionRoom (s up) = true ∧
      ownSuites (s up) ≠ [] ∧ ((s up).key 5).due = true ∧ linkUp (s up) (chLine (s up) 5) = (up == 1) := by decide +kernel

/-- What a re-root asks beside the count of sessions. -/
abbrev rerootAsked (s : State) : Prop :=
  rerootOpen s 5 = true ∧ ctxBit s Ctx.ROOT_EXP 5 = false ∧ ctxBytes s Ctx.TX_SCI 5 ≠ zeros 8 ∧ ctxBytes s Ctx.RX_SCI 5 ≠ zeros 8 ∧
    reservedNode (peerNode s 5) = false ∧ (s.pin (peerNode s 5)).isSome = true ∧ s.silo.identity = true ∧
    randomFor s helloDraws = true ∧ ownSuites s ≠ []

theorem test_reroot_asked (s : State) (l : SMap Session) (h : rerootAsked s) : rerootAsked { s with kept := l } := h

theorem test_witness_reroot_waits : ∃ l : SMap Session,
    let s := { chanOf 5 stActive [] [(Ctx.ROOT_OK, 1)] with kept := l }
    rerootAsked s ∧ sessionRoom s = false :=
  ⟨List.replicate 16384 (0, Session.none), test_reroot_asked _ _ (by decide +kernel),
    decide_eq_false (by simp only [List.length_replicate]; omega)⟩

/-! ### Fabric and twin -/

/-- A module of an enabled fabric with the key, the peers 7 and 8 pinned, and line port 63 and both twin links up. -/
def fabricOf (l : List (Fld × Nat × Nat)) (f : Fab → Fab) : State :=
  let s := inMode 6 ([(FAB_CFG.EN, 0, 1), (PORT_STATUS.PROV, 63, 1), (PORT_STATUS.READY, 63, 1), (PORT_STATUS.LINK, 63, 1),
    (TWN_STATUS.LINK0, 0, 1), (TWN_STATUS.LINK1, 0, 1)] ++ l)
  let pins := [(7, false), (8, true)].map fun (p : W64 × Bool) => pinned p.1 [] p.2 false
  { s with silo := { s.silo with pins := pins, fabKey := some (0, zeros 32) }, fab := f s.fab, sheaf := { mapped with policy := policy } }

theorem test_witness_tithe_sends :
    let s := fabricOf [] id
    let f : TFrame := ⟨0, zeros 17⟩
    let q := { LinkQ.reset with tx := [f] }
    (let t := s.setLink 31 q
     linkSends t 31 = true ∧ framing t 63 ≠ frOtn ∧ txHead (t.link 31) = some f ∧
       10000 * (f.bytes.length + 38) ≤ (refill t 31).credit) ∧
    (let t := s.setLink 31 { q with credit := 0 }
     framing t 63 ≠ frOtn ∧ txHead (t.link 31) = some f ∧ (refill t 31).credit < 10000 * (f.bytes.length + 38)) ∧
    (let t := (fabricOf [(PORT_CFG.FRAMING, 63, 2)] id).setLink 31 q
     framing t 63 = frOtn ∧ linkSends t 31 = true ∧ txHead (t.link 31) = some f) := by decide +kernel

/-- A tithe frame of one byte from the address 1 to all. -/
def titheOne : List Byte := titheHeader 3 2 true 15 0xFFF 1 9 0 1 1 ++ [5]

abbrev titheFresh (s : State) (l : Nat) (b : List Byte) : Prop :=
  titheFormat b = true ∧ beAt b 2 2 = 0xFFF ∧ byteAt b 11 = 1 ∧
    (s.link l).parts.find? (fun r => r.src == beAt b 4 2 && r.id == BitVec.ofNat 32 (beAt b 6 4) && r.segs == 1) = none ∧
    rxOccupancy (s.link l) < classLimit ((byteAt b 1).toNat / 32)

theorem test_witness_tithe_arrives :
    let s := fabricOf [] id
    let b := titheOne
    (linkHears s 31 = true ∧ framing s 63 ≠ frOtn ∧ titheFresh s 31 b ∧
      10000 * (b.length + titheEthOverhead) ≤ (refill s 31).tokens) ∧
    (let t := s.setLink 31 { LinkQ.reset with tokens := 0, parts := [⟨1, 9, 2, 0, false, 0, 15, []⟩] }
     linkHears t 31 = true ∧ framing t 63 ≠ frOtn ∧ (refill t 31).tokens < 10000 * (b.length + titheEthOverhead) ∧
       (t.link 31).parts.any (fun r => r.src == 1 && r.id == 9) = true) ∧
    (let t := fabricOf [(PORT_CFG.FRAMING, 63, 2)] id
     framing t 63 = frOtn ∧ linkHears t 31 = true ∧ titheFresh t 31 b ∧ (t.link 31).gcc = [] ∧ b.length = 16 + beAt b 12 2 ∧
       ((0 : Word).toNat ≠ beAt (Crypto.fcs b) 0 4) ∧ (t.cnt .FAB_RX_DROP_FMT 31).toNat < 2 ^ 64 - 1) := by decide +kernel

/-- Line port 63 with a message at the head of its receive queue, which a sender gives a type, an originator and a SEQ. -/
def brought (m : List Byte) (s : State) : State :=
  s.setLink 31 { LinkQ.reset with msgs := [⟨3, false, 0, 0, 15, m⟩] }

abbrev brings (s : State) (m : List Byte) (orig : W64) (type : Nat) : Prop :=
  nodeOf (sliceAt m 0 8) = orig ∧ BitVec.ofNat 64 (beAt m 8 8) = 1 ∧ beAt m 16 2 = type ∧
    rxHead (s.link 31) = some ⟨3, false, 0, 0, 15, m⟩

theorem test_witness_fabric_message :
    let s := fabricOf [] id
    let m := fabHeader 7 1 fmLsa 0 ++ [218, 55, 203, 31, 228, 140, 197, 7, 160, 39, 143, 210, 23, 224, 26, 75]
    let own := fabHeader base.silo.node 1 fmLsa 0
    let hello := fabHeader 7 1 fmNhello 0
    (∀ near : Bool, let t := brought m (if near then setNeighbour (s.setF FAB_LINK_STATUS.ADJ 31 1) 31 7 else s)
      brings t m 7 fmLsa ∧ fabOpen t m = some [] ∧ (7 : W64) ≠ ownNode t ∧ highSeq t 7 3 = none ∧
      neighbour t 31 = (if near then 7 else 0) ∧ adjacent t 31 = near) ∧
    (brings (brought (m.take 35) s) (m.take 35) 7 fmLsa ∧ fabOpen (brought (m.take 35) s) (m.take 35) = none) ∧
    (brings (brought own s) own (ownNode s) fmLsa) ∧
    (let t := brought m (fabricOf [] fun f => { f with seqs := [(7, 3, 1)] })
     brings t m 7 fmLsa ∧ highSeq t 7 3 = some 1) ∧
    (brings (brought hello s) hello 7 fmNhello) ∧ rxHead (s.link 31) = none := by decide +kernel

/-- A module with one message that passed R226 over line port 63. -/
def posted (l : List (Fld × Nat × Nat)) (type : Nat) (orig : W64) (body : List Byte) (f : Fab → Fab) : State :=
  fabricOf l fun x => f { x with inbox := [⟨31, 3, orig, 1, type, body, ⟨3, false, 7, 1, 14, body⟩⟩] }

abbrev posts (s : State) (type : Nat) (p : FabMsg → Bool) : Prop := (inboxTake s 31 type p).isSome = true

theorem test_witness_neighbours :
    (∀ i ∈ [7, 0], let n := BitVec.ofNat 64 i
      let b := nhelloBody n 5 4 1
      let s := posted [] fmNhello 0 b id
      posts s fmNhello (fun m => m.body == nhelloBody n 5 4 1) ∧ fabEn s = true ∧ fabLinkUp s 31 = true ∧
      reservedNode n = (i == 0) ∧ (i = 7 → (s.pin n).isSome = true ∧ adjacent s 31 = false ∧
        s.fab.authed.contains 31 = false ∧ linkVersion s 31 4 = some 4)) ∧
    (let x : Lsa := ⟨7, 5, 1, []⟩
     let s := posted [] fmLsa 7 (lsaBody x) id
     posts s fmLsa (fun m => m.body == lsaBody x) ∧ fabEn s = true ∧ x.node ≠ ownNode s ∧
       s.fab.lsdb.find? (fun y => y.node == x.node) = none ∧ fabAddr s = 0 ∧ s.silo.fabKey.isSome = true) ∧
    (let b := nodeBytes 7 ++ beBytes 8 1
     posts (posted [] fmLsaAck 7 b id) fmLsaAck fun m => m.body == b) := by decide +kernel

theorem test_witness_broadcasts :
    let to5 := [(FAB_LINK_STATUS.ADJ, 5, 1)]
    let goesOn := fun (s : State) => 5 ∈ adjLinks s ∧ (s.link 5).tx = []
    (∀ low ∈ [[], [(⟨6, 5, 1, []⟩ : Lsa)]], let s := posted to5 fmAddrReq 7 (addrBody 7 9) fun f => { f with lsdb := low }
      posts s fmAddrReq (fun m => m.body == addrBody 7 9) ∧ fabEn s = true ∧ isRegistrar s = (low == []) ∧
        s.silo.fabKey.isSome = true ∧ (low = [] → grantAddr s 7 9 = some 9) ∧ goesOn s) ∧
    (∀ own : Bool, let n := if own then base.silo.node else 8
      let s := posted to5 fmAddrGrant 7 (addrBody n 9) id
      posts s fmAddrGrant (fun m => m.body == addrBody n 9) ∧ fabEn s = true ∧ (n == ownNode s) = own ∧ goesOn s) ∧
    (let s := posted to5 fmAlarm 7 (alarmBody 1 7 2) id
     posts s fmAlarm (fun m => m.orig == 7 && m.seq == 1 && m.body == alarmBody 1 7 2) ∧ fabEn s = true ∧ goesOn s) ∧
    (fabricOf [] id).fab.inbox = [] := by decide +kernel

theorem test_witness_kill :
    let body := killBody base.silo.node 5 9 1
    let k : KillReq := ⟨1, 7, 9, 63⟩
    (let s := ctxs [(Ctx.PEER_CH, 5, 9), (Ctx.PEER_NODE, 5, 7 * 2 ^ 56)] (posted [(CH_STATUS.STATE, 5, stActive)] fmKill 7 body id)
     posts s fmKill (fun m => m.orig == 7 && m.body == body) ∧ body.length = 40 ∧
       body.drop 24 = (Crypto.sha384 (body.take 24)).take 16 ∧ beAt body 8 2 = 5 ∧ nodeOf (sliceAt body 0 8) = ownNode s ∧
       s.fab.acted.find? (fun e => e.1 == 7) = none ∧ chState s 5 ≠ stDisabled ∧ killFrom s (peerNode s 5) 7 = true ∧
       ctx s Ctx.PEER_CH 5 = beAt body 10 2) ∧
    (let b := beBytes 8 1 ++ [0]
     let s := posted [] fmKillAck 7 b fun f => { f with kills := [(5, k)] }
     posts s fmKillAck (fun m => m.orig == 7 && m.body == b) ∧
       s.fab.kills.find? (fun e => e.2.seq == 1 && isPeer s e.2.target 7) = some (5, k)) := by decide +kernel

theorem test_witness_fabric_timers :
    let s := fabricOf [] id
    let t := fabricOf [] fun f => { f with unacked := [(31, s.silo.node, 1)] }
    let low := fabricOf [] fun f => { f with lsdb := [⟨7, 5, 1, []⟩] }
    fabEn s = true ∧ isRegistrar s = true ∧ fabAddr s = 0 ∧ grantAddr s (ownNode s) (ownPref s) = some 1 ∧
    (fabEn low = true ∧ isRegistrar low = false ∧ fabAddr low = 0 ∧ low.silo.fabKey.isSome = true) ∧
    s.silo.fabKey.isSome = true ∧ (adjacent (s.setF FAB_LINK_STATUS.ADJ 31 1) 31 = true) ∧
    fabLinkUp s 31 = true ∧ (s.link 31).tx = [] ∧
    (t.fab.unacked.any fun u => u.1 == 31 && u.2.1 == ownNode t) = true ∧ s.blkUp .FAB = true ∧
    (∀ a ∈ [(1 : BitVec 12), 4094], a ≠ 0 ∧ a ≠ 4095 ∧ s.reg .FAB_ROUTE a.toNat ≠ maskedWrite .FAB_ROUTE 1) := by decide +kernel

theorem test_witness_fabric_registers :
    let v : Word := 0x80000FFE
    let s := fabricOf [(FAB_CFG.EN, 0, 0)] id
    let k : KillReq := ⟨1, 7, 9, 63⟩
    s.blkUp .FAB = true ∧ s.silo.fabKey.isSome = true ∧ v.toNat % 4096 ≠ 0xFFF ∧ bitAt v.toNat 31 = true ∧ fabEn s = false ∧
    fabAddr s = 0 ∧ (inMode 6 []).silo.fabKey = none ∧ s.fab.killSeq.toNat < 2 ^ 64 - 1 ∧ s.lost = [] ∧ (inMode 6 []).blkUp .FAB = true ∧
    (let t := (ctxs [(Ctx.LINE_PORT, 16383, 63)] (fabricOf [(CH_STATUS.STATE, 16383, stActive)] id)).setKey 16383
       { ChanKey.reset with root := some ⟨zeros 32, 60, 0, true, 0, 0, 0x101, 2, 7, 9⟩ }
     t.blkUp .FAB = true ∧ chState t 16383 ≠ stDisabled ∧ (t.key 16383).root.isSome = true ∧ killPending t 16383 = none ∧
       32 ≤ chLine t 16383 ∧ linkUp t (chLine t 16383) = true ∧ t.silo.fabKey.isSome = true ∧ fabEn t = true) ∧
    (let t := fabricOf [] fun f => { f with kills := [(16383, k)] }
     killPending t 16383 = some k ∧ 32 ≤ k.line ∧ linkUp t k.line = true ∧ t.silo.fabKey.isSome = true) := by decide +kernel

/-- A twin member of a role with the partner 8 pinned, in a mode. -/
def twinOf (mode role : Nat) (partner : Nat) (l : List (Fld × Nat × Nat)) (f : Twin → Twin) : State :=
  let s := fabricOf ([(GLB_MODE.MODE, 0, mode), (TWN_CFG.EN, 0, 1), (TWN_STATUS.ROLE, 0, role)] ++ l) id
  { (s.setReg .TWN_PARTNER 1 (BitVec.ofNat 32 partner)) with twin := f s.twin }

/-- No channel, session or key that a role change would touch. -/
abbrev noChannels (s : State) : Prop := busyChannels s = [] ∧ s.sessions = [] ∧ s.keyWait = [] ∧ s.keys = []

theorem test_witness_twin_roles :
    (∀ sync ∈ [0, 1], let s := twinOf 6 roleActive 8 [(TWN_STATUS.SYNC, 0, sync)] id
     s.blkUp .TWN = true ∧ noChannels s ∧ twinRole s = roleActive ∧ s.fb TWN_STATUS.SYNC 0 = (sync == 1) ∧
       twinLinkUp s = true ∧ s.reg .TWN_CFG 0 = 0x80000000 ∧ leads s = true) ∧
    (let s := fabricOf [] id
     s.blkUp .TWN = true ∧ s.mode = modeOperational ∧ s.reg .TWN_CFG 0 = 0 ∧ (s.silo.pins.any fun p => p.twin) = true ∧
       twinRole s ≠ roleActive) := by decide +kernel

/-- A member whose both links are lost; its partner has the node ID of all ones where it is the lower one. -/
def lostOf (mode role : Nat) (lower : Bool) (l : List (Fld × Nat × Nat)) (f : Twin → Twin) : State :=
  let s := twinOf mode role 8 ([(TWN_STATUS.LINK0, 0, 0), (TWN_STATUS.LINK1, 0, 0)] ++ l) f
  if lower then s.setReg .TWN_PARTNER 0 0xFFFFFFFF else s

abbrev linksDown (s : State) : Prop :=
  noChannels s ∧ s.fb TWN_STATUS.LINK0 0 = false ∧ s.fb TWN_STATUS.LINK1 0 = false ∧ s.fb TWN_CFG.EN 0 = true

theorem test_witness_split : ∀ lower : Bool, ∀ sync ∈ [0, 1], ∀ role ∈ [roleActive, roleShadow],
    let s := lostOf (if role = roleActive then 6 else 7) role lower [(TWN_STATUS.SYNC, 0, sync)] fun t => { t with lost := true }
    linksDown s ∧ s.twin.lost = true ∧ s.fb TWN_CFG.DEAD_IN_EN 0 = false ∧ twinLower s = lower ∧ twinRole s = role ∧
      s.fb TWN_STATUS.SYNC 0 = (sync == 1) := by decide +kernel

theorem test_witness_takeover : ∀ lower : Bool,
    let s := lostOf 7 roleShadow lower [(TWN_CFG.DEAD_IN_EN, 0, 1)] fun t => { t with split := true }
    linksDown s ∧ s.blkUp .TWN = true ∧ twinRole s = roleShadow ∧ twinLower s = lower ∧ s.fb TWN_CFG.DEAD_IN_EN 0 = true ∧ s.twin.split = true ∧
      s.fb TWN_CFG.ACT_EN 0 = false ∧ s.f TWN_CFG.DEAD_GPIO 0 = 0 ∧ s.fb EVC_IN_CFG.POL 0 = false := by decide +kernel

/-- A member in association whose TWIN pin names a node. -/
def pairOf (node : W64) (f : Twin → Twin) : State :=
  let s := twinOf 6 roleAssociating 0 [] f
  { s with silo := { s.silo with drbg := some generator, pins := [pinned node [] true false] } }

abbrev associates (s : State) : Prop := s.fb TWN_CFG.EN 0 = true ∧ s.silo.identity = true

/-- A HELLO of version 2 from node 7 for suite 0x0101; the zero encapsulation key is well-formed. -/
def twinHelloHead : List Byte :=
  hsHeader 1 2 1792 9 7 base.silo.node 0 false ++ [1, 0, 1, 1] ++ zeros 12 ++ zeros 8 ++ nodeBytes 7 ++
    nodeBytes base.silo.node ++ zeros 8 ++ [0, 15] ++ zeros 46 ++ p384G

def twinHelloMsg : List Byte := twinHelloHead ++ zeros 1568

theorem test_chunk_mem {α : Type} (n k : Nat) (l c : List α) (h : c ∈ chunks n k l) : ∀ x ∈ c, x ∈ l := by
  induction k generalizing l with
  | zero => cases h
  | succ k ih =>
    cases l with
    | nil => cases h
    | cons a l =>
      rcases List.mem_cons.mp h with rfl | h
      · exact fun x hx => List.mem_of_mem_take hx
      · exact fun x hx => List.mem_of_mem_drop (ih _ h x hx)

theorem test_zero_tail (h : List Byte) (n : Nat) : sliceAt (h ++ zeros n) h.length n = zeros n := by
  refine List.eq_replicate_iff.mpr ⟨by simp [sliceAt], ?_⟩
  simp only [sliceAt, List.mem_map]
  rintro b ⟨i, -, rfl⟩
  simp only [byteAt, zeros, List.getD_append_right _ _ _ _ (Nat.le_add_right _ _)]
  simp only [List.getD, List.getElem?_replicate]
  split <;> rfl

theorem test_zero_number (c : List Byte) (h : ∀ x ∈ c, x = 0) : leNat c = 0 := by
  induction c with
  | nil => rfl
  | cons a c ih => simp [leNat, h a, ih fun x hx => h x (List.mem_cons_of_mem _ hx)]

/-- The zero encapsulation key is valid. -/
theorem test_zero_key : Crypto.mlkemKeyOk (zeros 1568) = true := by
  have z : ∀ x ∈ zeros 1568, x = 0 := fun x hx => List.eq_of_mem_replicate hx
  simp only [Crypto.mlkemKeyOk, Bool.and_eq_true, List.all_eq_true, Crypto.unpackBits, List.mem_flatMap, List.mem_map]
  refine ⟨by decide +kernel, ?_⟩
  rintro c hc y ⟨d, hd, i, -, rfl⟩
  rw [test_zero_number d fun x hx => z x (test_chunk_mem _ _ _ _ hc x (test_chunk_mem _ _ _ _ hd x hx))]
  simp [bitsOf, Crypto.kemQ]

theorem test_witness_twin_hello :
    let s := pairOf 7 id
    let m := twinHelloMsg
    associates s ∧ hsType m = 1 ∧ s.twin.sess = none ∧ s.twin.kept = none ∧ twinStarts s = false ∧
    twinHelloReason s m = none ∧ twinSuite s m = some 0x101 := by
  have v : helloValuesOk twinHelloMsg 0x101 = true := by
    have l : twinHelloHead.length = 224 := by decide +kernel
    have a := test_zero_tail twinHelloHead 1568
    rw [l, ← twinHelloMsg] at a
    have b : Crypto.p384KeyOk (sliceAt twinHelloMsg 128 96) = true := by decide +kernel
    rw [helloValuesOk, a, b, test_zero_key]
    rfl
  have u : twinSuite (pairOf 7 id) twinHelloMsg = some 0x101 := by decide +kernel
  refine ⟨by decide +kernel, by decide +kernel, by decide +kernel, by decide +kernel, by decide +kernel, ?_, u⟩
  obtain ⟨a, b, c, d, e, f⟩ : hsFormed twinHelloMsg 1 = true ∧ hsReceiver twinHelloMsg = (pairOf 7 id).silo.node ∧
      versionUsable (pairOf 7 id) (min 2 (hsVer twinHelloMsg)) = true ∧ twinSender (pairOf 7 id) twinHelloMsg = none ∧
      hsVer twinHelloMsg = 2 ∧ randomFor (pairOf 7 id) offerDraws = true := by decide +kernel
  rw [twinHelloReason, u, a, b, c, d, e, f, Option.all_some, v]
  simp

theorem test_witness_twin_stranger : ∀ changed : Bool,
    let p := pinned 8 [] true changed
    let s := { pairOf 8 id with silo := { (pairOf 8 id).silo with pins := [p] } }
    let m := twinHelloMsg.take 34 ++ [0x77, 0x77] ++ twinHelloMsg.drop 36
    associates s ∧ hsType m = 1 ∧ s.twin.sess = none ∧ s.twin.kept = none ∧ twinStarts s = false ∧
      twinPin s = some p ∧ s.pin p.node = some p ∧ p.changed = changed ∧
      twinHelloReason s m = some hsNotEnrolled := by decide +kernel

theorem test_witness_twin_repeat :
    let x := { sessionOf false [] with hello := [1] }
    let s := pairOf 7 fun t => { t with sess := some x }
    associates s ∧ s.twin.sess = some x ∧ x.initiator = false ∧ hsType x.hello = 1 ∧
      twinHelloReason (pairOf 7 id) [1] = some hsFormat ∧ 0 < hsFormat ∧ hsFormat < 0x20 := by decide +kernel

/-- The initiator's session, with an OFFER that names this ordering code, and the CONFIRM that closes it. -/
def twinSession : Session := { sessionOf true [1] with offer := zeros 246 ++ [1] }

def twinConfirm : List Byte :=
  confirmMsg.take 32 ++ beBytes 48 0x7d7c7ce58731cc96ff08ec6daac44605b9caffac178fbdd46801bfa8ab281b0bb9640e3af5f664a178b3d2269c4a5d5d

theorem test_witness_twin_confirm : ∀ good : Bool,
    let m := if good then twinConfirm else confirmMsg
    let x := twinSession
    let s := pairOf 7 fun t => { t with sess := some x }
    associates s ∧ s.twin.sess = some x ∧ x.initiator = true ∧ x.id = hsSession m ∧ x.accept ≠ [] ∧ hsFormed m 4 = true ∧
      hsReceiver m = s.silo.node ∧ hsVer m = x.ver ∧ twinSender s m = none ∧ macROk x m = good ∧
      (byteAt (sliceAt x.offer (offAttest x.ver) 64) 54).toNat = s.variant ∧ s.fb TWN_STATUS.ASSOC 0 = false ∧
      twinRole s = roleAssociating ∧ noChannels s := by decide +kernel

theorem test_witness_twin_timer :
    (let s := pairOf 0x4000000000000000 id
     s.fb TWN_CFG.EN 0 = true ∧ twinStarts s = true ∧ s.twin.sess = none ∧ assocBar s = none) ∧
    (let s := pairOf 7 id
     s.fb TWN_CFG.EN 0 = true ∧ twinStarts s = false ∧ s.twin.sess = none) ∧
    (let x := sessionOf false []
     let s := pairOf 7 fun t => { t with sess := some x }
     s.fb TWN_CFG.EN 0 = true ∧ twinStarts s = false ∧ s.twin.sess = some x ∧ 0 < assocTimeout x ∧ assocTimeout x < 0x20) ∧
    (fabricOf [] id).fb TWN_CFG.EN 0 = false := by decide +kernel

theorem test_witness_twin_links :
    ∀ role ∈ [roleActive, roleShadow],
      let s := twinOf (if role = roleActive then 6 else 7) role 8 [(TWN_STATUS.ASSOC, 0, 1)] (fun t => { t with forced := [16383] })
      s.fb TWN_STATUS.ASSOC 0 = true ∧ twinRole s = role ∧ s.twin.forced.contains 16383 = true ∧
      (∀ k : Fin 2, s.fb (if k = 0 then TWN_STATUS.LINK0 else TWN_STATUS.LINK1) 0 = true ∧ adjacent s (32 + k) = false) ∧
      (busyChannels s).all (portsMatch s) = true ∧ s.fb TWN_STATUS.SYNC 0 = false := by decide +kernel

theorem test_witness_ports_differ :
    let s := twinOf 7 roleShadow 8 [(TWN_STATUS.ASSOC, 0, 1), (CH_STATUS.STATE, 5, stActive)] id
    s.fb TWN_STATUS.ASSOC 0 = true ∧ twinRole s = roleShadow ∧ (busyChannels s).all (portsMatch s) = false := by decide +kernel

/-! Sealed frames of the partner, which bring the sequence number 1. -/

/-- A SHADOW, and an ACTIVE that awaits an acknowledgement. -/
def shadowOf (sync : Nat) : State := twinOf 7 roleShadow 8 [(TWN_STATUS.ASSOC, 0, 1), (TWN_STATUS.SYNC, 0, sync)] id
def activeOf : State :=
  twinOf 6 roleActive 8 [(TWN_STATUS.ASSOC, 0, 1)] fun t => { t with resDue := [(16383, 9)], fullDone := true }

abbrev carriesFrame (s : State) (n w kind : Nat) (body : List Byte) : Prop :=
  s.fb TWN_STATUS.ASSOC 0 = true ∧ twinOpen s 0 (beBytes n w) = some (BitVec.ofNat 8 kind :: body)

theorem test_witness_relinquish :
    noChannels (shadowOf 1) ∧ twinRole (shadowOf 1) = roleShadow ∧ (shadowOf 1).fb TWN_STATUS.SYNC 0 = true ∧
      carriesFrame (shadowOf 1) 25 0x1c90d2ab23b305adcc0aa587cf94630a027 twinRelinquish [] ∧ twinOpen (shadowOf 1) 0 [] = none := by
  decide +kernel

theorem test_witness_mirror :
    twinRole (shadowOf 0) = roleShadow ∧ (shadowOf 0).twin.fullDone = false ∧ memQuiet (shadowOf 0) ctxCtl ∧
    carriesFrame (shadowOf 0) 35 0x1c45cd276587bd6017f28bb904c3b9b76a0dc1ae6e4866a3d7581d9 twinReservation
      (mirBody (.reservation 16383 9)) ∧
    carriesFrame (shadowOf 0) 37 0x1c25cd2745c7bd6018028b2f6be245d3cbe75107d98f29cf5269cb3dd2b twinField
      (mirBody (.field 16383 0x204 0xFF 7)) ∧
    carriesFrame (shadowOf 0) 67
      0x1c65cd276587bd6017f28bbf6b99726282dca90d66bbd7719de96380c468bc765bb9b1d491df02b9ae73763b14bb01ee245d3623e41cde2edbd3c28
      twinHeartbeat (mirBody (.heartbeat [⟨16383, 9, [1, 1, 1], 1, []⟩])) ∧
    carriesFrame (shadowOf 0) 30 0x1cd5cad76587b66d92577ff6113a3e8d81907b4f9c0f2 twinPort (mirBody (.port 63 0x80000000)) := by
  decide +kernel

theorem test_witness_mirrored_root :
    carriesFrame (shadowOf 0) 107
      0x1c05cd276587bd6017f28b2f6b99726282dca91d66bbd7719de96390c468bc765bb9b1c491df02b9ae737623d12cf6515179d6f3bf7d0da92fc9ed2a134963cc7aa0db3a05bb75a915110ece962fb7f207a541998bbad35eab144875cae9f2efe3b66eb
      twinRoot (mirBody (.root 16383 (zeros 48) 60 5 true 1 1 0x101 2 7 2)) := by decide +kernel

theorem test_witness_acknowledged :
    twinRole activeOf = roleActive ∧ memQuiet activeOf ctxCtl ∧ activeOf.twin.fullDone = true ∧
    (activeOf.twin.resDue.find? fun x => x.1 == 16383 && x.2 == 9) = some (16383, 9) ∧
    carriesFrame activeOf 36 0x1c8621289587bd6017f28b2ff42148596f7fc329e75b64c811fa08335 twinAck (ackBody (.reservation 16383 9)) ∧
    carriesFrame activeOf 27 0x1c8612cc196c061731858366afe88daeb6b6193 twinAck (ackBody (.sync true)) := by decide +kernel

theorem test_witness_twin_tithe :
    let f := beBytes 42 0x1ca607279a77bd7017f28bbf6b89727282dcf09bec74f52c633c4c05dca5312b8ec9b
    titheFresh (shadowOf 0) 32 titheOne ∧
      (twinArrive (shadowOf 0) 0 f).1 = some (BitVec.ofNat 8 twinTithe :: titheOne) := by decide +kernel

/-! ### Protected memory, crossbar and host windows -/

/-- The host's memory selector at a controller, with what the controller holds. -/
def memOf (mode k : Nat) (l : List (Fld × Nat × Nat)) (c : MemCtl) : State :=
  ({ inMode mode ((MEM_SEL.CTRL, 0, k) :: l) with valid := [(5 * 75 + k, true)] }).setMemc k c

theorem test_witness_memory_errors :
    let x : Track := ⟨5, 2, 0, false⟩
    let s := memOf 6 71 [(MEM_CFG.RETIRE_H, 71, 1)] { MemCtl.reset with writeBack := [5], tracks := [x], retiring := [9] }
    noErrors s ∧ [0, 71].Nodup ∧ (∀ i ∈ [0, 71], i < 72) ∧ (0 : Nat) < 64 ∧ 63 < 64 ∧ wordValid s 71 5 = true ∧
    (s.memc 71).writeBack.contains 5 = true ∧
    (liveTracks s 71).find? (fun t => t.word == 5) = some x ∧ x.count = 2 ∧
    (s.memc 71).writeBack.contains 6 = false ∧ (s.memc 71).retiring.contains 9 = true ∧
    (s.memc 71).retiring.contains 8 = false ∧ (usedPages s 0).contains 9 = false ∧
    (usedPages (s.setChan 5 { s.chan 5 with eq := [queued 64] }) 0).contains 0 = true ∧
    (let t := { memOf 6 71 [(MEM_CFG.SCRUB_LIGHT, 71, 1)] MemCtl.reset with errs := [(71 + 75 * 5, ⟨[3], [], none⟩)] }
     wordValid t 71 5 = true ∧ t.fb MEM_CFG.SCRUB_LIGHT 71 = true ∧ (t.memc 71).writeBack = []) ∧
    (∀ cp : Fin 3, let t := { memOf 6 71 [(MEM_CFG.SCRUB_LIGHT, 71, 1)] MemCtl.reset with errs := [(71 + 75 * 5, ⟨[], [], some cp⟩)] }
     wordValid t 71 5 = true ∧ t.fb MEM_CFG.SCRUB_LIGHT 71 = true ∧ (t.memc 71).fifo.length < 16 ∧ (wordErr t 71 5).odd = some cp) ∧
    (wordErr s 71 5).odd = none := by decide +kernel

theorem test_witness_granary :
    let s := { inMode 6 [] with silo := { base.silo with fabKey := some (0, zeros 32) } }
    (∀ w ∈ [0, 3081], ∀ i ∈ [0, 1], w < granaryWords ∧ [64, 65, 66].length = 3 ∧ [64, 65, 66].Nodup ∧
      (∀ x ∈ [64, 65, 66], x < 80) ∧ (granaryWord s w).isSome = true ∧
      ({ s with errs := [(granaryCtl + 75 * (w + granaryWords * i), ⟨[64, 65, 66], [], none⟩)] } : State).silo.latch = false) ∧
    s.mode ≠ modeDormant ∧ s.mode ≠ modeRetired := by decide +kernel

theorem test_witness_small_memories :
    let u : TxUnit := ⟨5, 69, [], false, 7⟩
    let s := (memOf 6 74 [] MemCtl.reset).setPort 63 { PortSt.reset with slots := [u] }
    let t := (s.updEng 69 fun x => { x with cache := [(0, [])] }).setLink 33 { LinkQ.reset with tx := [⟨0, []⟩], msgs := [⟨0, false, 0, 0, 15, []⟩] }
    (∀ k : Fin 75, (s.memc k).fifo.length < 16) ∧ (t.eng 69).cache[0]? = some (0, []) ∧
    s.ports.find? (fun q => q.2.slots.any fun u => u.eng == 69 && u.tslot == 7 && !u.discarded) =
      some (63, { PortSt.reset with slots := [u] }) ∧
    0 < (t.link 33).msgs.length ∧ 0 < (t.link 33).tx.length ∧ memQuiet s ctxCtl := by decide +kernel

theorem test_witness_memory_requests :
    let s := memOf 6 71 [] MemCtl.reset
    let b := memOf 6 71 [(MEM_STATUS.SCRUB_BUSY, 71, 1)] MemCtl.reset
    let f := memOf 6 74 [] MemCtl.reset
    reaches s .mem .host 71 ∧ (0x20000000 : Word).toNat / 2 ^ 28 = 2 ∧ s.fb MEM_STATUS.SCRUB_BUSY 71 = false ∧
    reaches b .mem .host 71 ∧ b.fb MEM_STATUS.SCRUB_BUSY 71 = true ∧ reaches f .mem .host 74 ∧
    (0x10000009 : Word).toNat / 2 ^ 28 = 1 ∧ retireCauses s 71 9 = [] ∧ (usedPages s 0).contains 9 = false ∧
    (let t := s.setChan 5 { s.chan 5 with eq := [queued 64] }
     reaches t .mem .host 71 ∧ retireCauses t 71 0 = [] ∧ (usedPages t 0).contains 0 = true) ∧ reaches (memOf 6 73 [] MemCtl.reset) .mem .host 73 ∧
    (∀ h ∈ [1, 168], 1 ≤ h ∧ h ≤ 168) ∧ (∀ h ∈ [0, 169], h = 0 ∨ 168 < h) ∧ flipCauses s 71 0 = [] ∧
    (let t := memOf 9 71 [] MemCtl.reset
     reaches t .mem .host 71 ∧ flipCauses t 71 0x10001 = [] ∧ 0x10001 / 2 ^ 16 % 4 ≠ 0) ∧
    0x10001 / 2 ^ 16 % 4 ≠ 0 ∧ s.mode ≠ modeMaintenance ∧ (∀ n ∈ [1, 2, 4], n % 8 = n) ∧
    (0x80000000 : Word).toNat / 2 ^ 31 = 1 ∧ (0 : Word).toNat / 2 ^ 31 = 0 ∧ memQuiet s 74 ∧ memQuiet s 0 ∧
    Mem.wf (ramDefault s 74) (s.ram 74) = true := by decide +kernel

/-- One beat of a master at an address. -/
def beat (m : XMaster) (w : Bool) (a : Nat) (beats : Nat) : XReq :=
  ⟨m, w, BitVec.ofNat 48 a, beats, List.replicate (32 * beats) 7, List.replicate (32 * beats) true⟩

abbrev inside (s : State) (r : XReq) : Prop :=
  xBase r / 4096 = (xBase r + xLen r - 1) / 4096 ∧ xBase r + xLen r ≤ (targetOf s (xBase r)).2 ∧
    targetUp s (targetOf s (xBase r)).1 = true

theorem test_witness_bursts :
    let s := inMode 6 []
    let top := bufBase + 4096 * halfPages s
    (∀ r ∈ [beat .host true bufBase 16, beat .host true (top - 32) 1, beat .dmaW false bufBase 1], mayAsk s r.master = true ∧
      inside s r ∧ (targetOf s (xBase r)).1 = .buffer ∧ forbidden r.master r.write .buffer = none ∧
      memQuiet s (bufPlace (xBase r)).1) ∧
    noErrors s ∧ ¬ inside s (beat .host true (bufBase + 2 * bufHalf) 1) ∧ ¬ inside s (beat .host true (bufBase + 4064) 2) ∧
    (let r := beat .ke0 true bufBase 1
     mayAsk s r.master = true ∧ inside s r ∧ forbidden r.master r.write (targetOf s (xBase r)).1 = some rDecErr) ∧
    (let r := beat .host true 0 2
     mayAsk s r.master = true ∧ inside s r ∧ (targetOf s (xBase r)).1 = .regs ∧ forbidden r.master r.write .regs = none ∧
       (blockAt (xBase r)).isSome = true ∧ xLen r ≠ 32) ∧ s.dbg = false := by decide +kernel

theorem test_witness_grants :
    let arb := fun (n : Nat) => ({ XArb.reset with twinRun := n } : XArb)
    let waiting := [XMaster.twin, .host]
    XMaster.twin ∈ waiting ∧ (arb 3).twinRun < 4 ∧ 4 ≤ (arb 4).twinRun ∧ nextOther (arb 4).last waiting = some .host ∧
    XMaster.twin ∉ [XMaster.host] := by decide

theorem test_witness_host_windows :
    let s := inMode 6 [(GLB_PCIE_STATUS.LINK_UP, 0, 1)]
    let d := inMode 0 [(GLB_PCIE_STATUS.LINK_UP, 0, 1)]
    s.fb GLB_PCIE_STATUS.LINK_UP 0 = true ∧ targetUp s .sram = true ∧ memQuiet s sramCtl ∧ noErrors s ∧
    (∀ o ∈ [(0, 32), (31, 1), (0x7FFFE0, 32)], 0 < o.2 ∧ o.1 % 32 + o.2 ≤ 32 ∧
      o.1 / 32 * 32 + 32 ≤ min 0x800000 (codeStoreAt s)) ∧
    d.fb GLB_PCIE_STATUS.LINK_UP 0 = true ∧ targetUp d .sram = false ∧ d.fb GLB_HOST_ERR.VALID 0 = false ∧
    (inMode 6 []).fb GLB_PCIE_STATUS.LINK_UP 0 = false ∧ s.blkUp .HLTH = true ∧ (63 : Byte).toNat < 64 ∧
    d.pcie.aerMask.toNat.testBit 20 = false ∧ s.hlth.addr ≠ some 9 ∧ (0x5B : BitVec 7) ≠ 0x5A ∧ (inMode 0 []).blkUp .HLTH = false ∧
    (let t := { s with hlth := { s.hlth with addr := some 9 } }
     t.blkUp .HLTH = true ∧ t.hlth.addr = some 9) := by decide +kernel

/-! ### Events -/

/-- One source in a state, and fields. -/
def evcOf (mode : Nat) (l : List (Fld × Nat × Nat)) (n : Nat) (x : EvSrc) : State := (inMode mode l).setSrc n x

theorem test_witness_firings :
    let masked := fun (n : Nat) => [(EVC_SRC_CFG.MASK, n, 1)]
    let edge := fun (s : State) (n : Nat) => cclkStopped s = false ∧ srcFused s n = false ∧ srcKind s n = .edge
    (∀ st ∈ [0, 1, 2, 3, 4],
      let s := evcOf 5 (masked 119) 119 { EvSrc.reset with st := st }
      edge s 119 ∧ (s.src 119).st = st ∧ srcMasked s 119 = true ∧ s.blkUp .EVC = true) ∧
    (let s := evcOf 5 [(EVC_GRP.COUNT, 14, 256)] 119 EvSrc.reset
     edge s 119 ∧ (s.src 119).st = 0 ∧ srcMasked s 119 = false ∧ (s.grp 14).count + 1 < s.f EVC_GRP.COUNT 14) ∧
    (let s := evcOf 5 [(EVC_SRC_CFG.TGT, 119, 1), (ENG_STATUS.STATE, 68, engRunning)] 119 EvSrc.reset
     edge s 119 ∧ srcMasked s 119 = false ∧ s.f EVC_GRP.COUNT 14 ≤ (s.grp 14).count + 1 ∧ nextTarget s 119 = some 0 ∧
       (∀ j : Nat, j < 512 → j / 8 = 14 → j ≠ 119 → (s.src j).st ≠ 1)) := by decide +kernel

theorem test_witness_message :
    let s := (evcOf 5 [(GLB_PCIE_STATUS.MSIX_EN, 0, 1), (GLB_PCIE_STATUS.LINK_UP, 0, 1)] 119 EvSrc.reset).setMsixEnt 0 ⟨0, 0, false⟩
    cclkStopped s = false ∧ srcKind s 119 = .edge ∧ (s.src 119).st = 0 ∧ s.f EVC_GRP.COUNT 14 ≤ (s.grp 14).count + 1 ∧
    nextTarget s 119 = some 2 ∧ msixRuns s = true ∧ s.f EVC_SRC_CFG.VECTOR 119 = 0 ∧ s.evc.disarmed.contains 0 = false ∧
    (s.msixEnt 0).masked = false ∧ (∀ j : Nat, j < 512 → j / 8 = 14 → j ≠ 119 → (s.src j).st ≠ 1) := by decide +kernel

theorem test_witness_level :
    let x := fun (st : Nat) (edge cond : Bool) => ({ EvSrc.reset with st := st, edge := edge, cond := cond } : EvSrc)
    (let s := evcOf 5 [(PORT_EVT.LINK_UP, 0, 1), (PORT_EVT_EN.ALL, 0, 255), (EVC_SRC_CFG.MASK, 0, 1)] 0 (x 0 false false)
     cclkStopped s = false ∧ srcKind s 0 = .level ∧ srcFused s 0 = false ∧ srcCond s 0 = true ∧ (s.src 0).cond = false ∧
       (s.src 0).st = 0 ∧ srcMasked s 0 = true) ∧
    (∀ y ∈ [x 1 false true, x 2 false true, x 1 true true, x 3 false true],
      let s := evcOf 5 [] 0 y
      cclkStopped s = false ∧ srcKind s 0 = .level ∧ srcCond s 0 = false ∧ (s.src 0).cond = true ∧ s.src 0 = y) := by decide +kernel

theorem test_witness_targets :
    (let s := (evcOf 5 [(EVC_SRC_CFG.TGT, 0, 1)] 0 EvSrc.reset).setGrp 0 ⟨true, 1⟩
     (s.grp 0).running = true ∧ cclkStopped s = false ∧ ∀ k : Nat, k < 8 → nextTarget
       (fields ((List.range 8).map fun i => (EVC_SRC_CFG.TGT, i, 1)) s) (8 * 0 + k) ≠ some 2) ∧
    (let x : EvSrc := { EvSrc.reset with st := 2, last := some 2 }
     let s := evcOf 5 [(EVC_CTL.TGT_EN, 0, 1), (ENG_STATUS.STATE, 68, engRunning), (EVC_SRC_CFG.TGT, 5, 7)] 5 x
     eligible s 0 = true ∧ eligible s 2 = false ∧ s.evc.srcs = [(5, x)] ∧ x.last = some 2 ∧ x.st = 2 ∧ nextTarget s 5 = some 0) ∧
    (let x : EvSrc := { EvSrc.reset with st := 3, last := some 2 }
     let s := evcOf 5 [(EVC_CTL.TGT_EN, 0, 1)] 5 x
     eligible s 2 = false ∧ s.evc.srcs = [(5, x)] ∧ x.last = some 2 ∧ x.st = 3 ∧ srcCond s 5 = false) := by decide +kernel

theorem test_witness_inputs : ∀ i ∈ [0, 15, 16],
    (let s := inMode 1 []
     cclkStopped s = true ∧ gpioOut s i = false ∧ inputActive s i = false ∧ true ≠ s.fb EVC_IN_CFG.POL i ∧
       s.evc.latch.contains i = false ∧ s.twin.split = false) ∧
    (let s := inMode 5 [(EVC_SRC_CFG.MASK, 104 + i, 1)]
     let t := { s with evc := { s.evc with latch := [i] } }
     cclkStopped s = false ∧ gpioOut s i = false ∧ srcKind s (104 + i) = .edge ∧ true ≠ s.fb EVC_IN_CFG.POL i ∧
       (s.src (104 + i)).cond = false ∧ (s.src (104 + i)).st = 0 ∧ srcMasked s (104 + i) = true ∧ s.twin.split = false ∧ t.evc.latch = [i] ∧
       t.evc.latch2 = [] ∧ (t.src (104 + i)).st = 0) := by decide +kernel

/-- No other source than the one listed has a state. -/
theorem test_only_source (s : State) (n : Nat) (x : EvSrc) (h : s.evc.srcs = [(n, x)]) (j : Nat) (hj : (s.src j).st = 2) : j = n := by
  by_contra hn
  simp [State.src, h, SMap.get, Ne.symm hn, EvSrc.reset] at hj

theorem test_witness_claims :
    let x : EvSrc := { EvSrc.reset with st := 2, last := some 2 }
    let s := evcOf 5 [] 511 x
    let t := inMode 5 []
    (SMap.sorted s.evc.srcs = true ∧ s.blkUp .EVC = true ∧ (s.src 511).st = 2 ∧ (s.src 511).last = some 2 ∧
      s.f EVC_SRC_CFG.VECTOR 511 = 0 ∧ SMap.sorted t.evc.srcs = true ∧ t.blkUp .EVC = true) ∧
    (∀ j, (s.src j).st = 2 → j = 511) ∧ (∀ j, ¬ (t.src j).st = 2) := by
  refine ⟨by decide +kernel, test_only_source _ 511 { EvSrc.reset with st := 2, last := some 2 } rfl, fun j h => ?_⟩
  have e : (inMode 5 []).src j = EvSrc.reset := rfl
  rw [e] at h
  exact absurd h (by decide)

theorem test_witness_engine_claims : ∀ e ∈ [68, 69],
    let x : EvSrc := { EvSrc.reset with st := 2, last := some (e - 68) }
    let s := (runs e [] id).setSrc 511 x
    engState s e = engRunning ∧ (s.eng e).blocked = none ∧ engClass e = 2 ∧ s.evc.srcs = [(511, x)] ∧
      (runs e [] id).evc.srcs = [] ∧ (511 : W64).toNat = 511 := by decide +kernel

theorem test_witness_completions :
    let at_ := fun (x : EvSrc) (l : List (Fld × Nat × Nat)) => evcOf 5 ((EVC_SRC_CFG.MASK, 0, 1) :: l) 0 x
    let on := [(PORT_EVT.LINK_UP, 0, 1), (PORT_EVT_EN.ALL, 0, 255)]
    let x : EvSrc := { EvSrc.reset with st := 3, last := some 2 }
    (let s := at_ x []
     (s.src 0).st = 3 ∧ (s.src 0).last = some 2 ∧ srcCond s 0 = false) ∧
    (let s := at_ { x with st := 4, edge := true } []
     (s.src 0).st = 4 ∧ (s.src 0).last = some 2 ∧ (s.src 0).edge = true ∧ srcMasked s 0 = true) ∧
    (∀ k ∈ [62, 63],
      let s := at_ { x with repends := k } on
      (s.src 0).st = 3 ∧ (s.src 0).last = some 2 ∧ srcCond s 0 = true ∧ srcKind s 0 = .level ∧ srcMasked s 0 = true ∧
        (s.src 0).repends = k) ∧
    ((inMode 5 []).src 0).st ≠ 3 ∧ ((inMode 5 []).src 0).st ≠ 4 := by decide +kernel

theorem test_witness_event_settings :
    let s := evcOf 5 [] 0 { EvSrc.reset with st := 2, last := some 2 }
    let ha := { inMode 5 [] with variant := 3 }
    s.blkUp .EVC = true ∧ ha.blkUp .EVC = true ∧ srcFused ha 16 = true ∧ srcFused s 0 = false ∧ (s.src 0).st = 2 ∧
    (s.src 511).st = 0 ∧ srcMasked s 0 = false ∧ (0x10004 : Nat) / 2 ^ EVC_SRC_CFG.MASK.lo % 2 = 1 ∧
    (4 : Nat) / 2 ^ EVC_SRC_CFG.MASK.lo % 2 = 0 ∧ (∀ n ∈ [1, 256], 1 ≤ (0x10000 + n) % 512 ∧ (0x10000 + n) % 512 ≤ 256 ∧
      (0x10000 + n) / 2 ^ 16 ≠ 0) ∧ (s.grp 0).running = false ∧ 256 < 257 % 512 ∧ (inMode 5 []).evc.srcs = [] ∧
    gpioOut s 0 = false ∧ 10 ≤ 10 % 16 ∧ 9 % 16 < 10 ∧ (9 : Nat).testBit 9 = false := by decide +kernel

/-- An input that a setting makes active or inactive as a level source. -/
theorem test_witness_input_setting : ∀ i ∈ [0, 15],
    let s := fun (mode pin : Nat) (y : EvSrc) =>
      let s := evcOf 5 [(EVC_IN_CFG.MODE, i, mode), (EVC_SRC_CFG.MASK, 104 + i, 1)] (104 + i) y
      { s with evc := { s.evc with pins := pin * 2 ^ i } }
    let v : Nat := 2 ^ 9
    v % 16 < 10 ∧ v.testBit 9 = true ∧ v.testBit 8 = false ∧
    (let t := s 0 1 EvSrc.reset
     t.blkUp .EVC = true ∧ gpioOut t i = false ∧ pinLevel t i = true ∧ (srcKind t (104 + i) == .level) = false ∧
       (t.src (104 + i)).st = 0 ∧ srcMasked t (104 + i) = true) ∧
    (∀ st ∈ [1, 2], let y : EvSrc := { EvSrc.reset with st := st, cond := true }
     let t := s 1 0 y
     t.blkUp .EVC = true ∧ gpioOut t i = false ∧ pinLevel t i = false ∧ (srcKind t (104 + i) == .level && y.cond) = true ∧
       t.src (104 + i) = y ∧ y.edge = false) := by decide +kernel

/-! ### DMA -/

/-- DMA channel 63, selected by the host, with a ring of eight descriptors at the start of shared SRAM. -/
def dmaOf (mode st : Nat) (c : DmaCh) (bs : List Byte) : State :=
  let s := inMode mode [(DMA_SEL.CH, 0, 63), (DMA_CH_STATUS.STATE, 63, st)]
  bytesAt sramCtl 0 bs ((s.setReg .DMA_CH_RING_LO 63 (BitVec.ofNat 32 sramBase)).setDmaCh 63 c)

/-- A descriptor that copies `n + 1` elements of a byte between two places of shared SRAM. -/
def descOf (own cyc : Bool) (n : Nat) : List Byte :=
  leBytes 4 (if own then 2 ^ 31 else 0) ++ leBytes 4 (if cyc then 2 ^ 31 else 0) ++ leBytes 8 (sramBase + 0x1000) ++
    leBytes 8 (sramBase + 0x2000) ++ leBytes 2 n ++ zeros 6 ++ leBytes 4 1 ++ leBytes 4 1 ++ zeros 24

theorem test_witness_dma_requests :
    let at_ := fun (st ph : Nat) => dmaOf 6 st { DmaCh.reset with phase := ph } []
    let nr := (at_ dStopped 0).setReg .DMA_CH_RING_LO 63 0
    (∀ x ∈ [(dStopped, phFetch), (dRunning, phFetch), (dRunning, phData), (dWaiting, phFetch), (dPausing, phData),
        (dPaused, phData), (dPaused, phWait), (dHalted, phData), (dAborting, phData)],
      reaches (at_ x.1 x.2) .dma .host 63 ∧ dState (at_ x.1 x.2) 63 = x.1 ∧ ((at_ x.1 x.2).dmaCh 63).phase = x.2 ∧
        ringOk (at_ x.1 x.2) 63 = true ∧ (at_ x.1 x.2).mode ≠ modeRetired) ∧
    reaches nr .dma .host 63 ∧ ringOk nr 63 = false ∧ (∀ n ∈ [1, 2, 3, 4, 8], n % 16 = n) ∧
    (∀ v ∈ [3, 16], ringCauses (at_ dStopped 0) 63 .cfg v = []) ∧ ringCauses (at_ dStopped 0) 63 .cfg 2 = [0x83] ∧
    ringCauses (at_ dRunning 0) 63 .cfg 17 = [0x83, 0x84] := by decide +kernel

theorem test_witness_dma_fetch :
    let ring : Int × Int := (sramBase, sramBase + 512)
    let base := fun (s : State) => ringOk s 63 = true ∧ s.f DMA_CH_CFG.RING_K 63 ≤ 16 ∧ s.f DMA_CH_HEAD.INDEX 63 < ringLen s 63 ∧
      memQuiet s sramCtl ∧ targetUp s .sram = true ∧ dState s 63 = dRunning ∧ (s.dmaCh 63).phase = phFetch
    (let s := dmaOf 6 dRunning DmaCh.reset (descOf true false 0)
     base s ∧ (ringBase s 63 : Int) = ring.1 ∧ (ringBase s 63 + 64 * ringLen s 63 : Int) = ring.2 ∧
       ramBytes s sramCtl (headAddr s 63 - sramBase) 64 = descOf true false 0 ∧ Desc.own (descOf true false 0) = true ∧
       Desc.refusal (descOf true false 0) ring = none) ∧
    (let s := dmaOf 6 dRunning DmaCh.reset []
     base s ∧ Desc.own (ramBytes s sramCtl (headAddr s 63 - sramBase) 64) = false ∧ s.fb DMA_CH_STATUS.DB_LATCHED 63 = false) ∧
    (let d := leBytes 4 (2 ^ 31 + 1) ++ zeros 60
     let s := dmaOf 6 dRunning DmaCh.reset d
     base s ∧ ramBytes s sramCtl (headAddr s 63 - sramBase) 64 = d ∧ Desc.own d = true ∧ Desc.refusal d ring = some 0x90) ∧
    (∀ st ∈ [dRunning, dPausing], let s := dmaOf 0 st DmaCh.reset []
     ringOk s 63 = true ∧ s.f DMA_CH_HEAD.INDEX 63 < ringLen s 63 ∧ targetUp s .sram = false ∧ dState s 63 = st ∧
       (s.dmaCh 63).phase = phFetch) := by decide +kernel

theorem test_witness_dma_data :
    let b := descOf true false 0
    let y := descOf true true 1
    let a := Desc.src b
    (∀ x ∈ [(dRunning, phDone, (0x80000000 : Word)), (dRunning, phData, 0x80000000), (dPausing, phDone, 0), (dPausing, phData, 0),
        (dAborting, phData, 0xE0000000), (dAborting, phFetch, 0xE0000000)],
      let s := dmaOf 6 x.1 ⟨b, x.2.1, 0, false, x.2.2, false⟩ []
      ringOk s 63 = true ∧ memQuiet s sramCtl ∧ targetUp s .sram = true ∧ dState s 63 = x.1 ∧ (s.dmaCh 63).phase = x.2.1 ∧
        (s.dmaCh 63).status = x.2.2) ∧
    Desc.total b = 1 ∧ Desc.transform b = 0 ∧ Desc.cyclic b = false ∧ sramBase ≤ a ∧ a % 32 + Desc.elem b ≤ 32 ∧
    a + Desc.elem b ≤ sramBase + codeStoreAt State.reset ∧ Desc.dst b % 32 + Desc.elem b ≤ 32 ∧
    Desc.meets (Desc.srcExtent b) (Desc.dstExtent b) = false ∧ Desc.meets (Desc.dstExtent b) (sramBase, sramBase + 512) = false ∧
    Desc.overlapping b = false ∧ 0 < Desc.total b ∧ Desc.cyclic y = true ∧ Desc.total y = 2 ∧
    (∀ own ∈ [true, false],
      let s := dmaOf 6 dRunning ⟨y, phData, 2, true, 0, false⟩ (descOf own true 1)
      dState s 63 = dRunning ∧ (s.dmaCh 63).half = true ∧ Desc.total y ≤ (s.dmaCh 63).pos ∧
        Desc.own (ramBytes s sramCtl (headAddr s 63 - sramBase) 64) = own) ∧
    (let s := dmaOf 6 dRunning ⟨y, phData, 1, false, 0, false⟩ []
     dState s 63 = dRunning ∧ (s.dmaCh 63).half = false ∧ Desc.total y / 2 ≤ (s.dmaCh 63).pos) := by decide +kernel

theorem test_witness_winnow : [1, 2].length = 2 ∧ ∀ x ∈ [1, 2], x < 2 ^ 2 := by decide

/-! ### The Silo, the sheaf, Hourglass -/

/-- A mode, with another key store. -/
def siloOf (mode : Nat) (l : List (Fld × Nat × Nat)) (f : Silo → Silo) : State :=
  let s := inMode mode l
  { s with silo := f s.silo }

theorem test_witness_mailbox :
    let pin := pinned 7 [] false false
    let ent : TamperEnt := ⟨1, 0, 0, 6⟩
    let key : ImportKey := ⟨zeros 8, [], []⟩
    let s := siloOf 6 [] fun x => { x with drbg := some generator, pins := [pin], log := [ent] }
    let t := siloOf 6 [] fun x => { x with identity := false }
    let full := siloOf 6 [] fun x => { x with importKeys := List.replicate 4 key }
    let off := siloOf 6 [] id
    let poor := siloOf 6 [] fun x => { x with drbg := some generator, srcBad := 127 }
    (∀ u ∈ [s, t, full, off], u.blkUp .SILO = true) ∧ (∀ m ∈ [Master.host, .me0, .me1], hasMailbox m = true) ∧
    s.silo.identity = true ∧ randomFor s signDraws = true ∧ randomFor s importDraws = true ∧ t.silo.identity = false ∧
      (zeros 32).length = 32 ∧ 32 ≤ reqSize ∧
    off.silo.identity = true ∧ randomFor off signDraws = false ∧ randomOk off = false ∧ s.silo.importKeys.length < 4 ∧
      4 ≤ full.silo.importKeys.length ∧
    s.silo.pins[leNat (([0, 0] : List Byte).take 2)]? = some pin ∧ s.silo.pins[leNat (([1, 0] : List Byte).take 2)]? = none ∧
    s.silo.log[leNat (([0, 0] : List Byte).take 2)]? = some ent ∧ s.silo.log[leNat (([1, 0] : List Byte).take 2)]? = none ∧
    bitAt s.silo.srcBad 7 = false ∧ 2 ≤ healthySources s ∧ randomOk s = true ∧ randomOk poor = true ∧ healthySources poor < 2 ∧
    bitAt poor.silo.srcBad 0 = true ∧ healthOk (zeros 6) = false ∧ healthOk (zeros 5) = true := by decide +kernel

theorem test_witness_tamper :
    let s := inMode 6 [(SILO_LOOP_CFG.ARMED, 0, 8)]
    let old := siloOf 10 [(SILO_LOOP_CFG.ARMED, 0, 8)] fun x => { x with latch := true }
    let dead := inMode 11 []
    let off := siloOf 0 [(SILO_LOOP_CFG.ARMED, 0, 8)] id
    let spent := siloOf 0 [(SILO_LOOP_CFG.ARMED, 0, 8)] fun x => { x with latch := true }
    let gone := siloOf 0 [] fun x => { x with retired := true }
    (∀ u ∈ [s, old, off, spent], bitAt (u.f SILO_LOOP_CFG.ARMED 0) 3 = true ∧ bitAt (u.f SILO_LOOP_CFG.ARMED 0) 2 = false) ∧
    (2499 : BitVec 16).toNat < 2500 ∧ 3600 < (3601 : BitVec 16).toNat ∧ ¬ (2500 : BitVec 16).toNat < 2500 ∧
    s.mode ≠ modeDormant ∧ s.mode ≠ modeRetired ∧ s.silo.latch = false ∧ s.blkUp .SILO = true ∧
    old.mode ≠ modeDormant ∧ old.silo.latch = true ∧ dead.mode = modeRetired ∧ dead.mode ≠ modeDormant ∧
    off.mode = modeDormant ∧ off.silo.latch = false ∧ off.silo.retired = false ∧ spent.mode = modeDormant ∧
    spent.silo.latch = true ∧ gone.mode = modeDormant ∧ gone.silo.retired = true := by decide +kernel

/-- A written command: its code, and slot 1 or slice `n`. -/
def shfWord (cmd slot n : Nat) : Word := BitVec.ofNat 32 (cmd * 2 ^ 28 + slot * 2 ^ 8 + n)

/-- A sheaf whose policy lets the host stage and activate. -/
def shfOf (mode : Nat) (l : List (Fld × Nat × Nat)) (f : Shf → Shf) : State :=
  let s := inMode mode l
  { s with sheaf := { Sheaf.none with policy := zeros 34 ++ [3] ++ zeros 29 }, shf := f s.shf }

theorem test_witness_sheaf_words : ∀ cmd ∈ [1, 2, 3, 4, 5, 6, 7, 8, 9], ∀ n ∈ [0, 31],
    (shfWord cmd 1 n).toNat / 2 ^ 28 = cmd ∧ (shfWord cmd 1 n).toNat / 2 ^ 8 % 2 = 1 ∧ (shfWord cmd 1 n).toNat % 32 = n := by
  decide +kernel

theorem test_witness_sheaf_operations :
    let s := shfOf 9 [] id
    let bad := shfOf 9 [] fun x => { x with fl := some ⟨.me0, 3, 1, 0, 0, 4096⟩ }
    let busy := inMode 9 [(SHF_CHECK.BUSY, 0, 1)]
    s.blkUp .SHF = true ∧ shfBusy s .host = false ∧ (∀ cmd ∈ [1, 2, 3], opCauses s .host cmd 1 = []) ∧
    bad.blkUp .SHF = true ∧ shfBusy bad .host = false ∧ (∀ cmd ∈ [1, 2, 3], opCauses bad .host cmd 1 = [0xC1]) ∧
    busy.blkUp .SHF = true ∧ shfBusy busy .host = true ∧ abandonCauses { s with staged := some Sheaf.none } = [] ∧
    (∀ r ∈ [0, 239, 240, 256],
     let t := { (shfOf 9 [] fun x => { x with otp := List.replicate r (some 0) }).setReg .SHF_SLICE_CODE 0 0xFFFFFFFF with staged := some Sheaf.none }
     t.blkUp .SHF = true ∧ shfBusy t .host = false ∧ promoteCauses t .host = [] ∧ t.staged = some Sheaf.none ∧
       (256 - t.shf.rows ≤ 16 ↔ 240 ≤ r)) := by decide +kernel

theorem test_witness_slices : ∀ n ∈ [0, 31],
    let free := { shfOf 9 [] id with staged := some Sheaf.none }
    let use := { shfOf 9 [(PORT_STATUS.PROV, n, 1)] id with staged := some Sheaf.none }
    let out := { (shfOf 9 [(PORT_STATUS.PROV, n, 1)] id).setReg .SHF_DRAINED 0 0xFFFFFFFF with staged := some Sheaf.none }
    (∀ s ∈ [free, use, out], s.blkUp .SHF = true ∧ shfBusy s .host = false ∧ sliceCauses s 4 n = [] ∧ sliceCauses s 5 n = []) ∧
    sliceProvisioned free n = false ∧ sliceDrained free n = false ∧ sliceCauses free 6 n = [] ∧ sliceCauses free 7 n = [] ∧
    sliceProvisioned use n = true ∧ sliceDrained use n = false ∧ shfMode use 6 = true ∧ slicePresent use n = true ∧
    sliceProvisioned out n = true ∧ sliceDrained out n = true ∧ sliceCauses out 6 n = [] ∧ sliceCauses out 7 n = [] := by
  decide +kernel

theorem test_witness_slice_ends :
    let s := shfOf 9 [] fun x => { x with updating := [31] }
    let t := s.setSlice 31 { s.slice 31 with draining := true, powered := true }
    let u := { t with sheaf := { t.sheaf with compl := [⟨false, [], leBytes 8 (2 ^ 63)⟩] } }
    (t.slice 31).draining = true ∧ t.ports = [] ∧ s.shf.updating.contains 31 = true ∧
    (u.slice (63 / 2)).powered = true ∧ u.variant ≠ 2 ∧ u.sheaf.compl.any (fun y => bitAt (leAt y.bytes 0 8) 63) = true ∧
    u.loaded.contains 63 = false := by decide +kernel

/-- VERIFY, ACTIVATE or STAGE of slot 1 runs, with an image in the flash. -/
def shfRuns (flash : Mem) (cmd : Nat) : State :=
  (shfOf 9 [(SHF_CHECK.BUSY, 0, 1)] fun x => { x with op := some ⟨.host, cmd, 1, false⟩ }).setRam flashRegion flash

/-- The image in the flash is any that passes its checks and that may be staged (the maker's keys are opaque, log 10). -/
theorem test_witness_sheaf_results (flash : Mem) (cmd : Nat) (x : Sheaf) (fl : FlashRead) (hv : verifySlot (shfRuns flash cmd) 1 fl = (0, x))
    (hs : stageCauses (shfRuns flash cmd) x = []) :
    let s := shfRuns flash cmd
    let o : ShfOp := ⟨.host, cmd, 1, false⟩
    s.shf.op = some o ∧ shfBusy s o.master = true ∧ verifySlot s o.slot fl = (0, x) ∧ o.auth = false ∧ o.cmd = cmd ∧
      stageCauses s x = [] :=
  ⟨rfl, show shfBusy (shfOf 9 [(SHF_CHECK.BUSY, 0, 1)] id) .host = true by decide +kernel, hv, rfl, rfl, hs⟩

theorem test_witness_sheaf_refused :
    let s := shfOf 9 [(SHF_CHECK.BUSY, 0, 1)] fun x => { x with op := some ⟨.host, 1, 1, false⟩ }
    s.shf.op = some ⟨.host, 1, 1, false⟩ ∧ shfBusy s .host = true ∧
      (∀ fl ∈ [FlashRead.good, .badHead, .badSection], (verifySlot s 1 fl).1 ≠ 0) := by decide +kernel

theorem test_witness_flash :
    let set := [(SHF_FL_SRC.OFF, 0, 4096), (SHF_FL_DST.OFF, 0, 8192), (SHF_FL_LEN.BYTES, 0, 4096)]
    let s := shfOf 9 set id
    let run := fun (cmd : Nat) => inMode 9 ((SHF_CHECK.BUSY, 0, 1) :: set) |> fun t =>
      { t with shf := { t.shf with fl := some ⟨.host, cmd, 1, 4096, 8192, 4⟩ } }
    s.blkUp .SHF = true ∧ shfBusy s .host = false ∧ (∀ cmd ∈ [1, 2, 3], flashCauses s cmd 1 = []) ∧
    flashCauses s 1 0 = [0xDA] ∧ flashCauses s 4 0 = [0xC2] ∧ s.shf.fl = none ∧
    (∀ cmd ∈ [1, 2, 3], (run cmd).shf.fl = some ⟨.host, cmd, 1, 4096, 8192, 4⟩ ∧ shfBusy (run cmd) .host = true) ∧
    unerased (run 2) ⟨.host, 2, 1, 4096, 8192, 4⟩ = false ∧ noErrors (run 2) ∧ (run 3).shf.incomplete.contains 1 = false ∧
    memQuiet (run 3) sramCtl := by decide +kernel

theorem test_witness_hourglass :
    let s := inMode 6 [(PORT_STATUS.PROV, 63, 1), (PORT_STATUS.LOCK, 63, 1)]
    let off := inMode 0 []
    s.blkUp .HLTH = true ∧ s.mode ≠ modeDormant ∧ laneLocked s 63 = true ∧ laneLocked s 62 = false ∧
    (∀ m ∈ [Master.me0, .me1], m = .me0 ∨ m = .me1) ∧ ¬ (Master.host = .me0 ∨ Master.host = .me1) ∧
    off.blkUp .HLTH ≠ true ∧ 2000 < (2001 : BitVec 16).toInt ∧ bitAt s.hlth.hot 1 = false ∧ bitAt s.hlth.hot 0 = false ∧
    ((16 * min 125 (s.f HLTH_CFG.TEMP_WARN 0) : Nat) < (2001 : BitVec 16).toInt) ∧
    (0 : BitVec 16).toInt < 2000 ∧ ([] : List (BitVec 16)).length ≤ 8 ∧ (List.replicate 8 (0 : BitVec 16)).length ≤ 8 := by
  decide +kernel

/-- Lane 63 has its baseline; lane 79 is to take it at its next measurement. -/
theorem test_witness_eye :
    let s := inMode 6 [(PORT_STATUS.PROV, 63, 1), (PORT_STATUS.LOCK, 63, 1)]
    let s := { s with hlth := { s.hlth with
      now := { s.hlth.now with bases := SMap.set (fun _ => none) s.hlth.now.bases 63 (some 40) }
      lanes := SMap.set (fun _ => EyeLane.reset) s.hlth.lanes 79 ⟨List.replicate 8639 40, [40], true⟩ } }
    s.blkUp .HLTH = true ∧ laneLocked s 63 = true ∧ s.eyeBase 63 = some 40 ∧ 64 ≤ (79 : Fin 80).val ∧ s.eyeBase 79 = none ∧
    eyeDay ≤ (s.lane 79).first.length + 1 := by
  decide +kernel

theorem test_witness_steps : step State.reset = .next (idle State.reset) := by rfl

theorem test_witness_seal :
    let s := siloOf 6 [] fun x => { x with fabKey := some (0, zeros 32) }
    let m : KeyMat := ⟨zeros 32, [], [], 0⟩
    (zeros 16).length = 16 ∧ m.key.length = 32 ∧ ctx s Ctx.COMPL 16383 = 0 ∧ fabKeyOf s (0 : BitVec 8).toNat = some (zeros 32) ∧
      (zeros 121856).length = 121856 :=
  ⟨by decide, by decide, by decide +kernel, by decide +kernel, List.length_replicate⟩

/-! ### Records that the officers of a set sign

The keys of an officer are any, and so is his signature block: a record is shown fine under the one premise that its block
verifies under those keys. -/

theorem test_byte_append (h t : List Byte) (i : Nat) (hi : i < h.length) : byteAt (h ++ t) i = byteAt h i := by
  simp [byteAt, List.getElem?_append_left hi]

theorem test_slice_append (h t : List Byte) (off n : Nat) (hi : off + n ≤ h.length) :
    sliceAt (h ++ t) off n = sliceAt h off n :=
  List.map_congr_left fun i hm => test_byte_append h t (off + i) (by have := List.mem_range.mp hm; omega)

theorem test_slice_tail (h t : List Byte) : sliceAt (h ++ t) h.length t.length = t := by
  apply List.ext_getElem
  · simp [sliceAt]
  · intro i h1 h2
    simp [sliceAt, byteAt, h2]

/-- The header of a record for the module of the tests in the domain of zeros, with SEQ 1. -/
def recHead (type len nsig : Nat) : List Byte :=
  ascii "QOFR" ++ leBytes 2 type ++ zeros 2 ++ nodeBytes base.silo.node ++ zeros 16 ++ leBytes 8 1 ++ leBytes 4 len ++
    leBytes 4 nsig

/-- A record with one signature block. -/
def signedOf (type : Nat) (b g : List Byte) : List Byte := recHead type b.length 1 ++ b ++ g

/-- A signature block of officer 0 that verifies under his keys. -/
structure Signs (ml ec : List Byte) (type : Nat) (b g : List Byte) : Prop where
  len : g.length = sigLen
  num : sigOfficer g = 0
  free : sliceAt g 1 3 = zeros 3
  ok : blockOk [⟨0, ml, ec⟩] (recDigest (signedOf type b g)) g = true

/-- What the header of a record says. -/
abbrev headSays (type len nsig : Nat) : Prop :=
  let h := recHead type len nsig
  h.length = 48 ∧ h.take 4 = ascii "QOFR" ∧ leAt h 4 2 = type ∧ sliceAt h 6 2 = zeros 2 ∧
    nodeOf (sliceAt h 8 8) = base.silo.node ∧ sliceAt h 16 16 = zeros 16 ∧ leAt h 32 8 = 1 ∧ leAt h 40 4 = len ∧
    leAt h 44 4 = nsig

/-- The module of the tests is not retired, in a domain of zeros, and has accepted no record. -/
abbrev recState (s : State) : Prop :=
  s.silo.node = base.silo.node ∧ s.silo.seq = 0 ∧
    (if s.mode = modeAlarm then s.silo.kept.domain else match s.silo.domain with | some d => d.id | none => zeros 16) = zeros 16

theorem test_signed_parts (type : Nat) (b g : List Byte) (h : headSays type b.length 1) (hg : g.length = sigLen) :
    let e := signedOf type b g
    e.length = 48 + b.length + sigLen ∧ e.take 4 = ascii "QOFR" ∧ recType e = type ∧ sliceAt e 6 2 = zeros 2 ∧
      recTarget e = base.silo.node ∧ recDomain e = zeros 16 ∧ recSeq e = 1 ∧ recBodyLen e = b.length ∧ recNsig e = 1 ∧
      recBody e = b ∧ sigBlocks e = [g] := by
  obtain ⟨hl, h0, h1, h2, h3, h4, h5, h6, h7⟩ := h
  intro e
  have cut : ∀ off n, off + n ≤ 48 → sliceAt e off n = sliceAt (recHead type b.length 1) off n := fun off n hn => by
    rw [show e = recHead type b.length 1 ++ (b ++ g) from List.append_assoc ..]
    exact test_slice_append _ _ _ _ (by omega)
  have len : recBodyLen e = b.length := by rw [recBodyLen, leAt, cut 40 4 (by omega)]; exact h6
  have body : sliceAt e 48 b.length = b := by
    rw [show e = recHead type b.length 1 ++ b ++ g from rfl,
      test_slice_append _ _ _ _ (by simp [hl]), ← hl]
    exact test_slice_tail _ _
  have block : sliceAt e (48 + b.length) sigLen = g := by
    have t := test_slice_tail (recHead type b.length 1 ++ b) g
    rwa [List.length_append, hl, hg] at t
  have nsig : recNsig e = 1 := by rw [recNsig, leAt, cut 44 4 (by omega)]; exact h7
  refine ⟨by simp [e, signedOf, hl, hg]; omega, ?_, by rw [recType, leAt, cut 4 2 (by omega)]; exact h1,
    by rw [cut 6 2 (by omega)]; exact h2, by rw [recTarget, cut 8 8 (by omega)]; exact h3,
    by rw [recDomain, cut 16 16 (by omega)]; exact h4, by rw [recSeq, leAt, cut 32 8 (by omega)]; exact h5, len, nsig,
    by rw [recBody, len]; exact body, ?_⟩
  · rw [show e = recHead type b.length 1 ++ (b ++ g) from List.append_assoc ..,
      List.take_append_of_le_length (by omega)]
    exact h0
  · rw [sigBlocks, nsig, List.range_one, List.map_cons, List.map_nil, sigBlock, len, Nat.mul_zero, Nat.add_zero, block]

theorem test_signed_fine (s : State) (type : Nat) (b g ml ec : List Byte) (k : Nat) (h : headSays type b.length 1)
    (hs : recState s) (hm : recMode s type = true) (hb : bodyFormed s type b = true)
    (ho : recOfficers s (signedOf type b g) = ([⟨0, ml, ec⟩], k)) (hk : k ≤ 1)
    (ha : s.mode ≠ modeAlarm ∨ s.silo.kept.osd = osDigest [⟨0, ml, ec⟩]) (hv : Signs ml ec type b g) :
    envelopeCauses s (signedOf type b g) = [] := by
  obtain ⟨hl, h0, h1, h2, h3, h4, h5, h6, h7, h8, h9⟩ := test_signed_parts type b g h hv.len
  obtain ⟨n1, n2, n3⟩ := hs
  have formed : recFormed s (signedOf type b g) = true := by
    simp [recFormed, hl, h0, h1, h2, h6, h7, h8, h9, hb, hv.free]
  have good : goodOfficers [⟨0, ml, ec⟩] (signedOf type b g) = 1 := by
    simp [goodOfficers, h9, hv.ok]
    rfl
  have bad : badOfficers [⟨0, ml, ec⟩] (signedOf type b g) = false := by
    simp [badOfficers, h9, hv.num]
    rfl
  simp only [envelopeCauses, h1, hm, formed, h3, h4, h5, n1, n2, ho, good, bad]
  have hk' : ¬ 1 < max 1 k := by omega
  simp [cause, hk']
  exact ⟨fun _ _ => n3.symm, fun _ m => ⟨(ha.resolve_left (not_not.2 m)).symm, rfl⟩⟩

/-- A record that is sent and against which no cause stands. -/
abbrev sentFine (s : State) (e : List Byte) (type : Nat) : Prop :=
  s.blkUp .SILO = true ∧ 1 ≤ e.length ∧ e.length ≤ reqSize ∧ recType e = type ∧
    envelopeCauses s e ++ (if envelopeCauses s e = [] then bodyCauses s e else []) = []

/-- What a record with one signature block is judged by. -/
structure Judged (s : State) (type n : Nat) (b ml ec : List Byte) (k : Nat) : Prop where
  up : s.blkUp .SILO = true
  len : b.length = n
  short : n ≤ 100000
  head : headSays type n 1
  state : recState s
  mode : recMode s type = true
  formed : bodyFormed s type b = true
  officers : ∀ e, recBody e = b → recType e = type → recOfficers s e = ([⟨0, ml, ec⟩], k)
  quorum : k ≤ 1
  alarm : s.mode ≠ modeAlarm ∨ s.silo.kept.osd = osDigest [⟨0, ml, ec⟩]
  body : ∀ e, recBody e = b → recType e = type → bodyCauses s e = []

theorem test_sent_fine {s : State} {type n : Nat} {b g ml ec : List Byte} {k : Nat} (j : Judged s type n b ml ec k)
    (hv : Signs ml ec type b g) : sentFine s (signedOf type b g) type ∧ recBody (signedOf type b g) = b := by
  have hh : headSays type b.length 1 := j.len ▸ j.head
  obtain ⟨hl, -, h1, -, -, -, -, -, -, h8, -⟩ := test_signed_parts type b g hh hv.len
  have he := test_signed_fine s type b g ml ec k hh j.state j.mode j.formed (j.officers _ h8 h1) j.quorum j.alarm hv
  have n := j.len
  have m := j.short
  refine ⟨⟨j.up, by omega, ?_, h1, by rw [he, if_pos rfl, List.nil_append, j.body _ h8 h1]⟩, h8⟩
  rw [hl, n, show sigLen = 4727 from rfl, show reqSize = 131072 from rfl]
  omega

/-- An enrolled module with one officer, and peer 7 pinned. -/
def enrolled (ml ec : List Byte) (keys : List ImportKey) : State :=
  siloOf 6 [] fun x => { x with
    domain := some ⟨zeros 16, 1, [⟨0, ml, ec⟩], [], osDigest [⟨0, ml, ec⟩]⟩, drbg := some generator, pins := [pinned 7 [] false true]
    importKeys := keys }

/-- The officers' keys agree with the Granary's digest of them. -/
theorem test_enrolled_officers (ml ec : List Byte) :
    checkedOfficers ⟨zeros 16, 1, [⟨0, ml, ec⟩], [], osDigest [⟨0, ml, ec⟩]⟩ = [⟨0, ml, ec⟩] := if_pos rfl

theorem test_enrolled_mode (ml ec : List Byte) (keys : List ImportKey) : (enrolled ml ec keys).mode = 6 :=
  show (inMode 6 []).mode = 6 by decide +kernel

/-- A body of the enrolled module's records that is formed and has no cause of its own. -/
theorem test_judged {type n : Nat} {b ml ec : List Byte} {keys : List ImportKey} (len : b.length = n) (short : n ≤ 100000)
    (head : headSays type n 1) (ht : (2 ≤ type ∧ type ≤ 9) ∨ type = 11) (formed : bodyFormed (enrolled ml ec keys) type b = true)
    (body : ∀ e, recBody e = b → recType e = type → bodyCauses (enrolled ml ec keys) e = []) :
    Judged (enrolled ml ec keys) type n b ml ec 1 := by
  have hm := test_enrolled_mode ml ec keys
  have hu : (enrolled ml ec keys).blkUp .SILO = true := by simp only [State.blkUp, hm]
  refine ⟨hu, len, short, head, ⟨rfl, rfl, by rw [hm]; rfl⟩, ?_, formed, ?_, Nat.le_refl 1, Or.inl (by rw [hm]; decide), body⟩
  · rcases ht with ⟨h1, h2⟩ | rfl
    · have : type = 2 ∨ type = 3 ∨ type = 4 ∨ type = 5 ∨ type = 6 ∨ type = 7 ∨ type = 8 ∨ type = 9 := by omega
      rcases this with rfl | rfl | rfl | rfl | rfl | rfl | rfl | rfl <;> simp only [recMode, hm] <;> rfl
    · simp only [recMode, hm]
      rfl
  · intro e _ he
    have h1 : ¬ recType e = 1 := by omega
    simp only [recOfficers, h1, if_false, hm]
    exact congrArg (·, 1) (test_enrolled_officers ml ec)

theorem test_witness_peer_records {ml ec g4 g5 : List Byte} (h4 : Signs ml ec 4 (beBytes 8 7) g4)
    (h5 : Signs ml ec 5 (beBytes 8 7) g5) :
    let s := enrolled ml ec []
    hasMailbox .host = true ∧ sentFine s (signedOf 4 (beBytes 8 7) g4) 4 ∧ sentFine s (signedOf 5 (beBytes 8 7) g5) 5 ∧
      (s.pin 7).isSome = true := by
  have pinned : ((enrolled ml ec []).pin (nodeOf ((beBytes 8 7).take 8))).isNone = false := by
    rw [show nodeOf ((beBytes 8 7).take 8) = 7 by decide +kernel]
    rfl
  have j : ∀ type, type = 4 ∨ type = 5 → Judged (enrolled ml ec []) type 8 (beBytes 8 7) ml ec 1 := fun type ht =>
    test_judged (by decide) (by decide) (by rcases ht with rfl | rfl <;> decide +kernel) (by omega)
      (by rcases ht with rfl | rfl <;> rfl)
      fun e hb he => by rcases ht with rfl | rfl <;> simp only [bodyCauses, hb, he, pinned] <;> rfl
  exact ⟨rfl, (test_sent_fine (j 4 (by decide)) h4).1, (test_sent_fine (j 5 (by decide)) h5).1, rfl⟩

theorem test_witness_short_records {ml ec g8 g9 g11 : List Byte} (h8 : Signs ml ec 8 (1 :: zeros 59) g8)
    (h9 : Signs ml ec 9 [15, 0, 0, 0] g9) (h11 : Signs ml ec 11 [] g11) :
    let s := enrolled ml ec []
    sentFine s (signedOf 8 (1 :: zeros 59) g8) 8 ∧ sentFine s (signedOf 9 [15, 0, 0, 0] g9) 9 ∧
      s.f SILO_TAMPER.LOOP 0 &&& 15 = 0 ∧ sentFine s (signedOf 11 [] g11) 11 := by
  have hm := test_enrolled_mode ml ec []
  have a : ¬ (enrolled ml ec []).mode = modeAlarm := by rw [hm]; decide
  refine ⟨(test_sent_fine (test_judged (n := 60) (by decide) (by decide) (by decide +kernel) (by decide) rfl
      fun e hb he => ?_) h8).1,
    (test_sent_fine (test_judged (n := 4) (by decide) (by decide) (by decide +kernel) (by decide) rfl fun e hb he => ?_) h9).1,
    show (inMode 6 []).f SILO_TAMPER.LOOP 0 &&& 15 = 0 by decide +kernel,
    (test_sent_fine (test_judged (n := 0) (by decide) (by decide) (by decide +kernel) (by decide) ?_ fun e hb he => ?_) h11).1⟩
  · simp only [bodyCauses, hb, he]
    rfl
  · simp only [bodyCauses, hb, he]
    rfl
  · simp only [bodyFormed, if_neg a]
    rfl
  · simp only [bodyCauses, he, if_neg a]
    rfl

theorem test_one_officer (b : List Byte) (h : byteAt b 0 = 1) : setOfficers b = [officerAt (sliceAt b 4 2690) 0] := by
  have hs : (sliceAt b 4 2690).length = 2690 := by simp [sliceAt]
  simp only [setOfficers, h]
  change officerSet (sliceAt b 4 2690) = _
  simp only [officerSet, hs]
  rfl

/-- A set of one officer, of number 0 and quorum 1, with any keys. -/
structure OneOfficer (b : List Byte) : Prop where
  len : b.length = 2694
  n : byteAt b 0 = 1
  k : byteAt b 1 = 1
  free : sliceAt b 2 2 = zeros 2
  num : (officerAt (sliceAt b 4 2690) 0).num = 0

theorem test_set_ok {b : List Byte} (h : OneOfficer b) : setOk b = true := by
  simp [setOk, test_one_officer b h.n, setK, h.k]
  rfl

theorem test_officer_zero (o : Officer) (h : o.num = 0) : o = ⟨0, o.mlPub, o.ecPub⟩ := by
  cases o
  cases h
  rfl

theorem test_witness_domain_update {b ml ec g : List Byte} (hb : OneOfficer b) (h : Signs ml ec 2 b g) :
    sentFine (enrolled ml ec []) (signedOf 2 b g) 2 := by
  refine (test_sent_fine (test_judged hb.len (by decide) (by decide +kernel) (by decide) ?_ fun e hr he => ?_) h).1
  · simp [bodyFormed, hb.len, hb.n, hb.free, officerLen]
  · simp only [bodyCauses, hr, he, test_set_ok hb]
    rfl

theorem test_witness_peer_admit {b ml ec g : List Byte} (len : b.length = 7480) (hz : sliceAt b 7461 3 = zeros 3)
    (hp : pinRefused (enrolled ml ec []) b = false) (h : Signs ml ec 3 b g) :
    sentFine (enrolled ml ec []) (signedOf 3 b g) 3 ∧ (pinReplaces b ≠ 7 → (enrolled ml ec []).pin (pinReplaces b) = none) := by
  refine ⟨(test_sent_fine (test_judged len (by decide) (by decide +kernel) (by decide) ?_ fun e hb he => ?_) h).1, fun hn => ?_⟩
  · simp [bodyFormed, len, hz]
  · simp [bodyCauses, hb, he, hp, cause]
  · simpa [State.pin, enrolled, siloOf, pinned] using Ne.symm hn

/-- A wrapped secret is any that opens with one of the import keys; without such a key none opens. -/
theorem test_witness_fabric_key {b ml ec g secret : List Byte} (keys : List ImportKey) (len : b.length = 1724)
    (hz : sliceAt b 1 3 = zeros 3) (h : Signs ml ec 6 b g) :
    let e := signedOf 6 b g
    (unwrap (enrolled ml ec keys) e (b.drop 4) 32 = some secret → sentFine (enrolled ml ec keys) e 6) ∧
      sentFine (enrolled ml ec []) e 6 ∧ unwrap (enrolled ml ec []) e (b.drop 4) 32 = none := by
  have j : ∀ keys, sentFine (enrolled ml ec keys) (signedOf 6 b g) 6 := fun keys => by
    refine (test_sent_fine (test_judged len (by decide) (by decide +kernel) (by decide) ?_ fun e hb he => ?_) h).1
    · simp [bodyFormed, len, hz, wrapLen]
    · simp [bodyCauses, he]
  exact ⟨fun _ => j keys, j [], by simp [unwrap, importKeyOf, enrolled, siloOf]⟩

/-- The enrolled module, whose channel 0 takes imported keys. -/
def importing (ml ec : List Byte) (keys : List ImportKey) : State :=
  { ctxs [(Ctx.IMPORT, 0, 1)] (inMode 6 []) with
    silo := (enrolled ml ec keys).silo, sheaf := { Sheaf.none with policy := policy } }

theorem test_witness_sak_import {w ml ec g secret : List Byte} (keys : List ImportKey) (hw : w.length = 1732)
    (h : Signs ml ec 7 (zeros 16 ++ w) g) :
    let s := importing ml ec keys
    let e := signedOf 7 (zeros 16 ++ w) g
    unwrap s e w 44 = some secret → sentFine s e 7 ∧ memQuiet s ctxCtl ∧ (s.chan 0).retiring = false ∧
      s.f TWN_STATUS.ROLE 0 ≠ 1 := by
  intro s e _
  have hl : (zeros 16 ++ w).length = 1748 := by rw [List.length_append, hw]; rfl
  have hc : sakCh (zeros 16 ++ w) = 0 ∧ sakAn (zeros 16 ++ w) = 0 ∧ sakCipher (zeros 16 ++ w) = 0 := ⟨rfl, rfl, rfl⟩
  let z := importing [] [] []
  have hz : z.mode = 6 := by decide +kernel
  have hm : s.mode = 6 := hz
  have hx : (ctx z Ctx.CIPHER 0 = 0 ∧ anInUse z 0 0 = false ∧ polImport z 0 = true ∧ ctxBit z Ctx.IMPORT 0 = true ∧
      chState z 0 ≠ stKeying ∧ chState z 0 ≠ stDraining ∧ importWaits z 0 = false) ∧ memQuiet z ctxCtl ∧
      (z.chan 0).retiring = false ∧ z.f TWN_STATUS.ROLE 0 ≠ 1 := by decide +kernel
  have j : Judged s 7 1748 (zeros 16 ++ w) ml ec 1 := by
    refine ⟨by simp only [State.blkUp, hm], hl, by decide, by decide +kernel, ⟨rfl, rfl, by rw [hm]; rfl⟩,
      by simp only [recMode, hm]; rfl, by simp only [bodyFormed, hl]; rfl, ?_, Nat.le_refl 1, Or.inl (by rw [hm]; decide), ?_⟩
    · intro e _ he
      simp only [recOfficers, he, hm]
      exact congrArg (·, 1) (test_enrolled_officers ml ec)
    · intro e hb he
      obtain ⟨⟨a, b, c, d, e1, e2, f⟩, -⟩ := hx
      have a : ctx s Ctx.CIPHER 0 = 0 := a
      have b : anInUse s 0 0 = false := b
      have c : polImport s 0 = true := c
      have d : ctxBit s Ctx.IMPORT 0 = true := d
      have e1 : ¬ chState s 0 = stKeying := e1
      have e2 : ¬ chState s 0 = stDraining := e2
      have f : importWaits s 0 = false := f
      simp [bodyCauses, hb, he, hc, a, b, c, d, e1, e2, f, cause]
  exact ⟨(test_sent_fine j h).1, hx.2⟩

/-- A module in UNSEALED whose Silo generates. -/
def unsealed : State := siloOf 3 [] fun x => { x with drbg := some generator }

theorem test_witness_enrol {b g : List Byte} (hb : OneOfficer b) :
    let o := officerAt (sliceAt b 4 2690) 0
    Signs o.mlPub o.ecPub 1 b g → sentFine unsealed (signedOf 1 b g) 1 := by
  intro o h
  have ho : setOfficers b = [⟨0, o.mlPub, o.ecPub⟩] := by
    rw [test_one_officer b hb.n, ← test_officer_zero o hb.num]
  have hr : unsealed.silo.identity = true ∧ randomOk unsealed = true := ⟨rfl, rfl⟩
  have j : Judged unsealed 1 2694 b o.mlPub o.ecPub 1 := by
    refine ⟨by decide +kernel, hb.len, by decide, by decide +kernel, ⟨rfl, rfl, by decide +kernel⟩, by decide +kernel, ?_, ?_,
      Nat.le_refl 1, Or.inl (by decide +kernel), ?_⟩
    · simp [bodyFormed, hb.len, hb.n, hb.free, officerLen]
    · intro e hr he
      simp only [recOfficers, he, hr, ho, setK, hb.k]
      rfl
    · intro e hc he
      simp only [bodyCauses, he, hc, test_set_ok hb, hr]
      rfl
  exact (test_sent_fine j h).1

/-- ALARM-HOLD after an enrolment with an officer; ZEROIZE_N is high again. -/
def alarmOf (o : Officer) : State :=
  siloOf 10 [] fun x => { x with latch := true, zeroizeHigh := true, kept := ⟨zeros 16, 1, 1, osDigest [o], true⟩ }

theorem test_witness_acknowledge {b g : List Byte} (len : b.length = 2690) (num : (officerAt b 0).num = 0) :
    let o := officerAt b 0
    let s := alarmOf o
    Signs o.mlPub o.ecPub 10 b g → sentFine s (signedOf 10 b g) 10 ∧ s.reg .SILO_TAMPER 0 = 0 ∧ s.silo.zeroizeHigh = true := by
  intro o s h
  have hn := test_officer_zero o num
  have ho : officerSet b = [⟨0, o.mlPub, o.ecPub⟩] := by rw [← hn]; simp only [officerSet, len]; rfl
  have hm : s.mode = 10 := show (inMode 10 []).mode = 10 by decide +kernel
  have j : Judged s 10 2690 b o.mlPub o.ecPub 1 := by
    refine ⟨by simp only [State.blkUp, hm]; rfl, len, by decide, by decide +kernel, ⟨rfl, rfl, by rw [hm]; rfl⟩,
      by simp only [recMode, hm]; rfl, ?_, ?_, Nat.le_refl 1, Or.inr (by rw [← hn]; rfl), ?_⟩
    · simp only [bodyFormed, len]
      rfl
    · intro e hb he
      simp only [recOfficers, he, hb, hm, ho]
      rfl
    · intro e hb he
      simp only [bodyCauses, he]
  exact ⟨(test_sent_fine j h).1, show (inMode 10 []).reg .SILO_TAMPER 0 = 0 by decide +kernel, rfl⟩

theorem test_witness_unsigned_retirement :
    let s := siloOf 10 [] fun x => { x with latch := true, zeroizeHigh := true }
    sentFine s (recHead 11 0 0) 11 ∧ (recHead 11 0 0).length ≤ reqSize := by
  decide +kernel

theorem test_witness_refused_record :
    let s := enrolled [] [] []
    envelopeCauses s [0] = [0xF2, 0xF3] ∧ s.blkUp .SILO = true ∧ (0xF2 < 0xF9) ∧ ([0] : List Byte).length ≤ reqSize := by
  decide +kernel

/-! ### Commands that cannot be sent

For each check of `Instr.wf` a command that it refuses, and one that it lets pass. -/

theorem test_wf_ports :
    ([.clientFrameRx 32 (zeros 18) .none, .reorderEmit 31, .lineFrameRx 31 (zeros 18) .none, .baleRx 31 (zeros 18),
      .otnDescriptorRx 31 0 (zeros 32), .clientDelivery 32] : List Instr).all (fun i => !i.wf) = true ∧
    ([.clientFrameRx 31 (zeros 18) .none, .reorderEmit 32, .lineFrameRx 32 (zeros 18) .none, .baleRx 32 (zeros 18),
      .otnDescriptorRx 32 0 (zeros 32), .clientDelivery 31] : List Instr).all Instr.wf = true := by decide

/-- A group with its overhead, of a payload of `n` bytes. -/
def groupOf (n opuc oduc sm : Nat) : OtnIn := ⟨zeros n, ⟨zeros opuc, zeros oduc, zeros sm⟩, FecCount.zero, 0, 0⟩

theorem test_wf_frames :
    ([.clientFrameRx 0 (zeros 17) .none, .macControlFrameRx 0 (zeros 17), .lineFrameRx 32 (zeros 17) .none, .macsecFrameRx 32 (zeros 17),
      .baleRx 32 (zeros 17), .otnDescriptorRx 32 0 (zeros 31), .otnGroupRx 32 0 (groupOf 9 64 336 24),
      .otnGroupTx 32 0 (groupOf 0 64 336 24)] : List Instr).all (fun i => !i.wf) = true := by decide

theorem test_whole_group (n opuc oduc sm : Nat) :
    wholeGroup (groupOf n opuc oduc sm) = (n == groupBytes && opuc == 64 && oduc == 336 && sm == 24) := by
  simp [wholeGroup, groupOf, zeros]

theorem test_wf_otn_group : let g := groupOf 121856 64 336 24
    Instr.wf (.otnGroupRx 31 0 g) = false ∧ Instr.wf (.otnGroupRx 32 0 g) = true ∧ Instr.wf (.otnGroupTx 32 0 g) = true ∧
    Instr.wf (.otnGroupTx 32 0 (groupOf 121856 63 336 24)) = false ∧ Instr.wf (.otnGroupTx 32 0 (groupOf 121856 64 335 24)) = false ∧
    Instr.wf (.otnGroupTx 32 0 (groupOf 121856 64 336 23)) = false := by
  simp only [Instr.wf, test_whole_group]
  decide

theorem test_wf_words :
    (∀ r ∈ [Instr.portProvision, .chEnable, .engCntClr, .pop, .start, .handover], Instr.wf (r .host 0) = false ∧ Instr.wf (r .host 1) = true) ∧
    (∀ r ∈ [Instr.portDeprovision, .chDisable], Instr.wf (r .host 1) = false ∧ Instr.wf (r .host 0) = true) ∧
    (∀ r ∈ [(Instr.takeover, (2 : Word)), (.feClr, 2), (.pause, 2), (.memCntClr, 4), (.resume, 4), (.chKey, 8), (.abort, 8),
        (.chEpochNow, 16), (.chRemap, 32), (.fabKill, 0x80000000), (.engineReset, 0x80000000), (.lostClear, 0x80000000),
        (.scrubNow, 0x20000000), (.retire, 0x10000000), (.glbReset, 0xA5C3)],
      Instr.wf (r.1 .host (0xFFFFFFFF ^^^ r.2)) = false ∧ Instr.wf (r.1 .host r.2) = true) := by decide

theorem test_wf_sheaf_words : ∀ r ∈ [(Instr.verify, 1), (.activate, 2), (.stage, 3), (.drain, 4), (.undrain, 5), (.update, 6),
      (.revert, 7), (.promote, 8), (.abandon, 9), (.erase, 1), (.program, 2), (.read, 3)],
    Instr.wf (r.1 .host (BitVec.ofNat 32 (r.2 * 2 ^ 28))) = true ∧ Instr.wf (r.1 .host (BitVec.ofNat 32 ((r.2 - 1) * 2 ^ 28))) = false := by
  decide

theorem test_wf_addresses : ∀ r ∈ [Instr.counterLoRead, .readClearAccess, (.registerWrite · · 0)],
    Instr.wf (r .host 1) = false ∧ Instr.wf (r .host 2) = false ∧ Instr.wf (r .host 4) = true := by decide

theorem test_wf_bursts :
    let r : XReq := ⟨.host, true, 32, 1, zeros 32, List.replicate 32 true⟩
    Instr.wf (.crossbarRequest r) = true ∧
    ([{ r with beats := 0, data := [], enables := [] }, { r with addr := 33 }, { r with enables := [] }, { r with data := [] },
      { r with beats := 17, data := zeros 544, enables := List.replicate 544 true }] : List XReq).all
      (fun x => !Instr.wf (.crossbarRequest x)) = true := by decide +kernel

theorem test_wf_ranges :
    ([.exception 0 0, .exception 0 13, .eccWriteback 0 (2 ^ 32), .candidateEntryExpiry 0 (2 ^ 32), .pageRetired 0 (2 ^ 24),
      .hourglassUpdate [], .hourglassHourly [] 0, .temperatureSample [], .i3cPrivateRead 0x29 0, .memorySoftError (.word 0 (2 ^ 32) [] false),
      .memorySoftError (.word 0 0 [80] false), .memorySoftError (.vote 0 (2 ^ 32) 0), .hostMemoryWrite false 0 [0] [], .hostMemoryWrite false 0 [] [],
      .hostMemoryWrite false 0x3FFFFFF [0, 0] [true, true], .hostMemoryRead true 0xFFFFFF 2, .hostMemoryRead false 0 0] :
      List Instr).all (fun i => !i.wf) = true ∧
    ([.exception 0 12, .eccWriteback 0 (2 ^ 32 - 1), .pageRetired 0 0, .memorySoftError (.word 0 0 [79] false), .memorySoftError (.vote 0 0 2),
      .hostMemoryWrite false 0x3FFFFFF [0] [true], .hostMemoryRead true 0xFFFFFE 2] : List Instr).all Instr.wf = true := by decide +kernel

/-! ### The queue -/

theorem test_queue_idle : State.reset.pending = [] ∧ State.reset.mode = modeDormant ∧
    (idle State.reset).rtc = State.reset.rtc + 30 ∧ (idle (idle State.reset)).rtc = State.reset.rtc + 61 := by decide +kernel

/-- The three cases of an empty queue, each in a state that meets its conditions. -/
theorem test_witness_queue :
    let still := fun s : State =>
      s.pending = [] ∧ s.fb GLB_MODE.TRANS 0 = false ∧ ¬ (s.mode = modeEscapement ∧ s.silo.retired = true)
    let slow := fun s : State => s.mode = modeDormant ∨ s.mode = modeEscapement
    let a := inMode modeStandby []
    let b := { a with tod := { a.tod with ahead := 2, skip := true } }
    (still State.reset ∧ slow State.reset ∧ State.reset.tod.ahead = 0) ∧ (still a ∧ ¬ slow a ∧ a.tod.ahead = 0) ∧
      still b ∧ ¬ slow b ∧ 0 < b.tod.ahead ∧ (idle b).rtc = b.rtc ∧ (idle b).tod.ahead = 1 := by decide +kernel

end Sys2Proof.Tests
end

section
/-! Consistency checks and register accesses by address: what a refusal records and leaves, the unit that an access reaches,
and what reads and writes of registers do there. -/

namespace Sys2Proof.Machine

/-! ### Registers and counters beside the one updated

The lemmas that hold by definition are proved through the tables: a step of `simp` that rests on definitional equality makes
the kernel evaluate the number written to a register, which it cannot finish for a sum such as that of GLB_LASTREF. -/

namespace State

variable {s : State} {r : Reg} {i j : Nat} {c : Ctr}

@[simp] theorem reg_inc : (s.inc c j).reg r i = s.reg r i := congrArg (SMap.get regResetAt · (r.key i)) (inc_regs ..)

@[simp] theorem cnt_setReg {v : Word} : (s.setReg r i v).cnt c j = s.cnt c j :=
  congrArg (SMap.get (fun _ => 0) · (c.key j)) (setReg_cnts ..)

@[simp] theorem cnt_raise {x : Fld} : (s.raise x i).cnt c j = s.cnt c j :=
  congrArg (SMap.get (fun _ => 0) · (c.key j)) (raise_cnts ..)

theorem reg_raise_ne {x : Fld} (h : ¬(r = x.reg ∧ i = j)) : (s.raise x j).reg r i = s.reg r i := reg_setF_ne h

theorem cnt_inc_ne {c' : Ctr} (h : ¬(c' = c ∧ j = i)) : (s.inc c i).cnt c' j = s.cnt c' j := by
  rw [inc, addCnt, cnt_setCnt, if_neg h]

@[simp] theorem shadowOf_setShadow {m : Nat} {v : Word} : (s.setShadow m v).shadowOf m = v := SMap.get_set_self

end State

/-! ### Updates of registers and counters alone -/

section
variable {s t u : State} {rs rs' : List (Reg × Nat)} {cs cs' : List (Ctr × Nat)}

theorem onlyRegs.trans (h : onlyRegs s t rs cs) (h' : onlyRegs t u rs' cs') : onlyRegs s u (rs ++ rs') (cs ++ cs') := by
  obtain ⟨hframe, hregs, hcnts⟩ := h
  obtain ⟨hframe', hregs', hcnts'⟩ := h'
  refine ⟨hframe'.trans (congrArg (fun x : State => { x with regs := u.regs, cnts := u.cnts }) hframe),
    fun r i hr => ?_, fun c i hc => ?_⟩
  · rw [List.mem_append, not_or] at hr
    rw [hregs' r i hr.2, hregs r i hr.1]
  · rw [List.mem_append, not_or] at hc
    rw [hcnts' c i hc.2, hcnts c i hc.1]

theorem onlyRegs_setReg (s : State) (r : Reg) (i : Nat) (v : Word) : onlyRegs s (s.setReg r i v) [(r, i)] [] :=
  ⟨rfl, fun r' i' hr => by rw [State.reg_setReg, if_neg (by simpa using hr)], fun _ _ _ => State.cnt_setReg⟩

theorem onlyRegs_raise (s : State) (x : Fld) (i : Nat) : onlyRegs s (s.raise x i) [(x.reg, i)] [] := onlyRegs_setReg ..

theorem onlyRegs_inc (s : State) (c : Ctr) (i : Nat) : onlyRegs s (s.inc c i) [] [(c, i)] :=
  ⟨rfl, fun _ _ _ => State.reg_inc, fun _ _ hc => State.cnt_inc_ne (by simpa using hc)⟩

end

/-! ### Refusals (R10, R541, R542) -/

/-- The registers of the last-refusal record, with that of its event. -/
def refusalRegs : List (Reg × Nat) :=
  [(.GLB_LASTREF, 0), (.GLB_LASTREF_INST, 0), (.GLB_LASTREF_TIME_LO, 0), (.GLB_LASTREF_TIME_HI, 0), (.GLB_EVT, 0)]

theorem blk_of_mem_refusalRegs : ∀ x ∈ refusalRegs, x.1.info.blk = .GLB := by decide

/-- A recorded refusal is four register writes, the count and the event. -/
theorem recordRefusal_eq (s : State) (blk code inst reason : Nat) :
    recordRefusal s blk code inst reason =
      (((((s.setReg .GLB_LASTREF 0 (BitVec.ofNat 32 (blk * 2 ^ 24 + code * 2 ^ 16 + reason))).setReg
        .GLB_LASTREF_INST 0 (BitVec.ofNat 32 inst)).setReg
        .GLB_LASTREF_TIME_LO 0 (s.rtc.setWidth 32)).setReg
        .GLB_LASTREF_TIME_HI 0 ((s.rtc >>> 32).setWidth 32)).inc .GLB_REFUSALS 0).raise GLB_EVT.REFUSAL 0 := by
  have hlo : BitVec.ofNat 32 s.rtc.toNat = s.rtc.setWidth 32 := BitVec.ofNat_toNat ..
  have hhi : BitVec.ofNat 32 (s.rtc.toNat / 2 ^ 32) = (s.rtc >>> 32).setWidth 32 := by
    rw [← Nat.shiftRight_eq_div_pow, ← BitVec.toNat_ushiftRight, BitVec.ofNat_toNat]
  rw [recordRefusal, State.setReg_rtc, State.setReg_rtc, State.setReg_rtc, State.setReg_rtc, State.setReg_rtc, hlo, hhi]

/-- What the last-refusal record holds after a refusal, with its event and its count. -/
theorem recordRefusal_record (s : State) (blk code inst reason : Nat) :
    let t := recordRefusal s blk code inst reason
    t.reg .GLB_LASTREF 0 = BitVec.ofNat 32 (blk * 2 ^ 24 + code * 2 ^ 16 + reason) ∧
    t.reg .GLB_LASTREF_INST 0 = BitVec.ofNat 32 inst ∧
    t.reg .GLB_LASTREF_TIME_LO 0 = s.rtc.setWidth 32 ∧ t.reg .GLB_LASTREF_TIME_HI 0 = (s.rtc >>> 32).setWidth 32 ∧
    t.fb GLB_EVT.REFUSAL 0 = true ∧ t.cnt .GLB_REFUSALS 0 = BitVec.ofNat 64 (satAdd 64 (s.cnt .GLB_REFUSALS 0).toNat 1) := by
  rw [recordRefusal_eq]
  generalize BitVec.ofNat 32 (blk * 2 ^ 24 + code * 2 ^ 16 + reason) = ref
  refine ⟨?_, ?_, ?_, ?_, State.fb_raise (by decide) rfl, ?_⟩
  case refine_5 => rw [State.cnt_raise, State.cnt_inc]; simp only [State.cnt_setReg]
  all_goals simp [State.reg_raise_ne, State.reg_setReg, GLB_EVT.REFUSAL]

/-- A recorded refusal touches the record, the event and the count alone. -/
theorem onlyRegs_recordRefusal (s : State) (blk code inst reason : Nat) :
    onlyRegs s (recordRefusal s blk code inst reason) refusalRegs [(.GLB_REFUSALS, 0)] := by
  rw [recordRefusal_eq]
  exact (onlyRegs_setReg ..).trans <| (onlyRegs_setReg ..).trans <| (onlyRegs_setReg ..).trans <|
    (onlyRegs_setReg ..).trans <| (onlyRegs_inc ..).trans <| onlyRegs_raise ..

/-- A refused check of a register outside GLB leaves its reason there, the record, and all else as it was. -/
theorem refusedWith_refuseCheck (s : State) {chk : Reg} (m : Master) (inst reason : Nat) (h : chk.info.blk ≠ .GLB) :
    refusedWith s (refuseCheck s chk m inst reason) chk m inst reason := by
  have hset := onlyRegs_setReg s chk (masterIdx m) (BitVec.ofNat 32 reason)
  have hrec := onlyRegs_recordRefusal (s.setReg chk (masterIdx m) (BitVec.ofNat 32 reason)) (chk.info.blk.base / 2 ^ 16 % 256)
    (masterCode m) inst reason
  obtain ⟨href, hinst, hlo, hhi, hevt, hcnt⟩ := recordRefusal_record (s.setReg chk (masterIdx m) (BitVec.ofNat 32 reason))
    (chk.info.blk.base / 2 ^ 16 % 256) (masterCode m) inst reason
  rw [State.setReg_rtc] at hlo hhi
  rw [State.cnt_setReg] at hcnt
  have hchk := hrec.2.1 chk (masterIdx m) fun hm => h (blk_of_mem_refusalRegs _ hm)
  exact ⟨hchk.trans State.reg_setReg_self, href, hinst, hlo, hhi, hevt, hcnt, hset.trans hrec⟩

/-- A check without a cause runs the request after the acceptance. -/
theorem checked_nil (s : State) (chk : Reg) (m : Master) (inst : Nat) (effect : State → State) :
    checked s chk m inst [] effect = effect (acceptCheck s chk m) := rfl

/-- Of several causes the lowest code is reported. -/
theorem checked_lowest (s : State) (chk : Reg) (m : Master) (inst : Nat) {codes : List Nat} (effect : State → State) {c : Nat}
    (hc : c ∈ codes) (hmin : ∀ d ∈ codes, c ≤ d) : checked s chk m inst codes effect = refuseCheck s chk m inst c := by
  have hlow : codes.min? = some c := List.min?_eq_some_iff.2 ⟨hc, hmin⟩
  rw [checked, hlow]

/-- Settles O16: the check reports the lowest cause, and a refusal is the write of the check register and the record. -/
theorem refusedRequestsChangeOnlyTheRecord : Obligations.RefusedRequestsChangeOnlyTheRecord := by
  intro s chk m inst codes effect hblk _
  refine ⟨?_, fun c hc hmin => ?_⟩
  · rintro rfl
    exact checked_nil s chk m inst effect
  · rw [checked_lowest s chk m inst effect hc hmin]
    exact refusedWith_refuseCheck s m inst c hblk

/-! ### Where an access lands (R414, R535, R536) -/

section
variable {s : State} {m : Master} {a : Nat} {b : Blk} {off i row : Nat} {c : Ctr} {r : Reg} {hi : Bool}

theorem lands.place (h : lands s m a b off i) : placeOf s m a = .at b off := h.1

/-- The unit that an access reaches: the selected one in a window; outside a window, or in a block without a selector, there is
one unit alone. -/
theorem lands.unit (h : lands s m a b off i) :
    (∃ sel, blkSel b = some sel ∧ inWindowRange b off = true ∧ selected s sel m = some i) ∨
    (∃ sel, blkSel b = some sel ∧ inWindowRange b off = false ∧ i = 0) ∨ (blkSel b = none ∧ i = 0) := by
  have hunit := h.2
  cases hsel : blkSel b with
  | none => exact .inr (.inr ⟨rfl, by simpa [hsel] using hunit⟩)
  | some sel =>
    cases hwin : inWindowRange b off with
    | false => exact .inr (.inl ⟨sel, rfl, rfl, by simpa [hsel, hwin] using hunit⟩)
    | true => exact .inl ⟨sel, rfl, rfl, by simpa [hsel, hwin] using hunit⟩

/-- A read that lands on a counter's word reads the counter of the unit reached. -/
theorem regRead_counter (h : lands s m a b off i) (hc : ctrAt b off = some (c, row, hi)) :
    regRead s m a =
      let p := counterRead s m (s.cnt c (if c.info.2.1 = .window then i else row)).toNat hi
      (p.1, rOkay, p.2) := by
  have hplace := h.place
  obtain ⟨sel, hsel, hwin, hunit⟩ | ⟨sel, hsel, hwin, rfl⟩ | ⟨hsel, rfl⟩ := h.unit <;> simp [regRead, blockRead, *]

/-- A read that lands on a register reads its copy of the unit reached. -/
theorem regRead_register (h : lands s m a b off i) (hc : ctrAt b off = none) (hr : regAt b off = some (r, row)) :
    regRead s m a = let p := regValue s m r (copyOf r m i row) row; (p.1, rOkay, p.2) := by
  have hplace := h.place
  obtain ⟨sel, hsel, hwin, hunit⟩ | ⟨sel, hsel, hwin, rfl⟩ | ⟨hsel, rfl⟩ := h.unit <;> simp [regRead, blockRead, *]

/-- A write that lands on a register acts on its copy of the unit reached. -/
theorem regWrite_register (h : lands s m a b off i) (hr : regAt b off = some (r, row)) (v : Word) :
    regWrite s m a v = (rOkay, regAction s m r (copyOf r m i row) i row v) := by
  have hplace := h.place
  obtain ⟨sel, hsel, hwin, hunit⟩ | ⟨sel, hsel, hwin, rfl⟩ | ⟨hsel, rfl⟩ := h.unit <;> simp [regWrite, blockWrite, *]

/-- A counter's word that captures is one at which COUNTER_LO_READ reads. -/
theorem captureAt_counter (h : lands s m a b off i) (hc : ctrAt b off = some (c, row, hi))
    (hcap : hi = decide (m = .host ∧ hostView s = 1)) : captureAt s m a = true := by
  simp only [captureAt, h.place, hc, ← hcap, beq_self_eq_true, Bool.true_or]

/-- READ_CLEAR_ACCESS reads at a register that holds an RC field. -/
theorem readClearAt_register (h : lands s m a b off i) (hr : regAt b off = some (r, row)) : readClearAt s m a = isRC r := by
  simp only [readClearAt, h.place, hr]

end

/-! ### What a read and a write do there (R9, R65, R79, R164) -/

/-- A read of the word that captures returns its half and keeps the other for the master; the host's view 1 captures with
HI. -/
theorem counterRead_captures {s : State} {m : Master} {hi : Bool} (h : hi = decide (m = .host ∧ hostView s = 1)) (v : Nat) :
    let half := fun (h : Bool) => if h then v / 2 ^ 32 % 2 ^ 32 else v % 2 ^ 32
    counterRead s m v hi = (half hi, s.setShadow (masterIdx m) (BitVec.ofNat 32 (half (!hi)))) := by
  by_cases hv : m = .host ∧ hostView s = 1
  · obtain rfl : hi = true := by simpa [hv] using h
    simp [counterRead, hv, word]
  · obtain rfl : hi = false := by simpa [hv] using h
    simp [counterRead, hv, word]

/-- A read of PORT_EXP_OCC shows the peak and the occupancy in KiB, and clears the peak. -/
theorem regValue_PORT_EXP_OCC (s : State) (m : Master) (i row : Nat) :
    regValue s m .PORT_EXP_OCC i row =
      (max (s.f PORT_EXP_OCC.PEAK i) (occupancyKib s i) * 2 ^ 16 + occupancyKib s i, s.setF PORT_EXP_OCC.PEAK i 0) := rfl

/-- A write of a register whose bits are cleared by writing 1 does nothing else, the overflow flags of MEM_OVF apart: no other
register of that access has a meaning of its own. -/
theorem regAction_w1c {s : State} {m : Master} {r : Reg} (hacc : r.info.acc = .w1c) (hovf : r ≠ .MEM_OVF) (i u row : Nat)
    (v : Word) : regAction s m r i u row v = s.setReg r i (s.reg r i &&& ~~~(maskedWrite r v)) := by
  have hplain : regAction s m r i u row v = plainWrite s r i v := by
    unfold regAction
    split
    case h_25 => exact absurd rfl hovf -- the arm of MEM_OVF
    case h_57 => rfl -- the registers without an arm of their own
    all_goals exact absurd hacc (by decide)
  rw [hplain, plainWrite, hacc]

theorem answer_resp (s : State) (m : Master) (n : Nat) :
    SMap.get (fun _ => ([], 0)) (answer s m n).resp (respKey m) = (leBytes 4 n, 0) := by
  simp [answer]

theorem answerRead_resp (m : Master) (n resp : Nat) (s : State) :
    SMap.get (fun _ => ([], 0)) (answerRead m (n, resp, s)).resp (respKey m) = (leBytes 4 n, resp) := by
  simp [answerRead]

/-- An access through a selector that maps no window sets the error bit of the master. -/
theorem inWindow_unmapped {s : State} {sel : SelBlock} {m : Master} (h : selected s sel m = none)
    (effect : Nat → State → State) : inWindow s sel m effect = s.setF (selField sel).2 (masterIdx m) 1 := by
  rw [inWindow, h]

/-- UNMAPPED_WINDOW_ACCESS where the block answers and the selector maps no window. -/
theorem exec_unmappedWindowAccess {s : State} {sel : SelBlock} {m : Master} (hup : s.blkUp (selBlk sel) = true)
    (h : selected s sel m = none) (write : Bool) :
    exec (.unmappedWindowAccess m sel write) s =
      let t := s.setF (selField sel).2 (masterIdx m) 1
      .next (if write then t else answer t m 0) := by
  simp only [exec, execUnmappedWindowAccess, whenUp, hup, h, inWindow_unmapped h, Option.isSome_none, if_true,
    Bool.false_eq_true, if_false]

/-- Settles O28: the access reaches the unit that it lands on, where the read or the write has its effect. -/
theorem accessesReadCaptureAndClear : Obligations.AccessesReadCaptureAndClear := by
  intro s m sel a v b off i row c r hi
  refine ⟨fun hup hsel => ⟨?_, ?_⟩, fun hl hc hcap => ?_, fun hl _ => ?_, fun ha hl hr hacc hovf => ?_⟩
  · exact exec_unmappedWindowAccess hup hsel true
  · exact ⟨_, exec_unmappedWindowAccess hup hsel false, answer_resp .., rfl⟩
  · refine ⟨_, congrArg Host.Outcome.next (if_pos (captureAt_counter hl hc hcap)), ?_⟩
    rw [regRead_counter hl hc, counterRead_captures hcap]
    exact ⟨answerRead_resp .., State.shadowOf_setShadow, rfl⟩
  · have hreg : regAt .PORT Reg.PORT_EXP_OCC.info.off = some (.PORT_EXP_OCC, 0) := by decide +kernel
    have hctr : ctrAt .PORT Reg.PORT_EXP_OCC.info.off = none := by decide +kernel
    have hcopy : copyOf .PORT_EXP_OCC m i 0 = i := by simp [copyOf, Reg.info]
    have hclear : readClearAt s m a.toNat = true := (readClearAt_register hl hreg).trans (by decide)
    refine ⟨_, congrArg Host.Outcome.next (if_pos hclear), ?_⟩
    rw [regRead_register hl hctr hreg, hcopy, regValue_PORT_EXP_OCC]
    exact ⟨answerRead_resp .., rfl⟩
  · refine congrArg Host.Outcome.next ((if_pos ha).trans ?_)
    rw [regWrite_register hl hr, regAction_w1c hacc hovf]

end Sys2Proof.Machine
end

section
/-! Fields and frames of updates of registers, of memory operations, and of the data path, the mirror and a relinquish. -/

namespace Sys2Proof.Machine

/-! ### Fields and frames of register updates -/

namespace State

variable {s : State} {x y : Fld} {i j n : Nat} {b : Bool}

theorem f_setF_one (hx : x.lo + x.len ≤ 32) (hn : n < 2 ^ x.len) : (s.setF x i n).f x i = n := by
  rw [f_setF hx, Nat.mod_eq_of_lt hn]

theorem f_setB_ne (hx : x.lo + x.len ≤ 32)
    (h : y.reg ≠ x.reg ∨ j ≠ i ∨ y.lo + y.len ≤ x.lo ∨ x.lo + x.len ≤ y.lo) : (s.setB x i b).f y j = s.f y j :=
  f_setF_ne hx h

theorem f_raise_ne (hx : x.lo + x.len ≤ 32)
    (h : y.reg ≠ x.reg ∨ j ≠ i ∨ y.lo + y.len ≤ x.lo ∨ x.lo + x.len ≤ y.lo) : (s.raise x i).f y j = s.f y j :=
  f_setF_ne hx h

theorem fb_setF_ne (hx : x.lo + x.len ≤ 32)
    (h : y.reg ≠ x.reg ∨ j ≠ i ∨ y.lo + y.len ≤ x.lo ∨ x.lo + x.len ≤ y.lo) : (s.setF x i n).fb y j = s.fb y j := by
  rw [fb, f_setF_ne hx h, fb]

theorem fb_setB_ne (hx : x.lo + x.len ≤ 32)
    (h : y.reg ≠ x.reg ∨ j ≠ i ∨ y.lo + y.len ≤ x.lo ∨ x.lo + x.len ≤ y.lo) : (s.setB x i b).fb y j = s.fb y j :=
  fb_setF_ne hx h

theorem fb_raise_ne (hx : x.lo + x.len ≤ 32)
    (h : y.reg ≠ x.reg ∨ j ≠ i ∨ y.lo + y.len ≤ x.lo ∨ x.lo + x.len ≤ y.lo) : (s.raise x i).fb y j = s.fb y j :=
  fb_setF_ne hx h

theorem fb_setF (hx : x.lo + x.len ≤ 32) : (s.setF x i n).fb x i = (n % 2 ^ x.len != 0) := by rw [fb, f_setF hx]

theorem fb_setB (hx : x.lo + x.len ≤ 32) (h1 : x.len = 1) : (s.setB x i b).fb x i = b := by
  rw [setB, fb_setF hx, h1]; cases b <;> rfl

theorem f_setReg (h : ¬(y.reg = r ∧ j = i)) {v : Word} : (s.setReg r i v).f y j = s.f y j := f_setReg_ne h

end State

section
variable {s t u : State} {rs rs' : List (Reg × Nat)} {cs cs' : List (Ctr × Nat)}

theorem onlyRegs.mono (h : onlyRegs s t rs cs) (hr : rs ⊆ rs') (hc : cs ⊆ cs') : onlyRegs s t rs' cs' :=
  ⟨h.1, fun r i hn => h.2.1 r i fun hm => hn (hr hm), fun c i hn => h.2.2 c i fun hm => hn (hc hm)⟩

theorem onlyRegs_refl (s : State) : onlyRegs s s rs cs := ⟨rfl, fun _ _ _ => rfl, fun _ _ _ => rfl⟩

theorem onlyRegs_setF (s : State) (x : Fld) (i n : Nat) : onlyRegs s (s.setF x i n) [(x.reg, i)] [] := onlyRegs_setReg ..

theorem onlyRegs_setB (s : State) (x : Fld) (i : Nat) (b : Bool) : onlyRegs s (s.setB x i b) [(x.reg, i)] [] :=
  onlyRegs_setReg ..

/-- Two updates of the same listed registers and counters. -/
theorem onlyRegs.step (h : onlyRegs s t rs cs) (h' : onlyRegs t u rs' cs') (hr : rs' ⊆ rs) (hc : cs' ⊆ cs) :
    onlyRegs s u rs cs :=
  (h.trans h').mono (List.append_subset.2 ⟨List.Subset.refl _, hr⟩) (List.append_subset.2 ⟨List.Subset.refl _, hc⟩)

/-- A field of a register that is not listed. -/
theorem onlyRegs.f (h : onlyRegs s t rs cs) {x : Fld} {i : Nat} (hx : (x.reg, i) ∉ rs) : t.f x i = s.f x i := by
  rw [State.f, h.2.1 _ _ hx, State.f]

theorem onlyRegs.fb (h : onlyRegs s t rs cs) {x : Fld} {i : Nat} (hx : (x.reg, i) ∉ rs) : t.fb x i = s.fb x i := by
  rw [State.fb, h.f hx, State.fb]
end

/-- Nothing but registers differs, and of them only those listed. -/
def setsRegs (s t : State) (l : List (Reg × Nat)) : Prop := t = { s with regs := t.regs } ∧ keepsRegs s t l

section
variable {s t u : State} {l l' : List (Reg × Nat)}

theorem setsRegs_refl (s : State) : setsRegs s s l := ⟨rfl, fun _ _ _ => rfl⟩

theorem setsRegs_setReg (s : State) (r : Reg) (i : Nat) (v : Word) : setsRegs s (s.setReg r i v) [(r, i)] :=
  ⟨rfl, (onlyRegs_setReg s r i v).2.1⟩

theorem setsRegs_setF (s : State) (x : Fld) (i n : Nat) : setsRegs s (s.setF x i n) [(x.reg, i)] := setsRegs_setReg ..

theorem setsRegs.trans (h : setsRegs s t l) (h' : setsRegs t u l') : setsRegs s u (l ++ l') := by
  refine ⟨h'.1.trans (congrArg (fun x : State => { x with regs := u.regs }) h.1), fun r i hr => ?_⟩
  rw [List.mem_append, not_or] at hr
  rw [h'.2 r i hr.2, h.2 r i hr.1]

theorem setsRegs.mono (h : setsRegs s t l) (hl : l ⊆ l') : setsRegs s t l' :=
  ⟨h.1, fun r i hn => h.2 r i fun hm => hn (hl hm)⟩

theorem setsRegs.only (h : setsRegs s t l) : onlyRegs s t l [] := by
  have hcnt : t.cnts = s.cnts := (congrArg State.cnts h.1).trans rfl
  refine ⟨?_, h.2, fun c i _ => by rw [State.cnt, hcnt, State.cnt]⟩
  rw [hcnt]
  exact h.1

end

/-! ### Frames of memory operations -/

/-- Nothing but protected memory, its controllers and the registers and counters of MEM differs. -/
def memOnly (s t : State) : Prop :=
  t = { s with regs := t.regs, cnts := t.cnts, rams := t.rams, errs := t.errs, valid := t.valid, memCtl := t.memCtl } ∧
  (∀ r i, r.info.blk ≠ .MEM → t.reg r i = s.reg r i) ∧ ∀ c i, c.info.1 ≠ .MEM → t.cnt c i = s.cnt c i

theorem foldl_rel_of_step {α β : Type} {R : α → α → Prop} (hrefl : ∀ a, R a a)
    (htrans : ∀ a b c, R a b → R b c → R a c)
    {f : α → β → α} (h : ∀ a b, R a (f a b)) (l : List β) (a : α) : R a (l.foldl f a) := by
  induction l generalizing a with
  | nil => exact hrefl a
  | cons b l ih => exact htrans _ _ _ (h a b) (ih _)

section
variable {s t u : State}

theorem memOnly_refl (s : State) : memOnly s s := ⟨rfl, fun _ _ _ => rfl, fun _ _ _ => rfl⟩

theorem memOnly.trans (h : memOnly s t) (h' : memOnly t u) : memOnly s u := by
  obtain ⟨hframe, hregs, hcnts⟩ := h
  obtain ⟨hframe', hregs', hcnts'⟩ := h'
  refine ⟨hframe'.trans (congrArg (fun x : State =>
    { x with regs := u.regs, cnts := u.cnts, rams := u.rams, errs := u.errs, valid := u.valid, memCtl := u.memCtl }) hframe),
    fun r i hr => ?_, fun c i hc => ?_⟩
  · rw [hregs' r i hr, hregs r i hr]
  · rw [hcnts' c i hc, hcnts c i hc]

theorem memOnly_foldl {β : Type} {f : State → β → State} (h : ∀ s b, memOnly s (f s b)) (l : List β) (s : State) :
    memOnly s (l.foldl f s) := foldl_rel_of_step memOnly_refl (fun _ _ _ => memOnly.trans) h l s

theorem memOnly_setReg {r : Reg} (hr : r.info.blk = .MEM) (s : State) (i : Nat) (v : Word) : memOnly s (s.setReg r i v) := by
  refine ⟨rfl, fun r' i' h => ?_, fun c i' _ => State.cnt_setReg⟩
  rw [State.reg_setReg_ne]
  rintro rfl
  exact h hr

theorem memOnly_setF {x : Fld} (hx : x.reg.info.blk = .MEM) (s : State) (i n : Nat) : memOnly s (s.setF x i n) :=
  memOnly_setReg hx ..

theorem memOnly_raise {x : Fld} (hx : x.reg.info.blk = .MEM) (s : State) (i : Nat) : memOnly s (s.raise x i) :=
  memOnly_setReg hx ..

theorem memOnly_inc {c : Ctr} (hc : c.info.1 = .MEM) (s : State) (i : Nat) : memOnly s (s.inc c i) := by
  refine ⟨rfl, fun r i' _ => State.reg_inc, fun c' i' h => State.cnt_inc_ne ?_⟩
  rintro ⟨rfl, -⟩
  exact h hc

theorem memOnly_setMemc (s : State) (k : Nat) (v : MemCtl) : memOnly s (s.setMemc k v) :=
  ⟨rfl, fun _ _ _ => rfl, fun _ _ _ => rfl⟩

theorem memOnly_setRam (s : State) (k : Nat) (m : Mem) : memOnly s (s.setRam k m) := ⟨rfl, fun _ _ _ => rfl, fun _ _ _ => rfl⟩

theorem memOnly_setWordErr (s : State) (k w : Nat) (e : WordErr) : memOnly s (setWordErr s k w e) :=
  ⟨rfl, fun _ _ _ => rfl, fun _ _ _ => rfl⟩

theorem memOnly_setValid (s : State) (k w : Nat) (b : Bool) : memOnly s (setValid s k w b) :=
  ⟨rfl, fun _ _ _ => rfl, fun _ _ _ => rfl⟩

theorem memOnly_appendLog (s : State) (k : Nat) (e : LogEnt) : memOnly s (appendLog s k e) := by
  have hlog : ∀ u, memOnly s u → memOnly s
      (if (u.memc k).fifo.length < 16 then u.setMemc k { u.memc k with fifo := (u.memc k).fifo ++ [e] }
       else ((u.setF MEM_OVF.COUNT k (satAdd 16 (u.f MEM_OVF.COUNT k) 1)).setF MEM_OVF.LOST k 1).raise MEM_EVT.LOST k) := by
    intro u hu
    split
    · exact hu.trans (memOnly_setMemc ..)
    · exact hu.trans <| (memOnly_setF rfl ..).trans <| (memOnly_setF rfl ..).trans <| memOnly_raise rfl ..
  refine hlog _ ?_
  split
  · exact memOnly_refl s
  · exact (memOnly_setReg rfl ..).trans <| (memOnly_setReg rfl ..).trans <| (memOnly_setReg rfl ..).trans <|
      memOnly_setReg rfl ..

theorem memOnly_memLog (s : State) (k kind op : Nat) (wb : Bool) (code : Nat) (bits : List Nat) (w : Nat) :
    memOnly s (memLog s k kind op wb code bits w) := memOnly_appendLog ..

theorem memOnly_memLogBad (s : State) (k kind op code w : Nat) : memOnly s (memLogBad s k kind op code w) :=
  memOnly_appendLog ..

theorem memOnly_voteRead (s : State) (k w op code : Nat) : memOnly s (voteRead s k w op code) := by
  unfold voteRead
  split
  · exact (memOnly_setWordErr ..).trans (memOnly_memLog ..)
  · exact memOnly_refl s

theorem memOnly_trackCorrection (s : State) (k w op code : Nat) (bits : List Nat) :
    memOnly s (trackCorrection s k w op code bits) := by
  unfold trackCorrection
  extract_lets
  split
  · exact (memOnly_setMemc ..).trans <| (memOnly_setF rfl ..).trans <| (memOnly_memLog ..).trans (memOnly_raise rfl ..)
  · exact (memOnly_setMemc ..).trans (memOnly_setF rfl ..)

theorem memOnly_queueWriteBack (s : State) (k w : Nat) : memOnly s (queueWriteBack s k w).1 := by
  unfold queueWriteBack
  dsimp only
  split
  · exact memOnly_refl s
  · exact memOnly_setMemc ..

theorem memOnly_noteRead (s : State) (k w op code : Nat) : memOnly s (noteRead s k w op code) := by
  unfold noteRead
  refine (memOnly_voteRead s k w op code).trans ?_
  dsimp only
  split
  · split
    · exact memOnly_refl _
    · exact (memOnly_queueWriteBack ..).trans <| (memOnly_memLog ..).trans <| (memOnly_inc rfl ..).trans <|
        (memOnly_raise rfl ..).trans <| memOnly_trackCorrection ..
  · exact (memOnly_memLogBad ..).trans <| (memOnly_inc rfl ..).trans <| memOnly_raise rfl ..
  · exact memOnly_refl _

theorem memOnly_memRead (s : State) (k a n op code : Nat) : memOnly s (memRead s k a n op code).2.2 :=
  memOnly_foldl (fun s w => memOnly_noteRead s k w op code) _ s

theorem memOnly_takeFlip (s : State) (k w : Nat) : memOnly s (takeFlip s k w).2 := by
  unfold takeFlip
  dsimp only
  split
  · exact memOnly_refl s
  · exact (memOnly_setF rfl ..).trans (memOnly_setF rfl ..)

theorem memOnly_storeWord (s : State) (k w : Nat) (bs : List (Option Byte)) (b : Bool) : memOnly s (storeWord s k w bs b) := by
  unfold storeWord
  cases b
  · exact (memOnly_setRam ..).trans <| (memOnly_setWordErr ..).trans <| (memOnly_setValid ..).trans <| memOnly_setMemc ..
  · exact (memOnly_setRam ..).trans <| (memOnly_takeFlip ..).trans <| (memOnly_setWordErr ..).trans <|
      (memOnly_setValid ..).trans <| memOnly_setMemc ..

theorem memOnly_uncache (s : State) (k w code : Nat) : memOnly s (uncache s k w code) := by
  unfold uncache
  split
  · exact memOnly_setMemc ..
  · exact memOnly_refl s

theorem memOnly_writeWord (s : State) (k w : Nat) (lanes : List (Option Byte)) (code : Nat) :
    memOnly s (writeWord s k w lanes code).2 := by
  unfold writeWord
  have hstore : ∀ t, memOnly t (uncache (storeWord t k w lanes true) k w code) := fun t =>
    (memOnly_storeWord ..).trans (memOnly_uncache ..)
  split
  · exact memOnly_refl s
  split
  · dsimp only
    split
    · exact (memOnly_memLogBad ..).trans (hstore _)
    · exact hstore s
  · refine (memOnly_voteRead s k w 1 code).trans ?_
    dsimp only
    split
    · exact (memOnly_memLogBad ..).trans (memOnly_raise rfl ..)
    · dsimp only
      split
      · exact hstore _
      · exact (memOnly_memLog ..).trans <| (memOnly_inc rfl ..).trans <| (memOnly_raise rfl ..).trans <|
          (memOnly_trackCorrection ..).trans (hstore _)
    · exact hstore _

theorem memOnly_memWrite (s : State) (k a : Nat) (bs : List (Option Byte)) (code : Nat) :
    memOnly s (memWrite s k a bs code).2 := by
  refine foldl_rel_of_step (R := fun (p q : Bool × State) => memOnly p.2 q.2) (fun p => memOnly_refl p.2)
    (fun _ _ _ => memOnly.trans) (fun p w => ?_) _ (false, s)
  exact memOnly_writeWord p.2 ..

theorem memOnly_imageLook (s : State) (e : Nat) : memOnly s (imageLook s e) :=
  memOnly_foldl (fun s w => memOnly_noteRead s sramCtl w 0 e) _ s

theorem memOnly_ctxLook (s : State) (c w n : Nat) : memOnly s (ctxLook s c w n) :=
  memOnly_foldl (fun s w => memOnly_noteRead s ctxCtl w 0 codeData) _ s

end

/-! ### What the data path, the mirror and a relinquish leave alone -/

/-- The states of the engines, their commands to the crossbar, and the uncorrectable codewords of the ports are as they were. -/
structure Spares (s t : State) : Prop where
  status : ∀ e, t.reg .ENG_STATUS e = s.reg .ENG_STATUS e
  uncorr : ∀ p, t.cnt .PORT_FEC_UNCORR p = s.cnt .PORT_FEC_UNCORR p
  event : ∀ p, t.f PORT_EVT.FEC_UNCORR p = s.f PORT_EVT.FEC_UNCORR p
  xb : ∀ e, (t.eng e).xbCmd = (s.eng e).xbCmd

section
variable {s t u : State}

theorem spares_refl (s : State) : Spares s s := ⟨fun _ => rfl, fun _ => rfl, fun _ => rfl, fun _ => rfl⟩

theorem Spares.trans (h : Spares s t) (h' : Spares t u) : Spares s u :=
  ⟨fun e => (h'.status e).trans (h.status e), fun p => (h'.uncorr p).trans (h.uncorr p),
    fun p => (h'.event p).trans (h.event p), fun e => (h'.xb e).trans (h.xb e)⟩

theorem spares_foldl {β : Type} {f : State → β → State} (h : ∀ s b, Spares s (f s b)) (l : List β) (s : State) :
    Spares s (l.foldl f s) := foldl_rel_of_step spares_refl (fun _ _ _ => Spares.trans) h l s

theorem spares_ite {p : Prop} [Decidable p] {a b : State} (ha : Spares s a) (hb : Spares s b) : Spares s (if p then a else b) := by
  split <;> assumption

/-- A change beside registers, counters and engines. -/
theorem spares_of_eq (hr : t.regs = s.regs) (hc : t.cnts = s.cnts) (he : t.engs = s.engs) : Spares s t := by
  have hreg : ∀ r i, t.reg r i = s.reg r i := fun r i => by rw [State.reg, hr, State.reg]
  refine ⟨fun _ => hreg _ _, fun p => by rw [State.cnt, hc, State.cnt], fun p => ?_, fun e => ?_⟩
  · rw [State.f, hreg, State.f]
  · rw [State.eng, he, State.eng]

/-- A register write other than of ENG_STATUS and PORT_EVT. -/
theorem spares_setReg {r : Reg} (h1 : r ≠ .ENG_STATUS) (h2 : r ≠ .PORT_EVT) (s : State) (i : Nat) (v : Word) :
    Spares s (s.setReg r i v) :=
  ⟨fun _ => State.reg_setReg_ne h1.symm, fun _ => State.cnt_setReg,
    fun _ => State.f_setReg fun h => h2 h.1.symm, fun _ => rfl⟩

theorem spares_setF {x : Fld} (h1 : x.reg ≠ .ENG_STATUS) (h2 : x.reg ≠ .PORT_EVT) (s : State) (i n : Nat) :
    Spares s (s.setF x i n) := spares_setReg h1 h2 ..

theorem spares_raise {x : Fld} (h1 : x.reg ≠ .ENG_STATUS) (h2 : x.reg ≠ .PORT_EVT) (s : State) (i : Nat) :
    Spares s (s.raise x i) := spares_setReg h1 h2 ..

/-- An event of a port other than FEC_UNCORR. -/
theorem spares_raise_port {x : Fld} (hreg : x.reg = .PORT_EVT) (hlen : x.lo + x.len ≤ 32)
    (hlo : 7 ≤ x.lo ∨ x.lo + x.len ≤ 6) (s : State) (i : Nat) : Spares s (s.raise x i) := by
  refine ⟨fun _ => State.reg_raise_ne (by simp [hreg]), fun _ => State.cnt_raise, fun p => ?_, fun _ => rfl⟩
  exact State.f_raise_ne hlen (.inr (.inr (hlo.symm.imp id id |>.elim (fun h => .inr h) (fun h => .inl h))))

theorem spares_addCnt {c : Ctr} (hc : c ≠ .PORT_FEC_UNCORR) (s : State) (i n : Nat) : Spares s (s.addCnt c i n) := by
  refine ⟨fun _ => rfl, fun p => ?_, fun _ => rfl, fun _ => rfl⟩
  rw [State.addCnt, State.cnt_setCnt, if_neg fun h => hc h.1.symm]

theorem spares_inc {c : Ctr} (hc : c ≠ .PORT_FEC_UNCORR) (s : State) (i : Nat) : Spares s (s.inc c i) := spares_addCnt hc ..

theorem spares_updEng {g : Eng → Eng} (hg : ∀ x, (g x).xbCmd = x.xbCmd) (s : State) (e : Nat) : Spares s (s.updEng e g) := by
  refine ⟨fun _ => rfl, fun _ => rfl, fun _ => rfl, fun k => ?_⟩
  rw [State.eng_updEng]
  split
  · rename_i h; rw [hg, h]
  · rfl

theorem memOnly.spares (h : memOnly s t) : Spares s t := by
  obtain ⟨hframe, hregs, hcnts⟩ := h
  have hengs : t.engs = s.engs := (congrArg State.engs hframe).trans rfl
  refine ⟨fun e => hregs _ _ (by decide), fun p => hcnts _ _ (by decide), fun p => ?_, fun e => ?_⟩
  · rw [State.f, hregs _ _ (by decide), State.f]
  · rw [State.eng, hengs, State.eng]

/-! #### Contexts, queues and slice buffers -/

theorem spares_ctxWriteBytes (s : State) (c w : Nat) (bs : List (Option Byte)) (code : Nat) :
    Spares s (ctxWriteBytes s c w bs code) := by
  unfold ctxWriteBytes
  have hmem := (memOnly_memWrite s ctxCtl (ctxAddr s c w) bs code).spares
  dsimp only
  split
  · exact hmem.trans (spares_raise (by decide) (by decide) ..)
  · exact hmem

theorem spares_ctxSet (s : State) (x : CtxF) (c v code : Nat) : Spares s (ctxSet s x c v code) := spares_ctxWriteBytes ..

theorem spares_zeroise (s : State) (c : Nat) : Spares s (zeroise s c) :=
  (spares_ctxWriteBytes ..).trans <| (spares_ctxWriteBytes ..).trans <| (spares_ctxWriteBytes ..).trans <|
    spares_ctxWriteBytes ..

theorem spares_chCount (s : State) (c i n : Nat) : Spares s (chCount s c i n) := spares_of_eq rfl rfl rfl

theorem spares_setChan (s : State) (c : Nat) (v : Chan) : Spares s (s.setChan c v) := spares_of_eq rfl rfl rfl

theorem spares_setPort (s : State) (p : Nat) (v : PortSt) : Spares s (s.setPort p v) := spares_of_eq rfl rfl rfl

theorem spares_bufFetch (s : State) (f : QFrame) : Spares s (bufFetch s f).2.2 := by
  refine foldl_rel_of_step (R := fun (p q : List Byte × Bool × State) => Spares p.2.2 q.2.2) (fun p => spares_refl p.2.2)
    (fun _ _ _ => Spares.trans) (fun p r => ?_) f.runs ([], false, s)
  exact (memOnly_memRead p.2.2 ..).spares

theorem spares_bufFetchAll (s : State) (fs : List QFrame) : Spares s (bufFetchAll s fs).2.2 :=
  foldl_rel_of_step (R := fun (p q : List (List Byte) × Bool × State) => Spares p.2.2 q.2.2) (fun p => spares_refl p.2.2)
    (fun _ _ _ => Spares.trans) (fun p f => spares_bufFetch p.2.2 f) fs ([], false, s)

theorem spares_writeRuns (s : State) (k : Nat) (runs : List (Nat × Nat)) (bs : List Byte) : Spares s (writeRuns s k runs bs) :=
  foldl_rel_of_step (R := fun (p q : State × List Byte) => Spares p.1 q.1) (fun p => spares_refl p.1)
    (fun _ _ _ => Spares.trans) (fun p _ => (memOnly_memWrite p.1 ..).spares) runs (s, bs)

theorem spares_dpDiscard (s : State) (h : Nat) : Spares s (dpDiscard s h) := spares_inc (by decide) ..

theorem spares_meetEntry (s : State) (x : TableEnt) (code : Nat) : Spares s (meetEntry s x code) := by
  unfold meetEntry
  split
  · exact (memOnly_memLog ..).spares.trans (spares_of_eq rfl rfl rfl)
  · exact spares_refl s

theorem spares_meetEntries (s : State) (l : List TableEnt) (code : Nat) : Spares s (meetEntries s l code) :=
  spares_foldl (fun s x => spares_meetEntry s x code) l s

theorem spares_stageFrame (s : State) (sl : Nat) (b : Bool) (f : List Byte) (n : Staged) :
    Spares s (stageFrame s sl b f n).2 := by
  have hset : ∀ v, Spares s (s.setSlice sl v) := fun v => spares_of_eq rfl rfl rfl
  cases n
  · exact hset _
  · exact (hset _).trans <| (memOnly_memLog ..).spares.trans <| (spares_inc (by decide) ..).trans <|
      spares_raise (by decide) (by decide) ..
  · exact (hset _).trans <| (memOnly_appendLog ..).spares.trans <| (spares_inc (by decide) ..).trans <|
      (spares_raise (by decide) (by decide) ..).trans <| spares_dpDiscard ..

theorem spares_throughSlice {k : State → List Byte → State} (hk : ∀ s f, Spares s (k s f)) (s : State) (p : Nat) (b : Bool)
    (f : List Byte) (n : Staged) : Spares s (throughSlice s p b f n k) := by
  have hstage := spares_stageFrame s (anchor p) b f n
  unfold throughSlice
  dsimp only
  split
  · exact hstage.trans (hk ..)
  · exact hstage

/-! #### Flow control (R65, R69) -/

theorem spares_setPaused (s : State) (p pri quanta : Nat) : Spares s (setPaused s p pri quanta) := spares_setPort ..

theorem spares_ctlDrop (s : State) (p : Nat) : Spares s (ctlDrop s p) :=
  (spares_inc (by decide) ..).trans (spares_raise_port rfl (by decide) (by decide) ..)

theorem spares_macControl (s : State) (p : Nat) (f : List Byte) : Spares s (macControl s p f) := by
  unfold macControl
  dsimp only
  split
  · exact spares_ctlDrop ..
  split
  · exact (spares_inc (by decide) ..).trans (spares_setPaused ..)
  split
  · refine (spares_inc (by decide) ..).trans (spares_foldl (fun s i => ?_) ..)
    split
    · exact spares_setPaused ..
    · exact spares_refl s
  · exact spares_ctlDrop ..

theorem spares_emit (s : State) (o : Out) : Spares s (s.emit o) := spares_of_eq rfl rfl rfl

theorem spares_sendPause (s : State) (p quanta : Nat) : Spares s (sendPause s p quanta) := by
  unfold sendPause
  dsimp only
  split
  · exact spares_refl s
  have hcnt : Spares s ((s.inc .PORT_PAUSE_TX p).inc .PORT_TX_FRAMES p) :=
    (spares_inc (by decide) ..).trans (spares_inc (by decide) ..)
  refine hcnt.trans ?_
  split
  · split
    · exact (spares_inc (by decide) ..).trans (spares_macControl ..)
    · exact spares_refl _
  · exact spares_emit ..

theorem spares_notePeak (s : State) (p : Nat) : Spares s (notePeak s p) := by
  unfold notePeak
  dsimp only
  split
  · exact spares_setF (by decide) (by decide) ..
  · exact spares_refl s

theorem spares_flowEval (s : State) (p : Nat) : Spares s (flowEval s p) := by
  refine (spares_notePeak s p).trans ?_
  unfold flowEval
  generalize notePeak s p = s
  dsimp only
  split
  · exact spares_refl s
  split
  · split
    · exact (spares_setF (by decide) (by decide) ..).trans <| (spares_sendPause ..).trans <|
        spares_raise_port rfl (by decide) (by decide) ..
    split
    · exact (spares_setF (by decide) (by decide) ..).trans (spares_sendPause ..)
    · exact spares_refl s
  · exact spares_setF (by decide) (by decide) ..

/-! #### The mirror and the jobs (R202, R240) -/

theorem spares_twinSendOn (s : State) (k kind : Nat) (body : List Byte) : Spares s (twinSendOn s k kind body) :=
  (spares_of_eq (s := s) (t := { s with twin := { s.twin with seqTx := s.twin.seqTx + 1 } }) rfl rfl rfl).trans <|
    (spares_emit ..).trans (spares_inc (by decide) ..)

theorem spares_sendRec (s : State) (r : MirrorRec) : Spares s (sendRec s r) := spares_twinSendOn ..

theorem spares_mirror (s : State) (r : MirrorRec) : Spares s (mirror s r) := by
  unfold mirror
  split
  · exact spares_sendRec ..
  · exact spares_refl s

theorem spares_mirrorChan (s : State) (c : Nat) : Spares s (mirrorChan s c) := spares_mirror ..

theorem spares_dispatchJobs (s : State) : Spares s (dispatchJobs s) := by
  refine spares_foldl (fun s e => ?_) _ s
  split
  · next j rest _ =>
    refine spares_ite (Spares.trans ?_ (spares_updEng (g := fun x => x.takeJob j) (fun _ => rfl) _ e)) (spares_refl s)
    exact spares_of_eq rfl rfl rfl
  · exact spares_refl s

theorem spares_queueJobs (s : State) (rank : Nat) (owner : JobOwner) (c dir : Nat) (l : List (Nat × List (List Byte))) :
    Spares s (queueJobs s rank owner c dir l) := by
  have hput : ∀ (t : State) (p : Nat × List (List Byte)), Spares t (putJob t rank owner c dir p.1 p.2) :=
    fun _ _ => spares_of_eq rfl rfl rfl
  exact (spares_of_eq (s := s) (t := { s with pllRun := setAt s.pllRun 1 true }) rfl rfl rfl).trans <|
    (spares_foldl hput l _).trans (spares_dispatchJobs _)

theorem spares_setKey (s : State) (c : Nat) (v : ChanKey) : Spares s (s.setKey c v) := spares_of_eq rfl rfl rfl

theorem spares_deriveNext (s : State) (c : Nat) (tx : Bool) : Spares s (deriveNext s c tx) := by
  unfold deriveNext
  split
  · exact spares_refl s
  split
  · exact (spares_setKey ..).trans (spares_queueJobs ..)
  · exact spares_refl s

theorem spares_reserveEval (s : State) (c : Nat) : Spares s (reserveEval s c) := by
  unfold reserveEval
  refine spares_ite ?_ (spares_refl s)
  split
  · unfold reserve
    refine Spares.trans ?_ (spares_sendRec ..)
    exact spares_of_eq rfl rfl rfl
  · exact spares_refl s

/-! #### Sequencing, bales and the egress queues (R29, R99, R140, R141) -/

theorem spares_epochSwitch (s : State) (c : Nat) : Spares s (epochSwitch s c) := by
  unfold epochSwitch
  extract_lets old bad s1 s2 ch s3
  have h1 : Spares s s1 := spares_ite (spares_raise (by decide) (by decide) ..) (spares_refl s)
  have h2 : Spares s1 s2 := spares_ite (spares_raise (by decide) (by decide) ..) (spares_refl s1)
  have h3 : Spares s2 s3 := spares_setChan ..
  exact h1.trans <| h2.trans <| h3.trans <| (spares_ctxSet ..).trans <| (spares_ctxSet ..).trans <| (spares_ctxSet ..).trans <|
    (spares_ctxSet ..).trans <| (spares_chCount ..).trans <| (spares_setF (by decide) (by decide) ..).trans <|
    (spares_mirrorChan ..).trans (spares_deriveNext ..)

theorem spares_starve (s : State) (c : Nat) : Spares s (starve s c) := by
  unfold starve
  extract_lets s1 s2
  have h1 : Spares s s1 :=
    spares_ite (spares_refl s) ((spares_setF (by decide) (by decide) ..).trans (spares_raise (by decide) (by decide) ..))
  have h2 : Spares s1 s2 := spares_ite (spares_raise (by decide) (by decide) ..) (spares_refl s1)
  exact h1.trans <| h2.trans <| spares_ite (spares_raise (by decide) (by decide) ..) (spares_refl s2)

theorem spares_sequence (s : State) (c blocks : Nat) : Spares s (sequence s c blocks).2 := by
  unfold sequence egLook
  refine (memOnly_ctxLook s c 0x200 0x140).spares.trans ?_
  generalize ctxLook s c 0x200 0x140 = s
  dsimp only
  split
  · exact spares_refl s
  · exact spares_starve ..
  · refine Spares.trans ?_ (spares_reserveEval ..)
    refine Spares.trans ?_ (spares_ite (spares_ctxSet ..) (spares_ctxSet ..))
    exact Spares.trans (spares_ite (spares_epochSwitch ..) (spares_refl s)) (spares_ctxSet ..)

theorem spares_sealBale (s : State) (c k n : Nat) (fs : List QFrame) (len : Option Nat) :
    Spares s (sealBale s c k n fs len) := by
  unfold sealBale
  extract_lets t s1 pl b ch s2
  have h1 : Spares s s1 := spares_bufFetchAll s fs
  have h2 : Spares s1 s2 := spares_setChan ..
  exact h1.trans <| h2.trans <| spares_ite (spares_dpDiscard ..) (spares_chCount ..)

theorem spares_unsealedBale (s : State) (c n : Nat) : Spares s (unsealedBale s c n) :=
  spares_ite ((spares_setChan ..).trans (spares_chCount ..)) (spares_refl s)

theorem spares_closeBale (s : State) (c : Nat) : Spares s (closeBale s c) := by
  unfold closeBale
  split
  · exact spares_refl s
  · next b _ =>
    have hseq := spares_sequence s c (baleBlocks (recordBytes b.frames))
    split
    · next heq => rw [heq] at hseq; exact hseq.trans (spares_sealBale ..)
    · next heq => rw [heq] at hseq; exact hseq.trans (spares_unsealedBale ..)

theorem spares_packBale (s : State) (c fuel : Nat) : Spares s (packBale s c fuel) := by
  induction fuel generalizing s with
  | zero => exact spares_refl s
  | succ fuel ih =>
    unfold packBale
    extract_lets ch
    split
    · exact spares_refl s
    · refine spares_ite (spares_refl s) ?_
      extract_lets held
      refine spares_ite (spares_ite (spares_refl s) ((spares_closeBale s c).trans (ih _))) ?_
      refine Spares.trans ?_ (ih _)
      exact Spares.trans (spares_setChan ..) (spares_ite (spares_closeBale ..) (spares_refl _))

theorem spares_packChannel (s : State) (c : Nat) : Spares s (packChannel s c) := by
  unfold packChannel
  refine spares_ite ?_ (spares_refl s)
  extract_lets s1 s2
  have h1 : Spares s s1 := spares_packBale ..
  have h2 : Spares s1 s2 := spares_ite (spares_closeBale ..) (spares_refl s1)
  exact h1.trans (h2.trans (spares_flowEval ..))

theorem spares_bufStore {q : List QFrame} {half p pri : Nat} {bs : List Byte} {f : QFrame}
    (h : bufStore s q half p pri bs = some (f, t)) : Spares s t := by
  unfold bufStore at h
  dsimp only at h
  split at h
  · obtain ⟨-, rfl⟩ := Prod.mk.inj (Option.some.inj h)
    exact spares_writeRuns ..
  · cases h

theorem spares_enqueueFrame (s : State) (c p pri : Nat) (fr : List Byte) : Spares s (enqueueFrame s c p pri fr) := by
  unfold enqueueFrame
  extract_lets len full deep wide mark marked
  split
  · rename_i hstore
    refine (spares_bufStore hstore).trans ?_
    exact (spares_ite (spares_chCount ..) (spares_refl _)).trans <| (spares_setChan ..).trans <|
      (spares_flowEval ..).trans (spares_packChannel ..)
  · refine (spares_chCount s c cOutDropQ 1).trans ?_
    exact spares_ite ((spares_inc (by decide) ..).trans (spares_raise_port rfl (by decide) (by decide) ..)) (spares_refl _)

theorem spares_takeEngine {lp e : Nat} (h : takeEngine s lp = some (e, t)) : Spares s t := by
  unfold takeEngine at h
  obtain ⟨sl, -, heq⟩ := Option.map_eq_some_iff.1 h
  obtain ⟨-, rfl⟩ := Prod.mk.inj heq
  exact spares_setPort ..

theorem spares_pushSlot (s : State) (lp c e : Nat) (bytes : List Byte) (d : Bool) (x : Option UnitIn) :
    Spares s (pushSlot s lp c e bytes d x) := by
  cases x
  · exact spares_setPort ..
  · next u =>
    exact Spares.trans (spares_setPort ..)
      (spares_updEng (g := fun y => y.giveUnit (inDescOf ..) u.data) (fun _ => rfl) ..)

theorem spares_noClass (s : State) (p : Nat) (fr : List Byte) (n : Staged) : Spares s (noClass s p fr n) := by
  unfold noClass
  refine (spares_inc (c := .CH_PORTCNT) (by decide) s p).trans ?_
  dsimp only
  split
  · refine spares_throughSlice (fun s fr => ?_) ..
    split
    · rename_i htake
      exact (spares_takeEngine htake).trans (spares_pushSlot ..)
    · exact spares_refl s
  · exact spares_refl _

theorem spares_clientRx (s : State) (p : Nat) (f : List Byte) (n : Staged) : Spares s (clientRx s p f n) := by
  unfold clientRx
  split
  · exact spares_refl s
  split
  · exact spares_inc (by decide) ..
  refine (spares_inc (c := .PORT_RX_FRAMES) (by decide) s p).trans ?_
  dsimp only
  split
  · exact spares_macControl ..
  · split
    · exact (spares_meetEntries ..).trans (spares_throughSlice (fun s fr => spares_enqueueFrame ..) ..)
    · exact (spares_meetEntries ..).trans (spares_noClass ..)

end

section
variable {s t u : State}

/-! #### The end of sessions and channels (R129, R191, R197) -/

theorem spares_eraseZ (s : State) (own : JobOwner → Bool) : Spares s (eraseZ s own) := by
  unfold eraseZ
  extract_lets silo s1
  have h1 : Spares s s1 := spares_of_eq rfl rfl rfl
  refine h1.trans (spares_foldl (fun s e => ?_) _ s1)
  split
  · next j _ => exact spares_ite (spares_updEng (g := fun x => x.wipeJob j.wipe) (fun _ => rfl) ..) (spares_refl s)
  · exact spares_refl s

theorem spares_endSession (s : State) (c : Nat) : Spares s (endSession s c) :=
  Spares.trans (t := s.dropSession c) (spares_of_eq rfl rfl rfl) (spares_eraseZ ..)

theorem spares_countReason (s : State) (r : Nat) : Spares s (countReason s r) := spares_inc (by decide) ..

theorem spares_abandon (s : State) (c : Nat) : Spares s (abandon s c) := by
  unfold abandon
  split
  · exact spares_refl s
  · exact (spares_endSession s c).trans <| (spares_setF (by decide) (by decide) ..).trans (spares_countReason ..)

theorem spares_takeoverTime (s : State) : Spares s (takeoverTime s) := by
  unfold takeoverTime
  split
  · exact spares_refl s
  · refine spares_ite (spares_refl s) ?_
    exact Spares.trans (spares_setF (by decide) (by decide) ..) (spares_of_eq rfl rfl rfl)

theorem spares_kclkEval (s : State) : Spares s (kclkEval s) := by
  unfold kclkEval
  refine spares_ite ?_ (spares_refl s)
  exact Spares.trans (spares_setF (x := CLK_STATUS.K_LOCK) (by decide) (by decide) s 0 0) (spares_of_eq rfl rfl rfl)

theorem spares_chEnter (s : State) (c st : Nat) : Spares s (chEnter s c st) :=
  (spares_setF (by decide) (by decide) ..).trans (spares_mirrorChan ..)

theorem spares_finishChannel (s : State) (c : Nat) : Spares s (finishChannel s c) := by
  unfold finishChannel
  extract_lets s1 s2 s3 s4 ch s5 tw s6
  have h1 : Spares s s1 := (spares_abandon ..).trans (spares_zeroise ..)
  have h2 : Spares s1 s2 := spares_of_eq rfl rfl rfl
  have h3 : Spares s2 s3 := (spares_setF (by decide) (by decide) ..).trans (spares_setReg (by decide) (by decide) ..)
  have h4 : Spares s3 s4 := spares_ctxSet ..
  have h5 : Spares s4 s5 := spares_setChan ..
  have h6 : Spares s5 s6 := spares_of_eq rfl rfl rfl
  exact h1.trans <| h2.trans <| h3.trans <| h4.trans <| h5.trans <| h6.trans <| (spares_chEnter ..).trans <|
    (spares_takeoverTime ..).trans (spares_kclkEval ..)

theorem spares_hsFail (s : State) (c r : Nat) (reroot : Bool) : Spares s (hsFail s c r reroot) := by
  unfold hsFail
  extract_lets s1 k s2
  have h1 : Spares s s1 := (spares_endSession ..).trans (spares_countReason ..)
  have h2 : Spares s1 s2 := by
    refine spares_ite (spares_ite (spares_setF (by decide) (by decide) ..) ?_) (spares_finishChannel ..)
    exact (spares_setKey ..).trans (spares_setF (by decide) (by decide) ..)
  exact h1.trans <| h2.trans <| (spares_setF (by decide) (by decide) ..).trans (spares_raise (by decide) (by decide) ..)

theorem spares_abandonKeying (s : State) (c : Nat) : Spares s (abandonKeying s c) :=
  spares_ite (spares_hsFail ..) (spares_refl s)

theorem spares_abandonAll (s : State) : Spares s (abandonAll s) := by
  unfold abandonAll
  extract_lets s1 s2 s3
  have h1 : Spares s s1 := spares_foldl (fun s e => spares_hsFail ..) _ s
  have h2 : Spares s1 s2 := spares_foldl (fun s c => spares_hsFail ..) _ s1
  have h3 : Spares s2 s3 :=
    spares_foldl (fun s e => (spares_setKey ..).trans (spares_setF (by decide) (by decide) ..)) _ s2
  exact h1.trans <| h2.trans <| h3.trans <| spares_of_eq rfl rfl rfl

theorem spares_quiesce (s : State) (c : Nat) : Spares s (quiesce s c) := by
  unfold quiesce
  extract_lets n s1 ch s2
  have h1 : Spares s s1 := spares_ite (spares_refl s) (spares_chCount ..)
  have h2 : Spares s1 s2 := spares_setChan ..
  exact h1.trans <| h2.trans <| spares_flowEval ..

/-! #### Messages of the fabric and roles (R222, R239, R243) -/

theorem spares_titheQueue (s : State) (l ver cls : Nat) (lk : Bool) (hops dst src : Nat) (id : Word) (msg : List Byte) :
    Spares s (titheQueue s l ver cls lk hops dst src id msg).2 := by
  unfold titheQueue
  dsimp only
  split
  · exact spares_of_eq rfl rfl rfl
  · refine Spares.trans (spares_of_eq ?_ ?_ ?_) (spares_inc (by decide) _ l) <;> rfl

theorem spares_titheSend (s : State) (l cls : Nat) (lk : Bool) (dst : Nat) (msg : List Byte) :
    Spares s (titheSend s l cls lk dst msg).2 :=
  Spares.trans (t := { s with msgId := s.msgId + 1 }) (spares_of_eq rfl rfl rfl) (spares_titheQueue ..)

theorem spares_fabSend (s : State) (ls : List Nat) (cls : Nat) (lk : Bool) (dst type : Nat) (body : List Byte) :
    Spares s (fabSend s ls cls lk dst type body) := by
  unfold fabSend
  split
  · exact spares_refl s
  · exact Spares.trans (t := (nextSeq s).2) (spares_of_eq rfl rfl rfl) (spares_foldl (fun s l => spares_titheSend ..) _ _)

theorem spares_alarmSend (s : State) (code : Nat) (subject : W64) (ch : Nat) : Spares s (alarmSend s code subject ch) := by
  unfold alarmSend
  refine spares_ite (spares_refl s) (Spares.trans ?_ (spares_fabSend ..))
  exact spares_of_eq rfl rfl rfl

theorem spares_noteRole (s : State) (role cause : Nat) : Spares s (noteRole s role cause) := by
  unfold noteRole
  extract_lets tw s1 s2 s3
  have h1 : Spares s s1 := spares_of_eq rfl rfl rfl
  have h2 : Spares s1 s2 := (spares_setF (by decide) (by decide) ..).trans <|
    (spares_setF (by decide) (by decide) ..).trans (spares_inc (by decide) ..)
  have h3 : Spares s2 s3 := spares_setReg (by decide) (by decide) ..
  exact h1.trans <| h2.trans <| h3.trans <| spares_alarmSend ..

theorem spares_setMode (s : State) (m : Nat) : Spares s (setMode s m) :=
  (spares_setReg (by decide) (by decide) ..).trans (spares_raise (by decide) (by decide) ..)

theorem spares_becomeShadow (s : State) (cause : Nat) : Spares s (becomeShadow s cause) := by
  unfold becomeShadow
  extract_lets was s1 s2 s3
  have h1 : Spares s s1 := spares_ite (spares_setF (by decide) (by decide) ..) (spares_noteRole ..)
  have h2 : Spares s1 s2 :=
    Spares.trans (spares_ite (spares_raise (by decide) (by decide) ..) (spares_refl s1)) (spares_abandonAll _)
  have hdrop : ∀ t, Spares t (dropPartner t) := fun t => spares_of_eq rfl rfl rfl
  have h3 : Spares s2 s3 := (spares_foldl spares_abandonKeying (busyChannels s2) s2).trans (hdrop _)
  exact h1.trans <| h2.trans <| h3.trans <| spares_ite (spares_setMode ..) (spares_refl s3)

/-- A relinquish leaves the engines' states as they are. -/
theorem spares_relinquish (s : State) (cause : Nat) : Spares s (relinquish s cause) := by
  unfold relinquish
  refine spares_ite ?_ (spares_refl s)
  exact (spares_twinSendOn ..).trans <| (spares_twinSendOn ..).trans <|
    (spares_foldl (fun s c => spares_quiesce s c) _ _).trans (spares_becomeShadow ..)

end

end Sys2Proof.Machine
end

section
/-! Power and clocks: feeds, the backup, clock references, warm resets, checked PWR and CLK registers and the load of a slice
(O29). -/

namespace Sys2Proof.Machine

/-! ### Feeds and backup (R467–R470, R554) -/

/-- The voltage field of a feed. -/
def voltFld (f : Fin 2) : Fld := if f = 0 then PWR_FEED_A.VOLT else PWR_FEED_B.VOLT

theorem setVolt_eq (s : State) (f : Fin 2) (v : BitVec 16) :
    setVolt s f v =
      let t := s.setF (voltFld f) 0 v.toNat
      let va := volts (BitVec.ofNat 16 (t.f PWR_FEED_A.VOLT 0))
      let vb := volts (BitVec.ofNat 16 (t.f PWR_FEED_B.VOLT 0))
      (t.setB PWR_STATUS.OVERV 0 (va > 7500 || vb > 7500)).setB PWR_STATUS.REVERSE 0 (va < 0 || vb < 0) := by
  obtain rfl | rfl : f = 0 ∨ f = 1 := by omega
  all_goals rfl

theorem voltFld_reg (f : Fin 2) : (voltFld f).reg = feedReg f := by unfold voltFld feedReg; split <;> rfl

theorem voltFld_place (f : Fin 2) : (voltFld f).lo = 16 ∧ (voltFld f).len = 16 := by
  unfold voltFld; split <;> exact ⟨rfl, rfl⟩

theorem feedReg_ne (f : Fin 2) : feedReg f ≠ .PWR_STATUS ∧ feedReg f ≠ .PWR_EVT := by revert f; decide

theorem feedBit_place (f : Fin 2) :
    (feedBit f).reg = .PWR_STATUS ∧ (feedBit f).len = 1 ∧ 30 ≤ (feedBit f).lo ∧ (feedBit f).lo < 32 := by revert f; decide

theorem feedLost_place (f : Fin 2) :
    (feedLost f).reg = .PWR_EVT ∧ (feedLost f).len = 1 ∧ (feedLost f).lo < 32 := by revert f; decide

theorem onlyRegs_setVolt (s : State) (f : Fin 2) (v : BitVec 16) :
    onlyRegs s (setVolt s f v) [(feedReg f, 0), (.PWR_STATUS, 0)] [] := by
  rw [setVolt_eq, ← voltFld_reg]
  exact ((onlyRegs_setF ..).trans ((onlyRegs_setB ..).trans (onlyRegs_setB ..))).mono (by simp [PWR_STATUS.OVERV,
    PWR_STATUS.REVERSE]) (by simp)

/-- A feed register shows the voltage measured. -/
theorem reg_setVolt (s : State) (f : Fin 2) (v : BitVec 16) : ((setVolt s f v).reg (feedReg f) 0).toNat / 2 ^ 16 = v.toNat := by
  have hplace := voltFld_place f
  have hne := feedReg_ne f
  have hf : (setVolt s f v).f (voltFld f) 0 = v.toNat := by
    rw [setVolt_eq, State.f_setB_ne (by decide) (.inl (by rw [voltFld_reg]; exact hne.1)),
      State.f_setB_ne (by decide) (.inl (by rw [voltFld_reg]; exact hne.1)),
      State.f_setF_one (by rw [hplace.1, hplace.2]) (by rw [hplace.2]; exact v.isLt)]
  rw [State.f, voltFld_reg, hplace.1, hplace.2, bitsOf, Nat.mod_eq_of_lt] at hf
  · exact hf
  · have := ((setVolt s f v).reg (feedReg f) 0).isLt
    omega

/-- Of PWR_STATUS a measurement changes OVERV and REVERSE alone. -/
theorem fb_setVolt {s : State} {f : Fin 2} {v : BitVec 16} {x : Fld} (hreg : x.reg = .PWR_STATUS)
    (hx : x.lo + x.len ≤ 24 ∨ 26 ≤ x.lo) : (setVolt s f v).fb x 0 = s.fb x 0 := by
  have hne := feedReg_ne f
  rw [setVolt_eq, State.fb_setB_ne (by decide) (by simp [PWR_STATUS.REVERSE]; omega),
    State.fb_setB_ne (by decide) (by simp [PWR_STATUS.OVERV]; omega), State.fb_setF_ne]
  · rw [(voltFld_place f).1, (voltFld_place f).2]
  · rw [voltFld_reg, hreg]; exact .inl hne.1.symm

theorem fb_setVolt_overv {s : State} {f : Fin 2} {v : BitVec 16} (hv : 7500 < volts v) :
    (setVolt s f v).fb PWR_STATUS.OVERV 0 = true := by
  have hplace := voltFld_place f
  have hf : (s.setF (voltFld f) 0 v.toNat).f (voltFld f) 0 = v.toNat :=
    State.f_setF_one (by rw [hplace.1, hplace.2]) (by rw [hplace.2]; exact v.isLt)
  rw [setVolt_eq, State.fb_setB_ne (by decide) (by decide), State.fb_setB (by decide) rfl, Bool.or_eq_true]
  obtain rfl | rfl : f = 0 ∨ f = 1 := by omega
  · exact .inl (by
      rw [show PWR_FEED_A.VOLT = voltFld 0 from rfl, hf, BitVec.ofNat_toNat, BitVec.setWidth_eq]
      exact decide_eq_true hv)
  · exact .inr (by
      rw [show PWR_FEED_B.VOLT = voltFld 1 from rfl, hf, BitVec.ofNat_toNat, BitVec.setWidth_eq]
      exact decide_eq_true hv)

section
variable {s : State} {f : Fin 2} {v x y : BitVec 16}

/-- A feed that falls below 33 V: its bit falls and its event shows. -/
theorem feedLostNow_of (hup : s.fb (feedBit f) 0 = true) (hv : volts v < 3300) :
    feedLostNow s f v = ((setVolt s f v).setF (feedBit f) 0 0).raise (feedLost f) 0 := by
  obtain ⟨hreg, hlen, hlo, hhi⟩ := feedBit_place f
  have hbit : (setVolt s f v).fb (feedBit f) 0 = true := (fb_setVolt hreg (by omega)).trans hup
  simp only [feedLostNow, hbit, hv, decide_true, Bool.and_self, if_true]

theorem feedLostNow_spec (hup : s.fb (feedBit f) 0 = true) (hv : volts v < 3300) :
    (feedLostNow s f v).fb (feedBit f) 0 = false ∧ (feedLostNow s f v).fb (feedLost f) 0 = true ∧
    ((feedLostNow s f v).reg (feedReg f) 0).toNat / 2 ^ 16 = v.toNat ∧
    onlyRegs s (feedLostNow s f v) ([(feedReg f, 0)] ++ [(.PWR_STATUS, 0), (.PWR_EVT, 0)]) [] := by
  obtain ⟨hreg, hlen, hlo, hhi⟩ := feedBit_place f
  obtain ⟨hlreg, hllen, hllo⟩ := feedLost_place f
  have hne := feedReg_ne f
  rw [feedLostNow_of hup hv]
  refine ⟨?_, State.fb_raise (by omega) hllen, ?_, ?_⟩
  · rw [State.fb_raise_ne (by omega) (.inl (by rw [hreg, hlreg]; decide)), State.fb_setF (by omega), hlen]; rfl
  · rw [State.reg_raise_ne (by simp [hlreg, hne.2]), State.reg_setF_ne (by simp [hreg, hne.1]), reg_setVolt]
  · exact ((onlyRegs_setVolt ..).trans ((onlyRegs_setF ..).trans (onlyRegs_raise ..))).mono
      (by simp [hreg, hlreg]) (by simp)

/-- A feed that was lost and rises to 35 V is present again, and a hold-up ends. -/
theorem feedBack_spec (hup : s.fb (feedBit f) 0 = false) (hv : 3500 ≤ volts v) :
    (feedBack s f v).fb (feedBit f) 0 = true ∧ (feedBack s f v).fb PWR_STATUS.HOLDUP 0 = false ∧
    (feedBack s f v).fb PWR_EVT.FEED_RESTORED 0 = true ∧ ((feedBack s f v).reg (feedReg f) 0).toNat / 2 ^ 16 = v.toNat ∧
    onlyRegs s (feedBack s f v) ([(feedReg f, 0)] ++ [(.PWR_STATUS, 0), (.PWR_EVT, 0)]) [] := by
  obtain ⟨hreg, hlen, hlo, hhi⟩ := feedBit_place f
  have hne := feedReg_ne f
  have hbit : (setVolt s f v).fb (feedBit f) 0 = false := (fb_setVolt hreg (by omega)).trans hup
  have heq : feedBack s f v =
      (((setVolt s f v).setF (feedBit f) 0 1).setF PWR_STATUS.HOLDUP 0 0).raise PWR_EVT.FEED_RESTORED 0 := by
    simp only [feedBack, hbit, ge_iff_le, hv, decide_true, Bool.not_false, Bool.true_or, Bool.and_self, if_true]
  rw [heq]
  refine ⟨?_, ?_, State.fb_raise (by decide) rfl, ?_, ?_⟩
  · rw [State.fb_raise_ne (by decide) (.inl (by rw [hreg]; decide)),
      State.fb_setF_ne (by decide) (by simp [PWR_STATUS.HOLDUP, hreg, hlen]; omega), State.fb_setF (by omega), hlen]; rfl
  · rw [State.fb_raise_ne (by decide) (by decide), State.fb_setF (by decide)]; rfl
  · rw [State.reg_raise_ne (by simp [PWR_EVT.FEED_RESTORED, hne.2]), State.reg_setF_ne (by simp [PWR_STATUS.HOLDUP, hne.1]),
      State.reg_setF_ne (by simp [hreg, hne.1]), reg_setVolt]
  · exact ((onlyRegs_setVolt ..).trans ((onlyRegs_setF ..).trans ((onlyRegs_setF ..).trans (onlyRegs_raise ..)))).mono
      (by simp [hreg, PWR_STATUS.HOLDUP, PWR_EVT.FEED_RESTORED]) (by simp)

theorem overvolt_spec (hv : 7500 < volts v) :
    (overvolt s f v).fb PWR_STATUS.OVERV 0 = true ∧ (overvolt s f v).fb PWR_EVT.OVERVOLT 0 = true ∧
    ((overvolt s f v).reg (feedReg f) 0).toNat / 2 ^ 16 = v.toNat ∧
    onlyRegs s (overvolt s f v) ([(feedReg f, 0)] ++ [(.PWR_STATUS, 0), (.PWR_EVT, 0)]) [] := by
  have hne := feedReg_ne f
  have heq : overvolt s f v = (setVolt s f v).raise PWR_EVT.OVERVOLT 0 := if_pos hv
  rw [heq]
  refine ⟨?_, State.fb_raise (by decide) rfl, ?_, ?_⟩
  · rw [State.fb_raise_ne (by decide) (by decide), fb_setVolt_overv hv]
  · rw [State.reg_raise_ne (by simp [PWR_EVT.OVERVOLT, hne.2]), reg_setVolt]
  · exact ((onlyRegs_setVolt ..).trans (onlyRegs_raise ..)).mono (by simp [PWR_EVT.OVERVOLT]) (by simp)

/-- Only an ACTIVE member relinquishes. -/
theorem relinquish_of_ne {c : Nat} (h : twinRole s ≠ roleActive) : relinquish s c = s := by
  unfold relinquish
  simp [h]

/-- Both feeds are below 35 V: on a member that is not ACTIVE the hold-up starts, and no more happens. -/
theorem holdup_spec (hp : powered s = true) (hx : volts x < 3500) (hy : volts y < 3500)
    (hno : s.fb PWR_STATUS.HOLDUP 0 = false) (hrole : twinRole s ≠ roleActive) :
    (holdup s x y).fb PWR_STATUS.HOLDUP 0 = true ∧ (holdup s x y).fb PWR_EVT.HOLDUP 0 = true ∧
    onlyRegs s (holdup s x y) ([(.PWR_FEED_A, 0), (.PWR_FEED_B, 0)] ++ [(.PWR_STATUS, 0), (.PWR_EVT, 0)]) [] := by
  have honly : onlyRegs s (setVolt (setVolt s 0 x) 1 y) [(.PWR_FEED_A, 0), (.PWR_FEED_B, 0), (.PWR_STATUS, 0)] [] :=
    ((onlyRegs_setVolt ..).trans (onlyRegs_setVolt ..)).mono (by decide) (by decide)
  have hp' : powered (setVolt (setVolt s 0 x) 1 y) = true := by
    rw [powered, State.mode, honly.f (by decide)]; exact hp
  have hno' : (setVolt (setVolt s 0 x) 1 y).fb PWR_STATUS.HOLDUP 0 = false := by
    rw [fb_setVolt rfl (by decide), fb_setVolt rfl (by decide), hno]
  have hfr := ((onlyRegs_setF (setVolt (setVolt s 0 x) 1 y) PWR_STATUS.HOLDUP 0 1).trans
    (onlyRegs_raise _ PWR_EVT.HOLDUP 0))
  have hrole' : twinRole (((setVolt (setVolt s 0 x) 1 y).setF PWR_STATUS.HOLDUP 0 1).raise PWR_EVT.HOLDUP 0) ≠ roleActive := by
    rwa [twinRole, hfr.f (by decide), honly.f (by decide)]
  have heq : holdup s x y = ((setVolt (setVolt s 0 x) 1 y).setF PWR_STATUS.HOLDUP 0 1).raise PWR_EVT.HOLDUP 0 := by
    simp only [holdup, hp', hx, hy, hno', decide_true, Bool.not_false, Bool.and_self, if_true]
    exact relinquish_of_ne hrole'
  rw [heq]
  refine ⟨?_, State.fb_raise (by decide) rfl, (honly.trans hfr).mono (by decide) (by decide)⟩
  rw [State.fb_raise_ne (by decide) (by decide), State.fb_setF (by decide)]; rfl

/-! ### The backup (R470) -/

/-- A measurement of both: the supercapacitor, and VBAK. -/
def measureBak (s : State) (mv vbak : BitVec 16) : State := setVbak (setScap s mv) vbak

theorem onlyRegs_measureBak : onlyRegs s (measureBak s x y) [(.PWR_BAK, 0), (.PWR_STATUS, 0)] [] :=
  ((onlyRegs_setF ..).trans ((onlyRegs_setB ..).trans ((onlyRegs_setF ..).trans (onlyRegs_setF ..)))).mono
    (by decide) (by decide)

/-- What a measurement shows: both voltages, whether the supercapacitor is ready, and the backup in its range. -/
theorem measureBak_spec :
    (measureBak s x y).f PWR_BAK.SCAP 0 = x.toNat ∧ (measureBak s x y).f PWR_BAK.VBAK 0 = y.toNat ∧
    (measureBak s x y).fb PWR_STATUS.BAK_READY 0 = decide (2900 ≤ x.toNat) ∧
    (measureBak s x y).f PWR_STATUS.BAK_SRC 0 = if 2500 ≤ y.toNat ∧ y.toNat ≤ 3600 then 1 else 2 := by
  have hx : x.toNat % 65536 = x.toNat := Nat.mod_eq_of_lt x.isLt
  have hy : y.toNat % 65536 = y.toNat := Nat.mod_eq_of_lt y.isLt
  unfold measureBak setVbak setScap
  refine ⟨?_, ?_, ?_, ?_⟩
  · simp (disch := decide) [State.f_setF_ne, State.f_setB_ne, State.f_setF, PWR_BAK.SCAP, hx]
  · simp (disch := decide) [State.f_setF_ne, State.f_setF, PWR_BAK.VBAK, hy]
  · simp (disch := decide) [State.fb_setF_ne, State.fb_setB]
  · simp (disch := decide) only [State.f_setF, vbakOk, PWR_BAK.VBAK, Nat.reducePow, hy, Bool.and_eq_true, decide_eq_true_eq]
    split <;> rfl

theorem bakReady_eq (s : State) (x y : BitVec 16) :
    bakReady s x y =
      if x.toNat ≥ 2900 && !s.fb PWR_STATUS.BAK_READY 0 then (measureBak s x y).raise PWR_EVT.BAK_READY 0 else measureBak s x y :=
  rfl

theorem bakLow_eq (s : State) (x y : BitVec 16) :
    bakLow s x y =
      if x.toNat < 2200 && anyFeed (measureBak s x y) && !vbakOk (measureBak s x y) then
        (measureBak s x y).raise PWR_EVT.BAK_LOW 0 else measureBak s x y := rfl

/-- VBAK as measured is in the range of a backup. -/
theorem vbakOk_measureBak : vbakOk (measureBak s x y) = decide (2500 ≤ y.toNat ∧ y.toNat ≤ 3600) := by
  rw [vbakOk, measureBak_spec.2.1, Bool.decide_and]

/-- A measurement says nothing of the feeds. -/
theorem anyFeed_measureBak : anyFeed (measureBak s x y) = anyFeed s := by
  unfold anyFeed measureBak setVbak setScap
  simp (disch := decide) only [State.fb_setF_ne, State.fb_setB_ne]

/-- A raised event of PWR beside a measurement. -/
theorem onlyRegs_measureBak_raise {e : Fld} (he : e.reg = .PWR_EVT) :
    onlyRegs s ((measureBak s x y).raise e 0) ([(.PWR_BAK, 0)] ++ [(.PWR_STATUS, 0), (.PWR_EVT, 0)]) [] :=
  (onlyRegs_measureBak.trans (onlyRegs_raise ..)).mono (by simp [he]) (by simp)

/-- The supercapacitor reaches 2.9 V. -/
theorem bakReady_spec (hx : 2900 ≤ x.toNat) (hno : s.fb PWR_STATUS.BAK_READY 0 = false) :
    (bakReady s x y).fb PWR_STATUS.BAK_READY 0 = true ∧ (bakReady s x y).fb PWR_EVT.BAK_READY 0 = true ∧
    (bakReady s x y).f PWR_BAK.SCAP 0 = x.toNat ∧ (bakReady s x y).f PWR_BAK.VBAK 0 = y.toNat ∧
    onlyRegs s (bakReady s x y) ([(.PWR_BAK, 0)] ++ [(.PWR_STATUS, 0), (.PWR_EVT, 0)]) [] := by
  have heq : bakReady s x y = (measureBak s x y).raise PWR_EVT.BAK_READY 0 := by simp [bakReady_eq, hx, hno]
  obtain ⟨hscap, hvbak, hready, -⟩ := measureBak_spec (s := s) (x := x) (y := y)
  rw [heq]
  refine ⟨?_, State.fb_raise (by decide) rfl, ?_, ?_, onlyRegs_measureBak_raise rfl⟩
  · rw [State.fb_raise_ne (by decide) (by decide), hready, decide_eq_true hx]
  · rw [State.f_raise_ne (by decide) (by decide), hscap]
  · rw [State.f_raise_ne (by decide) (by decide), hvbak]

/-- The supercapacitor falls below 2.2 V with a feed present and VBAK out of its range. -/
theorem bakLow_spec (hx : x.toNat < 2200) (hfeed : anyFeed s = true) (hy : y.toNat < 2500 ∨ 3600 < y.toNat) :
    (bakLow s x y).fb PWR_EVT.BAK_LOW 0 = true ∧ (bakLow s x y).fb PWR_STATUS.BAK_READY 0 = false ∧
    (bakLow s x y).f PWR_BAK.SCAP 0 = x.toNat ∧ (bakLow s x y).f PWR_STATUS.BAK_SRC 0 = 2 ∧
    onlyRegs s (bakLow s x y) ([(.PWR_BAK, 0)] ++ [(.PWR_STATUS, 0), (.PWR_EVT, 0)]) [] := by
  have hout : ¬(2500 ≤ y.toNat ∧ y.toNat ≤ 3600) := by omega
  have heq : bakLow s x y = (measureBak s x y).raise PWR_EVT.BAK_LOW 0 := by
    simp only [bakLow_eq, anyFeed_measureBak, vbakOk_measureBak, hx, hfeed, hout, decide_true, decide_false, Bool.not_false,
      Bool.and_self, if_true]
  obtain ⟨hscap, -, hready, hsrc⟩ := measureBak_spec (s := s) (x := x) (y := y)
  rw [heq]
  refine ⟨State.fb_raise (by decide) rfl, ?_, ?_, ?_, onlyRegs_measureBak_raise rfl⟩
  · rw [State.fb_raise_ne (by decide) (by decide), hready, decide_eq_false (by omega)]
  · rw [State.f_raise_ne (by decide) (by decide), hscap]
  · rw [State.f_raise_ne (by decide) (by decide), hsrc, if_neg hout]

/-- VBAK in its range is the backup, and nothing is low. -/
theorem bakLow_of_vbak (hy : 2500 ≤ y.toNat ∧ y.toNat ≤ 3600) :
    (bakLow s x y).f PWR_STATUS.BAK_SRC 0 = 1 ∧ (bakLow s x y).fb PWR_EVT.BAK_LOW 0 = s.fb PWR_EVT.BAK_LOW 0 ∧
    (bakLow s x y).f PWR_BAK.VBAK 0 = y.toNat ∧
    onlyRegs s (bakLow s x y) ([(.PWR_BAK, 0)] ++ [(.PWR_STATUS, 0), (.PWR_EVT, 0)]) [] := by
  have heq : bakLow s x y = measureBak s x y := by simp [bakLow_eq, vbakOk_measureBak, hy]
  obtain ⟨-, hvbak, -, hsrc⟩ := measureBak_spec (s := s) (x := x) (y := y)
  rw [heq]
  exact ⟨hsrc.trans (if_pos hy), onlyRegs_measureBak.fb (by decide), hvbak, onlyRegs_measureBak.mono (by decide) (by decide)⟩

end

/-! ### Key engines that are kept awake (R473) -/

section
variable {s : State} {e k : Nat} {m : Master} {v : Word} {r : PwrReg}

theorem foldl_fixed_of_mem {α β : Type} {f : α → β → α} {l : List β} {a : α} (h : ∀ b ∈ l, f a b = a) :
    l.foldl f a = a := by
  induction l with
  | nil => rfl
  | cons b l ih => rw [List.foldl_cons, h b List.mem_cons_self, ih fun c hc => h c (List.mem_cons_of_mem _ hc)]

theorem wakeEngine_of_ne (h : engState s e ≠ engAsleep) : wakeEngine s e = s := if_pos h

/-- No key engine sleeps, or none is named: nothing wakes. -/
theorem wakeKept_of_forall (h : ∀ k < 4, bitAt (s.f PWR_CFG.KE_KEEP 0) k = true → engState s (64 + k) ≠ engAsleep) :
    wakeKept s = s := by
  refine foldl_fixed_of_mem fun k hk => ?_
  split
  · exact wakeEngine_of_ne (h k (List.mem_range.1 hk) ‹_›)
  · rfl

/-- With kclk locked a sleeping engine wakes at once. -/
theorem wakeEngine_locked (h : kclkLocked s = true) :
    wakeEngine s e = if engState s e = engAsleep then s.setF ENG_STATUS.STATE e engRunning else s := by
  by_cases ha : engState s e = engAsleep <;> simp [wakeEngine, ha, h]

theorem setsRegs_wakeEngine (h : kclkLocked s = true) : setsRegs s (wakeEngine s e) [(.ENG_STATUS, e)] := by
  rw [wakeEngine_locked h]
  split
  · exact setsRegs_setF ..
  · exact setsRegs_refl s

/-- The step of `wakeKept` for one key engine. -/
def wakeOne (s : State) (k : Nat) : State := if bitAt (s.f PWR_CFG.KE_KEEP 0) k then wakeEngine s (64 + k) else s

theorem wakeKept_eq (s : State) : wakeKept s = (List.range 4).foldl wakeOne s := rfl

theorem setsRegs_wakeOne (h : kclkLocked s = true) : setsRegs s (wakeOne s k) [(.ENG_STATUS, 64 + k)] := by
  unfold wakeOne
  split
  · exact setsRegs_wakeEngine h
  · exact setsRegs_refl s

theorem kclkLocked_wakeOne (h : kclkLocked s = true) : kclkLocked (wakeOne s k) = true :=
  ((setsRegs_wakeOne h).only.fb (by simp [CLK_STATUS.K_LOCK])).trans h

theorem engState_wakeOne_self (h : kclkLocked s = true) (hk : bitAt (s.f PWR_CFG.KE_KEEP 0) k = true)
    (ha : engState s (64 + k) = engAsleep) : engState (wakeOne s k) (64 + k) = engRunning := by
  rw [wakeOne, if_pos hk, wakeEngine_locked h, if_pos ha, engState, State.f_setF_one (by decide) (by decide)]

theorem engState_wakeOne_ne (h : kclkLocked s = true) {j : Nat} (hj : k ≠ j) :
    engState (wakeOne s j) (64 + k) = engState s (64 + k) :=
  (setsRegs_wakeOne h).only.f (by simp [ENG_STATUS.STATE, hj])

/-- The wake-ups of key engines from a list: each leaves the others as they are. -/
theorem foldl_wakeOne {l : List Nat} (h : kclkLocked s = true) :
    setsRegs s (l.foldl wakeOne s) (l.map fun k => (.ENG_STATUS, 64 + k)) ∧
    (bitAt (s.f PWR_CFG.KE_KEEP 0) k = true → engState s (64 + k) = engAsleep ∧ k ∈ l ∨ engState s (64 + k) = engRunning →
      engState (l.foldl wakeOne s) (64 + k) = engRunning) := by
  induction l generalizing s with
  | nil => exact ⟨setsRegs_refl s, by simp⟩
  | cons j l ih =>
    have hone := setsRegs_wakeOne (k := j) h
    obtain ⟨hfr, hwake⟩ := ih (kclkLocked_wakeOne (k := j) h)
    refine ⟨(hone.trans hfr).mono (by simp), fun hbit hst => ?_⟩
    refine hwake (by rwa [hone.only.f (by simp [PWR_CFG.KE_KEEP])]) ?_
    by_cases hkj : k = j
    · subst hkj
      right
      by_cases ha : engState s (64 + k) = engAsleep
      · exact engState_wakeOne_self h hbit ha
      · have hrun : engState s (64 + k) = engRunning := by tauto
        rw [wakeOne, if_pos hbit, wakeEngine_of_ne ha, hrun]
    · rw [engState_wakeOne_ne h hkj]
      simpa [hkj] using hst

/-! ### Checked registers (R476, R488, R492) -/

theorem pwrRegName_ne (r : PwrReg) :
    pwrRegName r ≠ .PWR_CHECK ∧ pwrRegName r ≠ .ENG_STATUS ∧ pwrRegName r ≠ .CLK_STATUS := by
  cases r <;> decide

/-- A PWR register takes software's bits; the latch of PERST goes with its enable. -/
def pwrTaken (s : State) (m : Master) (r : PwrReg) (v : Word) : State :=
  let t := (acceptCheck s .PWR_CHECK m).setReg (pwrRegName r) 0 (maskedWrite (pwrRegName r) v)
  { t with pwr := { t.pwr with perst := t.pwr.perst && t.fb PWR_WAKE_EN.PERST 0 } }

theorem pwrWrite_of_nil (hup : s.blkUp .PWR = true) (hc : pwrCauses s r v.toNat = []) :
    pwrWrite s m r v = if r = .cfg then wakeKept (pwrTaken s m r v) else pwrTaken s m r v := by
  simp only [pwrWrite, whenUp, hup, if_true, hc, checked_nil]
  rfl

theorem pwrTaken_spec :
    accepted (pwrTaken s m r v) .PWR_CHECK m ∧ (pwrTaken s m r v).reg (pwrRegName r) 0 = maskedWrite (pwrRegName r) v ∧
    pwrTaken s m r v = { s with regs := (pwrTaken s m r v).regs, pwr := (pwrTaken s m r v).pwr } ∧
    keepsRegs s (pwrTaken s m r v) [(pwrRegName r, 0), (.PWR_CHECK, masterIdx m)] := by
  have hne := pwrRegName_ne r
  have hreg : ∀ r' i, (pwrTaken s m r v).reg r' i =
      ((acceptCheck s .PWR_CHECK m).setReg (pwrRegName r) 0 (maskedWrite (pwrRegName r) v)).reg r' i := fun _ _ => rfl
  refine ⟨?_, ?_, rfl, fun r' i hr => ?_⟩
  · rw [accepted, hreg, State.reg_setReg_ne hne.1.symm]
    exact State.reg_setReg_self
  · rw [hreg, State.reg_setReg_self]
  · rw [List.mem_cons, List.mem_singleton, Prod.mk.injEq, Prod.mk.injEq, not_or] at hr
    rw [hreg, State.reg_setReg, if_neg hr.1]
    exact State.reg_setReg.trans (if_neg hr.2)

theorem engState_pwrTaken : engState (pwrTaken s m r v) e = engState s e := by
  have hne := pwrRegName_ne r
  rw [engState, State.f, pwrTaken_spec.2.2.2 _ _ (by simp [ENG_STATUS.STATE, hne.2.1.symm])]
  rfl

/-- With no key engine asleep a PWR register takes its value, and no more happens. -/
theorem pwrWrite_plain (hup : s.blkUp .PWR = true) (hc : pwrCauses s r v.toNat = [])
    (hk : r ≠ .cfg ∨ ∀ k < 4, engState s (64 + k) ≠ engAsleep) : pwrWrite s m r v = pwrTaken s m r v := by
  rw [pwrWrite_of_nil hup hc]
  split
  · refine wakeKept_of_forall fun k hlt _ => ?_
    rw [engState_pwrTaken]
    exact (hk.resolve_left (by simpa)) k hlt
  · rfl

/-- KE_KEEP as it is written. -/
theorem bitAt_KE_KEEP (hk : k < 4) :
    bitAt ((pwrTaken s m .cfg v).f PWR_CFG.KE_KEEP 0) k = bitAt v.toNat (8 + k) := by
  have hreg : (pwrTaken s m .cfg v).reg .PWR_CFG 0 = maskedWrite .PWR_CFG v := pwrTaken_spec.2.1
  have hmask : (Reg.PWR_CFG.info.wmask).testBit (8 + k) = true := by
    have : ∀ j < 4, (Reg.PWR_CFG.info.wmask).testBit (8 + j) = true := by decide
    exact this k hk
  rw [State.f, show PWR_CFG.KE_KEEP.reg = .PWR_CFG from rfl, hreg, bitAt, testBit_bitsOf, maskedWrite,
    show PWR_CFG.KE_KEEP.lo = 8 from rfl, show PWR_CFG.KE_KEEP.len = 4 from rfl, BitVec.toNat_and, Nat.testBit_and,
    BitVec.toNat_ofNat, Nat.testBit_mod_two_pow, hmask, bitAt]
  have hlt : 8 + k < 32 := by omega
  simp [hk, hlt]

/-- A key engine that KE_KEEP names wakes with the write. -/
theorem pwrWrite_wakes (hup : s.blkUp .PWR = true) (hk : k < 4) (hv : bitAt v.toNat (8 + k) = true)
    (ha : engState s (64 + k) = engAsleep) (hl : kclkLocked s = true) :
    accepted (pwrWrite s m .cfg v) .PWR_CHECK m ∧ engState (pwrWrite s m .cfg v) (64 + k) = engRunning ∧
    keepsRegs s (pwrWrite s m .cfg v) [(.PWR_CFG, 0), (.PWR_CHECK, masterIdx m), (.ENG_STATUS, 64), (.ENG_STATUS, 65),
      (.ENG_STATUS, 66), (.ENG_STATUS, 67)] ∧
    pwrWrite s m .cfg v = { s with regs := (pwrWrite s m .cfg v).regs, pwr := (pwrWrite s m .cfg v).pwr } := by
  obtain ⟨hacc, -, hframe, hkeep⟩ := pwrTaken_spec (s := s) (m := m) (r := .cfg) (v := v)
  have hlock : kclkLocked (pwrTaken s m .cfg v) = true := by
    rw [kclkLocked, State.fb, State.f, hkeep _ _ (by simp [CLK_STATUS.K_LOCK, pwrRegName])]
    exact hl
  obtain ⟨⟨hwframe, hwkeep⟩, hwake⟩ := foldl_wakeOne (l := List.range 4) (k := k) hlock
  rw [← wakeKept_eq] at hwframe hwkeep hwake
  rw [pwrWrite_of_nil hup rfl, if_pos rfl]
  refine ⟨?_, hwake (by rw [bitAt_KE_KEEP hk, hv]) (.inl ⟨by rw [engState_pwrTaken, ha], List.mem_range.2 hk⟩), ?_, ?_⟩
  · rw [accepted, hwkeep _ _ (by simp)]
    exact hacc
  · intro r' i hr
    rw [hwkeep r' i, hkeep r' i]
    · simp only [List.mem_cons, not_or] at hr ⊢; tauto
    · simp only [List.mem_cons, not_or, List.mem_map, List.mem_range, not_exists] at hr ⊢
      rintro j ⟨hj, heq⟩
      obtain ⟨rfl, rfl⟩ := Prod.mk.inj heq
      obtain ⟨-, -, h64, h65, h66, h67, -⟩ := hr
      simp only [Prod.mk.injEq, true_and] at h64 h65 h66 h67
      omega
  · rw [hwframe]
    exact congrArg (fun t : State => { t with regs := (wakeKept (pwrTaken s m .cfg v)).regs }) hframe

end

section
variable {s : State} {m : Master} {v : Word}

/-! ### Clocks (R474–R476) -/

/-- The reference that the core PLLs take, with REFCLK_C before REFCLK_L before holdover. -/
def coreRefOf (s : State) : Nat := if s.fb CLK_STATUS.REFC_OK 0 then 0 else if s.fb CLK_STATUS.REFL_OK 0 then 1 else 2

theorem coreRefEval_eq (s : State) :
    coreRefEval s =
      (if coreRefOf s = 2 && s.f CLK_STATUS.CORE_REF 0 != 2 then s.raise CLK_EVT.HOLDOVER 0 else s).setF
        CLK_STATUS.CORE_REF 0 (coreRefOf s) := rfl

theorem onlyRegs_coreRefEval (s : State) : onlyRegs s (coreRefEval s) [(.CLK_STATUS, 0), (.CLK_EVT, 0)] [] := by
  rw [coreRefEval_eq]
  split
  · exact ((onlyRegs_raise ..).trans (onlyRegs_setF ..)).mono (by decide) (by decide)
  · exact (onlyRegs_setF ..).mono (by decide) (by decide)

theorem f_coreRefEval_CORE_REF : (coreRefEval s).f CLK_STATUS.CORE_REF 0 = coreRefOf s := by
  have hlt : coreRefOf s < 4 := by unfold coreRefOf; split_ifs <;> omega
  rw [coreRefEval_eq, State.f_setF_one (by decide) hlt]

/-- Of the fields of CLK_STATUS only the reference changes. -/
theorem fb_coreRefEval {x : Fld} (hreg : x.reg = .CLK_STATUS) (hx : 26 ≤ x.lo) : (coreRefEval s).fb x 0 = s.fb x 0 := by
  rw [coreRefEval_eq, State.fb_setF_ne (by decide) (by simp [CLK_STATUS.CORE_REF]; omega)]
  split
  · rw [State.fb_raise_ne (by decide) (.inl (by rw [hreg]; decide))]
  · rfl

/-- An event of CLK that shows stays. -/
theorem fb_coreRefEval_evt {x : Fld} (hreg : x.reg = .CLK_EVT) (hx : x.lo + x.len ≤ 4) :
    (coreRefEval s).fb x 0 = s.fb x 0 := by
  rw [coreRefEval_eq, State.fb_setF_ne (by decide) (.inl (by rw [hreg]; decide))]
  split
  · rw [State.fb_raise_ne (by decide) (by simp [CLK_EVT.HOLDOVER]; omega)]
  · rfl

/-- The loss of every reference is the event of holdover. -/
theorem fb_coreRefEval_holdover (href : coreRefOf s = 2) (hwas : s.f CLK_STATUS.CORE_REF 0 ≠ 2) :
    (coreRefEval s).fb CLK_EVT.HOLDOVER 0 = true := by
  rw [coreRefEval_eq, State.fb_setF_ne (by decide) (by decide), if_pos (by simp [href, hwas]),
    State.fb_raise (by decide) rfl]

/-- With no start waiting a reference that comes changes nothing else. -/
theorem releaseHold_of_none (h : s.pwr.held = none) : releaseHold s = s := by simp only [releaseHold, h]

theorem held_coreRefEval : (coreRefEval s).pwr.held = s.pwr.held := by
  rw [(onlyRegs_coreRefEval s).1]

theorem refPresent_c (h : s.pwr.held = none) : refPresent s .c = coreRefEval (s.setF CLK_STATUS.REFC_OK 0 1) := by
  rw [refPresent, releaseHold_of_none (by rw [held_coreRefEval, State.setF_pwr, h])]

theorem refPresent_l (h : s.pwr.held = none) : refPresent s .l = coreRefEval (s.setF CLK_STATUS.REFL_OK 0 1) := by
  rw [refPresent, releaseHold_of_none (by rw [held_coreRefEval, State.setF_pwr, h])]

/-- A bit of CLK_STATUS changes, and the reference follows. -/
theorem onlyRegs_coreRefEval_setF {x : Fld} {n : Nat} (hx : x.reg = .CLK_STATUS) :
    onlyRegs s (coreRefEval (s.setF x 0 n)) [(.CLK_STATUS, 0), (.CLK_EVT, 0)] [] :=
  ((onlyRegs_setF ..).trans (onlyRegs_coreRefEval _)).mono (by simp [hx]) (by simp)

theorem refPresent_c_spec (h : s.pwr.held = none) :
    (refPresent s .c).fb CLK_STATUS.REFC_OK 0 = true ∧ (refPresent s .c).f CLK_STATUS.CORE_REF 0 = 0 ∧
    onlyRegs s (refPresent s .c) [(.CLK_STATUS, 0), (.CLK_EVT, 0)] [] := by
  have hset : (s.setF CLK_STATUS.REFC_OK 0 1).fb CLK_STATUS.REFC_OK 0 = true := State.fb_setF (by decide)
  rw [refPresent_c h]
  refine ⟨(fb_coreRefEval rfl (by decide)).trans hset, ?_, onlyRegs_coreRefEval_setF rfl⟩
  rw [f_coreRefEval_CORE_REF, coreRefOf, if_pos hset]

theorem refPresent_l_spec (h : s.pwr.held = none) (hc : s.fb CLK_STATUS.REFC_OK 0 = false) :
    (refPresent s .l).fb CLK_STATUS.REFL_OK 0 = true ∧ (refPresent s .l).f CLK_STATUS.CORE_REF 0 = 1 ∧
    onlyRegs s (refPresent s .l) [(.CLK_STATUS, 0), (.CLK_EVT, 0)] [] := by
  have hset : (s.setF CLK_STATUS.REFL_OK 0 1).fb CLK_STATUS.REFL_OK 0 = true := State.fb_setF (by decide)
  have hkeep : (s.setF CLK_STATUS.REFL_OK 0 1).fb CLK_STATUS.REFC_OK 0 = false := by
    rw [State.fb_setF_ne (by decide) (by decide), hc]
  rw [refPresent_l h]
  refine ⟨(fb_coreRefEval rfl (by decide)).trans hset, ?_, onlyRegs_coreRefEval_setF rfl⟩
  rw [f_coreRefEval_CORE_REF, coreRefOf, if_neg (by simp [hkeep]), if_pos hset]

/-- No port is READY: the loss of a side's reference fails no lane. -/
theorem sideFails_of_forall (h : ∀ p : Nat, p < 64 → s.fb PORT_STATUS.READY p = false) (line : Bool) :
    sideFails s line = s := by
  have hnone : (List.range 64).filter (fun p => isLine p == line && s.fb PORT_STATUS.READY p) = [] := by
    refine List.filter_eq_nil_iff.2 fun p hp => ?_
    simp [h p (List.mem_range.1 hp)]
  rw [sideFails, hnone, List.foldl_nil]

theorem twinLinkLost_of_down {k : Nat} (h : s.fb (twinLinkField k) 0 = false) : twinLinkLost s k = s := if_neg (by simp [h])

/-- A lost reference with its event, and the reference that the core PLLs then take. -/
def refGone (s : State) (ok lost : Fld) : State := coreRefEval ((s.setF ok 0 0).raise lost 0)

theorem onlyRegs_refGone {ok lost : Fld} (hok : ok.reg = .CLK_STATUS) (hlost : lost.reg = .CLK_EVT) :
    onlyRegs s (refGone s ok lost) [(.CLK_STATUS, 0), (.CLK_EVT, 0)] [] :=
  ((onlyRegs_setF ..).trans ((onlyRegs_raise ..).trans (onlyRegs_coreRefEval _))).mono (by simp [hok, hlost]) (by simp)

/-- The loss of REFCLK_C: REFCLK_L is taken. -/
theorem refLost_c_spec (hready : ∀ p : Nat, p < 64 → s.fb PORT_STATUS.READY p = false)
    (hc : s.fb CLK_STATUS.REFC_OK 0 = true) (hl : s.fb CLK_STATUS.REFL_OK 0 = true) :
    (refLost s .c).fb CLK_STATUS.REFC_OK 0 = false ∧ (refLost s .c).f CLK_STATUS.CORE_REF 0 = 1 ∧
    (refLost s .c).fb CLK_EVT.REFC_LOST 0 = true ∧ onlyRegs s (refLost s .c) [(.CLK_STATUS, 0), (.CLK_EVT, 0)] [] := by
  have honly : onlyRegs s (refGone s CLK_STATUS.REFC_OK CLK_EVT.REFC_LOST) [(.CLK_STATUS, 0), (.CLK_EVT, 0)] [] :=
    onlyRegs_refGone rfl rfl
  have heq : refLost s .c = refGone s CLK_STATUS.REFC_OK CLK_EVT.REFC_LOST :=
    (if_pos hc).trans (sideFails_of_forall (fun p hp => (honly.fb (by simp [PORT_STATUS.READY])).trans (hready p hp)) false)
  have hclear : ((s.setF CLK_STATUS.REFC_OK 0 0).raise CLK_EVT.REFC_LOST 0).fb CLK_STATUS.REFC_OK 0 = false := by
    rw [State.fb_raise_ne (by decide) (by decide), State.fb_setF (by decide)]; rfl
  have hkeep : ((s.setF CLK_STATUS.REFC_OK 0 0).raise CLK_EVT.REFC_LOST 0).fb CLK_STATUS.REFL_OK 0 = true := by
    rw [State.fb_raise_ne (by decide) (by decide), State.fb_setF_ne (by decide) (by decide), hl]
  rw [heq]
  refine ⟨(fb_coreRefEval rfl (by decide)).trans hclear, ?_, ?_, honly⟩
  · rw [refGone, f_coreRefEval_CORE_REF, coreRefOf, if_neg (by simp [hclear]), if_pos hkeep]
  · rw [refGone, fb_coreRefEval_evt rfl (by decide), State.fb_raise (by decide) rfl]

/-- The loss of REFCLK_L without REFCLK_C: holdover. -/
theorem refLost_l_spec (hready : ∀ p : Nat, p < 64 → s.fb PORT_STATUS.READY p = false)
    (h0 : s.fb TWN_STATUS.LINK0 0 = false) (h1 : s.fb TWN_STATUS.LINK1 0 = false)
    (hc : s.fb CLK_STATUS.REFC_OK 0 = false) (hl : s.fb CLK_STATUS.REFL_OK 0 = true) (href : s.f CLK_STATUS.CORE_REF 0 = 1) :
    (refLost s .l).f CLK_STATUS.CORE_REF 0 = 2 ∧ (refLost s .l).fb CLK_EVT.REFL_LOST 0 = true ∧
    (refLost s .l).fb CLK_EVT.HOLDOVER 0 = true ∧ onlyRegs s (refLost s .l) [(.CLK_STATUS, 0), (.CLK_EVT, 0)] [] := by
  have honly : onlyRegs s (refGone s CLK_STATUS.REFL_OK CLK_EVT.REFL_LOST) [(.CLK_STATUS, 0), (.CLK_EVT, 0)] [] :=
    onlyRegs_refGone rfl rfl
  have heq : refLost s .l = refGone s CLK_STATUS.REFL_OK CLK_EVT.REFL_LOST := by
    have hside := sideFails_of_forall (fun p hp => (honly.fb (by simp [PORT_STATUS.READY])).trans (hready p hp)) true
    refine (if_pos hl).trans ?_
    change twinLinkLost (twinLinkLost (sideFails (refGone s CLK_STATUS.REFL_OK CLK_EVT.REFL_LOST) true) 0) 1 = _
    rw [hside, twinLinkLost_of_down (k := 0) ((honly.fb (by decide)).trans h0),
      twinLinkLost_of_down (k := 1) ((honly.fb (by decide)).trans h1)]
  have hclear : ((s.setF CLK_STATUS.REFL_OK 0 0).raise CLK_EVT.REFL_LOST 0).fb CLK_STATUS.REFL_OK 0 = false := by
    rw [State.fb_raise_ne (by decide) (by decide), State.fb_setF (by decide)]; rfl
  have hkeep : ((s.setF CLK_STATUS.REFL_OK 0 0).raise CLK_EVT.REFL_LOST 0).fb CLK_STATUS.REFC_OK 0 = false := by
    rw [State.fb_raise_ne (by decide) (by decide), State.fb_setF_ne (by decide) (by decide), hc]
  have hwas : ((s.setF CLK_STATUS.REFL_OK 0 0).raise CLK_EVT.REFL_LOST 0).f CLK_STATUS.CORE_REF 0 = 1 := by
    rw [State.f_raise_ne (by decide) (by decide), State.f_setF_ne (by decide) (by decide), href]
  have hnone : coreRefOf ((s.setF CLK_STATUS.REFL_OK 0 0).raise CLK_EVT.REFL_LOST 0) = 2 := by simp [coreRefOf, hclear, hkeep]
  rw [heq]
  refine ⟨?_, ?_, fb_coreRefEval_holdover hnone (by rw [hwas]; decide), honly⟩
  · rw [refGone, f_coreRefEval_CORE_REF, hnone]
  · rw [refGone, fb_coreRefEval_evt rfl (by decide), State.fb_raise (by decide) rfl]

/-- A lock bit that rises. -/
theorem lock_spec {x : Fld} (hreg : x.reg = .CLK_STATUS) (hlo : x.lo < 32) (hlen : x.len = 1) :
    (s.setF x 0 1).fb x 0 = true ∧ onlyRegs s (s.setF x 0 1) [(.CLK_STATUS, 0), (.CLK_EVT, 0)] [] :=
  ⟨State.fb_raise (by omega) hlen, (onlyRegs_setF ..).mono (by simp [hreg]) (by simp)⟩

theorem pllLock_k (hrun : s.pllRun.getD 1 false = true) (hkeep : s.f PWR_CFG.KE_KEEP 0 = 0) :
    pllLock s .k = s.setF CLK_STATUS.K_LOCK 0 1 := by
  refine (if_pos hrun).trans (wakeKept_of_forall fun k _ hbit => ?_)
  rw [State.f_setF_ne (by decide) (by decide), hkeep, bitAt, Nat.zero_testBit] at hbit
  exact absurd hbit (by decide)

/-- A checked write of CLK_SSC with no field over 8. -/
theorem sscWrite_taken (hup : s.blkUp .CLK = true) (hv : ∀ i : Nat, i < 3 → bitsOf v.toNat (4 * i) 4 ≤ 8) :
    sscWrite s m v = (acceptCheck s .CLK_CHECK m).setReg .CLK_SSC 0 (maskedWrite .CLK_SSC v) := by
  have hno : (List.range 3).any (fun i => bitsOf v.toNat (4 * i) 4 > 8) = false := by
    simp only [List.any_eq_false, List.mem_range, decide_eq_true_eq]
    exact fun i hi => Nat.not_lt.2 (hv i hi)
  simp only [sscWrite, whenUp, hup, if_true, hno]
  rfl

theorem sscWrite_refused (hup : s.blkUp .CLK = true) (hv : 8 < v.toNat % 16) :
    sscWrite s m v = refuseCheck s .CLK_CHECK m 0 0xB8 := by
  have hyes : (List.range 3).any (fun i => bitsOf v.toNat (4 * i) 4 > 8) = true :=
    List.any_eq_true.2 ⟨0, by decide, by simpa [bitsOf] using hv⟩
  simp only [sscWrite, whenUp, hup, if_true, hyes]
  rfl

end

/-! ### Warm resets (R482, R486) -/

theorem SMap.get_keep {α : Type} {d : Nat → α} {m : SMap α} {p : Nat → Bool} {k : Nat} :
    SMap.get d (SMap.keep m p) k = if p k then SMap.get d m k else d k := by
  induction m with
  | nil => simp [SMap.keep]
  | cons e m ih =>
    unfold SMap.keep at ih ⊢
    by_cases hp : p e.1 <;> by_cases hk : e.1 = k <;> simp_all [SMap.get]

theorem setsRegs_setMode (s : State) (m : Nat) : setsRegs s (setMode s m) [(.GLB_MODE, 0), (.GLB_EVT, 0)] :=
  (setsRegs_setReg ..).trans (setsRegs_setF ..)

theorem mode_setMode {s : State} {m : Nat} (hm : m < 16) : (setMode s m).mode = m := by
  rw [State.mode, setMode, State.f_raise_ne (by decide) (by decide), State.f, show GLB_MODE.MODE.reg = .GLB_MODE from rfl,
    State.reg_setReg_self, BitVec.toNat_ofNat, Nat.mod_eq_of_lt (by omega)]
  exact (Nat.mod_eq_of_lt (show m / 2 ^ 0 < 2 ^ 4 by omega)).trans (Nat.div_one m)

/-- What a warm reset leaves before the mode and the cause are written. -/
theorem reg_warmState {s : State} {r : Reg} {i : Nat} (hr : r ∉ [Reg.PWR_CFG, .CLK_STATUS]) :
    (warmState s).reg r i = if warmKeeps (r.key i) then s.reg r i else regResetAt (r.key i) := by
  simp only [List.mem_cons, List.not_mem_nil, or_false, not_or] at hr
  unfold warmState
  rw [State.reg_setF_ne (by simp [CLK_STATUS.C_LOCK, hr]), State.reg_setF_ne (by simp [CLK_STATUS.K_LOCK, hr]),
    State.reg_setF_ne (by simp [CLK_STATUS.D_LOCK, hr]), State.reg_setF_ne (by simp [PWR_CFG.KE_KEEP, hr])]
  exact SMap.get_keep

/-- The reset that a lost lock makes, with its event. -/
theorem pllUnlock_of {s : State} {p : Pll} (h : s.fb (lockBit p) 0 = true) :
    pllUnlock s p = (warmReset s 7).raise CLK_EVT.PLL_UNLOCK 0 := if_pos h

theorem reg_startSelftest {s : State} {w : Word} {r : Reg} {i : Nat} (hr : r ∉ [Reg.PWR_WAKE_CAUSE, .GLB_MODE, .GLB_EVT]) :
    (startSelftest s w).reg r i = s.reg r i := by
  simp only [List.mem_cons, List.not_mem_nil, or_false, not_or] at hr
  rw [startSelftest, (setsRegs_setMode ..).2 _ _ (by simp [hr])]
  exact State.reg_setReg_ne hr.1

theorem mode_startSelftest {s : State} {w : Word} : (startSelftest s w).mode = modeSelftest := mode_setMode (by decide)

theorem reg_startSelftest_cause {s : State} {w : Word} : (startSelftest s w).reg .PWR_WAKE_CAUSE 0 = w := by
  rw [startSelftest, (setsRegs_setMode ..).2 _ _ (by decide)]
  exact State.reg_setReg_self (s := s)

/-- Beside registers a start of SELFTEST changes the power state alone. -/
theorem startSelftest_frame (s : State) (w : Word) :
    startSelftest s w = { s with regs := (startSelftest s w).regs, pwr := (startSelftest s w).pwr } := rfl

/-- What a warm reset keeps and drops, its registers and the power state aside. -/
theorem warmState_frame (s : State) :
    ∃ t : State, warmState s = { t with regs := (warmState s).regs } ∧
      t.pending = s.pending ∧ t.rtc = s.rtc ∧ t.out = s.out ∧
      t.silo.pins = s.silo.pins ∧ t.silo.domain = s.silo.domain ∧ t.silo.importKeys = [] ∧ t.ports = [] ∧ t.chans = [] ∧
      t.keys = [] ∧ t.sessions = [] ∧ t.engs = [] ∧ t.dma = [] ∧ t.evc.srcs = [] ∧ t.fab.killSeq = s.fab.killSeq ∧
      t.fab.sendSeq = s.fab.sendSeq ∧ t.silo.srcBad = 255 ∧ t.silo.custody = none ∧ t.silo.drbg = none ∧ t.lost = [] ∧
      ∀ k, t.ram k = if warmRegion k then s.ram k else [] := by
  refine ⟨_, ((setsRegs_setF ..).trans <| (setsRegs_setF ..).trans <| (setsRegs_setF ..).trans (setsRegs_setF ..)).1,
    rfl, rfl, rfl, rfl, rfl, rfl, rfl, rfl, rfl, rfl, rfl, rfl, rfl, rfl, rfl, rfl, rfl, rfl, rfl, fun k => SMap.get_keep⟩

theorem pllUnlock_frame {s u : State} {p : Pll} (h : s.fb (lockBit p) 0 = true)
    (hu : warmState s = { u with regs := (warmState s).regs }) :
    ∃ R P, pllUnlock s p = { u with regs := R, pwr := P } := by
  have hraise := (setsRegs_setF (warmReset s 7) CLK_EVT.PLL_UNLOCK 0 1).1
  have hstart := startSelftest_frame (warmState s) (wakeWord 7 0)
  refine ⟨(pllUnlock s p).regs, (warmReset s 7).pwr, ?_⟩
  rw [pllUnlock_of h, State.raise, hraise, warmReset, hstart, hu]

theorem pllUnlock_spec {s : State} {p : Pll} (h : s.fb (lockBit p) 0 = true) :
    warmFrom s (pllUnlock s p) 7 ∧ (pllUnlock s p).fb CLK_EVT.PLL_UNLOCK 0 = true := by
  have hevt : (pllUnlock s p).fb CLK_EVT.PLL_UNLOCK 0 = true := by rw [pllUnlock_of h, State.fb_raise (by decide) rfl]
  have hregs : ∀ r i, r ∉ [Reg.PWR_WAKE_CAUSE, .GLB_MODE, .GLB_EVT, .GLB_MODE_CHECK, .PWR_CFG, .CLK_STATUS, .CLK_EVT] →
      (pllUnlock s p).reg r i = if warmKeeps (r.key i) then s.reg r i else regResetAt (r.key i) := by
    intro r i hr
    simp only [List.mem_cons, List.not_mem_nil, or_false, not_or] at hr
    rw [pllUnlock_of h, State.reg_raise_ne (by simp [CLK_EVT.PLL_UNLOCK, hr]), warmReset, reg_startSelftest (by simp [hr]),
      reg_warmState (by simp [hr])]
  have hmode : (pllUnlock s p).mode = modeSelftest := by
    rw [pllUnlock_of h, State.mode, State.f_raise_ne (by decide) (by decide), warmReset, ← State.mode, mode_startSelftest]
  have hcause : (pllUnlock s p).reg .PWR_WAKE_CAUSE 0 = BitVec.ofNat 32 (7 * 2 ^ 28) := by
    rw [pllUnlock_of h, State.reg_raise_ne (by decide), warmReset, reg_startSelftest_cause, wakeWord, Nat.add_zero]
  have hglb : (pllUnlock s p).fb GLB_EVT.MODE 0 = true := by
    rw [pllUnlock_of h, State.fb_raise_ne (by decide) (by decide), warmReset, startSelftest, setMode,
      State.fb_raise (by decide) rfl]
  obtain ⟨u, hu, hkept⟩ := warmState_frame s
  obtain ⟨R, P, heq⟩ := pllUnlock_frame h hu
  generalize pllUnlock s p = t at *
  subst heq
  obtain ⟨h1, h2, h3, h4, h5, h6, h7, h8, h9, h10, h11, h12, h13, h14, h15, h16, h17, h18, h19, hram⟩ := hkept
  exact ⟨⟨hmode, hcause, hglb, h1, h2, h3, h4, h5, h6, h7, h8, h9, h10, h11, h12, h13, h14, h15, h16, h17, h18, h19, hram,
    hregs⟩, hevt⟩

/-! ### The load of a slice's engines (R33, R395) -/

section
variable {s t u : State} {e e' : Nat}

theorem State.slice_setSlice {v : SliceSt} {i j : Nat} :
    (s.setSlice i v).slice j = if j = i then v else s.slice j := SMap.get_set

/-- Nothing differs but engines, memories, and registers of MEM or ENG. -/
def loadOnly (s t : State) : Prop :=
  t = { s with regs := t.regs, cnts := t.cnts, rams := t.rams, errs := t.errs, valid := t.valid, memCtl := t.memCtl,
               engs := t.engs } ∧
  ∀ r i, r.info.blk ≠ .MEM → r.info.blk ≠ .ENG → t.reg r i = s.reg r i

theorem loadOnly.trans (h : loadOnly s t) (h' : loadOnly t u) : loadOnly s u := by
  obtain ⟨hframe, hregs⟩ := h
  obtain ⟨hframe', hregs'⟩ := h'
  refine ⟨hframe'.trans (congrArg (fun x : State => { x with
    regs := u.regs, cnts := u.cnts, rams := u.rams, errs := u.errs, valid := u.valid, memCtl := u.memCtl, engs := u.engs })
      hframe), fun r i h1 h2 => ?_⟩
  rw [hregs' r i h1 h2, hregs r i h1 h2]

theorem loadOnly.slices (h : loadOnly s t) : t.slices = s.slices := (congrArg State.slices h.1).trans rfl

theorem loadOnly.pending (h : loadOnly s t) : t.pending = s.pending := (congrArg State.pending h.1).trans rfl

theorem loadOnly_refl (s : State) : loadOnly s s := ⟨rfl, fun _ _ _ _ => rfl⟩

theorem memOnly.load (h : memOnly s t) : loadOnly s t := by
  have hengs : t.engs = s.engs := (congrArg State.engs h.1).trans rfl
  refine ⟨?_, fun r i hr _ => h.2.1 r i hr⟩
  rw [hengs]
  exact h.1

theorem loadOnly_setEng (s : State) (e : Nat) (v : Eng) : loadOnly s (s.setEng e v) := ⟨rfl, fun _ _ _ _ => rfl⟩

theorem loadOnly_setF {x : Fld} (hx : x.reg.info.blk = .ENG) (s : State) (i n : Nat) : loadOnly s (s.setF x i n) := by
  refine ⟨rfl, fun r i' _ h => State.reg_setF_ne ?_⟩
  rintro ⟨rfl, -⟩
  exact h hx

theorem memOnly_loadSegments (s : State) (e : Nat) (head code : List Byte) : memOnly s (loadSegments s e head code) := by
  refine foldl_rel_of_step (R := fun (p q : Nat × State) => memOnly p.2 q.2) (fun p => memOnly_refl p.2)
    (fun _ _ _ => memOnly.trans) (fun p i => ?_) _ (0, s)
  exact memOnly_memWrite p.2 ..

theorem memOnly_imageCode (s : State) (e : Nat) (x : Section) : memOnly s (imageCode s e x).2 := by
  unfold imageCode
  split
  · exact memOnly_memRead ..
  · exact memOnly_refl s

/-- The code of an image is loaded into an engine, which runs from its entry bundle. -/
def runImage (s : State) (e : Nat) (x : Section) : State :=
  let w := fun (o : Nat) => BitVec.ofNat 32 (leAt x.bytes o 4)
  let t := loadSegments (imageCode s e x).2 e x.bytes (imageCode s e x).1
  (t.setEng e { (t.eng e).cleared with pc := w 12, ivb := w 16, stkLim := w 20, stkTop := w 24, sp := w 24 }).setF
    ENG_STATUS.STATE e engRunning

/-- A poisoned image: the engine is in WEDGED, with its cause and its event. -/
def failImage (s : State) (e : Nat) : State :=
  (((imageLook s e).setF ENG_STATUS.STATE e engWedged).setF ENG_EXC.CODE e excPoisonFetch).raise ENG_EVT.WEDGED e

/-- The ways a start of a data engine goes. -/
theorem startEngine_data (he : e < 64) :
    startEngine s e = s ∨ (∃ x, startEngine s e = runImage s e x) ∨
    startEngine s e = failImage s e ∨ startEngine s e = relinquish (failImage s e) foRelinquish := by
  have hclass : engClass e ≠ 1 := by simp [engClass, he]
  unfold startEngine
  split
  · exact .inl rfl
  · next x _ =>
    split
    · exact .inl rfl
    split
    · dsimp only
      split
      · exact .inr (.inr (.inr rfl))
      · exact .inr (.inr (.inl rfl))
    · exact .inr (.inl ⟨x, rfl⟩)

theorem loadOnly_runImage (s : State) (e : Nat) (x : Section) : loadOnly s (runImage s e x) :=
  (memOnly_imageCode s e x).load.trans <| (memOnly_loadSegments ..).load.trans <| (loadOnly_setEng ..).trans <|
    loadOnly_setF rfl ..

theorem status_runImage {x : Section} (h : e' ≠ e) : (runImage s e x).reg .ENG_STATUS e' = s.reg .ENG_STATUS e' := by
  rw [runImage, State.reg_setF_ne (by simp [ENG_STATUS.STATE, h])]
  exact ((memOnly_imageCode s e x).trans (memOnly_loadSegments ..)).2.1 _ _ (by decide)

theorem status_failImage (h : e' ≠ e) : (failImage s e).reg .ENG_STATUS e' = s.reg .ENG_STATUS e' := by
  rw [failImage, State.reg_raise_ne (by simp [ENG_EVT.WEDGED]), State.reg_setF_ne (by simp [ENG_EXC.CODE]),
    State.reg_setF_ne (by simp [ENG_STATUS.STATE, h])]
  exact (memOnly_imageLook s e).2.1 _ _ (by decide)

theorem engState_failImage : engState (failImage s e) e = engWedged := by
  rw [engState, failImage, State.f_raise_ne (by decide) (.inl (by decide)), State.f_setF_ne (by decide) (.inl (by decide)),
    State.f_setF_one (by decide) (by decide)]

/-- A start leaves the states of the other engines. -/
theorem status_startEngine (he : e < 64) (h : e' ≠ e) : (startEngine s e).reg .ENG_STATUS e' = s.reg .ENG_STATUS e' := by
  obtain heq | ⟨x, heq⟩ | heq | heq := startEngine_data (s := s) he <;> rw [heq]
  · exact status_runImage h
  · exact status_failImage h
  · rw [(spares_relinquish ..).status, status_failImage h]

/-- A data engine that does not end WEDGED has taken its code, and nothing more has happened. -/
theorem loadOnly_startEngine (he : e < 64) (h : engState (startEngine s e) e ≠ engWedged) : loadOnly s (startEngine s e) := by
  obtain heq | ⟨x, heq⟩ | heq | heq := startEngine_data (s := s) he <;> rw [heq] at h ⊢
  · exact loadOnly_refl s
  · exact loadOnly_runImage ..
  · exact absurd engState_failImage h
  · refine absurd ?_ h
    rw [engState, State.f, show ENG_STATUS.STATE.reg = .ENG_STATUS from rfl, (spares_relinquish ..).status]
    exact engState_failImage

/-- Nothing differs but the states of ports. -/
def readyOnly (s t : State) : Prop := t = { s with regs := t.regs } ∧ ∀ r i, r ≠ .PORT_STATUS → t.reg r i = s.reg r i

theorem readyOnly.slices (h : readyOnly s t) : t.slices = s.slices := (congrArg State.slices h.1).trans rfl

theorem readyOnly.pending (h : readyOnly s t) : t.pending = s.pending := (congrArg State.pending h.1).trans rfl

theorem readyOnly_refl (s : State) : readyOnly s s := ⟨rfl, fun _ _ _ => rfl⟩

theorem readyOnly.trans (h : readyOnly s t) (h' : readyOnly t u) : readyOnly s u :=
  ⟨h'.1.trans (congrArg (fun x : State => { x with regs := u.regs }) h.1), fun r i hr => (h'.2 r i hr).trans (h.2 r i hr)⟩

theorem readyOnly_setB {x : Fld} (hx : x.reg = .PORT_STATUS) (s : State) (i : Nat) (b : Bool) : readyOnly s (s.setB x i b) :=
  ⟨rfl, fun _ _ hr => State.reg_setF_ne fun h => hr (h.1.trans hx)⟩

theorem readyOnly_readyEval (s : State) (p : Nat) : readyOnly s (readyEval s p) :=
  (readyOnly_setB rfl ..).trans <| (readyOnly_setB rfl ..).trans (readyOnly_setB rfl ..)

/-- READY of the ports of a slice. -/
def readyPorts (s : State) (sl : Nat) : State :=
  (List.range 64).foldl (fun s p => if provisioned s p && (portSlices s p).contains sl then readyEval s p else s) s

theorem readyOnly_readyPorts (s : State) (sl : Nat) : readyOnly s (readyPorts s sl) := by
  refine foldl_rel_of_step readyOnly_refl (fun _ _ _ => readyOnly.trans) (fun s p => ?_) _ s
  split
  · exact readyOnly_readyEval s p
  · exact readyOnly_refl s

/-- Both engines of a slice start, once dclk has locked. -/
def loadSlice (s : State) (sl : Nat) : State := startEngine (startEngine (s.setF CLK_STATUS.D_LOCK 0 1) (2 * sl)) (2 * sl + 1)

/-- A slice none of whose engines ends WEDGED is ready. -/
theorem sliceWake_of {sl : Nat} (hp : (s.slice sl).powered = true) (hr : (s.slice sl).ready = false)
    (h0 : engState (loadSlice s sl) (2 * sl) ≠ engWedged) (h1 : engState (loadSlice s sl) (2 * sl + 1) ≠ engWedged) :
    sliceWake s sl = readyPorts ((loadSlice s sl).setSlice sl
      { (loadSlice s sl).slice sl with ready := true, failed := false }) sl := by
  have h0' := beq_eq_false_iff_ne.2 h0
  have h1' := beq_eq_false_iff_ne.2 h1
  unfold loadSlice at h0' h1'
  simp only [sliceWake, hp, hr, Bool.not_true, Bool.or_self, Bool.false_eq_true, if_false, h0', h1', Bool.and_false, Bool.not_false]
  rfl

theorem loadOnly_loadSlice {sl : Nat} (hsl : sl < 32) (h0 : engState (loadSlice s sl) (2 * sl) ≠ engWedged)
    (h1 : engState (loadSlice s sl) (2 * sl + 1) ≠ engWedged) : loadOnly (s.setF CLK_STATUS.D_LOCK 0 1) (loadSlice s sl) := by
  have hfirst : engState (startEngine (s.setF CLK_STATUS.D_LOCK 0 1) (2 * sl)) (2 * sl) ≠ engWedged := by
    rwa [engState, State.f, show ENG_STATUS.STATE.reg = .ENG_STATUS from rfl, loadSlice,
      status_startEngine (by omega) (by omega)] at h0
  exact (loadOnly_startEngine (by omega) hfirst).trans (loadOnly_startEngine (by omega) h1)

/-- A slice that has loaded its code is ready, and dclk is locked; nothing else of the slices differs. -/
theorem sliceWake_spec {sl : Nat} (hsl : sl < 32) (hp : (s.slice sl).powered = true) (hr : (s.slice sl).ready = false)
    (h0 : engState (loadSlice s sl) (2 * sl) ≠ engWedged) (h1 : engState (loadSlice s sl) (2 * sl + 1) ≠ engWedged) :
    (sliceWake s sl).slice sl = { s.slice sl with ready := true, failed := false } ∧
    (∀ k, k ≠ sl → (sliceWake s sl).slice k = s.slice k) ∧ (sliceWake s sl).fb CLK_STATUS.D_LOCK 0 = true ∧
    (sliceWake s sl).pending = s.pending := by
  have hload := loadOnly_loadSlice hsl h0 h1
  have hslices : (loadSlice s sl).slices = s.slices := hload.slices.trans (State.setF_slices ..)
  have hslice : ∀ k, (loadSlice s sl).slice k = s.slice k := fun k => by rw [State.slice, hslices, State.slice]
  have hpend : (loadSlice s sl).pending = s.pending := hload.pending.trans (State.setF_pending ..)
  have hlock : (loadSlice s sl).fb CLK_STATUS.D_LOCK 0 = true := by
    rw [State.fb, State.f, hload.2 _ _ (by decide) (by decide), ← State.f, State.f_setF (by decide)]
    decide
  rw [sliceWake_of hp hr h0 h1, hslice]
  generalize hv : ({ s.slice sl with ready := true, failed := false } : SliceSt) = v
  have hready := readyOnly_readyPorts ((loadSlice s sl).setSlice sl v) sl
  have hfinal : ∀ k, (readyPorts ((loadSlice s sl).setSlice sl v) sl).slice k = ((loadSlice s sl).setSlice sl v).slice k :=
    fun k => by rw [State.slice, hready.slices, State.slice]
  refine ⟨?_, fun k hk => ?_, ?_, ?_⟩
  · rw [hfinal, State.slice_setSlice, if_pos rfl]
  · rw [hfinal, State.slice_setSlice, if_neg hk, hslice]
  · rw [State.fb, State.f, hready.2 _ _ (by decide)]
    exact hlock
  · exact hready.pending.trans hpend

end

/-- Settles O29: each clock and feed command is one of the model's functions of the power domain, whose effect the lemmas above
state. -/
theorem clocksAndFeedsAreWatched : Obligations.ClocksAndFeedsAreWatched := by
  refine ⟨fun s m v sl hheld => ?_, fun s f x y m v => ?_⟩
  · intro clk noReady
    refine ⟨fun hrun => ⟨_, congrArg Host.Outcome.next (if_pos hrun), lock_spec rfl (by decide) rfl⟩,
      fun hrun hkeep => ⟨_, congrArg Host.Outcome.next (pllLock_k hrun hkeep), lock_spec rfl (by decide) rfl⟩,
      fun hmode => ⟨_, congrArg Host.Outcome.next (if_pos hmode), lock_spec rfl (by decide) rfl⟩,
      fun p hlock => ⟨_, rfl, pllUnlock_spec hlock⟩,
      ⟨_, rfl, refPresent_c_spec hheld⟩,
      fun hc => ⟨_, rfl, refPresent_l_spec hheld hc⟩,
      fun hno hc hl => ⟨_, rfl, refLost_c_spec hno.1 hc hl⟩,
      fun hno hc hl href => ⟨_, rfl, refLost_l_spec hno.1 hno.2.1 hno.2.2 hc hl href⟩,
      fun hup hv => ⟨_, congrArg Host.Outcome.next (sscWrite_taken hup hv), ?_, State.reg_setReg_self, ?_⟩,
      fun hup hv => ⟨_, congrArg Host.Outcome.next (sscWrite_refused hup hv), refusedWith_refuseCheck _ _ _ _ (by decide)⟩,
      fun hp hr h0 h1 => ⟨_, rfl, sliceWake_spec sl.isLt hp hr h0 h1⟩⟩
    · rw [accepted, State.reg_setReg_ne (by decide)]
      exact State.reg_setReg_self
    · exact ((onlyRegs_setReg ..).trans (onlyRegs_setReg ..)).mono (by simp) (by simp)
  · intro pwr shown fr
    refine ⟨fun hup hv => ⟨_, rfl, feedLostNow_spec hup hv⟩,
      fun hup hv => ⟨_, rfl, feedBack_spec hup hv⟩,
      fun hv => ⟨_, rfl, overvolt_spec hv⟩,
      fun hp hx hy hno hrole => ⟨_, rfl, holdup_spec hp hx hy hno hrole⟩,
      fun hx hno => ⟨_, rfl, bakReady_spec hx hno⟩,
      fun hx hfeed hy => ⟨_, rfl, bakLow_spec hx hfeed hy⟩,
      fun hlo hhi => ⟨_, rfl, bakLow_of_vbak ⟨hlo, hhi⟩⟩,
      fun r hup hc hk => ⟨_, congrArg Host.Outcome.next (pwrWrite_plain hup hc hk), pwrTaken_spec⟩,
      fun k hup hv ha hl => ⟨_, rfl, pwrWrite_wakes hup k.isLt hv ha hl⟩,
      fun hup hv htimer => ⟨_, congrArg Host.Outcome.next ?_, refusedWith_refuseCheck _ _ _ _ (by decide)⟩⟩
    have hc : pwrCauses s .wakeTimer v.toNat = [0xB9] := by simp [pwrCauses, cause, hv, htimer]
    simp only [pwrWrite, whenUp, hup, if_true, hc]
    rfl

end Sys2Proof.Machine
end

section
/-! Streams and events of engines: FIFOs, the reorder stage, results of key engines, exceptions and the crossbar, resets and
wakes (O15). -/

namespace Sys2Proof.Machine

section
variable {s t : State} {l : List (Reg × Nat)} {e : Nat}

theorem setsRegs.engs (h : setsRegs s t l) : t.engs = s.engs := (congrArg State.engs h.1).trans rfl

theorem setsRegs.rams (h : setsRegs s t l) : t.rams = s.rams := (congrArg State.rams h.1).trans rfl

/-! ### FIFOs of stream ports (R333) -/

theorem updEng_congr {f g : Eng → Eng} (h : f (s.eng e) = g (s.eng e)) : s.updEng e f = s.updEng e g := by
  rw [State.updEng, State.updEng, h]

theorem popFifo_cons {α : Type} {l rest : List α} {v d : α} {set : Eng → List α → Eng} (h : l = v :: rest) (r : Run) :
    popFifo r e l d set = (v, r.upd e fun x => set x rest) := by rw [h]; rfl

theorem popFifo_nil {α : Type} {l : List α} {d : α} {set : Eng → List α → Eng} (h : l = []) (r : Run) :
    popFifo r e l d set = (d, r.wait) := by rw [h]; rfl

theorem pushFifo_room {α : Type} {l : List α} {depth : Nat} {v : α} {set : Eng → List α → Eng}
    (h : l.length < depth) (r : Run) :
    pushFifo r e l depth v set = r.upd e fun x => set x (l ++ [v]) := if_neg (by omega)

theorem pushFifo_full {α : Type} {l : List α} {depth : Nat} {v : α} {set : Eng → List α → Eng}
    (h : depth ≤ l.length) (r : Run) :
    pushFifo r e l depth v set = r.wait := if_pos h

/-- A stalled move changes nothing. -/
theorem close_wait : (Run.of s).wait.close s e = s := rfl

theorem close_wait_map {f : State → State} : ((Run.of s).wait.map f).close s e = s := rfl

theorem close_upd_map {g : Eng → Eng} {f : State → State} : (((Run.of s).upd e g).map f).close s e = f (s.updEng e g) := rfl

theorem toG_wait {g d : Nat} : (toG e g (d, (Run.of s).wait)).close s e = s := rfl

/-- A value that fits the bus reaches the destination register. -/
theorem toG_upd {g v : Nat} {f : Eng → Eng} (hv : v < 2 ^ busW e) :
    (toG e g (v, (Run.of s).upd e f)).close s e = s.updEng e fun x => (f x).setG g v := by
  rw [toG, Nat.mod_eq_of_lt hv]
  exact updEng_updEng (h := fun x => x.setG g v)

theorem busW_data (h : engClass e = 0) : busW e = 128 := if_pos h

theorem busW_other (h : engClass e ≠ 0) : busW e = 64 := if_neg h

/-! ### Stream ports of data engines (R333, R334) -/

theorem runMove_inDesc (hr : engReady s e) (hc : engClass e = 0) (g : Nat) {w : BusVal} {rest : List BusVal}
    (h : (s.eng e).inDesc = w :: rest) :
    runMove s e (fun r => toG e g (opInDesc r e)) =
      s.updEng e fun x => (x.setInputs (rest ++ x.descFeed) (x.inData ++ x.dataFeed)).setG g w.toNat := by
  rw [runMove_ready hr, opInDesc, if_neg (by simp [hc]), popFifo_cons (l := ((Run.of s).s.eng e).inDesc) h]
  exact toG_upd (by rw [busW_data hc]; exact w.isLt)

theorem runMove_inData (hr : engReady s e) (hc : engClass e = 0) (g : Nat) {w : BusVal} {rest : List BusVal}
    (h : (s.eng e).inData = w :: rest) :
    runMove s e (fun r => toG e g (opInData r e)) =
      s.updEng e fun x => (x.setInputs (x.inDesc ++ x.descFeed) (rest ++ x.dataFeed)).setG g w.toNat := by
  rw [runMove_ready hr, opInData, if_neg (by simp [hc]), popFifo_cons (l := ((Run.of s).s.eng e).inData) h]
  exact toG_upd (by rw [busW_data hc]; exact w.isLt)

theorem runMove_inDesc_empty (hr : engReady s e) (hc : engClass e = 0) (g : Nat) (h : (s.eng e).inDesc = []) :
    runMove s e (fun r => toG e g (opInDesc r e)) = s := by
  rw [runMove_ready hr, opInDesc, if_neg (by simp [hc]), popFifo_nil (l := ((Run.of s).s.eng e).inDesc) h]
  exact toG_wait

theorem runMove_inData_empty (hr : engReady s e) (hc : engClass e = 0) (g : Nat) (h : (s.eng e).inData = []) :
    runMove s e (fun r => toG e g (opInData r e)) = s := by
  rw [runMove_ready hr, opInData, if_neg (by simp [hc]), popFifo_nil (l := ((Run.of s).s.eng e).inData) h]
  exact toG_wait

/-- Without a descriptor the reorder stage only takes words. -/
theorem reorderOne_none (h : (s.eng e).outDesc = []) : reorderOne s e = s.setEng e (s.eng e).takeOut := by
  have h' : (s.eng e).takeOut.outDesc = [] := h
  simp only [reorderOne, h']

/-- A descriptor waits for its words. -/
theorem reorderOne_waits {d : BusVal} {rest : List BusVal} (h : (s.eng e).outDesc = d :: rest)
    (hn : (s.eng e).takeOut.outTaken.length < descWords d) : reorderOne s e = s.setEng e (s.eng e).takeOut := by
  have h' : (s.eng e).takeOut.outDesc = d :: rest := h
  simp only [reorderOne, h', hn, if_true]

theorem reorderTake_none (h : (s.eng e).outDesc = []) : reorderTake s e = s.setEng e (s.eng e).takeOut := by
  rw [reorderTake, h]
  exact reorderOne_none h

theorem runMove_outDesc (hr : engReady s e) (hc : engClass e = 0) {w : BusVal} (h1 : (s.eng e).outDesc = [])
    (h2 : (s.eng e).outData = []) (h3 : (s.eng e).outTaken = []) (hw : 1 ≤ w.toNat / 2 ^ 32 % 2 ^ 16) :
    runMove s e (fun r => opOutDesc r e w.toNat) = s.updEng e fun x => { x with outDesc := [w] } := by
  have hwords : 1 ≤ descWords w := by unfold descWords descLen bitsOf ceilDiv; omega
  have hpush : runMove s e (fun r => opOutDesc r e w.toNat) = reorderTake (s.updEng e fun x => { x with outDesc := [w] }) e := by
    rw [runMove_ready hr, opOutDesc, if_neg (by simp [hc]), pushFifo_room (by simp [Run.of, h1]), close_upd_map]
    simp [Run.of, h1]
  have htake : ∀ x : Eng, x.outData = [] → x.takeOut = x := by
    intro x hx
    simp [Eng.takeOut, hx]
    rw [← hx]
  have hone : ∀ t : State, (t.eng e).outDesc = [w] → (t.eng e).outData = [] → (t.eng e).outTaken = [] →
      reorderOne t e = t.setEng e (t.eng e) := by
    intro t ht1 ht2 ht3
    rw [reorderOne_waits ht1 (by rw [htake _ ht2, ht3]; exact hwords), htake _ ht2]
  rw [hpush, reorderTake, State.eng_updEng_self]
  change (reorderOne (reorderOne _ e) e) = _
  rw [hone (s.updEng e fun x => { x with outDesc := [w] }) (by simp) (by simpa using h2) (by simpa using h3)]
  rw [hone _ (by simp) (by simpa using h2) (by simpa using h3)]
  simp [State.updEng, State.setEng_setEng]

end

section
variable {s : State} {e : Nat}

theorem runMove_outDesc_full (hr : engReady s e) (hc : engClass e = 0) (v : Nat) (h : 8 ≤ (s.eng e).outDesc.length) :
    runMove s e (fun r => opOutDesc r e v) = s := by
  rw [runMove_ready hr, opOutDesc, if_neg (by simp [hc]), pushFifo_full (l := ((Run.of s).s.eng e).outDesc) h]
  exact close_wait_map

/-- A word written to OUT_DATA stands at its tail as the reorder stage looks at it. -/
theorem runMove_outData_room (hr : engReady s e) (hc : engClass e = 0) {w : BusVal} (h : (s.eng e).outData.length < 64) :
    runMove s e (fun r => opOutData r e w.toNat) =
      reorderTake (s.updEng e fun x => { x with outData := (s.eng e).outData ++ [w] }) e := by
  rw [runMove_ready hr, opOutData, if_neg (by simp [hc]), pushFifo_room (l := ((Run.of s).s.eng e).outData) h, close_upd_map,
    BitVec.ofNat_toNat, BitVec.setWidth_eq]
  rfl

/-- With no descriptor there the reorder stage takes the word. -/
theorem runMove_outData_taken (hr : engReady s e) (hc : engClass e = 0) {w : BusVal} (h1 : (s.eng e).outDesc = [])
    (h : (s.eng e).outData.length < 64) :
    runMove s e (fun r => opOutData r e w.toNat) =
      s.updEng e fun x => { x with outData := (s.eng e).outData ++ [w] }.takeOut := by
  rw [runMove_outData_room hr hc h, reorderTake_none (by simpa using h1)]
  simp [State.updEng, State.setEng_setEng]

theorem takeOut_room {x : Eng} {w : BusVal} (h2 : x.outData = []) (h3 : x.outTaken.length < 4096) :
    { x with outData := x.outData ++ [w] }.takeOut = { x with outTaken := x.outTaken ++ [w] } := by
  obtain ⟨n, hn⟩ : ∃ n, reorderDepth - x.outTaken.length = n + 1 := ⟨_, (Nat.succ_pred_eq_of_pos (by
    unfold reorderDepth; omega)).symm⟩
  simp only [Eng.takeOut, h2, List.nil_append, hn, List.take_succ_cons, List.take_nil, List.drop_succ_cons, List.drop_nil]

theorem takeOut_full {x : Eng} {l : List BusVal} (h3 : x.outTaken.length = 4096) :
    { x with outData := l }.takeOut = { x with outData := l } := by
  simp [Eng.takeOut, h3, reorderDepth]

theorem runMove_outData_full (hr : engReady s e) (hc : engClass e = 0) (v : Nat) (h : 64 ≤ (s.eng e).outData.length) :
    runMove s e (fun r => opOutData r e v) = s := by
  rw [runMove_ready hr, opOutData, if_neg (by simp [hc]), pushFifo_full (l := ((Run.of s).s.eng e).outData) h]
  exact close_wait_map

/-- Fewer than five words make no write-back of a context line. -/
theorem runMove_ctxWb (hr : engReady s e) (hc : engClass e = 0) {w : BusVal} (h : (s.eng e).ctxWb.length < 4) :
    runMove s e (fun r => opCtxWb r e w.toNat) = s.updEng e fun x => { x with ctxWb := x.ctxWb ++ [w] } := by
  rw [runMove_ready hr, opCtxWb, if_neg (by simp [hc]), pushFifo_room (l := ((Run.of s).s.eng e).ctxWb) (by
    exact Nat.lt_trans h (by decide)), close_upd_map, BitVec.ofNat_toNat, BitVec.setWidth_eq]
  split
  · next heq =>
    rw [State.eng_updEng_self] at heq
    have hlen := congrArg List.length heq
    simp only [Run.of, List.length_append, List.length_cons, List.length_nil] at hlen
    omega
  · exact updEng_congr rfl

theorem runMove_ctxWb_full (hr : engReady s e) (hc : engClass e = 0) (v : Nat) (h : 16 ≤ (s.eng e).ctxWb.length) :
    runMove s e (fun r => opCtxWb r e v) = s := by
  rw [runMove_ready hr, opCtxWb, if_neg (by simp [hc]), pushFifo_full (l := ((Run.of s).s.eng e).ctxWb) h]
  exact close_wait_map

/-! ### The job ports of key engines (R333, R511) -/

theorem runMove_job (hr : engReady s e) (hc : engClass e = 1) (g : Nat) {d : W64} {rest : List W64}
    (h : (s.eng e).job = d :: rest) :
    runMove s e (fun r => toG e g (opJob r e)) =
      s.updEng e fun x => ({ x with job := (rest ++ x.jobFeed).take jobDepth, jobFeed := (rest ++ x.jobFeed).drop jobDepth } :
        Eng).setG g d.toNat := by
  rw [runMove_ready hr, opJob, if_neg (by simp [hc]), popFifo_cons (l := ((Run.of s).s.eng e).job) h]
  exact toG_upd (by rw [busW_other (by omega)]; exact d.isLt)

theorem runMove_job_empty (hr : engReady s e) (hc : engClass e = 1) (g : Nat) (h : (s.eng e).job = []) :
    runMove s e (fun r => toG e g (opJob r e)) = s := by
  rw [runMove_ready hr, opJob, if_neg (by simp [hc]), popFifo_nil (l := ((Run.of s).s.eng e).job) h]
  exact toG_wait

/-- What the Silo does once a result word stands in JOB_RES. -/
def jobResTaken (s : State) (e : Nat) : State :=
  match (siloTake s e).1 with
  | some (own, status) => jobAnswered (siloTake s e).2 own status
  | none => (siloTake s e).2

theorem runMove_jobRes (hr : engReady s e) (hc : engClass e = 1) {d : W64} (h : (s.eng e).jobRes = []) :
    runMove s e (fun r => opJobRes r e d.toNat) = jobResTaken (s.updEng e fun x => { x with jobRes := [d] }) e := by
  rw [runMove_ready hr, opJobRes, if_neg (by simp [hc]), pushFifo_room (l := ((Run.of s).s.eng e).jobRes) (by
    rw [show ((Run.of s).s.eng e).jobRes = [] from h]; decide), close_upd_map, BitVec.ofNat_toNat, BitVec.setWidth_eq,
    show ((Run.of s).s.eng e).jobRes = [] from h]
  rfl

theorem runMove_jobRes_full (hr : engReady s e) (hc : engClass e = 1) (v : Nat) (h : jobDepth ≤ (s.eng e).jobRes.length) :
    runMove s e (fun r => opJobRes r e v) = s := by
  rw [runMove_ready hr, opJobRes, if_neg (by simp [hc]), pushFifo_full (l := ((Run.of s).s.eng e).jobRes) h]
  exact close_wait_map

/-- The header of a result with words to come waits with the Silo. -/
theorem jobResTaken_header {d : W64} (hans : (s.eng e).answer = []) (hres : (s.eng e).jobRes = [d])
    (hn : 1 ≤ d.toNat / 2 ^ 40 % 2 ^ 16) : jobResTaken s e = s.setEng e { s.eng e with answer := [d], jobRes := [] } := by
  have htake : siloTake s e = (none, s.setEng e { s.eng e with answer := [d], jobRes := [] }) := by
    have hlt : ([] : List W64).length < bitsOf d.toNat 40 16 := hn
    simp only [siloTake, hans, hres, List.nil_append, hlt, if_true]
  rw [jobResTaken, htake]

theorem dispatchJobs_of_nil (h : s.silo.jobs = []) : dispatchJobs s = s := foldl_fixed_of_mem fun e _ => by rw [h]

/-- A whole result that carries OPCODE and TAG of the running job ends it, and tells its owner the STATUS. -/
theorem jobResTaken_whole {d : W64} {j : KeyJob} {h : W64} (hans : (s.eng e).answer = []) (hres : (s.eng e).jobRes = [d])
    (hn : d.toNat / 2 ^ 40 % 2 ^ 16 = 0) (hrun : (s.eng e).running = some j) (htag : j.tag = d.toNat % 2 ^ 16)
    (hhead : j.words.head? = some h) (hop : h.toNat / 2 ^ 56 = d.toNat / 2 ^ 56) (hjobs : s.silo.jobs = []) :
    jobResTaken s e =
      jobAnswered (s.setEng e { s.eng e with answer := [], jobRes := [], running := none }) j.owner (jobStatus d) := by
  have hlt : ¬ ([] : List W64).length < bitsOf d.toNat 40 16 := by
    rw [bitsOf, hn]; exact Nat.lt_irrefl 0
  have hopcode : jobOp h = jobOp d := by rw [jobOp, jobOp, bitsOf, bitsOf, hop]
  have hdone : (s.eng e).running.filter (fun j => j.tag == d.toNat % 2 ^ 16 && j.words.head?.map jobOp == some (jobOp d)) =
      some j := by
    rw [hrun, Option.filter_some, if_pos]
    simp [htag, hhead, hopcode]
  have htake : siloTake s e =
      (some (j.owner, jobStatus d), s.setEng e { s.eng e with answer := [], jobRes := [], running := none }) := by
    have hjobs' : (s.setEng e { s.eng e with answer := [], jobRes := [], running := none }).silo.jobs = [] := hjobs
    simp only [siloTake, hans, hres, List.nil_append, hlt, if_false, hdone, Option.map_some, Option.isSome_some, if_true,
      List.drop_nil, dispatchJobs_of_nil hjobs']
  rw [jobResTaken, htake]

/-- STATUS 0 has no effect beside the end of the job. -/
theorem jobAnswered_ok {own : JobOwner} : jobAnswered s own 0 = s := by
  unfold jobAnswered
  split
  · split
    · split <;> simp
    · rfl
  · split <;> simp
  · rfl

/-- STATUS 2 fails the session that owned the job with ENTROPY (R217, R358). -/
theorem jobAnswered_entropy {c : Nat} {q : Session} (h : s.session c = some q) :
    jobAnswered s (.session c q.id) 2 = serveKeyWait (hsFail s c hsEntropy q.reroot) := by
  simp [jobAnswered, h]

end

section
variable {s t u : State} {e : Nat}

/-! ### Exceptions leave the requests to the crossbar -/

/-- What the engines have written to XB_CMD waits as before. -/
structure XbKept (s t : State) : Prop where
  eq : ∀ k, (t.eng k).xbCmd = (s.eng k).xbCmd

theorem xbKept_refl (s : State) : XbKept s s := ⟨fun _ => rfl⟩

theorem XbKept.trans (h : XbKept s t) (h' : XbKept t u) : XbKept s u := ⟨fun k => (h'.eq k).trans (h.eq k)⟩

theorem xbKept_foldl {β : Type} {f : State → β → State} (h : ∀ s b, XbKept s (f s b)) (l : List β) (s : State) :
    XbKept s (l.foldl f s) := foldl_rel_of_step xbKept_refl (fun _ _ _ => XbKept.trans) h l s

theorem xbKept_ite {p : Prop} [Decidable p] {a b : State} (ha : XbKept s a) (hb : XbKept s b) : XbKept s (if p then a else b) := by
  split <;> assumption

theorem xbKept_of_engs (h : t.engs = s.engs) : XbKept s t := ⟨fun k => by rw [State.eng, h, State.eng]⟩

theorem Spares.xbKept (h : Spares s t) : XbKept s t := ⟨h.xb⟩

theorem memOnly.xbKept (h : memOnly s t) : XbKept s t := ⟨h.spares.xb⟩

theorem xbKept_updEng (s : State) (e : Nat) {g : Eng → Eng} (hg : ∀ x, (g x).xbCmd = x.xbCmd := by intro _; rfl) :
    XbKept s (s.updEng e g) := (spares_updEng hg s e).xbKept

theorem xbKept_setF (s : State) (x : Fld) (i n : Nat) : XbKept s (s.setF x i n) := xbKept_of_engs rfl

theorem xbKept_setReg (s : State) (r : Reg) (i : Nat) (v : Word) : XbKept s (s.setReg r i v) := xbKept_of_engs rfl

theorem xbKept_raise (s : State) (x : Fld) (i : Nat) : XbKept s (s.raise x i) := xbKept_of_engs rfl

theorem xbKept_addCnt (s : State) (c : Ctr) (i n : Nat) : XbKept s (s.addCnt c i n) := xbKept_of_engs rfl

theorem xbKept_inc (s : State) (c : Ctr) (i : Nat) : XbKept s (s.inc c i) := xbKept_of_engs rfl

/-! #### Stores and landing (R257, R313, R341) -/

theorem xbKept_bankWrite (s : State) (e a : Nat) (bs : List (Option Byte)) : XbKept s (bankWrite s e a bs) :=
  (memOnly_memWrite ..).xbKept.trans
    (xbKept_updEng ..)

theorem xbKept_drainOne (s : State) (e b : Nat) : XbKept s (drainOne s e b) := by
  unfold drainOne
  split
  · exact xbKept_refl s
  · next rest _ =>
    exact (xbKept_bankWrite ..).trans
      (xbKept_updEng ..)

theorem xbKept_drainBank (s : State) (e b : Nat) : XbKept s (drainBank s e b) :=
  xbKept_foldl (fun s _ => xbKept_drainOne s e b) _ s

theorem xbKept_sbPush (s : State) (e b : Nat) (x : SbEnt) : XbKept s (sbPush s e b x) := by
  unfold sbPush
  exact (xbKept_ite (xbKept_drainOne ..) (xbKept_refl s)).trans (xbKept_updEng ..)

theorem xbKept_zHandover (s : State) (e : Nat) : XbKept s (zHandover s e) := by
  unfold zHandover
  split
  · exact xbKept_refl s
  · refine XbKept.trans (xbKept_ite ?_ (xbKept_refl s)) <|
      (xbKept_updEng ..).trans (xbKept_sbPush ..)
    exact (xbKept_inc ..).trans (xbKept_inc ..)

theorem xbKept_zGather (s : State) (e a : Nat) (bs : List Byte) : XbKept s (zGather s e a bs) := by
  unfold zGather
  extract_lets base s1
  have h1 : XbKept s s1 := by
    unfold s1
    split
    · exact xbKept_ite (xbKept_refl s) (xbKept_zHandover ..)
    · exact xbKept_refl s
  exact h1.trans (xbKept_updEng ..)

theorem xbKept_closeWord (s : State) (e k : Nat) : XbKept s (closeWord s e k) := by
  unfold closeWord
  refine xbKept_ite (xbKept_refl s) ?_
  exact XbKept.trans (t := { s with freeCtr := s.freeCtr + 1 }) (xbKept_of_engs rfl) (xbKept_updEng ..)

theorem xbKept_landEff (s : State) (e : Nat) (f : FlyEff) : XbKept s (landEff s e f) := by
  unfold landEff
  cases f with
  | val k m v => exact xbKept_updEng ..
  | aesKey k key => exact xbKept_updEng ..
  | zdata a bs => exact xbKept_zGather ..
  | poison => exact xbKept_refl s
  | sock k => exact (xbKept_ite (xbKept_closeWord ..) (xbKept_refl s)).trans (xbKept_updEng ..)

theorem xbKept_sockTick (s : State) (e : Nat) : XbKept s (sockTick s e) := by
  refine xbKept_foldl (fun s p => XbKept.trans (xbKept_ite ?_ ?_) (xbKept_updEng ..)) _ s
  · exact xbKept_closeWord ..
  · exact xbKept_updEng ..

theorem xbKept_unitCycle (s : State) (e : Nat) : XbKept s (unitCycle s e) := by
  unfold unitCycle
  exact (xbKept_sockTick s e).trans <| (xbKept_updEng ..).trans (xbKept_foldl (fun _ _ => xbKept_landEff ..) ..)

theorem xbKept_landAll (s : State) (e : Nat) : XbKept s (landAll s e) :=
  XbKept.trans (xbKept_foldl (fun s _ => xbKept_unitCycle s e) _ s) <|
    XbKept.trans (xbKept_updEng ..) (xbKept_foldl (fun s f => xbKept_landEff s e f) ..)

/-! #### Fetch (R264) -/

theorem xbKept_flushFetch (s : State) (e : Nat) : XbKept s (flushFetch s e) := by
  have h1 : XbKept s (s.updEng e fun x => { x with fetchQ := [], slip := false }) := xbKept_updEng ..
  exact xbKept_ite h1 (xbKept_ite h1 (h1.trans (xbKept_addCnt ..)))

theorem xbKept_foretell (s : State) (e a n : Nat) : XbKept s (foretell s e a n).2 := by
  unfold foretell
  dsimp only
  split
  · exact xbKept_refl s
  split
  · exact xbKept_refl s
  · exact xbKept_of_engs rfl

theorem xbKept_fetchAt (s : State) (e a : Nat) : XbKept s (fetchAt s e a) := by
  unfold fetchAt
  exact (memOnly_memRead ..).xbKept.trans <| (xbKept_foretell ..).trans (xbKept_updEng ..)

theorem xbKept_fetchCycle (s : State) (e : Nat) (busy : List Nat) : XbKept s (fetchCycle s e busy) := by
  unfold fetchCycle
  split
  · exact xbKept_ite (xbKept_fetchAt ..) (xbKept_refl s)
  · exact xbKept_refl s

theorem xbKept_saveCycles (s : State) (e : Nat) : XbKept s (saveCycles s e) := by
  unfold saveCycles fetchCycles
  exact (xbKept_addCnt ..).trans <| (xbKept_foldl (fun s b => xbKept_fetchCycle s e b) ..).trans (xbKept_updEng ..)

/-! #### The event controller (R449–R457) -/

theorem xbKept_setSrc (s : State) (n : Nat) (v : EvSrc) : XbKept s (s.setSrc n v) := xbKept_of_engs rfl

theorem xbKept_msixSend (s : State) (v : Nat) : XbKept s (msixSend s v) := by
  unfold msixSend
  exact xbKept_ite (xbKept_of_engs rfl) (xbKept_ite (xbKept_of_engs rfl) (xbKept_refl s))

theorem xbKept_msixRequest (s : State) (v : Nat) : XbKept s (msixRequest s v) := by
  unfold msixRequest
  refine xbKept_ite (xbKept_refl s) (XbKept.trans ?_ (xbKept_msixSend ..))
  exact xbKept_of_engs rfl

theorem xbKept_offer (s : State) (n : Nat) : XbKept s (offer s n) := by
  unfold offer
  split
  · exact xbKept_ite ((xbKept_setSrc ..).trans (xbKept_msixRequest ..)) (xbKept_setSrc ..)
  · exact xbKept_setSrc ..

theorem xbKept_releaseGroup (s : State) (g : Nat) : XbKept s (releaseGroup s g) :=
  XbKept.trans (t := s.setGrp g EvGrp.reset) (xbKept_of_engs rfl)
    (xbKept_foldl (fun s _ => xbKept_ite (xbKept_offer ..) (xbKept_refl s)) _ _)

theorem xbKept_countFiring (s : State) (n : Nat) : XbKept s (countFiring s n) := by
  have h1 : XbKept s (s.setGrp (n / 8) ⟨true, (s.grp (n / 8)).count + 1⟩) := xbKept_of_engs rfl
  exact xbKept_ite (h1.trans (xbKept_releaseGroup ..)) h1

theorem xbKept_repend (s : State) (n : Nat) (b : Bool) : XbKept s (repend s n b) :=
  xbKept_ite (xbKept_setSrc ..) ((xbKept_setSrc ..).trans (xbKept_countFiring ..))

theorem xbKept_stormCount (s : State) (n : Nat) : XbKept s (stormCount s n) := by
  unfold stormCount
  exact xbKept_ite (xbKept_refl s) (xbKept_ite ((xbKept_setSrc ..).trans <| (xbKept_setF ..).trans <| (xbKept_setF ..).trans <|
    (xbKept_raise ..).trans (xbKept_inc ..)) (xbKept_setSrc ..))

theorem xbKept_completeSrc (s : State) (n : Nat) : XbKept s (completeSrc s n) := by
  unfold completeSrc
  extract_lets now level x s1 src
  have h1 : XbKept s s1 := xbKept_setSrc ..
  refine h1.trans (xbKept_ite (xbKept_ite (xbKept_setSrc ..) (xbKept_repend ..)) (xbKept_ite ?_ (xbKept_setSrc ..)))
  exact (xbKept_stormCount ..).trans (xbKept_repend ..)

theorem xbKept_targetsChanged (s : State) : XbKept s (targetsChanged s) := by
  unfold targetsChanged
  refine XbKept.trans (xbKept_foldl (fun s n => ?_) _ s)
    (xbKept_foldl (fun s n => xbKept_ite (xbKept_offer ..) (xbKept_refl s)) _ _)
  dsimp only
  split
  · refine xbKept_ite (xbKept_refl s) (xbKept_ite ?_ (xbKept_ite ?_ (xbKept_refl s)))
    · exact (xbKept_setSrc ..).trans (xbKept_offer ..)
    · exact (xbKept_completeSrc ..).trans (xbKept_inc ..)
  · exact xbKept_refl s

/-! #### Wedged engines and handlers (R277, R284–R286) -/

theorem xbKept_dropUnits (s : State) (e : Nat) : XbKept s (dropUnits s e) := by
  refine xbKept_foldl (fun s p => xbKept_ite (xbKept_refl s) ?_) _ s
  exact xbKept_of_engs rfl

theorem xbKept_reissueJob (s : State) (e : Nat) : XbKept s (reissueJob s e) := by
  unfold reissueJob
  split
  · exact xbKept_refl s
  · extract_lets s1
    have h1 : XbKept s s1 := xbKept_updEng ..
    refine h1.trans (XbKept.trans ?_ (spares_dispatchJobs _).xbKept)
    exact xbKept_of_engs rfl

theorem xbKept_wedge (s : State) (e second : Nat) : XbKept s (wedge s e second) := by
  unfold wedge
  extract_lets first s1 s2 s3 s4
  have h1 : XbKept s s1 := (xbKept_setReg ..).trans (xbKept_landAll ..)
  have h2 : XbKept s1 s2 := XbKept.trans (xbKept_updEng s1 e) (xbKept_setF ..)
  have h3 : XbKept s2 s3 := (xbKept_setF ..).trans <| (xbKept_setF ..).trans (xbKept_raise ..)
  refine h1.trans <| h2.trans <| h3.trans <| xbKept_ite (XbKept.trans (xbKept_dropUnits s3 e) ?_) (xbKept_ite ?_ ?_)
  · exact xbKept_ite (spares_relinquish ..).xbKept (xbKept_refl _)
  · exact xbKept_targetsChanged s3
  · exact xbKept_reissueJob ..

theorem xbKept_enterHandler (s : State) (e kind code fault vector : Nat) : XbKept s (enterHandler s e kind code fault vector) := by
  unfold enterHandler
  extract_lets s1 s2 s3 x bytes s4 s5
  have h1 : XbKept s s1 := (xbKept_flushFetch ..).trans (xbKept_updEng ..)
  have h2 : XbKept s1 s2 := (xbKept_landAll ..).trans (xbKept_zHandover ..)
  have h3 : XbKept s2 s3 := (xbKept_drainBank ..).trans <| (xbKept_drainBank ..).trans (xbKept_drainBank ..)
  have h4 : XbKept s3 s4 := (memOnly_memWrite ..).xbKept
  have h5 : XbKept s4 s5 := xbKept_updEng ..
  exact h1.trans <| h2.trans <| h3.trans <| h4.trans <| h5.trans <| xbKept_saveCycles ..

theorem xbKept_takeException (s : State) (e code : Nat) : XbKept s (takeException s e code) := by
  unfold takeException
  refine xbKept_ite (xbKept_refl s) (xbKept_ite (xbKept_wedge ..) ?_)
  extract_lets s1 s2 s3
  have h1 : XbKept s s1 := (xbKept_setF ..).trans (xbKept_setReg ..)
  have h2 : XbKept s1 s2 := (xbKept_setF ..).trans (xbKept_raise ..)
  have h3 : XbKept s2 s3 := xbKept_inc ..
  refine h1.trans <| h2.trans <| h3.trans <| xbKept_ite ?_ (xbKept_enterHandler ..)
  exact XbKept.trans (xbKept_updEng s3 e) (xbKept_wedge ..)

end

section
variable {s : State} {e : Nat} {m : Master}

/-! ### The crossbar ports (R333) -/

/-- With no request waiting none goes out. -/
theorem xbPump_of_nil (h : (s.eng e).xbCmd = []) : xbPump s e = s := by
  rw [xbPump, h]
  rfl

/-- A write waits for its data. -/
theorem xbStep_waits {c : W64} (hcmd : (s.eng e).xbCmd = [c]) (hw : c.toNat.testBit 63 = true) (hwd : (s.eng e).xbWd = []) :
    xbStep s e = s := by
  have hwait : (s.eng e).xbRd.length ≥ xbRdDepth ∨ (s.eng e).xbFeed ≠ [] ∨
      (bitAt c.toNat 63 ∧ ([] : List W64).length < 4 * (bitsOf c.toNat 48 4 + 1)) :=
    .inr (.inr ⟨hw, by simp⟩)
  simp only [xbStep, hcmd, hwd, if_pos hwait]

theorem xbPump_updEng {f : Eng → Eng} (hf : ∀ x, (f x).xbCmd = x.xbCmd) (h : (s.eng e).xbCmd = []) :
    xbPump (s.updEng e f) e = s.updEng e f := xbPump_of_nil (by rw [State.eng_updEng_self, hf, h])

theorem execXbRd_word (hr : engReady s e) (hc : engClass e ≠ 0) (hcmd : (s.eng e).xbCmd = []) (g : Nat) {d : W64}
    {rest : List (W64 × Bool)} (h : (s.eng e).xbRd = (d, false) :: rest) :
    xbPump (runMove s e fun r => toG e g (opXbRd r e)) e =
      s.updEng e fun x => (x.setXbRd (rest ++ x.xbFeed)).setG g d.toNat := by
  have hmove : runMove s e (fun r => toG e g (opXbRd r e)) = s.updEng e fun x => (x.setXbRd (rest ++ x.xbFeed)).setG g d.toNat := by
    have hop : opXbRd (Run.of s) e = (d.toNat, (Run.of s).upd e fun x => x.setXbRd (rest ++ x.xbFeed)) := by
      rw [opXbRd, if_neg hc, show ((Run.of s).s.eng e).xbRd = (d, false) :: rest from h]
      rfl
    rw [runMove_ready hr, hop]
    exact toG_upd (by rw [busW_other hc]; exact d.isLt)
  rw [hmove]
  exact xbPump_updEng (fun _ => rfl) hcmd

theorem execXbRd_empty (hr : engReady s e) (hc : engClass e ≠ 0) (hcmd : (s.eng e).xbCmd = []) (g : Nat)
    (h : (s.eng e).xbRd = []) : xbPump (runMove s e fun r => toG e g (opXbRd r e)) e = s := by
  have hop : opXbRd (Run.of s) e = (0, (Run.of s).wait) := by
    rw [opXbRd, if_neg hc, show ((Run.of s).s.eng e).xbRd = [] from h]
  rw [runMove_ready hr, hop, toG_wait, xbPump_of_nil hcmd]

/-- A response that is not OKAY raises BUS. -/
theorem execXbRd_response (hr : engReady s e) (hc : engClass e ≠ 0) (hcmd : (s.eng e).xbCmd = []) (g : Nat) {d : W64}
    {rest : List (W64 × Bool)} (h : (s.eng e).xbRd = (d, true) :: rest) (hd : d ≠ 0) :
    xbPump (runMove s e fun r => toG e g (opXbRd r e)) e = takeException s e 9 := by
  have hop : opXbRd (Run.of s) e = (0, (Run.of s).fail excBus) := by
    rw [opXbRd, if_neg hc, show ((Run.of s).s.eng e).xbRd = (d, true) :: rest from h]
    exact if_pos (by simpa using hd)
  have hclose : (toG e g (0, (Run.of s).fail excBus)).close s e = takeException s e 9 := rfl
  rw [runMove_ready hr, hop, hclose, xbPump_of_nil (((xbKept_takeException s e 9).eq e).trans hcmd)]

theorem execXbWd_room (hr : engReady s e) (hc : engClass e ≠ 0) (hcmd : (s.eng e).xbCmd = []) {d : W64}
    (h : (s.eng e).xbWd.length < 64) :
    xbPump (runMove s e fun r => opXbWd r e d.toNat) e = s.updEng e fun x => { x with xbWd := x.xbWd ++ [d] } := by
  have hmove : runMove s e (fun r => opXbWd r e d.toNat) = s.updEng e fun x => { x with xbWd := x.xbWd ++ [d] } := by
    rw [runMove_ready hr, opXbWd, if_neg hc, pushFifo_room (l := ((Run.of s).s.eng e).xbWd) h, BitVec.ofNat_toNat,
      BitVec.setWidth_eq, Run.close_upd_of]
    exact updEng_congr rfl
  rw [hmove]
  exact xbPump_updEng (fun _ => rfl) hcmd

theorem execXbWd_full (hr : engReady s e) (hc : engClass e ≠ 0) (hcmd : (s.eng e).xbCmd = []) (v : Nat)
    (h : 64 ≤ (s.eng e).xbWd.length) : xbPump (runMove s e fun r => opXbWd r e v) e = s := by
  rw [runMove_ready hr, opXbWd, if_neg hc, pushFifo_full (l := ((Run.of s).s.eng e).xbWd) h, close_wait, xbPump_of_nil hcmd]

/-- A write enters XB_CMD and waits there for its data. -/
theorem execXbCmd_write (hr : engReady s e) (hc : engClass e ≠ 0) (hcmd : (s.eng e).xbCmd = []) {d : W64}
    (hw : d.toNat.testBit 63 = true) (hwd : (s.eng e).xbWd = []) :
    xbPump (runMove s e fun r => opXbCmd r e d.toNat) e = s.updEng e fun x => { x with xbCmd := [d] } := by
  have hmove : runMove s e (fun r => opXbCmd r e d.toNat) = s.updEng e fun x => { x with xbCmd := [d] } := by
    rw [runMove_ready hr, opXbCmd, if_neg hc, pushFifo_room (l := ((Run.of s).s.eng e).xbCmd) (by
      rw [show ((Run.of s).s.eng e).xbCmd = [] from hcmd]; decide), BitVec.ofNat_toNat, BitVec.setWidth_eq, Run.close_upd_of,
      show ((Run.of s).s.eng e).xbCmd = [] from hcmd]
    rfl
  rw [hmove, xbPump, State.eng_updEng_self]
  exact xbStep_waits (by rw [State.eng_updEng_self]) hw (by rw [State.eng_updEng_self]; exact hwd)

/-! ### Events of an engine (R33, R268, R283, R287, R290, R300) -/

theorem onlyEng_updEng (f : Eng → Eng) : onlyEng s (s.updEng e f) e :=
  ⟨rfl, fun k hk => by rw [State.eng_updEng, if_neg hk]⟩

/-- A whole value lands in its port. -/
theorem landEff_wholeVal {j v : Nat} : landEff s e (wholeVal j v) = s.updEng e fun x => x.setVal j (v % 2 ^ 128) := by
  have hones : BitVec.ofNat 128 (2 ^ 128 - 1) = BitVec.allOnes 128 := by decide
  rw [wholeVal, landEff]
  refine updEng_congr ?_
  simp only [hones, BitVec.not_allOnes, BitVec.and_zero, BitVec.zero_or, BitVec.and_allOnes, BitVec.toNat_ofNat]

/-- A blocking unit finishes with a whole value: it stands in its port, and the engine goes on. -/
theorem blockDone_whole {j v : Nat} (h : (s.eng e).blocked = some [wholeVal j v]) :
    blockDone s e = s.updEng e fun x => { x with blocked := none }.setVal j (v % 2 ^ 128) := by
  rw [blockDone, h]
  exact landEff_wholeVal.trans updEng_updEng

theorem val_setVal {x : Eng} {k v : Nat} (hv : v < 2 ^ 128) : (x.setVal k v).val k = v := by
  rw [Eng.val, Eng.setVal, SMap.get_set_self, BitVec.toNat_ofNat, Nat.mod_eq_of_lt hv]

/-- A sleeping engine whose clock runs wakes. -/
theorem wakeEngine_running (ha : engState s e = engAsleep) (hc : engClass e ≠ 1 ∨ kclkLocked s = true) :
    wakeEngine s e = s.setF ENG_STATUS.STATE e engRunning := by
  obtain hc | hc := hc <;> simp [wakeEngine, ha, hc]

/-- A write of ENG_CTL lands at the engine that the master's selector shows. -/
theorem engCtl_reaches {i : Nat} (h : reaches s .eng m i) (effect : Nat → State → State) :
    whenUp s .ENG (fun s => inWindow s .eng m effect) = effect i s := by
  have hup : s.blkUp .ENG = true := h.1
  rw [whenUp, if_pos hup, inWindow, h.2]

/-- Bit 31 alone asks for the reset. -/
theorem engCtlWrite_reset :
    engCtlWrite s e (2 ^ 31) =
      if engState s e = engWedged || (e < 64 && sliceDrained s (e / 2) && s.mode == modeMaintenance) then
        (if e ≥ 68 then targetsChanged (resetEngine s e) else resetEngine s e)
      else s.raise ENG_EVT.CTL_IGNORED e := by
  have h0 : bitAt (2 ^ 31) 0 = false := by decide
  have h31 : bitAt (2 ^ 31) 31 = true := by decide
  simp only [engCtlWrite, h0, h31, Bool.false_eq_true, if_false, if_true]

theorem engCtlWrite_ignored (hrun : engState s e = engRunning) (he : 64 ≤ e) :
    engCtlWrite s e (2 ^ 31) = s.raise ENG_EVT.CTL_IGNORED e := by
  have hlt : ¬ e < 64 := by omega
  rw [engCtlWrite_reset, hrun, if_neg (by simp [hlt, engRunning, engWedged])]

theorem engCtlWrite_wedged (hw : engState s e = engWedged) (he : e < 68) : engCtlWrite s e (2 ^ 31) = resetEngine s e := by
  have hlt : ¬ e ≥ 68 := by omega
  rw [engCtlWrite_reset, if_pos (by simp [hw]), if_neg hlt]

/-- A reset writes registers once the banks and the engine are cleared. -/
theorem setsRegs_resetEngine :
    setsRegs ((clearRegion s e).setEng e (s.eng e).cleared) (resetEngine s e)
      [(.ENG_EXC, e), (.ENG_EXC_PC, e), (.ENG_STATUS, e)] :=
  (setsRegs_setReg ..).trans <| (setsRegs_setReg ..).trans (setsRegs_setF ..)

/-- What a reset leaves: the engine cleared, its banks empty, and no other engine touched. -/
theorem resetEngine_spec :
    (resetEngine s e).eng e = (s.eng e).cleared ∧ engState (resetEngine s e) e = engResetting ∧
    (resetEngine s e).ram e = [] ∧ (resetEngine s e).reg .ENG_EXC e = 0 ∧
    ∀ j, j ≠ e → (resetEngine s e).eng j = s.eng j := by
  have hengs : ∀ j, (resetEngine s e).eng j = ((clearRegion s e).setEng e (s.eng e).cleared).eng j := fun j =>
    congrArg (SMap.get (fun _ => Eng.reset) · j) setsRegs_resetEngine.engs
  refine ⟨?_, ?_, ?_, ?_, fun j hj => ?_⟩
  · rw [hengs, State.eng_setEng_self]
  · rw [engState, resetEngine, State.f_setF_one (by decide) (by decide)]
  · rw [State.ram, setsRegs_resetEngine.rams]
    simp [clearRegion, State.setRam, State.setMemc]
  · rw [resetEngine, State.reg_setF_ne (by simp [ENG_STATUS.STATE]), State.reg_setReg_ne (by decide), State.reg_setReg_self]
  · rw [hengs, State.eng_setEng, if_neg hj]
    rfl

/-- Bit 0 alone clears the counters. -/
theorem engCtlWrite_clear : engCtlWrite s e 1 = engCounters.foldl (fun s c => s.setCnt c e 0) s := by
  have h0 : bitAt 1 0 = true := by decide
  have h31 : bitAt 1 31 = false := by decide
  simp only [engCtlWrite, h0, h31, Bool.false_eq_true, if_false, if_true]

/-- Counters cleared one after the other. -/
theorem foldl_setCnt {l : List Ctr} :
    (∀ c, (l.foldl (fun s c => s.setCnt c e 0) s).cnt c e = if c ∈ l then 0 else s.cnt c e) ∧
    onlyRegs s (l.foldl (fun s c => s.setCnt c e 0) s) [] (l.map fun c => (c, e)) := by
  induction l generalizing s with
  | nil => exact ⟨fun c => by simp, onlyRegs_refl s⟩
  | cons d l ih =>
    obtain ⟨hcnt, honly⟩ := ih (s := s.setCnt d e 0)
    have hone : onlyRegs s (s.setCnt d e 0) [] [(d, e)] :=
      ⟨rfl, fun _ _ _ => rfl, fun c i hc => by rw [State.cnt_setCnt, if_neg (by simpa using hc)]⟩
    refine ⟨fun c => ?_, (hone.trans honly).mono (by simp) (by simp)⟩
    rw [List.foldl_cons, hcnt, State.cnt_setCnt]
    by_cases h1 : c ∈ l <;> by_cases h2 : c = d <;> simp [h1, h2]

end

section
variable {s : State} {e : Nat} {m : Master}

/-- A job that is handed over leaves what its words do not touch of an engine. -/
theorem dispatchJobs_proj {α : Type} {π : Eng → α} (h : ∀ x j, π (x.takeJob j) = π x) (k : Nat) :
    π ((dispatchJobs s).eng k) = π (s.eng k) := by
  refine Eq.symm (foldl_rel_of_step (R := fun (a b : State) => π (a.eng k) = π (b.eng k)) (fun _ => rfl)
    (fun _ _ _ => Eq.trans) (fun s e => ?_) _ s)
  split
  · next j rest _ =>
    split
    · rw [State.eng_updEng]
      split
      · next heq => rw [h, heq]; rfl
      · rfl
    · rfl
  · rfl

/-- An engine outside the data plane has no image in the code store that could be bad. -/
theorem imageBad_of_ge (he : 64 ≤ e) : imageBad s e = false := by
  have hlt : ¬ e < 64 := by omega
  simp [imageBad, imageWords, hlt]

/-- A key engine takes its code, and then a job that waits. -/
theorem startEngine_key {x : Section} (he : 64 ≤ e) (he' : e < 68) (himg : codeImage (codeSheaf s e) e = some x)
    (hst : engState s e ≠ engWedged) : startEngine s e = dispatchJobs (runImage s e x) := by
  have hclass : engClass e = 1 := by
    have hlt : ¬ e < 64 := by omega
    simp [engClass, hlt, he']
  have hbad : ¬ imageBad s e = true := by simp [imageBad_of_ge he]
  rw [startEngine, himg]
  dsimp only
  rw [if_neg hst, if_neg hbad, if_pos hclass]
  rfl

/-- The entry state of an engine that runs an image. -/
theorem eng_runImage {x : Section} :
    ∃ y : Eng, (runImage s e x).eng e =
      { y.cleared with pc := BitVec.ofNat 32 (leAt x.bytes 12 4), ivb := BitVec.ofNat 32 (leAt x.bytes 16 4),
                       stkLim := BitVec.ofNat 32 (leAt x.bytes 20 4), stkTop := BitVec.ofNat 32 (leAt x.bytes 24 4),
                       sp := BitVec.ofNat 32 (leAt x.bytes 24 4) } := by
  refine ⟨(loadSegments (imageCode s e x).2 e x.bytes (imageCode s e x).1).eng e, ?_⟩
  rw [runImage]
  exact (congrArg (SMap.get (fun _ => Eng.reset) · e) (setsRegs_setF _ ENG_STATUS.STATE e engRunning).engs).trans
    State.eng_setEng_self

theorem engState_runImage {x : Section} : engState (runImage s e x) e = engRunning := by
  rw [engState, runImage, State.f_setF_one (by decide) (by decide)]

/-- A key engine whose reset is done runs from the entry bundle of its image. -/
theorem resetDone_spec {x : Section} (hst : engState s e = engResetting) (himg : codeImage (codeSheaf s e) e = some x)
    (he : 64 ≤ e) (he' : e < 68) :
    engState (resetDone s e) e = engRunning ∧ (resetDone s e).fb ENG_EVT.RESET_DONE e = true ∧
    ((resetDone s e).eng e).pc = BitVec.ofNat 32 (leAt x.bytes 12 4) ∧
    ((resetDone s e).eng e).ivb = BitVec.ofNat 32 (leAt x.bytes 16 4) ∧
    ((resetDone s e).eng e).fly = [] ∧ ((resetDone s e).eng e).g = [] := by
  have hne : engState s e ≠ engWedged := by rw [hst]; decide
  have hrun : engState (dispatchJobs (runImage s e x)) e = engRunning := by
    rw [engState, State.f, show ENG_STATUS.STATE.reg = .ENG_STATUS from rfl, (spares_dispatchJobs _).status]
    exact engState_runImage
  have heq : resetDone s e = (dispatchJobs (runImage s e x)).raise ENG_EVT.RESET_DONE e := by
    have hlt : ¬ e < 64 := by omega
    have hge : ¬ e ≥ 68 := by omega
    rw [resetDone, if_neg (by simp [hst]), if_neg (by simp [hlt])]
    dsimp only
    rw [startEngine_key he he' himg hne, if_pos hrun, if_neg hge]
  obtain ⟨y, hy⟩ := eng_runImage (s := s) (e := e) (x := x)
  have heng : (resetDone s e).eng e = (dispatchJobs (runImage s e x)).eng e := by
    rw [heq]
    exact congrArg (SMap.get (fun _ => Eng.reset) · e) (setsRegs_setF _ ENG_EVT.RESET_DONE e 1).engs
  refine ⟨?_, ?_, ?_, ?_, ?_, ?_⟩
  · rw [heq, engState, State.f_raise_ne (by decide) (.inl (by decide))]
    exact hrun
  · rw [heq, State.fb_raise (by decide) rfl]
  · rw [heng, dispatchJobs_proj (π := Eng.pc) (fun _ _ => rfl), hy]
  · rw [heng, dispatchJobs_proj (π := Eng.ivb) (fun _ _ => rfl), hy]
  · rw [heng, dispatchJobs_proj (π := Eng.fly) (fun _ _ => rfl), hy]; rfl
  · rw [heng, dispatchJobs_proj (π := Eng.g) (fun _ _ => rfl), hy]; rfl

/-- A result word that is a whole result without further words and names the running job ends it. -/
theorem runMove_jobRes_whole {d h : W64} {j : KeyJob} (hr : engReady s e) (hc : engClass e = 1) (hres : (s.eng e).jobRes = [])
    (hans : (s.eng e).answer = []) (hn : d.toNat / 2 ^ 40 % 2 ^ 16 = 0) (hrun : (s.eng e).running = some j)
    (htag : j.tag = d.toNat % 2 ^ 16) (hhead : j.words.head? = some h) (hop : h.toNat / 2 ^ 56 = d.toNat / 2 ^ 56)
    (hjobs : s.silo.jobs = []) :
    runMove s e (fun r => opJobRes r e d.toNat) =
      jobAnswered (s.updEng e fun x => { x with running := none }) j.owner (jobStatus d) := by
  rw [runMove_jobRes hr hc hres, jobResTaken_whole (s := s.updEng e fun x => { x with jobRes := [d] }) (j := j) (h := h)
    (by simpa using hans) (by simp) hn (by simpa using hrun) htag hhead hop hjobs]
  congr 1
  rw [State.eng_updEng_self, State.updEng, State.setEng_setEng]
  exact updEng_congr (f := fun x => { x with answer := [], jobRes := [], running := none }) (by simp [hans, hres])

theorem runMove_jobRes_header {d : W64} (hr : engReady s e) (hc : engClass e = 1) (hres : (s.eng e).jobRes = [])
    (hans : (s.eng e).answer = []) (hn : 1 ≤ d.toNat / 2 ^ 40 % 2 ^ 16) :
    runMove s e (fun r => opJobRes r e d.toNat) = s.updEng e fun x => { x with answer := [d] } := by
  rw [runMove_jobRes hr hc hres, jobResTaken_header (s := s.updEng e fun x => { x with jobRes := [d] })
    (by simpa using hans) (by simp) hn, State.eng_updEng_self, State.updEng, State.setEng_setEng]
  exact updEng_congr (f := fun x => { x with answer := [d], jobRes := [] }) (by simp [hres])

/-- The ports of a data engine take effect or stall. -/
theorem runMove_outData (hr : engReady s e) (hc : engClass e = 0) (w : BusVal) :
    ((s.eng e).outDesc = [] → (s.eng e).outData = [] → (s.eng e).outTaken.length < 4096 →
      runMove s e (fun r => opOutData r e w.toNat) = s.updEng e fun x => { x with outTaken := x.outTaken ++ [w] }) ∧
    ((s.eng e).outDesc = [] → (s.eng e).outTaken.length = 4096 → (s.eng e).outData.length < 64 →
      runMove s e (fun r => opOutData r e w.toNat) = s.updEng e fun x => { x with outData := x.outData ++ [w] }) := by
  refine ⟨fun h1 h2 h3 => ?_, fun h1 h2 h3 => ?_⟩
  · rw [runMove_outData_taken hr hc h1 (by simp [h2])]
    exact updEng_congr (takeOut_room h2 h3)
  · rw [runMove_outData_taken hr hc h1 h3]
    exact updEng_congr (takeOut_full h2)

end

/-- Settles O15: a move of a stream port pops or pushes its FIFO or stalls, and each event of an engine is one function of its
state. -/
theorem streamsAndEngineEventsTakeEffect : Obligations.StreamsAndEngineEventsTakeEffect := by
  refine ⟨fun s e g w d rest r64 rrd hr => ?_, fun s e line k m w => ?_⟩
  · intro x at'
    have next : ∀ {a b : State}, a = b →
        (Host.Outcome.next a : Host.Outcome State Fault Refusal) = .next b := fun h => congrArg _ h
    refine ⟨fun hc => ⟨fun h => next (runMove_inDesc hr hc g h), fun h => next (runMove_inData hr hc g h),
        fun h => next (runMove_inDesc_empty hr hc g h), fun h => next (runMove_inData_empty hr hc g h),
        fun h1 h2 h3 hw => next (runMove_outDesc hr hc h1 h2 h3 hw),
        fun h1 h2 h3 => next ((runMove_outData hr hc w).1 h1 h2 h3), fun h1 h2 h3 => next ((runMove_outData hr hc w).2 h1 h2 h3),
        fun h => next (runMove_outData_full hr hc _ h), fun h => next (runMove_outDesc_full hr hc _ h),
        fun h => next (runMove_ctxWb hr hc h), fun h => next (runMove_ctxWb_full hr hc _ h)⟩,
      fun hc => ⟨fun h => next (runMove_job hr hc g h), fun h => next (runMove_job_empty hr hc g h),
        fun h1 h2 hn => next (runMove_jobRes_header hr hc h1 h2 hn), fun j h hres hans hn hrun htag hhead hop hjobs => ?_,
        fun h => next (runMove_jobRes_full hr hc _ h)⟩,
      fun hc hcmd => ⟨fun h => next (execXbRd_word hr hc hcmd g h), fun h => next (execXbRd_empty hr hc hcmd g h),
        fun h => next (execXbWd_full hr hc hcmd _ h), fun h hd => next (execXbRd_response hr hc hcmd g h hd),
        fun h => next (execXbWd_room hr hc hcmd h), fun h hwd => next (execXbCmd_write hr hc hcmd h hwd)⟩⟩
    have hended := runMove_jobRes_whole hr hc hres hans hn hrun htag hhead hop hjobs
    refine ⟨fun hstatus => next (hended.trans ?_), fun c q hown hsess hstatus => next (hended.trans ?_)⟩
    · rw [show jobStatus d = 0 from hstatus, jobAnswered_ok]
    · rw [show jobStatus d = 2 from hstatus, hown, jobAnswered_entropy (by exact hsess)]
  · intro x
    refine ⟨fun hst j v hb hv => ⟨_, congrArg Host.Outcome.next ((if_pos hst).trans (blockDone_whole hb)),
      onlyEng_updEng _, ?_, ?_⟩,
      fun ht => congrArg Host.Outcome.next (if_neg ht),
      fun ha hc hl => congrArg Host.Outcome.next ((if_pos hl).trans (wakeEngine_running ha (.inl hc))),
      fun hl => congrArg Host.Outcome.next (if_neg (by simp [hl])),
      fun ha hl => congrArg Host.Outcome.next (wakeEngine_running ha (.inr hl)),
      fun hreach hw hst he => congrArg Host.Outcome.next ?_,
      fun hreach hw hst he => ⟨_, congrArg Host.Outcome.next ?_, resetEngine_spec⟩,
      fun hreach hw => ⟨_, congrArg Host.Outcome.next ?_, fun c hc => ?_, foldl_setCnt.2⟩,
      fun img hst himg he he' => ⟨_, rfl, resetDone_spec hst himg he he'⟩⟩
    · rw [State.eng_updEng_self]; rfl
    · rw [State.eng_updEng_self, Nat.mod_eq_of_lt hv, val_setVal hv]
    · rw [engCtl_reaches hreach, hw, engCtlWrite_ignored hst he]
    · rw [engCtl_reaches hreach, hw, engCtlWrite_wedged hst he]
    · rw [engCtl_reaches hreach, hw, engCtlWrite_clear]
    · rw [foldl_setCnt.1, if_pos hc]

end Sys2Proof.Machine
end

section
/-! Plain writes of protected memory and of channel contexts: what they store and what they leave. -/

namespace Sys2Proof.Machine

/-! Plain writes of protected memory: what they store and what they leave. -/

/-- A byte of a memory region, errors apart. -/
def memByte (s : State) (k a : Nat) : Byte := Mem.read (ramDefault s k) (s.ram k) a

/-- Nothing but the cells of memories, their valid bits and the tables of their controllers differs. -/
def onlyRams (s t : State) : Prop := t = { s with rams := t.rams, valid := t.valid, memCtl := t.memCtl }

theorem onlyRams.trans {s t u : State} (h : onlyRams s t) (h' : onlyRams t u) : onlyRams s u := by
  unfold onlyRams at *; rw [h', h]

theorem onlyRams_setRam (s : State) (k : Nat) (m : Mem) : onlyRams s (s.setRam k m) := rfl

section
variable {s t : State} (h : onlyRams s t)
include h

theorem onlyRams.errs : t.errs = s.errs := (congrArg State.errs h).trans rfl
theorem onlyRams.regs : t.regs = s.regs := (congrArg State.regs h).trans rfl
theorem onlyRams.ctxBlank : t.ctxBlank = s.ctxBlank := (congrArg State.ctxBlank h).trans rfl
theorem onlyRams.cnts : t.cnts = s.cnts := (congrArg State.cnts h).trans rfl
theorem onlyRams.chans : t.chans = s.chans := (congrArg State.chans h).trans rfl
theorem onlyRams.ports : t.ports = s.ports := (congrArg State.ports h).trans rfl
theorem onlyRams.keys : t.keys = s.keys := (congrArg State.keys h).trans rfl
theorem onlyRams.cntPend : t.cntPend = s.cntPend := (congrArg State.cntPend h).trans rfl

theorem onlyRams.f (x : Fld) (i : Nat) : t.f x i = s.f x i := by
  simp only [State.f, State.reg, h.regs]

theorem onlyRams.ramDefault (k : Nat) : ramDefault t k = ramDefault s k := by
  unfold Sys2Proof.Machine.ramDefault; rw [h.ctxBlank]

theorem onlyRams.quiet {k : Nat} (hq : memQuiet s k) : memQuiet t k := ⟨h.errs.trans hq.1, (h.f ..).trans hq.2⟩

theorem onlyRams.slotOf (c : Nat) : slotOf t c = slotOf s c := h.f ..

theorem onlyRams.ctxAddr (c w : Nat) : ctxAddr t c w = ctxAddr s c w := by
  unfold Sys2Proof.Machine.ctxAddr; rw [h.slotOf]

end

/-- Bytes `bs` are stored from an address of one memory, `none` leaving a byte alone, and nothing else of the machine differs
but valid bits and the tables of controllers. -/
structure Stored (s t : State) (k a : Nat) (bs : List (Option Byte)) : Prop where
  frame : onlyRams s t
  byte : ∀ j x, memByte t j x = if j = k ∧ a ≤ x then ((bs[x - a]?).join).getD (memByte s j x) else memByte s j x

theorem State.ram_setRam (s : State) (k j : Nat) (m : Mem) : (s.setRam k m).ram j = if j = k then m else s.ram j :=
  SMap.get_set

theorem stored_setRam (s : State) (k a : Nat) (bs : List (Option Byte)) :
    Stored s (s.setRam k (Mem.put (ramDefault s k) (s.ram k) a bs)) k a bs := by
  refine ⟨rfl, fun j x => ?_⟩
  unfold memByte
  rw [(onlyRams_setRam s k _).ramDefault, State.ram_setRam]
  by_cases hj : j = k
  · subst hj
    rw [if_pos rfl, Mem.read_put]
    simp
  · simp [hj]

theorem Stored.then {s t u : State} {k a : Nat} {bs : List (Option Byte)} (h : Stored s t k a bs) (h' : onlyRams t u)
    (hr : u.rams = t.rams) : Stored s u k a bs := by
  refine ⟨h.frame.trans h', fun j x => ?_⟩
  rw [← h.byte j x]
  unfold memByte State.ram
  rw [h'.ramDefault, hr]

/-! Words without errors -/

theorem wordErr_clean {s : State} (h : noErrors s) (k w : Nat) : wordErr s k w = .none := by
  rw [wordErr, h]; rfl

theorem setWordErr_clean {s : State} (h : noErrors s) (k w : Nat) : setWordErr s k w .none = s := by
  rw [setWordErr, h, SMap.set, if_pos rfl]
  show { s with errs := [] } = s
  rw [← h]

theorem readWord_clean {s : State} (h : noErrors s) (k w : Nat) : readWord s k w = .clean := by
  rw [readWord, wordErr_clean h]; rfl

theorem poisoned_clean {s : State} (h : noErrors s) (k w : Nat) : poisoned s k w = false := by
  rw [poisoned, readWord_clean h]; rfl

theorem voteRead_clean {s : State} (h : noErrors s) (k w op code : Nat) : voteRead s k w op code = s := by
  rw [voteRead, wordErr_clean h]; rfl

theorem noteRead_clean {s : State} (h : noErrors s) (k w op code : Nat) : noteRead s k w op code = s := by
  rw [noteRead, voteRead_clean h, readWord_clean h]

/-- Without errors a read gives the bytes and changes nothing. -/
theorem memRead_clean {s : State} (h : noErrors s) (k a n op code : Nat) :
    memRead s k a n op code = (ramBytes s k a n, false, s) := by
  unfold memRead ramBytes Mem.bytes
  have hb : ((wordsOf a n).any fun w => poisoned s k w) = false :=
    List.any_eq_false.2 fun w _ => Bool.eq_false_iff.1 (poisoned_clean h k w)
  have hn : (wordsOf a n).foldl (fun s w => noteRead s k w op code) s = s :=
    foldl_fixed_of_mem fun w _ => noteRead_clean h k w op code
  simp only [readWord_clean h, hb, hn]

theorem setValid_clean {s : State} (h : noErrors s) (k w : Nat) (b : Bool) :
    setValid s k w b = { s with valid := SMap.set (validDefault s) s.valid (k + 75 * w) b } := by
  unfold setValid
  rw [wordErr_clean h, show { WordErr.none with odd := none } = WordErr.none from rfl, setWordErr_clean h]

theorem takeFlip_quiet {s : State} {k : Nat} (h : s.f MEM_FLIPMASK.MODE k = 0) (w : Nat) : takeFlip s k w = ([], s) := by
  unfold takeFlip
  simp only [h, if_true]

theorem storeWord_quiet {s : State} {k : Nat} (h : memQuiet s k) (w : Nat) (bs : List (Option Byte)) (r : Bool) :
    Stored s (storeWord s k w bs r) k (8 * w) bs := by
  have hs := stored_setRam s k (8 * w) bs
  unfold storeWord
  revert hs
  generalize s.setRam k (Mem.put (ramDefault s k) (s.ram k) (8 * w) bs) = t
  intro hs
  have hq := hs.frame.quiet h
  have hf : (if r = true then takeFlip t k w else ([], t)) = ([], t) := by
    cases r
    · rfl
    · exact takeFlip_quiet hq.2 w
  simp only [hf, wordErr_clean hq.1]
  have he : ({ WordErr.none with flips := xorFlips (stuckWrong WordErr.none (ramWord t k w)) [] } : WordErr) = WordErr.none := rfl
  rw [he, setWordErr_clean hq.1, setValid_clean hq.1]
  exact hs.then rfl rfl

theorem uncache_stored {s t : State} {k a : Nat} {bs : List (Option Byte)} (h : Stored s t k a bs) (w code : Nat) :
    Stored s (uncache t k w code) k a bs := by
  unfold uncache
  split
  · exact h.then rfl rfl
  · exact h

theorem stored_of_none {k a : Nat} {bs : List (Option Byte)} (s : State) (h : bs.all (·.isNone) = true) :
    Stored s s k a bs := by
  refine ⟨rfl, fun j x => ?_⟩
  split
  · cases e : bs[x - a]? with
    | none => rfl
    | some b =>
      have := List.all_eq_true.1 h b (List.mem_of_getElem? e)
      rw [Option.isNone_iff_eq_none.1 this]; rfl
  · rfl

/-- A write of a word without errors takes its lanes. -/
theorem writeWord_quiet {s : State} {k : Nat} (h : memQuiet s k) (w : Nat) (bs : List (Option Byte)) (code : Nat) :
    (writeWord s k w bs code).1 = false ∧ Stored s (writeWord s k w bs code).2 k (8 * w) bs := by
  have hs := uncache_stored (storeWord_quiet h w bs true) w code
  unfold writeWord
  split
  · exact ⟨rfl, stored_of_none s ‹_›⟩
  · split
    · rw [poisoned_clean h.1]; exact ⟨rfl, hs⟩
    · simp only [voteRead_clean h.1, readWord_clean h.1]; exact ⟨trivial, hs⟩

/-- The byte lanes of a word in a write of bytes from an address. -/
def lanesOf (a : Nat) (bs : List (Option Byte)) (w : Nat) : List (Option Byte) :=
  (List.range 8).map fun j => if 8 * w + j < a then none else (bs[8 * w + j - a]?).getD none

/-- The lane that a byte's word gives it. -/
theorem lanesOf_get (a : Nat) (bs : List (Option Byte)) (x : Nat) :
    ((lanesOf a bs (x / 8))[x - 8 * (x / 8)]?).join = if a ≤ x then (bs[x - a]?).join else none := by
  have hx : x - 8 * (x / 8) < 8 := by omega
  rw [lanesOf, List.getElem?_map, List.getElem?_range hx]
  show (if 8 * (x / 8) + (x - 8 * (x / 8)) < a then none else (bs[8 * (x / 8) + (x - 8 * (x / 8)) - a]?).getD none) = _
  rw [show 8 * (x / 8) + (x - 8 * (x / 8)) = x by omega]
  by_cases h : a ≤ x
  · rw [if_neg (by omega), if_pos h]; cases bs[x - a]? <;> rfl
  · rw [if_pos (by omega), if_neg h]

/-- A word's lanes end with the word. -/
theorem lanesOf_beyond (a : Nat) (bs : List (Option Byte)) {w x : Nat} (h : x / 8 ≠ w) (hx : 8 * w ≤ x) :
    (lanesOf a bs w)[x - 8 * w]? = none := by
  rw [List.getElem?_eq_none]; simp [lanesOf]; omega

/-- A byte after one write of a list of words. -/
theorem writeWords_quiet {k : Nat} (a : Nat) (bs : List (Option Byte)) (code : Nat) (ws : List Nat) {s : State}
    (h : memQuiet s k) :
    let r := ws.foldl (fun (r : Bool × State) w =>
      let u := writeWord r.2 k w (lanesOf a bs w) code
      (r.1 || u.1, u.2)) (false, s)
    r.1 = false ∧ onlyRams s r.2 ∧ ∀ j x, memByte r.2 j x =
      if j = k ∧ x / 8 ∈ ws ∧ a ≤ x then ((bs[x - a]?).join).getD (memByte s j x) else memByte s j x := by
  induction ws generalizing s with
  | nil => exact ⟨rfl, rfl, fun j x => by simp⟩
  | cons w ws ih =>
    obtain ⟨h1, hst⟩ := writeWord_quiet h w (lanesOf a bs w) code
    obtain ⟨i1, i2, i3⟩ := ih (hst.frame.quiet h)
    simp only [List.foldl_cons, h1, Bool.or_false]
    refine ⟨i1, hst.frame.trans i2, fun j x => ?_⟩
    rw [i3, hst.byte]
    by_cases hj : j = k
    · by_cases hw : x / 8 = w
      · have hle : 8 * w ≤ x := by omega
        rw [← hw, lanesOf_get]
        by_cases ha : a ≤ x
        · cases (bs[x - a]?).join <;> simp [hj, ha, show 8 * (x / 8) ≤ x by omega]
        · simp [ha]
      · by_cases hle : 8 * w ≤ x
        · simp [lanesOf_beyond a bs hw hle, hw]
        · simp [hle, hw]
    · simp [hj]

theorem mem_wordsOf {a n w : Nat} : w ∈ wordsOf a n ↔ n ≠ 0 ∧ a / 8 ≤ w ∧ w ≤ (a + n - 1) / 8 := by
  unfold wordsOf
  split
  · simp [*]
  · simp only [List.mem_map, List.mem_range]
    constructor
    · rintro ⟨i, hi, rfl⟩; omega
    · rintro ⟨hn, h1, h2⟩; exact ⟨w - a / 8, by omega, by omega⟩

/-- Where no corruption waits, a write of bytes stores them and is not refused (R396). -/
theorem memWrite_quiet {s : State} {k : Nat} (h : memQuiet s k) (a : Nat) (bs : List (Option Byte)) (code : Nat) :
    (memWrite s k a bs code).1 = false ∧ Stored s (memWrite s k a bs code).2 k a bs := by
  obtain ⟨h1, h2, h3⟩ := writeWords_quiet a bs code (wordsOf a bs.length) h
  refine ⟨h1, h2, fun j x => (h3 j x).trans ?_⟩
  by_cases hx : x / 8 ∈ wordsOf a bs.length
  · simp [hx]
  · by_cases ha : a ≤ x
    · have : bs.length ≤ x - a := by
        rw [mem_wordsOf] at hx
        rcases Nat.eq_zero_or_pos bs.length with h0 | h0
        · omega
        · by_contra hc; exact hx ⟨by omega, by omega, by omega⟩
      simp [hx, List.getElem?_eq_none this]
    · simp [ha]

/-! Numbers as bytes -/

@[simp] theorem length_leBytes (n v : Nat) : (leBytes n v).length = n := by
  induction n generalizing v with
  | zero => rfl
  | succ n ih => rw [leBytes, List.length_cons, ih]

theorem leNat_leBytes (n v : Nat) : leNat (leBytes n v) = v % 2 ^ (8 * n) := by
  induction n generalizing v with
  | zero => simp [leBytes, leNat, Nat.mod_one]
  | succ n ih =>
    rw [leBytes, leNat, ih, BitVec.toNat_ofNat, show 8 * (n + 1) = 8 + 8 * n by ring, Nat.pow_add, Nat.mod_mul]

theorem leNat_lt (l : List Byte) : leNat l < 2 ^ (8 * l.length) := by
  induction l with
  | nil => simp [leNat]
  | cons b l ih =>
    have hb := b.isLt
    rw [leNat, List.length_cons, show 8 * (l.length + 1) = 8 * l.length + 8 by ring, Nat.pow_add]
    omega

/-! Bytes after a store -/

theorem ramBytes_eq (s : State) (k a n : Nat) : ramBytes s k a n = (List.range n).map fun i => memByte s k (a + i) := rfl

@[simp] theorem length_ramBytes (s : State) (k a n : Nat) : (ramBytes s k a n).length = n := by simp [ramBytes_eq]

theorem getElem?_ramBytes (s : State) {k a n i : Nat} (h : i < n) : (ramBytes s k a n)[i]? = some (memByte s k (a + i)) := by
  simp [ramBytes_eq, h]

theorem ramBytes_congr {s t : State} {k a n : Nat} (h : ∀ i, i < n → memByte t k (a + i) = memByte s k (a + i)) :
    ramBytes t k a n = ramBytes s k a n :=
  List.map_congr_left fun i hi => h i (List.mem_range.1 hi)

section
variable {s t : State} {k a : Nat} {bs : List Byte} (h : Stored s t k a (bs.map some))
include h

theorem Stored.get {x : Nat} {b : Byte} (ha : a ≤ x) (hb : bs[x - a]? = some b) : memByte t k x = b := by
  simp [h.byte, ha, hb]

theorem Stored.out {j x : Nat} (hx : ¬ (k = j ∧ a ≤ x ∧ x < a + bs.length)) : memByte t j x = memByte s j x := by
  rw [h.byte]
  split
  · rename_i hj
    rw [List.getElem?_eq_none (by simp; omega)]; rfl
  · rfl

theorem Stored.keeps : keepsMem s t [(k, a, bs.length)] := fun _ _ hx => h.out (hx _ List.mem_cons_self)

theorem Stored.read : ramBytes t k a bs.length = bs := by
  apply List.ext_getElem?
  intro i
  by_cases hi : i < bs.length
  · rw [getElem?_ramBytes t hi, List.getElem?_eq_getElem hi]
    exact congrArg some (h.get (by omega) (by simp [hi]))
  · rw [List.getElem?_eq_none (by simp; omega), List.getElem?_eq_none (by omega)]

end

theorem keepsMem_refl (s : State) (l : List (Nat × Nat × Nat)) : keepsMem s s l := fun _ _ _ => rfl

theorem keepsMem.trans {s t u : State} {l : List (Nat × Nat × Nat)} (h : keepsMem s t l) (h' : keepsMem t u l) : keepsMem s u l :=
  fun k a hx => (h' k a hx).trans (h k a hx)

theorem keepsMem.mono {s t : State} {l l' : List (Nat × Nat × Nat)} (h : keepsMem s t l) (hl : l ⊆ l') : keepsMem s t l' :=
  fun k a hx => h k a fun r hr => hx r (hl hr)

/-! Fields of a channel's context (R123, R129) -/

/-- First byte of a field in its slot. -/
def fieldStart (x : CtxF) : Nat := slotOff x.off + fieldFirst x

/-- Two fields share no byte. -/
def apart (x y : CtxF) : Bool :=
  decide (fieldStart x + fieldBytes x ≤ fieldStart y) || decide (fieldStart y + fieldBytes y ≤ fieldStart x)

theorem apart_iff {x y : CtxF} : apart x y = true ↔
    fieldStart x + fieldBytes x ≤ fieldStart y ∨ fieldStart y + fieldBytes y ≤ fieldStart x := by
  rw [apart, Bool.or_eq_true, decide_eq_true_iff, decide_eq_true_iff]

theorem ctxAddr_first (s : State) (c : Nat) (x : CtxF) :
    ctxAddr s c x.off + fieldFirst x = 1024 * slotOf s c + fieldStart x := Nat.add_assoc ..

/-- A field of a secure half that holds whole bytes. -/
def wholeBytes (x : CtxF) : Bool := x.lo == 0 && x.len % 8 == 0 && x.len != 0

/-- The bytes that hold a field. -/
def fieldRead (s : State) (x : CtxF) (c : Nat) : List Byte := ramBytes s ctxCtl (ctxAddr s c x.off + fieldFirst x) (fieldBytes x)

theorem ctx_eq (s : State) (x : CtxF) (c : Nat) : ctx s x c = bitsOf (leNat (fieldRead s x c)) (x.lo % 8) x.len := rfl

theorem ctxBytes_eq {x : CtxF} (hx : wholeBytes x = true) (s : State) (c : Nat) : ctxBytes s x c = fieldRead s x c := by
  obtain ⟨⟨h0, h8⟩, hl⟩ := by simpa [wholeBytes] using hx
  have hf : fieldFirst x = 0 := by simp [fieldFirst, h0]
  have hb : fieldBytes x = x.len / 8 := by simp only [fieldBytes, h0]; omega
  rw [ctxBytes, fieldRead, hf, hb, Nat.add_zero]

/-- Nothing but the listed fields of a channel's context differs, beside valid bits and the tables of controllers. -/
structure ctxOnly (s t : State) (c : Nat) (fs : List CtxF) : Prop where
  frame : onlyRams s t
  keeps : keepsCtx s t c fs

theorem onlyRams.fieldRange {s t : State} (h : onlyRams s t) (c : Nat) : fieldRange t c = fieldRange s c :=
  funext fun x => by unfold Sys2Proof.Machine.fieldRange; rw [h.ctxAddr]

section
variable {s t u : State} {c : Nat} {fs gs : List CtxF} (h : ctxOnly s t c fs)
include h

theorem ctxOnly.trans (h' : ctxOnly t u c fs) : ctxOnly s u c fs := by
  refine ⟨h.frame.trans h'.frame, h.keeps.trans ?_⟩
  have := h'.keeps
  rwa [keepsCtx, h.frame.fieldRange] at this

theorem ctxOnly.mono (hl : fs ⊆ gs) : ctxOnly s t c gs := ⟨h.frame, h.keeps.mono (List.map_subset _ hl)⟩

/-- A field that shares no byte with those written reads as before. -/
theorem ctxOnly.fieldRead {x : CtxF} (hx : fs.all (apart x) = true) : fieldRead t x c = fieldRead s x c := by
  unfold Sys2Proof.Machine.fieldRead
  rw [h.frame.ctxAddr]
  refine ramBytes_congr fun i hi => h.keeps _ _ fun r hr hc => ?_
  obtain ⟨y, hy, rfl⟩ := List.mem_map.1 hr
  have hxy := List.all_eq_true.1 hx y hy
  rw [apart_iff] at hxy
  have hc : ctxAddr s c y.off + fieldFirst y ≤ _ ∧ _ < ctxAddr s c y.off + fieldFirst y + fieldBytes y := hc.2
  rw [ctxAddr_first, ctxAddr_first] at hc
  omega

theorem ctxOnly.ctx {x : CtxF} (hx : fs.all (apart x) = true) : ctx t x c = ctx s x c := by rw [ctx_eq, ctx_eq, h.fieldRead hx]

theorem ctxOnly.ctxBytes {x : CtxF} (hw : wholeBytes x = true) (hx : fs.all (apart x) = true) :
    ctxBytes t x c = ctxBytes s x c := by rw [ctxBytes_eq hw, ctxBytes_eq hw, h.fieldRead hx]

end

theorem ctxAddr_add (s : State) (c : Nat) {w : Nat} (i : Nat) (h : 0x200 ≤ w) : ctxAddr s c (w + i) = ctxAddr s c w + i := by
  unfold ctxAddr slotOff
  generalize slotOf s c = n
  omega

/-- A plain write of context bytes stores them. -/
theorem ctxWriteBytes_quiet {s : State} (h : memQuiet s ctxCtl) (c w : Nat) (bs : List (Option Byte)) (code : Nat) :
    Stored s (ctxWriteBytes s c w bs code) ctxCtl (ctxAddr s c w) bs := by
  obtain ⟨h1, h2⟩ := memWrite_quiet h (ctxAddr s c w) bs code
  unfold ctxWriteBytes
  simp only [h1]
  exact h2

/-- Bytes stored at the place of a field: it reads as them, and no other field differs. -/
theorem Stored.field {s t : State} {c : Nat} {x : CtxF} {bs : List Byte}
    (h : Stored s t ctxCtl (ctxAddr s c x.off + fieldFirst x) (bs.map some)) (hl : bs.length = fieldBytes x) :
    fieldRead t x c = bs ∧ ctxOnly s t c [x] := by
  refine ⟨?_, h.frame, ?_⟩
  · unfold fieldRead; rw [h.frame.ctxAddr, ← hl]; exact h.read
  · have := h.keeps
    rwa [hl] at this

theorem ctxWriteBytes_field {s : State} (h : memQuiet s ctxCtl) (c : Nat) {x : CtxF} (hx : wholeBytes x = true) {bs : List Byte}
    (hl : bs.length = x.len / 8) (code : Nat) :
    ctxBytes (ctxWriteBytes s c x.off (bs.map some) code) x c = bs ∧
      ctxOnly s (ctxWriteBytes s c x.off (bs.map some) code) c [x] := by
  obtain ⟨⟨h0, h8⟩, hn⟩ := by simpa [wholeBytes] using hx
  have hf : fieldFirst x = 0 := by simp [fieldFirst, h0]
  have hb : fieldBytes x = x.len / 8 := by simp only [fieldBytes, h0]; omega
  rw [ctxBytes_eq hx]
  refine Stored.field ?_ (hl.trans hb.symm)
  rw [hf, Nat.add_zero]
  exact ctxWriteBytes_quiet h ..

theorem le_fieldBytes (x : CtxF) : x.lo % 8 + x.len ≤ 8 * fieldBytes x := by
  unfold fieldBytes; omega

/-- The value of a field whose bytes took it. -/
theorem ctx_of_fieldRead {t : State} {x : CtxF} {c v old : Nat} (ho : old < 2 ^ (8 * fieldBytes x))
    (h : fieldRead t x c = leBytes (fieldBytes x) (putBits old (x.lo % 8) x.len v)) : ctx t x c = v % 2 ^ x.len := by
  rw [ctx_eq, h, leNat_leBytes, Nat.mod_eq_of_lt (putBits_lt ho (le_fieldBytes x)), bitsOf_putBits]

/-- A plain write of a field: it reads as the value written, and no other field's bytes differ. -/
theorem ctxSet_quiet {s : State} (h : memQuiet s ctxCtl) {x : CtxF} (hx : 0x200 ≤ x.off) (c v code : Nat) :
    ctx (ctxSet s x c v code) x c = v % 2 ^ x.len ∧ ctxOnly s (ctxSet s x c v code) c [x] := by
  unfold ctxSet
  extract_lets n w old
  have hs := ctxWriteBytes_quiet h c w ((leBytes n (putBits old (x.lo % 8) x.len v)).map some) code
  have ho : old < 2 ^ (8 * n) := by
    have := leNat_lt (ramBytes s ctxCtl (ctxAddr s c w) n)
    rwa [length_ramBytes] at this
  rw [show ctxAddr s c w = _ from ctxAddr_add s c _ hx] at hs
  obtain ⟨hr, hk⟩ := hs.field (length_leBytes ..)
  exact ⟨ctx_of_fieldRead ho hr, hk⟩

/-- Bytes stored over a longer place that otherwise takes what it held. -/
theorem Stored.part {s t : State} {k a i n m : Nat} {new : List Byte} (hn : new.length = n) (hm : i + n ≤ m)
    (h : Stored s t k a (((ramBytes s k a m).take i ++ new ++ (ramBytes s k a m).drop (i + n)).map some)) :
    Stored s t k (a + i) (new.map some) := by
  refine ⟨h.frame, fun j x => ?_⟩
  rw [h.byte]
  by_cases hj : j = k
  · subst hj
    by_cases ha : a ≤ x
    · obtain ⟨d, rfl⟩ := Nat.exists_eq_add_of_le ha
      have hd : a + d - a = d := by omega
      simp only [hd, ha, true_and, if_true, List.getElem?_map, List.append_assoc]
      rcases Nat.lt_or_ge d i with h1 | h1
      · rw [List.getElem?_append_left (by simp; omega), List.getElem?_take_of_lt h1, getElem?_ramBytes s (by omega),
          if_neg (by omega)]
        rfl
      · rw [List.getElem?_append_right (by simp; omega), if_pos (by omega), List.length_take, length_ramBytes,
          Nat.min_eq_left (by omega), show a + d - (a + i) = d - i by omega]
        rcases Nat.lt_or_ge (d - i) n with h2 | h2
        · rw [List.getElem?_append_left (by omega)]
        · rw [List.getElem?_append_right (by omega), List.getElem?_drop, hn, show i + n + (d - i - n) = d by omega,
            List.getElem?_eq_none (show new.length ≤ d - i by omega)]
          rcases Nat.lt_or_ge d m with h3 | h3
          · rw [getElem?_ramBytes s h3]; rfl
          · rw [List.getElem?_eq_none (by simpa using h3)]
    · rw [if_neg (by omega), if_neg (by omega)]
  · rw [if_neg (by tauto), if_neg (by tauto)]

/-- A plain write of a field with its word: as a write of the field alone. -/
theorem ctxWhole_quiet {s : State} (h : memQuiet s ctxCtl) {x : CtxF} (hx : 0x200 ≤ x.off)
    (hw : (x.off + fieldFirst x) % 8 + fieldBytes x ≤ 8) (c v : Nat) :
    ctx (ctxWhole s x c v) x c = v % 2 ^ x.len ∧ ctxOnly s (ctxWhole s x c v) c [x] := by
  unfold ctxWhole
  extract_lets w n old i new
  have hs := ctxWriteBytes_quiet h c w ((old.take i ++ new ++ old.drop (i + n)).map some) codeSilo
  have hi : i + n ≤ 8 := by omega
  have ho : leNat (sliceAt old i n) < 2 ^ (8 * n) := by
    have := leNat_lt (sliceAt old i n)
    rwa [show (sliceAt old i n).length = n by simp [sliceAt]] at this
  have hp := hs.part (length_leBytes ..) hi
  rw [show ctxAddr s c w + i = ctxAddr s c x.off + fieldFirst x by
    rw [← ctxAddr_add s c _ hx, ← ctxAddr_add s c _ (by omega)]; exact congrArg _ (by omega)] at hp
  obtain ⟨hr, hk⟩ := hp.field (length_leBytes ..)
  exact ⟨ctx_of_fieldRead ho hr, hk⟩

end Sys2Proof.Machine
end

section
/-! Units leave and holds end: transmit slots, key slots, deliveries and the flush of counters (O24). -/

namespace Sys2Proof.Machine

/-! Key slots of a channel: their VALID bits and their material (R139, R141, R397) -/

/-- The fields of a slot's material as the Silo key path writes them: keys of 32 bytes, epoch and salt each inside one word, and
no byte shared. -/
def slotLayout (key aux epoch salt : CtxF) : Bool :=
  [key, aux].all (fun x => wholeBytes x && x.len == 256 && decide (0x200 ≤ x.off)) &&
  [epoch, salt].all (fun x => decide (0x200 ≤ x.off) && decide ((x.off + fieldFirst x) % 8 + fieldBytes x ≤ 8)) &&
  [aux, epoch, salt].all (apart key) && [epoch, salt].all (apart aux) && [salt].all (apart epoch)

theorem slotLayout_eg (k : Nat) : slotLayout (egKey k) (egAux k) (egEpoch k) (egSalt k) = true := by
  unfold egKey egAux egEpoch egSalt
  split <;> decide

/-- The material of a slot shares no byte with the VALID bits. -/
theorem apart_valid (k : Nat) : [egKey k, egAux k, egEpoch k, egSalt k].all (apart Ctx.VALID) = true := by
  unfold egKey egAux egEpoch egSalt
  split <;> decide

/-- A slot whose material is written. -/
theorem putSlot_quiet {s : State} (h : memQuiet s ctxCtl) {key aux epoch salt : CtxF}
    (hl : slotLayout key aux epoch salt = true) (c : Nat) {k x : List Byte} (hk : k.length = 32) (hx : x.length = 32) (e n : Nat) :
    let t := putSlot s c key aux epoch salt k x e n
    ctxOnly s t c [key, aux, epoch, salt] ∧ ctxBytes t key c = k ∧ ctxBytes t aux c = x ∧
      ctx t epoch c = e % 2 ^ epoch.len ∧ ctx t salt c = n % 2 ^ salt.len := by
  simp only [slotLayout, List.all_cons, List.all_nil, Bool.and_true, Bool.and_eq_true, decide_eq_true_eq, beq_iff_eq] at hl
  obtain ⟨⟨⟨⟨⟨⟨⟨wk, lk⟩, ok⟩, ⟨wx, lx⟩, ox⟩, ⟨oe, we⟩, on, wn⟩, kx, ke, kn⟩, xe, xn⟩, en⟩ := hl
  unfold putSlot
  extract_lets s1 s2 t
  obtain ⟨r1, o1⟩ := ctxWriteBytes_field h c wk (bs := k) (by rw [hk, lk]) codeSilo
  have q1 := o1.frame.quiet h
  obtain ⟨r2, o2⟩ := ctxWriteBytes_field q1 c wx (bs := x) (by rw [hx, lx]) codeSilo
  have q2 := o2.frame.quiet q1
  obtain ⟨r3, o3⟩ := ctxWhole_quiet q2 oe we c e
  have q3 := o3.frame.quiet q2
  obtain ⟨r4, o4⟩ := ctxWhole_quiet q3 on wn c n
  refine ⟨((o1.mono ?_).trans <| (o2.mono ?_).trans <| (o3.mono ?_).trans (o4.mono ?_)), ?_, ?_, ?_, r4⟩
  any_goals simp
  · exact (o4.ctxBytes wk (by simp [kn])).trans <| (o3.ctxBytes wk (by simp [ke])).trans <|
      (o2.ctxBytes wk (by simp [kx])).trans r1
  · exact (o4.ctxBytes wx (by simp [xn])).trans <| (o3.ctxBytes wx (by simp [xe])).trans r2
  · exact (o4.ctx (by simp [en])).trans r3

/-- Zeroed material of an egress slot. -/
theorem zeroEgSlot_quiet {s : State} (h : memQuiet s ctxCtl) (c k : Nat) :
    let t := zeroEgSlot s c k
    ctxOnly s t c [egKey k, egAux k, egEpoch k, egSalt k] ∧ ctxBytes t (egKey k) c = zeros 32 ∧
      ctxBytes t (egAux k) c = zeros 32 ∧ ctx t (egEpoch k) c = 0 ∧ ctx t (egSalt k) c = 0 := by
  obtain ⟨ho, hk, hx, he, hn⟩ := putSlot_quiet h (slotLayout_eg k) c (k := zeros 32) (x := zeros 32) rfl rfl 0 0
  exact ⟨ho, hk, hx, he.trans (Nat.zero_mod _), hn.trans (Nat.zero_mod _)⟩

theorem setEgValid_quiet {s : State} (h : memQuiet s ctxCtl) (c k : Nat) (b : Bool) (code : Nat) :
    ctx (setEgValid s c k b code) Ctx.VALID c = putBits (ctx s Ctx.VALID c) k 1 (b2n b) % 4 ∧
      ctxOnly s (setEgValid s c k b code) c [Ctx.VALID] := ctxSet_quiet h (by decide) c _ code

theorem setInValid_quiet {s : State} (h : memQuiet s ctxCtl) (c k : Nat) (b : Bool) (code : Nat) :
    ctx (setInValid s c k b code) Ctx.IN_VALID c = putBits (ctx s Ctx.IN_VALID c) k 1 (b2n b) % 8 ∧
      ctxOnly s (setInValid s c k b code) c [Ctx.IN_VALID] := ctxSet_quiet h (by decide) c _ code

/-- A VALID bit that was cleared is clear. -/
theorem bitAt_cleared (v k n : Nat) : bitAt (putBits v k 1 (b2n false) % 2 ^ n) k = false := by
  rw [bitAt, Nat.testBit_mod_two_pow, testBit_putBits, if_pos (by omega)]
  simp [b2n]

theorem egValid_of_clear {s : State} {c k : Nat} (h : bitAt (ctx s Ctx.VALID c) k = false) : egValid s c k = false := by
  simp [egValid, h]

theorem inValid_of_clear {s : State} {c k : Nat} (h : bitAt (ctx s Ctx.IN_VALID c) k = false) : inValid s c k = false := by
  simp [inValid, h]

theorem releaseOld_none {s : State} {c : Nat} (h : (s.key c).old = none) : releaseOld s c = s := by
  unfold releaseOld
  rw [h]
  cases (s.key c).root <;> rfl

/-! Transmit slots that leave, and emission (R30, R286) -/

theorem leaveSlots_engs (us : List TxUnit) (s : State) : leaveSlots s us = { s with engs := (leaveSlots s us).engs } := by
  induction us generalizing s with
  | nil => rfl
  | cons u us ih => exact (ih _).trans rfl

theorem leaveSlots_eng (us : List TxUnit) {s : State} {e : Nat} (h : ∀ x ∈ us, x.eng ≠ e) :
    (leaveSlots s us).eng e = s.eng e := by
  induction us generalizing s with
  | nil => rfl
  | cons u us ih =>
    have hu := h u List.mem_cons_self
    refine (ih fun x hx => h x (List.mem_cons_of_mem _ hx)).trans ?_
    rw [State.eng_updEng, if_neg (Ne.symm hu)]

theorem leaveSlots_one (s : State) (u : TxUnit) : (leaveSlots s [u]).eng u.eng = (s.eng u.eng).takeBack u.tslot :=
  State.eng_updEng_self (g := fun x => x.takeBack u.tslot)

/-- A unit that no loop turns back leaves on the line. -/
theorem emitUnit_sent {s : State} {p : Nat} (h : s.f PORT_CTL.LPBK p = 0) (u : TxUnit) :
    emitUnit s p u = (s.emit (.line p (u.bytes ++ Crypto.fcs u.bytes))).inc .PORT_TX_FRAMES p := by
  simp only [emitUnit, h]

theorem State.port_setPort (s : State) (p q : Nat) (v : PortSt) : (s.setPort p v).port q = if q = p then v else s.port q :=
  SMap.get_set

@[simp] theorem State.port_setPort_self (s : State) (p : Nat) (v : PortSt) : (s.setPort p v).port p = v := SMap.get_set_self

theorem State.port_setPort_ne (s : State) {p q : Nat} (v : PortSt) (h : q ≠ p) : (s.setPort p v).port q = s.port q :=
  SMap.get_set_ne h

theorem State.chan_setChan (s : State) (c d : Nat) (v : Chan) : (s.setChan c v).chan d = if d = c then v else s.chan d :=
  SMap.get_set

@[simp] theorem State.chan_setChan_self (s : State) (c : Nat) (v : Chan) : (s.setChan c v).chan c = v := SMap.get_set_self

theorem keepsChans_setChan (s : State) (c : Nat) (v : Chan) : keepsChans s (s.setChan c v) c := fun _ h => SMap.get_set_ne h

theorem chan_of_chans {s t : State} (h : t.chans = s.chans) (c : Nat) : t.chan c = s.chan c := congrArg (SMap.get _ · c) h

/-- REORDER_EMIT with nothing but discarded slots ahead. -/
theorem reorderEmit_nothing {s : State} {p : Fin 64} (hs : lineSends s p = true)
    (hd : (s.port p).slots.dropWhile (·.discarded) = []) :
    exec (.reorderEmit p) s =
      .next (leaveSlots (s.setPort p { s.port p with slots := [] }) ((s.port p).slots.takeWhile (·.discarded))) := by
  show execReorderEmit p s = _
  simp only [execReorderEmit, hs, hd, Bool.not_true, Bool.false_eq_true, if_false]

/-- REORDER_EMIT with a unit to send. -/
theorem reorderEmit_unit {s : State} {p : Fin 64} (hs : lineSends s p = true) {u : TxUnit} {rest : List TxUnit}
    (hd : (s.port p).slots.dropWhile (·.discarded) = u :: rest) :
    exec (.reorderEmit p) s = .next (emitUnit (leaveSlots (s.setPort p { s.port p with slots := rest })
      ((s.port p).slots.takeWhile (·.discarded) ++ [u])) p u) := by
  show execReorderEmit p s = _
  simp only [execReorderEmit, hs, hd, Bool.not_true, Bool.false_eq_true, if_false]

theorem leaveSlots_port (s : State) (us : List TxUnit) (p : Nat) : (leaveSlots s us).port p = s.port p := by
  rw [leaveSlots_engs]; rfl

/-- A switch's old slot loses its key (R141). -/
theorem retireSlot_quiet {s : State} {c : Nat} (hr : (s.chan c).retiring = true) (ho : (s.key c).old = none)
    (h : memQuiet s ctxCtl) :
    let k := egNext s c
    let t := retireSlot s c
    t.chan c = { s.chan c with retiring := false } ∧ keepsChans s t c ∧ egValid t c k = false ∧
      ctxBytes t (egKey k) c = zeros 32 ∧ ctxBytes t (egAux k) c = zeros 32 ∧ ctx t (egEpoch k) c = 0 ∧
      ctx t (egSalt k) c = 0 ∧ keepsCtx s t c [Ctx.VALID, egKey k, egAux k, egEpoch k, egSalt k] ∧
      t = { s with chans := t.chans, rams := t.rams, valid := t.valid, memCtl := t.memCtl } := by
  unfold retireSlot
  rw [if_pos hr]
  extract_lets k s1 src s2 t
  obtain ⟨hv, o1⟩ := setEgValid_quiet h c k false codeData
  have q2 : memQuiet s2 ctxCtl := o1.frame.quiet h
  obtain ⟨o2, hk, hx, he, hn⟩ := zeroEgSlot_quiet q2 c k
  have hold : ((zeroEgSlot s2 c k).key c).old = none := by
    rw [State.key, o2.frame.keys, State.setChan_keys, o1.frame.keys]
    exact ho
  have ht : t = zeroEgSlot s2 c k := releaseOld_none hold
  have hch : t.chans = s2.chans := ht ▸ o2.frame.chans
  have hs1 : s1.chans = s.chans := o1.frame.chans
  have hvalid : bitAt (ctx t Ctx.VALID c) k = false := by
    rw [ht, o2.ctx (by exact apart_valid k), show ctx s2 Ctx.VALID c = ctx s1 Ctx.VALID c from rfl, hv]
    exact bitAt_cleared _ _ 2
  refine ⟨?_, ?_, egValid_of_clear hvalid, ht ▸ hk, ht ▸ hx, ht ▸ he, ht ▸ hn, ?_, ?_⟩
  · refine (chan_of_chans hch c).trans ((State.chan_setChan_self ..).trans ?_)
    show { s1.chan c with retiring := false } = _
    rw [chan_of_chans hs1]
  · intro d hd
    exact (chan_of_chans hch d).trans <| (keepsChans_setChan s1 c _ d hd).trans (chan_of_chans hs1 d)
  · have k1 : keepsCtx s s2 c [Ctx.VALID] := o1.keeps
    have k2 : keepsCtx s2 t c [egKey k, egAux k, egEpoch k, egSalt k] := ht ▸ o2.keeps
    have hr : fieldRange s2 c = fieldRange s c := o1.frame.fieldRange c
    rw [keepsCtx, hr] at k2
    exact (k1.mono (by simp)).trans (k2.mono (by simp))
  · have f1 := o1.frame
    have f2 := o2.frame
    rw [← ht] at f2
    calc t = { s2 with rams := t.rams, valid := t.valid, memCtl := t.memCtl } := f2
      _ = { s1 with chans := s2.chans, rams := t.rams, valid := t.valid, memCtl := t.memCtl } := rfl
      _ = { s with chans := s2.chans, rams := t.rams, valid := t.valid, memCtl := t.memCtl } := by
        rw [show s1 = _ from f1]
      _ = _ := by rw [hch]

/-! The hold of the previous slot ends (R143) -/

theorem prevHoldExpiry_quiet {s : State} {c : Fin 16384} (hl : ctxBit s Ctx.PREV_LIVE c = true)
    (ho : (s.key c).old = none) (h : memQuiet s ctxCtl) :
    ∃ t, exec (.prevHoldExpiry c) s = .next t ∧ inValid t c (inPrev s c) = false ∧ ctxBit t Ctx.PREV_LIVE c = false ∧
      ctxOnly s t c [Ctx.IN_VALID, Ctx.PREV_LIVE] := by
  obtain ⟨hv, o1⟩ := setInValid_quiet h c (inPrev s c) false codeData
  obtain ⟨hp, o2⟩ := ctxSet_quiet (x := Ctx.PREV_LIVE) (o1.frame.quiet h) (by decide) c 0 codeData
  refine ⟨ctxD (setInValid s c (inPrev s c) false codeData) Ctx.PREV_LIVE c 0, ?_, inValid_of_clear ?_, ?_,
    (o1.mono (by simp)).trans (o2.mono (by simp))⟩
  · show execPrevHoldExpiry c s = _
    rw [execPrevHoldExpiry, if_pos hl, releaseOld_none]
    rw [State.key, ctxD, o2.frame.keys, o1.frame.keys]
    exact ho
  · rw [ctxD, o2.ctx (by decide), hv]
    exact bitAt_cleared _ _ 3
  · rw [ctxBit, ctxD, hp]; rfl

/-! The counts that the engines hold reach the context (R24, R164) -/

/-- The engines hold nothing more for one counter of a channel. -/
def dropHeld (s : State) (c i : Nat) : State := { s with cntPend := SMap.set (fun _ => 0) s.cntPend (16 * c + i) 0 }

/-- What a flush does with one counter of a channel. -/
def flushOne (s : State) (c i : Nat) : State :=
  let n := pends s c i
  if n = 0 then s
  else
    let s := ctxLook (dropHeld s c i) c (chCounter i).off 8
    if ctxPoisoned s (chCounter i) c then s else ctxD s (chCounter i) c (satAdd 64 (ctx s (chCounter i) c) n)

theorem flushCounters_eq (s : State) (c : Nat) : flushCounters s c = (List.range 16).foldl (fun s i => flushOne s c i) s := rfl

/-- Some counters of a channel took what was held for them, and nothing else differs. -/
structure Flushed (s t : State) (c : Nat) (l : List Nat) : Prop where
  frame : t = { s with rams := t.rams, valid := t.valid, memCtl := t.memCtl, cntPend := t.cntPend }
  keeps : keepsCtx s t c (l.map chCounter)
  held : ∀ i ∈ l, pends t c i = 0
  others : ∀ d i, i < 16 → ¬ (d = c ∧ i ∈ l) → pends t d i = pends s d i
  count : ∀ i ∈ l, ctx t (chCounter i) c = satAdd 64 (ctx s (chCounter i) c) (pends s c i)

theorem ctxLook_clean {s : State} (h : noErrors s) (c w n : Nat) : ctxLook s c w n = s := by rw [ctxLook, h]; rfl

theorem ctxPoisoned_clean {s : State} (h : noErrors s) (x : CtxF) (c : Nat) : ctxPoisoned s x c = false :=
  List.any_eq_false.2 fun w _ => Bool.eq_false_iff.1 (poisoned_clean h ctxCtl w)

theorem satAdd_lt (a n : Nat) : satAdd 64 a n < 2 ^ 64 := by unfold satAdd; omega

theorem ctx_lt (s : State) (x : CtxF) (c : Nat) : ctx s x c < 2 ^ x.len := bitsOf_lt ..

theorem chCounter_off (i : Nat) : 0x200 ≤ (chCounter i).off := by
  simp only [chCounter]; split <;> omega

theorem chCounter_len (i : Nat) : (chCounter i).len = 64 := rfl

theorem fieldStart_eq {x : CtxF} (h : fieldFirst x = 0) : fieldStart x = x.off - 0x200 := by
  unfold fieldStart slotOff
  rw [h, Nat.add_zero]

/-- Different counters of a channel share no byte. -/
theorem apart_chCounter {i j : Nat} (hi : i < 16) (hj : j < 16) (h : i ≠ j) : apart (chCounter i) (chCounter j) = true := by
  have hb : ∀ k, fieldBytes (chCounter k) = 8 := fun _ => (show (0 + 64 - 1) / 8 - 0 / 8 + 1 = 8 by decide)
  have hs : ∀ k, fieldStart (chCounter k) = (chCounter k).off - 0x200 := fun _ => fieldStart_eq (Nat.zero_div 8)
  have ho : ∀ k, (chCounter k).off = if k < 8 then 0x340 + 8 * k else 0x540 + 8 * (k - 8) := fun _ => rfl
  rw [apart_iff, hb, hb, hs, hs, ho, ho]
  split <;> split <;> omega

theorem flushOne_quiet {s : State} (h : memQuiet s ctxCtl) (c : Nat) {i : Nat} (hi : i < 16) :
    Flushed s (flushOne s c i) c [i] := by
  unfold flushOne
  extract_lets n u
  split
  · next hn =>
    refine ⟨rfl, keepsMem_refl s _, fun j hj => ?_, fun _ _ _ _ => rfl, fun j hj => ?_⟩
    · rw [List.mem_singleton.1 hj]; exact hn
    · rw [List.mem_singleton.1 hj, show pends s c i = 0 from hn]
      have := ctx_lt s (chCounter i) c
      rw [chCounter_len] at this
      unfold satAdd
      omega
  · have q : memQuiet (dropHeld s c i) ctxCtl := h
    have hu : u = dropHeld s c i := ctxLook_clean q.1 ..
    rw [hu, if_neg (by rw [ctxPoisoned_clean q.1]; decide)]
    obtain ⟨hv, o⟩ := ctxSet_quiet q (x := chCounter i) (chCounter_off i) c
      (satAdd 64 (ctx (dropHeld s c i) (chCounter i) c) n) codeData
    unfold ctxD
    revert hv o
    generalize ctxSet (dropHeld s c i) (chCounter i) c _ codeData = t
    intro hv o
    have hp : ∀ d j, pends t d j = if 16 * d + j = 16 * c + i then 0 else pends s d j := fun d j => by
      simp only [pends, o.frame.cntPend, dropHeld, SMap.get_set]
    refine ⟨?_, o.keeps, fun j hj => ?_, fun d j hj hne => ?_, fun j hj => ?_⟩
    · have f := o.frame
      rw [onlyRams] at f
      calc t = { dropHeld s c i with rams := t.rams, valid := t.valid, memCtl := t.memCtl } := f
        _ = { s with rams := t.rams, valid := t.valid, memCtl := t.memCtl, cntPend := (dropHeld s c i).cntPend } := rfl
        _ = _ := by rw [o.frame.cntPend]
    · rw [List.mem_singleton.1 hj, hp, if_pos rfl]
    · rw [hp, if_neg]
      intro he
      exact hne ⟨by omega, List.mem_singleton.2 (by omega)⟩
    · rw [List.mem_singleton.1 hj]
      exact hv.trans (Nat.mod_eq_of_lt (satAdd_lt ..))

theorem Flushed.slotOf {s t : State} {c : Nat} {l : List Nat} (h : Flushed s t c l) (d : Nat) : slotOf t d = slotOf s d := by
  rw [h.frame]; rfl

/-- A counter that a flush does not reach reads as before. -/
theorem Flushed.ctx {s t : State} {c : Nat} {l : List Nat} (h : Flushed s t c l) {x : CtxF}
    (hx : (l.map chCounter).all (apart x) = true) : ctx t x c = ctx s x c := by
  have o : ctxOnly { s with cntPend := t.cntPend } t c (l.map chCounter) := ⟨h.frame, h.keeps⟩
  exact o.ctx hx

theorem Flushed.trans {s t u : State} {c i : Nat} {l : List Nat} (hi : i < 16) (hl : ∀ j ∈ l, j < 16) (hn : i ∉ l)
    (h : Flushed s t c [i]) (h' : Flushed t u c l) : Flushed s u c (i :: l) := by
  refine ⟨?_, ?_, fun j hj => ?_, fun d j hj hne => ?_, fun j hj => ?_⟩
  · rw [h'.frame, h.frame]
  · have k2 := h'.keeps
    have hr : fieldRange t c = fieldRange s c := funext fun x => by
      unfold fieldRange ctxAddr; rw [h.slotOf]
    rw [keepsCtx, hr] at k2
    exact (keepsMem.mono h.keeps (by simp)).trans (k2.mono (by simp))
  · rcases List.mem_cons.1 hj with rfl | hj
    · rw [h'.others _ _ hi (by tauto), h.held _ List.mem_cons_self]
    · exact h'.held j hj
  · rw [h'.others _ _ hj fun hd => hne ⟨hd.1, List.mem_cons_of_mem _ hd.2⟩,
      h.others _ _ hj fun hd => hne ⟨hd.1, List.mem_cons.2 (.inl (List.mem_singleton.1 hd.2))⟩]
  · rcases List.mem_cons.1 hj with rfl | hj
    · rw [h'.ctx, h.count _ List.mem_cons_self]
      rw [List.all_map, List.all_eq_true]
      exact fun k hk => apart_chCounter hi (hl k hk) fun e => hn (e ▸ hk)
    · have hji : j ≠ i := fun e => hn (e ▸ hj)
      rw [h'.count j hj, h.ctx, h.others _ _ (hl j hj) (by simpa using hji)]
      simpa using apart_chCounter (hl j hj) hi hji

theorem flushList_quiet {s : State} (h : memQuiet s ctxCtl) (c : Nat) (l : List Nat) (hl : ∀ i ∈ l, i < 16) (hn : l.Nodup) :
    Flushed s (l.foldl (fun s i => flushOne s c i) s) c l := by
  induction l generalizing s with
  | nil =>
    exact ⟨rfl, keepsMem_refl s _, fun _ hi => absurd hi List.not_mem_nil, fun _ _ _ _ => rfl,
      fun _ hi => absurd hi List.not_mem_nil⟩
  | cons i l ih =>
    have hi := hl i List.mem_cons_self
    have f := flushOne_quiet h c hi
    have hq : memQuiet (flushOne s c i) ctxCtl := by
      rw [f.frame]; exact h
    exact f.trans hi (fun j hj => hl j (List.mem_cons_of_mem _ hj)) (List.nodup_cons.1 hn).1
      (ih hq (fun j hj => hl j (List.mem_cons_of_mem _ hj)) (List.nodup_cons.1 hn).2)

/-- A flush of a channel's counters. -/
theorem flushCounters_quiet {s : State} (h : memQuiet s ctxCtl) (c : Nat) : Flushed s (flushCounters s c) c (List.range 16) := by
  rw [flushCounters_eq]
  exact flushList_quiet h c _ (fun i hi => List.mem_range.1 hi) List.nodup_range

/-! Reads of buffer memory -/

/-- What the note of a read leaves beside the tables of memory: the cells, the errors of the words and the count of discards. -/
structure Noted (s t : State) : Prop where
  mem : memOnly s t
  rams : t.rams = s.rams
  flips : ∀ k w, (wordErr t k w).flips = (wordErr s k w).flips
  discards : ∀ i, t.cnt .MEM_DP_DISCARD i = s.cnt .MEM_DP_DISCARD i

theorem noted_refl (s : State) : Noted s s := ⟨memOnly_refl s, rfl, fun _ _ => rfl, fun _ => rfl⟩

theorem Noted.trans {s t u : State} (h : Noted s t) (h' : Noted t u) : Noted s u :=
  ⟨h.mem.trans h'.mem, h'.rams.trans h.rams, fun k w => (h'.flips k w).trans (h.flips k w),
    fun i => (h'.discards i).trans (h.discards i)⟩

theorem noted_of_eq {s t : State} (h : memOnly s t) (hr : t.rams = s.rams) (he : t.errs = s.errs) (hc : t.cnts = s.cnts) :
    Noted s t := ⟨h, hr, fun k w => by rw [wordErr, he]; rfl, fun i => by rw [State.cnt, hc]; rfl⟩

theorem noted_setReg {r : Reg} (hr : r.info.blk = .MEM) (s : State) (i : Nat) (v : Word) : Noted s (s.setReg r i v) :=
  noted_of_eq (memOnly_setReg hr ..) rfl rfl rfl

theorem noted_setF {x : Fld} (hx : x.reg.info.blk = .MEM) (s : State) (i v : Nat) : Noted s (s.setF x i v) :=
  noted_of_eq (memOnly_setF hx ..) rfl rfl rfl

theorem noted_raise {x : Fld} (hx : x.reg.info.blk = .MEM) (s : State) (i : Nat) : Noted s (s.raise x i) :=
  noted_of_eq (memOnly_raise hx ..) rfl rfl rfl

theorem noted_setMemc (s : State) (k : Nat) (v : MemCtl) : Noted s (s.setMemc k v) :=
  noted_of_eq (memOnly_setMemc ..) rfl rfl rfl

theorem noted_inc {c : Ctr} (hc : c.info.1 = .MEM) (hd : c ≠ .MEM_DP_DISCARD) (s : State) (i : Nat) : Noted s (s.inc c i) :=
  ⟨memOnly_inc hc .., rfl, fun _ _ => rfl, fun _ => State.cnt_inc_ne fun h => hd h.1.symm⟩

/-- A word whose copies agree again keeps its wrong bits. -/
theorem noted_setWordErr (s : State) (k w : Nat) (e : WordErr) (he : e.flips = (wordErr s k w).flips) :
    Noted s (setWordErr s k w e) := by
  refine ⟨memOnly_setWordErr .., rfl, fun j x => ?_, fun _ => rfl⟩
  simp only [wordErr, setWordErr, SMap.get_set]
  split
  · next h => rw [h]; exact he
  · rfl

theorem noted_appendLog (s : State) (k : Nat) (e : LogEnt) : Noted s (appendLog s k e) := by
  unfold appendLog
  extract_lets t c
  have ht : Noted s t := by
    unfold t
    split
    · exact noted_refl s
    · exact (noted_setReg rfl ..).trans <| (noted_setReg rfl ..).trans <| (noted_setReg rfl ..).trans <| noted_setReg rfl ..
  split
  · exact ht.trans (noted_setMemc ..)
  · exact ht.trans <| (noted_setF rfl ..).trans <| (noted_setF rfl ..).trans <| noted_raise rfl ..

theorem noted_memLog (s : State) (k kind op : Nat) (wb : Bool) (code : Nat) (bits : List Nat) (w : Nat) :
    Noted s (memLog s k kind op wb code bits w) := noted_appendLog ..

theorem noted_memLogBad (s : State) (k kind op code w : Nat) : Noted s (memLogBad s k kind op code w) := noted_appendLog ..

theorem noted_voteRead (s : State) (k w op code : Nat) : Noted s (voteRead s k w op code) := by
  unfold voteRead
  split
  · exact (noted_setWordErr s k w { wordErr s k w with odd := none } rfl).trans (noted_memLog ..)
  · exact noted_refl s

theorem noted_trackCorrection (s : State) (k w op code : Nat) (bits : List Nat) : Noted s (trackCorrection s k w op code bits) := by
  unfold trackCorrection
  extract_lets
  split
  · exact (noted_setMemc ..).trans <| (noted_setF rfl ..).trans <| (noted_memLog ..).trans (noted_raise rfl ..)
  · exact (noted_setMemc ..).trans (noted_setF rfl ..)

theorem noted_queueWriteBack (s : State) (k w : Nat) : Noted s (queueWriteBack s k w).1 := by
  unfold queueWriteBack
  dsimp only
  split
  · exact noted_refl s
  · exact noted_setMemc ..

theorem noted_noteRead (s : State) (k w op code : Nat) : Noted s (noteRead s k w op code) := by
  unfold noteRead
  refine (noted_voteRead s k w op code).trans ?_
  dsimp only
  split
  · split
    · exact noted_refl _
    · exact (noted_queueWriteBack ..).trans <| (noted_memLog ..).trans <| (noted_inc rfl (by decide) ..).trans <|
        (noted_raise rfl ..).trans <| noted_trackCorrection ..
  · exact (noted_memLogBad ..).trans <| (noted_inc rfl (by decide) ..).trans <| noted_raise rfl ..
  · exact noted_refl _

theorem noted_memRead (s : State) (k a n op code : Nat) : Noted s (memRead s k a n op code).2.2 :=
  foldl_rel_of_step noted_refl (fun _ _ _ => Noted.trans) (fun s w => noted_noteRead s k w op code) _ _

/-- A word of the buffer or of later regions is found bad by its wrong bits, its code and its value alone. -/
theorem poisoned_congr {s t : State} {k : Nat} (w : Nat) (he : (wordErr t k w).flips = (wordErr s k w).flips)
    (hs : isStrong t k (8 * w) = isStrong s k (8 * w)) (hr : ramWord t k w = ramWord s k w) :
    poisoned t k w = poisoned s k w := by
  simp only [poisoned, readWord, he, hs, hr]

theorem isStrong_of_sheaf {s t : State} {k : Nat} (hk : 70 ≤ k) (h : t.sheaf = s.sheaf) (a : Nat) :
    isStrong t k a = isStrong s k a := by
  simp only [isStrong, bcByte, h, if_neg (show ¬ k < 70 by omega)]

theorem Noted.poisoned {s t : State} (h : Noted s t) {k : Nat} (hk : 70 ≤ k) (w : Nat) : poisoned t k w = poisoned s k w := by
  obtain ⟨⟨ht, -, -⟩, hr, hf, -⟩ := h
  refine poisoned_congr w (hf ..) (isStrong_of_sheaf hk (by rw [ht]) _) ?_
  rw [ht, hr]
  rfl

/-- What a fetch does with one run of a frame in a buffer half. -/
def fetchRun (h : Nat) (t : List Byte × Bool × State) (r : Nat × Nat) : List Byte × Bool × State :=
  let u := memRead t.2.2 (71 + h) r.1 r.2 0 codeQueue
  (t.1 ++ u.1, t.2.1 || u.2.1, u.2.2)

theorem bufFetch_eq (s : State) (f : QFrame) : bufFetch s f = f.runs.foldl (fetchRun f.half) ([], false, s) := rfl

theorem noted_fetchRun (h : Nat) (t : List Byte × Bool × State) (r : Nat × Nat) : Noted t.2.2 (fetchRun h t r).2.2 :=
  noted_memRead ..

/-- What a fetch of a frame notes. -/
theorem noted_bufFetch (s : State) (f : QFrame) : Noted s (bufFetch s f).2.2 :=
  foldl_rel_of_step (R := fun a b : List Byte × Bool × State => Noted a.2.2 b.2.2) (fun _ => noted_refl _)
    (fun _ _ _ => Noted.trans) (noted_fetchRun f.half) f.runs ([], false, s)

/-- A run of a buffer half holds a poisoned word. -/
def runBad (s : State) (h : Nat) (r : Nat × Nat) : Bool := (wordsOf r.1 r.2).any fun w => poisoned s (71 + h) w

theorem Noted.runBad {s t : State} (h : Noted s t) (k : Nat) (r : Nat × Nat) : runBad t k r = runBad s k r := by
  unfold Sys2Proof.Machine.runBad
  rw [show Sys2Proof.Machine.poisoned t (71 + k) = Sys2Proof.Machine.poisoned s (71 + k) from
    funext fun w => h.poisoned (by omega) w]

theorem fetchRuns_bad {s : State} {h : Nat} (l : List (Nat × Nat)) {t : List Byte × Bool × State} (ht : Noted s t.2.2) :
    (l.foldl (fetchRun h) t).2.1 = (t.2.1 || l.any (runBad s h)) := by
  induction l generalizing t with
  | nil => simp
  | cons r l ih =>
    rw [List.foldl_cons, ih (ht.trans (noted_fetchRun ..)), List.any_cons, ← Bool.or_assoc, ← ht.runBad]
    rfl

/-- A fetch finds whether a word of the frame is poisoned. -/
theorem bufFetch_bad (s : State) (f : QFrame) : (bufFetch s f).2.1 = f.runs.any (runBad s f.half) := by
  rw [bufFetch_eq, fetchRuns_bad f.runs (noted_refl s)]
  rfl

/-- The bytes of a frame, errors apart. -/
def frameBytes (s : State) (f : QFrame) : List Byte := f.runs.flatMap fun r => ramBytes s (71 + f.half) r.1 r.2

theorem fetchRuns_clean {s : State} (h : noErrors s) (k : Nat) (l : List (Nat × Nat)) (b : List Byte) :
    l.foldl (fetchRun k) (b, false, s) = (b ++ l.flatMap fun r => ramBytes s (71 + k) r.1 r.2, false, s) := by
  induction l generalizing b with
  | nil => simp
  | cons r l ih =>
    have hr : fetchRun k (b, false, s) r = (b ++ ramBytes s (71 + k) r.1 r.2, false, s) := by
      simp only [fetchRun, memRead_clean h, Bool.or_self]
    rw [List.foldl_cons, hr, ih, List.flatMap_cons, List.append_assoc]

/-- Without errors a fetch gives the frame's bytes and changes nothing. -/
theorem bufFetch_clean {s : State} (h : noErrors s) (f : QFrame) : bufFetch s f = (frameBytes s f, false, s) :=
  fetchRuns_clean h f.half f.runs []

/-! The round robin (R160) -/

section
variable {cands : List Nat} {len weight d : Nat → Nat} {ptr : Nat} {here : Bool} {c fuel : Nat}

/-- The deficits after a channel's charge. -/
def charged (len d : Nat → Nat) (c : Nat) : Nat → Nat := fun x => if x = c then d c - len c else d x

/-- The deficits after a channel's credit. -/
def credited (weight d : Nat → Nat) (c : Nat) : Nat → Nat := fun x => if x = c then d c + 64 * weight c else d x

/-- The pointer comes to a channel. -/
theorem dwrr_come (h : cands.find? (· ≥ ptr) = some c) (hn : ¬ (here = true ∧ c = ptr)) :
    dwrr cands len weight (fuel + 1) d ptr here = dwrr cands len weight fuel (credited weight d c) c true := by
  have hb : (here && c == ptr) = false := by
    rw [Bool.eq_false_iff]
    simpa using hn
  rw [dwrr.eq_def]
  simp only [h, hb, Bool.false_eq_true, if_false]
  rfl

/-- The pointer stands on a channel whose unit is covered. -/
theorem dwrr_serve (h : cands.find? (· ≥ c) = some c) (hl : len c ≤ d c) :
    dwrr cands len weight (fuel + 1) d c true = some (c, charged len d c) := by
  rw [dwrr.eq_def]
  simp only [h, beq_self_eq_true, Bool.and_self, if_true, hl]
  rfl

/-- The pointer leaves a channel whose unit is not covered. -/
theorem dwrr_leave (h : cands.find? (· ≥ c) = some c) (hl : d c < len c) :
    dwrr cands len weight (fuel + 1) d c true = dwrr cands len weight fuel d (c + 1) false := by
  rw [dwrr.eq_def]
  simp only [h, beq_self_eq_true, Bool.and_self, if_true, if_neg (Nat.not_le.2 hl)]

/-- The pointer goes round the end. -/
theorem dwrr_wrap {l : List Nat} (h : (c :: l).find? (· ≥ ptr) = none) :
    dwrr (c :: l) len weight (fuel + 1) d ptr here = dwrr (c :: l) len weight fuel d c false := by
  rw [dwrr.eq_def]
  simp only [h]

/-- With one candidate, whose unit is covered by its deficit and what the pointer gives it as it comes. -/
theorem dwrr_single (h : len c ≤ d c + if here = true ∧ ptr = c then 0 else 64 * weight c) (fuel : Nat) :
    ∃ e, dwrr [c] len weight (fuel + 3) d ptr here = some (c, e) ∧
      e c = d c + (if here = true ∧ ptr = c then 0 else 64 * weight c) - len c := by
  have self : [c].find? (· ≥ c) = some c := by simp
  by_cases hc : here = true ∧ ptr = c
  · obtain ⟨rfl, rfl⟩ := hc
    simp only [true_and, if_true, Nat.add_zero] at h ⊢
    exact ⟨_, dwrr_serve self h, if_pos rfl⟩
  · simp only [if_neg hc] at h ⊢
    have covered : len c ≤ credited weight d c c := by simpa [credited] using h
    have last : charged len (credited weight d c) c c = d c + 64 * weight c - len c := by simp [charged, credited]
    refine ⟨_, ?_, last⟩
    rcases Nat.lt_or_ge c ptr with hp | hp
    · rw [dwrr_wrap (by simpa using hp), dwrr_come self (by simp), dwrr_serve self covered]
    · rw [dwrr_come (by simpa using hp) (fun hh => hc ⟨hh.1, hh.2.symm⟩), dwrr_serve self covered]

end

/-! Delivery to the client (R161) -/

/-- The pointer goes on from a channel whose queue is empty. -/
def pointerOn (s : State) (p c : Nat) (rest : List QFrame) : State :=
  if rest = [] then s.setPort p { s.port p with rrNext := c + 1, rrHere := false } else s

theorem pointerOn_frame (s : State) (p c : Nat) (rest : List QFrame) :
    pointerOn s p c rest = { s with ports := (pointerOn s p c rest).ports } := by
  unfold pointerOn
  split <;> rfl

/-- The head of a delivery queue leaves: the channel and the pointer after it. -/
def headLeft (s : State) (p c : Nat) (rest : List QFrame) : State :=
  pointerOn (s.setChan c { s.chan c with iq := rest, inDeficit := if rest = [] then 0 else (s.chan c).inDeficit }) p c rest

theorem deliverHead_cons {s : State} {c : Nat} {f : QFrame} {rest : List QFrame} (h : (s.chan c).iq = f :: rest) (p : Nat) :
    deliverHead s p c = if (bufFetch s f).2.1 then dpDiscard (headLeft (bufFetch s f).2.2 p c rest) f.half
      else clientOut (headLeft (bufFetch s f).2.2 p c rest) p (bufFetch s f).1 := by
  simp only [deliverHead, h]
  rfl

theorem headLeft_chans (s : State) (p c : Nat) (rest : List QFrame) : (headLeft s p c rest).chans =
    (s.setChan c { s.chan c with iq := rest, inDeficit := if rest = [] then 0 else (s.chan c).inDeficit }).chans := by
  rw [headLeft, pointerOn_frame]

theorem headLeft_frame (s : State) (p c : Nat) (rest : List QFrame) :
    headLeft s p c rest = { s with chans := (headLeft s p c rest).chans, ports := (headLeft s p c rest).ports } := by
  rw [headLeft_chans]
  exact pointerOn_frame ..

/-- The round robin gave the turn to a channel: its deficit and the pointer. -/
def turnTaken (s : State) (p c n : Nat) : State :=
  let t := s.setChan c { s.chan c with inDeficit := n }
  t.setPort p { t.port p with rrNext := c, rrHere := true }

theorem turnTaken_frame (s : State) (p c n : Nat) :
    turnTaken s p c n = { s with chans := (turnTaken s p c n).chans, ports := (turnTaken s p c n).ports } := rfl

theorem turnTaken_chan (s : State) (p c n d : Nat) :
    (turnTaken s p c n).chan d = if d = c then { s.chan c with inDeficit := n } else s.chan d := State.chan_setChan ..

/-- CLIENT_DELIVERY where one channel's head is covered. -/
theorem clientDelivery_one {s : State} {p : Fin 64} {c : Nat} {f : QFrame} {rest : List QFrame}
    (hs : clientSends s p = true) (hc : deliveryChans s p = [c]) (hq : (s.chan c).iq = f :: rest) (hh : halted s p f = false)
    (hl : f.len ≤ (s.chan c).inDeficit +
      if (s.port p).rrHere = true ∧ (s.port p).rrNext = c then 0 else 64 * deliveryWeight s c) :
    exec (.clientDelivery p) s = .next (deliverHead (turnTaken s p c ((s.chan c).inDeficit +
      (if (s.port p).rrHere = true ∧ (s.port p).rrNext = c then 0 else 64 * deliveryWeight s c) - f.len)) p c) := by
  have cands : ((deliveryChans s p).filter fun c => !((s.chan c).iq.head?.any fun fr => halted s p fr)) = [c] := by
    rw [hc]
    simp [hq, hh]
  obtain ⟨e, he, hd⟩ := dwrr_single (c := c) (len := fun c => ((s.chan c).iq.head?.map (·.len)).getD 0)
    (weight := deliveryWeight s) (d := fun c => (s.chan c).inDeficit) (ptr := (s.port p).rrNext) (here := (s.port p).rrHere)
    (by simpa [hq] using hl) 781
  show execClientDelivery p s = _
  simp only [execClientDelivery, hs, Bool.not_true, Bool.false_eq_true, if_false, cands,
    show dwrrFuel [c].length = 781 + 3 from rfl, he, List.foldl_cons, List.foldl_nil]
  rw [hd]
  simp [turnTaken, hq]

/-- Where the client's transmitter is not looped, a frame leaves with its FCS. -/
theorem clientOut_sent {s : State} {p : Nat} (h : s.f PORT_CTL.LPBK p = 0) (fr : List Byte) :
    clientOut s p fr = (s.inc .PORT_TX_FRAMES p).emit (.client p (fr ++ Crypto.fcs fr)) := by
  unfold clientOut
  dsimp only
  rw [if_neg]
  show ¬ s.f PORT_CTL.LPBK p = 1
  omega

/-- The words of a frame are as bad after changes of channels and ports. -/
theorem runBad_of_queues {s t : State} (h : t = { s with chans := t.chans, ports := t.ports }) (k : Nat) (r : Nat × Nat) :
    runBad t k r = runBad s k r := by
  have hw : ∀ w, poisoned t (71 + k) w = poisoned s (71 + k) w := fun w =>
    poisoned_congr w (by rw [h]; rfl) (isStrong_of_sheaf (by omega) (by rw [h]) _) (by rw [h]; rfl)
  rw [runBad, runBad, funext hw]

section
variable {s : State} {p c : Nat} {f : QFrame} {rest : List QFrame} {n : Nat}

/-- The channel after its head left. -/
theorem headLeft_turn {t : State} (hf : t.chans = (turnTaken s p c n).chans) :
    (headLeft t p c rest).chan c = { s.chan c with iq := rest, inDeficit := if rest = [] then 0 else n } ∧
      keepsChans s (headLeft t p c rest) c := by
  have ht : ∀ d, t.chan d = if d = c then { s.chan c with inDeficit := n } else s.chan d := fun d =>
    (chan_of_chans hf d).trans (turnTaken_chan ..)
  refine ⟨?_, fun d hd => ?_⟩
  · rw [chan_of_chans (headLeft_chans ..), State.chan_setChan_self, ht, if_pos rfl]
  · rw [chan_of_chans (headLeft_chans ..), State.chan_setChan, if_neg hd, ht, if_neg hd]

/-- The head of the queue leaves on the client port. -/
theorem deliverHead_sent (hq : (s.chan c).iq = f :: rest) (hb : s.f PORT_CTL.LPBK p = 0) (he : noErrors s) :
    let t := deliverHead (turnTaken s p c n) p c
    t.out = s.out ++ [.client p ((bufFetch s f).1 ++ Crypto.fcs (bufFetch s f).1)] ∧
      t.chan c = { s.chan c with iq := rest, inDeficit := if rest = [] then 0 else n } ∧ keepsChans s t c ∧
      counted s t .PORT_TX_FRAMES p ∧ t = { s with out := t.out, cnts := t.cnts, chans := t.chans, ports := t.ports } ∧
      keepsCnts s t [(.PORT_TX_FRAMES, p)] := by
  have hq' : ((turnTaken s p c n).chan c).iq = f :: rest := by rw [turnTaken_chan, if_pos rfl]; exact hq
  have hfetch : bufFetch (turnTaken s p c n) f = ((bufFetch s f).1, false, turnTaken s p c n) := by
    rw [bufFetch_clean (s := turnTaken s p c n) he, bufFetch_clean he]
    rfl
  obtain ⟨hc, hk⟩ := headLeft_turn (rest := rest) (rfl : (turnTaken s p c n).chans = (turnTaken s p c n).chans)
  have hfr := headLeft_frame (turnTaken s p c n) p c rest
  rw [deliverHead_cons hq', hfetch]
  revert hc hk hfr
  generalize headLeft (turnTaken s p c n) p c rest = u
  intro hc hk hfr
  have hcn : u.cnts = s.cnts := (congrArg State.cnts hfr).trans rfl
  have hl : u.f PORT_CTL.LPBK p = 0 := by rw [hfr]; exact hb
  simp only [Bool.false_eq_true, if_false]
  rw [clientOut_sent hl]
  refine ⟨?_, hc, hk, ?_, ?_, fun c' j h => ?_⟩
  · show u.out ++ _ = _
    rw [hfr]
    rfl
  · show (u.inc .PORT_TX_FRAMES p).cnt .PORT_TX_FRAMES p = _
    rw [State.cnt_inc, State.cnt, hcn]
    rfl
  · rw [hfr]
    rfl
  · refine (State.cnt_inc_ne fun e => h ?_).trans ?_
    · rw [e.1, e.2]; exact List.mem_cons_self
    · rw [State.cnt, hcn]; rfl

/-- A head with a poisoned word is discarded (R395). -/
theorem deliverHead_discarded (hq : (s.chan c).iq = f :: rest) (hb : (bufFetch s f).2.1 = true) :
    let t := deliverHead (turnTaken s p c n) p c
    t.out = s.out ∧ t.chan c = { s.chan c with iq := rest, inDeficit := if rest = [] then 0 else n } ∧ keepsChans s t c ∧
      counted s t .MEM_DP_DISCARD (71 + f.half) := by
  have hq' : ((turnTaken s p c n).chan c).iq = f :: rest := by rw [turnTaken_chan, if_pos rfl]; exact hq
  have hbad : (bufFetch (turnTaken s p c n) f).2.1 = true := by
    rw [bufFetch_bad, funext (runBad_of_queues (turnTaken_frame s p c n) f.half), ← bufFetch_bad]
    exact hb
  have hn := noted_bufFetch (turnTaken s p c n) f
  rw [deliverHead_cons hq', if_pos hbad]
  revert hn
  generalize (bufFetch (turnTaken s p c n) f).2.2 = u
  intro hn
  obtain ⟨hm, -, -⟩ := hn.mem
  obtain ⟨hc, hk⟩ := headLeft_turn (t := u) (rest := rest) (s := s) (p := p) (c := c) (n := n) (by rw [hm])
  refine ⟨?_, hc, hk, ?_⟩
  · show (headLeft u p c rest).out = _
    rw [headLeft_frame, hm]
    rfl
  · show (State.inc _ .MEM_DP_DISCARD (71 + f.half)).cnt _ _ = _
    rw [State.cnt_inc, headLeft_frame]
    show BitVec.ofNat 64 (satAdd 64 (u.cnt .MEM_DP_DISCARD (71 + f.half)).toNat 1) = _
    rw [hn.discards]
    rfl

end

section
variable {s : State} {p : Fin 64}

/-- A unit leaves on the line, with what its engines have not begun and the discarded ones ahead of it (R30, R286). -/
theorem unitsLeave {u : TxUnit} {rest : List TxUnit} (hs : lineSends s p = true)
    (hd : (s.port p).slots.dropWhile (·.discarded) = u :: rest) (hl : s.f PORT_CTL.LPBK p = 0) :
    let skipped := (s.port p).slots.takeWhile (·.discarded)
    ∃ t, exec (.reorderEmit p) s = .next t ∧ t.out = s.out ++ [.line p (u.bytes ++ Crypto.fcs u.bytes)] ∧
      t.port p = { s.port p with slots := rest } ∧ (∀ q, q ≠ p.val → t.port q = s.port q) ∧
      counted s t .PORT_TX_FRAMES p ∧
      (∀ e, (∀ x ∈ skipped ++ [u], x.eng ≠ e) → t.eng e = s.eng e) ∧
      (skipped = [] → t.eng u.eng = (s.eng u.eng).takeBack u.tslot) ∧
      t = { s with out := t.out, ports := t.ports, cnts := t.cnts, engs := t.engs } ∧ keepsCnts s t [(.PORT_TX_FRAMES, p)] := by
  intro skipped
  have hfr := leaveSlots_engs (skipped ++ [u]) (s.setPort p { s.port p with slots := rest })
  have heng := fun e (he : ∀ x ∈ skipped ++ [u], x.eng ≠ e) =>
    leaveSlots_eng (skipped ++ [u]) (s := s.setPort p { s.port p with slots := rest }) he
  have hfirst : skipped = [] → (leaveSlots (s.setPort p { s.port p with slots := rest }) (skipped ++ [u])).eng u.eng =
      (s.eng u.eng).takeBack u.tslot := fun h => by
    rw [h]
    exact leaveSlots_one ..
  rw [reorderEmit_unit hs hd]
  refine ⟨_, rfl, ?_⟩
  revert hfr heng hfirst
  generalize leaveSlots (s.setPort p { s.port p with slots := rest }) (skipped ++ [u]) = v
  intro hfr heng hfirst
  rw [emitUnit_sent (by rw [hfr]; exact hl)]
  have hport : ∀ q, v.port q = (s.setPort p { s.port p with slots := rest }).port q := fun q => by rw [hfr]; rfl
  have hcnt : ∀ c i, v.cnt c i = s.cnt c i := fun c i => by rw [hfr]; rfl
  refine ⟨?_, (hport p).trans (State.port_setPort_self ..), fun q hq => (hport q).trans (State.port_setPort_ne _ _ hq), ?_,
    heng, hfirst, ?_, fun c i h => ?_⟩
  · show v.out ++ _ = _
    rw [hfr]
    rfl
  · exact State.cnt_inc.trans (by rw [← hcnt]; rfl)
  · rw [hfr]
    rfl
  · refine (State.cnt_inc_ne fun e => h ?_).trans (hcnt c i)
    rw [e.1, e.2]
    exact List.mem_cons_self

/-- With nothing but discarded units the slots empty. -/
theorem discardedLeave (hs : lineSends s p = true) (hd : (s.port p).slots.dropWhile (·.discarded) = []) :
    ∃ t, exec (.reorderEmit p) s = .next t ∧ t.port p = { s.port p with slots := [] } ∧
      (∀ q, q ≠ p.val → t.port q = s.port q) ∧
      (∀ e, (∀ x ∈ (s.port p).slots.takeWhile (·.discarded), x.eng ≠ e) → t.eng e = s.eng e) ∧
      t = { s with ports := t.ports, engs := t.engs } := by
  rw [reorderEmit_nothing hs hd]
  refine ⟨_, rfl, ?_, fun q hq => ?_, fun e he => leaveSlots_eng _ he, ?_⟩
  · rw [leaveSlots_port, State.port_setPort_self]
  · rw [leaveSlots_port, State.port_setPort_ne _ _ hq]
  · rw [leaveSlots_engs]
    rfl

end

/-- Settles O24: a unit's leaving, a slot's retirement, a delivery, the end of a hold and a flush, each by the lemma on its
function. -/
theorem unitsLeaveAndHoldsEnd : Obligations.UnitsLeaveAndHoldsEnd := by
  unfold Obligations.UnitsLeaveAndHoldsEnd
  refine ⟨fun s p c u rest => ⟨unitsLeave, discardedLeave, fun hr ho hq => ⟨_, rfl, retireSlot_quiet hr ho hq⟩⟩,
    fun s p c ch f rest => ⟨?_, ?_, ?_, ?_⟩⟩
  · rintro ⟨hs, hc, hq, hh, hl⟩ hb he
    rw [clientDelivery_one hs hc hq hh hl]
    exact ⟨_, rfl, deliverHead_sent hq hb he⟩
  · rintro ⟨hs, hc, hq, hh, hl⟩ hb
    rw [clientDelivery_one hs hc hq hh hl]
    exact ⟨_, rfl, deliverHead_discarded hq hb⟩
  · intro hl ho hq
    obtain ⟨t, ht, hv, hp, o⟩ := prevHoldExpiry_quiet hl ho hq
    exact ⟨t, ht, hv, hp, o.frame, o.keeps⟩
  · intro hq
    have hf := flushCounters_quiet hq ch
    refine ⟨flushCounters s ch, rfl, fun i hi => ?_, fun d i hi hd => ?_, hf.frame, hf.keeps⟩
    · have hm := List.mem_range.2 hi
      exact ⟨hf.held i hm, hf.count i hm⟩
    · exact hf.others d i hi fun h => hd h.1

end Sys2Proof.Machine
end

section
/-! Frames in buffer memory: the pages and runs that they take, and that they are read back (R29, R38, R402). -/

namespace Sys2Proof.Machine

/-! Pages and runs of a frame in buffer memory (R29, R38, R402) -/

/-- The pages passed over are taken, and the page found is free or the search ended there. -/
theorem freePage_spec (taken : List Nat) (fuel n : Nat) :
    n ≤ freePage taken fuel n ∧ freePage taken fuel n ≤ n + fuel ∧
      (∀ j, n ≤ j → j < freePage taken fuel n → j ∈ taken) ∧
      (freePage taken fuel n < n + fuel → freePage taken fuel n ∉ taken) := by
  induction fuel generalizing n with
  | zero => exact ⟨Nat.le_refl n, Nat.le_refl n, fun j h h' => absurd h' (Nat.not_lt.2 h), fun h => absurd h (Nat.lt_irrefl n)⟩
  | succ fuel ih =>
    rw [freePage]
    by_cases hn : taken.contains n = true
    · rw [if_pos hn]
      obtain ⟨h1, h2, h3, h4⟩ := ih (n + 1)
      refine ⟨by omega, by omega, fun j h h' => ?_, fun h => h4 (by omega)⟩
      rcases Nat.eq_or_lt_of_le h with rfl | h
      · exact List.contains_iff_mem.1 hn
      · exact h3 j h h'
    · rw [if_neg hn]
      exact ⟨Nat.le_refl n, by omega, fun j h h' => absurd h' (Nat.not_lt.2 h), fun _ h => hn (List.contains_iff_mem.2 h)⟩

/-- A list of pages misses one of as many pages as it holds and one more. -/
theorem freePage_free (taken : List Nat) : freePage taken taken.length 0 ∉ taken := by
  obtain ⟨-, h2, h3, h4⟩ := freePage_spec taken taken.length 0
  intro hm
  have hlen : freePage taken taken.length 0 = taken.length := by
    by_contra h
    exact h4 (by omega) hm
  have hsub : List.range (taken.length + 1) ⊆ taken := fun j hj => by
    rcases Nat.eq_or_lt_of_le (Nat.le_of_lt_succ (List.mem_range.1 hj)) with rfl | hj
    · rw [hlen] at hm; exact hm
    · exact h3 j (Nat.zero_le j) (by omega)
  have := (List.subperm_of_subset List.nodup_range hsub).length_le
  rw [List.length_range] at this
  omega

theorem freePage_le (taken : List Nat) : freePage taken taken.length 0 ≤ taken.length := by
  have := (freePage_spec taken taken.length 0).2.1
  omega

/-- Where a run begins for a cursor. -/
def runStart (taken : List Nat) (cur : Nat) : Nat :=
  if cur % pageBytes = 0 then pageBytes * freePage taken taken.length 0 else cur

/-- Bytes of a run from its start: to the end of its page at most. -/
def runLen (at_ len : Nat) : Nat := min len (pageBytes - at_ % pageBytes)

theorem bufRuns_zero (taken : List Nat) (fuel cur : Nat) : bufRuns taken fuel cur 0 = [] := by
  cases fuel with
  | zero => rfl
  | succ n => exact if_pos rfl

theorem bufRuns_succ (taken : List Nat) (fuel cur : Nat) {len : Nat} (h : len ≠ 0) :
    bufRuns taken (fuel + 1) cur len =
      (runStart taken cur, runLen (runStart taken cur) len) :: bufRuns (runStart taken cur / pageBytes :: taken) fuel
        (ceilDiv (runStart taken cur + runLen (runStart taken cur) len) 8 * 8) (len - runLen (runStart taken cur) len) :=
  if_neg h

theorem pageBytes_eq : pageBytes = 4096 := rfl

theorem ceil8 (n : Nat) : n ≤ ceilDiv n 8 * 8 ∧ ceilDiv n 8 * 8 < n + 8 ∧ ceilDiv n 8 * 8 % 8 = 0 := by
  unfold ceilDiv; omega

theorem runStart_aligned (taken : List Nat) {cur : Nat} (h : cur % 8 = 0) : runStart taken cur % 8 = 0 := by
  unfold runStart
  rw [pageBytes_eq]
  split
  · omega
  · exact h

/-- What is left over of a frame after a run stands at a page's start. -/
theorem runLen_rest {at_ len : Nat} (ha : at_ % 8 = 0) (h : len - runLen at_ len ≠ 0) :
    ceilDiv (at_ + runLen at_ len) 8 * 8 % pageBytes = 0 := by
  have := ceil8 (at_ + runLen at_ len)
  unfold runLen at *
  rw [pageBytes_eq] at *
  omega

/-- A run with its last word lies in one page. -/
theorem runLen_inPage {at_ : Nat} (len : Nat) (ha : at_ % 8 = 0) :
    at_ % pageBytes + ceilDiv (runLen at_ len) 8 * 8 ≤ pageBytes := by
  have := ceil8 (runLen at_ len)
  unfold runLen at *
  rw [pageBytes_eq] at *
  omega

/-- Runs begin at whole words and lie each, with its last word, in one page. -/
theorem bufRuns_inPage (fuel : Nat) {taken : List Nat} {cur len : Nat} (hc : cur % 8 = 0) :
    ∀ r ∈ bufRuns taken fuel cur len, r.1 % 8 = 0 ∧ r.1 % pageBytes + ceilDiv r.2 8 * 8 ≤ pageBytes := by
  induction fuel generalizing taken cur len with
  | zero => exact fun r hr => absurd hr List.not_mem_nil
  | succ fuel ih =>
    by_cases h : len = 0
    · rw [h, bufRuns_zero]; exact fun r hr => absurd hr List.not_mem_nil
    · rw [bufRuns_succ _ _ _ h]
      intro r hr
      rcases List.mem_cons.1 hr with rfl | hr
      · exact ⟨runStart_aligned taken hc, runLen_inPage len (runStart_aligned taken hc)⟩
      · exact ih (ceil8 _).2.2 r hr

/-- The rest of a frame goes on at a page's start, or there is none. -/
theorem bufRuns_rest {at_ len : Nat} (ha : at_ % 8 = 0) (taken : List Nat) (fuel : Nat) :
    ceilDiv (at_ + runLen at_ len) 8 * 8 % pageBytes = 0 ∨
      bufRuns taken fuel (ceilDiv (at_ + runLen at_ len) 8 * 8) (len - runLen at_ len) = [] := by
  by_cases h : len - runLen at_ len = 0
  · right; rw [h, bufRuns_zero]
  · exact .inl (runLen_rest ha h)

/-- From a page's start on, runs take free pages only. -/
theorem bufRuns_free (fuel : Nat) {taken : List Nat} {cur len : Nat} (hc : cur % 8 = 0) (hp : cur % pageBytes = 0) :
    ∀ r ∈ bufRuns taken fuel cur len, r.1 / pageBytes ∉ taken := by
  induction fuel generalizing taken cur len with
  | zero => exact fun r hr => absurd hr List.not_mem_nil
  | succ fuel ih =>
    by_cases h : len = 0
    · rw [h, bufRuns_zero]; exact fun r hr => absurd hr List.not_mem_nil
    · rw [bufRuns_succ _ _ _ h]
      intro r hr
      rcases List.mem_cons.1 hr with rfl | hr
      · rw [runStart, if_pos hp, Nat.mul_div_cancel_left _ (by decide)]
        exact freePage_free taken
      · rcases bufRuns_rest (len := len) (runStart_aligned taken hc) (runStart taken cur / pageBytes :: taken) fuel with h0 | h0
        · exact fun hm => ih (ceil8 _).2.2 h0 r hr (List.mem_cons_of_mem _ hm)
        · rw [h0] at hr; exact absurd hr List.not_mem_nil

/-- Runs of a frame lie in different pages. -/
theorem bufRuns_pages (fuel : Nat) {taken : List Nat} {cur len : Nat} (hc : cur % 8 = 0) :
    (bufRuns taken fuel cur len).Pairwise fun r r' => r.1 / pageBytes ≠ r'.1 / pageBytes := by
  induction fuel generalizing taken cur len with
  | zero => exact List.Pairwise.nil
  | succ fuel ih =>
    by_cases h : len = 0
    · rw [h, bufRuns_zero]; exact List.Pairwise.nil
    · rw [bufRuns_succ _ _ _ h]
      refine List.Pairwise.cons (fun r hr => ?_) (ih (ceil8 _).2.2)
      rcases bufRuns_rest (len := len) (runStart_aligned taken hc) (runStart taken cur / pageBytes :: taken) fuel with h0 | h0
      · exact fun e => bufRuns_free fuel (ceil8 _).2.2 h0 r hr (e ▸ List.mem_cons_self)
      · rw [h0] at hr; exact absurd hr List.not_mem_nil

/-- With enough free pages every run ends inside the half. -/
theorem bufRuns_inHalf (fuel : Nat) {taken : List Nat} {cur len n : Nat} (hc : cur % 8 = 0)
    (hp : cur % pageBytes = 0 ∨ cur / pageBytes < n) (hn : taken.length + fuel ≤ n) :
    ∀ r ∈ bufRuns taken fuel cur len, r.1 / pageBytes < n := by
  induction fuel generalizing taken cur len with
  | zero => exact fun r hr => absurd hr List.not_mem_nil
  | succ fuel ih =>
    by_cases h : len = 0
    · rw [h, bufRuns_zero]; exact fun r hr => absurd hr List.not_mem_nil
    · rw [bufRuns_succ _ _ _ h]
      intro r hr
      rcases List.mem_cons.1 hr with rfl | hr
      · show runStart taken cur / pageBytes < n
        unfold runStart
        split
        · have := freePage_le taken
          rw [Nat.mul_div_cancel_left _ (by decide)]
          omega
        · exact hp.resolve_left ‹_›
      · rcases bufRuns_rest (len := len) (runStart_aligned taken hc) (runStart taken cur / pageBytes :: taken) fuel with h0 | h0
        · exact ih (ceil8 _).2.2 (.inl h0) (by rw [List.length_cons]; omega) r hr
        · rw [h0] at hr; exact absurd hr List.not_mem_nil

/-- With two runs beyond a frame's whole pages the runs hold all of it. -/
theorem bufRuns_total (fuel : Nat) {taken : List Nat} {cur len : Nat} (hc : cur % 8 = 0)
    (hf : len / pageBytes + (if cur % pageBytes = 0 then 1 else 2) ≤ fuel) :
    ((bufRuns taken fuel cur len).map (·.2)).sum = len := by
  induction fuel generalizing taken cur len with
  | zero => rw [pageBytes_eq] at hf; split at hf <;> omega
  | succ fuel ih =>
    by_cases h : len = 0
    · rw [h, bufRuns_zero]; rfl
    · rw [bufRuns_succ _ _ _ h, List.map_cons, List.sum_cons]
      have hle : runLen (runStart taken cur) len ≤ len := Nat.min_le_left ..
      by_cases h0 : len - runLen (runStart taken cur) len = 0
      · rw [h0, bufRuns_zero]
        show runLen (runStart taken cur) len + 0 = len
        omega
      · rw [ih (ceil8 _).2.2, Nat.add_sub_cancel' hle]
        rw [if_pos (runLen_rest (runStart_aligned taken hc) h0)]
        by_cases hp : cur % pageBytes = 0
        · have hs : runStart taken cur % pageBytes = 0 := by
            rw [runStart, if_pos hp]; exact Nat.mul_mod_right ..
          have hl : runLen (runStart taken cur) len = pageBytes := by
            unfold runLen at *
            rw [pageBytes_eq] at *
            omega
          rw [if_pos hp] at hf
          rw [hl] at h0 ⊢
          rw [pageBytes_eq] at *
          omega
        · rw [if_neg hp] at hf
          have := Nat.div_le_div_right (c := pageBytes) (Nat.sub_le len (runLen (runStart taken cur) len))
          omega

/-! Frames written and read back (R395, R397) -/

/-- Two places of a memory with their last words share no byte. -/
def runsApart (r r' : Nat × Nat) : Prop := r.1 + ceilDiv r.2 8 * 8 ≤ r'.1 ∨ r'.1 + ceilDiv r'.2 8 * 8 ≤ r.1

theorem runsApart_of_pages {r r' : Nat × Nat} (h : r.1 % pageBytes + ceilDiv r.2 8 * 8 ≤ pageBytes)
    (h' : r'.1 % pageBytes + ceilDiv r'.2 8 * 8 ≤ pageBytes) (hp : r.1 / pageBytes ≠ r'.1 / pageBytes) : runsApart r r' := by
  unfold runsApart
  rw [pageBytes_eq] at *
  omega

theorem bufRuns_apart (fuel : Nat) {taken : List Nat} {cur len : Nat} (hc : cur % 8 = 0) :
    (bufRuns taken fuel cur len).Pairwise runsApart :=
  (bufRuns_pages fuel hc).imp_of_mem fun hr hr' hp =>
    runsApart_of_pages (bufRuns_inPage fuel hc _ hr).2 (bufRuns_inPage fuel hc _ hr').2 hp

theorem length_wordPad (bs : List Byte) : (wordPad bs).length = ceilDiv bs.length 8 * 8 := by
  have := ceil8 bs.length
  simp only [wordPad, List.length_append, zeros, List.length_replicate]
  omega

/-- The place in a memory that a run of a frame takes. -/
def runRange (k : Nat) (r : Nat × Nat) : Nat × Nat × Nat := (k, r.1, ceilDiv r.2 8 * 8)

/-- One run is written. -/
def writeRun (s : State) (k : Nat) (r : Nat × Nat) (bs : List Byte) : State :=
  (memWrite s k r.1 ((wordPad (bs.take r.2)).map some) codeQueue).2

theorem writeRuns_cons (s : State) (k : Nat) (r : Nat × Nat) (rs : List (Nat × Nat)) (bs : List Byte) :
    writeRuns s k (r :: rs) bs = writeRuns (writeRun s k r bs) k rs (bs.drop r.2) := rfl

theorem writeRun_quiet {s : State} {k : Nat} (h : memQuiet s k) {r : Nat × Nat} {bs : List Byte} (hr : r.2 ≤ bs.length) :
    onlyRams s (writeRun s k r bs) ∧ keepsMem s (writeRun s k r bs) [runRange k r] ∧
      ramBytes (writeRun s k r bs) k r.1 r.2 = bs.take r.2 := by
  have hs := (memWrite_quiet h r.1 ((wordPad (bs.take r.2)).map some) codeQueue).2
  have hl : (bs.take r.2).length = r.2 := by rw [List.length_take, Nat.min_eq_left hr]
  refine ⟨hs.frame, ?_, ?_⟩
  · have := hs.keeps
    rwa [length_wordPad, hl] at this
  · apply List.ext_getElem?
    intro i
    by_cases hi : i < r.2
    · rw [getElem?_ramBytes _ hi]
      obtain ⟨b, hb⟩ : ∃ b, (bs.take r.2)[i]? = some b := ⟨_, List.getElem?_eq_getElem (by omega)⟩
      rw [hb]
      refine congrArg some (hs.get (by omega) ?_)
      rw [Nat.add_sub_cancel_left, wordPad, List.getElem?_append_left (by omega), hb]
    · rw [List.getElem?_eq_none (by simp; omega), List.getElem?_eq_none (by omega)]

/-- A frame written to runs that share no byte is read back from them, and no other byte differs. -/
theorem writeRuns_quiet {k : Nat} (rs : List (Nat × Nat)) {s : State} (h : memQuiet s k) {bs : List Byte}
    (ha : rs.Pairwise runsApart) (hl : (rs.map (·.2)).sum = bs.length) :
    onlyRams s (writeRuns s k rs bs) ∧ keepsMem s (writeRuns s k rs bs) (rs.map (runRange k)) ∧
      (rs.flatMap fun r => ramBytes (writeRuns s k rs bs) k r.1 r.2) = bs := by
  induction rs generalizing s bs with
  | nil => exact ⟨rfl, keepsMem_refl s _, (List.length_eq_zero_iff.1 hl.symm).symm⟩
  | cons r rs ih =>
    rw [List.map_cons, List.sum_cons] at hl
    obtain ⟨hhead, htail⟩ := List.pairwise_cons.1 ha
    obtain ⟨f1, k1, r1⟩ := writeRun_quiet h (r := r) (bs := bs) (by omega)
    obtain ⟨f2, k2, r2⟩ := ih (f1.quiet h) htail (bs := bs.drop r.2) (by rw [List.length_drop]; omega)
    rw [writeRuns_cons]
    refine ⟨f1.trans f2, (k1.mono (by simp)).trans (k2.mono (by simp)), ?_⟩
    rw [List.flatMap_cons, r2]
    have hkeep : ramBytes (writeRuns (writeRun s k r bs) k rs (bs.drop r.2)) k r.1 r.2 =
        ramBytes (writeRun s k r bs) k r.1 r.2 := by
      refine ramBytes_congr fun i hi => k2 _ _ fun x hx hin => ?_
      obtain ⟨r', hr', rfl⟩ := List.mem_map.1 hx
      have hin : r'.1 ≤ r.1 + i ∧ r.1 + i < r'.1 + ceilDiv r'.2 8 * 8 := hin.2
      have hap := hhead r' hr'
      have := (ceil8 r.2).1
      unfold runsApart at hap
      omega
    rw [hkeep, r1, List.take_append_drop]

theorem queueEnd_aligned (q : List QFrame) : queueEnd q % 8 = 0 := by
  unfold queueEnd
  split
  · split
    · exact (ceil8 _).2.2
    · rfl
  · rfl

/-- Where a half has room, a frame of a client port is stored, and read back from where it stands. -/
theorem bufStore_quiet {s : State} {half : Nat} {q : List QFrame} {bs : List Byte} (h : memQuiet s (71 + half))
    (hr : hasRoom s half q 1) (hl : bs.length ≤ 9600) (port pri : Nat) :
    ∃ f t, bufStore s q half port pri bs = some (f, t) ∧ f.len = bs.length ∧
      f.port = port ∧ f.pri = pri ∧ f.half = half ∧
      onlyRams s t ∧ keepsMem s t (frameRanges f) ∧ frameBytes t f = bs := by
  obtain ⟨hcur, hroom⟩ := hr
  have hal := queueEnd_aligned (q.filter fun f => f.half == half)
  have hfuel : bs.length / pageBytes + 2 ≤ 4 := by rw [pageBytes_eq]; omega
  have hin : ((bufRuns (takenPages s half) (bs.length / pageBytes + 2) (queueEnd (q.filter fun f => f.half == half))
      bs.length).all fun r => r.1 / pageBytes < halfPages s) = true :=
    List.all_eq_true.2 fun r hr => decide_eq_true (bufRuns_inHalf _ hal hcur (by omega) r hr)
  have htotal := bufRuns_total (bs.length / pageBytes + 2) (taken := takenPages s half) (len := bs.length) hal
    (by split <;> omega)
  obtain ⟨hf, hk, hb⟩ := writeRuns_quiet _ h (bufRuns_apart _ hal) htotal
  exact ⟨_, _, if_pos hin, rfl, rfl, rfl, rfl, hf, hk, hb⟩

end Sys2Proof.Machine
end

section
/-! Frames of client ports: PAUSE and PFC, flow control, classification, the slice buffer and admission to a queue (O21). -/

namespace Sys2Proof.Machine

/-! PAUSE and PFC (R65, R69) -/

/-- Quanta running for a priority of a port, 8 standing for PAUSE. -/
def quantaOf (s : State) (p k : Nat) : Option Nat := ((s.port p).paused.find? fun e => e.1 == k).map (·.2)

/-- Setting one priority's quanta leaves the others'. -/
theorem quantaOf_setPaused (s : State) (p i v k : Nat) :
    quantaOf (setPaused s p i v) p k = if k = i then (if v = 0 then none else some v) else quantaOf s p k := by
  unfold quantaOf setPaused
  rw [State.port_setPort_self]
  have hf : ((s.port p).paused.filter fun e => e.1 != i).find? (fun e => e.1 == k) =
      if k = i then none else (s.port p).paused.find? fun e => e.1 == k := by
    rw [List.find?_filter]
    split
    · next h =>
      rw [h]
      exact List.find?_eq_none.2 fun e _ => by simp
    · next h =>
      refine congrArg ((s.port p).paused.find? ·) (funext fun e => ?_)
      by_cases he : e.1 = k <;> simp [he, h]
  by_cases hv : v = 0
  · rw [if_pos hv, hf]
    split
    · rfl
    · rfl
  · rw [if_neg hv, List.find?_append, hf]
    by_cases hk : k = i
    · simp [hk, hv]
    · simp [hk, Ne.symm hk]

/-- Priorities that a list names and a condition selects take their quanta. -/
def setQuanta (s : State) (p : Nat) (on : Nat → Bool) (val : Nat → Nat) (l : List Nat) : State :=
  l.foldl (fun s i => if on i then setPaused s p i (val i) else s) s

theorem setQuanta_ports (s : State) (p : Nat) (on : Nat → Bool) (val : Nat → Nat) (l : List Nat) :
    setQuanta s p on val l = { s with ports := (setQuanta s p on val l).ports } := by
  refine foldl_rel_of_step (R := fun a b : State => b = { a with ports := b.ports }) (fun _ => rfl)
    (fun a b c h h' => ?_) (fun a i => ?_) l s
  · rw [h', h]
  · split <;> rfl

theorem quantaOf_setQuanta (s : State) (p : Nat) (on : Nat → Bool) (val : Nat → Nat) (l : List Nat) (k : Nat) :
    quantaOf (setQuanta s p on val l) p k =
      if k ∈ l ∧ on k = true then (if val k = 0 then none else some (val k)) else quantaOf s p k := by
  induction l generalizing s with
  | nil => simp [setQuanta]
  | cons i l ih =>
    show quantaOf (setQuanta (if on i then setPaused s p i (val i) else s) p on val l) p k = _
    rw [ih]
    by_cases hk : k = i
    · subst hk
      by_cases ho : on k = true <;> simp [ho, quantaOf_setPaused]
    · have hq : quantaOf (if on i then setPaused s p i (val i) else s) p k = quantaOf s p k := by
        split
        · rw [quantaOf_setPaused, if_neg hk]
        · rfl
      simp [hq, hk]

theorem hears_iff {s : State} {p : Nat} : hears s p = true ↔ receiving s p = true ∧ s.f PORT_CTL.LPBK p = 0 := by
  simp [hears]

section
variable {s : State} {p : Fin 64} {f : List Byte}

theorem isLine_of_client (h : p.val < 32) : isLine p = false := decide_eq_false (Nat.not_le.2 h)

/-- A MAC control frame with a bad FCS or size is dropped. -/
theorem macControlRx_bad (hp : p.val < 32) (hh : hears s p = true)
    (hb : fcsGood f = false ∨ ¬ (64 ≤ f.length ∧ f.length ≤ 9600)) :
    exec (.macControlFrameRx p f) s = .next (s.inc .PORT_FCS_ERR p) := by
  have hbad : (!fcsGood f || (!isLine p && (f.length < 64 || f.length > 9600))) = true := by
    rcases hb with h | h
    · simp [h]
    · simp only [isLine_of_client hp, Bool.not_false, Bool.true_and, Bool.or_eq_true, decide_eq_true_eq]
      exact .inr (by omega)
  show execMacControlFrameRx p f s = _
  simp [execMacControlFrameRx, hh, hbad]

theorem macControlRx_good (hp : p.val < 32) (hs : 64 ≤ f.length ∧ f.length ≤ 9600) (hh : hears s p = true)
    (hg : fcsGood f = true) : exec (.macControlFrameRx p f) s = .next (macControl (s.inc .PORT_RX_FRAMES p) p f) := by
  have hgood : (!fcsGood f || (!isLine p && (f.length < 64 || f.length > 9600))) = false := by
    simp only [hg, isLine_of_client hp, Bool.not_true, Bool.false_or, Bool.not_false, Bool.true_and, Bool.or_eq_false_iff,
      decide_eq_false_iff_not]
    omega
  show execMacControlFrameRx p f s = _
  simp [execMacControlFrameRx, hh, hgood]

theorem macControl_pause (hp : p.val < 32) (h : beAt f 14 2 = 1) :
    macControl s p f = setPaused (s.inc .PORT_PAUSE_RX p) p 8 (beAt f 16 2) := by
  simp [macControl, isLine_of_client hp, h]

theorem macControl_pfc (hp : p.val < 32) (h : beAt f 14 2 = 0x0101) : macControl s p f =
    setQuanta (s.inc .PORT_PAUSE_RX p) p (bitAt (beAt f 16 2)) (fun i => beAt f (18 + 2 * i) 2) (List.range 8) := by
  simp [macControl, isLine_of_client hp, h, setQuanta]

theorem macControl_other (h1 : beAt f 14 2 ≠ 1) (h2 : beAt f 14 2 ≠ 0x0101) : macControl s p f = ctlDrop s p := by
  simp [macControl, h1, h2]

end

/-! Flow control of a client port: what it leaves (R63, R65) -/

/-- The registers that flow control writes. -/
abbrev flowRegs (p : Nat) : List (Reg × Nat) := [(.PORT_EXP_OCC, p), (.PORT_STATUS, p), (.PORT_EVT, p)]

theorem setsRegs_raise (s : State) (x : Fld) (i : Nat) : setsRegs s (s.raise x i) [(x.reg, i)] := setsRegs_setF ..

theorem setsRegs_notePeak (s : State) (p : Nat) : setsRegs s (notePeak s p) [(.PORT_EXP_OCC, p)] := by
  unfold notePeak
  dsimp only
  split
  · exact setsRegs_setF ..
  · exact setsRegs_refl s

/-- Flow control writes registers, and may send a frame and then raise its event. -/
theorem flowEval_cases (s : State) (p : Nat) : ∃ u, setsRegs s u (flowRegs p) ∧
    (flowEval s p = u ∨ ∃ q, flowEval s p = sendPause u p q ∨ flowEval s p = (sendPause u p q).raise PORT_EVT.XOFF_ON p) := by
  have hn : setsRegs s (notePeak s p) (flowRegs p) := (setsRegs_notePeak s p).mono (by simp)
  have hset : ∀ n, setsRegs s ((notePeak s p).setF PORT_STATUS.XOFF p n) (flowRegs p) := fun n =>
    ((setsRegs_notePeak s p).trans (setsRegs_setF ..)).mono (by simp [PORT_STATUS.XOFF])
  unfold flowEval
  extract_lets t mode
  split
  · exact ⟨_, hn, .inl rfl⟩
  · split
    · split
      · exact ⟨_, hset 1, .inr ⟨_, .inr rfl⟩⟩
      · split
        · exact ⟨_, hset 0, .inr ⟨_, .inl rfl⟩⟩
        · exact ⟨_, hn, .inl rfl⟩
    · exact ⟨_, hset 0, .inl rfl⟩

/-- What flow control leaves: beside its registers, counters, outputs and the quanta of the port. -/
structure FlowOnly (s t : State) (p : Nat) : Prop where
  frame : t = { s with regs := t.regs, cnts := t.cnts, out := t.out, ports := t.ports }
  regs : keepsRegs s t (flowRegs p)
  others : ∀ q, q ≠ p → t.port q = s.port q
  quanta : t.port p = { s.port p with paused := (t.port p).paused }

theorem flowOnly_refl (s : State) (p : Nat) : FlowOnly s s p := ⟨rfl, fun _ _ _ => rfl, fun _ _ => rfl, rfl⟩

theorem FlowOnly.trans {s t u : State} {p : Nat} (h : FlowOnly s t p) (h' : FlowOnly t u p) : FlowOnly s u p where
  frame := by rw [h'.frame, h.frame]
  regs := fun r i hr => (h'.regs r i hr).trans (h.regs r i hr)
  others := fun q hq => (h'.others q hq).trans (h.others q hq)
  quanta := h'.quanta.trans (by rw [h.quanta])

theorem flowOnly_of_ports {s t : State} {p : Nat} (h : t = { s with regs := t.regs, cnts := t.cnts, out := t.out })
    (hr : keepsRegs s t (flowRegs p)) : FlowOnly s t p := by
  have hp : t.ports = s.ports := (congrArg State.ports h).trans rfl
  have hq : ∀ q, t.port q = s.port q := fun q => congrArg (SMap.get _ · q) hp
  exact ⟨by rw [hp]; exact h, hr, fun q _ => hq q, by rw [hq]⟩

theorem setsRegs.flowOnly {s t : State} {p : Nat} (h : setsRegs s t (flowRegs p)) : FlowOnly s t p :=
  flowOnly_of_ports (by
    have hc : t.cnts = s.cnts := (congrArg State.cnts h.1).trans rfl
    have ho : t.out = s.out := (congrArg State.out h.1).trans rfl
    rw [hc, ho]
    exact h.1) h.2

theorem flowOnly_inc (s : State) (p : Nat) (c : Ctr) (i : Nat) : FlowOnly s (s.inc c i) p := flowOnly_of_ports rfl fun _ _ _ => rfl

theorem flowOnly_emit (s : State) (p : Nat) (o : Out) : FlowOnly s (s.emit o) p := flowOnly_of_ports rfl fun _ _ _ => rfl

theorem flowOnly_raise (s : State) (p : Nat) {x : Fld} (hx : x.reg = .PORT_EVT) : FlowOnly s (s.raise x p) p :=
  ((setsRegs_raise s x p).mono (by simp [hx])).flowOnly

theorem flowOnly_setPaused (s : State) (p i v : Nat) : FlowOnly s (setPaused s p i v) p where
  frame := rfl
  regs := fun _ _ _ => rfl
  others := fun _ hq => State.port_setPort_ne _ _ hq
  quanta := by rw [setPaused, State.port_setPort_self]

theorem flowOnly_macControl (s : State) (p : Nat) (f : List Byte) : FlowOnly s (macControl s p f) p := by
  have hdrop : FlowOnly s (ctlDrop s p) p := (flowOnly_inc ..).trans (flowOnly_raise _ p rfl)
  unfold macControl
  extract_lets op
  split
  · exact hdrop
  · split
    · exact (flowOnly_inc ..).trans (flowOnly_setPaused ..)
    · split
      · refine (flowOnly_inc ..).trans (foldl_rel_of_step (R := fun a b => FlowOnly a b p) (fun a => flowOnly_refl a p)
          (fun _ _ _ => FlowOnly.trans) (fun a i => ?_) (List.range 8) _)
        split
        · exact flowOnly_setPaused ..
        · exact flowOnly_refl a p
      · exact hdrop

theorem flowOnly_sendPause (s : State) (p q : Nat) : FlowOnly s (sendPause s p q) p := by
  unfold sendPause
  extract_lets f lpbk t
  have ht : FlowOnly s t p := (flowOnly_inc ..).trans (flowOnly_inc ..)
  split
  · exact flowOnly_refl s p
  · split
    · split
      · exact ht.trans <| (flowOnly_inc ..).trans (flowOnly_macControl ..)
      · exact ht
    · exact ht.trans (flowOnly_emit ..)

theorem flowOnly_flowEval (s : State) (p : Nat) : FlowOnly s (flowEval s p) p := by
  obtain ⟨u, hu, h | ⟨q, h | h⟩⟩ := flowEval_cases s p <;> rw [h]
  · exact hu.flowOnly
  · exact hu.flowOnly.trans (flowOnly_sendPause ..)
  · exact hu.flowOnly.trans <| (flowOnly_sendPause ..).trans (flowOnly_raise _ p rfl)

/-- No loop: a PAUSE frame leaves. -/
theorem sendPause_sent {s : State} {p : Nat} (h : s.f PORT_CTL.LPBK p = 0) (q : Nat) :
    sendPause s p q = ((s.inc .PORT_PAUSE_TX p).inc .PORT_TX_FRAMES p).emit (.client p (pauseFrame s p q)) := by
  simp [sendPause, h]

/-- Under a far-end loopback none does (R63). -/
theorem sendPause_held {s : State} {p : Nat} (h : s.f PORT_CTL.LPBK p = 2) (q : Nat) : sendPause s p q = s := by
  simp [sendPause, h]

theorem setsRegs.lpbk {s u : State} {p : Nat} (h : setsRegs s u (flowRegs p)) : u.f PORT_CTL.LPBK p = s.f PORT_CTL.LPBK p :=
  h.only.f (by simp [PORT_CTL.LPBK])

/-- Without a loopback flow control changes of counters only those of frames sent, and no port. -/
theorem flowEval_sent {s : State} {p : Nat} (h : s.f PORT_CTL.LPBK p = 0) :
    (flowEval s p).ports = s.ports ∧ keepsCnts s (flowEval s p) [(.PORT_PAUSE_TX, p), (.PORT_TX_FRAMES, p)] := by
  obtain ⟨u, hu, hc⟩ := flowEval_cases s p
  have hp : u.ports = s.ports := (congrArg State.ports hu.1).trans rfl
  have hn : ∀ c i, u.cnt c i = s.cnt c i := fun c i => by rw [hu.1]; rfl
  have hs : ∀ q, keepsCnts s (sendPause u p q) [(.PORT_PAUSE_TX, p), (.PORT_TX_FRAMES, p)] := fun q c i hm => by
    rw [sendPause_sent (hu.lpbk.trans h)]
    simp only [List.mem_cons, List.not_mem_nil, or_false, Prod.mk.injEq, not_or] at hm
    exact (State.cnt_inc_ne hm.2).trans <| (State.cnt_inc_ne hm.1).trans (hn c i)
  have hports : ∀ q, (sendPause u p q).ports = s.ports := fun q => by
    rw [sendPause_sent (hu.lpbk.trans h)]
    exact hp
  rcases hc with h | ⟨q, h | h⟩ <;> rw [h]
  · exact ⟨hp, fun c i _ => hn c i⟩
  · exact ⟨hports q, hs q⟩
  · exact ⟨hports q, hs q⟩

/-- Under a far-end loopback it writes registers alone. -/
theorem flowEval_held {s : State} {p : Nat} (h : s.f PORT_CTL.LPBK p = 2) : setsRegs s (flowEval s p) (flowRegs p) := by
  obtain ⟨u, hu, hc⟩ := flowEval_cases s p
  have hs : ∀ q, sendPause u p q = u := sendPause_held (hu.lpbk.trans h)
  rcases hc with h | ⟨q, h | h⟩ <;> rw [h]
  · exact hu
  · rw [hs]; exact hu
  · rw [hs]; exact (hu.trans (setsRegs_raise ..)).mono (by simp [PORT_EVT.XOFF_ON])

/-! What the queues of a client port are seen through -/

/-- The registers of ports that nothing of a queue's length or of a classification reads. -/
abbrev portNotes : List Reg := [.PORT_EXP_OCC, .PORT_STATUS, .PORT_EVT]

/-- Queues, contexts and the settings of ports are the same. -/
structure SameQueues (s t : State) : Prop where
  rams : t.rams = s.rams
  blank : t.ctxBlank = s.ctxBlank
  chans : t.chans = s.chans
  field : ∀ (x : Fld) (i : Nat), x.reg ∉ portNotes → t.f x i = s.f x i

section
variable {s t : State} (h : SameQueues s t)
include h

theorem SameQueues.ctx (x : CtxF) (c : Nat) : ctx t x c = ctx s x c := by
  have ha : ∀ w, ctxAddr t c w = ctxAddr s c w := fun w => by
    unfold ctxAddr slotOf
    rw [h.field _ _ (by decide)]
  have hb : ∀ a n, ramBytes t ctxCtl a n = ramBytes s ctxCtl a n := fun a n => by
    unfold ramBytes State.ram ramDefault
    rw [h.rams, h.blank]
  unfold Sys2Proof.Machine.ctx
  rw [ha, hb]

theorem SameQueues.chan (c : Nat) : t.chan c = s.chan c := chan_of_chans h.chans c

theorem SameQueues.chFraming (c : Nat) : chFraming t c = chFraming s c := by
  unfold Sys2Proof.Machine.chFraming chLine framing
  rw [h.ctx, h.field _ _ (by decide)]

theorem SameQueues.lineLen (c : Nat) (f : QFrame) : lineLen t c f = lineLen s c f := by
  unfold Sys2Proof.Machine.lineLen
  rw [h.chFraming, h.ctx]

theorem SameQueues.occupancyOf (p : Nat) (pri : Nat → Bool) : occupancyOf t p pri = occupancyOf s p pri := by
  unfold Sys2Proof.Machine.occupancyOf
  simp only [h.chans, h.lineLen]

theorem SameQueues.occupancyAll (p : Nat) : occupancyAll t p = occupancyAll s p := h.occupancyOf ..

theorem SameQueues.occupancy (p : Nat) : occupancy t p = occupancy s p := by
  unfold Sys2Proof.Machine.occupancy
  rw [h.field _ _ (by decide), h.field _ _ (by decide), h.occupancyOf, h.occupancyAll]

theorem SameQueues.chanOccupancy (c : Nat) : chanOccupancy t c = chanOccupancy s c := by
  unfold Sys2Proof.Machine.chanOccupancy
  simp only [h.chan, h.lineLen]

end

theorem sameQueues_of_setsRegs {s t : State} {l : List (Reg × Nat)} (h : setsRegs s t l) (hl : ∀ r ∈ l, r.1 ∈ portNotes) :
    SameQueues s t where
  rams := (congrArg State.rams h.1).trans rfl
  blank := (congrArg State.ctxBlank h.1).trans rfl
  chans := (congrArg State.chans h.1).trans rfl
  field := fun _ _ hx => h.only.f fun hm => hx (hl _ hm)

theorem sameQueues_notePeak (s : State) (p : Nat) : SameQueues s (notePeak s p) :=
  sameQueues_of_setsRegs (setsRegs_notePeak s p) (by simp)

theorem xoff_notePeak (s : State) (p : Nat) : (notePeak s p).fb PORT_STATUS.XOFF p = s.fb PORT_STATUS.XOFF p :=
  (setsRegs_notePeak s p).only.fb (by simp [PORT_STATUS.XOFF])

theorem pauseFrame_notePeak (s : State) (p q : Nat) : pauseFrame (notePeak s p) p q = pauseFrame s p q := by
  have h := sameQueues_notePeak s p
  unfold pauseFrame
  rw [h.field _ _ (by decide), h.field _ _ (by decide)]

/-- Above XON, with XOFF sent, flow control notes the peak alone. -/
theorem flowEval_above {s : State} {p : Nat} (hx : s.fb PORT_STATUS.XOFF p = true)
    (ho : 1024 * s.f PORT_XON.KIB p < occupancy s p) (hm : s.f PORT_FC.MODE p = 1 ∨ s.f PORT_FC.MODE p = 2) :
    flowEval s p = notePeak s p := by
  have h := sameQueues_notePeak s p
  have hx' : (notePeak s p).fb PORT_STATUS.XOFF p = true := by
    rw [xoff_notePeak]; exact hx
  have ho' : ¬ occupancy (notePeak s p) p ≤ 1024 * (notePeak s p).f PORT_XON.KIB p := by
    rw [h.occupancy, h.field _ _ (by decide)]; exact Nat.not_le.2 ho
  have hm' : (notePeak s p).f PORT_FC.MODE p = 1 ∨ (notePeak s p).f PORT_FC.MODE p = 2 := by
    rw [h.field _ _ (by decide)]; exact hm
  unfold flowEval
  simp only [hx', hm', ho', Bool.not_true, Bool.false_and, Bool.false_eq_true, if_false, if_true, Bool.true_and,
    decide_false, ite_self]

/-- PAUSE_REPEAT above XON sends the frame again (R65). -/
theorem pauseRepeat_sent {s : State} {p : Fin 64} (hm : s.f PORT_FC.MODE p = 1 ∨ s.f PORT_FC.MODE p = 2)
    (hx : s.fb PORT_STATUS.XOFF p = true) (ho : 1024 * s.f PORT_XON.KIB p < occupancy s p) (hl : s.f PORT_CTL.LPBK p = 0) :
    exec (.pauseRepeat p) s = .next
      (((((notePeak s p).inc .PORT_PAUSE_TX p).inc .PORT_TX_FRAMES p)).emit (.client p (pauseFrame s p 0xFFFF))) := by
  have hx' : (notePeak s p).fb PORT_STATUS.XOFF p = true := by
    rw [xoff_notePeak]; exact hx
  show execPauseRepeat p s = _
  unfold execPauseRepeat
  rw [flowEval_above hx ho hm]
  simp only [hx', if_true]
  rw [sendPause_sent (by rw [(sameQueues_notePeak s p).field _ _ (by decide)]; exact hl), pauseFrame_notePeak]

/-- PAUSE_REPEAT under a far-end loopback writes registers alone (R63). -/
theorem pauseRepeat_held {s : State} {p : Fin 64} (hl : s.f PORT_CTL.LPBK p = 2) :
    exec (.pauseRepeat p) s = .next (flowEval s p) := by
  have hl' : (flowEval s p).f PORT_CTL.LPBK p = 2 := (flowEval_held hl).lpbk.trans hl
  show execPauseRepeat p s = _
  unfold execPauseRepeat
  simp only [sendPause_held hl', ite_self]

/-! The statements on MAC control frames and quanta -/

section
variable {s : State} {p : Fin 64} {f : List Byte}

theorem counted_inc (s : State) (c : Ctr) (i : Nat) : counted s (s.inc c i) c i := State.cnt_inc

/-- Two different counters count. -/
theorem counted_inc_ne {s t : State} {c d : Ctr} {i j : Nat} (h : counted s t c i) (hd : ¬ (c = d ∧ i = j)) :
    counted s (t.inc d j) c i := (State.cnt_inc_ne hd).trans h

theorem cnt_setPaused (s : State) (p i v : Nat) (c : Ctr) (j : Nat) : (setPaused s p i v).cnt c j = s.cnt c j := rfl

/-- A PAUSE frame sets the quanta of the port. -/
theorem macControlRx_pause (hp : p.val < 32) (hs : 64 ≤ f.length ∧ f.length ≤ 9600) (hh : hears s p = true)
    (hg : fcsGood f = true) (ho : beAt f 14 2 = 1) (hq : beAt f 16 2 ≠ 0) :
    ∃ t, exec (.macControlFrameRx p f) s = .next t ∧ quantaOf t p 8 = some (beAt f 16 2) ∧
      (∀ k : Nat, k < 8 → quantaOf t p k = quantaOf s p k) ∧
      counted s t .PORT_PAUSE_RX p ∧ counted s t .PORT_RX_FRAMES p ∧
      t = { s with cnts := t.cnts, ports := t.ports } := by
  rw [macControlRx_good hp hs hh hg, macControl_pause hp ho]
  refine ⟨_, rfl, ?_, fun k hk => ?_, ?_, ?_, rfl⟩
  · rw [quantaOf_setPaused, if_pos rfl, if_neg hq]
  · rw [quantaOf_setPaused, if_neg (by omega)]
    rfl
  · rw [counted, cnt_setPaused, State.cnt_inc, State.cnt_inc_ne (by simp)]
  · rw [counted, cnt_setPaused]
    exact counted_inc_ne (counted_inc ..) (by simp)

/-- A PFC frame sets the quanta of the priorities that it names. -/
theorem macControlRx_pfc {n : Fin 8} (hp : p.val < 32) (hs : 64 ≤ f.length ∧ f.length ≤ 9600) (hh : hears s p = true)
    (hg : fcsGood f = true) (ho : beAt f 14 2 = 0x0101) (hq : beAt f (18 + 2 * n) 2 ≠ 0) (hn : bitAt (beAt f 16 2) n = true) :
    ∃ t, exec (.macControlFrameRx p f) s = .next t ∧ quantaOf t p n = some (beAt f (18 + 2 * n) 2) ∧
      counted s t .PORT_PAUSE_RX p ∧ t = { s with cnts := t.cnts, ports := t.ports } := by
  rw [macControlRx_good hp hs hh hg, macControl_pfc hp ho]
  have hfr := setQuanta_ports ((s.inc .PORT_RX_FRAMES p).inc .PORT_PAUSE_RX p) p (bitAt (beAt f 16 2))
    (fun i => beAt f (18 + 2 * i) 2) (List.range 8)
  refine ⟨_, rfl, ?_, ?_, ?_⟩
  · rw [quantaOf_setQuanta, if_pos ⟨List.mem_range.2 n.isLt, hn⟩, if_neg hq]
  · rw [hfr]
    show ((s.inc .PORT_RX_FRAMES p).inc .PORT_PAUSE_RX p).cnt _ _ = _
    rw [State.cnt_inc, State.cnt_inc_ne (by simp)]
  · rw [hfr]
    rfl

/-- Another MAC control frame is dropped and counted (R69). -/
theorem macControlRx_other (hp : p.val < 32) (hs : 64 ≤ f.length ∧ f.length ≤ 9600) (hh : hears s p = true)
    (hg : fcsGood f = true) (h1 : beAt f 14 2 ≠ 1) (h2 : beAt f 14 2 ≠ 0x0101) :
    ∃ t, exec (.macControlFrameRx p f) s = .next t ∧ counted s t .PORT_CTL_DROP p ∧ t.fb PORT_EVT.CTL_DROP p = true ∧
      onlyRegs s t [(.PORT_EVT, p)] [(.PORT_CTL_DROP, p), (.PORT_RX_FRAMES, p)] := by
  rw [macControlRx_good hp hs hh hg, macControl_other h1 h2]
  refine ⟨_, rfl, ?_, State.fb_raise (by decide) rfl, rfl, (setsRegs_raise _ PORT_EVT.CTL_DROP p).2, fun c i hm => ?_⟩
  · show ((s.inc .PORT_RX_FRAMES p).inc .PORT_CTL_DROP p).cnt _ _ = _
    rw [State.cnt_inc, State.cnt_inc_ne (by simp)]
  · simp only [List.mem_cons, List.not_mem_nil, or_false, Prod.mk.injEq, not_or] at hm
    exact (State.cnt_inc_ne hm.1).trans (State.cnt_inc_ne hm.2)

/-- PAUSE_QUANTA_EXPIRY without a priority ends a PAUSE. -/
theorem pauseExpiry_pause (s : State) (p : Fin 64) :
    ∃ t, exec (.pauseQuantaExpiry p 0) s = .next t ∧ quantaOf t p 8 = none ∧
      (∀ k : Nat, k < 8 → quantaOf t p k = quantaOf s p k) ∧
      t = { s with ports := t.ports } := by
  refine ⟨setPaused s p 8 0, rfl, ?_, fun k hk => ?_, rfl⟩
  · rw [quantaOf_setPaused, if_pos rfl, if_pos rfl]
  · rw [quantaOf_setPaused, if_neg (by omega)]

/-- With priorities it ends theirs. -/
theorem pauseExpiry_pfc (s : State) (p : Fin 64) {pri : BitVec 8} {n : Fin 8} (hn : pri.getLsbD n = true) :
    ∃ t, exec (.pauseQuantaExpiry p pri) s = .next t ∧ quantaOf t p n = none ∧ quantaOf t p 8 = quantaOf s p 8 ∧
      t = { s with ports := t.ports } := by
  have h0 : pri ≠ 0 := fun h => by simp [h] at hn
  refine ⟨setQuanta s p pri.getLsbD (fun _ => 0) (List.range 8), ?_, ?_, ?_, setQuanta_ports ..⟩
  · show execPauseQuantaExpiry p pri s = _
    rw [execPauseQuantaExpiry, if_neg h0]
    rfl
  · rw [quantaOf_setQuanta, if_pos ⟨List.mem_range.2 n.isLt, hn⟩, if_pos rfl]
  · rw [quantaOf_setQuanta, if_neg (by simp)]

end

/-- A write of a table changes nothing among the keys that a choice leaves out. -/
theorem SMap.filter_set {α : Type} [DecidableEq α] {d : Nat → α} {q : Nat → Bool} {k : Nat} (h : q k = false)
    (m : SMap α) (v : α) :
    (SMap.set d m k v).filter (fun e => q e.1) = m.filter fun e => q e.1 := by
  have he : (SMap.erase m k).filter (fun e => q e.1) = m.filter fun e => q e.1 := by
    rw [SMap.erase, List.filter_filter]
    refine List.filter_congr fun e _ => ?_
    by_cases hk : e.1 = k
    · rw [hk, h]; rfl
    · simp [hk]
  have hi : ∀ m : SMap α, (SMap.insert k v m).filter (fun e => q e.1) = m.filter fun e => q e.1 := fun m => by
    induction m with
    | nil => simp [SMap.insert, h]
    | cons e m ih =>
      rw [SMap.insert]
      split
      · rw [List.filter_cons_of_neg (by simp [h])]
      · rw [List.filter_cons, List.filter_cons, ih]
  unfold SMap.set
  split
  · exact he
  · rw [hi, he]

/-- A register other than CH_STATUS does not tell the busy channels. -/
theorem busyChannels_setReg (s : State) {r : Reg} (hr : r ≠ .CH_STATUS) (i : Nat) (v : Word) :
    busyChannels (s.setReg r i v) = busyChannels s := by
  have hk : (r.key i % Reg.count == Reg.CH_STATUS.ctorIdx) = false := by
    rw [beq_eq_false_iff_ne]
    intro h
    have h1 := r.ctorIdx_lt
    have h2 : Reg.CH_STATUS.ctorIdx < 213 := Reg.ctorIdx_lt _
    have hc : Reg.count = 213 := rfl
    have hkey : r.key i = Reg.CH_STATUS.key i := by
      unfold Reg.key at *
      rw [hc] at h
      omega
    exact hr (Reg.key_inj hkey).1
  have hf : ((s.setReg r i v).regs.filter fun e => e.1 % Reg.count == Reg.CH_STATUS.ctorIdx) =
      s.regs.filter fun e => e.1 % Reg.count == Reg.CH_STATUS.ctorIdx :=
    SMap.filter_set (q := fun k => k % Reg.count == Reg.CH_STATUS.ctorIdx) hk s.regs v
  have hs : ∀ c, chState (s.setReg r i v) c = chState s c := fun c =>
    State.f_setReg_ne fun h => hr h.1.symm
  unfold busyChannels
  rw [hf]
  simp only [hs]

/-! What the classifier is seen through (R130, R131) -/

section
variable {s t : State} (h : SameQueues s t) (hb : busyChannels t = busyChannels s)
include h

theorem SameQueues.hasMatch (c p : Nat) : hasMatch t c p = hasMatch s c p := by
  have hsh : shadows t = shadows s := by
    unfold shadows State.mode
    rw [h.field _ _ (by decide), h.field _ _ (by decide)]
  unfold Sys2Proof.Machine.hasMatch chState
  rw [h.field _ _ (by decide), hsh, h.chFraming, h.ctx]

include hb

theorem SameQueues.matching (p q : Nat) : matching t p q = matching s p q := by
  unfold Sys2Proof.Machine.matching
  simp only [hb, h.hasMatch, h.ctx]

theorem SameQueues.classify (hl : t.lost = s.lost) (p v q : Nat) : classify t p v q = classify s p v q := by
  have he : entryGood t egressEnt = entryGood s egressEnt := funext fun c => by unfold entryGood; rw [hl]
  unfold Sys2Proof.Machine.classify
  simp only [h.matching hb, he, h.ctx]

end

/-! The FEC counts of a frame (R48, R79) -/

theorem addCnt_ne (s : State) {c d : Ctr} {i j : Nat} (n : Nat) (h : ¬ (d = c ∧ j = i)) :
    (s.addCnt c i n).cnt d j = s.cnt d j := by
  rw [State.addCnt, State.cnt_setCnt, if_neg h]

theorem addCnt_self (s : State) (c : Ctr) (i n : Nat) :
    (s.addCnt c i n).cnt c i = BitVec.ofNat 64 (satAdd 64 (s.cnt c i).toNat n) := by
  rw [State.addCnt, State.cnt_setCnt_self]

/-- The counters of a port's FEC decoder take what it counted. -/
def addFec (s : State) (p : Nat) (x : FecCount) : State :=
  ((s.addCnt .PORT_FEC_CORR p x.corr).addCnt .PORT_FEC_UNCORR p x.uncorr).addCnt .PORT_FEC_SYM p x.sym

theorem keepsCnts_addFec (s : State) (p : Nat) (x : FecCount) : keepsCnts s (addFec s p x) (fecCnts p) := by
  intro c i hm
  simp only [fecCnts, List.mem_cons, List.not_mem_nil, or_false, Prod.mk.injEq, not_or] at hm
  exact (addCnt_ne _ _ hm.2.2).trans <| (addCnt_ne _ _ hm.2.1).trans (addCnt_ne _ _ hm.1)

theorem addFec_uncorr (s : State) (p : Nat) (x : FecCount) : (addFec s p x).cnt .PORT_FEC_UNCORR p =
    BitVec.ofNat 64 (satAdd 64 (s.cnt .PORT_FEC_UNCORR p).toNat x.uncorr) := by
  rw [addFec, addCnt_ne _ _ (by simp), addCnt_self, addCnt_ne _ _ (by simp)]

theorem countFec_cases (s : State) (p : Nat) (x : FecCount) :
    countFec s p x = s ∨ countFec s p x = addFec s p x ∨ countFec s p x = (addFec s p x).raise PORT_EVT.FEC_UNCORR p := by
  unfold countFec
  split
  · split
    · exact .inr (.inl rfl)
    · exact .inr (.inr rfl)
  · exact .inl rfl

/-- The FEC counts of a frame change nothing else. -/
theorem countFec_only (s : State) (p : Nat) (x : FecCount) : onlyRegs s (countFec s p x) [(.PORT_EVT, p)] (fecCnts p) := by
  have hf : onlyRegs s (addFec s p x) [(.PORT_EVT, p)] (fecCnts p) := ⟨rfl, fun _ _ _ => rfl, keepsCnts_addFec s p x⟩
  rcases countFec_cases s p x with h | h | h <;> rw [h]
  · exact onlyRegs_refl s
  · exact hf
  · exact hf.step (setsRegs_raise _ _ p).only (by simp [PORT_EVT.FEC_UNCORR]) (by simp)

theorem countFec_busy (s : State) (p : Nat) (x : FecCount) : busyChannels (countFec s p x) = busyChannels s := by
  rcases countFec_cases s p x with h | h | h <;> rw [h]
  · rfl
  · exact busyChannels_setReg _ (by decide) _ _

theorem onlyRegs.sameQueues {s t : State} {l : List (Reg × Nat)} {cs : List (Ctr × Nat)} (h : onlyRegs s t l cs)
    (hl : ∀ r ∈ l, r.1 ∈ portNotes) : SameQueues s t where
  rams := (congrArg State.rams h.1).trans rfl
  blank := (congrArg State.ctxBlank h.1).trans rfl
  chans := (congrArg State.chans h.1).trans rfl
  field := fun _ _ hx => h.f fun hm => hx (hl _ hm)

/-! Frames received on a client port (R29) -/

theorem meetEntries_none {s : State} (h : s.lost = []) (ts : List TableEnt) (code : Nat) : meetEntries s ts code = s :=
  foldl_fixed_of_mem fun t _ => by rw [meetEntry, h]; rfl

section
variable {s : State} {p : Nat} {f : List Byte} {n : Staged}

theorem hears_of_only {t : State} {cs : List (Ctr × Nat)} (h : onlyRegs s t [(.PORT_EVT, p)] cs) : hears t p = hears s p := by
  unfold hears receiving provisioned linkUp
  rw [h.fb (by simp [PORT_STATUS.PROV]), h.fb (by simp [PORT_STATUS.LINK]), h.fb (by simp [PORT_STATUS.HOLD]),
    h.f (by simp [PORT_CTL.LPBK])]

/-- A frame with a bad FCS or size counts as such alone. -/
theorem clientRx_bad (ho : framing s p ≠ frOtn) (h : fcsGood f = false ∨ f.length < 64 ∨ 9600 < f.length) :
    clientRx s p f n = s.inc .PORT_FCS_ERR p := by
  have hb : (!fcsGood f || f.length < 64 || f.length > 9600) = true := by
    simp only [Bool.or_eq_true, Bool.not_eq_true', decide_eq_true_eq]
    tauto
  rw [clientRx, if_neg ho, if_pos hb]

/-- A frame that the port takes and that is no MAC control frame. -/
abbrev takenFrame (f : List Byte) : Prop := fcsGood f = true ∧ 64 ≤ f.length ∧ f.length ≤ 9600 ∧ beAt f 12 2 ≠ 0x8808

/-- The frame of a client without its FCS. -/
abbrev clientFrame (f : List Byte) : List Byte := f.take (f.length - 4)

theorem takenFrame.sized {f : List Byte} (h : takenFrame f) : ¬ (!fcsGood f || f.length < 64 || f.length > 9600) = true := by
  obtain ⟨hf, h1, h2, -⟩ := h
  simp [hf, h1, h2]

/-- A frame that a channel matches goes on through the slice buffer to the channel's queue. -/
theorem clientRx_some {c : Nat} (ho : framing s p ≠ frOtn) (h : takenFrame f) (hl : s.lost = [])
    (hc : classify (s.inc .PORT_RX_FRAMES p) p (vlanOf (clientFrame f)).1 (vlanOf (clientFrame f)).2 = some c) :
    clientRx s p f n = throughSlice (s.inc .PORT_RX_FRAMES p) p false (clientFrame f) n
      fun s fr => enqueueFrame s c p (vlanOf (clientFrame f)).2 fr := by
  rw [clientRx, if_neg ho, if_neg h.sized]
  dsimp only
  rw [if_neg h.2.2.2, meetEntries_none (show (s.inc .PORT_RX_FRAMES p).lost = [] from hl), hc]

/-- A frame that no channel matches. -/
theorem clientRx_none (ho : framing s p ≠ frOtn) (h : takenFrame f) (hl : s.lost = [])
    (hc : classify (s.inc .PORT_RX_FRAMES p) p (vlanOf (clientFrame f)).1 (vlanOf (clientFrame f)).2 = none) :
    clientRx s p f n = noClass (s.inc .PORT_RX_FRAMES p) p (clientFrame f) n := by
  rw [clientRx, if_neg ho, if_neg h.sized]
  dsimp only
  rw [if_neg h.2.2.2, meetEntries_none (show (s.inc .PORT_RX_FRAMES p).lost = [] from hl), hc]

end

section
variable {s : State} {p : Fin 64} {f : List Byte} {n : Staged} {fec : FecCount}

/-- CLIENT_FRAME_RX on a client port that hears. -/
theorem clientFrameRx_eq (hp : p.val < 32) (hh : hears s p = true) :
    exec (.clientFrameRx p f ⟨fec, n⟩) s = .next (clientRx (countFec s p fec) p f n) := by
  have hh' : hears (countFec s p fec) p = true := (hears_of_only (countFec_only s p fec)).trans hh
  show execClientFrameRx p f ⟨fec, n⟩ s = _
  simp only [execClientFrameRx, isLine_of_client hp, hh', Bool.false_eq_true, if_false, if_true]

/-- A frame is counted with its FEC counts. -/
def rxCounted (s : State) (p : Nat) (fec : FecCount) : State := (countFec s p fec).inc .PORT_RX_FRAMES p

theorem rxCounted_only (s : State) (p : Nat) (fec : FecCount) :
    onlyRegs s (rxCounted s p fec) [(.PORT_EVT, p)] ((.PORT_RX_FRAMES, p) :: fecCnts p) := by
  have h := countFec_only s p fec
  exact (h.mono (List.Subset.refl _) (by simp)).step (onlyRegs_inc _ .PORT_RX_FRAMES p) (by simp) (by simp)

theorem rxCounted_counts (s : State) (p : Nat) (fec : FecCount) : counted s (rxCounted s p fec) .PORT_RX_FRAMES p := by
  rw [counted, rxCounted, State.cnt_inc, (countFec_only s p fec).2.2 _ _ (by simp [fecCnts])]

theorem rxCounted_classify (s : State) (p : Nat) (fec : FecCount) (q v i : Nat) :
    classify (rxCounted s p fec) q v i = classify s q v i := by
  have h := rxCounted_only s p fec
  exact (h.sameQueues (by simp)).classify (countFec_busy s p fec) ((congrArg State.lost h.1).trans rfl) ..

theorem framing_countFec (s : State) (p : Nat) (fec : FecCount) : framing (countFec s p fec) p = framing s p :=
  (countFec_only s p fec).f (by simp [PORT_CFG.FRAMING])

theorem lost_countFec (s : State) (p : Nat) (fec : FecCount) : (countFec s p fec).lost = s.lost :=
  (congrArg State.lost (countFec_only s p fec).1).trans rfl

/-- CLIENT_FRAME_RX of a frame that a channel matches. -/
theorem clientFrameRx_some {c : Nat} (hp : p.val < 32) (hh : hears s p = true) (ho : framing s p ≠ frOtn) (h : takenFrame f)
    (hl : s.lost = []) (hc : classify s p (vlanOf (clientFrame f)).1 (vlanOf (clientFrame f)).2 = some c) :
    exec (.clientFrameRx p f ⟨fec, n⟩) s = .next (throughSlice (rxCounted s p fec) p false (clientFrame f) n
      fun s fr => enqueueFrame s c p (vlanOf (clientFrame f)).2 fr) := by
  rw [clientFrameRx_eq hp hh, clientRx_some ((framing_countFec ..).trans_ne ho) h ((lost_countFec ..).trans hl)
    ((rxCounted_classify ..).trans hc)]
  rfl

/-- CLIENT_FRAME_RX of a frame that no channel matches. -/
theorem clientFrameRx_none (hp : p.val < 32) (hh : hears s p = true) (ho : framing s p ≠ frOtn) (h : takenFrame f)
    (hl : s.lost = []) (hc : classify s p (vlanOf (clientFrame f)).1 (vlanOf (clientFrame f)).2 = none) :
    exec (.clientFrameRx p f ⟨fec, n⟩) s = .next (noClass (rxCounted s p fec) p (clientFrame f) n) := by
  rw [clientFrameRx_eq hp hh, clientRx_none ((framing_countFec ..).trans_ne ho) h ((lost_countFec ..).trans hl)
    ((rxCounted_classify ..).trans hc)]
  rfl

end

/-! The slice buffer on the way (R15, R408) -/

/-- A frame was written to one half of the slice buffer of its port. -/
def stagedIn (s : State) (p : Nat) (ingress : Bool) (f : List Byte) : State :=
  s.setSlice (anchor p) ((s.slice (anchor p)).setHalf ingress (((s.slice (anchor p)).half ingress).put f))

theorem passedBuffer_stagedIn (s : State) (p : Nat) (ingress : Bool) (f : List Byte) :
    passedBuffer s (stagedIn s p ingress f) p ingress f :=
  ⟨State.slice_setSlice.trans (if_pos rfl), fun _ hj => State.slice_setSlice.trans (if_neg hj)⟩

theorem passedBuffer_congr {s t u v : State} {p : Nat} {ingress : Bool} {f : List Byte} (h : passedBuffer s t p ingress f)
    (hs : u.slices = s.slices) (ht : v.slices = t.slices) : passedBuffer u v p ingress f := by
  have e : ∀ {a b : State}, a.slices = b.slices → ∀ j, a.slice j = b.slice j := fun h j => congrArg (SMap.get _ · j) h
  exact ⟨by rw [e ht, e hs]; exact h.1, fun j hj => by rw [e ht, e hs]; exact h.2 j hj⟩

/-- A frame that nothing befalls goes on. -/
theorem throughSlice_clean (s : State) (p : Nat) (ingress : Bool) {f : List Byte} (h : f.length ≤ stageBytes)
    (k : State → List Byte → State) : throughSlice s p ingress f .clean k = k (stagedIn s p ingress f) f := by
  simp only [throughSlice, stageFrame_clean s (anchor p) ingress h]
  rfl

/-- One with an uncorrectable word is discarded. -/
theorem throughSlice_bad (s : State) (p : Nat) (ingress : Bool) (f : List Byte) (w : Nat) (wrong : List Nat)
    (k : State → List Byte → State) : throughSlice s p ingress f (.bad w wrong) k =
      dpDiscard (((appendLog (stagedIn s p ingress f) (71 + halfOf (anchor p)) (logEntry (stagedIn s p ingress f)
        (71 + halfOf (anchor p)) kindUE 0 false codeQueue [] wrong w)).inc .MEM_UE (71 + halfOf (anchor p))).raise MEM_EVT.UE
        (71 + halfOf (anchor p))) (halfOf (anchor p)) := rfl

/-! Admission to a channel's queue (R65, R155) -/

section
variable {s : State} {c p pri : Nat} {fr : List Byte}

/-- The entry of a frame in a queue, as its length on the line is reckoned before it is stored. -/
abbrev entryOf (fr : List Byte) (p pri : Nat) : QFrame := ⟨fr.length, p, pri, 0, []⟩

/-- A frame over the port's limit is dropped and counted. -/
theorem enqueueFrame_over (h : 1024 * s.f PORT_EXP_LIMIT.KIB p < occupancyAll s p + lineLen s c (entryOf fr p pri)) :
    enqueueFrame s c p pri fr = ((chCount s c cOutDropQ 1).inc .PORT_EXP_DROP p).raise PORT_EVT.EXP_DROP p := by
  unfold enqueueFrame
  simp only [decide_eq_true h, Bool.true_or, if_true]

/-- A channel of MACsec Seal packs no bales. -/
theorem packChannel_macsec (h : chFraming s c = frMacsec) : packChannel s c = s := by
  rw [packChannel, h, if_neg (by simp [frMacsec, frBale])]

theorem FlowOnly.sameQueues {t : State} (h : FlowOnly s t p) : SameQueues s t where
  rams := (congrArg State.rams h.frame).trans rfl
  blank := (congrArg State.ctxBlank h.frame).trans rfl
  chans := (congrArg State.chans h.frame).trans rfl
  field := fun x i hx => by
    have hm : (x.reg, i) ∉ flowRegs p := fun hm => hx (by
      simp only [List.mem_cons, List.not_mem_nil, or_false, Prod.mk.injEq] at hm
      simp only [List.mem_cons, List.not_mem_nil, or_false]
      tauto)
    rw [State.f, h.regs _ _ hm, State.f]

/-- A frame joins a channel's queue. -/
def joinsQueue (s : State) (c : Nat) (q : QFrame) : State := s.setChan c { s.chan c with eq := (s.chan c).eq ++ [q] }

/-- A frame that fits both limits joins the queue. -/
theorem enqueueFrame_fits {q : QFrame} {t : State} (ht : ctxBit s Ctx.TFC_EN c = false)
    (hk : ctx s Ctx.MARK_KIB c = 0)
    (h1 : occupancyAll s p + lineLen s c (entryOf fr p pri) ≤ 1024 * s.f PORT_EXP_LIMIT.KIB p)
    (h2 : chanOccupancy s c + lineLen s c (entryOf fr p pri) ≤ 1024 * ctx s Ctx.EQ_LIMIT c)
    (hb : bufStore s (s.chan c).eq (halfOf (anchor p)) p pri fr = some (q, t)) (hf : chFraming t c = frMacsec) :
    enqueueFrame s c p pri fr = flowEval (joinsQueue t c q) p := by
  have full : decide (occupancyAll s p + lineLen s c (entryOf fr p pri) > 1024 * s.f PORT_EXP_LIMIT.KIB p) = false :=
    decide_eq_false (by omega)
  have deep : decide (chanOccupancy s c + lineLen s c (entryOf fr p pri) > 1024 * ctx s Ctx.EQ_LIMIT c) = false :=
    decide_eq_false (by omega)
  have hpack : chFraming (flowEval (joinsQueue t c q) p) c = frMacsec :=
    ((flowOnly_flowEval (joinsQueue t c q) p).sameQueues.chFraming c).trans hf
  unfold enqueueFrame
  simp only [full, deep, ht, hk, Bool.false_and, Bool.or_false, ne_eq, not_true_eq_false, false_and, if_false, Option.getD_none,
    hb, Option.isSome_none, Bool.false_eq_true]
  exact packChannel_macsec hpack

end

/-- A context is seen through the bytes of context memory. -/
theorem ctx_of_bytes {s t : State} (h : onlyRams s t) (hb : ∀ a, memByte t ctxCtl a = memByte s ctxCtl a) (x : CtxF) (c : Nat) :
    ctx t x c = ctx s x c := by
  rw [ctx_eq, ctx_eq]
  unfold fieldRead
  rw [h.ctxAddr, ramBytes_congr fun i _ => hb _]

theorem memByte_congr {s t : State} (hr : t.rams = s.rams) (hb : t.ctxBlank = s.ctxBlank) (k a : Nat) :
    memByte t k a = memByte s k a := by
  unfold memByte State.ram ramDefault
  rw [hr, hb]

theorem frameBytes_congr {s t : State} (hr : t.rams = s.rams) (hb : t.ctxBlank = s.ctxBlank) (f : QFrame) :
    frameBytes t f = frameBytes s f := by
  unfold frameBytes
  simp only [ramBytes_eq, memByte_congr hr hb]

/-- A frame's place in buffer memory is none of context memory's. -/
theorem frameRanges_ctx {s t : State} {q : QFrame} (h : keepsMem s t (frameRanges q)) (a : Nat) :
    memByte t ctxCtl a = memByte s ctxCtl a := by
  refine h ctxCtl a fun r hr => ?_
  obtain ⟨r', -, rfl⟩ := List.mem_map.1 hr
  simp only [ctxCtl]
  omega

/-- What is held for a counter of a channel. -/
theorem pends_of_held {s t : State} (h : t.cntPend = s.cntPend) (c i : Nat) : pends t c i = pends s c i := by rw [pends, h]; rfl

theorem pends_chCount (s : State) (c i n d j : Nat) :
    pends (chCount s c i n) d j = if 16 * d + j = 16 * c + i then pends s c i + n else pends s d j := by
  simp only [pends, chCount, SMap.get_set]

theorem pends_chCount_self (s : State) (c i n : Nat) : pends (chCount s c i n) c i = pends s c i + n :=
  (pends_chCount ..).trans (if_pos rfl)

/-- A counted frame after the slice buffer. -/
structure RxTaken (s u : State) (p : Nat) (fr : List Byte) : Prop where
  frame : u = { s with regs := u.regs, cnts := u.cnts, slices := u.slices }
  regs : keepsRegs s u [(.PORT_EVT, p)]
  cnts : keepsCnts s u ((.PORT_RX_FRAMES, p) :: fecCnts p)
  counts : counted s u .PORT_RX_FRAMES p
  passed : passedBuffer s u p false fr

theorem rxTaken (s : State) (p : Nat) (fec : FecCount) (fr : List Byte) :
    RxTaken s (stagedIn (rxCounted s p fec) p false fr) p fr := by
  have h := rxCounted_only s p fec
  have hs : (rxCounted s p fec).slices = s.slices := (congrArg State.slices h.1).trans rfl
  refine ⟨?_, h.2.1, h.2.2, rxCounted_counts s p fec, passedBuffer_congr (passedBuffer_stagedIn ..) hs.symm rfl⟩
  rw [stagedIn, h.1]
  rfl

section
variable {s u : State} {p : Nat} {fr : List Byte} (h : RxTaken s u p fr)
include h

theorem RxTaken.sameQueues : SameQueues s u where
  rams := (congrArg State.rams h.frame).trans rfl
  blank := (congrArg State.ctxBlank h.frame).trans rfl
  chans := (congrArg State.chans h.frame).trans rfl
  field := fun x i hx => by
    have hm : (x.reg, i) ∉ [(Reg.PORT_EVT, p)] := fun hm => hx (by
      simp only [List.mem_cons, List.not_mem_nil, or_false, Prod.mk.injEq] at hm
      simp only [List.mem_cons, List.not_mem_nil, or_false]
      tauto)
    rw [State.f, h.regs _ _ hm, State.f]

theorem RxTaken.quiet {k : Nat} (hq : memQuiet s k) : memQuiet u k :=
  ⟨((congrArg State.errs h.frame).trans rfl).trans hq.1, (h.sameQueues.field _ _ (by decide)).trans hq.2⟩

theorem RxTaken.room {half n : Nat} {q : List QFrame} (hr : hasRoom s half q n) : hasRoom u half q n := by
  have ht : takenPages u half = takenPages s half := by rw [h.frame]; rfl
  have hh : halfPages u = halfPages s := by rw [h.frame]; rfl
  rw [hasRoom, ht, hh]
  exact hr

/-- Over the port's limit the frame is dropped with its counter and its event. -/
theorem RxTaken.over {c : Nat} (ho : 1024 * s.f PORT_EXP_LIMIT.KIB p < occupancyAll s p + lineLen s c (entryOf fr p pri)) :
    let t := enqueueFrame u c p pri fr
    passedBuffer s t p false fr ∧ counted s t .PORT_EXP_DROP p ∧ t.fb PORT_EVT.EXP_DROP p = true ∧
      pends t c cOutDropQ = pends s c cOutDropQ + 1 ∧
      t = { s with regs := t.regs, cnts := t.cnts, cntPend := t.cntPend, slices := t.slices } ∧
      keepsRegs s t [(.PORT_EVT, p)] ∧ keepsCnts s t ([(.PORT_EXP_DROP, p), (.PORT_RX_FRAMES, p)] ++ fecCnts p) := by
  have hq := h.sameQueues
  have ho' : 1024 * u.f PORT_EXP_LIMIT.KIB p < occupancyAll u p + lineLen u c (entryOf fr p pri) := by
    rw [hq.field _ _ (by decide), hq.occupancyAll, hq.lineLen]
    exact ho
  rw [enqueueFrame_over ho']
  have hp : u.cntPend = s.cntPend := (congrArg State.cntPend h.frame).trans rfl
  refine ⟨passedBuffer_congr h.passed rfl rfl, ?_, State.fb_raise (by decide) rfl, ?_, ?_, ?_, ?_⟩
  · show ((chCount u c cOutDropQ 1).inc .PORT_EXP_DROP p).cnt .PORT_EXP_DROP p = _
    rw [State.cnt_inc]
    show BitVec.ofNat 64 (satAdd 64 (u.cnt .PORT_EXP_DROP p).toNat 1) = _
    rw [h.cnts _ _ (by simp [fecCnts])]
  · exact (pends_chCount_self u c cOutDropQ 1).trans (congrArg (· + 1) (pends_of_held hp c cOutDropQ))
  · rw [h.frame]
    rfl
  · exact fun r i hm => ((setsRegs_raise _ PORT_EVT.EXP_DROP p).2 r i hm).trans (h.regs r i hm)
  · intro c' i hm
    simp only [List.cons_append, List.nil_append, List.mem_cons, Prod.mk.injEq, not_or] at hm
    refine (State.cnt_inc_ne hm.1).trans (h.cnts c' i ?_)
    simp only [List.mem_cons, Prod.mk.injEq, not_or]
    exact ⟨hm.2.1, hm.2.2⟩

/-- A frame that fits both limits joins its channel's queue, and stands in the port's buffer half. -/
theorem RxTaken.fits {c : Nat} (hp : p < 32) (hm : chFraming s c = frMacsec) (ht : ctxBit s Ctx.TFC_EN c = false)
    (hk : ctx s Ctx.MARK_KIB c = 0) (hl : s.f PORT_CTL.LPBK p = 0) (hlen : fr.length ≤ 9600)
    (h1 : occupancyAll s p + lineLen s c (entryOf fr p pri) ≤ 1024 * s.f PORT_EXP_LIMIT.KIB p)
    (h2 : chanOccupancy s c + lineLen s c (entryOf fr p pri) ≤ 1024 * ctx s Ctx.EQ_LIMIT c)
    (hr : hasRoom s (halfOf p) (s.chan c).eq 1) (hq : memQuiet s (71 + halfOf p)) :
    let t := enqueueFrame u c p pri fr
    passedBuffer s t p false fr ∧ ∃ q, t.chan c = { s.chan c with eq := (s.chan c).eq ++ [q] } ∧ keepsChans s t c ∧
      q.len = fr.length ∧ q.port = p ∧ q.pri = pri ∧ q.half = halfOf p ∧ bufFetch t q = (fr, false, t) ∧
      keepsMem s t (frameRanges q) ∧ counted s t .PORT_RX_FRAMES p ∧
      t = { s with regs := t.regs, cnts := t.cnts, chans := t.chans, out := t.out, slices := t.slices, rams := t.rams,
                   valid := t.valid, memCtl := t.memCtl } ∧
      keepsRegs s t [(.PORT_EXP_OCC, p), (.PORT_STATUS, p), (.PORT_EVT, p)] ∧
      keepsCnts s t ([(.PORT_RX_FRAMES, p), (.PORT_PAUSE_TX, p), (.PORT_TX_FRAMES, p)] ++ fecCnts p) := by
  have hs := h.sameQueues
  have hanchor : anchor p = p := Nat.mod_eq_of_lt hp
  obtain ⟨q, v, hb, hqlen, hqport, hqpri, hqhalf, hv, hmem, hbytes⟩ :=
    bufStore_quiet (q := (u.chan c).eq) (h.quiet hq) (by rw [hs.chan]; exact h.room hr) hlen p pri
  have hvf : chFraming v c = frMacsec := by
    have hctx := ctx_of_bytes hv (frameRanges_ctx hmem)
    unfold chFraming chLine framing at *
    rw [hctx, hv.f, hs.ctx, hs.field _ _ (by decide)]
    exact hm
  rw [enqueueFrame_fits (q := q) (t := v) (by rw [ctxBit, hs.ctx]; exact ht) ((hs.ctx ..).trans hk)
    (by rw [hs.occupancyAll, hs.lineLen, hs.field _ _ (by decide)]; exact h1)
    (by rw [hs.chanOccupancy, hs.lineLen, hs.ctx]; exact h2) (by rw [hanchor]; exact hb) hvf]
  have hw : (joinsQueue v c q).f PORT_CTL.LPBK p = 0 := (hv.f ..).trans ((hs.field _ _ (by decide)).trans hl)
  obtain ⟨hports, hcnts⟩ := flowEval_sent hw
  have hflow := flowOnly_flowEval (joinsQueue v c q) p
  revert hports hcnts hflow
  generalize flowEval (joinsQueue v c q) p = t
  intro hports hcnts hflow
  have hchan : ∀ d, t.chan d = if d = c then { s.chan c with eq := (s.chan c).eq ++ [q] } else s.chan d := fun d => by
    rw [hflow.sameQueues.chan, joinsQueue, State.chan_setChan, chan_of_chans hv.chans, chan_of_chans hv.chans, hs.chan, hs.chan]
  have htr : t.rams = v.rams := hflow.sameQueues.rams
  have htb : t.ctxBlank = v.ctxBlank := hflow.sameQueues.blank
  have herr : noErrors t := by
    rw [noErrors, hflow.frame]
    exact (hv.errs).trans (h.quiet hq).1
  refine ⟨passedBuffer_congr h.passed rfl ?_, q, ?_, ?_, hqlen, hqport, hqpri, hqhalf, ?_, ?_, ?_, ?_, ?_, ?_⟩
  · rw [hflow.frame, joinsQueue, hv]
    rfl
  · rw [hchan, if_pos rfl]
  · exact fun d hd => by rw [hchan, if_neg hd]
  · rw [bufFetch_clean herr, frameBytes_congr htr htb, hbytes]
  · intro k a ha
    have e1 : memByte t k a = memByte v k a := memByte_congr htr htb k a
    have e2 : memByte v k a = memByte u k a := hmem k a ha
    have e3 : memByte u k a = memByte s k a := memByte_congr hs.rams hs.blank k a
    exact e1.trans (e2.trans e3)
  · rw [counted, hcnts _ _ (by simp)]
    show v.cnt .PORT_RX_FRAMES p = _
    rw [State.cnt, hv.cnts]
    exact h.counts
  · calc t = { joinsQueue v c q with regs := t.regs, cnts := t.cnts, out := t.out, ports := t.ports } := hflow.frame
      _ = { v with regs := t.regs, cnts := t.cnts, out := t.out, chans := t.chans } := by
        rw [hports, hflow.sameQueues.chans]
        rfl
      _ = { u with regs := t.regs, cnts := t.cnts, out := t.out, chans := t.chans, rams := v.rams, valid := v.valid,
                   memCtl := v.memCtl } := by rw [show v = _ from hv]
      _ = _ := by rw [h.frame, hflow.frame, hv]; rfl
  · intro r i hm'
    refine (hflow.regs r i hm').trans ?_
    show v.reg r i = _
    rw [State.reg, hv.regs]
    exact h.regs r i fun hm => hm' (by simp at hm; simp [hm])
  · intro d i hm'
    simp only [List.cons_append, List.nil_append, List.mem_cons, Prod.mk.injEq, not_or] at hm'
    refine (hcnts d i (by simp [hm'.2.1, hm'.2.2.1])).trans ?_
    show v.cnt d i = _
    rw [State.cnt, hv.cnts]
    exact h.cnts d i (by simp [hm'.1, hm'.2.2.2])

end

/-! The log of a memory controller: what an entry leaves (R400) -/

/-- The registers that an entry of a controller's log may write. -/
abbrev logRegs (k : Nat) : List (Reg × Nat) :=
  [(.MEM_EVT, k), (.MEM_OVF, k)] ++ (List.range 4).map fun i => (.MEM_FE, 4 * k + i)

/-- Nothing but registers and the tables of controllers differs, and of the registers only those listed. -/
def logsOnly (s t : State) (l : List (Reg × Nat)) : Prop := t = { s with regs := t.regs, memCtl := t.memCtl } ∧ keepsRegs s t l

theorem logsOnly.trans {s t u : State} {l : List (Reg × Nat)} (h : logsOnly s t l) (h' : logsOnly t u l) : logsOnly s u l :=
  ⟨by rw [h'.1, h.1], fun r i hm => (h'.2 r i hm).trans (h.2 r i hm)⟩

theorem setsRegs.logs {s t : State} {l l' : List (Reg × Nat)} (h : setsRegs s t l) (hl : l ⊆ l') : logsOnly s t l' := by
  have hm : t.memCtl = s.memCtl := (congrArg State.memCtl h.1).trans rfl
  refine ⟨?_, (h.mono hl).2⟩
  rw [hm]
  exact h.1

theorem logsOnly_appendLog (s : State) (k : Nat) (e : LogEnt) : logsOnly s (appendLog s k e) (logRegs k) := by
  have hfe : ∀ i, i < 4 → (Reg.MEM_FE, 4 * k + i) ∈ logRegs k := fun i hi =>
    List.mem_append_right _ (List.mem_map.2 ⟨i, List.mem_range.2 hi, rfl⟩)
  have hset : ∀ (t : State) (i : Nat) (v : Word), i < 4 →
      logsOnly t (t.setReg .MEM_FE (4 * k + i) v) (logRegs k) := fun t i v hi =>
    (setsRegs_setReg ..).logs (by simpa using hfe i hi)
  have hovf : ∀ (t : State) (x : Fld) (n : Nat), x.reg = .MEM_OVF → logsOnly t (t.setF x k n) (logRegs k) := fun t x n hx =>
    (setsRegs_setF ..).logs (by simp [hx])
  unfold appendLog
  extract_lets t c
  have ht : logsOnly s t (logRegs k) := by
    unfold t
    split
    · exact (setsRegs_refl s (l := [])).logs (List.nil_subset _)
    · exact (hset s 0 e.w0 (by omega)).trans <| (hset _ 1 e.w1 (by omega)).trans <| (hset _ 2 e.w2 (by omega)).trans
        (hset _ 3 e.w3 (by omega))
  split
  · exact ht.trans ⟨rfl, fun _ _ _ => rfl⟩
  · exact ht.trans <| (hovf _ _ _ rfl).trans <| (hovf _ _ _ rfl).trans
      ((setsRegs_raise _ MEM_EVT.LOST k).logs (by simp [MEM_EVT.LOST]))

section
variable {s : State} {p : Fin 64} {f : List Byte} {n : Staged} {fec : FecCount}

/-- A frame that no channel matches, on a port without bypass, is counted (R131). -/
theorem clientFrameRx_unmatched (hp : p.val < 32) (hh : hears s p = true) (ho : framing s p ≠ frOtn) (h : takenFrame f)
    (hl : s.lost = []) (hc : classify s p (vlanOf (clientFrame f)).1 (vlanOf (clientFrame f)).2 = none)
    (hb : polBypass s p = false) :
    ∃ t, exec (.clientFrameRx p f ⟨fec, n⟩) s = .next t ∧ counted s t .CH_PORTCNT p ∧ counted s t .PORT_RX_FRAMES p ∧
      t = { s with regs := t.regs, cnts := t.cnts } ∧ keepsRegs s t [(.PORT_EVT, p)] ∧
      keepsCnts s t ([(.CH_PORTCNT, p.val), (.PORT_RX_FRAMES, p.val)] ++ fecCnts p) := by
  have hu := rxCounted_only s p fec
  have hb' : polBypass (rxCounted s p fec) p = false := by rw [hu.1]; exact hb
  refine ⟨(rxCounted s p fec).inc .CH_PORTCNT p, ?_, ?_, counted_inc_ne (rxCounted_counts s p fec) (by simp), ?_, hu.2.1, ?_⟩
  · have hb'' : polBypass ((rxCounted s p fec).inc .CH_PORTCNT p) p = false := hb'
    rw [clientFrameRx_none hp hh ho h hl hc]
    simp only [noClass, hb'', Bool.false_and, Bool.false_eq_true, if_false]
  · rw [counted, State.cnt_inc, hu.2.2 _ _ (by simp [fecCnts])]
  · rw [hu.1]
    rfl
  · exact ((hu.mono (List.Subset.refl _) (by simp)).step (onlyRegs_inc _ .CH_PORTCNT p) (by simp) (by simp)).2.2

/-- A frame with a bad FCS or size (R29). -/
theorem clientFrameRx_bad (hp : p.val < 32) (hh : hears s p = true) (ho : framing s p ≠ frOtn)
    (h : fcsGood f = false ∨ f.length < 64 ∨ 9600 < f.length) :
    ∃ t, exec (.clientFrameRx p f ⟨fec, n⟩) s = .next t ∧ counted s t .PORT_FCS_ERR p ∧
      t = { s with regs := t.regs, cnts := t.cnts } ∧ keepsRegs s t [(.PORT_EVT, p)] ∧
      keepsCnts s t ((.PORT_FCS_ERR, p.val) :: fecCnts p) := by
  have hu := countFec_only s p fec
  obtain ⟨hf, hr, hc⟩ := (hu.mono (List.Subset.refl _) (by simp)).step (onlyRegs_inc _ .PORT_FCS_ERR p)
    (rs := [(.PORT_EVT, p.val)]) (cs := (.PORT_FCS_ERR, p.val) :: fecCnts p) (by simp) (by simp)
  refine ⟨(countFec s p fec).inc .PORT_FCS_ERR p, ?_, ?_, hf, hr, hc⟩
  · rw [clientFrameRx_eq hp hh, clientRx_bad ((framing_countFec ..).trans_ne ho) h]
  · rw [counted, State.cnt_inc, hu.2.2 _ _ (by simp [fecCnts])]

/-- The FEC counts of a frame stand, whatever becomes of it. -/
theorem clientFrameRx_fec (hp : p.val < 32) (hh : hears s p = true) (ha : s.fb PORT_STATUS.ALIGN p = true) :
    ∃ t, exec (.clientFrameRx p f ⟨fec, n⟩) s = .next t ∧
      t.cnt .PORT_FEC_UNCORR p = BitVec.ofNat 64 (satAdd 64 (s.cnt .PORT_FEC_UNCORR p).toNat fec.uncorr) ∧
      (fec.uncorr ≠ 0 → t.fb PORT_EVT.FEC_UNCORR p = true) := by
  have hsees : seesLine s p = true := by simp [seesLine, (hears_iff.1 hh).2]
  have hcount : countFec s p fec =
      if fec.uncorr = 0 then addFec s p fec else (addFec s p fec).raise PORT_EVT.FEC_UNCORR p := by
    rw [countFec, if_pos (by simp [ha, hsees])]
    rfl
  have hcnt : (countFec s p fec).cnt .PORT_FEC_UNCORR p = (addFec s p fec).cnt .PORT_FEC_UNCORR p := by
    rw [hcount]
    split <;> rfl
  have hspare := spares_clientRx (countFec s p fec) p f n
  refine ⟨_, clientFrameRx_eq hp hh, ?_, fun hne => ?_⟩
  · rw [hspare.uncorr, hcnt, addFec_uncorr]
  · rw [State.fb, hspare.event, hcount, if_neg hne]
    exact State.fb_raise (by decide) rfl

end

/-- A frame with an uncorrectable word in the slice buffer is logged, counted and discarded (R408). -/
theorem RxTaken.bad {s u : State} {p w : Nat} {fr : List Byte} (h : RxTaken s u p fr) (k h' : Nat) (hk : k = 71 + h')
    (wrong : List Nat) :
    let t := dpDiscard (((appendLog u k (logEntry u k kindUE 0 false codeQueue [] wrong w)).inc .MEM_UE k).raise MEM_EVT.UE k) h'
    passedBuffer s t p false fr ∧ counted s t .MEM_DP_DISCARD k ∧ counted s t .MEM_UE k ∧ t.fb MEM_EVT.UE k = true ∧
      counted s t .PORT_RX_FRAMES p ∧
      t = { s with regs := t.regs, cnts := t.cnts, slices := t.slices, memCtl := t.memCtl } ∧
      keepsRegs s t ([(.PORT_EVT, p), (.MEM_EVT, k), (.MEM_OVF, k)] ++ (List.range 4).map fun i => (.MEM_FE, 4 * k + i)) ∧
      keepsCnts s t ([(.MEM_DP_DISCARD, k), (.MEM_UE, k), (.PORT_RX_FRAMES, p)] ++ fecCnts p) := by
  have hlog := logsOnly_appendLog u k (logEntry u k kindUE 0 false codeQueue [] wrong w)
  revert hlog
  generalize appendLog u k (logEntry u k kindUE 0 false codeQueue [] wrong w) = v
  rintro ⟨hv, hregs⟩
  have hc : ∀ c i, v.cnt c i = u.cnt c i := fun c i => by rw [hv]; rfl
  have hsl : v.slices = u.slices := (congrArg State.slices hv).trans rfl
  subst hk
  have hcs : ∀ c i, (c, i) ∉ [(Ctr.MEM_DP_DISCARD, 71 + h'), (Ctr.MEM_UE, 71 + h')] →
      (dpDiscard ((v.inc .MEM_UE (71 + h')).raise MEM_EVT.UE (71 + h')) h').cnt c i = u.cnt c i := fun c i hm => by
    simp only [List.mem_cons, List.not_mem_nil, or_false, Prod.mk.injEq, not_or] at hm
    exact (State.cnt_inc_ne hm.1).trans <| (State.cnt_inc_ne hm.2).trans (hc c i)
  refine ⟨passedBuffer_congr h.passed rfl hsl, ?_, ?_, ?_, ?_, ?_, ?_, ?_⟩
  · show ((v.inc .MEM_UE (71 + h')).inc .MEM_DP_DISCARD (71 + h')).cnt _ _ = _
    rw [State.cnt_inc, State.cnt_inc_ne (by simp), hc, h.cnts _ _ (by simp [fecCnts])]
  · show ((v.inc .MEM_UE (71 + h')).inc .MEM_DP_DISCARD (71 + h')).cnt _ _ = _
    rw [State.cnt_inc_ne (by simp), State.cnt_inc, hc, h.cnts _ _ (by simp [fecCnts])]
  · exact State.fb_raise (s := v.inc .MEM_UE (71 + h')) (by decide) rfl
  · rw [counted, hcs _ _ (by simp)]
    exact h.counts
  · show dpDiscard ((v.inc .MEM_UE (71 + h')).raise MEM_EVT.UE (71 + h')) h' = _
    rw [hv, h.frame]
    rfl
  · intro r i hm
    simp only [List.cons_append, List.nil_append, List.mem_cons, Prod.mk.injEq, not_or] at hm
    refine ((setsRegs_raise (v.inc .MEM_UE (71 + h')) MEM_EVT.UE (71 + h')).2 r i ?_).trans ?_
    · simpa [MEM_EVT.UE] using hm.2.1
    · refine (hregs r i ?_).trans (h.regs r i (by simpa using hm.1))
      simp only [logRegs, List.cons_append, List.nil_append, List.mem_cons, Prod.mk.injEq, not_or]
      exact hm.2
  · intro c i hm
    simp only [List.cons_append, List.nil_append, List.mem_cons, Prod.mk.injEq, not_or] at hm
    refine (hcs c i (by simp [hm.1, hm.2.1])).trans (h.cnts c i ?_)
    simp only [List.mem_cons, Prod.mk.injEq, not_or]
    exact hm.2.2

/-- While the occupancy stays above XON the port repeats its frame (R65). -/
theorem pauseRepeat_above {s : State} {p : Fin 64} (hm : s.f PORT_FC.MODE p = 1 ∨ s.f PORT_FC.MODE p = 2)
    (hx : s.fb PORT_STATUS.XOFF p = true) (ho : 1024 * s.f PORT_XON.KIB p < occupancy s p) (hl : s.f PORT_CTL.LPBK p = 0) :
    ∃ t, exec (.pauseRepeat p) s = .next t ∧ t.out = s.out ++ [.client p (pauseFrame s p 0xFFFF)] ∧
      counted s t .PORT_PAUSE_TX p ∧ counted s t .PORT_TX_FRAMES p ∧
      t = { s with regs := t.regs, cnts := t.cnts, out := t.out } ∧ keepsRegs s t [(.PORT_EXP_OCC, p)] := by
  have hn := setsRegs_notePeak s p
  rw [pauseRepeat_sent hm hx ho hl]
  revert hn
  generalize notePeak s p = u
  intro hn
  have hc : ∀ c i, u.cnt c i = s.cnt c i := fun c i => hn.only.2.2 c i List.not_mem_nil
  have hout : u.out = s.out := (congrArg State.out hn.1).trans rfl
  refine ⟨_, rfl, congrArg (· ++ _) hout, ?_, ?_, ?_, hn.2⟩
  · show ((u.inc .PORT_PAUSE_TX p).inc .PORT_TX_FRAMES p).cnt _ _ = _
    rw [State.cnt_inc_ne (by simp), State.cnt_inc, hc]
  · show ((u.inc .PORT_PAUSE_TX p).inc .PORT_TX_FRAMES p).cnt _ _ = _
    rw [State.cnt_inc, State.cnt_inc_ne (by simp), hc]
  · rw [hn.1]
    rfl

/-- Settles O21: MAC control frames by their cases, and client frames by what the port, the slice buffer and the queue do with
them. -/
theorem framesOfClientPortsAreTaken : Obligations.FramesOfClientPortsAreTaken := by
  unfold Obligations.FramesOfClientPortsAreTaken
  refine ⟨fun s p f pri n => ⟨fun hp hh hb => ⟨_, macControlRx_bad hp hh hb, counted_inc .., onlyRegs_inc ..⟩,
    macControlRx_pause, macControlRx_pfc, macControlRx_other, pauseExpiry_pause s p, pauseExpiry_pfc s p,
    fun _ _ hm hx ho hl => pauseRepeat_above hm hx ho hl, fun hl => ⟨_, pauseRepeat_held hl, (flowEval_held hl).only⟩⟩,
    fun s p f c w wrong n fec hp hh ho => ?_⟩
  have hanchor : anchor p = p.val := Nat.mod_eq_of_lt hp
  have hsome := fun (g : takenFrame f) (hc : classify s p (vlanOf (clientFrame f)).1 (vlanOf (clientFrame f)).2 = some c)
    (hl : s.lost = []) (m : Staged) => clientFrameRx_some (fec := fec) (n := m) hp hh ho g hl hc
  have hrx := rxTaken s p fec (clientFrame f)
  have hlen : takenFrame f → (clientFrame f).length ≤ 9600 := fun g => by
    rw [List.length_take]
    exact (Nat.min_le_right ..).trans g.2.2.1
  have hclean : takenFrame f → (clientFrame f).length ≤ stageBytes := fun g =>
    (hlen g).trans (show 9600 ≤ 65536 by decide)
  refine ⟨?_, ?_, fun g hc hl hb => clientFrameRx_unmatched hp hh ho g hl hc hb, fun h => clientFrameRx_bad hp hh ho h, ?_,
    fun ha => clientFrameRx_fec hp hh ha⟩
  · intro g hc hl hm ht hk h1 h2 hr hq
    obtain ⟨hpass, q, hrest⟩ := hrx.fits (pri := (vlanOf (clientFrame f)).2) hp hm ht hk (hears_iff.1 hh).2 (hlen g) h1 h2 hr hq
    refine ⟨_, q, ⟨?_, hpass⟩, hrest⟩
    rw [hsome g hc hl, throughSlice_clean _ _ _ (hclean g)]
  · intro g hc hl h1
    obtain ⟨hpass, hrest⟩ := hrx.over h1
    refine ⟨_, ⟨?_, hpass⟩, hrest⟩
    rw [hsome g hc hl, throughSlice_clean _ _ _ (hclean g)]
  · intro g hc hl
    obtain ⟨hpass, hrest⟩ := hrx.bad (71 + halfOf p) (halfOf p) rfl wrong (w := w)
    refine ⟨_, ⟨?_, hpass⟩, hrest⟩
    rw [hsome g hc hl, throughSlice_bad, hanchor]

end Sys2Proof.Machine
end

section
/-! Opportunities of a line port: the round robin, numbering and sealing, transmit slots and bales (O22). -/

namespace Sys2Proof.Machine

/-! The round robin reaches every unit (R160) -/

/-- Every deficit has gained whole credits. -/
def Gained (weight d e : Nat → Nat) : Prop := ∀ x, ∃ k, e x = d x + 64 * weight x * k

/-- A run of the round robin ends with a candidate that is charged its unit, and the others have gained whole credits. -/
def Served (cands : List Nat) (len weight d : Nat → Nat) (r : Option (Nat × (Nat → Nat))) : Prop :=
  ∃ c e, r = some (c, e) ∧ c ∈ cands ∧ (∃ k, e c + len c = d c + 64 * weight c * k) ∧
    ∀ x, x ≠ c → ∃ k, e x = d x + 64 * weight x * k

section
variable {cands : List Nat} {len weight : Nat → Nat}

theorem gained_refl (d : Nat → Nat) : Gained weight d d := fun _ => ⟨0, rfl⟩

theorem Gained.trans {d e g : Nat → Nat} (h : Gained weight d e) (h' : Gained weight e g) : Gained weight d g := fun x => by
  obtain ⟨k, hk⟩ := h x
  obtain ⟨j, hj⟩ := h' x
  exact ⟨k + j, by rw [hj, hk, Nat.mul_add]; omega⟩

theorem gained_credited (d : Nat → Nat) (c : Nat) : Gained weight d (credited weight d c) := fun x => by
  unfold credited
  split
  · next h => exact ⟨1, by rw [h, Nat.mul_one]⟩
  · exact ⟨0, rfl⟩

theorem Served.of_gained {d e : Nat → Nat} {r : Option (Nat × (Nat → Nat))} (h : Gained weight d e)
    (hs : Served cands len weight e r) : Served cands len weight d r := by
  obtain ⟨c, g, hr, hc, ⟨j, hj⟩, hx⟩ := hs
  refine ⟨c, g, hr, hc, ?_, fun x hne => ?_⟩
  · obtain ⟨k, hk⟩ := h c
    exact ⟨k + j, by rw [hj, hk, Nat.mul_add]; omega⟩
  · obtain ⟨k, hk⟩ := h x
    obtain ⟨i, hi⟩ := hx x hne
    exact ⟨k + i, by rw [hi, hk, Nat.mul_add]; omega⟩

/-- A charge serves. -/
theorem served_charged {d : Nat → Nat} {c : Nat} (hc : c ∈ cands) (hl : len c ≤ d c) :
    Served cands len weight d (some (c, charged len d c)) := by
  refine ⟨c, _, rfl, hc, ⟨0, ?_⟩, fun x hx => ⟨0, ?_⟩⟩
  · rw [charged, if_pos rfl]
    omega
  · rw [charged, if_neg hx]
    omega

/-- The first candidate from a place on. -/
theorem find?_split {pre suf : List Nat} {ptr : Nat} (hp : ∀ x ∈ pre, x < ptr) (hs : ∀ x ∈ suf, ptr ≤ x) :
    (pre ++ suf).find? (· ≥ ptr) = suf.head? := by
  rw [List.find?_append, List.find?_eq_none.2 fun x hx => by simpa using hp x hx, Option.none_or]
  cases suf with
  | nil => rfl
  | cons c suf => exact List.find?_cons_of_pos (by simpa using hs c List.mem_cons_self)

/-- A pass of the pointer over the candidates from its place on ends with a service, or goes round to the first candidate; the
channels passed were not covered, each after a credit if the pointer came to it. -/
structure Passed (len weight d e : Nat → Nat) (suf : List Nat) (here : Bool) : Prop where
  gained : Gained weight d e
  short : ∀ c ∈ suf, e c < len c
  kept : ∀ x, x ∉ suf → e x = d x
  credit : here = false → ∀ c ∈ suf, d c + 64 * weight c ≤ e c

/-- The pointer stands on a candidate whose unit is not covered and goes on. -/
theorem Passed.cons {d e : Nat → Nat} {c : Nat} {suf : List Nat} (hc : c ∉ suf) (hl : d c < len c)
    (h : Passed len weight d e suf false) : Passed len weight d e (c :: suf) true where
  gained := h.gained
  short := fun x hx => by
    rcases List.mem_cons.1 hx with rfl | hx
    · rw [h.kept x hc]; exact hl
    · exact h.short x hx
  kept := fun x hx => h.kept x fun hm => hx (List.mem_cons_of_mem _ hm)
  credit := fun h => nomatch h

/-- The pointer came to a candidate first. -/
theorem Passed.come {d e : Nat → Nat} {c : Nat} {suf : List Nat} (hc : c ∉ suf)
    (h : Passed len weight (credited weight d c) e (c :: suf) true) (h' : Passed len weight (credited weight d c) e suf false)
    (here : Bool) : Passed len weight d e (c :: suf) here where
  gained := (gained_credited d c).trans h.gained
  short := h.short
  kept := fun x hx => by
    rw [h.kept x hx, credited, if_neg fun he => hx (by rw [he]; exact List.mem_cons_self)]
  credit := fun _ x hx => by
    rcases List.mem_cons.1 hx with rfl | hx
    · rw [h'.kept x hc, credited, if_pos rfl]
    · have hne : x ≠ c := fun he => hc (he ▸ hx)
      have := h'.credit rfl x hx
      rwa [credited, if_neg hne] at this

theorem dwrr_pass {first : Nat} {tl pre suf : List Nat} (hcands : cands = first :: tl) (hsplit : cands = pre ++ suf)
    (hsort : cands.Pairwise (· < ·)) {d : Nat → Nat} {ptr : Nat} {here : Bool}
    (hp : ∀ x ∈ pre, x < ptr) (hs : ∀ x ∈ suf, ptr ≤ x)
    (fuel : Nat) : Served cands len weight d (dwrr cands len weight (fuel + (2 * suf.length + 1)) d ptr here) ∨
      ∃ fuel' e, fuel ≤ fuel' ∧ Passed len weight d e suf here ∧
        dwrr cands len weight (fuel + (2 * suf.length + 1)) d ptr here = dwrr cands len weight fuel' e first false := by
  induction suf generalizing pre d ptr here fuel with
  | nil =>
    refine .inr ⟨fuel, d, Nat.le_refl _, ⟨gained_refl d, fun _ h => absurd h List.not_mem_nil, fun _ _ => rfl,
      fun _ _ h => absurd h List.not_mem_nil⟩, ?_⟩
    have hnone := find?_split hp hs
    rw [← hsplit] at hnone
    subst hcands
    exact dwrr_wrap hnone
  | cons c suf ih =>
    obtain ⟨-, hsuf, hlt⟩ := List.pairwise_append.1 (hsplit ▸ hsort)
    obtain ⟨hcs, -⟩ := List.pairwise_cons.1 hsuf
    have hcn : c ∉ suf := fun hm => Nat.lt_irrefl c (hcs c hm)
    have hmem : c ∈ cands := by rw [hsplit]; simp
    have hself : cands.find? (· ≥ c) = some c := by
      rw [hsplit]
      exact find?_split (fun x hx => hlt x hx c List.mem_cons_self)
        fun x hx => (List.mem_cons.1 hx).elim (fun h => h ▸ Nat.le_refl c) fun h => Nat.le_of_lt (hcs x h)
    -- the pointer stands on the candidate: it serves or leaves
    have stand : ∀ (g : Nat → Nat) (m : Nat),
        Served cands len weight g (dwrr cands len weight (m + (2 * suf.length + 2)) g c true) ∨
        ∃ fuel' e, m ≤ fuel' ∧ Passed len weight g e (c :: suf) true ∧ Passed len weight g e suf false ∧
          dwrr cands len weight (m + (2 * suf.length + 2)) g c true = dwrr cands len weight fuel' e first false := by
      intro g m
      by_cases hl : len c ≤ g c
      · left
        rw [show m + (2 * suf.length + 2) = (m + (2 * suf.length + 1)) + 1 by omega, dwrr_serve hself hl]
        exact served_charged hmem hl
      · have hl := Nat.not_le.1 hl
        rw [show m + (2 * suf.length + 2) = (m + (2 * suf.length + 1)) + 1 by omega, dwrr_leave hself hl]
        rcases ih (pre := pre ++ [c]) (d := g) (ptr := c + 1) (here := false) (by rw [hsplit]; simp)
            (fun x hx => by
              rcases List.mem_append.1 hx with hx | hx
              · exact Nat.lt_succ_of_lt (hlt x hx c List.mem_cons_self)
              · rw [List.mem_singleton.1 hx]; exact Nat.lt_succ_self c)
            (fun x hx => hcs x hx) m with h | ⟨fuel', e, hle, hpass, he⟩
        · exact .inl h
        · exact .inr ⟨fuel', e, hle, hpass.cons hcn hl, hpass, he⟩
    rw [List.length_cons, show fuel + (2 * (suf.length + 1) + 1) = (fuel + (2 * suf.length + 2)) + 1 by omega]
    by_cases hh : here = true ∧ c = ptr
    · obtain ⟨rfl, rfl⟩ := hh
      rw [show fuel + (2 * suf.length + 2) + 1 = (fuel + 1) + (2 * suf.length + 2) by omega]
      rcases stand d (fuel + 1) with h | ⟨fuel', e, hle, hpass, -, he⟩
      · exact .inl h
      · exact .inr ⟨fuel', e, by omega, hpass, he⟩
    · have hfind : cands.find? (· ≥ ptr) = some c := by rw [hsplit]; exact find?_split hp hs
      rw [dwrr_come hfind hh]
      rcases stand (credited weight d c) fuel with h | ⟨fuel', e, hle, hpass, hrest, he⟩
      · exact .inl (h.of_gained (gained_credited d c))
      · exact .inr ⟨fuel', e, hle, hpass.come hcn hrest here, he⟩

/-- Rounds from the first candidate: each one that serves nobody gives the first candidate a credit. -/
theorem dwrr_rounds {first : Nat} {tl : List Nat} (hcands : cands = first :: tl) (hsort : cands.Pairwise (· < ·))
    (hunit : 1 ≤ weight first ∧ len first ≤ 16446) (r : Nat) {d : Nat → Nat} {fuel : Nat}
    (hd : 16446 ≤ d first + 64 * (r + 1))
    (hf : (r + 1) * (2 * cands.length + 1) ≤ fuel) : Served cands len weight d (dwrr cands len weight fuel d first false) := by
  have hmem : first ∈ cands := hcands ▸ List.mem_cons_self
  have hmin : ∀ x ∈ cands, first ≤ x := fun x hx => by
    rw [hcands] at hx hsort
    exact (List.mem_cons.1 hx).elim (fun h => h ▸ Nat.le_refl _) fun h => Nat.le_of_lt ((List.pairwise_cons.1 hsort).1 x h)
  induction r generalizing d fuel with
  | zero =>
    obtain ⟨m, rfl⟩ := Nat.exists_eq_add_of_le (show 2 * cands.length + 1 ≤ fuel by omega)
    rw [Nat.add_comm]
    rcases dwrr_pass (pre := []) hcands rfl hsort (fun _ h => absurd h List.not_mem_nil) hmin m with h | ⟨_, e, _, hpass, _⟩
    · exact h
    · have := hpass.short first hmem
      have := hpass.credit rfl first hmem
      omega
  | succ r ih =>
    rw [Nat.succ_mul] at hf
    obtain ⟨m, rfl⟩ := Nat.exists_eq_add_of_le (show 2 * cands.length + 1 ≤ fuel by omega)
    rw [Nat.add_comm]
    rcases dwrr_pass (pre := []) hcands rfl hsort (fun _ h => absurd h List.not_mem_nil) hmin m with h | ⟨n, e, hle, hpass, he⟩
    · exact h
    · rw [he]
      have := hpass.credit rfl first hmem
      exact (ih (by omega) (by omega)).of_gained hpass.gained

/-- What is left of a rising list after the numbers below a place. -/
theorem le_of_mem_dropWhile {l : List Nat} (h : l.Pairwise (· < ·)) {n : Nat} : ∀ x ∈ l.dropWhile (· < n), n ≤ x := by
  induction l with
  | nil => exact fun _ hx => absurd hx List.not_mem_nil
  | cons a l ih =>
    obtain ⟨ha, hl⟩ := List.pairwise_cons.1 h
    rw [List.dropWhile_cons]
    split
    · exact ih hl
    · next hn =>
      have hn : n ≤ a := by simpa using hn
      exact fun x hx => (List.mem_cons.1 hx).elim (fun e => e ▸ hn) fun hx => hn.trans (Nat.le_of_lt (ha x hx))

/-- With weights of at least 1 and units of at most 16,446 bytes some channel is served. -/
theorem dwrr_serves {d : Nat → Nat} {ptr : Nat} {here : Bool} (hne : cands ≠ []) (hsort : cands.Pairwise (· < ·))
    (hunit : ∀ c ∈ cands, 1 ≤ weight c ∧ len c ≤ 16446) :
    Served cands len weight d (dwrr cands len weight (dwrrFuel cands.length) d ptr here) := by
  obtain ⟨first, tl, hcands⟩ := List.exists_cons_of_ne_nil hne
  have hmem : first ∈ cands := hcands ▸ List.mem_cons_self
  have hlen : (cands.dropWhile (· < ptr)).length ≤ cands.length := (List.dropWhile_sublist _).length_le
  obtain ⟨m, hm⟩ := Nat.exists_eq_add_of_le (show 2 * (cands.dropWhile (· < ptr)).length + 1 ≤ dwrrFuel cands.length by
    unfold dwrrFuel; omega)
  rw [hm, Nat.add_comm]
  rcases dwrr_pass hcands List.takeWhile_append_dropWhile.symm hsort (d := d) (len := len) (weight := weight) (here := here)
      (fun x hx => by simpa using List.mem_takeWhile_imp hx) (le_of_mem_dropWhile hsort) m with h | ⟨n, e, hle, hpass, he⟩
  · exact h
  · rw [he]
    refine (dwrr_rounds hcands hsort (hunit first hmem) 256 (by omega) ?_).of_gained hpass.gained
    unfold dwrrFuel at hm
    omega

end

/-! A number for the next unit under the current slot (R86, R140) -/

/-- The fields of a channel that numbering writes. -/
abbrev seqFields : List CtxF := [Ctx.NEXT_SEQ, Ctx.EPOCH_BLOCKS]

/-- What sealing reads of a channel is the same: its settings and its keys, all but its number and its block count. -/
structure SealSame (s t : State) (c : Nat) : Prop where
  ctx : ∀ x, seqFields.all (apart x) = true → ctx t x c = ctx s x c
  bytes : ∀ x, wholeBytes x = true → seqFields.all (apart x) = true → ctxBytes t x c = ctxBytes s x c
  sheaf : t.sheaf = s.sheaf
  framing : framing t = framing s

theorem ctxOnly.sealSame {s t : State} {c : Nat} (h : ctxOnly s t c seqFields) : SealSame s t c where
  ctx := fun _ hx => h.ctx hx
  bytes := fun _ hw hx => h.ctxBytes hw hx
  sheaf := (congrArg State.sheaf h.frame).trans rfl
  framing := funext fun _ => h.frame.f ..

theorem apart_eg (k : Nat) : [egKey k, egAux k, egEpoch k, egSalt k].all (fun x => seqFields.all (apart x)) = true := by
  unfold egKey egAux egEpoch egSalt
  split <;> decide

theorem wholeBytes_eg (k : Nat) : [egKey k, egAux k, egSalt k].all wholeBytes = true := by
  unfold egKey egAux egSalt
  split <;> decide

section
variable {s t : State} {c : Nat} (h : SealSame s t c)
include h

theorem SealSame.chLine : chLine t c = chLine s c := h.ctx _ (by decide)

theorem SealSame.chFraming : chFraming t c = chFraming s c := by
  unfold Sys2Proof.Machine.chFraming
  rw [h.chLine, h.framing]

theorem SealSame.chClient : chClient t c = chClient s c := by
  unfold Sys2Proof.Machine.chClient
  rw [h.chLine, h.framing, h.ctx _ (by decide)]

theorem SealSame.egCur : egCur t c = egCur s c := h.ctx _ (by decide)

theorem SealSame.egMat (k : Nat) : egMat t c k = egMat s c k := by
  have ha := apart_eg k
  have hw := wholeBytes_eg k
  simp only [List.all_cons, List.all_nil, Bool.and_true, Bool.and_eq_true] at ha hw
  obtain ⟨ak, ax, ae, an⟩ := ha
  obtain ⟨wk, wx, wn⟩ := hw
  unfold Sys2Proof.Machine.egMat
  rw [h.bytes _ wk (by simpa using ak), h.bytes _ wx (by simpa using ax), h.bytes _ wn (by simpa using an),
    h.ctx _ (by simpa using ae)]

theorem SealSame.aeadSeal (m : KeyMat) (iv aad pt : List Byte) : aeadSeal t c m iv aad pt = aeadSeal s c m iv aad pt := by
  unfold Sys2Proof.Machine.aeadSeal keyLen complData
  rw [h.ctx Ctx.COMPL (by decide), h.ctx Ctx.CIPHER (by decide), h.chLine, h.sheaf]

theorem SealSame.macsecFrame (m : KeyMat) (pn : Nat) (fr : List Byte) : macsecFrame t c m pn fr = macsecFrame s c m pn fr := by
  unfold Sys2Proof.Machine.macsecFrame clearLen confOffset macsecIv isXpn ctxBit
  rw [h.ctx Ctx.SCI_EXPL (by decide), h.ctx Ctx.CONF_OFF (by decide), h.ctx Ctx.CIPHER (by decide),
    h.bytes Ctx.TX_SCI (by decide) (by decide)]
  simp only [h.aeadSeal]

theorem SealSame.baleV1 : baleV1 t c = baleV1 s c := by
  unfold Sys2Proof.Machine.baleV1 ctxBit
  rw [h.ctx Ctx.BALE_V1 (by decide)]

theorem SealSame.baleFrame (m : KeyMat) (seq : Nat) (payload : List Byte) :
    baleFrame t c m seq payload = baleFrame s c m seq payload := by
  unfold Sys2Proof.Machine.baleFrame baleHeader pmBaleEtype ctxBit
  rw [h.baleV1, h.ctx Ctx.PEER_CH (by decide), h.ctx Ctx.TFC_EN (by decide), h.bytes Ctx.LINE_DA (by decide) (by decide),
    h.bytes Ctx.LINE_SA (by decide) (by decide), h.sheaf]
  simp only [h.aeadSeal]

theorem SealSame.baleMax : baleMax t c = baleMax s c := by
  unfold Sys2Proof.Machine.baleMax ctxBit
  rw [h.baleV1, h.ctx Ctx.TFC_EN (by decide), h.ctx Ctx.TFC_LEN (by decide)]

end

theorem seqLimit_le (s : State) (c : Nat) : seqLimit s c ≤ 2 ^ 63 := by
  unfold seqLimit
  split
  · split <;> decide
  · split
    · decide
    · split <;> decide

/-- A unit stays under the current slot only below the sequence limit (R147). -/
theorem atLimit_of_stay {s : State} {c blocks : Nat} (h : seqDecide s c blocks = .stay) : atLimit s c = false := by
  by_contra hc
  have hdue : switchDue s c blocks = true := by
    unfold switchDue
    simp [Bool.not_eq_false _ ▸ hc]
  have choice : ∀ b : Bool, (if b = true then SeqDecision.switch else .wait) ≠ .stay := by decide
  unfold seqDecide at h
  simp only [hdue, if_true] at h
  split at h
  · cases h
  · split at h
    · cases h
    · exact absurd h (choice _)

theorem reserveEval_passive {s : State} (h : s.f TWN_STATUS.ROLE 0 ≠ 1) (c : Nat) : reserveEval s c = s := by
  have hm : mayReserve s c = false := by simp [mayReserve, h]
  rw [reserveEval, hm, if_neg (by simp)]

/-- The numbers of a channel advance for a unit of `blocks` blocks. -/
def numbered (s : State) (c blocks : Nat) : State :=
  ctxD (ctxD s Ctx.EPOCH_BLOCKS c (ctx s Ctx.EPOCH_BLOCKS c + blocks)) Ctx.NEXT_SEQ c (ctx s Ctx.NEXT_SEQ c + 1)

theorem numbered_quiet {s : State} (h : memQuiet s ctxCtl) {c blocks : Nat} (hn : ctx s Ctx.NEXT_SEQ c < 2 ^ 63) :
    ctxOnly s (numbered s c blocks) c seqFields ∧ ctx (numbered s c blocks) Ctx.NEXT_SEQ c = ctx s Ctx.NEXT_SEQ c + 1 ∧
      ctx (numbered s c blocks) Ctx.EPOCH_BLOCKS c = (ctx s Ctx.EPOCH_BLOCKS c + blocks) % 2 ^ 64 := by
  obtain ⟨hb, o1⟩ := ctxSet_quiet (x := Ctx.EPOCH_BLOCKS) h (by decide) c (ctx s Ctx.EPOCH_BLOCKS c + blocks) codeData
  obtain ⟨hs, o2⟩ := ctxSet_quiet (x := Ctx.NEXT_SEQ) (o1.frame.quiet h) (by decide) c (ctx s Ctx.NEXT_SEQ c + 1) codeData
  refine ⟨(o1.mono (by simp)).trans (o2.mono (by simp)), hs.trans (Nat.mod_eq_of_lt ?_), (o2.ctx (by decide)).trans hb⟩
  show _ < 2 ^ 64
  omega

/-- A unit that stays under the current slot takes the next number (R86). -/
theorem sequence_stay {s : State} (h : memQuiet s ctxCtl) {c blocks : Nat} (ho : chFraming s c ≠ frOtn)
    (hr : s.f TWN_STATUS.ROLE 0 ≠ 1) (hd : seqDecide s c blocks = .stay) :
    sequence s c blocks = (some (egCur s c, ctx s Ctx.NEXT_SEQ c), numbered s c blocks) ∧ ctx s Ctx.NEXT_SEQ c < 2 ^ 63 := by
  have hnum : nextNumber s c = ctx s Ctx.NEXT_SEQ c := if_neg ho
  have hlt : ctx s Ctx.NEXT_SEQ c < 2 ^ 63 := by
    have := of_decide_eq_false (atLimit_of_stay hd)
    have := seqLimit_le s c
    omega
  refine ⟨?_, hlt⟩
  have ob : ctxOnly s (ctxD s Ctx.EPOCH_BLOCKS c (ctx s Ctx.EPOCH_BLOCKS c + blocks)) c [Ctx.EPOCH_BLOCKS] :=
    (ctxSet_quiet h (by decide) c _ codeData).2
  have hf : chFraming (ctxD s Ctx.EPOCH_BLOCKS c (ctx s Ctx.EPOCH_BLOCKS c + blocks)) c ≠ frOtn := by
    rw [(ctxOnly.sealSame (ob.mono (by simp))).chFraming]
    exact ho
  have on := (numbered_quiet h (blocks := blocks) hlt).1
  have hpass : reserveEval (numbered s c blocks) c = numbered s c blocks :=
    reserveEval_passive (by rw [on.frame.f]; exact hr) c
  have hlook : egLook s c = s := ctxLook_clean h.1 ..
  unfold sequence
  simp only [hlook, hd, reduceCtorEq, if_false, hnum, if_neg hf]
  rw [← numbered, hpass, on.sealSame.egCur]

/-! A transmit opportunity of a port with one MACsec Seal channel (R86, R159, R160) -/

section
variable {s : State} {c p : Nat}

/-- Deficits and pointers do not tell whether a unit is sealed. -/
theorem seqDecide_queues {x : SMap Chan} {n : Nat} (hx : SMap.get (fun _ => Chan.reset) x c = { s.chan c with deficit := n })
    (y : SMap PortSt) (blocks : Nat) : seqDecide { s with chans := x, ports := y } c blocks = seqDecide s c blocks := by
  unfold seqDecide switchDue egNextReady State.chan
  simp only [hx]
  rfl

/-- The round robin gave the turn to a channel of a line port: its deficit and the pointer. -/
def dealt (s : State) (p c n : Nat) : State :=
  let t := s.setChan c { s.chan c with deficit := n }
  t.setPort p { t.port p with rrNext := c, rrHere := true }

/-- What the pointer gives a channel as it comes (R160). -/
abbrev creditOf (s : State) (p c : Nat) : Nat :=
  if (s.port p).rrHere = true ∧ (s.port p).rrNext = c then 0 else 64 * ctx s Ctx.WEIGHT c

theorem readyLen_macsec {f : QFrame} {rest : List QFrame} (hm : chFraming s c = frMacsec) (hq : (s.chan c).eq = f :: rest)
    (hd : seqDecide s c (macsecBlocks s c f.len) = .stay) : readyLen s c = some (lineLen s c f) := by
  have hb : ¬ frMacsec = frBale := by decide
  simp only [readyLen, hm, if_neg hb, hq, hd, reduceCtorEq, if_false]

/-- With one channel whose deficit covers its head, that channel is served. -/
theorem serveData_one {f : QFrame} {rest : List QFrame} (hc : portChans s p = [c]) (hm : chFraming s c = frMacsec)
    (ht : ctxBit s Ctx.TFC_EN c = false) (hq : (s.chan c).eq = f :: rest)
    (hl : lineLen s c f ≤ (s.chan c).deficit + creditOf s p c)
    (hd : seqDecide s c (macsecBlocks s c f.len) = .stay) :
    serveData s p = settleDeficit (sendUnit (dealt s p c ((s.chan c).deficit + creditOf s p c - lineLen s c f)) p c) p c := by
  have hlen := readyLen_macsec hm hq hd
  obtain ⟨e, he, hed⟩ := dwrr_single (c := c) (len := fun c => (readyLen s c).getD 0) (weight := fun c => ctx s Ctx.WEIGHT c)
    (d := fun c => (s.chan c).deficit) (ptr := (s.port p).rrNext) (here := (s.port p).rrHere) (by simpa [hlen] using hl) 781
  have hnone : [c].find? (fun c => ctxBit s Ctx.TFC_EN c && (s.chan c).ready != []) = none := by simp [ht]
  have hcands : [c].filter (fun c => !ctxBit s Ctx.TFC_EN c && (readyLen s c).isSome) = [c] := by simp [ht, hlen]
  unfold serveData
  simp only [hc, hnone, hcands, show dwrrFuel [c].length = 781 + 3 from rfl, he, List.foldl_cons, List.foldl_nil]
  rw [hed]
  simp [dealt, hlen]

/-- TRANSMIT_OPPORTUNITY of such a port without a tithe frame to send. -/
theorem transmitOpportunity_one {p : Fin 64} (hs : lineSends s p = true) (ht : titheServe s (p.val - 32) = none)
    (hc : portChans s p = [c]) (hm : chFraming s c = frMacsec) : exec (.transmitOpportunity p) s = .next (serveData s p) := by
  have hb : (chFraming s c == frBale) = false := by rw [hm]; decide
  have hpack := packChannel_macsec hm
  show execTransmitOpportunity p s = _
  unfold execTransmitOpportunity
  simp only [hs, Bool.not_true, Bool.false_eq_true, if_false, hc, List.foldl_cons, List.foldl_nil, hb, Bool.false_and, hpack]
  cases (s.chan c).openBale <;> simp only [ht]

/-- The next engine of a line port, found from the slices that take units and from the rotation. -/
theorem takeEngine_congr {t u : State} {e : Nat} (h : takeEngine s p = some (e, u))
    (hs : egressSlices t p = egressSlices s p) (hn : (t.port p).engNext = (s.port p).engNext) :
    ∃ n, takeEngine t p = some (e, t.setPort p { t.port p with engNext := n }) := by
  unfold takeEngine at *
  rw [hs, hn]
  cases hsl : nextSlice (egressSlices s p) (s.port p).engNext with
  | none => rw [hsl] at h; cases h
  | some sl =>
    rw [hsl] at h
    obtain ⟨rfl, -⟩ := Prod.mk.inj (Option.some.inj h)
    exact ⟨sl + 1, rfl⟩

/-- A unit in the next transmit slot and with its engine. -/
theorem pushSlot_frame (s : State) (lp c e : Nat) (b : List Byte) (d : Bool) (u : UnitIn) :
    pushSlot s lp c e b d (some u) =
      { s with ports := (pushSlot s lp c e b d (some u)).ports, engs := (pushSlot s lp c e b d (some u)).engs } := rfl

theorem pushSlot_port (s : State) (lp c e : Nat) (b : List Byte) (d : Bool) (u : UnitIn) (q : Nat) :
    (pushSlot s lp c e b d (some u)).port q = if q = lp then { s.port lp with
      slots := (s.port lp).slots ++ [⟨c, e, b, d, (s.port lp).slotNext⟩], slotNext := ((s.port lp).slotNext + 1) % 2 ^ 16 }
      else s.port q := State.port_setPort ..

theorem pushSlot_eng (s : State) (lp c e : Nat) (b : List Byte) (d : Bool) (u : UnitIn) (j : Nat) :
    (pushSlot s lp c e b d (some u)).eng j =
      if j = e then (s.eng e).giveUnit (inDescOf u.seq u.data.length (s.port lp).slotNext u.slot c) u.data else s.eng j :=
  State.eng_updEng (g := fun x => x.giveUnit (inDescOf u.seq u.data.length (s.port lp).slotNext u.slot c) u.data)

end

/-- A channel's head has left its queue, and its counts of units and of their bytes are held. -/
def unitTaken (s : State) (c : Nat) (f : QFrame) (rest : List QFrame) : State :=
  chCount (chCount (s.setChan c { s.chan c with eq := rest }) c cOutOk 1) c cOutOctets f.len

theorem unitTaken_frame (s : State) (c : Nat) (f : QFrame) (rest : List QFrame) : unitTaken s c f rest =
    { s with chans := (unitTaken s c f rest).chans, cntPend := (unitTaken s c f rest).cntPend } := rfl

theorem numbered_frame {s : State} (h : memQuiet s ctxCtl) (c blocks : Nat) : onlyRams s (numbered s c blocks) := by
  have o1 := (ctxSet_quiet (x := Ctx.EPOCH_BLOCKS) h (by decide) c (ctx s Ctx.EPOCH_BLOCKS c + blocks) codeData).2
  exact o1.frame.trans (ctxSet_quiet (x := Ctx.NEXT_SEQ) (o1.frame.quiet h) (by decide) c _ codeData).2.frame

section
variable {s t : State} {p c e : Nat} {f : QFrame} {rest : List QFrame}

/-- The unit at the head of the queue is numbered, sealed and put into its slot. -/
theorem sendUnit_stay (he : takeEngine s p = some (e, t)) (hm : chFraming t c = frMacsec) (hq : (t.chan c).eq = f :: rest)
    (h : memQuiet t ctxCtl) (hr : t.f TWN_STATUS.ROLE 0 ≠ 1) (hd : seqDecide t c (macsecBlocks t c f.len) = .stay) :
    let v := numbered t c (macsecBlocks t c f.len)
    let w := unitTaken v c f rest
    let fr := frameBytes v f
    sendUnit s p c = flowEval (pushSlot w p c e (macsecFrame w c (egMat w c (egCur t c)) (ctx t Ctx.NEXT_SEQ c) fr) false
      (some ⟨ctx t Ctx.NEXT_SEQ c, egCur t c, fr⟩)) f.port := by
  intro v w fr
  have hb : ¬ frMacsec = frBale := by decide
  have ho : chFraming t c ≠ frOtn := by rw [hm]; decide
  obtain ⟨hseq, -⟩ := sequence_stay h ho hr hd
  have hfetch : bufFetch v f = (fr, false, v) := bufFetch_clean ((numbered_frame h c _).errs.trans h.1) f
  unfold sendUnit
  simp only [he, hm, if_neg hb, hq, hseq]
  rw [show numbered t c (macsecBlocks t c f.len) = v from rfl, hfetch]
  simp only [Bool.false_eq_true, if_false]
  rfl

/-- What flow control leaves of the transmit slots. -/
theorem FlowOnly.slots {q : Nat} (h : FlowOnly s t q) (p : Nat) :
    (t.port p).slots = (s.port p).slots ∧ (t.port p).slotNext = (s.port p).slotNext := by
  by_cases hp : p = q
  · subst hp
    rw [h.quanta]
    exact ⟨rfl, rfl⟩
  · rw [h.others p hp]
    exact ⟨rfl, rfl⟩

/-- A deficit returns to zero with its queue (R160): nothing else of the channel differs, and of the port the pointer. -/
theorem settleDeficit_chan (s : State) (p c : Nat) : (settleDeficit s p c).chan c =
    { s.chan c with deficit := if (s.chan c).eq = [] ∧ (s.chan c).ready = [] then 0 else (s.chan c).deficit } := by
  unfold settleDeficit
  extract_lets ch
  by_cases h : ch.eq = [] ∧ ch.ready = []
  · rw [if_pos h, if_pos h]
    exact State.chan_setChan_self ..
  · rw [if_neg h, if_neg h]

theorem settleDeficit_frame (s : State) (p c : Nat) : settleDeficit s p c =
    { s with chans := (settleDeficit s p c).chans, ports := (settleDeficit s p c).ports } := by
  unfold settleDeficit
  extract_lets ch
  split <;> rfl

theorem settleDeficit_chans (s : State) (p c : Nat) : keepsChans s (settleDeficit s p c) c := by
  unfold settleDeficit
  extract_lets ch
  split
  · exact keepsChans_setChan s c _
  · exact fun _ _ => rfl

theorem settleDeficit_port (s : State) (p c q : Nat) :
    ((settleDeficit s p c).port q).slots = (s.port q).slots ∧ ((settleDeficit s p c).port q).slotNext = (s.port q).slotNext ∧
      (q ≠ p → (settleDeficit s p c).port q = s.port q) := by
  unfold settleDeficit
  extract_lets ch
  split
  · rw [State.port_setPort]
    split
    · next h => subst h; exact ⟨rfl, rfl, fun h => absurd rfl h⟩
    · exact ⟨rfl, rfl, fun _ => rfl⟩
  · exact ⟨rfl, rfl, fun _ => rfl⟩

end

/-- Context memory apart, a frame's bytes stand where they stood. -/
theorem ctxOnly.frameBytes {s t : State} {c : Nat} {fs : List CtxF} (h : ctxOnly s t c fs) (f : QFrame) :
    frameBytes t f = frameBytes s f := by
  have hb : ∀ a, memByte t (71 + f.half) a = memByte s (71 + f.half) a := fun a => h.keeps _ a fun r hr hc => by
    obtain ⟨x, -, rfl⟩ := List.mem_map.1 hr
    have h70 : ctxCtl = 71 + f.half := hc.1
    unfold ctxCtl at h70
    omega
  unfold Sys2Proof.Machine.frameBytes
  simp only [ramBytes_eq, hb]

/-- Contexts, settings and the sheaf are the same. -/
structure SameContexts (s t : State) : Prop where
  rams : t.rams = s.rams
  blank : t.ctxBlank = s.ctxBlank
  regs : t.regs = s.regs
  sheaf : t.sheaf = s.sheaf

theorem SameContexts.fieldRead {s t : State} (h : SameContexts s t) (x : CtxF) (c : Nat) : fieldRead t x c = fieldRead s x c := by
  have hf : slotOf t c = slotOf s c := by unfold slotOf State.f State.reg; rw [h.regs]
  unfold Sys2Proof.Machine.fieldRead ctxAddr
  rw [hf]
  exact ramBytes_congr fun _ _ => memByte_congr h.rams h.blank _ _

theorem SameContexts.ctx {s t : State} (h : SameContexts s t) (x : CtxF) (c : Nat) : ctx t x c = ctx s x c := by
  rw [ctx_eq, ctx_eq, h.fieldRead]

theorem SameContexts.sealSame {s t : State} (h : SameContexts s t) (c : Nat) : SealSame s t c where
  ctx := fun x _ => h.ctx x c
  bytes := fun x hw _ => by rw [ctxBytes_eq hw, ctxBytes_eq hw, h.fieldRead]
  sheaf := h.sheaf
  framing := funext fun q => by unfold framing State.f State.reg; rw [h.regs]

theorem SealSame.trans {s t u : State} {c : Nat} (h : SealSame s t c) (h' : SealSame t u c) : SealSame s u c where
  ctx := fun x hx => (h'.ctx x hx).trans (h.ctx x hx)
  bytes := fun x hw hx => (h'.bytes x hw hx).trans (h.bytes x hw hx)
  sheaf := h'.sheaf.trans h.sheaf
  framing := h'.framing.trans h.framing

theorem SameContexts.keepsCtx {s t u v : State} {c : Nat} {fs : List CtxF} (h : SameContexts s t) (hk : keepsCtx t u c fs)
    (h' : SameContexts u v) : keepsCtx s v c fs := by
  have hr : fieldRange t c = fieldRange s c := funext fun x => by
    unfold fieldRange ctxAddr slotOf State.f State.reg
    rw [h.regs]
  intro k a ha
  rw [← hr] at ha
  exact (memByte_congr h'.rams h'.blank k a).trans <| (hk k a ha).trans (memByte_congr h.rams h.blank k a)

/-- The turn was dealt, and the engine of the unit was taken. -/
def turned (s : State) (p c n sl : Nat) : State :=
  (dealt s p c n).setPort p { (dealt s p c n).port p with engNext := sl }

/-- A unit is sealed: its channel's queue, number and counts have gone on, and the port waits for its slot. -/
structure UnitReady (s w : State) (p c n : Nat) (f : QFrame) (rest : List QFrame) (blocks : Nat) : Prop where
  frame : w = { s with chans := w.chans, ports := w.ports, cntPend := w.cntPend, rams := w.rams, valid := w.valid,
                       memCtl := w.memCtl }
  chan : w.chan c = { s.chan c with eq := rest, deficit := n }
  chans : keepsChans s w c
  slots : (w.port p).slots = (s.port p).slots ∧ (w.port p).slotNext = (s.port p).slotNext
  ports : ∀ q, q ≠ p → w.port q = s.port q
  same : SealSame s w c
  keeps : keepsCtx s w c seqFields
  next : ctx w Ctx.NEXT_SEQ c = ctx s Ctx.NEXT_SEQ c + 1
  used : ctx w Ctx.EPOCH_BLOCKS c = (ctx s Ctx.EPOCH_BLOCKS c + blocks) % 2 ^ 64
  units : pends w c cOutOk = pends s c cOutOk + 1
  octets : pends w c cOutOctets = pends s c cOutOctets + f.len

section
variable {s : State} {p c n sl : Nat} {f : QFrame} {rest : List QFrame} {blocks : Nat}

theorem turned_chan (d : Nat) : (turned s p c n sl).chan d = if d = c then { s.chan c with deficit := n } else s.chan d :=
  State.chan_setChan ..

theorem turned_port : ((turned s p c n sl).port p).slots = (s.port p).slots ∧
    ((turned s p c n sl).port p).slotNext = (s.port p).slotNext := by
  unfold turned
  rw [State.port_setPort_self]
  unfold dealt
  rw [State.port_setPort_self]
  exact ⟨rfl, rfl⟩

theorem turned_port_ne {q : Nat} (hq : q ≠ p) : (turned s p c n sl).port q = s.port q :=
  (State.port_setPort_ne _ _ hq).trans (State.port_setPort_ne _ _ hq)

theorem turned_frame : turned s p c n sl =
    { s with chans := (turned s p c n sl).chans, ports := (turned s p c n sl).ports } := rfl

theorem unitReady (h : memQuiet s ctxCtl) (hn : ctx s Ctx.NEXT_SEQ c < 2 ^ 63) :
    UnitReady s (unitTaken (numbered (turned s p c n sl) c blocks) c f rest) p c n f rest blocks := by
  obtain ⟨o, hnext, hused⟩ := numbered_quiet (s := turned s p c n sl) (c := c) (blocks := blocks) h hn
  revert o hnext hused
  generalize numbered (turned s p c n sl) c blocks = v
  intro o hnext hused
  have hch : ∀ d, v.chan d = if d = c then { s.chan c with deficit := n } else s.chan d := fun d =>
    (chan_of_chans o.frame.chans d).trans (turned_chan d)
  have hport : ∀ q, v.port q = (turned s p c n sl).port q := fun q => congrArg (SMap.get _ · q) o.frame.ports
  have hs : SameContexts s (turned s p c n sl) := ⟨rfl, rfl, rfl, rfl⟩
  have hw : SameContexts v (unitTaken v c f rest) := ⟨rfl, rfl, rfl, rfl⟩
  have hpend : v.cntPend = s.cntPend := o.frame.cntPend
  refine ⟨?_, ?_, fun d hd => ?_, ?_, fun q hq => ?_, (hs.sealSame c).trans (o.sealSame.trans (hw.sealSame c)),
    hs.keepsCtx o.keeps hw, ?_, ?_, ?_, ?_⟩
  · have hu := unitTaken_frame v c f rest
    have hv : v = { turned s p c n sl with rams := v.rams, valid := v.valid, memCtl := v.memCtl } := o.frame
    revert hu
    generalize unitTaken v c f rest = w
    intro hu
    calc w = { v with chans := w.chans, cntPend := w.cntPend } := hu
      _ = { turned s p c n sl with chans := w.chans, cntPend := w.cntPend, rams := v.rams, valid := v.valid,
                                   memCtl := v.memCtl } := congrArg (fun x : State =>
            { x with chans := w.chans, cntPend := w.cntPend }) hv
      _ = { s with chans := w.chans, ports := (turned s p c n sl).ports, cntPend := w.cntPend, rams := v.rams,
                   valid := v.valid, memCtl := v.memCtl } := congrArg (fun x : State =>
            { x with chans := w.chans, cntPend := w.cntPend, rams := v.rams, valid := v.valid, memCtl := v.memCtl }) turned_frame
      _ = _ := by
        rw [← o.frame.ports, show v.ports = w.ports from ((congrArg State.ports hu).trans rfl).symm,
          show v.rams = w.rams from ((congrArg State.rams hu).trans rfl).symm,
          show v.valid = w.valid from ((congrArg State.valid hu).trans rfl).symm,
          show v.memCtl = w.memCtl from ((congrArg State.memCtl hu).trans rfl).symm]
  · refine (State.chan_setChan_self ..).trans ?_
    rw [hch, if_pos rfl]
  · refine (State.chan_setChan ..).trans ?_
    rw [if_neg hd, hch, if_neg hd]
  · show (v.port p).slots = _ ∧ (v.port p).slotNext = _
    rw [hport]
    exact turned_port
  · exact (hport q).trans (turned_port_ne hq)
  · rw [hw.ctx, hnext, hs.ctx]
  · rw [hw.ctx, hused, hs.ctx]
  · rw [unitTaken, pends_chCount, if_neg (by simp [cOutOk, cOutOctets]), pends_chCount_self]
    exact congrArg (· + 1) (pends_of_held hpend c cOutOk)
  · rw [unitTaken, pends_chCount_self, pends_chCount, if_neg (by simp [cOutOk, cOutOctets])]
    exact congrArg (· + f.len) (pends_of_held hpend c cOutOctets)

/-- The unit takes its slot and its engine, flow control looks at the port of its frame, and the deficit is settled. -/
theorem UnitReady.sent {w : State} (h : UnitReady s w p c n f rest blocks) (e : Nat) (b : List Byte) (u : UnitIn) :
    let t := settleDeficit (flowEval (pushSlot w p c e b false (some u)) f.port) p c
    (t.chan c).eq = rest ∧ keepsChans s t c ∧
      (t.chan c).deficit = (if rest = [] ∧ (s.chan c).ready = [] then 0 else n) ∧
      (t.port p).slots = (s.port p).slots ++ [⟨c, e, b, false, (s.port p).slotNext⟩] ∧
      (t.port p).slotNext = ((s.port p).slotNext + 1) % 2 ^ 16 ∧
      t.eng e = (s.eng e).giveUnit (inDescOf u.seq u.data.length (s.port p).slotNext u.slot c) u.data ∧
      (∀ j, j ≠ e → t.eng j = s.eng j) ∧
      ctx t Ctx.NEXT_SEQ c = ctx s Ctx.NEXT_SEQ c + 1 ∧
      ctx t Ctx.EPOCH_BLOCKS c = (ctx s Ctx.EPOCH_BLOCKS c + blocks) % 2 ^ 64 ∧
      pends t c cOutOk = pends s c cOutOk + 1 ∧ pends t c cOutOctets = pends s c cOutOctets + f.len ∧
      keepsCtx s t c [Ctx.NEXT_SEQ, Ctx.EPOCH_BLOCKS] ∧ (∀ q, q ≠ p → q ≠ f.port → t.port q = s.port q) ∧
      t = { s with regs := t.regs, cnts := t.cnts, out := t.out, chans := t.chans, ports := t.ports, cntPend := t.cntPend,
                   rams := t.rams, valid := t.valid, memCtl := t.memCtl, engs := t.engs } ∧
      keepsRegs s t [(.PORT_EXP_OCC, f.port), (.PORT_STATUS, f.port), (.PORT_EVT, f.port)] := by
  have hpush := pushSlot_frame w p c e b false u
  have hpp := pushSlot_port w p c e b false u
  have hpe := pushSlot_eng w p c e b false u
  revert hpush hpp hpe
  generalize pushSlot w p c e b false (some u) = y
  intro hpush hpp hpe
  have hflow := flowOnly_flowEval y f.port
  revert hflow
  generalize flowEval y f.port = z
  intro hflow
  have hsf := settleDeficit_frame z p c
  have hsc := settleDeficit_chan z p c
  have hsk := settleDeficit_chans z p c
  have hsp := settleDeficit_port z p c
  revert hsf hsc hsk hsp
  generalize settleDeficit z p c = t
  intro hsf hsc hsk hsp
  have hyc : y.chans = w.chans := (congrArg State.chans hpush).trans rfl
  have hz := hflow.sameQueues
  have hzc : ∀ d, z.chan d = w.chan d := fun d => (hz.chan d).trans (chan_of_chans hyc d)
  have hram : t.rams = w.rams := (congrArg State.rams hsf).trans <| hz.rams.trans ((congrArg State.rams hpush).trans rfl)
  have hblank : t.ctxBlank = w.ctxBlank :=
    (congrArg State.ctxBlank hsf).trans <| hz.blank.trans ((congrArg State.ctxBlank hpush).trans rfl)
  have hctx : ∀ x, ctx t x c = ctx w x c := fun x => by
    have h1 : ctx t x c = ctx z x c := by rw [hsf]; rfl
    have h2 : ctx y x c = ctx w x c := by rw [hpush]; rfl
    exact h1.trans ((hz.ctx x c).trans h2)
  have heng : ∀ j, t.eng j = y.eng j := fun j => by
    have h1 : t.eng j = z.eng j := by rw [hsf]; rfl
    have h2 : z.eng j = y.eng j := by rw [hflow.frame]; rfl
    exact h1.trans h2
  have hpend : t.cntPend = w.cntPend := by rw [hsf, hflow.frame, hpush]
  have hwe : ∀ j, w.eng j = s.eng j := fun j => by rw [h.frame]; rfl
  have hslots := hflow.slots p
  refine ⟨?_, fun d hd => ?_, ?_, ?_, ?_, ?_, fun j hj => ?_, ?_, ?_, ?_, ?_, ?_, fun q hq hf => ?_, ?_, ?_⟩
  · rw [hsc, hzc, h.chan]
  · rw [hsk d hd, hzc, h.chans d hd]
  · rw [hsc, hzc, h.chan]
  · rw [(hsp p).1, hslots.1, hpp, if_pos rfl, h.slots.1, h.slots.2]
  · rw [(hsp p).2.1, hslots.2, hpp, if_pos rfl, h.slots.2]
  · rw [heng, hpe, if_pos rfl, hwe, h.slots.2]
  · rw [heng, hpe, if_neg hj, hwe]
  · rw [hctx, h.next]
  · rw [hctx, h.used]
  · rw [pends_of_held hpend, h.units]
  · rw [pends_of_held hpend, h.octets]
  · exact fun k a ha => (memByte_congr hram hblank k a).trans (h.keeps k a ha)
  · rw [(hsp q).2.2 hq, hflow.others q hf, hpp, if_neg hq, h.ports q hq]
  · rw [hsf, hflow.frame, hpush, h.frame]
  · intro r i hm
    have h1 : t.reg r i = z.reg r i := by rw [hsf]; rfl
    have h2 : y.reg r i = s.reg r i := by rw [hpush, h.frame]; rfl
    exact h1.trans ((hflow.regs r i hm).trans h2)

end

theorem SealSame.macsecBlocks {s t : State} {c : Nat} (h : SealSame s t c) (n : Nat) : macsecBlocks t c n = macsecBlocks s c n := by
  unfold Sys2Proof.Machine.macsecBlocks clearLen confOffset
  rw [h.ctx Ctx.CONF_OFF (by decide)]

/-- The head of the one MACsec Seal channel of a port leaves with a transmit opportunity: the state that the unit and its engine
make. -/
theorem transmitOpportunity_sends {s u : State} {p : Fin 64} {c e : Nat} {f : QFrame} {rest : List QFrame}
    (hs : lineSends s p = true) (ht : titheServe s (p.val - 32) = none) (hc : portChans s p = [c]) (hm : chFraming s c = frMacsec)
    (htfc : ctxBit s Ctx.TFC_EN c = false) (hq : (s.chan c).eq = f :: rest)
    (hl : lineLen s c f ≤ (s.chan c).deficit + creditOf s p c) (hd : seqDecide s c (macsecBlocks s c f.len) = .stay)
    (he : takeEngine s p = some (e, u)) (hr : s.f TWN_STATUS.ROLE 0 ≠ 1) (h : memQuiet s ctxCtl) :
    ∃ w, UnitReady s w p c ((s.chan c).deficit + creditOf s p c - lineLen s c f) f rest (macsecBlocks s c f.len) ∧
      exec (.transmitOpportunity p) s = .next (settleDeficit (flowEval (pushSlot w p c e
        (macsecFrame s c (egMat s c (egCur s c)) (ctx s Ctx.NEXT_SEQ c) (bufFetch s f).1) false
        (some ⟨ctx s Ctx.NEXT_SEQ c, egCur s c, (bufFetch s f).1⟩)) f.port) p c) := by
  rw [transmitOpportunity_one hs ht hc hm, serveData_one hc hm htfc hq hl hd]
  generalize (s.chan c).deficit + creditOf s p c - lineLen s c f = n
  obtain ⟨sl, hsl⟩ := takeEngine_congr (t := dealt s p c n) he rfl (by unfold dealt; rw [State.port_setPort_self]; rfl)
  have hsl : takeEngine (dealt s p c n) p = some (e, turned s p c n sl) := hsl
  have hctx : SameContexts s (turned s p c n sl) := ⟨rfl, rfl, rfl, rfl⟩
  have hseal := hctx.sealSame c
  have hdec : seqDecide (turned s p c n sl) c (macsecBlocks (turned s p c n sl) c f.len) = .stay := by
    rw [hseal.macsecBlocks, turned_frame]
    refine (seqDecide_queues (n := n) ?_ _ _).trans hd
    exact (turned_chan c).trans (if_pos rfl)
  have hqt : ((turned s p c n sl).chan c).eq = f :: rest := by rw [turned_chan, if_pos rfl]; exact hq
  have hquiet : memQuiet (turned s p c n sl) ctxCtl := h
  have ho : chFraming s c ≠ frOtn := by rw [hm]; decide
  have hlt := (sequence_stay h ho hr hd).2
  have hready := unitReady (p := p) (c := c) (n := n) (sl := sl) (f := f) (rest := rest)
    (blocks := macsecBlocks s c f.len) h hlt
  have hsend := sendUnit_stay hsl (hseal.chFraming.trans hm) hqt hquiet hr hdec
  have hnum := (numbered_quiet (blocks := macsecBlocks s c f.len) hquiet (show ctx (turned s p c n sl) Ctx.NEXT_SEQ c < 2 ^ 63 by
    rw [hctx.ctx]; exact hlt)).1
  have hbytes : frameBytes (numbered (turned s p c n sl) c (macsecBlocks s c f.len)) f = (bufFetch s f).1 := by
    rw [hnum.frameBytes, frameBytes_congr hctx.rams hctx.blank, bufFetch_clean h.1]
  rw [hseal.macsecBlocks] at hsend
  dsimp only at hsend
  rw [hbytes, hready.same.macsecFrame, hready.same.egMat, hseal.egCur, hctx.ctx] at hsend
  exact ⟨_, hready, congrArg (fun v => Host.Outcome.next (settleDeficit v p c)) hsend⟩

/-! Bales leave as one sealed unit each (R97–R102) -/

/-- Without errors a fetch of frames gives their bytes and changes nothing. -/
theorem bufFetchAll_clean {s : State} (h : noErrors s) (fs : List QFrame) :
    bufFetchAll s fs = (fs.map (frameBytes s), false, s) := by
  unfold bufFetchAll
  suffices hl : ∀ (fs : List QFrame) (b : List (List Byte)), fs.foldl (fun t f =>
      let u := bufFetch t.2.2 f
      (t.1 ++ [u.1], t.2.1 || u.2.1, u.2.2)) (b, false, s) = (b ++ fs.map (frameBytes s), false, s) from hl fs []
  intro fs
  induction fs with
  | nil => intro b; simp
  | cons f fs ih =>
    intro b
    rw [List.foldl_cons, List.map_cons, ← List.singleton_append, ← List.append_assoc]
    simp only [bufFetch_clean h, Bool.or_self]
    exact ih _

/-- A sealed bale waits for a transmit opportunity, and the client bytes in it are held for their count. -/
def baleWaits (s : State) (c : Nat) (b : Bale) (n : Nat) : State :=
  chCount (s.setChan c { s.chan c with openBale := none, ready := (s.chan c).ready ++ [b] }) c cOutOctets n

theorem sealBale_clean {s : State} (h : noErrors s) (c k n : Nat) (fs : List QFrame) (len : Option Nat) :
    sealBale s c k n fs len = baleWaits s c ⟨baleFrame s c (egMat s c k) n (balePayload (fs.map (frameBytes s)) len), fs.length,
      false, n, k, balePayload (fs.map (frameBytes s)) len⟩ (clientBytes fs) := by
  unfold sealBale
  rw [bufFetchAll_clean h]
  rfl

theorem closeBale_none {s : State} {c : Nat} (h : (s.chan c).openBale = none) : closeBale s c = s := by
  unfold closeBale
  rw [h]

theorem packBale_empty {s : State} {c : Nat} (h : (s.chan c).eq = []) (fuel : Nat) : packBale s c fuel = s := by
  cases fuel with
  | zero => rfl
  | succ n =>
    rw [packBale]
    simp only [h]

/-- With no frame in the queue and no open bale there is nothing to pack. -/
theorem packChannel_empty {s : State} {c : Nat} (hf : chFraming s c = frBale) (hr : chRuns s c = true) (hq : (s.chan c).eq = [])
    (ho : (s.chan c).openBale = none) : packChannel s c = flowEval s (chClient s c) := by
  unfold packChannel
  rw [if_pos (by simp [hf, hr])]
  simp only [packBale_empty hq, closeBale_none ho, ite_self]

section
variable {s : State} {c : Nat}

/-- A bale of frames was sealed as a unit under the current slot and the next number. -/
structure BaleSealed (s t : State) (c : Nat) (fs : List QFrame) (payload : List Byte) : Prop where
  opened : (t.chan c).openBale = none
  ready : (t.chan c).ready = (s.chan c).ready ++
    [⟨baleFrame s c (egMat s c (egCur s c)) (ctx s Ctx.NEXT_SEQ c) payload, fs.length,
      false, ctx s Ctx.NEXT_SEQ c, egCur s c, payload⟩]
  next : ctx t Ctx.NEXT_SEQ c = ctx s Ctx.NEXT_SEQ c + 1
  octets : pends t c cOutOctets = pends s c cOutOctets + clientBytes fs
  keeps : keepsCtx s t c [Ctx.NEXT_SEQ, Ctx.EPOCH_BLOCKS]
  chans : keepsChans s t c
  ports : ∀ q, q ≠ chClient s c → t.port q = s.port q
  frame : t = { s with regs := t.regs, cnts := t.cnts, out := t.out, chans := t.chans, ports := t.ports, cntPend := t.cntPend,
                       rams := t.rams, valid := t.valid, memCtl := t.memCtl }

theorem baleWaits_frame (s : State) (c : Nat) (b : Bale) (n : Nat) :
    baleWaits s c b n = { s with chans := (baleWaits s c b n).chans, cntPend := (baleWaits s c b n).cntPend } := rfl

theorem chRuns_of_regs {s t : State} (h : t.regs = s.regs) (c : Nat) : chRuns t c = chRuns s c := by
  unfold chRuns chLive chState shadows State.mode State.f State.reg
  rw [h]

theorem baleSealed {blocks : Nat} (hf : chFraming s c = frBale) (hruns : chRuns s c = true) (hq : (s.chan c).eq = [])
    (hr : s.f TWN_STATUS.ROLE 0 ≠ 1) (h : memQuiet s ctxCtl) (hd : seqDecide s c blocks = .stay) (fs : List QFrame)
    (len : Option Nat) :
    sequence s c blocks = (some (egCur s c, ctx s Ctx.NEXT_SEQ c), numbered s c blocks) ∧
      BaleSealed s (packChannel (sealBale (numbered s c blocks) c (egCur s c) (ctx s Ctx.NEXT_SEQ c) fs len) c) c fs
        (balePayload (bufFetchAll s fs).1 len) := by
  obtain ⟨hseq, hlt⟩ := sequence_stay h (by rw [hf]; decide) hr hd
  refine ⟨hseq, ?_⟩
  obtain ⟨o, hnext, -⟩ := numbered_quiet (blocks := blocks) h hlt
  revert o hnext
  generalize numbered s c blocks = v
  intro o hnext
  have hs := o.sealSame
  have hbytes : fs.map (frameBytes v) = (bufFetchAll s fs).1 := by
    rw [bufFetchAll_clean h.1]
    exact List.map_congr_left fun f _ => o.frameBytes f
  rw [sealBale_clean (o.frame.errs.trans h.1), hbytes, hs.baleFrame, hs.egMat]
  generalize hb : (⟨baleFrame s c (egMat s c (egCur s c)) (ctx s Ctx.NEXT_SEQ c)
      (balePayload (bufFetchAll s fs).1 len), fs.length,
    false, ctx s Ctx.NEXT_SEQ c, egCur s c, balePayload (bufFetchAll s fs).1 len⟩ : Bale) = b
  have hw : SameContexts v (baleWaits v c b (clientBytes fs)) := ⟨rfl, rfl, rfl, rfl⟩
  have hvc : ∀ d, v.chan d = s.chan d := chan_of_chans o.frame.chans
  have hself : (baleWaits v c b (clientBytes fs)).chan c =
      { v.chan c with openBale := none, ready := (v.chan c).ready ++ [b] } := State.chan_setChan_self ..
  have hother : keepsChans v (baleWaits v c b (clientBytes fs)) c := keepsChans_setChan v c _
  have hpend : pends (baleWaits v c b (clientBytes fs)) c cOutOctets = pends s c cOutOctets + clientBytes fs :=
    (pends_chCount_self ..).trans (congrArg (· + clientBytes fs) (pends_of_held o.frame.cntPend c cOutOctets))
  have hfr := baleWaits_frame v c b (clientBytes fs)
  revert hw hself hother hpend hfr
  generalize baleWaits v c b (clientBytes fs) = w
  intro hw hself hother hpend hfr
  have hws := hs.trans (hw.sealSame c)
  have hwr : w.regs = s.regs := hw.regs.trans o.frame.regs
  rw [packChannel_empty (hws.chFraming.trans hf) ((chRuns_of_regs hwr c).trans hruns) (by rw [hself, hvc]; exact hq)
    (by rw [hself]), hws.chClient]
  have hflow := flowOnly_flowEval w (chClient s c)
  revert hflow
  generalize flowEval w (chClient s c) = t
  intro hflow
  have ht := hflow.sameQueues
  subst hb
  refine ⟨?_, ?_, ?_, ?_, ?_, fun d hd => ?_, fun q hq => ?_, ?_⟩
  · rw [ht.chan, hself]
  · rw [ht.chan, hself, hvc]
  · rw [ht.ctx, hw.ctx, hnext]
  · rw [pends_of_held (show t.cntPend = w.cntPend from (congrArg State.cntPend hflow.frame).trans rfl), hpend]
  · exact fun k a ha => (memByte_congr ht.rams ht.blank k a).trans <| (memByte_congr hw.rams hw.blank k a).trans (o.keeps k a ha)
  · rw [ht.chan, hother d hd, hvc]
  · rw [hflow.others q hq]
    exact congrArg (SMap.get _ · q) (((congrArg State.ports hfr).trans rfl).trans o.frame.ports)
  · rw [hflow.frame, hfr, show v = _ from o.frame]

end

section
variable {s : State} {c : Fin 16384} {b : OpenBale}

/-- BALE_TIMEOUT closes the open bale with what it holds (R99). -/
theorem baleTimeout_closes (hf : chFraming s c = frBale) (hr : chRuns s c = true) (ht : ctxBit s Ctx.TFC_EN c = false)
    (hb : (s.chan c).openBale = some b) {k n : Nat} {v : State}
    (hs : sequence s c (baleBlocks (recordBytes b.frames)) = (some (k, n), v)) :
    exec (.baleTimeout c) s = .next (packChannel (sealBale v c k n b.frames none) c) := by
  show execBaleTimeout c s = _
  rw [execBaleTimeout, if_pos (by simp [hf, hr, ht]), closeBale]
  simp only [hb, hs]

theorem baleTimeout_tfc (ht : ctxBit s Ctx.TFC_EN c = true) : exec (.baleTimeout c) s = .next s := by
  show execBaleTimeout c s = _
  rw [execBaleTimeout, if_neg (by simp [ht])]

/-- A sending instant seals the open bale, completed to TFC_LEN (R102). -/
theorem tfcSendInstant_open (hf : chFraming s c = frBale) (hr : chRuns s c = true) (ht : ctxBit s Ctx.TFC_EN c = true)
    (hb : (s.chan c).openBale = some b) {k n : Nat} {v : State}
    (hs : sequence s c (baleBlocks (max (recordBytes b.frames) (baleMax s c))) = (some (k, n), v))
    (hm : baleMax v c = baleMax s c) :
    exec (.tfcSendInstant c) s = .next (packChannel (sealBale v c k n b.frames (some (baleMax s c))) c) := by
  show execTfcSendInstant c s = _
  rw [execTfcSendInstant, if_pos (by simp [hf, hr, ht])]
  simp only [hb, hs, hm]

/-- Without an open bale it seals one of padding. -/
theorem tfcSendInstant_padding (hf : chFraming s c = frBale) (hr : chRuns s c = true) (ht : ctxBit s Ctx.TFC_EN c = true)
    (hb : (s.chan c).openBale = none) {k n : Nat} {v : State}
    (hs : sequence s c (baleBlocks (max (recordBytes []) (baleMax s c))) = (some (k, n), v)) (hm : baleMax v c = baleMax s c) :
    exec (.tfcSendInstant c) s = .next (packChannel (sealBale v c k n [] (some (baleMax s c))) c) := by
  show execTfcSendInstant c s = _
  rw [execTfcSendInstant, if_pos (by simp [hf, hr, ht])]
  simp only [hb, hs, hm]

theorem baleMax_numbered {c : Nat} {blocks : Nat} (h : memQuiet s ctxCtl) (hn : ctx s Ctx.NEXT_SEQ c < 2 ^ 63) :
    baleMax (numbered s c blocks) c = baleMax s c := (numbered_quiet h hn).1.sealSame.baleMax

end

/-- Settles O22: the opportunity of a port with one channel, the bales' two times, and the round robin's pass by pass. -/
theorem opportunitiesSealAndServe : Obligations.OpportunitiesSealAndServe := by
  unfold Obligations.OpportunitiesSealAndServe
  refine ⟨?_, fun s c b => ?_, ?_⟩
  · intro s u p c e f rest blocks n k ps fr credit hs ht hc hm htfc hq hl hd he hr h
    obtain ⟨w, hw, hexec⟩ := transmitOpportunity_sends hs ht hc hm htfc hq hl hd he hr h
    exact ⟨_, hexec, hw.sent ..⟩
  · intro k n sealed runs bytes long blocks
    -- what `sealed` asks is what a sealed bale is
    have done : ∀ {t : State} {fs : List QFrame} {payload : List Byte}, BaleSealed s t c fs payload → sealed t fs payload :=
      fun h => ⟨h.opened, h.ready, h.next, h.octets, h.keeps, h.chans, h.ports, h.frame⟩
    refine ⟨?_, ?_, ?_, baleTimeout_tfc⟩
    · rintro ⟨hf, hr, hq, hrole, h⟩ ht hb hd
      obtain ⟨hseq, hsealed⟩ := baleSealed hf hr hq hrole h hd b.frames none
      exact ⟨_, baleTimeout_closes hf hr ht hb hseq, done hsealed⟩
    · rintro ⟨hf, hr, hq, hrole, h⟩ ht hb hd
      obtain ⟨hseq, hsealed⟩ := baleSealed hf hr hq hrole h hd b.frames (some (baleMax s c))
      have hlt := (sequence_stay h (by rw [hf]; decide) hrole hd).2
      exact ⟨_, tfcSendInstant_open hf hr ht hb hseq (baleMax_numbered h hlt), done hsealed⟩
    · rintro ⟨hf, hr, hq, hrole, h⟩ ht hb hd
      obtain ⟨hseq, hsealed⟩ := baleSealed hf hr hq hrole h hd [] (some (baleMax s c))
      have hlt := (sequence_stay h (by rw [hf]; decide) hrole hd).2
      exact ⟨_, tfcSendInstant_padding hf hr ht hb hseq (baleMax_numbered h hlt), done hsealed⟩
  · intro cands len weight d ptr here hne hsort hunit
    exact dwrr_serves hne hsort hunit

end Sys2Proof.Machine
end

section
/-! Configuration of ports: checked writes of the registers of a port's window (O18). -/

namespace Sys2Proof.Machine

section
variable {s : State} {m : Master} {p : Nat} {v : Word} {r : Reg}

/-- An access to the window of the port that the master selects runs on that port. -/
theorem onPort_reaches (h : reaches s .port m p) (effect : Nat → State → State) : onPort s m effect = effect p s := by
  obtain ⟨hup, hsel⟩ := h
  rw [onPort, whenUp, if_pos (show s.blkUp .PORT = true from hup), inWindow, hsel]

theorem onlyRegs_acceptCheck (s : State) (chk : Reg) (m : Master) :
    onlyRegs s (acceptCheck s chk m) [(chk, masterIdx m)] [] := onlyRegs_setReg ..

theorem refusedWith.only {t : State} {chk : Reg} {inst c : Nat} (h : refusedWith s t chk m inst c) :
    onlyRegs s t [(chk, masterIdx m), (.GLB_LASTREF, 0), (.GLB_LASTREF_INST, 0), (.GLB_LASTREF_TIME_LO, 0),
      (.GLB_LASTREF_TIME_HI, 0), (.GLB_EVT, 0)] [(.GLB_REFUSALS, 0)] := by
  obtain ⟨-, -, -, -, -, -, -, honly⟩ := h
  exact honly

/-- A configuration register written after the acceptance of its check. -/
def portWritten (s : State) (m : Master) (r : Reg) (p : Nat) (v : Word) : State :=
  (acceptCheck s .PORT_CHECK m).setReg r p (maskedWrite r v)

theorem portRegWrite_accepted {causes : State → List Nat} (h : causes (s.setReg r p (maskedWrite r v)) = [])
    (after : State → State) : portRegWrite s m r p v causes after = after (portWritten s m r p v) := by
  rw [portRegWrite, h, checked_nil, portWritten]

theorem portRegWrite_refused {causes : State → List Nat} {c : Nat} (hc : c ∈ causes (s.setReg r p (maskedWrite r v)))
    (hmin : ∀ d ∈ causes (s.setReg r p (maskedWrite r v)), c ≤ d) (after : State → State) :
    refusedWith s (portRegWrite s m r p v causes after) .PORT_CHECK m p c := by
  rw [portRegWrite, checked_lowest _ _ _ _ _ hc hmin]
  exact refusedWith_refuseCheck s m p c (by decide)

/-- An accepted write shows its acceptance and the bits written, and nothing else. -/
theorem portWritten_spec (hr : r ≠ .PORT_CHECK) (s : State) (m : Master) (p : Nat) (v : Word) :
    accepted (portWritten s m r p v) .PORT_CHECK m ∧ (portWritten s m r p v).reg r p = maskedWrite r v ∧
    onlyRegs s (portWritten s m r p v) [(r, p), (.PORT_CHECK, masterIdx m)] [] := by
  refine ⟨?_, State.reg_setReg_self, ?_⟩
  · rw [accepted, portWritten, State.reg_setReg_ne hr.symm]
    exact State.reg_setReg_self
  · exact ((onlyRegs_acceptCheck s .PORT_CHECK m).trans (onlyRegs_setReg ..)).mono (by simp) (by simp)

/-- A field of the register written is the same whether or not the check register was written before. -/
theorem f_portWritten {x : Fld} (hr : r ≠ .PORT_CHECK) (hx : x.reg = r) :
    (portWritten s m r p v).f x p = (s.setReg r p (maskedWrite r v)).f x p := by
  rw [State.f, State.f, hx, (portWritten_spec hr s m p v).2.1, State.reg_setReg_self]

theorem provisioned_setReg (hr : r ≠ .PORT_STATUS) (i q : Nat) (w : Word) :
    provisioned (s.setReg r i w) q = provisioned s q := by
  rw [provisioned, State.fb, State.f_setReg fun h => hr h.1.symm]
  rfl

/-- The fields of PORT_CFG that a provisioned port keeps (R54). -/
abbrev shapeFlds : List Fld := [PORT_CFG.WIDTH, PORT_CFG.TYPE, PORT_CFG.FRAMING, PORT_CFG.PAIR]

theorem shapeFlds_reg : ∀ x ∈ shapeFlds, x.reg = .PORT_CFG := by decide

/-- A change of the shape of a provisioned port is the lowest cause of a PORT_CFG write. -/
theorem cfgCauses_of_shape {t : State} (hprov : provisioned t p = true) (h : ∃ x ∈ shapeFlds, t.f x p ≠ s.f x p) :
    0x52 ∈ cfgCauses s t p ∧ ∀ d ∈ cfgCauses s t p, 0x52 ≤ d := by
  have hchange : (s.f PORT_CFG.WIDTH p != t.f PORT_CFG.WIDTH p || s.f PORT_CFG.TYPE p != t.f PORT_CFG.TYPE p ||
      s.f PORT_CFG.FRAMING p != t.f PORT_CFG.FRAMING p || s.f PORT_CFG.PAIR p != t.f PORT_CFG.PAIR p) = true := by
    obtain ⟨x, hx, hne⟩ := h
    simp only [List.mem_cons, List.not_mem_nil, or_false] at hx
    simp only [Bool.or_eq_true, bne_iff_ne]
    rcases hx with rfl | rfl | rfl | rfl
    exacts [.inl (.inl (.inl hne.symm)), .inl (.inl (.inr hne.symm)), .inl (.inr hne.symm), .inr hne.symm]
  rw [cfgCauses, if_pos hprov, hchange]
  simp only [cause, if_true]
  split <;> simp

theorem cfgCauses_unprovisioned {t : State} (hprov : provisioned t p = false) : cfgCauses s t p = [] := by
  rw [cfgCauses, hprov]; rfl

end

/-- Settles O18: a new shape is the lowest cause against the write of a provisioned port, and without a provisioned port there
is none. -/
theorem provisionedPortsKeepTheirShape : Obligations.ProvisionedPortsKeepTheirShape := by
  intro s m p v hreach w shape
  have hexec : exec (.portCfgWrite m v) s = .next (portCfgWrite s m p v) :=
    congrArg Host.Outcome.next (onPort_reaches hreach _)
  have hprov : provisioned w p = provisioned s p := provisioned_setReg (by decide) ..
  refine ⟨fun h hshape => ⟨_, hexec, ?_⟩, fun h => ⟨_, hexec, ?_⟩⟩
  · obtain ⟨hmem, hmin⟩ := cfgCauses_of_shape (hprov.trans h) hshape
    have href : refusedWith s (portCfgWrite s m p v) .PORT_CHECK m p 0x52 := portRegWrite_refused hmem hmin id
    exact ⟨href, fun x hx => href.only.f (by simp [shapeFlds_reg x hx])⟩
  · rw [portCfgWrite, portRegWrite_accepted (cfgCauses_unprovisioned (hprov.trans h))]
    obtain ⟨hacc, -, honly⟩ := portWritten_spec (r := .PORT_CFG) (by decide) s m p v
    exact ⟨hacc, fun x hx => f_portWritten (by decide) (shapeFlds_reg x hx), honly⟩

end Sys2Proof.Machine
end

section
/-! Link-up and loss of ports: lock, alignment, holds, faults, and what the end of a line port's link leaves alone (O20). -/

namespace Sys2Proof.Machine

/-! ### Fields beside the one written -/

/-- Two fields that share no bit of a register. -/
abbrev Fld.beside (x y : Fld) : Prop := x.lo + x.len ≤ 32 ∧ (y.reg ≠ x.reg ∨ y.lo + y.len ≤ x.lo ∨ x.lo + x.len ≤ y.lo)

section
variable {s : State} {x y : Fld} {i j n : Nat}

theorem State.f_setF_beside (h : x.beside y) : (s.setF x i n).f y j = s.f y j :=
  State.f_setF_ne h.1 (h.2.imp_right .inr)

theorem State.fb_setF_beside (h : x.beside y) : (s.setF x i n).fb y j = s.fb y j := by
  rw [State.fb, State.f_setF_beside h, State.fb]

theorem State.f_setB_beside {b : Bool} (h : x.beside y) : (s.setB x i b).f y j = s.f y j := State.f_setF_beside h

theorem State.fb_setB_beside {b : Bool} (h : x.beside y) : (s.setB x i b).fb y j = s.fb y j := State.fb_setF_beside h

theorem setsRegs_setB (s : State) (x : Fld) (i : Nat) (b : Bool) : setsRegs s (s.setB x i b) [(x.reg, i)] := setsRegs_setF ..

theorem State.f_raise_beside (h : x.beside y) : (s.raise x i).f y j = s.f y j := State.f_setF_beside h

theorem State.fb_raise_beside (h : x.beside y) : (s.raise x i).fb y j = s.fb y j := State.fb_setF_beside h

theorem State.fb_setF_zero (hx : x.lo + x.len ≤ 32) : (s.setF x i 0).fb x i = false := by
  rw [State.fb_setF hx, Nat.zero_mod]; rfl

theorem State.fb_setF_set (hx : x.lo + x.len ≤ 32 ∧ x.len = 1) : (s.setF x i 1).fb x i = true := by
  rw [State.fb_setF hx.1, hx.2]; rfl

theorem State.port_setB {b : Bool} (q : Nat) : (s.setB x i b).port q = s.port q := by
  rw [State.port, State.setB_ports, State.port]

@[simp] theorem State.fb_setPort {p : Nat} {v : PortSt} : (s.setPort p v).fb x i = s.fb x i := rfl

end

/-! ### Width and faults of a port (R41, R77) -/

section
variable {s : State} {p : Nat}

/-- A port has at most eight lanes. -/
theorem portWidth_le (s : State) (p : Nat) : portWidth s p ≤ 8 := by
  have h : s.f PORT_CFG.WIDTH p < 2 ^ 2 := bitsOf_lt ..
  exact Nat.pow_le_pow_right (by decide) (show _ ≤ 3 by omega)

theorem laneMask_lt (s : State) (p : Nat) : laneMask s p < 2 ^ 8 := by
  have h : 2 ^ portWidth s p ≤ 2 ^ 8 := Nat.pow_le_pow_right (by decide) (portWidth_le s p)
  have hpos := Nat.two_pow_pos (portWidth s p)
  rw [laneMask]
  omega

theorem faultEval_eq (s : State) (p : Nat) : faultEval s p =
    (s.setB PORT_STATUS.LF p (s.fb PORT_STATUS.READY p && ((s.port p).lfRx || !s.fb PORT_STATUS.ALIGN p))).setB PORT_STATUS.RF p
      (s.fb PORT_STATUS.READY p && (s.port p).rfRx) := by
  simp only [faultEval, State.port_setB]

theorem setsRegs_faultEval (s : State) (p : Nat) : setsRegs s (faultEval s p) [(.PORT_STATUS, p)] := by
  rw [faultEval_eq]
  exact ((setsRegs_setB ..).trans (setsRegs_setB ..)).mono (by simp [PORT_STATUS.LF, PORT_STATUS.RF])

/-- The evaluation of the faults writes LF and RF alone. -/
theorem f_faultEval {x : Fld} {i : Nat} (h : PORT_STATUS.LF.beside x ∧ PORT_STATUS.RF.beside x) :
    (faultEval s p).f x i = s.f x i := by
  rw [faultEval_eq, State.f_setB_beside h.2, State.f_setB_beside h.1]

theorem fb_faultEval {x : Fld} {i : Nat} (h : PORT_STATUS.LF.beside x ∧ PORT_STATUS.RF.beside x) :
    (faultEval s p).fb x i = s.fb x i := by
  rw [State.fb, f_faultEval h, State.fb]

theorem fb_faultEval_LF : (faultEval s p).fb PORT_STATUS.LF p =
    (s.fb PORT_STATUS.READY p && ((s.port p).lfRx || !s.fb PORT_STATUS.ALIGN p)) := by
  rw [faultEval_eq, State.fb_setB_beside (by decide), State.fb_setB (by decide) rfl]

theorem fb_faultEval_RF : (faultEval s p).fb PORT_STATUS.RF p = (s.fb PORT_STATUS.READY p && (s.port p).rfRx) := by
  rw [faultEval_eq, State.fb_setB (by decide) rfl]

/-! ### Link-up (R59) -/

theorem hsLineUp_of_nil (h : s.keys = []) : hsLineUp s p = s := by
  simp only [hsLineUp, h, List.filter_nil, List.foldl_nil]

/-- LINK is set; no handshake waits for the link of a client port, nor of a line port without key records. -/
theorem linkSet_eq (h : p < 32 ∨ s.keys = []) : linkSet s p = (s.setF PORT_STATUS.LINK p 1).raise PORT_EVT.LINK_UP p := by
  simp only [linkSet]
  split
  · next hline =>
    have hkeys : s.keys = [] := h.resolve_left (Nat.not_lt.2 (of_decide_eq_true hline))
    exact hsLineUp_of_nil (by rw [State.raise_keys, State.setF_keys, hkeys])
  · rfl

theorem linkSet_spec (h : p < 32 ∨ s.keys = []) : linkUp (linkSet s p) p = true ∧
    (linkSet s p).fb PORT_EVT.LINK_UP p = true ∧ onlyRegs s (linkSet s p) [(.PORT_STATUS, p), (.PORT_EVT, p)] [] := by
  rw [linkSet_eq h]
  refine ⟨?_, State.fb_raise (by decide) rfl, (onlyRegs_setF ..).trans (onlyRegs_raise ..)⟩
  rw [linkUp, State.fb_raise_beside (by decide)]
  exact State.fb_setF_set (by decide)

/-- An aligned port: ALIGN is set and the faults follow. -/
def aligned (s : State) (p : Nat) : State := faultEval (s.setF PORT_STATUS.ALIGN p 1) p

theorem onlyRegs_aligned (s : State) (p : Nat) : onlyRegs s (aligned s p) [(.PORT_STATUS, p)] [] :=
  ((onlyRegs_setF ..).trans (setsRegs_faultEval ..).only).mono (by simp [PORT_STATUS.ALIGN]) (by simp)

theorem keys_aligned : (aligned s p).keys = s.keys := (congrArg State.keys (onlyRegs_aligned s p).1).trans rfl

theorem fb_aligned {x : Fld} {i : Nat} (h : PORT_STATUS.ALIGN.beside x ∧ PORT_STATUS.LF.beside x ∧ PORT_STATUS.RF.beside x) :
    (aligned s p).fb x i = s.fb x i := (fb_faultEval h.2).trans (State.fb_setF_beside h.1)

theorem fb_aligned_ALIGN : (aligned s p).fb PORT_STATUS.ALIGN p = true :=
  (fb_faultEval (by decide)).trans (State.fb_setF_set (by decide))

theorem linkUp_aligned : linkUp (aligned s p) p = linkUp s p := fb_aligned (by decide)

theorem f_aligned_UP_HOLD : (aligned s p).f PORT_HOLD.UP_HOLD p = s.f PORT_HOLD.UP_HOLD p :=
  (onlyRegs_aligned s p).f (by simp [PORT_HOLD.UP_HOLD])

end

section
variable {s : State} {p : Fin 64}

/-- PORT_ALIGNMENT of a port that can align: what follows depends on its link and its up-hold. -/
theorem portAlignment_of (h : canAlign s p = true) : exec (.portAlignment p) s = .next
    (if linkUp s p then (aligned s p).setF PORT_STATUS.HOLD p 0
     else if s.f PORT_HOLD.UP_HOLD p = 0 then linkSet (aligned s p) p else aligned s p) := by
  rw [← linkUp_aligned (s := s), ← f_aligned_UP_HOLD (s := s)]
  exact congrArg Host.Outcome.next (if_pos h)

theorem cdrLock_spec (hready : s.fb PORT_STATUS.READY p = true) : ∃ t, exec (.cdrLock p) s = .next t ∧
    t.f PORT_STATUS.LOCK p = laneMask s p ∧ t.f PORT_STATUS.SIG p = laneMask s p ∧ onlyRegs s t [(.PORT_STATUS, p.val)] [] := by
  refine ⟨_, congrArg Host.Outcome.next (if_pos hready), State.f_setF_one (by decide) (laneMask_lt ..), ?_, ?_⟩
  · rw [State.f_setF_beside (by decide)]
    exact State.f_setF_one (by decide) (laneMask_lt ..)
  · exact ((onlyRegs_setF ..).trans (onlyRegs_setF ..)).mono (by simp [PORT_STATUS.SIG, PORT_STATUS.LOCK]) (by simp)

theorem portAlignment_held (h : canAlign s p = true) (hdown : linkUp s p = false) (hup : s.f PORT_HOLD.UP_HOLD p ≠ 0) :
    ∃ t, exec (.portAlignment p) s = .next t ∧ t.fb PORT_STATUS.ALIGN p = true ∧ linkUp t p = false ∧
      onlyRegs s t [(.PORT_STATUS, p.val)] [] := by
  refine ⟨aligned s p, ?_, fb_aligned_ALIGN, linkUp_aligned.trans hdown, onlyRegs_aligned ..⟩
  rw [portAlignment_of h, hdown, if_neg Bool.false_ne_true, if_neg hup]

theorem portAlignment_links (h : canAlign s p = true) (hdown : linkUp s p = false) (hup : s.f PORT_HOLD.UP_HOLD p = 0)
    (hkeys : p.val < 32 ∨ s.keys = []) : ∃ t, exec (.portAlignment p) s = .next t ∧ linkUp t p = true ∧
      t.fb PORT_EVT.LINK_UP p = true ∧ onlyRegs s t [(.PORT_STATUS, p.val), (.PORT_EVT, p.val)] [] := by
  obtain ⟨hlink, hevt, honly⟩ := linkSet_spec (s := aligned s p) (p := p) (by rwa [keys_aligned])
  refine ⟨_, ?_, hlink, hevt, ((onlyRegs_aligned s p).trans honly).mono (by simp) (by simp)⟩
  rw [portAlignment_of h, hdown, if_neg Bool.false_ne_true, if_pos hup]

theorem portAlignment_resumes (h : canAlign s p = true) (hup : linkUp s p = true) :
    ∃ t, exec (.portAlignment p) s = .next t ∧ t.fb PORT_STATUS.HOLD p = false ∧ linkUp t p = true ∧
      onlyRegs s t [(.PORT_STATUS, p.val)] [] := by
  refine ⟨_, (portAlignment_of h).trans (congrArg Host.Outcome.next (if_pos hup)), State.fb_setF_zero (by decide), ?_, ?_⟩
  · exact (State.fb_setF_beside (by decide)).trans (linkUp_aligned.trans hup)
  · exact ((onlyRegs_aligned s p).trans (onlyRegs_setF ..)).mono (by simp [PORT_STATUS.HOLD]) (by simp)

theorem upHoldExpiry_links (hready : s.fb PORT_STATUS.READY p = true) (halign : s.fb PORT_STATUS.ALIGN p = true)
    (hdown : linkUp s p = false) (hkeys : p.val < 32 ∨ s.keys = []) : ∃ t, exec (.upHoldExpiry p) s = .next t ∧
      linkUp t p = true ∧ t.fb PORT_EVT.LINK_UP p = true ∧ onlyRegs s t [(.PORT_STATUS, p.val), (.PORT_EVT, p.val)] [] :=
  ⟨_, congrArg Host.Outcome.next (if_pos (by simp [hready, halign, hdown])), linkSet_spec hkeys⟩

end

/-! ### Failure of a lane (R60) -/

section
variable {s : State} {p : Nat}

/-- What a lane loses, with the event of its loss. -/
def laneLost (s : State) (p lane : Nat) (k : LaneFail) : State :=
  match k with
  | .signal => ((s.setF PORT_STATUS.SIG p (putBits (s.f PORT_STATUS.SIG p) lane 1 0)).setF PORT_STATUS.LOCK p
      (putBits (s.f PORT_STATUS.LOCK p) lane 1 0)).raise PORT_EVT.LOCK_LOST p
  | .cdr => (s.setF PORT_STATUS.LOCK p (putBits (s.f PORT_STATUS.LOCK p) lane 1 0)).raise PORT_EVT.LOCK_LOST p
  | .align => s.raise PORT_EVT.ALIGN_LOST p

theorem onlyRegs_laneLost (s : State) (p lane : Nat) (k : LaneFail) :
    onlyRegs s (laneLost s p lane k) [(.PORT_STATUS, p), (.PORT_EVT, p)] [] := by
  cases k with
  | signal =>
    refine ((onlyRegs_setF ..).trans <| (onlyRegs_setF ..).trans (onlyRegs_raise ..)).mono ?_ (by simp)
    simp [PORT_STATUS.SIG, PORT_STATUS.LOCK, PORT_EVT.LOCK_LOST]
  | cdr => exact (onlyRegs_setF ..).trans (onlyRegs_raise ..)
  | align => exact (onlyRegs_raise ..).mono (by simp [PORT_EVT.ALIGN_LOST]) (by simp)

/-- The failure of a lane writes SIG and LOCK of PORT_STATUS alone. -/
theorem fb_laneLost {x : Fld} {i lane : Nat} {k : LaneFail} (hreg : x.reg = .PORT_STATUS) (hlo : 16 ≤ x.lo) :
    (laneLost s p lane k).fb x i = s.fb x i := by
  have hsig : PORT_STATUS.SIG.beside x := ⟨by decide, .inr (.inr hlo)⟩
  have hlock : PORT_STATUS.LOCK.beside x := ⟨by decide, .inr (.inr (le_trans (by decide) hlo))⟩
  have hlost : PORT_EVT.LOCK_LOST.beside x := ⟨by decide, .inl (by rw [hreg]; decide)⟩
  have halign : PORT_EVT.ALIGN_LOST.beside x := ⟨by decide, .inl (by rw [hreg]; decide)⟩
  cases k with
  | signal =>
    exact (State.fb_raise_beside hlost).trans <| (State.fb_setF_beside hlock).trans (State.fb_setF_beside hsig)
  | cdr => exact (State.fb_raise_beside hlost).trans (State.fb_setF_beside hlock)
  | align => exact State.fb_raise_beside halign

/-- The bit of a lane that is cleared in a field of all lanes. -/
theorem bitAt_lane_cleared {x : Fld} {lane v : Nat} (hx : x.lo + x.len ≤ 32) :
    bitAt ((s.setF x p (putBits v lane 1 0)).f x p) lane = false := by
  rw [State.f_setF hx]
  exact bitAt_cleared ..

theorem laneLost_LOCK {lane : Nat} {k : LaneFail} (hk : k ≠ .align) :
    bitAt ((laneLost s p lane k).f PORT_STATUS.LOCK p) lane = false := by
  cases k with
  | align => exact absurd rfl hk
  | signal | cdr =>
    rw [laneLost, State.f_raise_beside (by decide)]
    exact bitAt_lane_cleared (by decide)

theorem laneLost_SIG {lane : Nat} : bitAt ((laneLost s p lane .signal).f PORT_STATUS.SIG p) lane = false := by
  rw [laneLost, State.f_raise_beside (by decide), State.f_setF_beside (by decide)]
  exact bitAt_lane_cleared (by decide)

/-- A port one of whose lanes has failed is not aligned. -/
def laneOut (s : State) (p lane : Nat) (k : LaneFail) : State :=
  faultEval ((laneLost s p lane k).setF PORT_STATUS.ALIGN p 0) p

theorem onlyRegs_laneOut (s : State) (p lane : Nat) (k : LaneFail) :
    onlyRegs s (laneOut s p lane k) [(.PORT_STATUS, p), (.PORT_EVT, p)] [] :=
  ((onlyRegs_laneLost s p lane k).trans <| (onlyRegs_setF ..).trans (setsRegs_faultEval ..).only).mono
    (by simp [PORT_STATUS.ALIGN]) (by simp)

theorem f_laneOut {x : Fld} {i lane : Nat} {k : LaneFail}
    (h : PORT_STATUS.ALIGN.beside x ∧ PORT_STATUS.LF.beside x ∧ PORT_STATUS.RF.beside x) :
    (laneOut s p lane k).f x i = (laneLost s p lane k).f x i := (f_faultEval h.2).trans (State.f_setF_beside h.1)

theorem linkUp_laneOut {lane : Nat} {k : LaneFail} : linkUp (laneOut s p lane k) p = linkUp s p := by
  rw [linkUp, State.fb, f_laneOut (by decide), ← State.fb, fb_laneLost rfl (by decide), linkUp]

/-- While a down-hold runs, the loss of a lane leaves the link up. -/
theorem laneFail_held {lane : Nat} {k : LaneFail} (hup : linkUp s p = true) (hhold : s.f PORT_HOLD.DOWN_HOLD p ≠ 0)
    (hotn : (isLine p && framing s p == frOtn) = false) :
    laneFail s p lane k = (laneOut s p lane k).setF PORT_STATUS.HOLD p 1 := by
  have honly := onlyRegs_laneOut s p lane k
  have hframing : framing (laneOut s p lane k) p = framing s p := honly.f (by simp [PORT_CFG.FRAMING])
  have hdown : ((laneOut s p lane k).setF PORT_STATUS.HOLD p 1).f PORT_HOLD.DOWN_HOLD p = s.f PORT_HOLD.DOWN_HOLD p :=
    (State.f_setF_beside (by decide)).trans (honly.f (by simp [PORT_HOLD.DOWN_HOLD]))
  have hfail : laneFail s p lane k =
      let t := if isLine p && framing (laneOut s p lane k) p == frOtn then (portChans (laneOut s p lane k) p).foldl otnLose
        (laneOut s p lane k) else laneOut s p lane k
      if linkUp t p then
        (if (t.setF PORT_STATUS.HOLD p 1).f PORT_HOLD.DOWN_HOLD p = 0 then linkClear (t.setF PORT_STATUS.HOLD p 1) p
         else t.setF PORT_STATUS.HOLD p 1)
      else t.setPort p { t.port p with adapted := false } := rfl
  rw [hfail, hframing, hotn, if_neg Bool.false_ne_true]
  exact (if_pos (linkUp_laneOut.trans hup)).trans (if_neg (by rw [hdown]; exact hhold))

end

theorem laneFailure_holds {s : State} {p : Fin 64} {lane : Fin 8} {k : LaneFail} (hready : s.fb PORT_STATUS.READY p = true)
    (hlane : lane.val < portWidth s p) (hup : linkUp s p = true) (hhold : s.f PORT_HOLD.DOWN_HOLD p ≠ 0)
    (hotn : (isLine p && framing s p == frOtn) = false) : ∃ t, exec (.laneFailure p lane k) s = .next t ∧
      t.fb PORT_STATUS.ALIGN p = false ∧ t.fb PORT_STATUS.HOLD p = true ∧ linkUp t p = true ∧
      (k ≠ .align → bitAt (t.f PORT_STATUS.LOCK p) lane = false) ∧ (k = .signal → bitAt (t.f PORT_STATUS.SIG p) lane = false) ∧
      onlyRegs s t [(.PORT_STATUS, p.val), (.PORT_EVT, p.val)] [] := by
  have hexec : exec (.laneFailure p lane k) s = .next (laneFail s p lane k) :=
    congrArg Host.Outcome.next (if_pos (by simp [hready, hlane]))
  rw [laneFail_held hup hhold hotn] at hexec
  refine ⟨_, hexec, ?_, State.fb_setF_set (by decide), ?_, fun hk => ?_, ?_, ?_⟩
  · exact (State.fb_setF_beside (by decide)).trans <| (fb_faultEval (by decide)).trans (State.fb_setF_zero (by decide))
  · exact (State.fb_setF_beside (by decide)).trans (linkUp_laneOut.trans hup)
  · rw [State.f_setF_beside (by decide), f_laneOut (by decide)]
    exact laneLost_LOCK hk
  · rintro rfl
    rw [State.f_setF_beside (by decide), f_laneOut (by decide)]
    exact laneLost_SIG
  · exact ((onlyRegs_laneOut s p lane k).trans (onlyRegs_setF ..)).mono (by simp [PORT_STATUS.HOLD]) (by simp)

/-! ### What handshakes leave of the links (R197, R202) -/

/-- The registers that hold the state of ports and of fabric links, with the configuration of the twin agent. -/
def linkRegs : List Reg := [.PORT_STATUS, .PORT_EVT, .FAB_LINK_STATUS, .TWN_CFG]

/-- The ports and the registers of links are as they were. -/
structure LinksKept (s t : State) : Prop where
  regs : ∀ r ∈ linkRegs, ∀ i, t.reg r i = s.reg r i
  ports : t.ports = s.ports

section
variable {s t u : State}

theorem linksKept_refl (s : State) : LinksKept s s := ⟨fun _ _ _ => rfl, rfl⟩

theorem LinksKept.trans (h : LinksKept s t) (h' : LinksKept t u) : LinksKept s u :=
  ⟨fun r hr i => (h'.regs r hr i).trans (h.regs r hr i), h'.ports.trans h.ports⟩

theorem linksKept_foldl {β : Type} {f : State → β → State} (h : ∀ s b, LinksKept s (f s b)) (l : List β) (s : State) :
    LinksKept s (l.foldl f s) := foldl_rel_of_step linksKept_refl (fun _ _ _ => LinksKept.trans) h l s

theorem linksKept_ite {q : Prop} [Decidable q] (ht : LinksKept s t) (hu : LinksKept s u) :
    LinksKept s (if q then t else u) := by
  split <;> assumption

/-- A change beside registers and ports. -/
theorem linksKept_of_eq (hr : t.regs = s.regs) (hp : t.ports = s.ports) : LinksKept s t :=
  ⟨fun r _ i => by rw [State.reg, hr, State.reg], hp⟩

theorem linksKept_setReg {r : Reg} (hr : r ∉ linkRegs) (s : State) (i : Nat) (v : Word) : LinksKept s (s.setReg r i v) := by
  refine ⟨fun r' hr' _ => State.reg_setReg_ne ?_, rfl⟩
  rintro rfl
  exact hr hr'

theorem linksKept_setF {x : Fld} (hx : x.reg ∉ linkRegs) (s : State) (i n : Nat) : LinksKept s (s.setF x i n) :=
  linksKept_setReg hx ..

theorem linksKept_raise {x : Fld} (hx : x.reg ∉ linkRegs) (s : State) (i : Nat) : LinksKept s (s.raise x i) :=
  linksKept_setReg hx ..

theorem memOnly.linksKept (h : memOnly s t) : LinksKept s t :=
  ⟨fun r hr i => h.2.1 r i (by revert r; decide), (congrArg State.ports h.1).trans rfl⟩

theorem LinksKept.fb (h : LinksKept s t) {x : Fld} (hx : x.reg ∈ linkRegs) (i : Nat) : t.fb x i = s.fb x i := by
  rw [State.fb, State.f, h.regs _ hx, State.fb, State.f]

/-! #### Contexts, keys and the mirror -/

theorem linksKept_ctxWriteBytes (s : State) (c w : Nat) (bs : List (Option Byte)) (code : Nat) :
    LinksKept s (ctxWriteBytes s c w bs code) := by
  unfold ctxWriteBytes
  have hmem := (memOnly_memWrite s ctxCtl (ctxAddr s c w) bs code).linksKept
  dsimp only
  split
  · exact hmem.trans (linksKept_raise (by decide) ..)
  · exact hmem

theorem linksKept_mirror (s : State) (r : MirrorRec) : LinksKept s (mirror s r) :=
  linksKept_ite (linksKept_of_eq rfl rfl) (linksKept_refl s)

theorem linksKept_takeoverTime (s : State) : LinksKept s (takeoverTime s) := by
  unfold takeoverTime
  split
  · exact linksKept_refl s
  · exact linksKept_ite (linksKept_refl s) ((linksKept_setF (by decide) ..).trans (linksKept_of_eq rfl rfl))

theorem linksKept_kclkEval (s : State) : LinksKept s (kclkEval s) :=
  linksKept_ite ((linksKept_setF (x := CLK_STATUS.K_LOCK) (by decide) s 0 0).trans (linksKept_of_eq rfl rfl)) (linksKept_refl s)

/-! #### Sessions (R191, R197) -/

theorem linksKept_endSession (s : State) (c : Nat) : LinksKept s (endSession s c) := by
  unfold endSession eraseZ
  extract_lets silo s1
  have h1 : LinksKept s s1 := linksKept_of_eq rfl rfl
  refine h1.trans (linksKept_foldl (fun s e => ?_) _ s1)
  split
  · exact linksKept_ite (linksKept_of_eq rfl rfl) (linksKept_refl s)
  · exact linksKept_refl s

theorem linksKept_countReason (s : State) (r : Nat) : LinksKept s (countReason s r) := linksKept_of_eq rfl rfl

theorem linksKept_abandon (s : State) (c : Nat) : LinksKept s (abandon s c) := by
  unfold abandon
  split
  · exact linksKept_refl s
  · exact (linksKept_endSession s c).trans <| (linksKept_setF (x := CH_STATUS.HS_REASON) (by decide) ..).trans <|
      linksKept_countReason ..

theorem linksKept_finishChannel (s : State) (c : Nat) : LinksKept s (finishChannel s c) := by
  unfold finishChannel
  extract_lets s1 s2 s3 s4 ch s5 tw s6
  have hzero : ∀ t, LinksKept t (zeroise t c) := fun t =>
    (linksKept_ctxWriteBytes ..).trans <| (linksKept_ctxWriteBytes ..).trans <| (linksKept_ctxWriteBytes ..).trans <|
      linksKept_ctxWriteBytes ..
  have h2 : LinksKept s s2 := (linksKept_abandon s c).trans <| (hzero _).trans (linksKept_of_eq rfl rfl)
  have h3 : LinksKept s2 s3 := (linksKept_setF (by decide) ..).trans (linksKept_setReg (by decide) ..)
  have h6 : LinksKept s3 s6 := (linksKept_ctxWriteBytes ..).trans (linksKept_of_eq rfl rfl)
  have hstate : LinksKept s6 (chEnter s6 c stDisabled) := (linksKept_setF (by decide) ..).trans (linksKept_mirror ..)
  exact h2.trans <| h3.trans <| h6.trans <| hstate.trans <| (linksKept_takeoverTime _).trans (linksKept_kclkEval _)

theorem linksKept_hsFail (s : State) (c r : Nat) (reroot : Bool) : LinksKept s (hsFail s c r reroot) := by
  unfold hsFail
  extract_lets s1 k s2
  have h1 : LinksKept s s1 := (linksKept_endSession s c).trans (linksKept_countReason ..)
  have hdue : LinksKept s1 (s1.setKey c { k with due := true, retry := if k.retry = 0 then 1 else min 32 (2 * k.retry) }) :=
    linksKept_of_eq rfl rfl
  have h2 : LinksKept s1 s2 := linksKept_ite
    (linksKept_ite (linksKept_setF (by decide) ..) (hdue.trans (linksKept_setF (by decide) ..))) (linksKept_finishChannel ..)
  exact h1.trans <| h2.trans <| (linksKept_setF (by decide) ..).trans (linksKept_raise (by decide) ..)

/-! #### A handshake starts (R183, R202) -/

theorem linksKept_siloSeed {seed : List Byte} (h : siloSeed s = some (seed, t)) : LinksKept s t := by
  unfold siloSeed at h
  dsimp only at h
  split at h
  · split at h
    · cases h
    · cases h
      exact linksKept_of_eq rfl rfl
  · cases h

theorem linksKept_siloReseed (s : State) : LinksKept s (siloReseed s) := by
  unfold siloReseed
  split
  · next h => exact (linksKept_siloSeed h).trans (linksKept_of_eq rfl rfl)
  · exact linksKept_of_eq rfl rfl

theorem linksKept_siloRandom (s : State) (n : Nat) : LinksKept s (siloRandom s n).2 := by
  unfold siloRandom
  split
  · exact linksKept_of_eq rfl rfl
  · extract_lets k d' silo s1
    have h1 : LinksKept s s1 := linksKept_of_eq rfl rfl
    exact linksKept_ite (h1.trans (linksKept_siloReseed s1)) h1

theorem linksKept_queueJobs (s : State) (rank : Nat) (owner : JobOwner) (c dir : Nat) (l : List (Nat × List (List Byte))) :
    LinksKept s (queueJobs s rank owner c dir l) := by
  have hput : ∀ (t : State) (x : Nat × List (List Byte)), LinksKept t (putJob t rank owner c dir x.1 x.2) :=
    fun _ _ => linksKept_of_eq rfl rfl
  have hdispatch : ∀ t, LinksKept t (dispatchJobs t) := fun t => by
    refine linksKept_foldl (fun s e => ?_) _ t
    split
    · exact linksKept_ite (linksKept_of_eq rfl rfl) (linksKept_refl s)
    · exact linksKept_refl s
  have hpll : LinksKept s { s with pllRun := setAt s.pllRun 1 true } := linksKept_of_eq rfl rfl
  exact hpll.trans <| (linksKept_foldl hput l _).trans (hdispatch _)

theorem linksKept_helloBuild (s : State) (peer : W64) (w : HelloFlow) : LinksKept s (helloBuild s peer w).2 := by
  unfold helloBuild hsJobs
  dsimp only
  exact (linksKept_siloRandom s 4).trans <| (linksKept_siloRandom _ 32).trans <| (linksKept_siloRandom _ 48).trans <|
    (linksKept_siloRandom _ 64).trans (linksKept_queueJobs ..)

theorem linksKept_hsSend (s : State) (c : Nat) (m : List Byte) : LinksKept s (hsSend s c m) := by
  refine linksKept_ite ?_ (linksKept_refl s)
  unfold titheSend titheQueue
  dsimp only
  split <;> exact linksKept_of_eq rfl rfl

theorem linksKept_hsStart (s : State) (c : Nat) (reroot : Bool) : LinksKept s (hsStart s c reroot) := by
  unfold hsStart
  dsimp only
  split
  · exact linksKept_hsFail ..
  · have hset : ∀ (t : State) (x : Session), LinksKept t (t.setSession c x) := fun _ _ => linksKept_of_eq rfl rfl
    have hcap : ∀ (t : State) (fi fr : Nat), LinksKept t ((capEpochs t c fi fr).setF CH_STATUS.REKEYING c 1) :=
      fun t fi fr => LinksKept.trans (t := capEpochs t c fi fr) (linksKept_of_eq rfl rfl) (linksKept_setF (by decide) ..)
    refine linksKept_ite (linksKept_hsFail ..) (linksKept_ite (linksKept_hsFail ..) ?_)
    refine LinksKept.trans (linksKept_ite ?_ ?_) ((hset _ _).trans (linksKept_hsSend ..))
    · exact (linksKept_helloBuild ..).trans (hcap ..)
    · exact linksKept_helloBuild ..

/-- Handshakes that start leave every link as it is. -/
theorem linksKept_serveKeyWait (s : State) : LinksKept s (serveKeyWait s) := by
  refine linksKept_foldl (fun s c => linksKept_ite (linksKept_refl s) ?_) _ s
  have hdrop : LinksKept s { s with keyWait := s.keyWait.filter (· != c) } := linksKept_of_eq rfl rfl
  have hstart : ∀ b, LinksKept s (hsStart { s with keyWait := s.keyWait.filter (· != c) } c b) := fun b =>
    hdrop.trans (linksKept_hsStart ..)
  exact linksKept_ite (linksKept_ite (hstart false) hdrop) (linksKept_ite (hstart true) hdrop)

end

/-! ### The end of a down-hold (R60) -/

section
variable {s : State} {p : Nat}

/-- LINK and HOLD clear. -/
def linkFallen (s : State) (p : Nat) : State :=
  ((s.setF PORT_STATUS.HOLD p 0).setF PORT_STATUS.LINK p 0).raise PORT_EVT.LINK_DOWN p

/-- LINK and HOLD clear, and the receiver has to adapt again. -/
def linkLost (s : State) (p : Nat) : State :=
  (linkFallen s p).setPort p { (linkFallen s p).port p with adapted := false }

theorem onlyRegs_linkFallen (s : State) (p : Nat) : onlyRegs s (linkFallen s p) [(.PORT_STATUS, p), (.PORT_EVT, p)] [] :=
  ((onlyRegs_setF ..).trans <| (onlyRegs_setF ..).trans (onlyRegs_raise ..)).mono
    (by simp [PORT_STATUS.HOLD, PORT_STATUS.LINK, PORT_EVT.LINK_DOWN]) (by simp)

theorem fb_linkLost {x : Fld} {i : Nat} : (linkLost s p).fb x i = (linkFallen s p).fb x i := State.fb_setPort

theorem reg_linkLost {r : Reg} {i : Nat} : (linkLost s p).reg r i = (linkFallen s p).reg r i := by
  rw [linkLost, State.reg, State.setPort_regs, State.reg]

theorem linkLost_frame (s : State) (p : Nat) :
    linkLost s p = { s with regs := (linkLost s p).regs, ports := (linkLost s p).ports } := by
  have h := (onlyRegs_linkFallen s p).1
  have hcnts : (linkFallen s p).cnts = s.cnts := by
    rw [linkFallen, State.raise_cnts, State.setF_cnts, State.setF_cnts]
  rw [hcnts] at h
  have hset : linkLost s p = { linkFallen s p with ports := (linkLost s p).ports } := rfl
  rw [show (linkLost s p).regs = (linkFallen s p).regs from State.setPort_regs ..]
  exact hset.trans (congrArg (fun x : State => { x with ports := (linkLost s p).ports }) h)

theorem linkLost_spec (s : State) (p : Nat) : linkUp (linkLost s p) p = false ∧ (linkLost s p).fb PORT_STATUS.HOLD p = false ∧
    (linkLost s p).fb PORT_EVT.LINK_DOWN p = true ∧ ((linkLost s p).port p).adapted = false ∧
    keepsRegs s (linkLost s p) [(.PORT_STATUS, p), (.PORT_EVT, p)] := by
  refine ⟨?_, ?_, ?_, ?_, fun r i hr => ?_⟩
  · rw [linkUp, fb_linkLost, linkFallen, State.fb_raise_beside (by decide), State.fb_setF_zero (by decide)]
  · rw [fb_linkLost, linkFallen, State.fb_raise_beside (by decide), State.fb_setF_beside (by decide),
      State.fb_setF_zero (by decide)]
  · rw [fb_linkLost]
    exact State.fb_raise (by decide) rfl
  · rw [linkLost, State.port_setPort_self]
  · rw [reg_linkLost]
    exact (onlyRegs_linkFallen s p).2.1 r i hr

theorem linkClear_eq (s : State) (p : Nat) :
    linkClear s p = if isLine p then lineLinkDown (linkLost s p) p true else linkLost s p := rfl

theorem linkClear_client (h : p < 32) : linkClear s p = linkLost s p := by
  rw [linkClear_eq, if_neg]
  simp [isLine, h]

/-- The loss of a neighbour that was not adjacent. -/
theorem neighLost_quiet {t : State} {l : Nat} (h : adjacent t l = false) : (neighLost t l).ports = t.ports ∧
    ∀ r i, r ≠ .FAB_LINK_STATUS → r ≠ .FAB_LINK_NEIGH → (neighLost t l).reg r i = t.reg r i := by
  simp only [neighLost, h, Bool.false_eq_true, if_false, setNeighbour]
  refine ⟨rfl, fun r i hs hn => ?_⟩
  rw [State.reg_setReg_ne hn, State.reg_setReg_ne hn, State.reg_setReg_ne hs]
  rfl

/-- The loss of a line port's link, with no session, no adjacency and no failover to end, leaves the ports as they are. -/
theorem lineLinkDown_quiet {t : State} (hs : t.sessions = []) (ha : adjacent t (p - 32) = false)
    (hf : t.fb TWN_CFG.FO_LINK 0 = false) : (lineLinkDown t p true).ports = t.ports ∧
      ∀ r i, r = .PORT_STATUS ∨ r = .PORT_EVT → (lineLinkDown t p true).reg r i = t.reg r i := by
  have hkept : LinksKept t (hsLineLost t p) := by
    rw [hsLineLost, hs]
    exact linksKept_serveKeyWait t
  obtain ⟨hports, hregs⟩ := neighLost_quiet ((hkept.fb (x := FAB_LINK_STATUS.ADJ) (by decide) _).trans ha)
  have hfo : (neighLost (hsLineLost t p) (p - 32)).fb TWN_CFG.FO_LINK 0 = false := by
    rw [State.fb, State.f, hregs _ _ (by decide) (by decide), ← State.f, ← State.fb, hkept.fb (by decide), hf]
  have hdown : lineLinkDown t p true = neighLost (hsLineLost t p) (p - 32) := if_neg (by simp [hfo])
  rw [hdown]
  refine ⟨hports.trans hkept.ports, fun r i hr => ?_⟩
  rcases hr with rfl | rfl <;> exact (hregs _ _ (by decide) (by decide)).trans (hkept.regs _ (by decide) _)

theorem linkClear_line (h : 32 ≤ p) (hs : s.sessions = []) (ha : adjacent s (p - 32) = false)
    (hf : s.fb TWN_CFG.FO_LINK 0 = false) : linkUp (linkClear s p) p = false ∧
      (linkClear s p).fb PORT_EVT.LINK_DOWN p = true ∧ ((linkClear s p).port p).adapted = false := by
  obtain ⟨hlink, -, hevt, hadapted, hregs⟩ := linkLost_spec s p
  have hkeep : ∀ {x : Fld} i, x.reg ≠ .PORT_STATUS → x.reg ≠ .PORT_EVT → (linkLost s p).fb x i = s.fb x i := fun i h1 h2 => by
    rw [State.fb, State.f, hregs _ _ (by simp [h1, h2]), State.fb, State.f]
  have hnone : (linkLost s p).sessions = [] := (congrArg State.sessions (linkLost_frame s p)).trans hs
  obtain ⟨hports, hsame⟩ := lineLinkDown_quiet (t := linkLost s p) (p := p) hnone
    ((hkeep (x := FAB_LINK_STATUS.ADJ) _ (by decide) (by decide)).trans ha) ((hkeep _ (by decide) (by decide)).trans hf)
  have hfld : ∀ x : Fld, x.reg = .PORT_STATUS ∨ x.reg = .PORT_EVT →
      (lineLinkDown (linkLost s p) p true).fb x p = (linkLost s p).fb x p := fun x hx => by
    rw [State.fb, State.f, hsame _ _ hx, State.fb, State.f]
  rw [linkClear_eq, if_pos (show isLine p = true from decide_eq_true h)]
  refine ⟨?_, ?_, ?_⟩
  · exact (hfld PORT_STATUS.LINK (.inl rfl)).trans hlink
  · exact (hfld PORT_EVT.LINK_DOWN (.inr rfl)).trans hevt
  · rw [State.port, hports]
    exact hadapted

end

/-! ### Fault ordered sets (R77) -/

theorem faultOrderedSets_seen {s : State} {p : Fin 64} {lf rf : Bool} (hready : s.fb PORT_STATUS.READY p = true)
    (hsees : seesLine s p = true) : ∃ t, exec (.faultOrderedSetsRx p lf rf) s = .next t ∧
      t.fb PORT_STATUS.LF p = (lf || !s.fb PORT_STATUS.ALIGN p) ∧ t.fb PORT_STATUS.RF p = rf ∧
      t = { s with regs := t.regs, ports := t.ports } ∧ keepsRegs s t [(.PORT_STATUS, p.val)] := by
  have hset := setsRegs_faultEval (s.setPort p { s.port p with lfRx := lf, rfRx := rf }) p
  have hports := congrArg State.ports hset.1
  refine ⟨_, congrArg Host.Outcome.next (if_pos (by simp [hready, hsees])), ?_, ?_, ?_, hset.2⟩
  · rw [fb_faultEval_LF]
    simp [hready]
  · rw [fb_faultEval_RF]
    simp [hready]
  · rw [hports]
    exact hset.1

/-- Settles O20: each stage by its lemma, and at the end of a down-hold handshakes that start leave the link as it is. -/
theorem linksComeUpAndGoDown : Obligations.LinksComeUpAndGoDown := by
  intro s p lane k lf rf ready st ev
  refine ⟨cdrLock_spec, fun hready hlock => ?_, portAlignment_held, portAlignment_links, portAlignment_resumes,
    upHoldExpiry_links, laneFailure_holds, fun hhold hp => ?_, fun hhold hp hs ha hf => ?_, fun _ hsees => ?_,
    faultOrderedSets_seen⟩
  · exact congrArg Host.Outcome.next (if_pos ⟨hlock, hready⟩)
  · obtain ⟨hlink, hhold', hevt, hadapted, hregs⟩ := linkLost_spec s p
    have hexec : exec (.downHoldExpiry p) s = .next (linkClear s p) := congrArg Host.Outcome.next (if_pos hhold)
    rw [linkClear_client hp] at hexec
    exact ⟨_, hexec, hlink, hhold', hevt, hadapted, linkLost_frame s p, hregs⟩
  · exact ⟨_, congrArg Host.Outcome.next (if_pos hhold), linkClear_line hp hs ha hf⟩
  · exact congrArg Host.Outcome.next (if_neg (by simp [hsees]))

end Sys2Proof.Machine
end

section
/-! PORT_CTL requests and the configuration of ports: slices powered and gated, the mirror of a port, what a port discards,
and flow control after a write (O17). -/

namespace Sys2Proof.Machine

/-! ### Flow control: counters, ports and outputs (R63, R65, R69) -/

section
variable {s t u : State} {p : Nat}

/-- The counters of flow control. -/
abbrev flowCnts (p : Nat) : List (Ctr × Nat) :=
  [(.PORT_PAUSE_TX, p), (.PORT_TX_FRAMES, p), (.PORT_RX_FRAMES, p), (.PORT_PAUSE_RX, p), (.PORT_CTL_DROP, p)]

theorem keepsCnts_of_eq {l : List (Ctr × Nat)} (h : t.cnts = s.cnts) : keepsCnts s t l := fun c i _ => by
  rw [State.cnt, h, State.cnt]

theorem keepsCnts.trans {l : List (Ctr × Nat)} (h : keepsCnts s t l) (h' : keepsCnts t u l) : keepsCnts s u l :=
  fun c i hc => (h' c i hc).trans (h c i hc)

theorem keepsCnts_inc {l : List (Ctr × Nat)} {c : Ctr} {i : Nat} (h : (c, i) ∈ l) (s : State) : keepsCnts s (s.inc c i) l := by
  refine fun c' i' hc => State.cnt_inc_ne ?_
  rintro ⟨rfl, rfl⟩
  exact hc h

/-- What flow control counts, and where its frames go: into the port itself under a near-end loopback, nowhere under a far-end
one, and out otherwise. -/
structure FlowLoops (s t : State) (p : Nat) : Prop where
  counts : keepsCnts s t (flowCnts p)
  ports : s.f PORT_CTL.LPBK p ≠ 1 → t.ports = s.ports
  held : s.f PORT_CTL.LPBK p = 1 ∨ s.f PORT_CTL.LPBK p = 2 → t.out = s.out

theorem FlowLoops.trans (h : FlowLoops s t p) (hl : t.f PORT_CTL.LPBK p = s.f PORT_CTL.LPBK p) (h' : FlowLoops t u p) :
    FlowLoops s u p :=
  ⟨h.counts.trans h'.counts, fun hn => (h'.ports (hl ▸ hn)).trans (h.ports hn),
    fun hn => (h'.held (hl ▸ hn)).trans (h.held hn)⟩

/-- A change of registers alone. -/
theorem flowLoops_of_regs (h : t = { s with regs := t.regs }) : FlowLoops s t p :=
  ⟨keepsCnts_of_eq ((congrArg State.cnts h).trans rfl), fun _ => (congrArg State.ports h).trans rfl,
    fun _ => (congrArg State.out h).trans rfl⟩

/-- A received MAC control frame counts as one of flow control, and nothing leaves. -/
theorem macControl_counts (s : State) (p : Nat) (f : List Byte) :
    keepsCnts s (macControl s p f) (flowCnts p) ∧ (macControl s p f).out = s.out := by
  have hdrop : keepsCnts s (ctlDrop s p) (flowCnts p) := (keepsCnts_inc (by simp) s).trans (keepsCnts_of_eq rfl)
  have hrx : keepsCnts s (s.inc .PORT_PAUSE_RX p) (flowCnts p) := keepsCnts_inc (by simp) s
  unfold macControl
  extract_lets op
  split
  · exact ⟨hdrop, rfl⟩
  · split
    · exact ⟨hrx.trans (keepsCnts_of_eq rfl), rfl⟩
    · split
      · have hset := setQuanta_ports (s.inc .PORT_PAUSE_RX p) p (bitAt (beAt f 16 2)) (fun i => beAt f (18 + 2 * i) 2)
          (List.range 8)
        exact ⟨hrx.trans (keepsCnts_of_eq ((congrArg State.cnts hset).trans rfl)), (congrArg State.out hset).trans rfl⟩
      · exact ⟨hdrop, rfl⟩

theorem flowLoops_sendPause (s : State) (p q : Nat) : FlowLoops s (sendPause s p q) p := by
  unfold sendPause
  extract_lets f lpbk t
  have ht : keepsCnts s t (flowCnts p) := (keepsCnts_inc (by simp) s).trans (keepsCnts_inc (by simp) _)
  have hout : t.out = s.out := (State.inc_out ..).trans (State.inc_out ..)
  have hports : t.ports = s.ports := (State.inc_ports ..).trans (State.inc_ports ..)
  clear_value f t
  split
  · exact flowLoops_of_regs rfl
  · next h2 =>
    split
    · next h1 =>
      split
      · obtain ⟨hcnt, hkept⟩ := macControl_counts (t.inc .PORT_RX_FRAMES p) p f
        exact ⟨ht.trans <| (keepsCnts_inc (by simp) t).trans hcnt, fun h => absurd h1 h,
          fun _ => hkept.trans <| (State.inc_out ..).trans hout⟩
      · exact ⟨ht, fun h => absurd h1 h, fun _ => hout⟩
    · next h1 =>
      exact ⟨ht.trans (keepsCnts_of_eq (State.emit_cnts ..)), fun _ => (State.emit_ports ..).trans hports,
        fun h => absurd h (not_or.2 ⟨h1, h2⟩)⟩

theorem flowLoops_flowEval (s : State) (p : Nat) : FlowLoops s (flowEval s p) p := by
  obtain ⟨u, hu, h | ⟨q, h | h⟩⟩ := flowEval_cases s p <;> rw [h]
  · exact flowLoops_of_regs hu.1
  · exact (flowLoops_of_regs hu.1).trans hu.lpbk (flowLoops_sendPause ..)
  · have hsend := flowLoops_sendPause u p q
    have hraise : FlowLoops u ((sendPause u p q).raise PORT_EVT.XOFF_ON p) p := ⟨hsend.counts, hsend.ports, hsend.held⟩
    exact (flowLoops_of_regs hu.1).trans hu.lpbk hraise

end

/-! ### Writes of the configuration (R54, R55, R69, R79) -/

section
variable {s : State} {m : Master} {p : Nat} {v : Word} {r : Reg}

/-- Flow control judged after the write of a register of its own. -/
theorem portWritten_flowEval (hr : r ∈ [Reg.PORT_FC, .PORT_EXP_LIMIT, .PORT_XOFF, .PORT_XON]) :
    let t := flowEval (portWritten s m r p v) p
    accepted t .PORT_CHECK m ∧ t.reg r p = maskedWrite r v ∧
    t = { s with regs := t.regs, cnts := t.cnts, out := t.out, ports := t.ports } ∧
    keepsRegs s t [(r, p), (.PORT_CHECK, masterIdx m), (.PORT_STATUS, p), (.PORT_EVT, p), (.PORT_EXP_OCC, p)] ∧
    keepsCnts s t [(.PORT_PAUSE_TX, p), (.PORT_TX_FRAMES, p), (.PORT_RX_FRAMES, p), (.PORT_PAUSE_RX, p), (.PORT_CTL_DROP, p)] ∧
    (s.f PORT_CTL.LPBK p ≠ 1 → t.ports = s.ports) ∧
    (s.f PORT_CTL.LPBK p = 1 ∨ s.f PORT_CTL.LPBK p = 2 → t.out = s.out) := by
  intro t
  have hne : ∀ q ∈ [Reg.PORT_CHECK, .PORT_STATUS, .PORT_EVT, .PORT_EXP_OCC, .PORT_CTL], r ≠ q := by
    revert r; decide
  simp only [List.forall_mem_cons] at hne
  obtain ⟨hchk, hstatus, hevt, hocc, hctl, -⟩ := hne
  obtain ⟨hacc, hset, hframe, hregs, -⟩ := portWritten_spec hchk s m p v
  have hflow := flowOnly_flowEval (portWritten s m r p v) p
  have hlpbk : (portWritten s m r p v).f PORT_CTL.LPBK p = s.f PORT_CTL.LPBK p := by
    rw [State.f, hregs _ _ (by simp [PORT_CTL.LPBK, hctl.symm]), State.f]
  have hloops := (FlowLoops.trans (u := t) (flowLoops_of_regs (s := s) (t := portWritten s m r p v) (p := p) rfl) hlpbk
    (flowLoops_flowEval ..))
  refine ⟨?_, ?_, ?_, fun q i hq => ?_, hloops.counts, hloops.ports, hloops.held⟩
  · exact (hflow.regs _ _ (by simp)).trans hacc
  · exact (hflow.regs _ _ (by simp [hstatus, hevt, hocc])).trans hset
  · exact hflow.frame.trans (congrArg (fun x : State =>
      { x with regs := t.regs, cnts := t.cnts, out := t.out, ports := t.ports }) hframe)
  · simp only [List.mem_cons, List.not_mem_nil, or_false, not_or] at hq
    obtain ⟨h1, h2, h3, h4, h5⟩ := hq
    exact (hflow.regs q i (by simp [h3, h4, h5])).trans (hregs q i (by simp [h1, h2]))

theorem portTxeqWrite_kept {i : Nat}
    (h : v.toNat / 2 ^ 18 % 64 + v.toNat / 2 ^ 12 % 64 + v.toNat / 2 ^ 6 % 64 + v.toNat % 64 ≤ 63) :
    portTxeqWrite s p i v = s.setReg .PORT_TXEQ (8 * p + i) (maskedWrite .PORT_TXEQ v) :=
  if_neg (by simp only [bitsOf]; omega)

theorem portTxeqWrite_ignored {i : Nat}
    (h : 63 < v.toNat / 2 ^ 18 % 64 + v.toNat / 2 ^ 12 % 64 + v.toNat / 2 ^ 6 % 64 + v.toNat % 64) :
    portTxeqWrite s p i v = s := if_pos (by simp only [bitsOf]; omega)

end

/-! ### Slices of a port (R32, R33, R53) -/

section
variable {s t u : State} {p e sl : Nat} {l l' : List Nat}

theorem nodup_portSlices (s : State) (p : Nat) : (portSlices s p).Nodup :=
  List.nodup_range.map fun _ _ h => Nat.add_left_cancel h

theorem portSlices_congr (h : t.reg .PORT_CFG p = s.reg .PORT_CFG p) : portSlices t p = portSlices s p := by
  rw [portSlices, portWidth, State.f, show PORT_CFG.WIDTH.reg = .PORT_CFG from rfl, h]
  rfl

theorem setsRegs_engStateUnlessWedged (s : State) (e v : Nat) : setsRegs s (engStateUnlessWedged s e v) [(.ENG_STATUS, e)] := by
  unfold engStateUnlessWedged
  split
  · exact setsRegs_refl s
  · exact setsRegs_setF ..

theorem engState_unlessWedged {v : Nat} (hv : v < 8) :
    engState (engStateUnlessWedged s e v) e = if engState s e = engWedged then engWedged else v := by
  unfold engStateUnlessWedged
  split
  · next h => exact h.trans (if_pos h).symm
  · next h => exact (State.f_setF_one (by decide) hv).trans (if_neg h).symm

/-- The status registers of the engines of a slice. -/
abbrev engRegs (sl : Nat) : List (Reg × Nat) := [(.ENG_STATUS, 2 * sl), (.ENG_STATUS, 2 * sl + 1)]

theorem mem_engRegs {r : Reg} {i : Nat} : (r, i) ∈ l.flatMap engRegs ↔ r = .ENG_STATUS ∧ i / 2 ∈ l := by
  simp only [List.mem_flatMap, List.mem_cons, List.not_mem_nil, or_false, Prod.mk.injEq, ← and_or_left]
  refine ⟨?_, fun ⟨hr, hi⟩ => ⟨i / 2, hi, hr, by omega⟩⟩
  rintro ⟨k, hk, rfl, hi⟩
  obtain rfl : k = i / 2 := by omega
  exact ⟨rfl, hk⟩

/-- What the power of some slices changes: each of them is powered, and the engines of those that slept load their code. -/
structure Powered (s t : State) (l : List Nat) : Prop where
  frame : t = { s with regs := t.regs, slices := t.slices, pllRun := t.pllRun }
  regs : keepsRegs s t (l.flatMap engRegs)
  on : ∀ sl ∈ l, (t.slice sl).powered = true
  off : ∀ sl, sl ∉ l → t.slice sl = s.slice sl
  loads : ∀ sl ∈ l, (s.slice sl).powered = false → ∀ e, e / 2 = sl →
    engState t e = if engState s e = engWedged then engWedged else engLoading

theorem powered_refl (s : State) : Powered s s [] := ⟨rfl, fun _ _ _ => rfl, by simp, fun _ _ => rfl, by simp⟩

theorem Powered.engState_kept (h : Powered s t l) (he : e / 2 ∉ l) : engState t e = engState s e := by
  rw [engState, State.f, h.regs _ _ fun hm => he (mem_engRegs.1 hm).2]
  rfl

theorem Powered.trans (h : Powered s t l) (h' : Powered t u l') (hd : l.Disjoint l') : Powered s u (l ++ l') where
  frame := by rw [h'.frame, h.frame]
  regs := fun r i hr => by
    rw [List.flatMap_append, List.mem_append, not_or] at hr
    exact (h'.regs r i hr.2).trans (h.regs r i hr.1)
  on := fun sl hs => by
    by_cases hl' : sl ∈ l'
    · exact h'.on sl hl'
    · rw [h'.off sl hl']
      exact h.on sl ((List.mem_append.1 hs).resolve_right hl')
  off := fun sl hs => by
    rw [List.mem_append, not_or] at hs
    exact (h'.off sl hs.2).trans (h.off sl hs.1)
  loads := fun sl hs hoff e he => by
    rcases List.mem_append.1 hs with hl | hl
    · rw [h'.engState_kept (he ▸ hd hl)]
      exact h.loads sl hl hoff e he
    · have hn : sl ∉ l := fun hm => hd hm hl
      rw [h'.loads sl hl (by rw [h.off sl hn]; exact hoff) e he, h.engState_kept (he ▸ hn)]

/-- A slice that takes power. -/
def SliceSt.on (x : SliceSt) : SliceSt := { x with powered := true, ready := false, failed := false }

/-- A slice that is powered, before its engines load. -/
def sliceOn (s : State) (sl : Nat) : State :=
  { s.setSlice sl (s.slice sl).on with pllRun := setAt s.pllRun 0 true }

theorem powerSlice_of_off (h : ¬ (s.slice sl).powered = true) : powerSlice s sl =
    engStateUnlessWedged (engStateUnlessWedged (sliceOn s sl) (2 * sl) 1) (2 * sl + 1) 1 := if_neg h

theorem slice_sliceOn (k : Nat) : (sliceOn s sl).slice k =
    if k = sl then (s.slice sl).on else s.slice k := by
  have hslices : (sliceOn s sl).slices = (s.setSlice sl (s.slice sl).on).slices := rfl
  rw [State.slice, hslices]
  exact State.slice_setSlice

theorem powered_powerSlice (s : State) (sl : Nat) : Powered s (powerSlice s sl) [sl] := by
  by_cases hp : (s.slice sl).powered = true
  · rw [show powerSlice s sl = s from if_pos hp]
    exact ⟨rfl, fun _ _ _ => rfl, by simpa using hp, fun _ _ => rfl, by simp [hp]⟩
  rw [powerSlice_of_off hp]
  have hstate : ∀ e, engState (sliceOn s sl) e = engState s e := fun _ => rfl
  have hreg : ∀ r i, (sliceOn s sl).reg r i = s.reg r i := fun _ _ => rfl
  have hframe : sliceOn s sl = { s with slices := (sliceOn s sl).slices, pllRun := (sliceOn s sl).pllRun } := rfl
  have hslice := slice_sliceOn (s := s) (sl := sl)
  generalize sliceOn s sl = t at hstate hreg hframe hslice
  have h0 := setsRegs_engStateUnlessWedged t (2 * sl) 1
  have h0s : engState (engStateUnlessWedged t (2 * sl) 1) (2 * sl) = _ := engState_unlessWedged (by decide)
  generalize engStateUnlessWedged t (2 * sl) 1 = u at h0 h0s
  have h1 := setsRegs_engStateUnlessWedged u (2 * sl + 1) 1
  have h1s : engState (engStateUnlessWedged u (2 * sl + 1) 1) (2 * sl + 1) = _ := engState_unlessWedged (by decide)
  generalize engStateUnlessWedged u (2 * sl + 1) 1 = w at h1 h1s
  have hwslice : ∀ k, w.slice k = t.slice k := fun k => by rw [State.slice, (h0.trans h1).1, State.slice]
  refine ⟨?_, fun r i hr => ?_, fun k hk => ?_, fun k hk => ?_, fun k hk _ e he => ?_⟩
  · rw [(h0.trans h1).1, hframe]
  · rw [(h0.trans h1).2 r i (by simpa using hr), hreg]
  · rw [hwslice, hslice, if_pos (List.mem_singleton.1 hk)]
    rfl
  · rw [hwslice, hslice, if_neg (fun h => hk (List.mem_singleton.2 h))]
  · obtain rfl := List.mem_singleton.1 hk
    obtain rfl | rfl : e = 2 * k ∨ e = 2 * k + 1 := by omega
    · have hkept : engState w (2 * k) = engState u (2 * k) := h1.only.f (by simp [ENG_STATUS.STATE])
      rw [hkept, h0s, hstate, engLoading]
    · have hkept : engState u (2 * k + 1) = engState t (2 * k + 1) := h0.only.f (by simp [ENG_STATUS.STATE])
      rw [h1s, hkept, hstate, engLoading]

theorem powered_powerSlices (hl : l.Nodup) : Powered s (l.foldl powerSlice s) l := by
  induction l generalizing s with
  | nil => exact powered_refl s
  | cons sl l ih =>
    obtain ⟨hnot, hl⟩ := List.nodup_cons.1 hl
    exact (powered_powerSlice s sl).trans (ih hl) (by simpa using hnot)

/-! #### Slices on which no port remains -/

theorem sliceProvisioned_congr (h : ∀ r i, r = .PORT_STATUS ∨ r = .PORT_CFG → t.reg r i = s.reg r i) (sl : Nat) :
    sliceProvisioned t sl = sliceProvisioned s sl := by
  have hprov : ∀ p, provisioned t p = provisioned s p := fun p => by
    rw [provisioned, State.fb, State.f, show PORT_STATUS.PROV.reg = .PORT_STATUS from rfl, h _ _ (.inl rfl)]
    rfl
  have hslices : ∀ p, portSlices t p = portSlices s p := fun p => portSlices_congr (h _ _ (.inr rfl))
  simp only [sliceProvisioned, provPorts, hprov, hslices]

/-- What gating leaves: ports, links and channels, and all registers but those of engines and clocks. -/
structure Gated (s t : State) : Prop where
  regs : ∀ r i, r ≠ .ENG_STATUS → r ≠ .CLK_STATUS → t.reg r i = s.reg r i
  ports : t.ports = s.ports
  links : t.links = s.links
  chans : t.chans = s.chans
  off : ∀ sl, (s.slice sl).powered = false → (t.slice sl).powered = false

theorem gated_refl (s : State) : Gated s s := ⟨fun _ _ _ _ => rfl, rfl, rfl, rfl, fun _ h => h⟩

theorem Gated.trans (h : Gated s t) (h' : Gated t u) : Gated s u :=
  ⟨fun r i h1 h2 => (h'.regs r i h1 h2).trans (h.regs r i h1 h2), h'.ports.trans h.ports, h'.links.trans h.links,
    h'.chans.trans h.chans, fun sl hs => h'.off sl (h.off sl hs)⟩

/-- What engines that go off leave: slices, ports, links and channels, and all registers but those of their states. -/
structure EngsOff (s t : State) : Prop where
  slices : t.slices = s.slices
  ports : t.ports = s.ports
  links : t.links = s.links
  chans : t.chans = s.chans
  regs : ∀ r i, r ≠ .ENG_STATUS → t.reg r i = s.reg r i

theorem EngsOff.trans (h : EngsOff s t) (h' : EngsOff t u) : EngsOff s u :=
  ⟨h'.slices.trans h.slices, h'.ports.trans h.ports, h'.links.trans h.links, h'.chans.trans h.chans,
    fun r i hr => (h'.regs r i hr).trans (h.regs r i hr)⟩

theorem engsOff_clearRegion (s : State) (k : Nat) : EngsOff s (clearRegion s k) := ⟨rfl, rfl, rfl, rfl, fun _ _ _ => rfl⟩

theorem setsRegs.engsOff (h : setsRegs s t [(.ENG_STATUS, e)]) : EngsOff s t :=
  ⟨(congrArg State.slices h.1).trans rfl, (congrArg State.ports h.1).trans rfl, (congrArg State.links h.1).trans rfl,
    (congrArg State.chans h.1).trans rfl, fun r i hr => h.2 r i (by simp [hr])⟩

/-- The engines of a gated slice are off, and their banks are lost. -/
def engsGated (s : State) (sl : Nat) : State :=
  [2 * sl, 2 * sl + 1].foldl (fun s e => engStateUnlessWedged (clearRegion s e) e 0) s

theorem engsOff_engsGated (s : State) (sl : Nat) : EngsOff s (engsGated s sl) := by
  have hone : ∀ (s : State) (e : Nat), EngsOff s (engStateUnlessWedged (clearRegion s e) e 0) := fun s e =>
    (engsOff_clearRegion s e).trans (setsRegs_engStateUnlessWedged ..).engsOff
  exact (hone s (2 * sl)).trans (hone _ (2 * sl + 1))

/-- A slice that is gated, before its engines go off. -/
def sliceOff (s : State) (sl : Nat) : State :=
  let t := s.setSlice sl { SliceSt.reset with draining := (s.slice sl).draining }
  { t with loaded := t.loaded.filter fun r => r / 2 != sl }

/-- The dclk PLL stops. -/
def dclkOff (s : State) : State := ({ s with pllRun := setAt s.pllRun 0 false }).setF CLK_STATUS.D_LOCK 0 0

theorem slices_dclkOff : (dclkOff s).slices = s.slices := State.setF_slices ..

theorem gated_dclkOff (s : State) : Gated s (dclkOff s) :=
  ⟨fun _ _ _ h => State.reg_setF_ne fun hr => h hr.1, State.setF_ports .., State.setF_links .., State.setF_chans ..,
    fun sl h => by rw [State.slice, slices_dclkOff]; exact h⟩

/-- A slice is gated where no port remains on it. -/
theorem gateSlice_cases (s : State) (sl : Nat) : (sliceProvisioned s sl = true ∧ gateSlice s sl = s) ∨
    Gated s (gateSlice s sl) ∧ ((gateSlice s sl).slice sl).powered = false := by
  by_cases hp : sliceProvisioned s sl = true
  · exact .inl ⟨hp, if_pos hp⟩
  right
  have hgate : gateSlice s sl = if (List.range 32).any fun i => ((engsGated (sliceOff s sl) sl).slice i).powered
      then engsGated (sliceOff s sl) sl else dclkOff (engsGated (sliceOff s sl) sl) := if_neg hp
  have hslice : ∀ k, (sliceOff s sl).slice k =
      if k = sl then { SliceSt.reset with draining := (s.slice sl).draining } else s.slice k :=
    fun k => State.slice_setSlice (s := s) (i := sl) (j := k)
  have hoff : Gated s (sliceOff s sl) := ⟨fun _ _ _ _ => rfl, rfl, rfl, rfl, fun k hk => by
    rw [hslice]
    split
    · rfl
    · exact hk⟩
  have hengs := engsOff_engsGated (sliceOff s sl) sl
  rw [hgate]
  generalize engsGated (sliceOff s sl) sl = u at hengs
  generalize sliceOff s sl = t at hslice hoff hengs
  have huslice : ∀ k, u.slice k = t.slice k := fun k => by rw [State.slice, hengs.slices, State.slice]
  have hself : (u.slice sl).powered = false := by
    rw [huslice, hslice, if_pos rfl]
    rfl
  have hu : Gated s u := hoff.trans
    ⟨fun r i h1 _ => hengs.regs r i h1, hengs.ports, hengs.links, hengs.chans, fun k hk => by rw [huslice]; exact hk⟩
  split
  · exact ⟨hu, hself⟩
  · exact ⟨hu.trans (gated_dclkOff u), (gated_dclkOff u).off sl hself⟩

theorem gated_gateSlice (s : State) (sl : Nat) : Gated s (gateSlice s sl) := by
  obtain ⟨-, h⟩ | ⟨h, -⟩ := gateSlice_cases s sl
  · rw [h]; exact gated_refl s
  · exact h

theorem gated_gateSlices (l : List Nat) (s : State) : Gated s (l.foldl gateSlice s) :=
  foldl_rel_of_step gated_refl (fun _ _ _ => Gated.trans) gated_gateSlice l s

theorem Gated.sliceProvisioned (h : Gated s t) (sl : Nat) : sliceProvisioned t sl = sliceProvisioned s sl :=
  sliceProvisioned_congr (fun r i hr => by rcases hr with rfl | rfl <;> exact h.regs _ _ (by decide) (by decide)) sl

theorem gateSlices_off (hs : sl ∈ l) (hp : sliceProvisioned s sl = false) : ((l.foldl gateSlice s).slice sl).powered = false := by
  induction l generalizing s with
  | nil => simp at hs
  | cons k l ih =>
    have hgate := gated_gateSlice s k
    rcases List.mem_cons.1 hs with rfl | hs
    · obtain ⟨htrue, -⟩ | ⟨-, hoff⟩ := gateSlice_cases s sl
      · rw [hp] at htrue
        cases htrue
      · exact (gated_gateSlices l _).off sl hoff
    · exact ih hs ((hgate.sliceProvisioned sl).trans hp)

end

/-! ### The twin agent is told (R245) -/

section
variable {s t u : State}

/-- What goes to the partner of a member: records or acknowledgements, which only a member of a pair sends. -/
structure Told (s t : State) : Prop where
  frame : t = { s with regs := t.regs, cnts := t.cnts, twin := t.twin, out := t.out }
  regs : keepsRegs s t [(.TWN_STATUS, 0), (.TWN_EVT, 0)]
  cnts : keepsCnts s t [(.TWN_MIRROR_TX, 0)]
  silent : s.f TWN_STATUS.ROLE 0 ≠ 1 → s.f TWN_STATUS.ROLE 0 ≠ 2 → t.twin = s.twin ∧ t.out = s.out ∧ t.cnts = s.cnts

theorem told_refl (s : State) : Told s s := ⟨rfl, fun _ _ _ => rfl, fun _ _ _ => rfl, fun _ _ => ⟨rfl, rfl, rfl⟩⟩

/-- A frame that a member sends after a change of TWN_STATUS and TWN_EVT. -/
theorem told_twinSend (hr : s.f TWN_STATUS.ROLE 0 = 1 ∨ s.f TWN_STATUS.ROLE 0 = 2)
    (h : setsRegs s u [(.TWN_STATUS, 0), (.TWN_EVT, 0)]) (kind : Nat) (body : List Byte) : Told s (twinSend u kind body) := by
  have hcnts : u.cnts = s.cnts := (congrArg State.cnts h.1).trans rfl
  have hregs : (twinSend u kind body).regs = u.regs := rfl
  have hcnt : ∀ c i, ¬ (c = .TWN_MIRROR_TX ∧ i = 0) → (twinSend u kind body).cnt c i = u.cnt c i :=
    fun c i hc => State.cnt_inc_ne hc
  have hframe : twinSend u kind body = { u with
    cnts := (twinSend u kind body).cnts, twin := (twinSend u kind body).twin, out := (twinSend u kind body).out } := rfl
  generalize twinSend u kind body = t at hregs hcnt hframe
  refine ⟨?_, fun r i hr => ?_, fun c i hc => ?_, fun h1 h2 => (hr.elim h1 h2).elim⟩
  · rw [hregs]
    exact hframe.trans (congrArg (fun x : State => { x with cnts := t.cnts, twin := t.twin, out := t.out }) h.1)
  · rw [State.reg, hregs]
    exact h.2 r i hr
  · rw [hcnt c i (by simpa using hc), State.cnt, hcnts, State.cnt]

theorem told_syncEval (s : State) : Told s (syncEval s) := by
  unfold syncEval
  split
  · exact told_refl s
  · next hrole =>
    have hshadow : s.f TWN_STATUS.ROLE 0 = 2 := by
      by_contra hne
      exact hrole (by simp [hne])
    dsimp only
    split
    · exact told_twinSend (.inr hshadow) (((setsRegs_setF ..).trans (setsRegs_raise ..)).mono
        (by simp [TWN_STATUS.SYNC, TWN_EVT.SYNC_DONE])) ..
    · split
      · exact told_twinSend (.inr hshadow) (((setsRegs_setF ..).trans <| (setsRegs_raise ..).trans (setsRegs_raise ..)).mono
          (by simp [TWN_STATUS.SYNC, TWN_EVT.PORT_MISMATCH, TWN_EVT.SYNC_LOST])) ..
      · exact told_refl s

theorem told_mirror (s : State) (r : MirrorRec) : Told s (mirror s r) := by
  unfold mirror
  split
  · next h => exact told_twinSend (.inl h) ((setsRegs_refl s).mono (List.nil_subset _)) ..
  · exact told_refl s

/-- An ACTIVE member sends the record of a port, and a SHADOW judges SYNC: never both. -/
theorem told_portChange (s : State) (p : Nat) : Told s (syncEval (mirrorPort s p)) := by
  by_cases h : s.f TWN_STATUS.ROLE 0 = 1
  · have hkept : (mirrorPort s p).f TWN_STATUS.ROLE 0 = s.f TWN_STATUS.ROLE 0 := by
      rw [mirrorPort, mirror, if_pos h]
      rfl
    have hsync : syncEval (mirrorPort s p) = mirrorPort s p := if_pos (by simp [hkept, h])
    rw [hsync]
    exact told_mirror ..
  · rw [mirrorPort, mirror, if_neg h]
    exact told_syncEval s

end

end Sys2Proof.Machine
end

section
/-! PORT_CTL requests: what provisioning, deprovisioning and a loopback bring about, and the settled statement (O17). -/

namespace Sys2Proof.Machine

/-! ### Causes and outcomes of a request (R10, R53, R64) -/

theorem bitAt_zero_of_odd {n : Nat} (h : n % 2 = 1) : bitAt n 0 = true := by simp [bitAt, h]

theorem bitAt_zero_of_even {n : Nat} (h : n % 2 = 0) : bitAt n 0 = false := by simp [bitAt, h]

section
variable {s : State} {m : Master} {p n : Nat}

/-- A request that leaves the link of the port as it is brings about nothing else. -/
theorem portCtlFull_kept (h : linkUp (portCtl s m p n) p = linkUp s p) : portCtlFull s m p n = portCtl s m p n :=
  if_neg (by rw [h]; cases linkUp s p <;> simp)

theorem mem_loopbackCauses {lpbk c : Nat} (h : c ∈ loopbackCauses s p lpbk) : c = 0x4F ∨ c = 0x50 := by
  unfold loopbackCauses at h
  split at h
  · cases h
  · rcases List.mem_append.1 h with h | h <;> unfold cause at h <;> split at h <;> simp_all

theorem portCtl_on (hv : bitAt n 0 = true) (hl : loopbackCauses s p (bitsOf n 8 2) = [])
    (hp : provisioned s p = true ∨ provisionCauses (s.setF PORT_STATUS.PROV p 1) p = []) :
    portCtl s m p n = provision (acceptCheck s .PORT_CHECK m) p (bitsOf n 8 2 * 256 + 1) := by
  have hnone : (loopbackCauses s p (bitsOf n 8 2) ++
      if provisioned s p then [] else provisionCauses (s.setF PORT_STATUS.PROV p 1) p) = [] := by
    rw [hl, List.nil_append]
    split
    · rfl
    · next h => exact hp.resolve_left h
  simp only [portCtl, hv, hnone, if_true, b2n]
  exact checked_nil ..

/-- A loopback with a cause against it is refused on a provisioned port. -/
theorem portCtl_on_refused (hv : bitAt n 0 = true) (hp : provisioned s p = true) {c : Nat}
    (hc : c ∈ loopbackCauses s p (bitsOf n 8 2)) (hmin : ∀ d ∈ loopbackCauses s p (bitsOf n 8 2), c ≤ d) :
    refusedWith s (portCtl s m p n) .PORT_CHECK m p c := by
  have hlow : (loopbackCauses s p (bitsOf n 8 2)).min? = some c := List.min?_eq_some_iff.2 ⟨hc, hmin⟩
  have hcode : ¬ some c = some 0x54 := by
    rcases mem_loopbackCauses hc with rfl | rfl <;> decide
  simp only [portCtl, hv, hp, if_true, List.append_nil, hlow, hcode, if_false]
  rw [checked_lowest _ _ _ _ _ hc hmin]
  exact refusedWith_refuseCheck s m p c (by decide)

theorem portCtl_off (hv : bitAt n 0 = false) (hl : loopbackCauses s p (bitsOf n 8 2) = []) (hu : portInUse s p = false)
    (hc : clientsOf s p = []) :
    portCtl s m p n = deprovision (acceptCheck s .PORT_CHECK m) p (bitsOf n 8 2 * 256) := by
  have hnone : (loopbackCauses s p (bitsOf n 8 2) ++
      cause (provisioned s p && (portInUse s p || clientsOf s p != [])) 0x4B) = [] := by
    simp [hl, hu, hc, cause]
  simp only [portCtl, hv, hnone, Bool.false_eq_true, if_false, b2n, Nat.add_zero]
  exact checked_nil ..

/-- A port to which enabled channels refer is not deprovisioned. -/
theorem portCtl_off_refused (hv : bitAt n 0 = false) (hp : provisioned s p = true)
    (hl : loopbackCauses s p (bitsOf n 8 2) = []) (hu : portInUse s p = true) :
    refusedWith s (portCtl s m p n) .PORT_CHECK m p 0x4B := by
  simp only [portCtl, hv, hl, hp, hu, cause, Bool.true_or, Bool.and_self, Bool.false_eq_true, if_true, if_false, List.nil_append]
  rw [checked_lowest _ _ _ _ _ (List.mem_singleton_self 0x4B) (by simp)]
  exact refusedWith_refuseCheck s m p 0x4B (by decide)

theorem refusedWith.linkUp {t : State} {c : Nat} (h : refusedWith s t .PORT_CHECK m p c) : linkUp t p = linkUp s p :=
  h.only.fb (by simp [PORT_STATUS.LINK])

theorem portCtlFull_refused {c : Nat} (h : refusedWith s (portCtl s m p n) .PORT_CHECK m p c) :
    refusedWith s (portCtlFull s m p n) .PORT_CHECK m p c := by
  rw [portCtlFull_kept h.linkUp]
  exact h

end

/-! ### Provisioning (R53) -/

section
variable {s : State} {m : Master} {p ctl : Nat}

theorem provisioned_acceptCheck (q : Nat) : provisioned (acceptCheck s .PORT_CHECK m) q = provisioned s q :=
  provisioned_setReg (by decide) ..

/-- A field that is written with what it holds. -/
theorem reg_setF_same {x : Fld} {i v : Nat} (hx : x.lo + x.len ≤ 32) (h : s.f x i = v) (r : Reg) (j : Nat) :
    (s.setF x i v).reg r j = s.reg r j := by
  by_cases hr : r = x.reg ∧ j = i
  · obtain ⟨rfl, rfl⟩ := hr
    refine BitVec.eq_of_toNat_eq ?_
    rw [State.reg_setF hx, ← h, State.f, putBits, Nat.mod_eq_of_lt (bitsOf_lt ..)]
    exact Nat.sub_add_cancel (bitsOf_mul_le ..)
  · exact State.reg_setF_ne hr

/-- PORT_CTL written and PROV set, after the acceptance. -/
def portClaimed (s : State) (m : Master) (p ctl : Nat) : State :=
  ((acceptCheck s .PORT_CHECK m).setReg .PORT_CTL p (BitVec.ofNat 32 ctl)).setF PORT_STATUS.PROV p 1

theorem portClaimed_spec (s : State) (m : Master) (p ctl : Nat) :
    (portClaimed s m p ctl).reg .PORT_CHECK (masterIdx m) = 0x40000000 ∧
    (portClaimed s m p ctl).reg .PORT_CTL p = BitVec.ofNat 32 ctl ∧ provisioned (portClaimed s m p ctl) p = true ∧
    linkUp (portClaimed s m p ctl) p = linkUp s p ∧
    setsRegs s (portClaimed s m p ctl) [(.PORT_CHECK, masterIdx m), (.PORT_CTL, p), (.PORT_STATUS, p)] := by
  refine ⟨?_, ?_, State.fb_setF_set (by decide), ?_, ?_⟩
  · rw [portClaimed, State.reg_setF_ne (by simp [PORT_STATUS.PROV]), State.reg_setReg_ne (by decide)]
    exact State.reg_setReg_self
  · rw [portClaimed, State.reg_setF_ne (by simp [PORT_STATUS.PROV]), State.reg_setReg_self]
  · have honly := (onlyRegs_acceptCheck s .PORT_CHECK m).trans (onlyRegs_setReg _ .PORT_CTL p (BitVec.ofNat 32 ctl))
    exact (State.fb_setF_beside (by decide)).trans (honly.fb (by simp [PORT_STATUS.LINK]))
  · exact (setsRegs_setReg s .PORT_CHECK (masterIdx m) 0x40000000).trans <| (setsRegs_setReg ..).trans (setsRegs_setF ..)

/-- A port that is provisioned takes its loopback alone. -/
theorem provision_again (h : provisioned s p = true) :
    provision (acceptCheck s .PORT_CHECK m) p ctl = portClaimed s m p ctl := by
  simp only [provision, provisioned_acceptCheck, h, Bool.not_true, Bool.false_eq_true, if_false]
  rfl

/-- A port that is provisioned anew powers its slices, READY follows them, and the twin agent is told. -/
theorem provision_fresh (h : provisioned s p = false) : provision (acceptCheck s .PORT_CHECK m) p ctl =
    syncEval (mirrorPort (readyEval ((portSlices s p).foldl powerSlice (portClaimed s m p ctl)) p) p) := by
  have hslices : portSlices (portClaimed s m p ctl) p = portSlices s p :=
    portSlices_congr ((portClaimed_spec s m p ctl).2.2.2.2.2 _ _ (by simp))
  rw [← hslices]
  simp only [provision, provisioned_acceptCheck, h, Bool.not_false, if_true]
  rfl

theorem setsRegs_readyEval (s : State) (p : Nat) : setsRegs s (readyEval s p) [(.PORT_STATUS, p)] :=
  ((setsRegs_setF ..).trans (setsRegs_faultEval ..)).mono (by simp [PORT_STATUS.READY])

theorem fb_readyEval {x : Fld} {i : Nat} (h : PORT_STATUS.READY.beside x ∧ PORT_STATUS.LF.beside x ∧ PORT_STATUS.RF.beside x) :
    (readyEval s p).fb x i = s.fb x i := (fb_faultEval h.2).trans (State.fb_setF_beside h.1)

theorem fb_readyEval_READY : (readyEval s p).fb PORT_STATUS.READY p =
    (provisioned s p && (portSlices s p).all fun sl => (s.slice sl).ready) :=
  (fb_faultEval (by decide)).trans (State.fb_setB (by decide) rfl)

/-- What a port whose slices take power shows: READY follows them. -/
structure Readied (s t : State) (p : Nat) : Prop where
  frame : t = { s with regs := t.regs, slices := t.slices, pllRun := t.pllRun }
  regs : ∀ r i, r ≠ .ENG_STATUS ∨ i / 2 ∉ portSlices s p → ¬ (r = .PORT_STATUS ∧ i = p) → t.reg r i = s.reg r i
  on : ∀ sl ∈ portSlices s p, (t.slice sl).powered = true
  off : ∀ sl, sl ∉ portSlices s p → t.slice sl = s.slice sl
  loads : ∀ sl ∈ portSlices s p, (s.slice sl).powered = false → ∀ e, e / 2 = sl →
    engState t e = if engState s e = engWedged then engWedged else engLoading
  prov : provisioned t p = provisioned s p
  link : linkUp t p = linkUp s p
  ready : provisioned s p = true → t.fb PORT_STATUS.READY p = (portSlices s p).all fun sl => (t.slice sl).ready

theorem readied (s : State) (p : Nat) : Readied s (readyEval ((portSlices s p).foldl powerSlice s) p) p := by
  have hpow : Powered s ((portSlices s p).foldl powerSlice s) (portSlices s p) := powered_powerSlices (nodup_portSlices s p)
  generalize (portSlices s p).foldl powerSlice s = d at hpow
  have hset := setsRegs_readyEval d p
  have hfb : ∀ {x : Fld}, x.reg = .PORT_STATUS → d.fb x p = s.fb x p := fun {x} hx => by
    rw [State.fb, State.f, hpow.regs _ _ fun hm => absurd (mem_engRegs.1 hm).1 (by simp [hx]), State.fb, State.f]
  have hslices : portSlices d p = portSlices s p :=
    portSlices_congr (hpow.regs _ _ fun hm => absurd (mem_engRegs.1 hm).1 (by decide))
  have hslice : ∀ sl, (readyEval d p).slice sl = d.slice sl := fun sl => by rw [State.slice, hset.1, State.slice]
  refine ⟨?_, fun r i hr hp => ?_, fun sl hs => ?_, fun sl hs => ?_, fun sl hs hoff e he => ?_, ?_, ?_, fun hprov => ?_⟩
  · rw [hset.1, hpow.frame]
  · rw [hset.2 r i (by simpa using hp), hpow.regs r i fun hm => ?_]
    obtain ⟨hreg, hi⟩ := mem_engRegs.1 hm
    exact hr.elim (· hreg) (· hi)
  · rw [hslice]; exact hpow.on sl hs
  · rw [hslice]; exact hpow.off sl hs
  · rw [← hpow.loads sl hs hoff e he]
    exact hset.only.f (by simp [ENG_STATUS.STATE])
  · exact (fb_readyEval (by decide)).trans (hfb rfl)
  · exact (fb_readyEval (by decide)).trans (hfb rfl)
  · rw [fb_readyEval_READY, hslices, show provisioned d p = true from (hfb (x := PORT_STATUS.PROV) rfl).trans hprov]
    simp only [hslice, Bool.true_and]

/-- What a provisioning brings about (R53). -/
structure Provisioned (s t : State) (m : Master) (p ctl : Nat) : Prop where
  check : accepted t .PORT_CHECK m
  prov : provisioned t p = true
  ctl : t.reg .PORT_CTL p = BitVec.ofNat 32 ctl
  link : linkUp t p = linkUp s p
  on : ∀ sl ∈ portSlices s p, (t.slice sl).powered = true
  off : ∀ sl, sl ∉ portSlices s p → t.slice sl = s.slice sl
  loads : ∀ sl ∈ portSlices s p, (s.slice sl).powered = false → ∀ e, e / 2 = sl →
    engState t e = if engState s e = engWedged then engWedged else engLoading
  ready : t.fb PORT_STATUS.READY p = (portSlices s p).all fun sl => (t.slice sl).ready
  frame : t = { s with regs := t.regs, cnts := t.cnts, slices := t.slices, pllRun := t.pllRun, twin := t.twin, out := t.out }
  silent : s.f TWN_STATUS.ROLE 0 ≠ 1 → s.f TWN_STATUS.ROLE 0 ≠ 2 → t.twin = s.twin ∧ t.out = s.out ∧ t.cnts = s.cnts
  cnts : keepsCnts s t [(.TWN_MIRROR_TX, 0)]
  regs : keepsRegs s t ([(.PORT_CTL, p), (.PORT_STATUS, p), (.PORT_CHECK, masterIdx m), (.TWN_STATUS, 0), (.TWN_EVT, 0)] ++
    (portSlices s p).flatMap engRegs)

/-- A port that is claimed, then ready as its slices are, then told of, is provisioned. -/
theorem provision_spec (h : provisioned s p = false) : Provisioned s (provision (acceptCheck s .PORT_CHECK m) p ctl) m p ctl := by
  obtain ⟨hchk, hctl, hprov, hlink, hone⟩ := portClaimed_spec s m p ctl
  rw [provision_fresh h]
  generalize portClaimed s m p ctl = c at hchk hctl hprov hlink hone
  have hslices : portSlices c p = portSlices s p := portSlices_congr (hone.2 _ _ (by simp))
  have hready := readied c p
  rw [hslices] at hready
  generalize readyEval ((portSlices s p).foldl powerSlice c) p = e at hready
  obtain ⟨heframe, heregs, hon, hoff, hloads, heprov, helink, heready⟩ := hready
  rw [hslices] at heregs hon hoff hloads heready
  obtain ⟨htframe, htregs, htcnts, hsilent⟩ := told_portChange e p
  generalize syncEval (mirrorPort e p) = t at htframe htregs htcnts hsilent
  have hslice : ∀ sl, t.slice sl = e.slice sl := fun sl => by rw [State.slice, htframe, State.slice]
  have hcslice : ∀ sl, c.slice sl = s.slice sl := fun sl => by rw [State.slice, hone.1, State.slice]
  have hfb : ∀ {x : Fld}, x.reg = .PORT_STATUS → t.fb x p = e.fb x p := fun {x} hx => by
    rw [State.fb, State.f, htregs _ _ (by simp [hx]), State.fb, State.f]
  have hkeep : ∀ r i, r ≠ .ENG_STATUS → r ≠ .TWN_STATUS → r ≠ .TWN_EVT → r ≠ .PORT_STATUS → t.reg r i = c.reg r i :=
    fun r i h1 h2 h3 h4 => (htregs r i (by simp [h2, h3])).trans (heregs r i (.inl h1) fun hr => h4 hr.1)
  have hrole : e.f TWN_STATUS.ROLE 0 = s.f TWN_STATUS.ROLE 0 := by
    rw [State.f, heregs _ _ (.inl (by decide)) (by simp [TWN_STATUS.ROLE]), hone.2 _ _ (by simp [TWN_STATUS.ROLE]), State.f]
  have hframe : e = { s with regs := e.regs, slices := e.slices, pllRun := e.pllRun } := by rw [heframe, hone.1]
  have hcnts : e.cnts = s.cnts := (congrArg State.cnts hframe).trans rfl
  refine ⟨?_, ?_, ?_, ?_, ?_, ?_, ?_, ?_, ?_, ?_, ?_, ?_⟩
  · exact (hkeep _ _ (by decide) (by decide) (by decide) (by decide)).trans hchk
  · exact (hfb rfl).trans (heprov.trans hprov)
  · exact (hkeep _ _ (by decide) (by decide) (by decide) (by decide)).trans hctl
  · exact (hfb rfl).trans (helink.trans hlink)
  · intro sl hs
    rw [hslice]
    exact hon sl hs
  · intro sl hs
    rw [hslice, hoff sl hs, hcslice]
  · intro sl hs hsleep i hi
    have ht : engState t i = engState e i := by
      rw [engState, State.f, htregs _ _ (by simp [ENG_STATUS.STATE])]
      rfl
    have hc : engState c i = engState s i := hone.only.f (by simp [ENG_STATUS.STATE])
    rw [ht, hloads sl hs (by rw [hcslice]; exact hsleep) i hi, hc]
  · rw [hfb rfl, heready hprov]
    simp only [hslice]
  · have hts : t.slices = e.slices := (congrArg State.slices htframe).trans rfl
    have htp : t.pllRun = e.pllRun := (congrArg State.pllRun htframe).trans rfl
    rw [hts, htp]
    exact htframe.trans (congrArg (fun x : State =>
      { x with regs := t.regs, cnts := t.cnts, twin := t.twin, out := t.out }) hframe)
  · intro h1 h2
    obtain ⟨htwin, hout, hcnt⟩ := hsilent (by rwa [hrole]) (by rwa [hrole])
    exact ⟨htwin.trans ((congrArg State.twin hframe).trans rfl), hout.trans ((congrArg State.out hframe).trans rfl),
      hcnt.trans hcnts⟩
  · exact (keepsCnts_of_eq hcnts).trans htcnts
  · intro r i hr
    simp only [List.cons_append, List.nil_append, List.mem_cons, Prod.mk.injEq, not_or, mem_engRegs] at hr
    obtain ⟨h1, h2, h3, h4, h5, h6⟩ := hr
    rw [htregs r i, heregs r i (not_and_or.1 h6) h2, hone.2 r i]
    all_goals simp only [List.mem_cons, List.not_mem_nil, or_false, Prod.mk.injEq, not_or]
    · exact ⟨h3, h1, h2⟩
    · exact ⟨h4, h5⟩

end

/-! ### Deprovisioning (R53) -/

theorem SMap.get_of_lt {α : Type} {d : Nat → α} {l : SMap α} {k : Nat} (h : ∀ e ∈ l, k < e.1) : SMap.get d l k = d k := by
  induction l with
  | nil => rfl
  | cons e l ih =>
    have hlt := h e List.mem_cons_self
    rw [SMap.get, if_neg (by omega)]
    exact ih fun x hx => h x (List.mem_cons_of_mem _ hx)

/-- A table whose values are all changed, where what an unlisted key reads as is kept. -/
theorem SMap.get_mapV {α : Type} [DecidableEq α] {d : Nat → α} {f : Nat → α → α} {l : SMap α} (hs : SMap.sorted l = true)
    (hd : ∀ k, f k (d k) = d k) (k : Nat) : SMap.get d (SMap.mapV d f l) k = f k (SMap.get d l k) := by
  rw [SMap.sorted_iff] at hs
  induction l with
  | nil => exact (hd k).symm
  | cons e l ih =>
    obtain ⟨a, b⟩ := e
    obtain ⟨hlt, hrest⟩ := List.pairwise_cons.1 hs
    have ih := ih hrest
    by_cases hb : f a b = d a
    · -- the entry leaves the table, and no later one has its key
      have hdrop : SMap.mapV d f ((a, b) :: l) = SMap.mapV d f l := by simp [SMap.mapV, hb]
      rw [hdrop, ih, SMap.get]
      split
      · next hk => rw [← hk, SMap.get_of_lt hlt, hd, hb]
      · rfl
    · have hcons : SMap.mapV d f ((a, b) :: l) = (a, f a b) :: SMap.mapV d f l := by simp [SMap.mapV, hb]
      rw [hcons, SMap.get, SMap.get]
      split
      · next hk => rw [← hk]
      · exact ih

section
variable {s : State} {m : Master} {p ctl : Nat}

/-- The slots and the quanta of a port are dropped. -/
def slotsLeft (s : State) (p : Nat) : State :=
  leaveSlots (s.setPort p { s.port p with slots := [], paused := [] }) (s.port p).slots

/-- A channel without the frames of a port. -/
def Chan.without (p : Nat) (c : Chan) : Chan :=
  { c with eq := c.eq.filter fun fr => fr.port != p, iq := c.iq.filter fun fr => fr.port != p }

theorem discardPort_eq (s : State) (p : Nat) : discardPort s p =
    if isLine p then (slotsLeft s p).setLink (p - 32)
      { (slotsLeft s p).link (p - 32) with tx := [], parts := [], msgs := [], gcc := [] }
    else { slotsLeft s p with
      chans := SMap.mapV (fun _ => Chan.reset) (fun _ => Chan.without p) (slotsLeft s p).chans } := rfl

theorem slotsLeft_spec (s : State) (p : Nat) : (slotsLeft s p).regs = s.regs ∧ (slotsLeft s p).chans = s.chans ∧
    (slotsLeft s p).port p = { s.port p with slots := [], paused := [] } := by
  have hengs := leaveSlots_engs (s.port p).slots (s.setPort p { s.port p with slots := [], paused := [] })
  refine ⟨(congrArg State.regs hengs).trans rfl, (congrArg State.chans hengs).trans rfl, ?_⟩
  rw [slotsLeft, leaveSlots_port, State.port_setPort_self]

/-- What a port discards: its slots and quanta, and on its side the queues of its link, or its frames in those of channels. -/
theorem discardPort_spec (s : State) (p : Nat) : (discardPort s p).regs = s.regs ∧
    ((discardPort s p).port p).slots = [] ∧ ((discardPort s p).port p).paused = [] ∧
    (32 ≤ p → ((discardPort s p).link (p - 32)).tx = [] ∧ ((discardPort s p).link (p - 32)).msgs = []) ∧
    (p < 32 → SMap.sorted s.chans = true → ∀ c, ((discardPort s p).chan c).eq = (s.chan c).eq.filter (fun q => q.port != p) ∧
      ((discardPort s p).chan c).iq = (s.chan c).iq.filter (fun q => q.port != p)) := by
  obtain ⟨hregs, hchans, hport⟩ := slotsLeft_spec s p
  rw [discardPort_eq]
  generalize slotsLeft s p = t at hregs hchans hport
  by_cases hline : 32 ≤ p
  · rw [if_pos (show isLine p = true from decide_eq_true hline)]
    refine ⟨hregs, congrArg PortSt.slots hport, congrArg PortSt.paused hport, fun _ => ?_, fun hp => by omega⟩
    rw [State.link, State.setLink]
    simp only [SMap.get_set_self, and_self]
  · rw [if_neg (show ¬ isLine p = true by simpa [isLine] using hline)]
    refine ⟨hregs, congrArg PortSt.slots hport, congrArg PortSt.paused hport, fun hp => absurd hp hline,
      fun _ hsorted c => ?_⟩
    rw [State.chan, hchans, SMap.get_mapV hsorted fun _ => rfl]
    exact ⟨rfl, rfl⟩

/-- A port that is deprovisioned, before its slices are gated. -/
def portEmptied (s : State) (m : Master) (p ctl : Nat) : State :=
  let t := discardPort ((acceptCheck s .PORT_CHECK m).setReg .PORT_CTL p (BitVec.ofNat 32 ctl)) p
  (t.setPort p { t.port p with adapted := false, lfRx := false, rfRx := false }).setReg .PORT_STATUS p 0

theorem reg_portEmptied {r : Reg} {i : Nat} (h : ¬ (r = .PORT_STATUS ∧ i = p)) : (portEmptied s m p ctl).reg r i =
    ((acceptCheck s .PORT_CHECK m).setReg .PORT_CTL p (BitVec.ofNat 32 ctl)).reg r i := by
  rw [portEmptied, State.reg_setReg, if_neg h]
  exact congrArg (SMap.get regResetAt · (r.key i)) (discardPort_spec ..).1

theorem mirror_frame (s : State) (r : MirrorRec) :
    mirror s r = { s with cnts := (mirror s r).cnts, twin := (mirror s r).twin, out := (mirror s r).out } := by
  unfold mirror
  split <;> rfl

theorem deprovision_eq (hp : provisioned s p = true) (hl : linkUp s p = false) :
    deprovision (acceptCheck s .PORT_CHECK m) p ctl =
      mirrorPort ((portSlices s p).foldl gateSlice (portEmptied s m p ctl)) p := by
  have hlink : linkUp (acceptCheck s .PORT_CHECK m) p = false :=
    ((onlyRegs_acceptCheck s .PORT_CHECK m).fb (by simp [PORT_STATUS.LINK])).trans hl
  have hslices : portSlices (portEmptied s m p ctl) p = portSlices s p := portSlices_congr (by
    rw [reg_portEmptied (by simp), State.reg_setReg_ne (by decide)]
    exact State.reg_setReg_ne (by decide))
  rw [← hslices]
  simp only [deprovision, provisioned_acceptCheck, hp, hlink, if_true, Bool.false_eq_true, if_false]
  rfl

/-- What a deprovisioning brings about (R53). -/
theorem deprovision_spec (hp : provisioned s p = true) (hl : linkUp s p = false) :
    let t := deprovision (acceptCheck s .PORT_CHECK m) p ctl
    accepted t .PORT_CHECK m ∧ t.reg .PORT_STATUS p = 0 ∧ t.reg .PORT_CTL p = BitVec.ofNat 32 ctl ∧
    (t.port p).slots = [] ∧ (t.port p).paused = [] ∧
    (32 ≤ p → (t.link (p - 32)).tx = [] ∧ (t.link (p - 32)).msgs = []) ∧
    (p < 32 → s.Canon → ∀ c, (t.chan c).eq = (s.chan c).eq.filter (fun q => q.port != p) ∧
      (t.chan c).iq = (s.chan c).iq.filter (fun q => q.port != p)) ∧
    (∀ sl ∈ portSlices s p, sliceProvisioned t sl = false → (t.slice sl).powered = false) ∧
    (∀ q, q ≠ p → t.reg .PORT_STATUS q = s.reg .PORT_STATUS q) := by
  intro t
  have hgate : Gated (portEmptied s m p ctl) ((portSlices s p).foldl gateSlice (portEmptied s m p ctl)) := gated_gateSlices ..
  have hoff : ∀ sl ∈ portSlices s p, sliceProvisioned (portEmptied s m p ctl) sl = false →
      (((portSlices s p).foldl gateSlice (portEmptied s m p ctl)).slice sl).powered = false := fun sl hs => gateSlices_off hs
  have ht : t = mirrorPort ((portSlices s p).foldl gateSlice (portEmptied s m p ctl)) p := deprovision_eq hp hl
  generalize (portSlices s p).foldl gateSlice (portEmptied s m p ctl) = g at hgate hoff ht
  have hframe : t = { g with cnts := t.cnts, twin := t.twin, out := t.out } := by rw [ht]; exact mirror_frame ..
  generalize t = u at hframe
  have hreg : ∀ r i, u.reg r i = g.reg r i := fun r i => by rw [State.reg, hframe, State.reg]
  have hkeep : ∀ r i, r ≠ .ENG_STATUS → r ≠ .CLK_STATUS → u.reg r i = (portEmptied s m p ctl).reg r i :=
    fun r i h1 h2 => (hreg r i).trans (hgate.regs r i h1 h2)
  have hports : u.ports = (portEmptied s m p ctl).ports := by rw [hframe]; exact hgate.ports
  have hlinks : u.links = (portEmptied s m p ctl).links := by rw [hframe]; exact hgate.links
  have hchans : u.chans = (portEmptied s m p ctl).chans := by rw [hframe]; exact hgate.chans
  obtain ⟨-, hslots, hpaused, hqueues, hframes⟩ :=
    discardPort_spec ((acceptCheck s .PORT_CHECK m).setReg .PORT_CTL p (BitVec.ofNat 32 ctl)) p
  have hport : u.port p = { (discardPort ((acceptCheck s .PORT_CHECK m).setReg .PORT_CTL p (BitVec.ofNat 32 ctl)) p).port p with
      adapted := false, lfRx := false, rfRx := false } := by
    rw [State.port, hports]
    exact State.port_setPort_self ..
  refine ⟨?_, ?_, ?_, ?_, ?_, fun h => ?_, fun h hcanon c => ?_, fun sl hs hnone => ?_, fun q hq => ?_⟩
  · rw [accepted, hkeep _ _ (by decide) (by decide), reg_portEmptied (by simp), State.reg_setReg_ne (by decide)]
    exact State.reg_setReg_self
  · rw [hkeep _ _ (by decide) (by decide)]
    exact State.reg_setReg_self
  · rw [hkeep _ _ (by decide) (by decide), reg_portEmptied (by simp)]
    exact State.reg_setReg_self
  · rw [hport]; exact hslots
  · rw [hport]; exact hpaused
  · rw [State.link, hlinks]
    exact hqueues h
  · rw [State.chan, hchans]
    exact hframes h (SMap.wf_iff.1 hcanon.chans).1 c
  · have hsame : sliceProvisioned u sl = sliceProvisioned (portEmptied s m p ctl) sl :=
      sliceProvisioned_congr (fun r i hr => by rcases hr with rfl | rfl <;> exact hkeep _ _ (by decide) (by decide)) sl
    have hslice : u.slice sl = g.slice sl := by rw [State.slice, hframe, State.slice]
    rw [hslice]
    exact hoff sl hs (hsame.symm.trans hnone)
  · rw [hkeep _ _ (by decide) (by decide), reg_portEmptied (by simp [hq]), State.reg_setReg_ne (by decide)]
    exact State.reg_setReg_ne (by decide)

end

/-! ### Requests and writes through a port's window -/

section
variable {s : State} {m : Master} {p n : Nat} {v : Word}

theorem portCtlFull_provisions (hv : n % 2 = 1) (hp : provisioned s p = false) (hl : loopbackCauses s p (bitsOf n 8 2) = [])
    (hc : provisionCauses (s.setF PORT_STATUS.PROV p 1) p = []) :
    Provisioned s (portCtlFull s m p n) m p (bitsOf n 8 2 * 256 + 1) := by
  have hon : portCtl s m p n = _ := portCtl_on (bitAt_zero_of_odd hv) hl (.inr hc)
  have hspec := provision_spec (m := m) (ctl := bitsOf n 8 2 * 256 + 1) hp
  rw [← hon] at hspec
  rw [portCtlFull_kept hspec.link]
  exact hspec

theorem portCtlFull_deprovisions (hv : n % 2 = 0) (hl : loopbackCauses s p (bitsOf n 8 2) = []) (hdown : linkUp s p = false)
    (hu : portInUse s p = false) (hc : clientsOf s p = []) :
    portCtlFull s m p n = deprovision (acceptCheck s .PORT_CHECK m) p (bitsOf n 8 2 * 256) :=
  (if_neg (by simp [hdown])).trans (portCtl_off (bitAt_zero_of_even hv) hl hu hc)

theorem portCtlFull_loops (hv : n % 2 = 1) (hp : provisioned s p = true) (hl : loopbackCauses s p (bitsOf n 8 2) = []) :
    portCtlFull s m p n = portClaimed s m p (bitsOf n 8 2 * 256 + 1) := by
  have hon : portCtl s m p n = _ := portCtl_on (bitAt_zero_of_odd hv) hl (.inl hp)
  rw [provision_again hp] at hon
  rw [portCtlFull_kept (by rw [hon]; exact (portClaimed_spec ..).2.2.2.1), hon]

/-- The loopback of a port that is provisioned: PORT_CTL holds it, and PROV stays set. -/
theorem portClaimed_loopback {k : Nat} (hk : k < 4) (hp : provisioned s p = true) :
    (portClaimed s m p (k * 256 + 1)).f PORT_CTL.LPBK p = k ∧
    onlyRegs s (portClaimed s m p (k * 256 + 1)) [(.PORT_CTL, p), (.PORT_CHECK, masterIdx m)] [] := by
  have hprov : ((acceptCheck s .PORT_CHECK m).setReg .PORT_CTL p (BitVec.ofNat 32 (k * 256 + 1))).f PORT_STATUS.PROV p = 1 := by
    have hset : provisioned ((acceptCheck s .PORT_CHECK m).setReg .PORT_CTL p (BitVec.ofNat 32 (k * 256 + 1))) p = true :=
      (provisioned_setReg (by decide) ..).trans ((provisioned_acceptCheck p).trans hp)
    have hlt : ((acceptCheck s .PORT_CHECK m).setReg .PORT_CTL p (BitVec.ofNat 32 (k * 256 + 1))).f PORT_STATUS.PROV p < 2 ^ 1 :=
      bitsOf_lt ..
    have hne := bne_iff_ne.1 hset
    omega
  obtain ⟨-, hctl, -, -, hone⟩ := portClaimed_spec s m p (k * 256 + 1)
  obtain ⟨hframe, -, hcnts⟩ := hone.only
  refine ⟨?_, hframe, fun r i hr => ?_, hcnts⟩
  · rw [State.f, show PORT_CTL.LPBK.reg = .PORT_CTL from rfl, hctl, BitVec.toNat_ofNat]
    simp only [PORT_CTL.LPBK, bitsOf]
    omega
  · rw [portClaimed, reg_setF_same (by decide) hprov]
    exact ((onlyRegs_acceptCheck s .PORT_CHECK m).trans (onlyRegs_setReg ..)).2.1 r i (by
      simp only [List.mem_cons, List.not_mem_nil, or_false, not_or, List.cons_append, List.nil_append] at hr ⊢
      exact ⟨hr.2, hr.1⟩)

theorem portCntClr_clears (hv : v.toNat % 2 = 1) : (∀ c ∈ portCtrs, (portCntClr s p v).cnt c p = 0) ∧
    onlyRegs s (portCntClr s p v) [] (portCtrs.map fun c => (c, p)) := by
  have hclear : portCntClr s p v = portCtrs.foldl (fun s c => s.setCnt c p 0) s :=
    if_pos (bitAt_zero_of_odd hv)
  rw [hclear]
  exact ⟨fun c hc => by rw [foldl_setCnt.1, if_pos hc], foldl_setCnt.2⟩

theorem laneRegName_ne (lr : LaneReg) : laneRegName lr ≠ .PORT_CHECK ∧ laneRegName lr ≠ .PORT_STATUS := by
  cases lr <;> decide

theorem thrRegName_mem (tr : ThrReg) : thrRegName tr ∈ [Reg.PORT_FC, .PORT_EXP_LIMIT, .PORT_XOFF, .PORT_XON] := by
  cases tr <;> decide

theorem thrRegName_ne (tr : ThrReg) : thrRegName tr ≠ .PORT_STATUS := by cases tr <;> decide

end

/-- Settles O17: a PORT_CTL request by its causes and by what it brings about, a write of the configuration by its register. -/
theorem portRequestsTakeEffect : Obligations.PortRequestsTakeEffect := by
  unfold Obligations.PortRequestsTakeEffect
  refine ⟨fun s m p v hreach => ?_, fun s m p v lr tr i hreach => ?_⟩
  · intro lpbk ctl chk
    have hrun := congrArg (Host.Outcome.next (φ := Fault) (ρ := Refusal))
      (onPort_reaches hreach fun p s => portCtlFull s m p v.toNat)
    refine ⟨fun hv hp hl hc => ?_, fun hv hp hdown hl hu hcl => ?_, fun hv hp hl => ?_, fun hv hp c hc hmin => ?_,
      fun hv hp hl hu => ?_⟩
    · have h : Provisioned s (portCtlFull s m p v.toNat) m p _ := portCtlFull_provisions hv hp hl hc
      refine ⟨_, hrun, h.check, h.prov, h.ctl.trans (congrArg (BitVec.ofNat 32) ?_), h.on, h.off, h.loads, h.ready,
        h.frame, h.silent, h.cnts, h.regs⟩
      simp only [lpbk, bitsOf]
      omega
    · have h := deprovision_spec (m := m) (ctl := bitsOf v.toNat 8 2 * 256) hp hdown
      rw [← portCtlFull_deprovisions hv hl hdown hu hcl] at h
      obtain ⟨hacc, hst, hctl, hrest⟩ := h
      refine ⟨_, hrun, hacc, hst, hctl.trans (congrArg (BitVec.ofNat 32) ?_), hrest⟩
      simp only [lpbk, bitsOf]
      omega
    · rw [portCtlFull_loops hv hp hl] at hrun
      exact ⟨_, hrun, (portClaimed_spec ..).1, portClaimed_loopback (bitsOf_lt ..) hp⟩
    · exact ⟨_, hrun, portCtlFull_refused <|
        portCtl_on_refused (bitAt_zero_of_odd hv) hp hc hmin⟩
    · exact ⟨_, hrun, portCtlFull_refused <|
        portCtl_off_refused (bitAt_zero_of_even hv) hp hl hu⟩
  · intro chk written taps flows sets
    have hrun : ∀ effect : Nat → State → State,
        Host.Outcome.next (φ := Fault) (ρ := Refusal) (onPort s m effect) = .next (effect p s) :=
      fun effect => congrArg Host.Outcome.next (onPort_reaches hreach effect)
    have hsets : ∀ {ins : Instr} {r : Reg} {causes : State → List Nat}, r ≠ .PORT_CHECK →
        exec ins s = .next (portRegWrite s m r p v causes id) → causes (written r) = [] → sets ins r :=
      fun hr hins hc => ⟨_, hins.trans (congrArg Host.Outcome.next (portRegWrite_accepted hc id)), portWritten_spec hr s m p v⟩
    have hflows : ∀ {ins : Instr} {r : Reg} {causes : State → List Nat},
        r ∈ [Reg.PORT_FC, .PORT_EXP_LIMIT, .PORT_XOFF, .PORT_XON] → exec ins s = .next (portRegWrite s m r p v causes fun s => flowEval s p) → causes (written r) = [] → flows ins r :=
      fun hr hins hc => ⟨_, hins.trans (congrArg Host.Outcome.next (portRegWrite_accepted hc _)), portWritten_flowEval hr⟩
    refine ⟨hsets (causes := fun t => cfgCauses s t p) (by decide) (hrun fun p s => portCfgWrite s m p v), fun hp => ?_,
      fun hp => ?_,
      hflows (causes := fun t => fcCauses t p) (by decide) (hrun fun p s => portFcWrite s m p v), fun hc => ?_, fun ht => ?_,
      fun ht => ?_, fun hv => ?_⟩
    · refine hsets (causes := fun t => cause (provisioned t p) 0x52) (laneRegName_ne lr).1
        (hrun fun p s => portLaneWrite s m p lr v) ?_
      rw [provisioned_setReg (laneRegName_ne lr).2, hp]
      rfl
    · have hcause : cause (provisioned (written (laneRegName lr)) p) 0x52 = [0x52] := by
        rw [provisioned_setReg (laneRegName_ne lr).2, hp]
        rfl
      refine ⟨_, hrun fun p s => portLaneWrite s m p lr v,
        portRegWrite_refused (causes := fun t => cause (provisioned t p) 0x52) ?_ ?_ id⟩
      · exact hcause ▸ List.mem_singleton_self _
      · intro d hd
        exact (List.mem_singleton.1 (hcause ▸ hd)).ge
    · refine hflows (causes := fun t => thresholdCauses t p (provisioned t p && !isLine p)) (thrRegName_mem tr)
        (hrun fun p s => portThrWrite s m p tr v) ?_
      rw [← hc]
      simp only [written, provisioned_setReg (thrRegName_ne tr)]
    · exact (hrun fun p s => portTxeqWrite s p i v).trans (congrArg Host.Outcome.next (portTxeqWrite_kept ht))
    · exact (hrun fun p s => portTxeqWrite s p i v).trans (congrArg Host.Outcome.next (portTxeqWrite_ignored ht))
    · exact ⟨_, hrun fun p s => portCntClr s p v, portCntClr_clears hv⟩

end Sys2Proof.Machine
end

section
/-! What is sealed opens again: lengths of blocks, keys and tags, and the counter mode as its own inverse. -/

namespace Sys2Proof.Machine

/-! ### Bytes of numbers and places of a list -/

@[simp] theorem length_beBytes (n v : Nat) : (beBytes n v).length = n := by simp [beBytes]

@[simp] theorem length_sliceAt (l : List Byte) (off n : Nat) : (sliceAt l off n).length = n := by simp [sliceAt]

@[simp] theorem length_xorBytes (a b : List Byte) : (xorBytes a b).length = min a.length b.length := List.length_zipWith

@[simp] theorem length_nodeBytes (n : W64) : (nodeBytes n).length = 8 := length_beBytes ..

theorem beNat_reverse (l : List Byte) : beNat l.reverse = leNat l := by
  induction l with
  | nil => rfl
  | cons b l ih =>
    simp only [beNat, List.foldl_reverse, List.foldr_cons] at ih ⊢
    rw [ih, leNat]
    omega

theorem beNat_beBytes (n v : Nat) : beNat (beBytes n v) = v % 2 ^ (8 * n) := (beNat_reverse _).trans (leNat_leBytes ..)

@[simp] theorem nodeOf_nodeBytes (n : W64) : nodeOf (nodeBytes n) = n := by
  rw [nodeOf, nodeBytes, beNat_beBytes, Nat.mod_eq_of_lt n.isLt, BitVec.ofNat_toNat, BitVec.setWidth_eq]

/-- A slice in the midst of a list. -/
theorem sliceAt_append (a b c : List Byte) : sliceAt (a ++ b ++ c) a.length b.length = b := by
  refine List.ext_getElem (length_sliceAt ..) fun i _ hi => ?_
  simp [sliceAt, byteAt, List.getElem?_append_right, List.getElem?_append_left hi, hi]

theorem sliceAt_mid {l a b c : List Byte} {off n : Nat} (hl : l = a ++ b ++ c) (ho : off = a.length) (hn : n = b.length) :
    sliceAt l off n = b := by rw [hl, ho, hn, sliceAt_append]

/-- Xor with the same stream twice. -/
theorem xorBytes_xorBytes {a k : List Byte} (h : a.length ≤ k.length) : xorBytes (xorBytes a k) k = a := by
  induction a generalizing k with
  | nil => rfl
  | cons x a ih =>
    obtain _ | ⟨y, k⟩ := k
    · simp at h
    · simp only [xorBytes, List.zipWith_cons_cons] at ih ⊢
      rw [ih (by simpa using h), BitVec.xor_assoc, BitVec.xor_self, BitVec.xor_zero]

namespace Crypto

/-! ### AES under a key of 16 or 32 bytes gives blocks of 16 bytes (FIPS 197) -/

/-- Words of four bytes. -/
def fourByteWords (ws : List (List Nat)) : Prop := ∀ w ∈ ws, w.length = 4

theorem length_getD_word {ws : List (List Nat)} (h : fourByteWords ws) {i : Nat} (hi : i < ws.length) :
    (ws.getD i []).length = 4 := by
  rw [List.getD_eq_getElem _ _ hi]
  exact h _ (List.getElem_mem hi)

theorem length_keyWord {ws : List (List Nat)} (h : fourByteWords ws) {nk : Nat} (hk : 0 < nk) (hlen : nk ≤ ws.length) :
    (keyWord nk ws.length ws).length = 4 := by
  have hbase := length_getD_word h (i := ws.length - nk) (by omega)
  have hprev := length_getD_word h (i := ws.length - 1) (by omega)
  unfold keyWord
  generalize ws.getD (ws.length - 1) [] = prev at hprev
  generalize ws.getD (ws.length - nk) [] = base at hbase
  obtain ⟨a, b, c, d, rfl⟩ : ∃ a b c d, prev = [a, b, c, d] := List.length_eq_four.1 hprev
  simp only [List.length_zipWith, hbase]
  split
  · rfl
  · split <;> rfl

/-- The key schedule after `n` words beyond the key's own. -/
def keyWords (key : List Nat) (nk n : Nat) : List (List Nat) :=
  (List.range n).foldl (fun ws j => ws ++ [keyWord nk (nk + j) ws]) ((List.range nk).map fun i => (key.drop (4 * i)).take 4)

theorem keyWords_succ (key : List Nat) (nk n : Nat) :
    keyWords key nk (n + 1) = keyWords key nk n ++ [keyWord nk (nk + n) (keyWords key nk n)] := by
  simp only [keyWords, List.range_succ, List.foldl_append, List.foldl_cons, List.foldl_nil]

theorem keyWords_words {key : List Nat} {nk : Nat} (hk : 0 < nk) (hkey : key.length = 4 * nk) (n : Nat) :
    fourByteWords (keyWords key nk n) ∧ (keyWords key nk n).length = nk + n := by
  induction n with
  | zero =>
    refine ⟨fun w hw => ?_, by simp [keyWords]⟩
    obtain ⟨i, hi, rfl⟩ := List.mem_map.1 hw
    have := List.mem_range.1 hi
    simp only [List.length_take, List.length_drop]
    omega
  | succ n ih =>
    obtain ⟨hw, hl⟩ := ih
    rw [keyWords_succ, ← hl]
    refine ⟨fun w hmem => ?_, by simp [hl, Nat.add_assoc]⟩
    obtain hmem | hmem := List.mem_append.1 hmem
    · exact hw w hmem
    · rw [List.mem_singleton.1 hmem]
      exact length_keyWord hw hk (by omega)

theorem keySchedule_words {key : List Nat} {nk : Nat} (hk : 0 < nk) (hkey : key.length = 4 * nk) :
    fourByteWords (keySchedule key) ∧ (keySchedule key).length = 4 * (nk + 7) := by
  have hdiv : key.length / 4 = nk := by omega
  have heq : keySchedule key = keyWords key nk (4 * (nk + 7) - nk) := by rw [keySchedule, hdiv]; rfl
  obtain ⟨hw, hl⟩ := keyWords_words hk hkey (4 * (nk + 7) - nk)
  exact heq ▸ ⟨hw, by rw [hl]; omega⟩

theorem length_roundKey {ws : List (List Nat)} (h : fourByteWords ws) {r : Nat} (hr : 4 * r + 4 ≤ ws.length) :
    (roundKey ws r).length = 16 := by
  have hfour : ∀ w ∈ (ws.drop (4 * r)).take 4, w.length = 4 := fun w hw => h w (List.mem_of_mem_drop (List.mem_of_mem_take hw))
  rw [roundKey, List.length_flatten, List.map_congr_left hfour]
  simp only [List.map_const', List.sum_replicate, List.length_take, List.length_drop, smul_eq_mul]
  omega

theorem length_aesEnc {key : List Byte} (hkey : key.length = 16 ∨ key.length = 32) (blk : List Byte) :
    (aesEnc key blk).length = 16 := by
  obtain ⟨nk, hk, hlen⟩ : ∃ nk, 0 < nk ∧ key.length = 4 * nk := by
    rcases hkey with h | h
    · exact ⟨4, by omega, h⟩
    · exact ⟨8, by omega, h⟩
  obtain ⟨hwords, hcount⟩ := keySchedule_words hk ((List.length_map ..).trans hlen)
  have hround : (roundKey (keySchedule (key.map (·.toNat))) (key.length / 4 + 6)).length = 16 :=
    length_roundKey hwords (by omega)
  simp [aesEnc, addKey, shiftRows, hround]

/-! ### Counter mode is its own inverse -/

/-- Blocks from number `j` on, each with its block of a key stream. -/
def ctrBlocks (ks : Nat → List Byte) : Nat → Nat → List Byte → List Byte
  | 0, _, _ => []
  | _, _, [] => []
  | n + 1, j, b :: l => xorBytes ((b :: l).take 16) (ks j) ++ ctrBlocks ks n (j + 1) ((b :: l).drop 16)

theorem flatten_chunks_xor (ks : Nat → List Byte) (n j : Nat) (data : List Byte) :
    (((chunks 16 n data).zipIdx j).map fun (b, i) => xorBytes b (ks i)).flatten = ctrBlocks ks n j data := by
  induction n generalizing j data with
  | zero => rfl
  | succ n ih =>
    cases data with
    | nil => rfl
    | cons b l => simp only [chunks, List.zipIdx_cons, List.map_cons, List.flatten_cons, ih, ctrBlocks]

theorem aesCtr_eq (key : List Byte) (ctr : Nat) (data : List Byte) :
    aesCtr key ctr data = ctrBlocks (fun i => aesEnc key (beBytes 16 (incr32 ctr i))) (data.length / 16 + 1) 0 data :=
  flatten_chunks_xor (fun i => aesEnc key (beBytes 16 (incr32 ctr i))) ..

section
variable {ks : Nat → List Byte} (hks : ∀ i, (ks i).length = 16)
include hks

theorem length_ctrBlocks {n j : Nat} {data : List Byte} (h : data.length ≤ 16 * n) :
    (ctrBlocks ks n j data).length = data.length := by
  induction n generalizing j data with
  | zero => simp_all [ctrBlocks]
  | succ n ih =>
    cases data with
    | nil => rfl
    | cons b l =>
      rw [ctrBlocks, List.length_append, ih (by rw [List.length_drop]; omega), length_xorBytes, hks, List.length_take,
        List.length_drop]
      omega

omit hks in
theorem ctrBlocks_step {n j : Nat} {data : List Byte} (h : data ≠ []) :
    ctrBlocks ks (n + 1) j data = xorBytes (data.take 16) (ks j) ++ ctrBlocks ks n (j + 1) (data.drop 16) := by
  cases data with
  | nil => exact absurd rfl h
  | cons b l => rfl

omit hks in
@[simp] theorem ctrBlocks_nil (n j : Nat) : ctrBlocks ks n j [] = [] := by cases n <;> rfl

theorem ctrBlocks_ctrBlocks {n j : Nat} {data : List Byte} (h : data.length ≤ 16 * n) :
    ctrBlocks ks n j (ctrBlocks ks n j data) = data := by
  induction n generalizing j data with
  | zero => simp_all [ctrBlocks]
  | succ n ih =>
    by_cases hd : data = []
    · simp [hd]
    have hpos := List.length_pos_iff.2 hd
    have hrest : (data.drop 16).length ≤ 16 * n := by rw [List.length_drop]; omega
    have hfirst : (xorBytes (data.take 16) (ks j)).length = min 16 data.length := by
      rw [length_xorBytes, hks, List.length_take]; omega
    have hne : ctrBlocks ks (n + 1) j data ≠ [] := by
      rw [← List.length_pos_iff, length_ctrBlocks hks h]; exact hpos
    rw [ctrBlocks_step hne, ctrBlocks_step hd]
    obtain hlong | hshort := Nat.le_or_le 16 data.length
    · rw [List.take_left' (by omega), List.drop_left' (by omega), ih hrest,
        xorBytes_xorBytes (by rw [hks, List.length_take]; omega), List.take_append_drop]
    · simp only [List.drop_of_length_le hshort, ctrBlocks_nil, List.append_nil]
      rw [List.take_of_length_le (by omega), List.drop_of_length_le (by omega), ctrBlocks_nil, List.append_nil,
        xorBytes_xorBytes (by rw [hks, List.length_take]; omega), List.take_of_length_le hshort]

end

section
variable {key : List Byte} (hkey : key.length = 16 ∨ key.length = 32)
include hkey

theorem length_aesCtr (ctr : Nat) (data : List Byte) : (aesCtr key ctr data).length = data.length := by
  rw [aesCtr_eq, length_ctrBlocks (fun i => length_aesEnc hkey _) (by omega)]

theorem aesCtr_aesCtr (ctr : Nat) (data : List Byte) : aesCtr key ctr (aesCtr key ctr data) = data := by
  rw [aesCtr_eq key ctr (aesCtr key ctr data), length_aesCtr hkey, aesCtr_eq,
    ctrBlocks_ctrBlocks (fun i => length_aesEnc hkey _) (by omega)]

/-! ### GCM -/

theorem length_gcmTag (iv aad ct : List Byte) : (gcmTag key iv aad ct).length = 16 := by
  simp [gcmTag, length_aesEnc hkey]

theorem gcmOpen_gcmSeal (iv aad pt : List Byte) :
    gcmOpen key iv aad (gcmSeal key iv aad pt).1 (gcmSeal key iv aad pt).2 = some pt := by
  simp only [gcmOpen, gcmSeal, if_true, aesCtr_aesCtr hkey]

theorem length_gcmSeal_ct (iv aad pt : List Byte) : (gcmSeal key iv aad pt).1.length = pt.length := length_aesCtr hkey ..

theorem length_gcmSeal_tag (iv aad pt : List Byte) : (gcmSeal key iv aad pt).2.length = 16 := length_gcmTag hkey ..

end

/-! ### The keys of SHA-384 (SP 800-108) -/

theorem length_shaBlock {h : List Nat} (hh : h.length = 8) (blk : List Byte) : (shaBlock h blk).length = 8 := by
  unfold shaBlock
  extract_lets ws r
  have hr : r.length = 8 := by
    refine List.foldlRecOn (motive := fun s : List Nat => s.length = 8) _ _ hh fun s hs p _ => ?_
    split
    · rfl
    · exact hs
  rw [List.length_zipWith, hh, hr, Nat.min_self]

theorem length_shaRun {init : List Nat} (hi : init.length = 8) (m : List Byte) : (shaRun init m).length = 8 :=
  List.foldlRecOn (motive := fun h : List Nat => h.length = 8) _ _ hi fun _ hs b _ => length_shaBlock hs b

theorem length_sha384 (m : List Byte) : (sha384 m).length = 48 := by
  have h := length_shaRun (init := shaWords sha384Init) rfl (shaPad m)
  have hwords : ((shaRun (shaWords sha384Init) (shaPad m)).map (beBytes 8)).flatten.length = 64 := by
    rw [List.length_flatten, List.map_map, show List.length ∘ beBytes 8 = fun _ => 8 from funext fun v => length_beBytes 8 v]
    simp [h]
  rw [sha384, List.length_take, hwords]
  rfl

theorem length_hmac384 (key m : List Byte) : (hmac384 key m).length = 48 := length_sha384 _

end Crypto

/-! ### Fabric messages (R225) -/

@[simp] theorem length_fabOrigKey (key : List Byte) (orig : W64) : (fabOrigKey key orig).length = 32 := by
  simp [fabOrigKey, kdfCtr, ceilDiv, Crypto.length_hmac384]

@[simp] theorem length_fabHeader (orig seq : W64) (type keyId : Nat) : (fabHeader orig seq type keyId).length = 20 := by
  simp [fabHeader]

theorem byteAt_fabHeader (orig seq : W64) (type keyId : Nat) (l : List Byte) :
    byteAt (fabHeader orig seq type keyId ++ l) 18 = BitVec.ofNat 8 keyId := by
  simp [byteAt, fabHeader, List.getElem?_append]

theorem fabSeal_eq (key : List Byte) (orig seq : W64) (type keyId : Nat) (body : List Byte) :
    fabSeal key orig seq type keyId body =
      let h := fabHeader orig seq type keyId
      let r := Crypto.gcmSeal (fabOrigKey key orig) (beBytes 8 seq.toNat ++ zeros 4) h body
      h ++ r.1 ++ r.2 := rfl

theorem fabOpen_fabSeal {s : State} {key : List Byte} {id : BitVec 8} (hkey : fabKeyOf s id.toNat = some key) (orig seq : W64)
    (type : Nat) (body : List Byte) : fabOpen s (fabSeal key orig seq type id.toNat body) = some body := by
  have hlen : (fabOrigKey key orig).length = 16 ∨ (fabOrigKey key orig).length = 32 := .inr (length_fabOrigKey ..)
  have hh := length_fabHeader orig seq type id.toNat
  have hid := byteAt_fabHeader orig seq type id.toNat
  obtain ⟨rest, hrest⟩ : ∃ rest, fabHeader orig seq type id.toNat = nodeBytes orig ++ beBytes 8 seq.toNat ++ rest :=
    ⟨_, List.append_assoc ..⟩
  have hct := Crypto.length_gcmSeal_ct hlen (beBytes 8 seq.toNat ++ zeros 4) (fabHeader orig seq type id.toNat) body
  have htag := Crypto.length_gcmSeal_tag hlen (beBytes 8 seq.toNat ++ zeros 4) (fabHeader orig seq type id.toNat) body
  have hopen := Crypto.gcmOpen_gcmSeal hlen (beBytes 8 seq.toNat ++ zeros 4) (fabHeader orig seq type id.toNat) body
  rw [fabSeal_eq]
  dsimp only
  generalize Crypto.gcmSeal (fabOrigKey key orig) _ _ body = r at hct htag hopen
  generalize fabHeader orig seq type id.toNat = h at hh hid hrest hopen
  generalize hm : h ++ r.1 ++ r.2 = m
  have hmlen : m.length = 36 + body.length := by rw [← hm]; simp only [List.length_append]; omega
  have hmid : byteAt m 18 = id := by
    rw [← hm, List.append_assoc, hid, BitVec.ofNat_toNat, BitVec.setWidth_eq]
  have horig : sliceAt m 0 8 = nodeBytes orig :=
    sliceAt_mid (a := []) (c := beBytes 8 seq.toNat ++ rest ++ r.1 ++ r.2) (by rw [← hm, hrest]; simp) rfl (by simp)
  have hseq : sliceAt m 8 8 = beBytes 8 seq.toNat :=
    sliceAt_mid (a := nodeBytes orig) (c := rest ++ r.1 ++ r.2) (by rw [← hm, hrest]; simp) (by simp) (by simp)
  have hhead : m.take 20 = h := by rw [← hm, List.append_assoc, List.take_left' hh]
  have hbody : sliceAt m 20 (m.length - 36) = r.1 := sliceAt_mid hm.symm hh.symm (by omega)
  have hend : m.drop (m.length - 16) = r.2 := by
    rw [← hm]; exact List.drop_left' (by simp only [List.length_append]; omega)
  rw [fabOpen, if_neg (by omega), hmid, hkey, horig, hseq, hhead, hbody, hend, nodeOf_nodeBytes]
  exact hopen

/-! ### The AEAD of a channel (R85) and the payload of an OTN group (R112) -/

theorem length_take_keyLen {m : KeyMat} (h : m.key.length = 32) (s : State) (c : Nat) :
    (m.key.take (keyLen s c)).length = 16 ∨ (m.key.take (keyLen s c)).length = 32 := by
  rw [List.length_take, h, keyLen]
  split
  · exact .inl rfl
  · exact .inr rfl

theorem aeadOpen_aeadSeal {s : State} {c : Nat} {m : KeyMat} (h : m.key.length = 32) (hc : ctx s Ctx.COMPL c = 0)
    (iv aad pt : List Byte) : aeadOpen s c m iv aad (aeadSeal s c m iv aad pt).1 (aeadSeal s c m iv aad pt).2 = some pt := by
  simp only [aeadOpen, aeadSeal, if_pos hc]
  exact Crypto.gcmOpen_gcmSeal (length_take_keyLen h s c) iv aad pt

/-- Slices of equal length, one behind the other, are the list. -/
theorem flatten_slices {l : List Byte} {n k : Nat} (h : l.length = n * k) :
    ((List.range k).map fun f => sliceAt l (n * f) n).flatten = l := by
  have hslices : ∀ j, j ≤ k → ((List.range j).map fun f => sliceAt l (n * f) n).flatten = l.take (n * j) := by
    intro j
    induction j with
    | zero => simp
    | succ j ih =>
      intro hj
      have hle : n * (j + 1) ≤ l.length := by rw [h]; exact Nat.mul_le_mul_left n hj
      rw [Nat.mul_succ] at hle
      rw [List.range_succ, List.map_append, List.flatten_append, ih (by omega), Nat.mul_succ, List.take_add]
      have hmid : sliceAt l (n * j) n = (l.drop (n * j)).take n :=
        sliceAt_mid (a := l.take (n * j)) (c := (l.drop (n * j)).drop n)
          (by rw [List.append_assoc, List.take_append_drop, List.take_append_drop])
          (by rw [List.length_take]; omega) (by rw [List.length_take, List.length_drop]; omega)
      simp [hmid]
  rw [hslices k le_rfl, ← h, List.take_length]

/-- Slice `f` of blocks of equal length, one behind the other, is block `f`. -/
theorem sliceAt_flatten {n k f : Nat} (g : Nat → List Byte) (hg : ∀ i, (g i).length = n) (hf : f < k) :
    sliceAt ((List.range k).map g).flatten (n * f) n = g f := by
  have hlen : ∀ j, ((List.range j).map g).flatten.length = n * j := fun j => by
    rw [List.length_flatten, List.map_map, show List.length ∘ g = fun _ => n from funext hg]
    simp [Nat.mul_comm]
  obtain ⟨d, rfl⟩ : ∃ d, k = f + 1 + d := ⟨k - (f + 1), by omega⟩
  rw [List.range_add, List.range_succ]
  simp only [List.map_append, List.flatten_append, List.map_cons, List.map_nil, List.flatten_cons, List.flatten_nil,
    List.append_nil]
  exact sliceAt_mid rfl (hlen f).symm (hg f).symm

theorem otnCrypt_otnCrypt {s : State} {c : Nat} {m : KeyMat} (hkey : m.key.length = 32) (hc : ctx s Ctx.COMPL c = 0) (n : Nat)
    (a b : Bool) {pt : List Byte} (hlen : pt.length = otnGroupBytes) : otnCrypt s c a m n (otnCrypt s c b m n pt) = pt := by
  have hframe : pt.length = otnFrameBytes * 8 := hlen
  simp only [otnCrypt, if_pos hc]
  refine Eq.trans (congrArg List.flatten (List.map_congr_left fun f hf => ?_)) (flatten_slices hframe)
  rw [sliceAt_flatten _ (fun i => by rw [Crypto.length_aesCtr (.inr hkey), length_sliceAt]) (List.mem_range.1 hf),
    Crypto.aesCtr_aesCtr (.inr hkey)]

/-- Settles O60: counter mode is its own inverse, so each seal opens where the tag is computed from the same bytes. -/
theorem whatIsSealedOpensAgain : Obligations.WhatIsSealedOpensAgain := by
  intro s c n m key iv aad pt orig seq type id
  refine ⟨fun hkey => ⟨Crypto.gcmOpen_gcmSeal hkey iv aad pt, Crypto.length_gcmSeal_ct hkey iv aad pt,
    Crypto.length_gcmSeal_tag hkey iv aad pt⟩, fun hkey hc => ?_, fun hkey => ?_, fun hkey hc hlen => ?_⟩
  · exact aeadOpen_aeadSeal hkey hc iv aad pt
  · exact fabOpen_fabSeal hkey orig seq type.toNat pt
  · exact otnCrypt_otnCrypt hkey hc n true false hlen

end Sys2Proof.Machine
end

section
/-! Requests on a channel: a SHADOW refuses the host's (R239), which the statement on their effects does not leave out (O33). -/

namespace Sys2Proof.Machine

theorem onChannel_reaches {s : State} {m : Master} {c : Nat} (h : reaches s .ch m c) (effect : Nat → State → State) :
    onChannel s m effect = effect c s := by
  obtain ⟨hup, hsel⟩ := h
  have hup : s.blkUp .CH = true := hup
  rw [onChannel, whenUp, if_pos hup, inWindow, hsel]

/-- A SHADOW refuses EN = 0 from every master but the twin agent (R163, R239). -/
theorem chDisable_refused_of_shadow {s : State} {m : Master} {c : Nat} (hreach : reaches s .ch m c)
    (h : shadowRefuses s m = true) : exec (.chDisable m 0) s = .next (refuseCheck s .CH_CHECK m c 0x03) := by
  have hrun : exec (.chDisable m 0) s = .next (checked s .CH_CHECK m c (cause (shadowRefuses s m) 0x03)
      fun s => chDisableRequest s c) := congrArg Host.Outcome.next (onChannel_reaches hreach fun c s => chCtl s m c 0)
  have hcause : cause (shadowRefuses s m) 0x03 = [0x03] := by rw [h]; rfl
  rw [hrun, hcause, checked_lowest s .CH_CHECK m c _ (List.mem_singleton_self _) fun d hd => (List.mem_singleton.1 hd).ge]

/-- A request is not both refused and accepted. -/
theorem not_accepted_refuseCheck (s : State) {chk : Reg} (m : Master) (inst : Nat) (h : chk.info.blk ≠ .GLB) :
    ¬ accepted (refuseCheck s chk m inst 0x03) chk m := fun ha =>
  absurd ((refusedWith_refuseCheck s m inst 0x03 h).1.symm.trans ha) (by decide)

/-- A module in OPERATIONAL with the role SHADOW, whose channel 0 is ACTIVE. -/
def shadowWithChannel : State :=
  ((State.reset.setF GLB_MODE.MODE 0 modeOperational).setF TWN_STATUS.ROLE 0 2).setF CH_STATUS.STATE 0 stActive

/-- Refutes O33: its hypothesis on TWN_STATUS.ROLE leaves out an ACTIVE member (1) and not a SHADOW (2). In OPERATIONAL with the
role SHADOW the host's EN = 0 on an ACTIVE channel is refused with 0x03, and is not accepted. -/
theorem not_channelRequestsTakeEffect : ¬ Obligations.ChannelRequestsTakeEffect := by
  intro h
  have hreach : reaches shadowWithChannel .ch .host (0 : Fin 16384) := by decide +kernel
  obtain ⟨-, -, -, -, -, hdisable, -⟩ := h shadowWithChannel .host 0 0 0 hreach (by decide +kernel) (by decide +kernel)
    (by decide +kernel)
  obtain ⟨t, hrun, hok, -⟩ := hdisable rfl (by decide +kernel) (by decide +kernel)
  rw [chDisable_refused_of_shadow hreach (by decide +kernel)] at hrun
  obtain rfl := Host.Outcome.next.inj hrun
  exact not_accepted_refuseCheck _ _ _ (by decide) hok

end Sys2Proof.Machine
end

section
/-! Frames stored behind a queue, one after another: the pages that they take, and that none is written over another
(R38, R395, R397, R402). -/

namespace Sys2Proof.Machine

/-! ### Retired pages under plain writes (R402) -/

/-- The pages of each memory that are retired, or about to be, are the same. -/
structure SamePages (s t : State) : Prop where
  retired : ∀ k, (t.memc k).retired = (s.memc k).retired
  retiring : ∀ k, (t.memc k).retiring = (s.memc k).retiring

theorem samePages_of_memCtl {s t : State} (h : t.memCtl = s.memCtl) : SamePages s t := by
  have hm : ∀ k, t.memc k = s.memc k := fun k => congrArg (SMap.get _ · k) h
  exact ⟨fun k => congrArg MemCtl.retired (hm k), fun k => congrArg MemCtl.retiring (hm k)⟩

theorem SamePages.trans {s t u : State} (h : SamePages s t) (h' : SamePages t u) : SamePages s u :=
  ⟨fun k => (h'.retired k).trans (h.retired k), fun k => (h'.retiring k).trans (h.retiring k)⟩

theorem samePages_setMemc (s : State) (k : Nat) {v : MemCtl} (h : v.retired = (s.memc k).retired)
    (h' : v.retiring = (s.memc k).retiring) : SamePages s (s.setMemc k v) := by
  have hm : ∀ j, (s.setMemc k v).memc j = if j = k then v else s.memc j := fun j => SMap.get_set
  constructor <;> (intro j; rw [hm]; split)
  · next e => rw [h, e]
  · rfl
  · next e => rw [h', e]
  · rfl

theorem memCtl_takeFlip (s : State) (k w : Nat) : (takeFlip s k w).2.memCtl = s.memCtl := by
  unfold takeFlip
  extract_lets m check data
  split
  · rfl
  · exact (State.setF_memCtl ..).trans (State.setF_memCtl ..)

theorem samePages_storeWord (s : State) (k w : Nat) (bs : List (Option Byte)) (r : Bool) : SamePages s (storeWord s k w bs r) := by
  have hr := State.setRam_memCtl (s := s) (k := k) (m := Mem.put (ramDefault s k) (s.ram k) (8 * w) bs)
  unfold storeWord
  revert hr
  generalize s.setRam k (Mem.put (ramDefault s k) (s.ram k) (8 * w) bs) = t
  intro hr
  have hf : (if r = true then takeFlip t k w else ([], t)).2.memCtl = s.memCtl := by
    cases r
    · exact hr
    · exact (memCtl_takeFlip ..).trans hr
  dsimp only
  revert hf
  generalize (if r = true then takeFlip t k w else ([], t)) = u
  intro hf
  exact (samePages_of_memCtl (by exact hf)).trans (samePages_setMemc _ k rfl rfl)

theorem samePages_uncache (s : State) (k w code : Nat) : SamePages s (uncache s k w code) := by
  unfold uncache
  split
  · exact samePages_setMemc s k rfl rfl
  · exact samePages_of_memCtl rfl

theorem samePages_writeWord {s : State} {k : Nat} (h : noErrors s) (w : Nat) (bs : List (Option Byte)) (code : Nat) :
    SamePages s (writeWord s k w bs code).2 := by
  have hs := (samePages_storeWord s k w bs true).trans (samePages_uncache _ k w code)
  unfold writeWord
  split
  · exact samePages_of_memCtl rfl
  · split
    · rw [poisoned_clean h]; exact hs
    · simp only [voteRead_clean h, readWord_clean h]; exact hs

theorem samePages_memWrite {s : State} {k : Nat} (h : memQuiet s k) (a : Nat) (bs : List (Option Byte)) (code : Nat) :
    SamePages s (memWrite s k a bs code).2 := by
  unfold memWrite
  refine (List.foldlRecOn (motive := fun r : Bool × State => memQuiet r.2 k ∧ SamePages s r.2) _ _
    ⟨h, samePages_of_memCtl rfl⟩ fun r hr w _ => ?_).2
  exact ⟨(writeWord_quiet hr.1 ..).2.frame.quiet hr.1, hr.2.trans (samePages_writeWord hr.1.1 ..)⟩

theorem samePages_ctxD {s : State} (h : memQuiet s ctxCtl) (x : CtxF) (c v : Nat) : SamePages s (ctxD s x c v) := by
  unfold ctxD ctxSet ctxWriteBytes
  simp only [(memWrite_quiet h ..).1]
  exact samePages_memWrite h ..

theorem samePages_writeRuns {k : Nat} (rs : List (Nat × Nat)) {s : State} (h : memQuiet s k) {bs : List Byte}
    (hl : (rs.map (·.2)).sum = bs.length) : SamePages s (writeRuns s k rs bs) := by
  induction rs generalizing s bs with
  | nil => exact samePages_of_memCtl rfl
  | cons r rs ih =>
    rw [List.map_cons, List.sum_cons] at hl
    rw [writeRuns_cons]
    exact (samePages_memWrite h ..).trans
      (ih ((writeRun_quiet h (by omega)).1.quiet h) (by rw [List.length_drop]; omega))

/-! ### A frame stored behind a queue -/

/-- The place behind a queue at which the next frame of a half begins. -/
abbrev halfEnd (half : Nat) (q : List QFrame) : Nat := queueEnd (q.filter fun f => f.half == half)

/-- The runs that a frame behind a queue is given. -/
def frameRuns (s : State) (half : Nat) (q : List QFrame) (len : Nat) : List (Nat × Nat) :=
  bufRuns (takenPages s half) (len / pageBytes + 2) (halfEnd half q) len

/-- A frame was written to buffer memory behind a queue and stands there. -/
structure StoredFrame (s t : State) (q : List QFrame) (half port pri : Nat) (bs : List Byte) (f : QFrame) : Prop where
  entry : f = ⟨bs.length, port, pri, half, frameRuns s half q bs.length⟩
  frame : onlyRams s t
  keeps : keepsMem s t (frameRanges f)
  bytes : frameBytes t f = bs
  pages : SamePages s t

/-- Where a half has room, a frame of at most three pages is stored: with the two runs that may be cut short these are four. -/
theorem bufStore_stored {s : State} {half : Nat} {q : List QFrame} {bs : List Byte} (h : memQuiet s (71 + half))
    (hr : hasRoom s half q 1) (hl : bs.length < 3 * pageBytes) (port pri : Nat) :
    ∃ f t, bufStore s q half port pri bs = some (f, t) ∧ StoredFrame s t q half port pri bs f := by
  obtain ⟨hcur, hroom⟩ := hr
  have hal : halfEnd half q % 8 = 0 := queueEnd_aligned _
  have hfuel : bs.length / pageBytes + 2 ≤ 4 := by rw [pageBytes_eq] at *; omega
  have hin : ((frameRuns s half q bs.length).all fun r => r.1 / pageBytes < halfPages s) = true :=
    List.all_eq_true.2 fun r hr => decide_eq_true (bufRuns_inHalf _ hal hcur (by omega) r hr)
  have htotal : ((frameRuns s half q bs.length).map (·.2)).sum = bs.length := bufRuns_total _ hal (by split <;> omega)
  obtain ⟨hf, hk, hb⟩ := writeRuns_quiet _ h (bufRuns_apart _ hal) htotal
  exact ⟨_, _, if_pos hin, rfl, hf, hk, hb, samePages_writeRuns _ h htotal⟩

end Sys2Proof.Machine
end

section
/-! Line frames on the ingress path: what the checks read, the way through the slice buffer to an engine, and delivery
(R15, R31, R88, R157, R334). -/

namespace Sys2Proof.Machine

/-! ### What the ingress checks are seen through -/

section
variable {s t : State} (h : SameQueues s t)
include h

theorem SameQueues.ctxAddr (c w : Nat) : ctxAddr t c w = ctxAddr s c w := by
  unfold Sys2Proof.Machine.ctxAddr slotOf
  rw [h.field _ _ (by decide)]

theorem SameQueues.memByte (k a : Nat) : memByte t k a = memByte s k a := memByte_congr h.rams h.blank k a

theorem SameQueues.ctxBytes (x : CtxF) (c : Nat) : ctxBytes t x c = ctxBytes s x c := by
  unfold Sys2Proof.Machine.ctxBytes
  rw [h.ctxAddr, ramBytes_congr fun i _ => h.memByte _ _]

theorem SameQueues.fieldRange (c : Nat) (x : CtxF) : fieldRange t c x = fieldRange s c x := by
  unfold Sys2Proof.Machine.fieldRange
  rw [h.ctxAddr]

theorem SameQueues.chRuns (c : Nat) : chRuns t c = chRuns s c := by
  unfold Sys2Proof.Machine.chRuns chLive chState shadows State.mode
  rw [h.field _ _ (by decide), h.field _ _ (by decide), h.field _ _ (by decide)]

theorem SameQueues.portChans (hb : busyChannels t = busyChannels s) (p : Nat) : portChans t p = portChans s p := by
  unfold Sys2Proof.Machine.portChans Sys2Proof.Machine.chLine
  simp only [hb, h.chRuns, h.ctx]

end

/-- The ingress slices of a port are seen through its width, the states of its slices and those of their engines. -/
theorem ingressSlices_congr {s t : State} (hr : ∀ r i, r ≠ .PORT_EVT → t.reg r i = s.reg r i)
    (hs : ∀ j, (t.slice j).ready = (s.slice j).ready ∧ (t.slice j).draining = (s.slice j).draining) (p : Nat) :
    ingressSlices t p = ingressSlices s p := by
  have hf : ∀ (x : Fld) (i : Nat), x.reg ≠ .PORT_EVT → t.f x i = s.f x i := fun x i hx => by rw [State.f, hr _ _ hx, State.f]
  unfold ingressSlices portSlices portWidth engAvail sliceDrained
  simp only [hf PORT_CFG.WIDTH p (by decide), hs, hr .SHF_DRAINED 0 (by decide), hf ENG_STATUS.STATE _ (by decide)]

/-- What the ingress checks of a channel read is the same: contexts and configuration, the images of the complications, and no
word with an error has come. -/
structure SameIngress (s t : State) : Prop extends SameQueues s t where
  errs : t.errs = s.errs
  sheaf : t.sheaf = s.sheaf

section
variable {s t : State} (h : SameIngress s t)
include h

theorem SameIngress.noErrors (hn : noErrors s) : noErrors t := h.errs.trans hn

theorem SameIngress.quiet {k : Nat} (hq : memQuiet s k) : memQuiet t k :=
  ⟨h.errs.trans hq.1, (h.field _ _ (by decide)).trans hq.2⟩

theorem SameIngress.inMat (c k : Nat) : inMat t c k = inMat s c k := by
  unfold Sys2Proof.Machine.inMat
  rw [h.ctxBytes, h.ctxBytes, h.ctxBytes, h.ctx]

theorem SameIngress.inValid (hn : Machine.noErrors s) (c k : Nat) : inValid t c k = inValid s c k := by
  unfold Sys2Proof.Machine.inValid inHeadBad
  simp only [ctxPoisoned_clean hn, ctxPoisoned_clean (h.noErrors hn), h.ctx]

theorem SameIngress.inSlotFor (hn : Machine.noErrors s) (c n e : Nat) : inSlotFor t c n e = inSlotFor s c n e := by
  unfold Sys2Proof.Machine.inSlotFor inOrder inCur inNext inPrev inCur
  simp only [h.inValid hn, h.ctx]

theorem SameIngress.aeadOpen (c : Nat) (m : KeyMat) (iv aad ct tag : List Byte) :
    aeadOpen t c m iv aad ct tag = aeadOpen s c m iv aad ct tag := by
  unfold Sys2Proof.Machine.aeadOpen complData keyLen chLine
  simp only [h.ctx, h.sheaf]

theorem SameIngress.isXpn (c : Nat) : isXpn t c = isXpn s c := by
  unfold Sys2Proof.Machine.isXpn
  rw [h.ctx]

theorem SameIngress.macsecOpen (c : Nat) (m : KeyMat) (sci : List Byte) (pn : Nat) (f : List Byte) (t0 : SecTag) :
    macsecOpen t c m sci pn f t0 = macsecOpen s c m sci pn f t0 := by
  unfold Sys2Proof.Machine.macsecOpen macsecIv confOffset
  simp only [h.aeadOpen, h.isXpn, h.ctx]

theorem SameIngress.macsecReplayOk (hn : Machine.noErrors s) (c k pn : Nat) : macsecReplayOk t c k pn = macsecReplayOk s c k pn := by
  unfold Sys2Proof.Machine.macsecReplayOk replayBad
  simp only [ctxPoisoned_clean hn, ctxPoisoned_clean (h.noErrors hn), h.ctx]

end

/-! ### A line frame after the slice buffer (R15) -/

/-- A counted line frame after the slice buffer of its port. -/
structure InTaken (s u : State) (p : Nat) (f : List Byte) : Prop where
  frame : u = { s with regs := u.regs, cnts := u.cnts, slices := u.slices }
  regs : keepsRegs s u [(.PORT_EVT, p)]
  cnts : keepsCnts s u ((.PORT_RX_FRAMES, p) :: fecCnts p)
  counts : counted s u .PORT_RX_FRAMES p
  passed : passedBuffer s u p true f

theorem onlyRegs.inTaken {s s' : State} {p : Nat} (h : onlyRegs s s' [(.PORT_EVT, p)] ((.PORT_RX_FRAMES, p) :: fecCnts p))
    (hc : counted s s' .PORT_RX_FRAMES p) (f : List Byte) : InTaken s (stagedIn s' p true f) p f := by
  have hs : s'.slices = s.slices := (congrArg State.slices h.1).trans rfl
  refine ⟨?_, h.2.1, h.2.2, hc, passedBuffer_congr (passedBuffer_stagedIn ..) hs.symm rfl⟩
  rw [stagedIn, h.1]
  rfl

/-- A unit went to an ingress engine: the engines and the ports that follow. -/
def fedBy (s : State) (engs : SMap Eng) (ports : SMap PortSt) : State := { s with engs := engs, ports := ports }

section
variable {s u : State} {p : Nat} {f : List Byte} (h : InTaken s u p f)
include h

theorem InTaken.sameIngress : SameIngress s u where
  rams := (congrArg State.rams h.frame).trans rfl
  blank := (congrArg State.ctxBlank h.frame).trans rfl
  chans := (congrArg State.chans h.frame).trans rfl
  field := fun x i hx => by
    have hm : (x.reg, i) ∉ [(Reg.PORT_EVT, p)] := fun hm => hx (by simp_all)
    rw [State.f, h.regs _ _ hm, State.f]
  errs := (congrArg State.errs h.frame).trans rfl
  sheaf := (congrArg State.sheaf h.frame).trans rfl

theorem InTaken.memCtl : u.memCtl = s.memCtl := (congrArg State.memCtl h.frame).trans rfl
theorem InTaken.cntPend : u.cntPend = s.cntPend := (congrArg State.cntPend h.frame).trans rfl

/-- The slices are as ready as before. -/
theorem InTaken.slice (j : Nat) : (u.slice j).ready = (s.slice j).ready ∧ (u.slice j).draining = (s.slice j).draining := by
  by_cases hj : j = anchor p
  · subst hj
    rw [h.passed.1]
    exact ⟨rfl, rfl⟩
  · rw [h.passed.2 j hj]
    exact ⟨rfl, rfl⟩

theorem InTaken.ingressSlices : ingressSlices u p = ingressSlices s p :=
  ingressSlices_congr (fun r i hr => h.regs r i (by simp [hr])) h.slice p

/-- An ingress engine of the port gets the unit as it would without the frame's way there. -/
theorem InTaken.giveIngress (us : List (BusVal × List Byte)) : giveIngress u p us =
    fedBy u (giveIngress s p us).engs (giveIngress s p us).ports := by
  have hp : u.port p = s.port p := congrArg (SMap.get _ · p) ((congrArg State.ports h.frame).trans rfl)
  unfold Sys2Proof.Machine.giveIngress
  rw [h.ingressSlices, hp, h.frame]
  cases nextSlice (Sys2Proof.Machine.ingressSlices s p) (s.port p).inNext <;> rfl

end

/-- A unit on its way through an ingress engine touches none of what the checks read. -/
theorem sameIngress_fed (s : State) (engs : SMap Eng) (ports : SMap PortSt) : SameIngress s (fedBy s engs ports) :=
  ⟨⟨rfl, rfl, rfl, fun _ _ _ => rfl⟩, rfl, rfl⟩

theorem SameIngress.trans {s t u : State} (h : SameIngress s t) (h' : SameIngress t u) : SameIngress s u :=
  ⟨⟨h'.rams.trans h.rams, h'.blank.trans h.blank, h'.chans.trans h.chans, fun x i hx => (h'.field x i hx).trans (h.field x i hx)⟩,
    h'.errs.trans h.errs, h'.sheaf.trans h.sheaf⟩

/-! ### Delivery (R157) -/

/-- A frame was written behind the delivery queue of a channel, joined it and was counted. -/
structure Delivered (s t : State) (c half : Nat) (fr : List Byte) (q : QFrame) : Prop where
  entry : q = ⟨fr.length, chClient s c, (vlanOf fr).2, half, frameRuns s half (s.chan c).iq fr.length⟩
  chans : t.chans = SMap.set (fun _ => Chan.reset) s.chans c { s.chan c with iq := (s.chan c).iq ++ [q] }
  keeps : keepsMem s t (frameRanges q)
  bytes : frameBytes t q = fr
  count : t.cntPend = (chCount s c cInOk 1).cntPend
  pages : SamePages s t
  frame : t = { s with chans := t.chans, cntPend := t.cntPend, rams := t.rams, valid := t.valid, memCtl := t.memCtl }

theorem deliver_delivered {s : State} {c half : Nat} {fr : List Byte} (hh : half = halfOf (anchor (chClient s c)))
    (hq : memQuiet s (71 + half)) (hr : hasRoom s half (s.chan c).iq 1)
    (hl : iqBytes s c + fr.length ≤ 1024 * ctx s Ctx.IQ_LIMIT c) (hf : fr.length < 3 * pageBytes) :
    ∃ q, Delivered s (deliver s c fr true) c half fr q := by
  subst hh
  obtain ⟨q, t, hb, hs⟩ := bufStore_stored hq hr hf (chClient s c) (vlanOf fr).2
  have hd : deliver s c fr true = chCount (t.setChan c { t.chan c with iq := (t.chan c).iq ++ [q] }) c cInOk 1 := by
    unfold deliver
    simp only [decide_eq_true hl, hb, if_true]
  have hc : t.chan c = s.chan c := chan_of_chans hs.frame.chans c
  have hr' : t.rams = (deliver s c fr true).rams := by rw [hd]; rfl
  have hb' : t.ctxBlank = (deliver s c fr true).ctxBlank := by rw [hd]; rfl
  refine ⟨q, hs.entry, ?_, fun k a ha => ?_, ?_, ?_, ?_, ?_⟩
  · rw [hd, hc, ← hs.frame.chans]
    rfl
  · exact (memByte_congr hr'.symm hb'.symm k a).trans (hs.keeps k a ha)
  · rw [frameBytes_congr hr'.symm hb'.symm, hs.bytes]
  · rw [hd]
    unfold chCount
    rw [State.setChan_cntPend, hs.frame.cntPend]
  · exact hs.pages.trans (samePages_of_memCtl (by rw [hd]; rfl))
  · rw [hd, show t = _ from hs.frame]
    rfl

section
variable {s t : State} {c half : Nat} {fr : List Byte} {q : QFrame} (h : Delivered s t c half fr q)
include h

theorem Delivered.chan (d : Nat) : t.chan d = if d = c then { s.chan c with iq := (s.chan c).iq ++ [q] } else s.chan d := by
  show SMap.get _ t.chans d = _
  rw [h.chans, SMap.get_set]
  rfl

theorem Delivered.regs : t.regs = s.regs := (congrArg State.regs h.frame).trans rfl

theorem Delivered.field (x : Fld) (i : Nat) : t.f x i = s.f x i := by simp only [State.f, State.reg, h.regs]

theorem Delivered.quiet {k : Nat} (hq : memQuiet s k) : memQuiet t k :=
  ⟨((congrArg State.errs h.frame).trans rfl).trans hq.1, (h.field _ _).trans hq.2⟩

theorem Delivered.ctx (x : CtxF) (d : Nat) : ctx t x d = ctx s x d := by
  unfold Sys2Proof.Machine.ctx ctxAddr slotOf
  rw [h.field, ramBytes_congr fun i _ => frameRanges_ctx h.keeps _]

theorem Delivered.chClient (d : Nat) : chClient t d = chClient s d := by
  unfold Sys2Proof.Machine.chClient Sys2Proof.Machine.chLine framing
  rw [h.ctx, h.ctx, h.field]

theorem Delivered.pends : pends t c cInOk = pends s c cInOk + 1 :=
  (pends_of_held h.count c cInOk).trans (pends_chCount_self s c cInOk 1)

end

/-! ### The high mark of the current slot (R152, R153) -/

section
variable {s : State} {c k : Nat}

theorem apart_inHigh {x : CtxF} (h : [Ctx.IN0_HIGH, Ctx.IN1_HIGH, Ctx.IN2_HIGH].all (apart x) = true) (k : Nat) :
    [inHigh k].all (apart x) = true := by
  simp only [List.all_cons, List.all_nil, Bool.and_true, Bool.and_eq_true] at h ⊢
  obtain ⟨h0, h1, h2⟩ := h
  unfold inHigh
  split
  · exact h0
  · exact h1
  · exact h2

theorem inHigh_off (k : Nat) : 0x200 ≤ (inHigh k).off := by unfold inHigh; split <;> decide

theorem inHigh_len (k : Nat) : (inHigh k).len = 64 := by unfold inHigh; split <;> rfl

/-- The current slot is not the next one. -/
theorem inCur_ne_inNext : inCur s c ≠ inNext s c := by unfold inNext; omega

/-- The high mark of a slot rises to a number above it. -/
def markHigh (s : State) (c k seq : Nat) : State := if seq > ctx s (inHigh k) c then ctxD s (inHigh k) c seq else s

theorem inUpdate_current (hk : k = inCur s c) (seq : Nat) : inUpdate s c k seq false = markHigh s c k seq := by
  unfold inUpdate markHigh
  simp only [hk ▸ inCur_ne_inNext, if_false, Bool.false_and, Bool.false_eq_true]

theorem markHigh_quiet (h : memQuiet s ctxCtl) {seq : Nat} (hs : seq < 2 ^ 64) :
    ctxOnly s (markHigh s c k seq) c [inHigh k] ∧ ctx (markHigh s c k seq) (inHigh k) c = max (ctx s (inHigh k) c) seq ∧
      SamePages s (markHigh s c k seq) := by
  unfold markHigh
  split
  · obtain ⟨hv, ho⟩ := ctxSet_quiet h (inHigh_off k) c seq codeData
    refine ⟨ho, ?_, samePages_ctxD h ..⟩
    rw [inHigh_len, Nat.mod_eq_of_lt hs] at hv
    exact hv.trans (by omega)
  · exact ⟨⟨rfl, keepsMem_refl _ _⟩, by omega, samePages_of_memCtl rfl⟩

end

/-! ### Lengths of opened units -/

section
variable {s : State} {c : Nat}

theorem aeadOpen_length {m : KeyMat} (hm : m.key.length = 32) {iv aad ct tag pt : List Byte}
    (h : aeadOpen s c m iv aad ct tag = some pt) : pt.length = ct.length := by
  unfold aeadOpen at h
  split at h
  · unfold Crypto.gcmOpen at h
    split at h
    · rw [← Option.some.inj h, Crypto.length_aesCtr (length_take_keyLen hm s c)]
    · cases h
  · obtain ⟨g, -, rfl⟩ := Option.map_eq_some_iff.1 h
    rw [List.length_map, List.length_range]

theorem length_inKey (k : Nat) : (inMat s c k).key.length = 32 := by
  unfold inMat ctxBytes inKey
  rw [length_ramBytes]
  split <;> rfl

end

/-! ### A channel whose replay fields were marked -/

theorem hasRoom_congr {s t : State} (hc : t.chans = s.chans) (hp : SamePages s t) (hs : t.sheaf = s.sheaf) {half n : Nat}
    {q : List QFrame} (h : hasRoom s half q n) : hasRoom t half q n := by
  have ht : takenPages t half = takenPages s half := by
    unfold takenPages usedPages
    rw [hc, hp.retired, hp.retiring]
  have hh : halfPages t = halfPages s := by unfold halfPages bcByte; rw [hs]
  rw [hasRoom, ht, hh]
  exact h

/-- A field that shares no byte with those that may differ holds what it held. -/
theorem keepsCtx.field {s t : State} {c : Nat} {fs : List CtxF} (h : keepsCtx s t c fs) {x : CtxF}
    (hx : fs.all (apart x) = true) : ramBytes t ctxCtl (ctxAddr s c x.off + fieldFirst x) (fieldBytes x) =
      ramBytes s ctxCtl (ctxAddr s c x.off + fieldFirst x) (fieldBytes x) := by
  refine ramBytes_congr fun i hi => h _ _ fun r hr hc => ?_
  obtain ⟨y, hy, rfl⟩ := List.mem_map.1 hr
  have hxy := List.all_eq_true.1 hx y hy
  rw [apart_iff] at hxy
  have hc : ctxAddr s c y.off + fieldFirst y ≤ _ ∧ _ < ctxAddr s c y.off + fieldFirst y + fieldBytes y := hc.2
  rw [ctxAddr_first, ctxAddr_first] at hc
  omega

/-- Of what a delivery meets, only fields of the channel's context differ. -/
structure Marked (s w : State) (c : Nat) (fs : List CtxF) : Prop where
  chans : w.chans = s.chans
  field : ∀ (x : Fld) (i : Nat), x.reg ∉ portNotes → w.f x i = s.f x i
  keeps : keepsMem s w (fs.map (fieldRange s c))
  errs : w.errs = s.errs
  sheaf : w.sheaf = s.sheaf
  pages : SamePages s w
  held : w.cntPend = s.cntPend

theorem SameIngress.marked {s v w : State} {c : Nat} {fs : List CtxF} (h : SameIngress s v) (hm : v.memCtl = s.memCtl)
    (hc : v.cntPend = s.cntPend) (ho : ctxOnly v w c fs) (hp : SamePages v w) : Marked s w c fs where
  chans := ho.frame.chans.trans h.chans
  field := fun x i hx => (ho.frame.f x i).trans (h.field x i hx)
  keeps := fun k a ha => by
    have hk : fieldRange v c = fieldRange s c := funext fun x => h.fieldRange c x
    exact (ho.keeps k a (by rw [hk]; exact ha)).trans (h.memByte k a)
  errs := ho.frame.errs.trans h.errs
  sheaf := ((congrArg State.sheaf ho.frame).trans rfl).trans h.sheaf
  pages := (samePages_of_memCtl hm).trans hp
  held := ho.frame.cntPend.trans hc

section
variable {s w : State} {c : Nat} {fs : List CtxF} (h : Marked s w c fs)
include h

theorem Marked.chan (d : Nat) : w.chan d = s.chan d := chan_of_chans h.chans d

theorem Marked.quiet {k : Nat} (hq : memQuiet s k) : memQuiet w k :=
  ⟨h.errs.trans hq.1, (h.field _ _ (by decide)).trans hq.2⟩

theorem Marked.room {half n : Nat} {q : List QFrame} (hr : hasRoom s half q n) : hasRoom w half q n :=
  hasRoom_congr h.chans h.pages h.sheaf hr

theorem Marked.iqBytes : iqBytes w c = iqBytes s c := by unfold Sys2Proof.Machine.iqBytes; rw [h.chan]

theorem Marked.ctxAddr (v : Nat) : ctxAddr w c v = ctxAddr s c v := by
  unfold Sys2Proof.Machine.ctxAddr slotOf
  rw [h.field _ _ (by decide)]

theorem Marked.ctx {x : CtxF} (hx : fs.all (apart x) = true) : ctx w x c = ctx s x c := by
  unfold Sys2Proof.Machine.ctx
  rw [h.ctxAddr, keepsCtx.field h.keeps hx]

theorem Marked.chClient (hl : fs.all (apart Ctx.LINE_PORT) = true) (hc : fs.all (apart Ctx.CLIENT_PORT) = true) :
    chClient w c = chClient s c := by
  unfold Sys2Proof.Machine.chClient chLine framing
  rw [h.ctx hl, h.ctx hc, h.field _ _ (by decide)]

end

end Sys2Proof.Machine
end

section
/-! MACsec Seal frames received: the ordered checks, the packet number's window, delivery (O25). -/

namespace Sys2Proof.Machine

/-! ### The checks of a channel's frame (R88, R94, R152) -/

/-- Packet number of a frame as the channel's slot reads it. -/
abbrev macsecPn (s : State) (c k : Nat) (t : SecTag) : Nat :=
  if isXpn s c then recoverPn t.pn (max 1 (ctx s (inHigh k) c - ctx s Ctx.REPLAY_WIN c)) else t.pn

/-- The unit that an ingress engine gets of a frame. -/
abbrev macsecUnit (f : List Byte) (pn k c : Nat) : List (BusVal × List Byte) :=
  [(inDescOf pn (f.take (f.length - 4)).length 0 k c, f.take (f.length - 4))]

/-- A frame as the slot opens it. -/
abbrev macsecOpened (s : State) (c k : Nat) (f : List Byte) : Option (List Byte) :=
  macsecOpen s c (inMat s c k) (ctxBytes s Ctx.RX_SCI c) (macsecPn s c k (secTag f)) f (secTag f)

/-- The packet number passes the replay pre-check. -/
abbrev macsecFresh (s : State) (c k : Nat) (f : List Byte) : Prop :=
  macsecPn s c k (secTag f) ≠ 0 ∧ macsecReplayOk s c k (macsecPn s c k (secTag f)) = true

theorem SameIngress.macsecPn {s t : State} (h : SameIngress s t) (c k : Nat) (t0 : SecTag) : macsecPn t c k t0 = macsecPn s c k t0 := by
  unfold Sys2Proof.Machine.macsecPn
  simp only [h.isXpn, h.ctx]

theorem SameIngress.macsecFresh {s t : State} (h : SameIngress s t) (hn : Machine.noErrors s) (c k : Nat) (f : List Byte) :
    macsecFresh t c k f ↔ macsecFresh s c k f := by
  unfold Sys2Proof.Machine.macsecFresh
  rw [h.macsecReplayOk hn, h.macsecPn]

section
variable {s : State} {c k : Nat} {f : List Byte}

theorem macsecChecks_noSlot (hn : noErrors s) (hs : inSlotFor s c 2 ((secTag f).tci % 4) = none) :
    macsecChecks s c f (secTag f) = chCount s c cInDropNokey 1 := by
  unfold macsecChecks inLook
  rw [ctxLook_clean hn]
  simp only [hs]

theorem macsecChecks_replay (hn : noErrors s) (hs : inSlotFor s c 2 ((secTag f).tci % 4) = some k) (h : ¬ macsecFresh s c k f) :
    macsecChecks s c f (secTag f) = chCount s c cInDropReplay 1 := by
  have hr : macsecPn s c k (secTag f) = 0 ∨ (!macsecReplayOk s c k (macsecPn s c k (secTag f))) = true := by
    rw [Bool.not_eq_true', ← Bool.not_eq_true]
    tauto
  unfold macsecChecks inLook
  rw [ctxLook_clean hn]
  simp only [hs]
  exact if_pos hr

/-- What becomes of a frame once it has been through the cipher. -/
def macsecSettled (s : State) (c k pn : Nat) : Option (List Byte) → State
  | none => (chCount s c cInDropAuth 1).raise CH_EVT.AUTH_FAIL c
  | some fr => deliver (inUpdate s c k pn false) c fr true

theorem macsecChecks_fresh (hn : noErrors s) (hs : inSlotFor s c 2 ((secTag f).tci % 4) = some k) (h : macsecFresh s c k f) :
    macsecChecks s c f (secTag f) =
      let v := giveIngress s (chLine s c) (macsecUnit f (macsecPn s c k (secTag f)) k c)
      macsecSettled v c k (macsecPn s c k (secTag f))
        (macsecOpen v c (inMat v c k) (ctxBytes v Ctx.RX_SCI c) (macsecPn s c k (secTag f)) f (secTag f)) := by
  have hr : ¬ (macsecPn s c k (secTag f) = 0 ∨ (!macsecReplayOk s c k (macsecPn s c k (secTag f))) = true) := by
    rw [Bool.not_eq_true', ← Bool.not_eq_true]
    tauto
  unfold macsecChecks inLook
  rw [ctxLook_clean hn]
  simp only [hs]
  exact if_neg hr

/-- An opened frame is no longer than its line frame without SecTAG, tag and FCS. -/
theorem macsecOpened_length {fr : List Byte} (hlen : 64 ≤ f.length) (h : macsecOpened s c k f = some fr) :
    fr.length + 28 ≤ f.length := by
  obtain ⟨pt, hpt, rfl⟩ := Option.map_eq_some_iff.1 h
  have hp := aeadOpen_length (length_inKey k) hpt
  have ho : 20 ≤ (secTag f).off ∧ (secTag f).len = f.length - 20 - (secTag f).off := by
    unfold secTag
    dsimp only
    split <;> omega
  rw [length_sliceAt] at hp
  simp only [List.length_append, List.length_take, length_sliceAt, hp]
  omega

end

/-! ### The commands -/

section
variable {s : State} {p : Fin 64} {f : List Byte} {fec : FecCount} {ins : Instr}

theorem macsecChannel_congr {s t : State} (h : SameIngress s t) (hb : busyChannels t = busyChannels s) (hl : t.lost = s.lost)
    (p : Nat) (sci : Option (List Byte)) : macsecChannel t p sci = macsecChannel s p sci := by
  unfold macsecChannel sciChannels entryGood ctxBit
  simp only [h.portChans hb, h.ctx, h.ctxBytes, hl]

/-- A MACsec Seal port takes a frame: counted with its FEC counts, which one of the two commands brings. -/
structure MacsecTaken (s u : State) (p : Fin 64) (f : List Byte) (ins : Instr) : Prop extends InTaken s u p f where
  silent : ins = .macsecFrameRx p f → u.reg .PORT_EVT p = s.reg .PORT_EVT p

/-- Both commands come to the same checks. -/
theorem macsec_arrives (hi : ins = .macsecFrameRx p f ∨ ins = .lineFrameRx p f ⟨fec, .clean⟩) (hp : isLine p = true)
    (hh : hears s p = true) (hm : framing s p = frMacsec) (hs : ingressSlices s p ≠ []) (ht : beAt f 12 2 = 0x88E5)
    (hpm : pmTitheEtype s ≠ 0x88E5) :
    ∃ s0, exec ins s = .next (macsecRx s0 p f .clean) ∧
      onlyRegs s (s0.inc .PORT_RX_FRAMES p) [(.PORT_EVT, p.val)] ((.PORT_RX_FRAMES, p.val) :: fecCnts p) ∧
      counted s (s0.inc .PORT_RX_FRAMES p) .PORT_RX_FRAMES p ∧ busyChannels s0 = busyChannels s ∧
      (ins = .macsecFrameRx p f → s0 = s) := by
  have hne : (ingressSlices s p != []) = true := by simpa using hs
  rcases hi with rfl | rfl
  · refine ⟨s, ?_, (onlyRegs_inc s .PORT_RX_FRAMES p).mono (by simp) (by simp), counted_inc .., rfl, fun _ => rfl⟩
    show execMacsecFrameRx p f s = _
    simp only [execMacsecFrameRx, hp, hh, hm, hne, Bool.and_self, beq_self_eq_true, if_true]
  · have ho := countFec_only s p fec
    refine ⟨countFec s p fec, ?_, rxCounted_only s p fec, rxCounted_counts s p fec, countFec_busy .., by simp⟩
    have hf : framing (countFec s p fec) p = frMacsec := (framing_countFec ..).trans hm
    have hi : ingressSlices (countFec s p fec) p ≠ [] := by
      rw [ingressSlices_congr (fun r i hr => ho.2.1 r i (by simp [hr])) (fun j => ?_)]
      · exact hs
      · rw [show (countFec s p fec).slice j = s.slice j from congrArg (SMap.get _ · j) ((congrArg State.slices ho.1).trans rfl)]
        exact ⟨rfl, rfl⟩
    have hpm' : ¬ (pmTitheEtype (countFec s p fec) = 0x88E5) := by
      rw [show pmTitheEtype (countFec s p fec) = pmTitheEtype s by
        unfold pmTitheEtype; rw [(congrArg State.sheaf ho.1).trans rfl]]
      exact hpm
    show execLineFrameRx p f ⟨fec, .clean⟩ s = _
    simp only [execLineFrameRx, hp, (hears_of_only ho).trans hh, Bool.not_true, Bool.false_eq_true, if_false, if_true]
    unfold lineRx dataRx
    rw [if_neg (by rw [hf]; decide), if_neg (by simp [ht]), if_neg (by simp [ht, Ne.symm hpm']), if_neg hi, if_pos hf]

/-- Channel that takes a frame: one whose SecTAG is of the right form and names it. -/
def takingChannel (s : State) (p : Nat) (f : List Byte) : Option Nat :=
  if secTagOk f (secTag f) then macsecChannel s p (secTag f).sci else none

theorem takingChannel_none {q : Nat} (h : secTagOk f (secTag f) = false ∨ macsecChannel s q (secTag f).sci = none) :
    takingChannel s q f = none := by
  rcases h with h | h
  · exact if_neg (by simp [h])
  · unfold takingChannel
    rw [h, ite_self]

/-- A counted frame goes to the checks of its channel through the slice buffer, or counts as unmatched. -/
def macsecGoesOn (s : State) (p : Nat) (f : List Byte) : Option Nat → State
  | none => noMatch s p
  | some c => macsecChecks (stagedIn s p true f) c f (secTag f)

/-- A frame of the right form is judged after its count. -/
theorem macsecRx_judged {s0 : State} (hg : fcsGood f = true) (h1 : 64 ≤ f.length) (h2 : f.length ≤ 9632)
    (ht : beAt f 12 2 = 0x88E5) (hl : s0.lost = []) :
    macsecRx s0 p f .clean = macsecGoesOn (s0.inc .PORT_RX_FRAMES p) p f (takingChannel (s0.inc .PORT_RX_FRAMES p) p f) := by
  have hb : ¬ (!fcsGood f || f.length < 64 || f.length > 9632) = true := by simp [hg, h1, h2]
  have hst : f.length ≤ stageBytes := h2.trans (by decide)
  have hm := meetEntries_none (s := s0.inc .PORT_RX_FRAMES p) hl
    ((sciChannels (s0.inc .PORT_RX_FRAMES p) p (secTag f).sci).filterMap ingressEnt) codeQueue
  unfold macsecRx takingChannel
  rw [if_neg hb]
  dsimp only
  rw [hm]
  by_cases hok : secTagOk f (secTag f) = true
  · rw [if_neg (by simp [ht, hok]), if_pos hok]
    cases macsecChannel (s0.inc .PORT_RX_FRAMES p) p (secTag f).sci with
    | none => rfl
    | some c => exact throughSlice_clean _ _ _ hst _
  · rw [if_pos (by simp [hok]), if_neg hok]
    rfl

theorem chLine_of_macsecChannel {c : Nat} {sci : Option (List Byte)} {q : Nat} (h : macsecChannel s q sci = some c) : chLine s c = q := by
  have hmem : c ∈ portChans s q := List.mem_of_mem_filter (List.mem_of_find?_eq_some h)
  have := (List.mem_filter.1 hmem).2
  rw [Bool.and_eq_true, beq_iff_eq] at this
  exact this.2

end

/-- A MACsec Seal frame of the right form on a port that hears. -/
structure MacsecFrame (s : State) (p : Fin 64) (f : List Byte) (ins : Instr) (fec : FecCount) : Prop where
  cmd : ins = .macsecFrameRx p f ∨ ins = .lineFrameRx p f ⟨fec, .clean⟩
  line : isLine p = true
  hears : hears s p = true
  framing : framing s p = frMacsec
  slices : ingressSlices s p ≠ []
  fcs : fcsGood f = true
  atLeast : 64 ≤ f.length
  atMost : f.length ≤ 9632
  etype : beAt f 12 2 = 0x88E5
  tithe : pmTitheEtype s ≠ 0x88E5
  clean : noErrors s
  entries : s.lost = []

section
variable {s : State} {p : Fin 64} {f : List Byte} {fec : FecCount} {ins : Instr} {c k : Nat} (h : MacsecFrame s p f ins fec)
include h

/-- What the command does with the frame, and what the count before it leaves. -/
theorem MacsecFrame.judged : ∃ v, onlyRegs s v [(.PORT_EVT, p.val)] ((.PORT_RX_FRAMES, p.val) :: fecCnts p) ∧
    counted s v .PORT_RX_FRAMES p ∧ (ins = .macsecFrameRx p f → v.reg .PORT_EVT p = s.reg .PORT_EVT p) ∧
    exec ins s = .next (macsecGoesOn v p f (takingChannel s p f)) := by
  obtain ⟨s0, he, ho, hc, hb, hs⟩ := macsec_arrives h.cmd h.line h.hears h.framing h.slices h.etype h.tithe
  have hl : (s0.inc .PORT_RX_FRAMES p).lost = s.lost := (congrArg State.lost ho.1).trans rfl
  have hsame : SameIngress s (s0.inc .PORT_RX_FRAMES p) :=
    ⟨ho.sameQueues (by simp), (congrArg State.errs ho.1).trans rfl, (congrArg State.sheaf ho.1).trans rfl⟩
  refine ⟨s0.inc .PORT_RX_FRAMES p, ho, hc, fun hi => by rw [hs hi]; rfl, ?_⟩
  rw [he, macsecRx_judged (s0 := s0) h.fcs h.atLeast h.atMost h.etype (hl.trans h.entries)]
  rw [takingChannel, macsecChannel_congr hsame hb hl, takingChannel]

theorem MacsecFrame.unmatched (hno : takingChannel s p f = none) :
    ∃ t, exec ins s = .next t ∧ counted s t .PORT_RX_FRAMES p ∧ keepsRegs s t [(.PORT_EVT, p.val)] ∧
      keepsCnts s t ([(.PORT_RX_FRAMES, p.val), (.CH_PORTCNT, p.val)] ++ fecCnts p) ∧
      (ins = .macsecFrameRx p f → t.reg .PORT_EVT p = s.reg .PORT_EVT p) ∧ counted s t .CH_PORTCNT p ∧
      t = { s with regs := t.regs, cnts := t.cnts } := by
  obtain ⟨v, ho, hc, hs, hx⟩ := h.judged
  rw [hno, macsecGoesOn] at hx
  refine ⟨_, hx, counted_inc_ne hc (by simp), ho.2.1, fun d i hm => ?_, hs, ?_, ?_⟩
  · simp only [List.cons_append, List.nil_append, List.mem_cons, not_or] at hm
    exact (State.cnt_inc_ne (by simpa using hm.2.1)).trans (ho.2.2 d i (by simp [hm]))
  · exact (counted_inc v .CH_PORTCNT p).trans (by rw [ho.2.2 _ _ (by simp [fecCnts])])
  · rw [noMatch, ho.1]
    rfl

/-- A frame that a channel's SecTAG names comes to the channel's checks, past the slice buffer. -/
theorem MacsecFrame.found (hok : secTagOk f (secTag f) = true) (hm : macsecChannel s p (secTag f).sci = some c) :
    ∃ u, exec ins s = .next (macsecChecks u c f (secTag f)) ∧ MacsecTaken s u p f ins ∧ chLine u c = p := by
  obtain ⟨v, ho, hc, hs, hx⟩ := h.judged
  rw [takingChannel, if_pos hok, hm, macsecGoesOn] at hx
  have ht := ho.inTaken hc f
  exact ⟨_, hx, ⟨ht, hs⟩, (ht.sameIngress.ctx ..).trans (chLine_of_macsecChannel hm)⟩

end

section
variable {s u : State} {p : Fin 64} {f : List Byte} {ins : Instr} {c k : Nat} (h : MacsecTaken s u p f ins)
include h

theorem MacsecTaken.took {t : State} {r : List (Reg × Nat)} (hr : keepsRegs u t r) (hc : t.cnts = u.cnts)
    (hp : (Reg.PORT_EVT, p.val) ∉ r) :
    counted s t .PORT_RX_FRAMES p ∧ keepsRegs s t ((.PORT_EVT, p.val) :: r) ∧
      keepsCnts s t ((.PORT_RX_FRAMES, p.val) :: fecCnts p) ∧
      (ins = .macsecFrameRx p f → t.reg .PORT_EVT p = s.reg .PORT_EVT p) := by
  have hcnt : ∀ d i, t.cnt d i = u.cnt d i := fun d i => by rw [State.cnt, hc, State.cnt]
  refine ⟨(hcnt ..).trans h.counts, fun r' i hm => ?_, fun d i hm => (hcnt ..).trans (h.cnts d i hm), fun hi => ?_⟩
  · rw [List.mem_cons, not_or] at hm
    exact (hr r' i hm.2).trans (h.regs r' i (by simpa using hm.1))
  · exact (hr _ _ hp).trans (h.silent hi)

/-- A frame that is dropped before an engine sees it: its cause is counted. -/
theorem MacsecTaken.drops (i : Nat) :
    let t := chCount u c i 1
    (counted s t .PORT_RX_FRAMES p ∧ keepsRegs s t [(.PORT_EVT, p.val)] ∧ keepsCnts s t ((.PORT_RX_FRAMES, p.val) :: fecCnts p) ∧
      (ins = .macsecFrameRx p f → t.reg .PORT_EVT p = s.reg .PORT_EVT p)) ∧ passedBuffer s t p true f ∧
      pends t c i = pends s c i + 1 ∧ t = { s with regs := t.regs, cnts := t.cnts, slices := t.slices, cntPend := t.cntPend } := by
  refine ⟨h.took (fun _ _ _ => rfl) rfl (by simp), passedBuffer_congr h.passed rfl rfl,
    (pends_chCount_self ..).trans (congrArg (· + 1) (pends_of_held h.cntPend ..)), ?_⟩
  rw [chCount, h.frame]

/-- The state after the frame went to an ingress engine. -/
theorem MacsecTaken.fresh (hn : noErrors s) (hline : chLine u c = p) (hs : inSlotFor s c 2 ((secTag f).tci % 4) = some k)
    (hfresh : macsecFresh s c k f) :
    let g := giveIngress s p (macsecUnit f (macsecPn s c k (secTag f)) k c)
    let v := fedBy u g.engs g.ports
    macsecChecks u c f (secTag f) = macsecSettled v c k (macsecPn s c k (secTag f)) (macsecOpened s c k f) := by
  intro g v
  have hi := h.sameIngress
  have hv : SameIngress s v := hi.trans (sameIngress_fed u g.engs g.ports)
  have hg : giveIngress u (chLine u c) (macsecUnit f (macsecPn s c k (secTag f)) k c) = v := by rw [hline, h.giveIngress]
  rw [macsecChecks_fresh (hi.noErrors hn) ((hi.inSlotFor hn ..).trans hs) ((hi.macsecFresh hn ..).2 hfresh)]
  simp only [hg, hi.macsecPn, hv.macsecOpen, hv.inMat, hv.ctxBytes]

/-- A frame that does not open: counted with its event, after its way through an engine. -/
theorem MacsecTaken.unopened (engs : SMap Eng) (ports : SMap PortSt) :
    let t := (chCount (fedBy u engs ports) c cInDropAuth 1).raise CH_EVT.AUTH_FAIL c
    (counted s t .PORT_RX_FRAMES p ∧ keepsRegs s t [(.PORT_EVT, p.val), (.CH_EVT, c)] ∧
      keepsCnts s t ((.PORT_RX_FRAMES, p.val) :: fecCnts p) ∧
      (ins = .macsecFrameRx p f → t.reg .PORT_EVT p = s.reg .PORT_EVT p)) ∧ passedBuffer s t p true f ∧
      pends t c cInDropAuth = pends s c cInDropAuth + 1 ∧ t.fb CH_EVT.AUTH_FAIL c = true ∧ t.engs = engs ∧ t.ports = ports ∧
      t = { s with regs := t.regs, cnts := t.cnts, slices := t.slices, cntPend := t.cntPend, engs := t.engs,
                   ports := t.ports } := by
  refine ⟨h.took (fun r i hm => (setsRegs_raise _ CH_EVT.AUTH_FAIL c).2 r i hm) rfl (by simp),
    passedBuffer_congr h.passed rfl rfl,
    (pends_chCount_self ..).trans (congrArg (· + 1) (pends_of_held h.cntPend ..)), State.fb_raise (by decide) rfl, rfl, rfl, ?_⟩
  rw [h.frame]
  rfl

/-- A frame that opens under the current slot: its number marks the slot, and it stands in the delivery queue. -/
theorem MacsecTaken.opened {engs : SMap Eng} {ports : SMap PortSt} {fr : List Byte} {pn : Nat} (hk : k = inCur s c)
    (hpn : pn < 2 ^ 64) (hctx : memQuiet s ctxCtl) (hq : memQuiet s (71 + halfOf (anchor (chClient s c))))
    (hroom : hasRoom s (halfOf (anchor (chClient s c))) (s.chan c).iq 1)
    (hlim : iqBytes s c + fr.length ≤ 1024 * ctx s Ctx.IQ_LIMIT c) (hlen : fr.length < 3 * pageBytes) :
    ∃ q, let t := deliver (inUpdate (fedBy u engs ports) c k pn false) c fr true
      (counted s t .PORT_RX_FRAMES p ∧ keepsRegs s t [(.PORT_EVT, p.val)] ∧
        keepsCnts s t ((.PORT_RX_FRAMES, p.val) :: fecCnts p) ∧
        (ins = .macsecFrameRx p f → t.reg .PORT_EVT p = s.reg .PORT_EVT p)) ∧ passedBuffer s t p true f ∧
      t.chan c = { s.chan c with iq := (s.chan c).iq ++ [q] } ∧ keepsChans s t c ∧ q.len = fr.length ∧
      q.port = chClient s c ∧ q.pri = (vlanOf fr).2 ∧ q.half = halfOf (anchor (chClient s c)) ∧ bufFetch t q = (fr, false, t) ∧
      ctx t (inHigh k) c = max (ctx s (inHigh k) c) pn ∧ pends t c cInOk = pends s c cInOk + 1 ∧
      keepsMem s t (fieldRange s c (inHigh k) :: frameRanges q) ∧ t.engs = engs ∧ t.ports = ports ∧
      t = { s with regs := t.regs, cnts := t.cnts, slices := t.slices, chans := t.chans, cntPend := t.cntPend, rams := t.rams,
                   valid := t.valid, memCtl := t.memCtl, engs := t.engs, ports := t.ports } := by
  have hv : SameIngress s (fedBy u engs ports) := h.sameIngress.trans (sameIngress_fed u engs ports)
  rw [inUpdate_current (hk.trans (hv.ctx ..).symm)]
  obtain ⟨ho, hhigh, hp⟩ := markHigh_quiet (c := c) (k := k) (hv.quiet hctx) hpn
  revert ho hhigh hp
  generalize markHigh (fedBy u engs ports) c k pn = w
  intro ho hhigh hp
  have hw := hv.marked h.memCtl h.cntPend ho hp
  have hcl := hw.chClient (apart_inHigh (by decide) k) (apart_inHigh (by decide) k)
  obtain ⟨q, hd⟩ := deliver_delivered (fr := fr) (congrArg (halfOf ∘ anchor) hcl.symm) (hw.quiet hq)
    (by rw [hw.chan]; exact hw.room hroom) (by rw [hw.iqBytes, hw.ctx (apart_inHigh (by decide) k)]; exact hlim) hlen
  have hregs : (deliver w c fr true).regs = u.regs := hd.regs.trans ho.frame.regs
  have hcnts : (deliver w c fr true).cnts = u.cnts := ((congrArg State.cnts hd.frame).trans rfl).trans ho.frame.cnts
  have hentry := hd.entry
  refine ⟨q, h.took (r := []) (fun r i _ => congrArg (SMap.get regResetAt · _) hregs) hcnts (by simp), ?_, ?_, ?_, ?_, ?_, ?_,
    ?_, ?_, ?_, ?_, ?_, ?_, ?_, ?_⟩
  · exact passedBuffer_congr h.passed rfl ((congrArg State.slices hd.frame).trans ((congrArg State.slices ho.frame).trans rfl))
  · rw [hd.chan, if_pos rfl, hw.chan]
  · exact fun d hne => by rw [hd.chan, if_neg hne, hw.chan]
  · rw [hentry]
  · rw [hentry]; exact hcl
  · rw [hentry]
  · exact congrArg QFrame.half hentry
  · rw [bufFetch_clean (hd.quiet (hw.quiet hq)).1, hd.bytes]
  · rw [hd.ctx, hhigh, hv.ctx]
  · rw [hd.pends, pends_of_held hw.held]
  · exact (hw.keeps.mono (by simp)).trans (hd.keeps.mono (by simp))
  · exact (congrArg State.engs hd.frame).trans ((congrArg State.engs ho.frame).trans rfl)
  · exact (congrArg State.ports hd.frame).trans ((congrArg State.ports ho.frame).trans rfl)
  · rw [hd.frame, show w = _ from ho.frame, h.frame]
    rfl

end

/-- Settles O25. The frame is counted and, where a channel's SecTAG names it, passes the slice buffer; none of this touches
what the checks read. A frame that opens marks its slot and is then stored behind the queue, which neither disturbs. -/
theorem macsecFramesPassTheirChecks : Obligations.MacsecFramesPassTheirChecks := by
  unfold Obligations.MacsecFramesPassTheirChecks
  intro s p f c k fr fec ins hcmd hline hhears hfr hsl hfcs h64 hmax hety hpm hn hlost
  have h : MacsecFrame s p f ins fec := ⟨hcmd, hline, hhears, hfr, hsl, hfcs, h64, hmax, hety, hpm, hn, hlost⟩
  intro t0 lowest pn found slot opened unit fed fresh half took through drops
  refine ⟨fun hno => ?_, fun hf hs => ?_, fun hf hs hnf => ?_, fun hf hs hfresh ho => ?_,
    fun hf hs hfresh ho hk hpn hctx hq hroom hlim => ?_⟩
  · obtain ⟨t, hx, h1, h2, h3, h4, h5, h6⟩ := h.unmatched (takingChannel_none hno)
    exact ⟨t, ⟨hx, h1, h2, h3, h4⟩, h5, h6⟩
  all_goals obtain ⟨u, hx, hu, hl⟩ := h.found hf.1 hf.2
  · rw [macsecChecks_noSlot (hu.sameIngress.noErrors hn) ((hu.sameIngress.inSlotFor hn ..).trans hs)] at hx
    obtain ⟨⟨h1, h2, h3, h4⟩, h5, h6, h7⟩ := hu.drops (c := c) cInDropNokey
    exact ⟨_, ⟨hx, h1, h2, h3, h4⟩, h5, h6, h7⟩
  · rw [macsecChecks_replay (hu.sameIngress.noErrors hn) ((hu.sameIngress.inSlotFor hn ..).trans hs)
      (mt (hu.sameIngress.macsecFresh hn ..).1 hnf)] at hx
    obtain ⟨⟨h1, h2, h3, h4⟩, h5, h6, h7⟩ := hu.drops (c := c) cInDropReplay
    exact ⟨_, ⟨hx, h1, h2, h3, h4⟩, h5, h6, h7⟩
  · have hcheck := hu.fresh hn hl hs hfresh
    rw [hcheck, show macsecOpened s c k f = none from ho] at hx
    obtain ⟨⟨h1, h2, h3, h4⟩, h5, h6, h7, h8, h9, h10⟩ := hu.unopened (c := c) _ _
    exact ⟨_, ⟨hx, h1, h2, h3, h4⟩, h5, h6, h7, ⟨h8, h9⟩, h10⟩
  · have hcheck := hu.fresh hn hl hs hfresh
    have ho' : macsecOpened s c k f = some fr := ho
    have hlen := macsecOpened_length h64 ho'
    rw [hcheck, ho'] at hx
    obtain ⟨q, ⟨h1, h2, h3, h4⟩, h5, h6, h7, h8, h9, h10, h11, h12, h13, h14, h15, h16, h17, h18⟩ :=
      hu.opened hk hpn hctx hq hroom hlim (by rw [pageBytes_eq]; omega)
    exact ⟨_, q, ⟨hx, h1, h2, h3, h4⟩, h5, h6, h7, h8, h9, h10, h11, h12, h13, h14, h15, ⟨h16, h17⟩, h18⟩

end Sys2Proof.Machine
end

section
/-! Several frames delivered one after another: the pages that each takes, and that no later one is written over it
(R38, R106, R157, R397). -/

namespace Sys2Proof.Machine

/-! ### The pages in use (R38) -/

section
variable {α : Type} {d : Nat → α} {m : SMap α} {k : Nat}

/-- What a table gives for a key is listed there, or is what an unlisted key reads as. -/
theorem SMap.get_listed (d : Nat → α) (m : SMap α) (k : Nat) : SMap.get d m k = d k ∨ (k, SMap.get d m k) ∈ m := by
  induction m with
  | nil => exact .inl rfl
  | cons e m ih =>
    obtain ⟨k', v⟩ := e
    by_cases hk : k' = k
    · subst hk
      simp [SMap.get]
    · simp only [SMap.get, if_neg hk, List.mem_cons, Prod.mk.injEq]
      tauto

section
variable (w : α → Nat)

/-- A weight summed over a table. -/
def SMap.weight (m : SMap α) : Nat := (m.map fun e => w e.2).sum

theorem SMap.weight_insert (v : α) : SMap.weight w (SMap.insert k v m) = w v + SMap.weight w m := by
  induction m with
  | nil => rfl
  | cons e m ih =>
    obtain ⟨k', v'⟩ := e
    unfold SMap.insert
    split
    · rfl
    · simp only [SMap.weight, List.map_cons, List.sum_cons] at ih ⊢
      omega

theorem SMap.weight_erase_le (m : SMap α) (k : Nat) : SMap.weight w (SMap.erase m k) ≤ SMap.weight w m := by
  induction m with
  | nil => exact Nat.le_refl _
  | cons e m ih =>
    simp only [SMap.weight, SMap.erase, List.filter_cons] at ih ⊢
    split <;> simp only [List.map_cons, List.sum_cons] <;> omega

/-- An entry's weight goes with it. -/
theorem SMap.weight_erase (hd : w (d k) = 0) : SMap.weight w (SMap.erase m k) + w (SMap.get d m k) ≤ SMap.weight w m := by
  induction m with
  | nil => simp [SMap.weight, SMap.erase, SMap.get, hd]
  | cons e m ih =>
    obtain ⟨k', v⟩ := e
    have hle := SMap.weight_erase_le w m k
    by_cases hk : k' = k
    · simp only [SMap.weight, SMap.erase, SMap.get, List.filter_cons, hk, bne_self_eq_false, Bool.false_eq_true, if_false, if_true,
        List.map_cons, List.sum_cons] at hle ⊢
      omega
    · simp only [SMap.weight, SMap.erase, SMap.get, List.filter_cons, bne_iff_ne.2 hk, if_neg hk, if_true,
        List.map_cons, List.sum_cons] at ih ⊢
      omega

/-- A changed entry changes a table's weight by no more than its own. -/
theorem SMap.weight_set [DecidableEq α] (hd : w (d k) = 0) (v : α) {n : Nat} (hv : w v ≤ w (SMap.get d m k) + n) :
    SMap.weight w (SMap.set d m k v) ≤ SMap.weight w m + n := by
  have he := SMap.weight_erase w (d := d) (m := m) hd
  unfold SMap.set
  split
  · omega
  · rw [SMap.weight_insert]
    omega

end

end

/-- Runs of a channel's frames in a half. -/
def runsIn (half : Nat) (x : Chan) : List (Nat × Nat) := ((heldFrames x).filter fun f => f.half == half).flatMap (·.runs)

theorem length_usedPages (s : State) (half : Nat) :
    (usedPages s half).length = SMap.weight (fun x => (runsIn half x).length) s.chans := by
  unfold usedPages SMap.weight
  rw [List.length_flatMap]
  simp only [List.length_map]
  induction s.chans with
  | nil => rfl
  | cons e m ih =>
    simp only [List.map_cons, List.flatten_cons, List.filter_append, List.map_append, List.sum_append, List.sum_cons, ih]
    rw [runsIn, List.length_flatMap]

theorem runsIn_joined (half : Nat) (x : Chan) (q : QFrame) :
    (runsIn half { x with iq := x.iq ++ [q] }).length ≤ (runsIn half x).length + q.runs.length := by
  unfold runsIn heldFrames
  simp only [List.filter_append, List.flatMap_append, List.length_append]
  have hq : (([q].filter fun f => f.half == half).flatMap (·.runs)).length ≤ q.runs.length := by
    rw [List.filter_singleton]
    cases q.half == half <;> simp
  omega

/-- A run of a frame that stands in a channel's delivery queue takes a page of its half. -/
theorem mem_takenPages {s : State} {c half : Nat} {f : QFrame} (hf : f ∈ (s.chan c).iq) (hh : f.half = half) {r : Nat × Nat}
    (hr : r ∈ f.runs) : r.1 / pageBytes ∈ takenPages s half := by
  have hmem : (c, s.chan c) ∈ s.chans := by
    refine (SMap.get_listed (fun _ => Chan.reset) s.chans c).resolve_left fun h => ?_
    have h : s.chan c = Chan.reset := h
    rw [h] at hf
    exact absurd hf List.not_mem_nil
  refine List.mem_append_left _ (List.mem_append_left _ (List.mem_flatMap.2 ⟨f, List.mem_filter.2 ⟨?_, by simp [hh]⟩, ?_⟩))
  · refine List.mem_flatten.2 ⟨_, List.mem_map.2 ⟨_, hmem, rfl⟩, ?_⟩
    simp [heldFrames, hf]
  · exact List.mem_map.2 ⟨r, hr, rfl⟩

/-! ### The end of a queue -/

theorem halfEnd_append {half : Nat} {q : List QFrame} {f : QFrame} (hf : f.half = half) {r : Nat × Nat}
    (hr : f.runs.getLast? = some r) : halfEnd half (q ++ [f]) = ceilDiv (r.1 + r.2) 8 * 8 := by
  have h1 : [f].filter (fun f => f.half == half) = [f] := by simp [hf]
  unfold halfEnd queueEnd
  rw [List.filter_append, h1]
  simp [hr]

theorem bufRuns_ne_nil {taken : List Nat} {fuel cur len : Nat} (h : len ≠ 0) : bufRuns taken (fuel + 1) cur len ≠ [] := by
  rw [bufRuns_succ _ _ _ h]
  exact List.cons_ne_nil _ _

theorem length_bufRuns (taken : List Nat) (fuel cur len : Nat) : (bufRuns taken fuel cur len).length ≤ fuel := by
  induction fuel generalizing taken cur len with
  | zero => exact Nat.le_refl _
  | succ fuel ih =>
    unfold bufRuns
    split
    · exact Nat.zero_le _
    · exact Nat.succ_le_succ (ih ..)

/-- A place stands before a cursor: its page is taken, and on the cursor's page it ends there at most. -/
structure Before (taken : List Nat) (cur : Nat) (r : Nat × Nat) : Prop where
  aligned : r.1 % 8 = 0
  inPage : r.1 % pageBytes + ceilDiv r.2 8 * 8 ≤ pageBytes
  taken : r.1 / pageBytes ∈ taken
  ends : cur % pageBytes ≠ 0 → r.1 / pageBytes = cur / pageBytes → r.1 + ceilDiv r.2 8 * 8 ≤ cur

/-- What stands before the cursor lies in other pages than a new frame's runs, or before them. -/
theorem Before.bufRuns {r : Nat × Nat} (fuel : Nat) {taken : List Nat} {cur len : Nat} (h : Before taken cur r)
    (hc : cur % 8 = 0) : ∀ r' ∈ bufRuns taken fuel cur len, r.1 / pageBytes ≠ r'.1 / pageBytes ∨ r.1 + ceilDiv r.2 8 * 8 ≤ r'.1 := by
  induction fuel generalizing taken cur len with
  | zero => exact fun r' hr => absurd hr List.not_mem_nil
  | succ fuel ih =>
    by_cases hl : len = 0
    · rw [hl, bufRuns_zero]; exact fun r' hr => absurd hr List.not_mem_nil
    · rw [bufRuns_succ _ _ _ hl]
      intro r' hr
      rcases List.mem_cons.1 hr with rfl | hr
      · unfold runStart
        split
        · refine .inl fun he => freePage_free taken ?_
          rw [Nat.mul_div_cancel_left _ (by decide)] at he
          exact he ▸ h.taken
        · by_cases hp : r.1 / pageBytes = cur / pageBytes
          · exact .inr (h.ends ‹_› hp)
          · exact .inl hp
      · rcases bufRuns_rest (len := len) (runStart_aligned taken hc) (runStart taken cur / pageBytes :: taken) fuel with h0 | h0
        · exact ih ⟨h.aligned, h.inPage, List.mem_cons_of_mem _ h.taken, fun hne => absurd h0 hne⟩ (ceil8 _).2.2 r' hr
        · rw [h0] at hr; exact absurd hr List.not_mem_nil

/-! ### After a delivery -/

/-- A run of a frame that waits in the delivery queue stands before the place of the next frame. -/
structure Behind (s : State) (c half : Nat) (r : Nat × Nat) : Prop where
  before : Before (takenPages s half) (halfEnd half (s.chan c).iq) r
  queued : ∃ f ∈ (s.chan c).iq, f.half = half ∧ r ∈ f.runs

section
variable {s t : State} {c half : Nat} {fr : List Byte} {q : QFrame} (h : Delivered s t c half fr q)
include h

theorem Delivered.half_eq : q.half = half := by rw [h.entry]

theorem Delivered.runs : q.runs = frameRuns s half (s.chan c).iq fr.length := by rw [h.entry]

theorem Delivered.queue : (t.chan c).iq = (s.chan c).iq ++ [q] := by rw [h.chan, if_pos rfl]

theorem Delivered.inPage {r : Nat × Nat} (hr : r ∈ q.runs) :
    r.1 % 8 = 0 ∧ r.1 % pageBytes + ceilDiv r.2 8 * 8 ≤ pageBytes :=
  bufRuns_inPage _ (queueEnd_aligned _) r (by rw [← frameRuns, ← h.runs]; exact hr)

/-- What waited lies apart from the new frame, before it on its page. -/
theorem Delivered.after {r r' : Nat × Nat} (hb : Behind s c half r) (hr : r' ∈ q.runs) :
    r.1 / pageBytes ≠ r'.1 / pageBytes ∨ r.1 + ceilDiv r.2 8 * 8 ≤ r'.1 :=
  hb.before.bufRuns _ (queueEnd_aligned _) r' (by rw [← frameRuns, ← h.runs]; exact hr)

theorem Delivered.apart {r r' : Nat × Nat} (hb : Behind s c half r) (hr : r' ∈ q.runs) : runsApart r r' :=
  (h.after hb hr).elim (runsApart_of_pages hb.before.inPage (h.inPage hr).2) .inl

/-- The queue ends with the last run of the new frame. -/
theorem Delivered.ends (hne : fr ≠ []) : ∃ r ∈ q.runs, halfEnd half (t.chan c).iq = r.1 + ceilDiv r.2 8 * 8 := by
  have hruns : q.runs ≠ [] := by
    rw [h.runs]
    exact bufRuns_ne_nil (mt List.length_eq_zero_iff.1 hne)
  refine ⟨q.runs.getLast hruns, List.getLast_mem hruns, ?_⟩
  have hal := (h.inPage (List.getLast_mem hruns)).1
  rw [h.queue, halfEnd_append h.half_eq (List.getLast?_eq_some_getLast hruns)]
  unfold ceilDiv
  omega

theorem Delivered.stays (hne : fr ≠ []) {r : Nat × Nat} (hb : Behind s c half r) : Behind t c half r := by
  obtain ⟨f, hf, hh, hr⟩ := hb.queued
  have hf' : f ∈ (t.chan c).iq := by rw [h.queue]; exact List.mem_append_left _ hf
  refine ⟨⟨hb.before.aligned, hb.before.inPage, mem_takenPages hf' hh hr, fun hc hp => ?_⟩, f, hf', hh, hr⟩
  obtain ⟨l, hl, he⟩ := h.ends hne
  have hafter := h.after hb hl
  have hin := (h.inPage hl).2
  rw [he] at hc hp ⊢
  rw [pageBytes_eq] at *
  omega

theorem Delivered.joined (hne : fr ≠ []) {r : Nat × Nat} (hr : r ∈ q.runs) : Behind t c half r := by
  have hq : q ∈ (t.chan c).iq := by rw [h.queue]; simp
  refine ⟨⟨(h.inPage hr).1, (h.inPage hr).2, mem_takenPages hq h.half_eq hr, fun hc hp => ?_⟩, q, hq, h.half_eq, hr⟩
  obtain ⟨l, hl, he⟩ := h.ends hne
  have hin := (h.inPage hl).2
  by_cases hrl : r = l
  · rw [he, hrl]
  · have hpages : q.runs.Pairwise fun r r' => r.1 / pageBytes ≠ r'.1 / pageBytes := by
      rw [h.runs]
      exact bufRuns_pages _ (queueEnd_aligned _)
    have hsymm : Std.Symm fun r r' : Nat × Nat => r.1 / pageBytes ≠ r'.1 / pageBytes := ⟨fun _ _ => Ne.symm⟩
    have hd := hpages.forall hr hl hrl
    rw [he] at hc hp ⊢
    rw [pageBytes_eq] at *
    omega

/-- A frame of at most three pages takes four more at most, so that room for the others is left. -/
theorem Delivered.room {n : Nat} (hne : fr ≠ []) (hlen : fr.length < 3 * pageBytes) (hr : hasRoom s half (s.chan c).iq (n + 1)) :
    hasRoom t half (t.chan c).iq n := by
  obtain ⟨hcur, hroom⟩ := hr
  have hfuel : fr.length / pageBytes + 2 ≤ 4 := by rw [pageBytes_eq] at *; omega
  have hhalf : halfPages t = halfPages s := by rw [h.frame]; rfl
  have hused : (usedPages t half).length ≤ (usedPages s half).length + 4 := by
    rw [length_usedPages, length_usedPages, h.chans]
    refine SMap.weight_set (fun x => (runsIn half x).length) rfl _ ?_
    have h1 := runsIn_joined half (s.chan c) q
    have h2 := length_bufRuns (takenPages s half) (fr.length / pageBytes + 2) (halfEnd half (s.chan c).iq) fr.length
    rw [h.runs, frameRuns] at h1
    exact h1.trans (by show _ ≤ (runsIn half (s.chan c)).length + 4; omega)
  refine ⟨?_, ?_⟩
  · obtain ⟨l, hl, he⟩ := h.ends hne
    have hin := (h.inPage hl).2
    have hlt : l.1 / pageBytes < halfPages s := by
      rw [h.runs] at hl
      exact bufRuns_inHalf _ (queueEnd_aligned _) hcur (by omega) l hl
    rw [hhalf]
    show halfEnd half (t.chan c).iq % pageBytes = 0 ∨ halfEnd half (t.chan c).iq / pageBytes < halfPages s
    rw [he]
    rw [pageBytes_eq] at *
    omega
  · simp only [takenPages, List.length_append, h.pages.retired, h.pages.retiring, hhalf] at hroom ⊢
    omega

theorem Delivered.iqBytes : iqBytes t c = iqBytes s c + fr.length := by
  unfold Sys2Proof.Machine.iqBytes
  rw [h.queue, List.foldl_append, h.entry]
  rfl

end

/-! ### Several deliveries (R106) -/

/-- Frames were delivered in order behind what waited. -/
structure DeliveredAll (s t : State) (c half : Nat) (frs : List (List Byte)) (qs : List QFrame) : Prop where
  halves : ∀ q ∈ qs, q.half = half
  lens : qs.map (·.len) = frs.map (·.length)
  chan : t.chan c = { s.chan c with iq := (s.chan c).iq ++ qs }
  others : keepsChans s t c
  keeps : keepsMem s t (qs.flatMap frameRanges)
  bytes : qs.map (frameBytes t) = frs
  count : pends t c cInOk = pends s c cInOk + frs.length
  frame : t = { s with chans := t.chans, cntPend := t.cntPend, rams := t.rams, valid := t.valid, memCtl := t.memCtl }
  apart : ∀ r, Behind s c half r → ∀ q ∈ qs, ∀ r' ∈ q.runs, runsApart r r'

/-- Bytes of a frame apart from what was written. -/
theorem frameBytes_apart {s t : State} {qs : List QFrame} {q : QFrame} (hk : keepsMem s t (qs.flatMap frameRanges))
    (ha : ∀ r ∈ q.runs, ∀ q' ∈ qs, ∀ r' ∈ q'.runs, runsApart r r') : frameBytes t q = frameBytes s q := by
  unfold frameBytes
  refine List.flatMap_congr fun r hr => ramBytes_congr fun i hi => hk _ _ fun x hx hin => ?_
  obtain ⟨q', hq', hx⟩ := List.mem_flatMap.1 hx
  obtain ⟨r', hr', rfl⟩ := List.mem_map.1 hx
  have hin : r'.1 ≤ r.1 + i ∧ r.1 + i < r'.1 + ceilDiv r'.2 8 * 8 := hin.2
  have := ha r hr q' hq' r' hr'
  have := (ceil8 r.2).1
  unfold runsApart at *
  omega

/-- Frames that a half has room for are delivered one after another, and each stands as it was received. -/
theorem deliver_all {c half : Nat} (frs : List (List Byte)) {s : State} (hh : half = halfOf (anchor (chClient s c)))
    (hq : memQuiet s (71 + half)) (hr : hasRoom s half (s.chan c).iq frs.length)
    (hl : iqBytes s c + frs.flatten.length ≤ 1024 * ctx s Ctx.IQ_LIMIT c)
    (hf : ∀ fr ∈ frs, fr ≠ [] ∧ fr.length < 3 * pageBytes) :
    ∃ qs, DeliveredAll s (frs.foldl (fun s fr => deliver s c fr true) s) c half frs qs := by
  induction frs generalizing s with
  | nil => exact ⟨[], by simp, rfl, by simp, fun _ _ => rfl, keepsMem_refl _ _, rfl, rfl, rfl, by simp⟩
  | cons fr frs ih =>
    obtain ⟨⟨hne, hlen⟩, hrest⟩ := List.forall_mem_cons.1 hf
    rw [List.flatten_cons, List.length_append] at hl
    obtain ⟨q, h⟩ := deliver_delivered (fr := fr) hh hq ⟨hr.1, by have := hr.2; rw [List.length_cons] at this; omega⟩
      (by omega) hlen
    rw [List.foldl_cons]
    revert h
    generalize deliver s c fr true = t
    intro h
    obtain ⟨qs, hs⟩ := ih (s := t) (by rw [h.chClient]; exact hh) (h.quiet hq) (h.room hne hlen hr)
      (by rw [h.iqBytes, h.ctx]; omega) hrest
    refine ⟨q :: qs, List.forall_mem_cons.2 ⟨h.half_eq, hs.halves⟩, ?_, ?_, ?_, ?_, ?_, ?_, ?_, ?_⟩
    · rw [List.map_cons, List.map_cons, hs.lens, h.entry]
    · rw [hs.chan, h.chan, if_pos rfl]
      simp
    · exact fun d hd => (hs.others d hd).trans (by rw [h.chan, if_neg hd])
    · rw [List.flatMap_cons]
      exact (h.keeps.mono (List.subset_append_left ..)).trans (hs.keeps.mono (List.subset_append_right ..))
    · rw [List.map_cons, hs.bytes, frameBytes_apart hs.keeps fun r hr => hs.apart r (h.joined hne hr), h.bytes]
    · rw [hs.count, h.pends, List.length_cons]
      omega
    · rw [hs.frame, h.frame]
    · intro r hb
      exact List.forall_mem_cons.2 ⟨fun r' hr' => h.apart hb hr', hs.apart r (h.stays hne hb)⟩

end Sys2Proof.Machine
end

section
/-! Bales received: the ordered checks, the replay window, delivery in order (O26). -/

namespace Sys2Proof.Machine

/-! ### The checks of a channel's bale (R104–R106, R153) -/

/-- The unit that an ingress engine gets of a bale. -/
abbrev baleUnit (f : List Byte) (k : Nat) : List (BusVal × List Byte) :=
  [(inDescOf (baleHdr f).seq (sliceAt f 14 (f.length - 18)).length 0 k (baleHdr f).chan, sliceAt f 14 (f.length - 18))]

/-- A bale as the slot opens it. -/
abbrev baleOpened (s : State) (k : Nat) (f : List Byte) : Option (List Byte) :=
  baleOpen s (baleHdr f).chan (inMat s (baleHdr f).chan k) f (baleHdr f)

/-- The sequence number passes the replay pre-check. -/
abbrev baleFresh (s : State) (k : Nat) (f : List Byte) : Prop :=
  (baleHdr f).seq ≠ 0 ∧ baleReplayOk s (baleHdr f).chan k (baleHdr f).seq = true

/-- The slot that a bale's epoch names. -/
abbrev baleSlot (s : State) (f : List Byte) : Option Nat :=
  inSlotFor s (baleHdr f).chan (if (baleHdr f).v1 then 16 else 32) (baleHdr f).epoch

/-- What becomes of a bale once it has been through the cipher. -/
def baleSettled (s : State) (k : Nat) (h : BaleHdr) : Option (List Byte) → State
  | none => (chCount s h.chan cInDropAuth 1).raise CH_EVT.AUTH_FAIL h.chan
  | some payload =>
    let s := inUpdate s h.chan k h.seq true
    if h.tfc != ctxBit s Ctx.TFC_EN h.chan then chCount s h.chan cInDropFmt 1 else baleDeliver s h.chan payload true

section
variable {s t : State} (h : SameIngress s t)
include h

theorem SameIngress.baleOpened (k : Nat) (f : List Byte) : baleOpened t k f = baleOpened s k f := by
  unfold Sys2Proof.Machine.baleOpened baleOpen
  rw [h.inMat, h.aeadOpen]

theorem SameIngress.baleFresh (hn : Machine.noErrors s) (k : Nat) (f : List Byte) : baleFresh t k f ↔ baleFresh s k f := by
  unfold Sys2Proof.Machine.baleFresh baleReplayOk replayBad baleSeen inCur
  simp only [ctxPoisoned_clean hn, ctxPoisoned_clean (h.noErrors hn), h.ctx]

end

section
variable {s : State} {k : Nat} {f : List Byte}

theorem baleChecks_noSlot (hn : noErrors s) (hs : baleSlot s f = none) :
    baleChecks s (baleHdr f).chan f (baleHdr f) = chCount s (baleHdr f).chan cInDropNokey 1 := by
  unfold baleChecks inLook
  rw [ctxLook_clean hn]
  simp only [hs]

theorem baleChecks_slot (hn : noErrors s) (hs : baleSlot s f = some k) : baleChecks s (baleHdr f).chan f (baleHdr f) =
    if (baleHdr f).seq = 0 ∨ (!baleReplayOk s (baleHdr f).chan k (baleHdr f).seq) = true then
      chCount s (baleHdr f).chan cInDropReplay 1
    else
      let v := giveIngress s (chLine s (baleHdr f).chan) (baleUnit f k)
      baleSettled v k (baleHdr f) (baleOpened v k f) := by
  unfold baleChecks inLook mapLook
  rw [ctxLook_clean hn]
  simp only [hs, ctxLook_clean hn, ite_self]
  rfl

theorem baleChecks_replay (hn : noErrors s) (hs : baleSlot s f = some k) (h : ¬ baleFresh s k f) :
    baleChecks s (baleHdr f).chan f (baleHdr f) = chCount s (baleHdr f).chan cInDropReplay 1 := by
  rw [baleChecks_slot hn hs, if_pos]
  rw [Bool.not_eq_true', ← Bool.not_eq_true]
  tauto

theorem baleChecks_fresh (hn : noErrors s) (hs : baleSlot s f = some k) (h : baleFresh s k f) :
    baleChecks s (baleHdr f).chan f (baleHdr f) =
      let v := giveIngress s (chLine s (baleHdr f).chan) (baleUnit f k)
      baleSettled v k (baleHdr f) (baleOpened v k f) := by
  rw [baleChecks_slot hn hs, if_neg]
  rw [Bool.not_eq_true', ← Bool.not_eq_true]
  tauto

end

/-! ### The window of the current slot (R153) -/

section
variable {s : State} {c k seq : Nat}

/-- The map takes a number, and the slot's high mark rises to one above it. -/
def markBale (s : State) (c k seq : Nat) : State :=
  markHigh (ctxD s Ctx.REPLAY_MAP c (mapAfter (ctx s Ctx.REPLAY_MAP c) (ctx s (inHigh k) c) seq)) c k seq

theorem apart_replayMap (k : Nat) : [Ctx.REPLAY_MAP].all (apart (inHigh k)) = true := by unfold inHigh; split <;> decide

/-- Fields of no byte of the window are as before. -/
theorem apart_window {x : CtxF} (h : [Ctx.IN0_HIGH, Ctx.IN1_HIGH, Ctx.IN2_HIGH, Ctx.REPLAY_MAP].all (apart x) = true) :
    [inHigh k, Ctx.REPLAY_MAP].all (apart x) = true := by
  have hk := apart_inHigh (x := x) (by simp_all) k
  simp_all

theorem inUpdate_bale (h : memQuiet s ctxCtl) (hk : k = inCur s c) : inUpdate s c k seq true = markBale s c k seq := by
  have hmap := (ctxSet_quiet h (x := Ctx.REPLAY_MAP) (by decide) c
    (mapAfter (ctx s Ctx.REPLAY_MAP c) (ctx s (inHigh k) c) seq) codeData).2.ctx (apart_replayMap k)
  have hcur : (k == inCur s c) = true := beq_iff_eq.2 hk
  unfold inUpdate markBale markHigh
  simp only [if_neg (hk ▸ inCur_ne_inNext : k ≠ inNext s c), hcur, Bool.true_and, if_true]
  rw [show ctx (ctxD s Ctx.REPLAY_MAP c _) (inHigh k) c = ctx s (inHigh k) c from hmap]

theorem markBale_quiet (h : memQuiet s ctxCtl) (hs : seq < 2 ^ 64) :
    ctxOnly s (markBale s c k seq) c [inHigh k, Ctx.REPLAY_MAP] ∧
      ctx (markBale s c k seq) (inHigh k) c = max (ctx s (inHigh k) c) seq ∧
      ctx (markBale s c k seq) Ctx.REPLAY_MAP c = mapAfter (ctx s Ctx.REPLAY_MAP c) (ctx s (inHigh k) c) seq % 2 ^ 1024 ∧
      SamePages s (markBale s c k seq) := by
  unfold markBale
  generalize mapAfter (ctx s Ctx.REPLAY_MAP c) (ctx s (inHigh k) c) seq = n
  obtain ⟨hm, ho⟩ := ctxSet_quiet h (x := Ctx.REPLAY_MAP) (by decide) c n codeData
  have hp := samePages_ctxD h Ctx.REPLAY_MAP c n
  obtain ⟨ho', hh, hp'⟩ := markHigh_quiet (k := k) (c := c) (ho.frame.quiet h) hs
  refine ⟨(ho.mono (by simp)).trans (ho'.mono (by simp)), ?_, ?_, hp.trans hp'⟩
  · exact hh.trans (by rw [ho.ctx (apart_replayMap k)])
  · exact (ho'.ctx (apart_inHigh (by decide) k)).trans hm

end

/-! ### Lengths of records and numbers -/

theorem beNat_lt (l : List Byte) : beNat l < 2 ^ (8 * l.length) := by
  have h := leNat_lt l.reverse
  rwa [← beNat_reverse, List.reverse_reverse, List.length_reverse] at h

theorem beAt_lt (l : List Byte) (off n : Nat) : beAt l off n < 2 ^ (8 * n) := by
  have h := beNat_lt (sliceAt l off n)
  rwa [length_sliceAt] at h

theorem baleSeq_lt (f : List Byte) : (baleHdr f).seq < 2 ^ 64 := by
  unfold baleHdr
  split
  · exact (beAt_lt f 20 6).trans (by decide)
  · exact beAt_lt f 22 8

/-- Records hold client frames without FCS. -/
theorem baleRecords_length (fuel : Nat) (l : List Byte) : ∀ fr ∈ (baleRecords fuel l).1, 60 ≤ fr.length ∧ fr.length ≤ 9596 := by
  induction fuel generalizing l with
  | zero => exact fun _ h => absurd h List.not_mem_nil
  | succ fuel ih =>
    unfold baleRecords
    split
    · exact fun _ h => absurd h List.not_mem_nil
    · dsimp only
      split
      · exact fun _ h => absurd h List.not_mem_nil
      · split
        · next h =>
          refine List.forall_mem_cons.2 ⟨?_, ih _⟩
          rw [List.length_take, List.length_drop]
          omega
        · exact fun _ h => absurd h List.not_mem_nil

/-! ### The command -/

/-- A bale of the right size on a port that hears, of a channel that runs there. -/
structure BaleFrame (s : State) (p : Fin 64) (f : List Byte) : Prop where
  line : isLine p = true
  hears : hears s p = true
  framing : framing s p = frBale
  slices : ingressSlices s p ≠ []
  fcs : fcsGood f = true
  atLeast : 74 ≤ f.length
  atMost : f.length ≤ 16450
  etype : beAt f 12 2 = pmBaleEtype s
  clean : noErrors s
  entries : s.lost = []
  header : baleHdrOk f (baleHdr f) = true
  runs : chRuns s (baleHdr f).chan = true
  port : chLine s (baleHdr f).chan = p
  version : baleV1 s (baleHdr f).chan = (baleHdr f).v1

/-- A counted bale after the slice buffer. -/
structure BaleTaken (s u : State) (p : Fin 64) (f : List Byte) : Prop extends InTaken s u p f where
  same : u.regs = s.regs
  counters : keepsCnts s u [(.PORT_RX_FRAMES, p.val)]

theorem BaleFrame.taken {s : State} {p : Fin 64} {f : List Byte} (h : BaleFrame s p f) :
    ∃ u, exec (.baleRx p f) s = .next (baleChecks u (baleHdr f).chan f (baleHdr f)) ∧ BaleTaken s u p f ∧
      chLine u (baleHdr f).chan = p := by
  have ho := onlyRegs_inc s .PORT_RX_FRAMES p
  have ht := onlyRegs.inTaken (ho.mono (by simp) (by simp)) (counted_inc ..) f
  refine ⟨stagedIn (s.inc .PORT_RX_FRAMES p) p true f, ?_, ⟨ht, rfl, ho.2.2⟩, (ht.sameIngress.ctx ..).trans h.port⟩
  have hv : SameIngress s (s.inc .PORT_RX_FRAMES p) := ⟨ho.sameQueues (by simp), rfl, rfl⟩
  have hsize : ¬ (!fcsGood f || f.length < 74 || f.length > 16450) = true := by simp [h.fcs, h.atLeast, h.atMost]
  have hform : ¬ (beAt f 12 2 ≠ pmBaleEtype (s.inc .PORT_RX_FRAMES p) ∨ (!baleHdrOk f (baleHdr f)) = true) := by
    simp [h.header, show beAt f 12 2 = pmBaleEtype (s.inc .PORT_RX_FRAMES p) from h.etype]
  have hchan : (chRuns (s.inc .PORT_RX_FRAMES p) (baleHdr f).chan && chLine (s.inc .PORT_RX_FRAMES p) (baleHdr f).chan == p &&
      baleV1 (s.inc .PORT_RX_FRAMES p) (baleHdr f).chan == (baleHdr f).v1) = true := by
    unfold chLine baleV1 ctxBit
    simp only [hv.chRuns, hv.ctx]
    simp [h.runs, show ctx s Ctx.LINE_PORT (baleHdr f).chan = p from h.port,
      show (ctx s Ctx.BALE_V1 (baleHdr f).chan != 0) = (baleHdr f).v1 from h.version]
  have hgood : entryGood (s.inc .PORT_RX_FRAMES p) ingressEnt (baleHdr f).chan = true := by
    unfold entryGood
    rw [show (s.inc .PORT_RX_FRAMES p).lost = [] from h.entries]
    simp
  show execBaleRx p f s = _
  simp only [execBaleRx, h.line, h.hears, h.framing, bne_iff_ne.2 h.slices, Bool.and_self, beq_self_eq_true, if_true]
  unfold baleRx
  rw [if_neg hsize]
  dsimp only
  rw [if_neg hform, if_pos hchan, if_pos hgood, meetEntries_none (s := s.inc .PORT_RX_FRAMES p) h.entries,
    throughSlice_clean _ _ _ (h.atMost.trans (by decide))]

/-- What a bale that opens leaves: its number in the window of its slot, and the frames of its records in buffer memory. -/
structure BaleTakes (s t : State) (p : Fin 64) (f : List Byte) (k : Nat) (qs : List QFrame) (engs : SMap Eng)
    (ports : SMap PortSt) : Prop where
  high : ctx t (inHigh k) (baleHdr f).chan = max (ctx s (inHigh k) (baleHdr f).chan) (baleHdr f).seq
  map : ctx t Ctx.REPLAY_MAP (baleHdr f).chan = mapAfter (ctx s Ctx.REPLAY_MAP (baleHdr f).chan)
    (ctx s (inHigh k) (baleHdr f).chan) (baleHdr f).seq % 2 ^ 1024
  keeps : keepsMem s t ([inHigh k, Ctx.REPLAY_MAP].map (fieldRange s (baleHdr f).chan) ++ qs.flatMap frameRanges)
  others : keepsChans s t (baleHdr f).chan
  counters : keepsCnts s t [(.PORT_RX_FRAMES, p.val)]
  passed : passedBuffer s t p true f
  given : t.engs = engs ∧ t.ports = ports
  frame : t = { s with cnts := t.cnts, slices := t.slices, chans := t.chans, cntPend := t.cntPend, rams := t.rams,
                       valid := t.valid, memCtl := t.memCtl, engs := t.engs, ports := t.ports }

section
variable {s u : State} {p : Fin 64} {f : List Byte} {k : Nat} (h : BaleTaken s u p f)
include h

/-- A bale that is dropped before an engine sees it: its cause is counted. -/
theorem BaleTaken.drops (i : Nat) :
    let c := (baleHdr f).chan
    let t := chCount u c i 1
    pends t c i = pends s c i + 1 ∧ passedBuffer s t p true f ∧
      t = { s with cnts := t.cnts, slices := t.slices, cntPend := t.cntPend } ∧ keepsCnts s t [(.PORT_RX_FRAMES, p.val)] := by
  refine ⟨(pends_chCount_self ..).trans (congrArg (· + 1) (pends_of_held h.cntPend ..)), passedBuffer_congr h.passed rfl rfl, ?_,
    h.counters⟩
  rw [chCount, h.frame, h.same]

/-- The bale goes to an ingress engine, and is then settled by what the cipher gives. -/
theorem BaleTaken.fresh (hn : noErrors s) (hl : chLine u (baleHdr f).chan = p) (hs : baleSlot s f = some k)
    (hf : baleFresh s k f) :
    let g := giveIngress s p (baleUnit f k)
    baleChecks u (baleHdr f).chan f (baleHdr f) =
      baleSettled (fedBy u g.engs g.ports) k (baleHdr f) (baleOpened s k f) := by
  intro g
  have hi := h.sameIngress
  have hv : SameIngress s (fedBy u g.engs g.ports) := hi.trans (sameIngress_fed u g.engs g.ports)
  rw [baleChecks_fresh (hi.noErrors hn) ((hi.inSlotFor hn ..).trans hs) ((hi.baleFresh hn ..).2 hf)]
  dsimp only
  rw [hl, h.giveIngress, hv.baleOpened]

/-- A bale that does not open: counted with its event. -/
theorem BaleTaken.unopened (engs : SMap Eng) (ports : SMap PortSt) :
    let c := (baleHdr f).chan
    let t := (chCount (fedBy u engs ports) c cInDropAuth 1).raise CH_EVT.AUTH_FAIL c
    pends t c cInDropAuth = pends s c cInDropAuth + 1 ∧ t.fb CH_EVT.AUTH_FAIL c = true ∧ passedBuffer s t p true f ∧
      (t.engs = engs ∧ t.ports = ports) ∧
      t = { s with regs := t.regs, cnts := t.cnts, slices := t.slices, cntPend := t.cntPend, engs := t.engs, ports := t.ports } ∧
      keepsRegs s t [(.CH_EVT, c)] ∧ keepsCnts s t [(.PORT_RX_FRAMES, p.val)] := by
  refine ⟨(pends_chCount_self ..).trans (congrArg (· + 1) (pends_of_held h.cntPend ..)), State.fb_raise (by decide) rfl,
    passedBuffer_congr h.passed rfl rfl, ⟨rfl, rfl⟩, ?_, fun r i hm => ((setsRegs_raise _ CH_EVT.AUTH_FAIL _).2 r i hm).trans ?_,
    h.counters⟩
  · rw [h.frame]
    rfl
  · show u.reg r i = s.reg r i
    rw [State.reg, h.same, State.reg]

/-- The window takes the number of a bale that opens under the current slot, and this touches nothing that a delivery meets. -/
theorem BaleTaken.marked (hctx : memQuiet s ctxCtl) (engs : SMap Eng) (ports : SMap PortSt) :
    Marked s (markBale (fedBy u engs ports) (baleHdr f).chan k (baleHdr f).seq) (baleHdr f).chan
      [inHigh k, Ctx.REPLAY_MAP] := by
  have hv : SameIngress s (fedBy u engs ports) := h.sameIngress.trans (sameIngress_fed u engs ports)
  obtain ⟨ho, -, -, hp⟩ := markBale_quiet (c := (baleHdr f).chan) (k := k) (hv.quiet hctx) (baleSeq_lt f)
  exact hv.marked h.memCtl h.cntPend ho hp

/-- What follows the window's update adds frames to buffer memory and to the channel's queue alone. -/
theorem BaleTaken.takes (hctx : memQuiet s ctxCtl) {engs : SMap Eng} {ports : SMap PortSt} {w t : State} {qs : List QFrame}
    (hw : w = markBale (fedBy u engs ports) (baleHdr f).chan k (baleHdr f).seq)
    (hframe : t = { w with chans := t.chans, cntPend := t.cntPend, rams := t.rams, valid := t.valid, memCtl := t.memCtl })
    (hmem : keepsMem w t (qs.flatMap frameRanges)) (hchans : keepsChans w t (baleHdr f).chan) :
    BaleTakes s t p f k qs engs ports := by
  have hv : SameIngress s (fedBy u engs ports) := h.sameIngress.trans (sameIngress_fed u engs ports)
  have hm := h.marked (k := k) hctx engs ports
  obtain ⟨ho, hhigh, hmap, -⟩ := markBale_quiet (c := (baleHdr f).chan) (k := k) (hv.quiet hctx) (baleSeq_lt f)
  rw [← hw] at ho hhigh hmap hm
  have hctx' : ∀ x, ctx t x (baleHdr f).chan = ctx w x (baleHdr f).chan := fun x => by
    have hb : ∀ a, memByte t ctxCtl a = memByte w ctxCtl a := fun a => hmem ctxCtl a fun r hr => by
      obtain ⟨q, -, hr⟩ := List.mem_flatMap.1 hr
      obtain ⟨r', -, rfl⟩ := List.mem_map.1 hr
      simp only [ctxCtl]
      omega
    have hf : t.f CH_REMAP.SLOT (baleHdr f).chan = w.f CH_REMAP.SLOT (baleHdr f).chan := by rw [hframe]; rfl
    unfold ctx ctxAddr slotOf
    rw [hf, ramBytes_congr fun i _ => hb _]
  refine ⟨?_, ?_, ?_, fun d hd => (hchans d hd).trans (hm.chan d), fun d i hn => ?_, ?_, ⟨?_, ?_⟩, ?_⟩
  · rw [hctx', hhigh, hv.ctx]
  · rw [hctx', hmap, hv.ctx, hv.ctx]
  · exact (hm.keeps.mono (List.subset_append_left ..)).trans (hmem.mono (List.subset_append_right ..))
  · rw [State.cnt, show t.cnts = u.cnts from (congrArg State.cnts hframe).trans ho.frame.cnts]
    exact h.counters d i hn
  · exact passedBuffer_congr h.passed rfl ((congrArg State.slices hframe).trans ((congrArg State.slices ho.frame).trans rfl))
  · exact (congrArg State.engs hframe).trans ((congrArg State.engs ho.frame).trans rfl)
  · exact (congrArg State.ports hframe).trans ((congrArg State.ports ho.frame).trans rfl)
  · rw [hframe, show w = _ from ho.frame, h.frame, h.same]
    rfl

/-- A bale of the channel's kind that opens under the current slot is delivered behind the window's update. -/
theorem BaleTaken.settled (hk : k = inCur s (baleHdr f).chan) (hctx : memQuiet s ctxCtl)
    (htfc : (baleHdr f).tfc = ctxBit s Ctx.TFC_EN (baleHdr f).chan) (engs : SMap Eng) (ports : SMap PortSt)
    (payload : List Byte) : baleSettled (fedBy u engs ports) k (baleHdr f) (some payload) =
      baleDeliver (markBale (fedBy u engs ports) (baleHdr f).chan k (baleHdr f).seq) (baleHdr f).chan payload true := by
  have hv : SameIngress s (fedBy u engs ports) := h.sameIngress.trans (sameIngress_fed u engs ports)
  have hw := h.marked (k := k) hctx engs ports
  unfold baleSettled
  dsimp only
  rw [inUpdate_bale (hv.quiet hctx) (hk.trans (hv.ctx ..).symm), ctxBit, hw.ctx (apart_window (by decide)), ← ctxBit,
    if_neg (by simp [htfc])]

/-- The records of a bale that opens are delivered in order. -/
theorem BaleTaken.records {engs : SMap Eng} {ports : SMap PortSt} {payload : List Byte} {frs : List (List Byte)}
    (hk : k = inCur s (baleHdr f).chan) (hctx : memQuiet s ctxCtl)
    (hq : memQuiet s (71 + halfOf (anchor (chClient s (baleHdr f).chan))))
    (htfc : (baleHdr f).tfc = ctxBit s Ctx.TFC_EN (baleHdr f).chan) (hpad : beAt payload 0 2 ≠ 0xC000)
    (hrec : baleRecords payload.length payload = (frs, false))
    (hroom : hasRoom s (halfOf (anchor (chClient s (baleHdr f).chan))) (s.chan (baleHdr f).chan).iq frs.length)
    (hlim : iqBytes s (baleHdr f).chan + frs.flatten.length ≤ 1024 * ctx s Ctx.IQ_LIMIT (baleHdr f).chan) :
    let c := (baleHdr f).chan
    let t := baleSettled (fedBy u engs ports) k (baleHdr f) (some payload)
    ∃ qs, t.chan c = { s.chan c with iq := (s.chan c).iq ++ qs } ∧ bufFetchAll t qs = (frs, false, t) ∧
      qs.map (·.len) = frs.map (·.length) ∧ pends t c cInOk = pends s c cInOk + frs.length ∧
      BaleTakes s t p f k qs engs ports := by
  have hw := h.marked (k := k) hctx engs ports
  have hlens : ∀ fr ∈ frs, fr ≠ [] ∧ fr.length < 3 * pageBytes := fun fr hfr => by
    have hmem : fr ∈ (baleRecords payload.length payload).1 := by rw [hrec]; exact hfr
    obtain ⟨h1, h2⟩ := baleRecords_length _ _ fr hmem
    exact ⟨List.ne_nil_of_length_pos (by omega), by rw [pageBytes_eq]; omega⟩
  have hcl := hw.chClient (apart_window (by decide)) (apart_window (by decide))
  obtain ⟨qs, hd⟩ := deliver_all (half := halfOf (anchor (chClient s (baleHdr f).chan))) frs
    (congrArg (halfOf ∘ anchor) hcl.symm) (hw.quiet hq) (by rw [hw.chan]; exact hw.room hroom)
    (by rw [hw.iqBytes, hw.ctx (apart_window (by decide))]; exact hlim) hlens
  have herr := (hw.quiet hq).1
  have hx : baleSettled (fedBy u engs ports) k (baleHdr f) (some payload) =
      frs.foldl (fun s fr => deliver s (baleHdr f).chan fr true)
        (markBale (fedBy u engs ports) (baleHdr f).chan k (baleHdr f).seq) := by
    rw [h.settled hk hctx htfc, baleDeliver, if_neg hpad, hrec]
    rfl
  intro c t
  have ht : t = _ := hx
  rw [← ht] at hd
  clear_value t
  refine ⟨qs, ?_, ?_, hd.lens, ?_, h.takes hctx rfl hd.frame hd.keeps hd.others⟩
  · rw [hd.chan, hw.chan]
  · have hclean : noErrors t := ((congrArg State.errs hd.frame).trans rfl).trans herr
    rw [bufFetchAll_clean hclean, hd.bytes]
  · rw [hd.count, pends_of_held hw.held]

/-- A padding bale is counted. -/
theorem BaleTaken.padding {engs : SMap Eng} {ports : SMap PortSt} {payload : List Byte}
    (hk : k = inCur s (baleHdr f).chan) (hctx : memQuiet s ctxCtl)
    (htfc : (baleHdr f).tfc = ctxBit s Ctx.TFC_EN (baleHdr f).chan) (hpad : beAt payload 0 2 = 0xC000) :
    let c := (baleHdr f).chan
    let t := baleSettled (fedBy u engs ports) k (baleHdr f) (some payload)
    t.chan c = s.chan c ∧ pends t c cInPad = pends s c cInPad + 1 ∧ BaleTakes s t p f k [] engs ports := by
  have hw := h.marked (k := k) hctx engs ports
  have hx : baleSettled (fedBy u engs ports) k (baleHdr f) (some payload) =
      chCount (markBale (fedBy u engs ports) (baleHdr f).chan k (baleHdr f).seq) (baleHdr f).chan cInPad 1 := by
    rw [h.settled hk hctx htfc, baleDeliver, if_pos hpad, if_pos rfl]
  intro c t
  have ht : t = _ := hx
  clear_value t
  subst ht
  refine ⟨hw.chan c, ?_, h.takes hctx rfl rfl (fun _ _ _ => rfl) fun _ _ => rfl⟩
  rw [pends_chCount_self, pends_of_held hw.held]

end

/-- Settles O26. The bale is counted and passes the slice buffer; one that opens takes its place in the window, which touches
nothing that a delivery meets, and its records are stored one after another, none over another. -/
theorem balesPassTheirChecks : Obligations.BalesPassTheirChecks := by
  unfold Obligations.BalesPassTheirChecks
  intro s p f k payload frs hline hhears hfr hsl hfcs h74 hmax hety hn hlost h c found slot opened unit fed fresh half takes drops
  have htaken : found → ∃ u, exec (.baleRx p f) s = .next (baleChecks u (baleHdr f).chan f (baleHdr f)) ∧ BaleTaken s u p f ∧
      chLine u (baleHdr f).chan = p := fun ⟨h1, h2, h3, h4⟩ =>
    BaleFrame.taken ⟨hline, hhears, hfr, hsl, hfcs, h74, hmax, hety, hn, hlost, h1, h2, h3, h4⟩
  refine ⟨fun hf hs => ?_, fun hf hs hnf => ?_, fun hf hs hfresh ho => ?_,
    fun hf hs hfresh ho hk hctx hq htfc hpad hrec hroom hlim => ?_, fun hf hs hfresh ho hk hctx htfc hpad => ?_⟩
  all_goals obtain ⟨u, hx, hu, hl⟩ := htaken hf
  · rw [baleChecks_noSlot (hu.sameIngress.noErrors hn) ((hu.sameIngress.inSlotFor hn ..).trans hs)] at hx
    exact ⟨_, hx, hu.drops cInDropNokey⟩
  · rw [baleChecks_replay (hu.sameIngress.noErrors hn) ((hu.sameIngress.inSlotFor hn ..).trans hs)
      (mt (hu.sameIngress.baleFresh hn ..).1 hnf)] at hx
    exact ⟨_, hx, hu.drops cInDropReplay⟩
  all_goals rw [hu.fresh hn hl hs hfresh, show baleOpened s k f = _ from ho] at hx
  · exact ⟨_, hx, hu.unopened _ _⟩
  · obtain ⟨qs, h1, h2, h3, h4, ht⟩ := hu.records hk hctx hq htfc hpad hrec hroom hlim
    exact ⟨_, qs, hx, h1, h2, h3, h4, ht.high, ht.map, ht.keeps, ht.others, ht.counters, ht.passed, ht.given, ht.frame⟩
  · obtain ⟨h1, h2, ht⟩ := hu.padding hk hctx htfc hpad
    exact ⟨_, hx, h1, h2, ht.high, ht.map, ht.keeps, ht.others, ht.counters, ht.passed, ht.given, ht.frame⟩

end Sys2Proof.Machine
end

section
/-! OTN descriptors: the receiver's states and what each descriptor does to them (R110, R111, R113, R114). -/

namespace Sys2Proof.Machine

/-! ### Fields that share a byte -/

/-- Two fields lie in the same bytes, and share no bit of them. -/
def besideIn (x y : CtxF) : Bool :=
  x.off == y.off && fieldFirst x == fieldFirst y && fieldBytes x == fieldBytes y &&
    (decide (y.lo % 8 + y.len ≤ x.lo % 8) || decide (x.lo % 8 + x.len ≤ y.lo % 8))

/-- A plain write of a field leaves its neighbour in the byte. -/
theorem ctxSet_beside {s : State} (h : memQuiet s ctxCtl) {x y : CtxF} (hx : 0x200 ≤ x.off) (hb : besideIn x y = true)
    (c v code : Nat) : ctx (ctxSet s x c v code) y c = ctx s y c := by
  simp only [besideIn, Bool.and_eq_true, Bool.or_eq_true, beq_iff_eq, decide_eq_true_eq] at hb
  obtain ⟨⟨⟨hoff, hfirst⟩, hbytes⟩, hbits⟩ := hb
  have hread : ramBytes (ctxSet s x c v code) ctxCtl (ctxAddr s c x.off + fieldFirst x) (fieldBytes x) =
      leBytes (fieldBytes x) (putBits (leNat (ramBytes s ctxCtl (ctxAddr s c x.off + fieldFirst x) (fieldBytes x)))
        (x.lo % 8) x.len v) := by
    have hs := ctxWriteBytes_quiet h c (x.off + fieldFirst x)
      ((leBytes (fieldBytes x) (putBits (leNat (ramBytes s ctxCtl (ctxAddr s c (x.off + fieldFirst x)) (fieldBytes x)))
        (x.lo % 8) x.len v)).map some) code
    rw [ctxAddr_add s c _ hx] at hs
    have hr := hs.read
    rw [length_leBytes] at hr
    unfold ctxSet
    dsimp only
    rw [ctxAddr_add s c _ hx]
    exact hr
  have haddr : ctxAddr (ctxSet s x c v code) c y.off = ctxAddr s c y.off := (ctxSet_quiet h hx c v code).2.frame.ctxAddr ..
  have hold : leNat (ramBytes s ctxCtl (ctxAddr s c x.off + fieldFirst x) (fieldBytes x)) < 2 ^ (8 * fieldBytes x) := by
    have := leNat_lt (ramBytes s ctxCtl (ctxAddr s c x.off + fieldFirst x) (fieldBytes x))
    rwa [length_ramBytes] at this
  unfold ctx
  rw [haddr, ← hoff, ← hfirst, ← hbytes, hread, leNat_leBytes, Nat.mod_eq_of_lt (putBits_lt hold (le_fieldBytes x)),
    bitsOf_putBits_disjoint hbits]

/-! ### What a descriptor does to the receiver (R113, R114) -/

section
variable {s : State} {c k : Nat} {d : List Byte}

/-- The receiver enters a state and expects a group. -/
def announced (s : State) (c st : Nat) (a : Option OtnAnn) : State :=
  ctxD (s.setChan c { s.chan c with rxExp := a }) Ctx.SEAL_STATE c st

/-- Slot that a descriptor's epoch names, and the announcement that it makes under a slot. -/
abbrev slotNamed (s : State) (c : Nat) (d : List Byte) : Option Nat := inSlotFor s c 16 (beAt d 4 2)
abbrev descAnn (s : State) (c k : Nat) (d : List Byte) : OtnAnn := ⟨otnCounter s c (beAt d 0 4), ctx s (inEpoch k) c, d, false⟩

/-- A good descriptor ends HUNT. -/
theorem descriptorRx_hunt (hok : descOk d = true) (hs : slotNamed s c d = some k) (hst : ctx s Ctx.SEAL_STATE c = sealHunt) :
    descriptorRx s c d = announced s c sealPresync (some (descAnn s c k d)) := by
  unfold descriptorRx
  simp only [hok, hs, hst]
  rfl

/-- One that follows the descriptor before and is above the highest verified counter locks the receiver, and keeps it locked. -/
theorem descriptorRx_follows {a : OtnAnn} (hok : descOk d = true) (hs : slotNamed s c d = some k)
    (hst : ctx s Ctx.SEAL_STATE c = sealPresync ∨ ctx s Ctx.SEAL_STATE c = sealLocked) (ha : (s.chan c).rxExp = some a)
    (hnext : (descAnn s c k d).counter = a.counter + 1) (hhigh : inHighest s c < (descAnn s c k d).counter) :
    descriptorRx s c d = announced (ctxD s Ctx.BAD_DESC c 0) c sealLocked (some (descAnn s c k d)) := by
  have hf : (decide (otnCounter s c (beAt d 0 4) > inHighest s c) && otnCounter s c (beAt d 0 4) == a.counter + 1) = true := by
    rw [Bool.and_eq_true, decide_eq_true_eq, beq_iff_eq]
    exact ⟨hhigh, hnext⟩
  unfold descriptorRx
  rcases hst with hst | hst <;>
  · simp only [hok, hs, hst, ha, hf]
    rfl

/-- One that is not leaves PRESYNC. -/
theorem descriptorRx_stays (hok : descOk d = true) (hs : slotNamed s c d = some k)
    (hst : ctx s Ctx.SEAL_STATE c = sealPresync) (hlow : (descAnn s c k d).counter ≤ inHighest s c) :
    descriptorRx s c d = announced s c sealPresync (some (descAnn s c k d)) := by
  have hf : decide (otnCounter s c (beAt d 0 4) > inHighest s c) = false := decide_eq_false (Nat.not_lt.2 hlow)
  unfold descriptorRx
  simp only [hok, hs, hst, hf]
  rfl

/-- The third bad one in a row loses the lock. -/
theorem descriptorRx_bad (hok : descOk d = false) (hst : ctx s Ctx.SEAL_STATE c = sealLocked) (hbad : ctx s Ctx.BAD_DESC c = 2) :
    descriptorRx s c d = otnLose (chCount s c cInPad 1) c := by
  have hbad' : ctx (chCount s c cInPad 1) Ctx.BAD_DESC c = 2 := hbad
  unfold descriptorRx
  simp only [hok, hst, hbad']
  rfl

/-- What the announcement of a group leaves. -/
theorem announced_quiet (h : memQuiet s ctxCtl) (c : Nat) {st : Nat} (hst : st < 4) (a : Option OtnAnn) :
    let t := announced s c st a
    ctx t Ctx.SEAL_STATE c = st ∧ t.chan c = { s.chan c with rxExp := a } ∧ keepsChans s t c ∧
      keepsCtx s t c [Ctx.SEAL_STATE] ∧ t = { s with chans := t.chans, rams := t.rams, valid := t.valid, memCtl := t.memCtl } := by
  obtain ⟨hv, ho⟩ := ctxSet_quiet (s := s.setChan c { s.chan c with rxExp := a }) h (x := Ctx.SEAL_STATE) (by decide) c st codeData
  refine ⟨hv.trans (Nat.mod_eq_of_lt hst), ?_, fun e he => ?_, ho.keeps, ?_⟩
  · exact (chan_of_chans ho.frame.chans c).trans (State.chan_setChan_self ..)
  · exact (chan_of_chans ho.frame.chans e).trans ((State.chan_setChan ..).trans (if_neg he))
  · rw [announced, ctxD, show ctxSet (s.setChan c { s.chan c with rxExp := a }) Ctx.SEAL_STATE c st codeData = _ from ho.frame]
    rfl

/-- What the loss of seal leaves (R113). -/
theorem otnLose_quiet (h : memQuiet s ctxCtl) (hst : ctx s Ctx.SEAL_STATE c = sealLocked) :
    let t := otnLose s c
    ctx t Ctx.SEAL_STATE c = sealHunt ∧ t.chan c = { s.chan c with rxExp := none, rxPend := none } ∧ keepsChans s t c ∧
      keepsCtx s t c [Ctx.SEAL_STATE, Ctx.BAD_DESC] ∧ t.fb CH_EVT.SEAL_LOS c = true ∧ keepsRegs s t [(.CH_EVT, c)] ∧
      t = { s with regs := t.regs, chans := t.chans, rams := t.rams, valid := t.valid, memCtl := t.memCtl } := by
  obtain ⟨hv1, ho1⟩ := ctxSet_quiet h (x := Ctx.SEAL_STATE) (by decide) c sealHunt codeData
  have hq := ho1.frame.quiet h
  obtain ⟨-, ho2⟩ := ctxSet_quiet hq (x := Ctx.BAD_DESC) (by decide) c 0 codeData
  have hv2 := ctxSet_beside hq (x := Ctx.BAD_DESC) (y := Ctx.SEAL_STATE) (by decide) (by decide) c 0 codeData
  have ho : ctxOnly s (ctxD (ctxD s Ctx.SEAL_STATE c sealHunt) Ctx.BAD_DESC c 0) c [Ctx.SEAL_STATE, Ctx.BAD_DESC] :=
    (ho1.mono (by simp)).trans (ho2.mono (by simp))
  have hv : ctx (ctxD (ctxD s Ctx.SEAL_STATE c sealHunt) Ctx.BAD_DESC c 0) Ctx.SEAL_STATE c = sealHunt :=
    hv2.trans (hv1.trans rfl)
  unfold otnLose
  simp only [hst, if_true]
  revert ho hv
  generalize ctxD (ctxD s Ctx.SEAL_STATE c sealHunt) Ctx.BAD_DESC c 0 = u
  intro ho hv
  have hu := chan_of_chans ho.frame.chans
  refine ⟨?_, ?_, fun e he => ?_, ho.keeps, State.fb_raise (by decide) rfl, fun r i hr => ?_, ?_⟩
  · have hslot : ((u.setChan c { u.chan c with rxExp := none, rxPend := none }).raise CH_EVT.SEAL_LOS c).f CH_REMAP.SLOT c =
        u.f CH_REMAP.SLOT c := (onlyRegs_raise ..).f (by simp [CH_EVT.SEAL_LOS, CH_REMAP.SLOT])
    rw [← hv]
    unfold ctx ctxAddr slotOf
    rw [hslot]
    rfl
  · exact (State.chan_setChan_self ..).trans (by rw [hu])
  · exact (State.chan_setChan ..).trans ((if_neg he).trans (hu e))
  · refine ((setsRegs_raise _ CH_EVT.SEAL_LOS c).2 r i hr).trans ?_
    show u.reg r i = _
    rw [State.reg, ho.frame.regs, State.reg]
  · rw [show u = _ from ho.frame]
    rfl

/-- The receiver went to a state, with the group that it expects then. -/
structure Went (s t : State) (c st : Nat) (e : Option OtnAnn) (l : List CtxF) : Prop where
  state : ctx t Ctx.SEAL_STATE c = st
  expects : (t.chan c).rxExp = e
  others : keepsChans s t c
  keeps : keepsCtx s t c l
  frame : t = { s with regs := t.regs, chans := t.chans, cntPend := t.cntPend, rams := t.rams, valid := t.valid, memCtl := t.memCtl }
  silent : st ≠ sealHunt → t.regs = s.regs
  lost : st = sealHunt → t.fb CH_EVT.SEAL_LOS c = true ∧ (t.chan c).rxPend = none ∧ keepsRegs s t [(.CH_EVT, c)]

theorem went_announced (h : memQuiet s ctxCtl) (c : Nat) {st : Nat} (hst : st < 4) (hne : st ≠ sealHunt) (a : Option OtnAnn) :
    Went s (announced s c st a) c st a [Ctx.SEAL_STATE] := by
  obtain ⟨hv, hc, ho, hk, hf⟩ := announced_quiet h c hst a
  refine ⟨hv, by rw [hc], ho, hk, ?_, fun _ => (congrArg State.regs hf).trans rfl, fun he => absurd he hne⟩
  rw [hf]

/-- The same after the count of bad ones was cleared. -/
theorem went_announced_cleared (h : memQuiet s ctxCtl) (c : Nat) (a : Option OtnAnn) :
    Went s (announced (ctxD s Ctx.BAD_DESC c 0) c sealLocked a) c sealLocked a [Ctx.SEAL_STATE, Ctx.BAD_DESC] := by
  obtain ⟨-, ho⟩ := ctxSet_quiet h (x := Ctx.BAD_DESC) (by decide) c 0 codeData
  have hw := went_announced (ho.frame.quiet h) c (by decide : sealLocked < 4) (by decide) a
  have hk := hw.keeps
  rw [keepsCtx, ho.frame.fieldRange] at hk
  refine ⟨hw.state, hw.expects, fun e he => (hw.others e he).trans (chan_of_chans ho.frame.chans e), ?_, ?_,
    fun hne => (hw.silent hne).trans ho.frame.regs, fun he => absurd he (by decide)⟩
  · exact (ho.keeps.mono (by simp)).trans (hk.mono (by simp))
  · exact hw.frame.trans (by rw [ctxD, show ctxSet s Ctx.BAD_DESC c 0 codeData = _ from ho.frame])

theorem went_lost (h : memQuiet s ctxCtl) (hst : ctx s Ctx.SEAL_STATE c = sealLocked) :
    Went s (otnLose (chCount s c cInPad 1) c) c sealHunt none [Ctx.SEAL_STATE, Ctx.BAD_DESC] := by
  obtain ⟨hv, hc, ho, hk, he, hr, hf⟩ := otnLose_quiet (s := chCount s c cInPad 1) h hst
  refine ⟨hv, by rw [hc], ho, hk, ?_, fun hne => absurd rfl hne, fun _ => ⟨he, by rw [hc], hr⟩⟩
  rw [hf]
  rfl

end

/-- OTN_DESCRIPTOR_RX on a channel's OPUC. -/
theorem otnDescriptorRx_eq {s : State} {p : Fin 64} {i : Fin 16} {c : Nat} {opuc : List Byte} (hh : otnHears s p = true)
    (hc : otnChan s p i = some c) :
    exec (.otnDescriptorRx p i opuc) s = .next (descriptorRx s c (takeSeal s c opuc)) := by
  show execOtnDescriptorRx p i opuc s = _
  simp only [execOtnDescriptorRx, hh, if_true, otnDescriptorArrives, hc]

end Sys2Proof.Machine
end

section
/-! OTN groups: what a port of a pair counts with them, and who carries them (R47, R107, R286). -/

namespace Sys2Proof.Machine

theorem onlyRegs_addCnt (s : State) (c : Ctr) (i n : Nat) : onlyRegs s (s.addCnt c i n) [] [(c, i)] :=
  ⟨rfl, fun _ _ _ => rfl, fun d j hd => addCnt_ne s n (by simpa [Prod.mk.injEq] using hd)⟩

/-! ### The counts of a group (R47, R48) -/

section
variable {s : State} {p q : Nat} {g : OtnIn}

/-- FlexO frames that the sending side of a pair counts; under a near-end loopback its receiver counts them too. -/
def countSent (s : State) (q n : Nat) : State :=
  let t := s.addCnt .PORT_TX_FRAMES q n
  if receiving t q && t.f PORT_CTL.LPBK q == 1 then t.addCnt .PORT_RX_FRAMES q n else t

theorem countSent_only (s : State) (q n : Nat) {l : List (Ctr × Nat)} (ht : (.PORT_TX_FRAMES, q) ∈ l)
    (hr : s.f PORT_CTL.LPBK q = 1 → (.PORT_RX_FRAMES, q) ∈ l) : onlyRegs s (countSent s q n) [] l := by
  have h1 : onlyRegs s (s.addCnt .PORT_TX_FRAMES q n) [] l := (onlyRegs_addCnt ..).mono (by simp) (by simpa using ht)
  unfold countSent
  dsimp only
  split
  · next hc =>
    rw [Bool.and_eq_true, beq_iff_eq] at hc
    exact h1.step (onlyRegs_addCnt ..) (by simp) (by simpa using hr hc.2)
  · exact h1

theorem countGroup_only {l : List (Ctr × Nat)} (hf : fecCnts p ⊆ l) (hp : (.PORT_RX_FRAMES, p) ∈ l)
    (ht : (.PORT_TX_FRAMES, q) ∈ l) (hr : s.f PORT_CTL.LPBK q = 1 → (.PORT_RX_FRAMES, q) ∈ l) :
    onlyRegs s (countGroup s p q g) [(.PORT_EVT, p)] l := by
  have h1 : onlyRegs s (countFec s p g.fec) [(.PORT_EVT, p)] l := (countFec_only ..).mono (List.Subset.refl _) hf
  have h2 : onlyRegs s (if receiving (countFec s p g.fec) p && seesLine (countFec s p g.fec) p then
      (countFec s p g.fec).addCnt .PORT_RX_FRAMES p g.rxFlexo else countFec s p g.fec) [(.PORT_EVT, p)] l := by
    split
    · exact h1.step (onlyRegs_addCnt ..) (by simp) (by simpa using hp)
    · exact h1
  unfold countGroup
  dsimp only
  revert h2
  generalize (if receiving (countFec s p g.fec) p && seesLine (countFec s p g.fec) p then
      (countFec s p g.fec).addCnt .PORT_RX_FRAMES p g.rxFlexo else countFec s p g.fec) = t
  intro h2
  split
  · exact h2.step (countSent_only t q g.txFlexo ht fun h => hr ((h2.f (by simp [PORT_CTL.LPBK])).symm.trans h)) (by simp)
      (List.Subset.refl _)
  · exact h2

theorem busyChannels_of_regs {s t : State} (h : t.regs = s.regs) : busyChannels t = busyChannels s := by
  unfold busyChannels chState State.f State.reg
  rw [h]

theorem countGroup_busy (s : State) (p q : Nat) (g : OtnIn) : busyChannels (countGroup s p q g) = busyChannels s := by
  refine (busyChannels_of_regs ?_).trans (countFec_busy s p g.fec)
  simp only [countGroup, apply_ite State.regs, State.addCnt_regs, ite_self]

end

/-! ### What the ports of a pair are seen through -/

/-- Of registers and counters only those differ that a received frame or group counts in. -/
structure Tallied (s t : State) (q : Nat) : Prop where
  frame : t = { s with regs := t.regs, cnts := t.cnts }
  regs : keepsRegs s t [(.PORT_EVT, q)]
  busy : busyChannels t = busyChannels s

section
variable {s t : State} {q : Nat} (h : Tallied s t q)
include h

theorem Tallied.f {x : Fld} (hx : x.reg ≠ .PORT_EVT) (i : Nat) : t.f x i = s.f x i := by
  rw [State.f, h.regs _ _ (by simp [hx]), State.f]

theorem Tallied.fb {x : Fld} (hx : x.reg ≠ .PORT_EVT) (i : Nat) : t.fb x i = s.fb x i := by rw [State.fb, h.f hx, State.fb]

theorem Tallied.sameIngress : SameIngress s t where
  rams := (congrArg State.rams h.frame).trans rfl
  blank := (congrArg State.ctxBlank h.frame).trans rfl
  chans := (congrArg State.chans h.frame).trans rfl
  field := fun x i hx => h.f (fun he => hx (by simp [he])) i
  errs := (congrArg State.errs h.frame).trans rfl
  sheaf := (congrArg State.sheaf h.frame).trans rfl

theorem Tallied.slice (j : Nat) : t.slice j = s.slice j := congrArg (SMap.get _ · j) ((congrArg State.slices h.frame).trans rfl)

theorem Tallied.otnChan (p i : Nat) : otnChan t p i = otnChan s p i := by
  unfold Sys2Proof.Machine.otnChan
  simp only [h.sameIngress.portChans h.busy, h.sameIngress.ctx]

theorem Tallied.portWidth (p : Nat) : portWidth t p = portWidth s p := by
  unfold Sys2Proof.Machine.portWidth
  rw [h.f (by decide)]

theorem Tallied.otnCarries (p : Nat) : otnCarries t p = otnCarries s p := by
  unfold Sys2Proof.Machine.otnCarries otnN
  simp only [h.portWidth, h.otnChan]

theorem Tallied.engAvail (e : Nat) : engAvail t e = engAvail s e := by
  unfold Sys2Proof.Machine.engAvail sliceDrained
  simp only [h.slice, h.regs .SHF_DRAINED 0 (by simp), h.f (x := ENG_STATUS.STATE) (by decide)]

theorem Tallied.portSlices (p : Nat) : portSlices t p = portSlices s p := by
  unfold Sys2Proof.Machine.portSlices
  rw [h.portWidth]

theorem Tallied.otnEngines (p : Nat) : otnEngines t p = otnEngines s p := by
  unfold Sys2Proof.Machine.otnEngines
  simp only [h.portSlices, h.engAvail]

theorem Tallied.ingressSlices (p : Nat) : ingressSlices t p = ingressSlices s p := by
  unfold Sys2Proof.Machine.ingressSlices
  simp only [h.portSlices, h.engAvail]

theorem Tallied.egressSlices (p : Nat) : egressSlices t p = egressSlices s p := by
  unfold Sys2Proof.Machine.egressSlices
  simp only [h.portSlices, h.engAvail]

theorem Tallied.receiving (p : Nat) : receiving t p = receiving s p := by
  unfold Sys2Proof.Machine.receiving provisioned linkUp
  rw [h.fb (by decide), h.fb (by decide), h.fb (by decide)]

theorem Tallied.hears (p : Nat) : hears t p = hears s p := by
  unfold Sys2Proof.Machine.hears
  rw [h.receiving, h.f (by decide)]

theorem Tallied.shadows : shadows t = shadows s := by
  unfold Sys2Proof.Machine.shadows State.mode
  rw [h.f (by decide), h.f (by decide)]

theorem Tallied.provPorts : provPorts t = provPorts s := by
  unfold Sys2Proof.Machine.provPorts provisioned
  simp only [h.fb (x := PORT_STATUS.PROV) (by decide)]

theorem Tallied.allClientsDown (p : Nat) : allClientsDown t p = allClientsDown s p := by
  unfold Sys2Proof.Machine.allClientsDown clientsOf linkUp
  simp only [h.provPorts, h.f (x := PORT_CFG.PAIR) (by decide), h.fb (x := PORT_STATUS.LINK) (by decide)]

theorem Tallied.portSignal (p : Nat) : portSignal t p = portSignal s p := by
  unfold Sys2Proof.Machine.portSignal framing linkUp
  simp only [h.f (x := PORT_CFG.FRAMING) (by decide), h.f (x := PORT_CTL.LPBK) (by decide), h.shadows,
    h.fb (x := TWN_CFG.SHADOW_TX) (by decide), h.fb (x := PORT_CFG.FLTPROP) (by decide), h.allClientsDown, h.otnCarries,
    h.otnEngines, h.f (x := PORT_CFG.PAIR) (by decide), h.fb (x := PORT_STATUS.LINK) (by decide)]

theorem Tallied.otnSends (p i : Nat) : otnSends t p i = otnSends s p i := by
  unfold Sys2Proof.Machine.otnSends provisioned framing otnN
  simp only [h.f (x := PORT_CFG.FRAMING) (by decide), h.f (x := PORT_CTL.LPBK) (by decide), h.shadows,
    h.fb (x := PORT_STATUS.PROV) (by decide), h.fb (x := PORT_STATUS.READY) (by decide), h.portSignal, h.portWidth]

end

theorem tallied_countGroup {s : State} {p q : Nat} {g : OtnIn} {l : List (Ctr × Nat)}
    (h : onlyRegs s (countGroup s p q g) [(.PORT_EVT, p)] l) : Tallied s (countGroup s p q g) p :=
  ⟨h.1, h.2.1, countGroup_busy ..⟩

end Sys2Proof.Machine
end

section
/-! OTN groups received: the tag of the group before, the payload on its way to the client port (R112–R117, R154). -/

namespace Sys2Proof.Machine

/-! ### Units to an ingress engine -/

theorem giveIngress_frame (s : State) (p : Nat) (us : List (BusVal × List Byte)) :
    giveIngress s p us = fedBy s (giveIngress s p us).engs (giveIngress s p us).ports := by
  unfold giveIngress
  cases nextSlice (ingressSlices s p) (s.port p).inNext <;> rfl

/-- The engines and ports after a unit follow from those before it and from the slices that take units. -/
theorem giveIngress_congr {s t : State} {p : Nat} (hs : ingressSlices t p = ingressSlices s p) (hp : t.ports = s.ports)
    (he : t.engs = s.engs) (us : List (BusVal × List Byte)) :
    (giveIngress t p us).engs = (giveIngress s p us).engs ∧ (giveIngress t p us).ports = (giveIngress s p us).ports := by
  have hport : t.port p = s.port p := congrArg (SMap.get _ · p) hp
  unfold giveIngress
  rw [hs, hport]
  cases nextSlice (ingressSlices s p) (s.port p).inNext with
  | none => exact ⟨he, hp⟩
  | some sl =>
    unfold State.updEng State.setEng State.eng State.setPort
    exact ⟨by simp only [he], by simp only [hp]⟩

/-! ### The payload of a group (R115–R117) -/

/-- What the payload of a group brings about, once the tag of the group before has been judged. -/
def groupServed (s : State) (c lp i : Nat) (g : OtnIn) (failed : Bool) : State :=
  match ctx s Ctx.SEAL_STATE c == sealLocked, (s.chan c).rxExp with
  | true, some a =>
    match if a.replaced then none else inSlotFor s c 32 a.epoch with
    | none => otnReplace (s.setChan c { s.chan c with rxPend := none }) c lp i g.oh.opuc g.oh.oduc 8
    | some k =>
      let s := giveIngress s lp (groupUnits a.counter k c g.payload)
      let hold := ctxBit s Ctx.OTN_HOLD c
      let pt := otnCrypt s c true (inMat s c k) a.counter g.payload
      let filling := hold && !(s.chan c).rxHold
      let (f, s) := if hold then otnHold s lp pt else (none, s)
      let s := s.setChan c { s.chan c with
        rxPend := some ⟨a.counter, a.epoch, k, a.desc, g.payload, g.oh.opuc, g.oh.oduc, f⟩, rxHold := hold }
      if hold then (if filling || f.isNone then otnReplace s c lp i g.oh.opuc g.oh.oduc 8 else s)
      else if failed then
        otnReplace (otnForward s c lp i (pt.take (4 * otnFrameBytes)) (g.oh.opuc.take 32) (g.oh.oduc.take 168) 4) c lp i
          (g.oh.opuc.drop 32) (g.oh.oduc.drop 168) 4
      else if (s.chan c).rxReplace then otnReplace s c lp i g.oh.opuc g.oh.oduc 8
      else otnForward s c lp i pt g.oh.opuc g.oh.oduc 8
  | _, _ => chCount (otnReplace (s.setChan c { s.chan c with rxPend := none }) c lp i g.oh.opuc g.oh.oduc 8) c cInDropFmt 1

/-- A replacement that the second good tag ended is over with its group. -/
def replacementEnds (s : State) (c : Nat) : State :=
  if (s.chan c).rxClear then s.setChan c { s.chan c with rxReplace := false, rxClear := false } else s

/-- A group that arrives: its line monitor, the tag that its first frames bring, its payload. -/
theorem groupRx_eq (s : State) (c lp i : Nat) (g : OtnIn) : groupRx s c lp i g =
    let t := monitorLine (inLook s c) c g
    let u := otnVerify t c lp i (takeSeal t c (g.oh.opuc.take 32))
    replacementEnds (groupServed u c lp i g ((u.chan c).rxReplace && !(t.chan c).rxReplace)) c := rfl

/-- Nothing of contexts, registers and counters differs but the count of groups dropped for their form, nor the course of a
replacement. -/
structure Carried (s t : State) (c : Nat) : Prop where
  frame : t = { s with chans := t.chans, out := t.out, engs := t.engs, ports := t.ports, cntPend := t.cntPend }
  held : ∀ j, j ≠ cInDropFmt → pends t c j = pends s c j
  replace : (t.chan c).rxReplace = (s.chan c).rxReplace
  clear : (t.chan c).rxClear = (s.chan c).rxClear

theorem Carried.trans {s t u : State} {c : Nat} (h : Carried s t c) (h' : Carried t u c) : Carried s u c where
  frame := by rw [h'.frame, h.frame]
  held := fun j hj => (h'.held j hj).trans (h.held j hj)
  replace := h'.replace.trans h.replace
  clear := h'.clear.trans h.clear

theorem carried_setChan (s : State) (c : Nat) {v : Chan} (hr : v.rxReplace = (s.chan c).rxReplace)
    (hc : v.rxClear = (s.chan c).rxClear) : Carried s (s.setChan c v) c :=
  ⟨rfl, fun _ _ => rfl, by rw [State.chan_setChan_self, hr], by rw [State.chan_setChan_self, hc]⟩

theorem carried_emit (s : State) (c : Nat) (o : Out) : Carried s (s.emit o) c := ⟨rfl, fun _ _ => rfl, rfl, rfl⟩

theorem carried_giveIngress (s : State) (c p : Nat) (us : List (BusVal × List Byte)) : Carried s (giveIngress s p us) c := by
  rw [giveIngress_frame]
  exact ⟨rfl, fun _ _ => rfl, rfl, rfl⟩

theorem carried_otnToClient (s : State) (c lp i : Nat) (ais : Bool) (payload opuc oduc : List Byte) (n : Nat) :
    Carried s (otnToClient s c lp i ais payload opuc oduc n) c := by
  unfold otnToClient
  extract_lets p m opuc r x t
  have ht : Carried s t c := carried_setChan s c rfl rfl
  split
  · split
    · exact ht.trans (carried_setChan t c rfl rfl)
    · exact ht
  · exact ht
  · exact ht.trans (carried_emit ..)

theorem carried_dropped (s : State) (c : Nat) : Carried s (chCount s c cInDropFmt 1) c :=
  ⟨rfl, fun j hj => (pends_chCount s c cInDropFmt 1 c j).trans (if_neg (by omega)), rfl, rfl⟩

/-- Outside hold-and-verify the payload's way leaves all of that. -/
theorem carried_groupServed {s : State} {c : Nat} (h : ctxBit s Ctx.OTN_HOLD c = false) (lp i : Nat) (g : OtnIn) (failed : Bool) :
    Carried s (groupServed s c lp i g failed) c := by
  have hdrop : Carried s (s.setChan c { s.chan c with rxPend := none }) c := carried_setChan s c rfl rfl
  unfold groupServed
  split
  · next a _ _ =>
    split
    · exact hdrop.trans (carried_otnToClient ..)
    · next k _ =>
      have hfed := carried_giveIngress s c lp (groupUnits a.counter k c g.payload)
      have hold : ctxBit (giveIngress s lp (groupUnits a.counter k c g.payload)) Ctx.OTN_HOLD c = false := by
        rw [giveIngress_frame]; exact h
      simp only [hold, Bool.false_and, Bool.false_eq_true, if_false]
      have hpend := hfed.trans (carried_setChan (giveIngress s lp (groupUnits a.counter k c g.payload)) c
        (v := { (giveIngress s lp (groupUnits a.counter k c g.payload)).chan c with
          rxPend := some ⟨a.counter, a.epoch, k, a.desc, g.payload, g.oh.opuc, g.oh.oduc, none⟩, rxHold := false }) rfl rfl)
      split
      · exact (hpend.trans (carried_otnToClient ..)).trans (carried_otnToClient ..)
      · split <;> exact hpend.trans (carried_otnToClient ..)
  · exact (hdrop.trans (carried_otnToClient ..)).trans (carried_dropped ..)

/-! ### The tag of the group before (R112, R115, R154) -/

section
variable {s : State} {c lp i : Nat} {tag : List Byte} {w : OtnPend}

theorem otnVerify_none (h : (s.chan c).rxPend = none) : otnVerify s c lp i tag = s := by
  unfold otnVerify
  rw [h]

/-- A mark above every verified number is above that of any slot. -/
theorem inHigh_le_inHighest (s : State) (c k : Nat) : ctx s (inHigh k) c ≤ inHighest s c := by
  have h : inHighest s c = max (max (max 0 (ctx s (inHigh 0) c)) (ctx s (inHigh 1) c)) (ctx s (inHigh 2) c) := rfl
  rw [h]
  match k with
  | 0 => omega
  | 1 => omega
  | n + 2 =>
    have hn : inHigh (n + 2) = inHigh 2 := rfl
    rw [hn]
    omega

/-- A good tag is noted: the run of good ones, and the end of a replacement at the eighth. -/
def runNoted (s : State) (c run : Nat) : State :=
  let t := ctxD (chCount s c cInOk 1) Ctx.GOOD_RUN c run
  if run = 8 then ctxD t Ctx.REPLACING c 0 else t

theorem runNoted_quiet (h : memQuiet s ctxCtl) {run : Nat} (hr : run ≤ 8) :
    let t := runNoted s c run
    ctx t Ctx.GOOD_RUN c = run ∧ ctxOnly (chCount s c cInOk 1) t c [Ctx.GOOD_RUN, Ctx.REPLACING] := by
  obtain ⟨hv, ho⟩ := ctxSet_quiet (s := chCount s c cInOk 1) h (x := Ctx.GOOD_RUN) (by decide) c run codeData
  have hv' := hv.trans (Nat.mod_eq_of_lt (show run < 2 ^ 4 by omega))
  unfold runNoted
  dsimp only
  split
  · obtain ⟨-, ho'⟩ := ctxSet_quiet (ho.frame.quiet h) (x := Ctx.REPLACING) (by decide) c 0 codeData
    exact ⟨(ho'.ctx (by decide)).trans hv', (ho.mono (by simp)).trans (ho'.mono (by simp))⟩
  · exact ⟨hv', ho.mono (by simp)⟩

/-- The tag that a group's slot gives. -/
abbrev wantedTag (s : State) (c i : Nat) (w : OtnPend) : List Byte := otnTag s c true (inMat s c w.slot) w.counter i w.desc w.ct

theorem ctx_setChan (s : State) (d : Nat) (v : Chan) (x : CtxF) (c : Nat) : ctx (s.setChan d v) x c = ctx s x c := rfl

/-- The group whose tag is awaited is taken off. -/
def tagTaken (s : State) (c : Nat) : State := s.setChan c { s.chan c with rxPend := none }

/-- The tag of a group agrees with what its slot gives, and its counter is above every verified one. -/
theorem otnVerify_pending (hp : (s.chan c).rxPend = some w) (hh : w.held = none) :
    otnVerify s c lp i tag =
      let t := tagTaken s c
      if (wantedTag s c i w == tag && (decide (w.counter > inHighest s c) && !replayBad s c w.slot)) = true then
        let v := inUpdate t c w.slot w.counter false
        let run := min 8 (ctx v Ctx.GOOD_RUN c + 1)
        let u := runNoted v c run
        if ((u.chan c).rxReplace && decide (run ≥ 2)) = true then u.setChan c { u.chan c with rxClear := true } else u
      else if (wantedTag s c i w == tag) = true then chCount t c cInDropReplay 1
      else
        let u := ctxD (ctxD ((chCount t c cInDropAuth 1).raise CH_EVT.SEAL_AUTH c) Ctx.GOOD_RUN c 0) Ctx.REPLACING c 1
        u.setChan c { u.chan c with rxReplace := true, rxClear := false } := by
  unfold otnVerify
  rw [hp]
  simp only [hh]
  rfl

theorem apart_tagNotes {x : CtxF} (h : [Ctx.IN0_HIGH, Ctx.IN1_HIGH, Ctx.IN2_HIGH, Ctx.GOOD_RUN].all (apart x) = true)
    (hr : apart x Ctx.REPLACING = true) (k : Nat) : [inHigh k, Ctx.GOOD_RUN, Ctx.REPLACING].all (apart x) = true := by
  have hk := apart_inHigh (x := x) (by simp_all) k
  simp_all

/-- A good tag was noted: the high mark of its slot, the run of good ones, and the count. -/
structure TagGood (s u : State) (c : Nat) (w : OtnPend) : Prop where
  high : ctx u (inHigh w.slot) c = w.counter
  run : ctx u Ctx.GOOD_RUN c = min 8 (ctx s Ctx.GOOD_RUN c + 1)
  count : pends u c cInOk = pends s c cInOk + 1
  keeps : keepsCtx s u c [inHigh w.slot, Ctx.GOOD_RUN, Ctx.REPLACING]
  replace : (u.chan c).rxReplace = (s.chan c).rxReplace
  clear : (u.chan c).rxClear = (s.chan c).rxClear
  frame : u = { s with chans := u.chans, cntPend := u.cntPend, rams := u.rams, valid := u.valid, memCtl := u.memCtl }

theorem tagGood_noted (hq : memQuiet s ctxCtl) (hlow : inHighest s c < w.counter) (hmax : w.counter < 2 ^ 64) :
    let v := markHigh (tagTaken s c) c w.slot w.counter
    TagGood s (runNoted v c (min 8 (ctx v Ctx.GOOD_RUN c + 1))) c w := by
  intro v
  obtain ⟨ho, hhigh, -⟩ := markHigh_quiet (s := tagTaken s c) (c := c) (k := w.slot) hq hmax
  have hmark := inHigh_le_inHighest s c w.slot
  have hrun : ctx v Ctx.GOOD_RUN c = ctx s Ctx.GOOD_RUN c := (ho.ctx (apart_inHigh (by decide) w.slot)).trans (ctx_setChan ..)
  obtain ⟨hg, ho'⟩ := runNoted_quiet (s := v) (c := c) (ho.frame.quiet hq) (Nat.min_le_left 8 (ctx v Ctx.GOOD_RUN c + 1))
  revert hg ho'
  generalize runNoted v c (min 8 (ctx v Ctx.GOOD_RUN c + 1)) = u
  intro hg ho'
  have hrange : fieldRange (chCount v c cInOk 1) c = fieldRange s c := ho.frame.fieldRange c
  have hk := ho'.keeps
  rw [keepsCtx, hrange] at hk
  have hchan : u.chan c = { s.chan c with rxPend := none } :=
    (chan_of_chans ho'.frame.chans c).trans ((chan_of_chans ho.frame.chans c).trans (State.chan_setChan_self ..))
  have happ : [Ctx.GOOD_RUN, Ctx.REPLACING].all (apart (inHigh w.slot)) = true := by unfold inHigh; split <;> decide
  refine ⟨?_, by rw [hg, hrun], ?_, ?_, by rw [hchan], by rw [hchan], ?_⟩
  · refine (ho'.ctx happ).trans (hhigh.trans ?_)
    rw [tagTaken, ctx_setChan]
    omega
  · rw [pends_of_held ho'.frame.cntPend, pends_chCount_self, pends_of_held ho.frame.cntPend]
    rfl
  · have hk' : keepsMem s v ([inHigh w.slot].map (fieldRange s c)) := ho.keeps
    exact (hk'.mono (by simp)).trans (hk.mono (by simp))
  · have e1 : u = _ := ho'.frame
    have e2 : v = _ := ho.frame
    rw [e1, chCount, e2]
    rfl

/-- A group whose tag is right, outside a replacement. -/
theorem otnVerify_good (hp : (s.chan c).rxPend = some w) (hh : w.held = none) (hr : (s.chan c).rxReplace = false)
    (ht : tag = wantedTag s c i w) (hk : w.slot = inCur s c) (hlow : inHighest s c < w.counter) (hmax : w.counter < 2 ^ 64)
    (hq : memQuiet s ctxCtl) : TagGood s (otnVerify s c lp i tag) c w := by
  have hfresh : (decide (w.counter > inHighest s c) && !replayBad s c w.slot) = true := by
    rw [replayBad, ctxPoisoned_clean hq.1]
    simpa using hlow
  have hok : (wantedTag s c i w == tag) = true := by rw [ht]; exact beq_self_eq_true _
  have hcur : inCur (tagTaken s c) c = inCur s c := ctx_setChan ..
  have hup := inUpdate_current (hk.trans hcur.symm) w.counter
  have hgood := tagGood_noted hq hlow hmax
  have hno := hgood.replace.trans hr
  rw [otnVerify_pending hp hh]
  dsimp only
  rw [if_pos (by rw [hok, hfresh]; rfl), hup, if_neg (by rw [hno]; simp)]
  exact hgood

/-- A bad tag was noted: the run is broken, and a replacement is under way. -/
structure TagBad (s u : State) (c : Nat) : Prop where
  run : ctx u Ctx.GOOD_RUN c = 0
  replacing : ctx u Ctx.REPLACING c = 1
  count : pends u c cInDropAuth = pends s c cInDropAuth + 1
  event : u.fb CH_EVT.SEAL_AUTH c = true
  keeps : keepsCtx s u c [Ctx.GOOD_RUN, Ctx.REPLACING]
  replace : (u.chan c).rxReplace = true
  clear : (u.chan c).rxClear = false
  regs : keepsRegs s u [(.CH_EVT, c)]
  frame : u = { s with regs := u.regs, chans := u.chans, cntPend := u.cntPend, rams := u.rams, valid := u.valid,
                       memCtl := u.memCtl }

/-- A group whose tag is wrong. -/
theorem otnVerify_bad (hp : (s.chan c).rxPend = some w) (hh : w.held = none) (ht : tag ≠ wantedTag s c i w)
    (hq : memQuiet s ctxCtl) : TagBad s (otnVerify s c lp i tag) c := by
  have hok : ¬ (wantedTag s c i w == tag) = true := by rw [beq_iff_eq]; exact ht.symm
  have hv : memQuiet ((chCount (tagTaken s c) c cInDropAuth 1).raise CH_EVT.SEAL_AUTH c) ctxCtl :=
    ⟨hq.1, ((onlyRegs_raise ..).f (by simp [MEM_FLIPMASK.MODE, CH_EVT.SEAL_AUTH])).trans hq.2⟩
  have hregs := onlyRegs_raise (chCount (tagTaken s c) c cInDropAuth 1) CH_EVT.SEAL_AUTH c
  have hev : ((chCount (tagTaken s c) c cInDropAuth 1).raise CH_EVT.SEAL_AUTH c).fb CH_EVT.SEAL_AUTH c = true :=
    State.fb_raise (by decide) rfl
  have hslot := hregs.f (x := CH_REMAP.SLOT) (i := c) (by simp [CH_REMAP.SLOT, CH_EVT.SEAL_AUTH])
  rw [otnVerify_pending hp hh]
  dsimp only
  rw [if_neg (by rw [Bool.and_eq_true]; exact fun h => hok h.1), if_neg hok]
  have hframe : (chCount (tagTaken s c) c cInDropAuth 1).raise CH_EVT.SEAL_AUTH c = { s with
      regs := ((chCount (tagTaken s c) c cInDropAuth 1).raise CH_EVT.SEAL_AUTH c).regs,
      chans := (tagTaken s c).chans, cntPend := (chCount s c cInDropAuth 1).cntPend } := rfl
  revert hv hregs hev hslot hframe
  generalize (chCount (tagTaken s c) c cInDropAuth 1).raise CH_EVT.SEAL_AUTH c = v
  intro hv hregs hev hslot hframe
  obtain ⟨hr1, ho1⟩ := ctxSet_quiet hv (x := Ctx.GOOD_RUN) (by decide) c 0 codeData
  obtain ⟨hr2, ho2⟩ := ctxSet_quiet (ho1.frame.quiet hv) (x := Ctx.REPLACING) (by decide) c 1 codeData
  have hrun : ctx (ctxD (ctxD v Ctx.GOOD_RUN c 0) Ctx.REPLACING c 1) Ctx.GOOD_RUN c = 0 := (ho2.ctx (by decide)).trans hr1
  have hrepl : ctx (ctxD (ctxD v Ctx.GOOD_RUN c 0) Ctx.REPLACING c 1) Ctx.REPLACING c = 1 := hr2
  have ho : ctxOnly v (ctxD (ctxD v Ctx.GOOD_RUN c 0) Ctx.REPLACING c 1) c [Ctx.GOOD_RUN, Ctx.REPLACING] :=
    (ho1.mono (by simp)).trans (ho2.mono (by simp))
  revert hrun hrepl ho
  generalize ctxD (ctxD v Ctx.GOOD_RUN c 0) Ctx.REPLACING c 1 = u
  intro hrun hrepl ho
  have hrange : fieldRange v c = fieldRange s c := funext fun x => by
    unfold fieldRange ctxAddr slotOf
    rw [hslot]
    rfl
  have hk := ho.keeps
  rw [keepsCtx, hrange] at hk
  have hmem : ∀ k a, memByte v k a = memByte s k a := memByte_congr (by rw [hframe]) (by rw [hframe])
  refine ⟨hrun, hrepl, ?_, ?_, fun k a ha => (hk k a ha).trans (hmem k a), by rw [State.chan_setChan_self],
    by rw [State.chan_setChan_self], fun r i hm => ?_, ?_⟩
  · have hp' : v.cntPend = (chCount s c cInDropAuth 1).cntPend := by rw [hframe]
    refine (pends_of_held (t := u.setChan c _) (s := v) ho.frame.cntPend ..).trans ?_
    rw [pends_of_held hp', pends_chCount_self]
  · show u.fb CH_EVT.SEAL_AUTH c = true
    rw [State.fb, ho.frame.f, ← State.fb]
    exact hev
  · show u.reg r i = s.reg r i
    rw [State.reg, ho.frame.regs]
    exact hregs.2.1 r i hm
  · rw [show u = _ from ho.frame, hframe]
    rfl

end

end Sys2Proof.Machine
end

section
/-! OTN groups received: what a channel's OPUC brings about as a whole (R47, R111–R117, R154). -/

namespace Sys2Proof.Machine

/-! ### What seals and opens a group is seen through -/

section
variable {s t : State}

theorem SameQueues.takeSeal (h : SameQueues s t) (c : Nat) (opuc : List Byte) : takeSeal t c opuc = takeSeal s c opuc := by
  unfold Sys2Proof.Machine.takeSeal
  rw [h.ctx]

theorem SameQueues.putSeal (h : SameQueues s t) (c : Nat) (opuc sb : List Byte) : putSeal t c opuc sb = putSeal s c opuc sb := by
  unfold Sys2Proof.Machine.putSeal
  rw [h.ctx]

theorem SameQueues.inHighest (h : SameQueues s t) (c : Nat) : inHighest t c = inHighest s c := by
  unfold Sys2Proof.Machine.inHighest
  simp only [h.ctx]

theorem SameIngress.complData (h : SameIngress s t) (c : Nat) (o : Bool) : complData t c o = complData s c o := by
  unfold Sys2Proof.Machine.complData chLine
  rw [h.ctx, h.ctx, h.sheaf]

theorem SameIngress.otnCrypt (h : SameIngress s t) (c : Nat) (o : Bool) (m : KeyMat) (n : Nat) (payload : List Byte) :
    otnCrypt t c o m n payload = otnCrypt s c o m n payload := by
  unfold Sys2Proof.Machine.otnCrypt
  rw [h.ctx, h.complData]

theorem SameIngress.otnTag (h : SameIngress s t) (c : Nat) (o : Bool) (m : KeyMat) (n i : Nat) (desc ct : List Byte) :
    otnTag t c o m n i desc ct = otnTag s c o m n i desc ct := by
  unfold Sys2Proof.Machine.otnTag
  rw [h.ctx, h.complData]

theorem sameIngress_giveIngress (s : State) (p : Nat) (us : List (BusVal × List Byte)) : SameIngress s (giveIngress s p us) := by
  rw [giveIngress_frame]
  exact sameIngress_fed ..

/-- A field apart from those that were written reads as before, where the channel keeps its place. -/
theorem keepsCtx.ctx {c : Nat} {fs : List CtxF} (h : keepsCtx s t c fs) (hs : t.f CH_REMAP.SLOT c = s.f CH_REMAP.SLOT c) {x : CtxF}
    (hx : fs.all (apart x) = true) : ctx t x c = ctx s x c := by
  have ha : ctxAddr t c x.off = ctxAddr s c x.off := by unfold ctxAddr slotOf; rw [hs]
  unfold Sys2Proof.Machine.ctx
  rw [ha, h.field hx]

theorem Carried.regs {c : Nat} (h : Carried s t c) : t.regs = s.regs := by rw [h.frame]

theorem Carried.ctx {c : Nat} (h : Carried s t c) (x : CtxF) (d : Nat) : ctx t x d = ctx s x d := by rw [h.frame]; rfl

theorem Carried.keepsMem {c : Nat} (h : Carried s t c) (l : List (Nat × Nat × Nat)) : keepsMem s t l :=
  fun k a _ => memByte_congr (by rw [h.frame]) (by rw [h.frame]) k a

end

/-! ### The payload on its way to the client port (R47, R115) -/

section
variable {s : State} {c lp i : Nat} {g : OtnIn}

/-- A client port's transmitter sends a group, with its overhead made anew. -/
def sentToClient (s : State) (c lp i : Nat) (payload opuc oduc : List Byte) : State :=
  let m := (s.chan c).mon
  let r := regenerate (lp - 32) i m.clientOut (putSeal s c opuc (zeros 16)) oduc payload 8
  (s.setChan c { s.chan c with mon := { m with clientOut := r.2 } }).emit (.otn (lp - 32) i payload r.1)

theorem otnForward_sent (hb : s.f PORT_CTL.LPBK (lp - 32) = 0) (payload opuc oduc : List Byte) :
    otnForward s c lp i payload opuc oduc 8 = sentToClient s c lp i payload opuc oduc := by
  have hf : ∀ v, (s.setChan c v).f PORT_CTL.LPBK (lp - 32) = 0 := fun v => hb
  unfold otnForward otnToClient
  simp only [hf]
  rfl

theorem sentToClient_out (s : State) (c lp i : Nat) (payload opuc oduc : List Byte) :
    (sentToClient s c lp i payload opuc oduc).out = s.out ++ [.otn (lp - 32) i payload
      (regenerate (lp - 32) i (s.chan c).mon.clientOut (putSeal s c opuc (zeros 16)) oduc payload 8).1] := rfl

theorem sentToClient_chan (s : State) (c lp i : Nat) (payload opuc oduc : List Byte) (d : Nat) :
    (sentToClient s c lp i payload opuc oduc).chan d = if d = c then { s.chan c with mon := { (s.chan c).mon with
      clientOut := (regenerate (lp - 32) i (s.chan c).mon.clientOut (putSeal s c opuc (zeros 16)) oduc payload 8).2 } }
    else s.chan d := State.chan_setChan ..

theorem sentToClient_frame (s : State) (c lp i : Nat) (payload opuc oduc : List Byte) :
    sentToClient s c lp i payload opuc oduc = { s with
      out := (sentToClient s c lp i payload opuc oduc).out, chans := (sentToClient s c lp i payload opuc oduc).chans } := rfl

/-- What waits for the tag that comes with the next group. -/
def awaits (a : OtnAnn) (k : Nat) (g : OtnIn) : OtnPend :=
  ⟨a.counter, a.epoch, k, a.desc, g.payload, g.oh.opuc, g.oh.oduc, none⟩

/-- Under LOCKED a group of a known epoch goes to an engine and, decrypted, to its client port (R115). -/
theorem groupServed_forward {a : OtnAnn} {k : Nat} (hl : ctx s Ctx.SEAL_STATE c = sealLocked) (ha : (s.chan c).rxExp = some a)
    (hn : a.replaced = false) (hs : inSlotFor s c 32 a.epoch = some k) (hh : ctxBit s Ctx.OTN_HOLD c = false)
    (hr : (s.chan c).rxReplace = false) :
    let t := giveIngress s lp (groupUnits a.counter k c g.payload)
    groupServed s c lp i g false =
      otnForward (t.setChan c { s.chan c with rxPend := some (awaits a k g), rxHold := false }) c lp i
        (otnCrypt s c true (inMat s c k) a.counter g.payload) g.oh.opuc g.oh.oduc 8 := by
  intro t
  have hi : SameIngress s t := sameIngress_giveIngress ..
  have hh' : ctxBit t Ctx.OTN_HOLD c = false := (congrArg (· != 0) (hi.ctx ..)).trans hh
  have hc : t.chan c = s.chan c := hi.chan c
  unfold groupServed
  rw [beq_iff_eq.2 hl, ha]
  dsimp only
  rw [hn, if_neg (by decide), hs]
  dsimp only
  rw [show giveIngress s lp (groupUnits a.counter k c g.payload) = t from rfl, hh', hi.otnCrypt, hi.inMat]
  simp only [Bool.false_eq_true, if_false, State.chan_setChan_self, hc, hr]
  rfl

theorem replacementEnds_none (h : (s.chan c).rxClear = false) : replacementEnds s c = s := by
  rw [replacementEnds, h]
  rfl

end

/-! ### A group of a channel that runs (R47, R111–R117, R154) -/

section
variable {s : State} {p : Fin 64} {i : Fin 16} {g : OtnIn} {c k : Nat} {a : OtnAnn}

/-- Counters that a group received on a line port touches: those of the port, and of its client port's transmitter. -/
abbrev rxCounts (p : Fin 64) : List (Ctr × Nat) :=
  [(.PORT_RX_FRAMES, p.val), (.PORT_TX_FRAMES, p.val - 32), (.PORT_RX_FRAMES, p.val - 32)] ++ fecCnts p

theorem countGroup_rx (s : State) (p : Fin 64) (g : OtnIn) :
    onlyRegs s (countGroup s p (p.val - 32) g) [(.PORT_EVT, p.val)] (rxCounts p) :=
  countGroup_only (List.subset_append_right ..) (by simp) (by simp) fun _ => by simp

/-- Channel whose receiver is locked and forwards what it decrypts. -/
structure Forwards (s : State) (p : Fin 64) (i : Fin 16) (c : Nat) (a : OtnAnn) : Prop where
  heard : otnHears s p = true
  engines : otnEngines s p = true
  carries : otnCarries s p = true
  chan : otnChan s p i = some c
  quiet : memQuiet s ctxCtl
  locked : ctx s Ctx.SEAL_STATE c = sealLocked
  expects : (s.chan c).rxExp = some a
  kept : a.replaced = false
  whole : (s.chan c).rxReplace = false
  uncleared : (s.chan c).rxClear = false
  passing : ctxBit s Ctx.OTN_HOLD c = false

/-- The group was counted on the ports of its pair, and a monitor of the channel took it. -/
structure Monitored (s v : State) (q c : Nat) (m : OtnMon) (l : List (Ctr × Nat)) : Prop where
  chan : v.chan c = { s.chan c with mon := m }
  others : keepsChans s v c
  same : SameIngress s { v with chans := s.chans }
  regs : keepsRegs s v [(.PORT_EVT, q)]
  cnts : keepsCnts s v l
  frame : v = { s with regs := v.regs, cnts := v.cnts, chans := v.chans }
  ingress : ∀ p, ingressSlices v p = ingressSlices s p
  egress : ∀ p, egressSlices v p = egressSlices s p

theorem Tallied.monitored {t : State} {q : Nat} {l : List (Ctr × Nat)} (h : Tallied s t q) (hl : keepsCnts s t l) (c : Nat)
    (m : OtnMon) : Monitored s (t.setChan c { t.chan c with mon := m }) q c m l := by
  refine ⟨?_, fun d hd => ?_, ?_, h.regs, hl, ?_, h.ingressSlices, h.egressSlices⟩
  · rw [State.chan_setChan_self, h.sameIngress.chan]
  · rw [State.chan_setChan, if_neg hd, h.sameIngress.chan]
  · rw [show { t.setChan c { t.chan c with mon := m } with chans := s.chans } = t by
      rw [show t = _ from h.frame]; rfl]
    exact h.sameIngress
  · rw [show t = _ from h.frame]
    rfl

/-- A line monitor after a group. -/
abbrev lineMon (m : OtnMon) (g : OtnIn) : OtnMon :=
  let r := checkBips m.lineIn g
  { m with lineIn := r.2.2, pmErrs := m.pmErrs + r.1, smErrs := m.smErrs + r.2.1 }

/-- The group was counted, and its line monitor took it. -/
abbrev GroupTaken (s v : State) (p : Fin 64) (c : Nat) (g : OtnIn) : Prop :=
  Monitored s v p.val c (lineMon (s.chan c).mon g) (rxCounts p)

theorem groupTaken (s : State) (p : Fin 64) (c : Nat) (g : OtnIn) :
    GroupTaken s (monitorLine (countGroup s p (p.val - 32) g) c g) p c g := by
  have ho := countGroup_rx s p g
  have ht := tallied_countGroup ho
  have hm := ht.monitored ho.2.2 c (lineMon ((countGroup s p (p.val - 32) g).chan c).mon g)
  rw [ht.sameIngress.chan] at hm
  unfold monitorLine
  rw [ht.sameIngress.chan]
  exact hm

/-- A group received on such a channel's OPUC. -/
theorem Forwards.exec (h : Forwards s p i c a) (g : OtnIn) :
    let v := monitorLine (countGroup s p (p.val - 32) g) c g
    let u := otnVerify v c p i (takeSeal s c (g.oh.opuc.take 32))
    exec (.otnGroupRx p i g) s = .next (replacementEnds (groupServed u c p i g (u.chan c).rxReplace) c) := by
  intro v u
  have ht := tallied_countGroup (countGroup_rx s p g)
  have hv : GroupTaken s v p c g := groupTaken s p c g
  obtain ⟨⟨hline, hhears⟩, hframing⟩ : (isLine p = true ∧ hears s p = true) ∧ framing s p = frOtn := by
    have := h.heard
    simpa [otnHears] using this
  have hlook : inLook (countGroup s p (p.val - 32) g) c = countGroup s p (p.val - 32) g :=
    ctxLook_clean (ht.sameIngress.noErrors h.quiet.1) ..
  have hbefore : (v.chan c).rxReplace = false := by rw [hv.chan]; exact h.whole
  have htag : takeSeal v c (g.oh.opuc.take 32) = takeSeal s c (g.oh.opuc.take 32) := hv.same.takeSeal ..
  show execOtnGroupRx p i g s = _
  unfold execOtnGroupRx otnGroupArrives
  rw [hline, hframing, if_neg (by decide)]
  dsimp only
  rw [ht.hears, hhears, if_pos rfl, ht.otnChan, h.chan]
  dsimp only
  rw [ht.otnEngines, h.engines, ht.otnCarries, h.carries, if_neg (by decide), if_pos rfl, groupRx_eq, hlook]
  dsimp only
  rw [show monitorLine (countGroup s p (p.val - 32) g) c g = v from rfl, hbefore, htag, Bool.not_false, Bool.and_true]

/-- A group that leaves a locked receiver for its client port. -/
structure Forwarded (s t : State) (p : Fin 64) (i : Fin 16) (c k : Nat) (a : OtnAnn) (g : OtnIn) (pt : List Byte)
    (oh : OtnOh × List Byte) : Prop where
  sent : t.out = s.out ++ [.otn (p.val - 32) i pt oh.1]
  engs : t.engs = (giveIngress s p (groupUnits a.counter k c g.payload)).engs
  ports : t.ports = (giveIngress s p (groupUnits a.counter k c g.payload)).ports
  chan : t.chan c =
    let m := (s.chan c).mon
    let r := checkBips m.lineIn g
    { s.chan c with
      rxPend := some (awaits a k g), rxHold := false,
      mon := { m with lineIn := r.2.2, clientOut := oh.2, pmErrs := m.pmErrs + r.1, smErrs := m.smErrs + r.2.1 } }
  others : keepsChans s t c
  frame : t = { s with out := t.out, chans := t.chans, regs := t.regs, cnts := t.cnts, engs := t.engs, ports := t.ports }
  regs : keepsRegs s t [(.PORT_EVT, p.val)]
  cnts : keepsCnts s t (rxCounts p)

/-- The payload of such a group, once it was counted and monitored. -/
theorem Forwards.forwarded (h : Forwards s p i c a) (g : OtnIn) (hs : inSlotFor s c 32 a.epoch = some k)
    (hb : s.f PORT_CTL.LPBK (p.val - 32) = 0) :
    let pt := otnCrypt s c true (inMat s c k) a.counter g.payload
    let oh := regenerate (p.val - 32) i (s.chan c).mon.clientOut (putSeal s c g.oh.opuc (zeros 16)) g.oh.oduc pt 8
    Forwarded s (groupServed (monitorLine (countGroup s p (p.val - 32) g) c g) c p i g false) p i c k a g pt oh := by
  intro pt oh
  have hv := groupTaken s p c g
  revert hv
  generalize monitorLine (countGroup s p (p.val - 32) g) c g = v
  intro hv
  obtain ⟨engs, ports, hfed, hengs, hports⟩ : ∃ engs ports,
      giveIngress v p (groupUnits a.counter k c g.payload) = fedBy v engs ports ∧
        engs = (giveIngress s p (groupUnits a.counter k c g.payload)).engs ∧
        ports = (giveIngress s p (groupUnits a.counter k c g.payload)).ports :=
    ⟨_, _, giveIngress_frame .., giveIngress_congr (hv.ingress p) ((congrArg State.ports hv.frame).trans rfl)
      ((congrArg State.engs hv.frame).trans rfl) _⟩
  have hbits : ∀ {x : CtxF}, ctx v x c = ctx s x c := fun {x} => hv.same.ctx x c
  have hslot : inSlotFor v c 32 a.epoch = some k := (hv.same.inSlotFor h.quiet.1 ..).trans hs
  have hcrypt : otnCrypt v c true (inMat v c k) a.counter g.payload = pt :=
    (hv.same.otnCrypt ..).trans (by rw [show inMat v c k = inMat s c k from hv.same.inMat ..])
  have hput : ∀ x, putSeal ((fedBy v engs ports).setChan c x) c g.oh.opuc (zeros 16) = putSeal s c g.oh.opuc (zeros 16) :=
    fun _ => hv.same.putSeal ..
  have hbit : ∀ x, ((fedBy v engs ports).setChan c x).f PORT_CTL.LPBK (p.val - 32) = 0 :=
    fun _ => (hv.same.field _ _ (by decide)).trans hb
  rw [groupServed_forward (hbits.trans h.locked) (by rw [hv.chan]; exact h.expects) h.kept hslot
    ((congrArg (· != 0) hbits).trans h.passing) (by rw [hv.chan]; exact h.whole), hcrypt, hfed, otnForward_sent (hbit _)]
  refine ⟨?_, hengs, hports, ?_, fun d hd => ?_, ?_, hv.regs, hv.cnts⟩
  · rw [sentToClient_out, hput, State.chan_setChan_self, hv.chan]
    exact congrArg (· ++ _) ((congrArg State.out hv.frame).trans rfl)
  · rw [sentToClient_chan, if_pos rfl, hput, State.chan_setChan_self, hv.chan]
  · rw [sentToClient_chan, if_neg hd, State.chan_setChan, if_neg hd]
    exact hv.others d hd
  · rw [sentToClient_frame, hv.frame]
    rfl

/-- Without a tag to await, the group goes on at once. -/
theorem Forwards.unpended (h : Forwards s p i c a) (g : OtnIn) (hs : inSlotFor s c 32 a.epoch = some k)
    (hp : (s.chan c).rxPend = none) (hb : s.f PORT_CTL.LPBK (p.val - 32) = 0) :
    let pt := otnCrypt s c true (inMat s c k) a.counter g.payload
    let oh := regenerate (p.val - 32) i (s.chan c).mon.clientOut (putSeal s c g.oh.opuc (zeros 16)) g.oh.oduc pt 8
    ∃ t, Machine.exec (.otnGroupRx p i g) s = .next t ∧ Forwarded s t p i c k a g pt oh := by
  intro pt oh
  have hv := groupTaken s p c g
  have hpend : ((monitorLine (countGroup s p (p.val - 32) g) c g).chan c).rxPend = none := by rw [hv.chan]; exact hp
  have hwhole : ((monitorLine (countGroup s p (p.val - 32) g) c g).chan c).rxReplace = false := by rw [hv.chan]; exact h.whole
  have hf := h.forwarded g hs hb
  have hclear : ((groupServed (monitorLine (countGroup s p (p.val - 32) g) c g) c p i g false).chan c).rxClear = false := by
    rw [hf.chan]
    exact h.uncleared
  refine ⟨_, h.exec g, ?_⟩
  rw [otnVerify_none hpend, hwhole, replacementEnds_none hclear]
  exact hf

section
variable {v u t : State} {q : Nat} {m : OtnMon} {l : List (Ctr × Nat)}

/-- Increments that a channel's engines hold once a group was counted are those of before. -/
theorem Monitored.pends (h : Monitored s v q c m l) (j : Nat) : pends v c j = Machine.pends s c j :=
  pends_of_held (by rw [h.frame]) ..

theorem Monitored.keepsCtx (h : Monitored s v q c m l) {fs : List CtxF} (hk : Machine.keepsCtx v u c fs) : Machine.keepsCtx s u c fs := by
  have hr : fieldRange v c = fieldRange s c := funext fun x => h.same.fieldRange c x
  have hm : ∀ j b, memByte v j b = memByte s j b := fun j b => h.same.memByte j b
  rw [Machine.keepsCtx, hr] at hk
  exact fun j b hb => (hk j b hb).trans (hm j b)

theorem Monitored.wantedTag (h : Monitored s v q c m l) (n : Nat) (w : OtnPend) : wantedTag v c n w = wantedTag s c n w :=
  (h.same.otnTag ..).trans (by rw [show inMat v c w.slot = inMat s c w.slot from h.same.inMat ..])

/-- What follows the tag changes nothing of contexts, registers and counters. -/
theorem Monitored.kept (h : Monitored s v q c m l) {rs : List (Reg × Nat)} {fs : List CtxF} (hr : keepsRegs v u rs)
    (hc : u.cnts = v.cnts) (hk : Machine.keepsCtx v u c fs) (ht : Carried u t c) :
    keepsRegs s t (rs ++ [(.PORT_EVT, q)]) ∧ keepsCnts s t l ∧ Machine.keepsCtx s t c fs := by
  refine ⟨fun r j hm => ?_, fun d j hm => ?_, (h.keepsCtx hk).trans (ht.keepsMem _)⟩
  · rw [List.mem_append, not_or] at hm
    rw [State.reg, ht.regs]
    exact (hr r j hm.1).trans (h.regs r j hm.2)
  · rw [State.cnt, ht.frame]
    exact (congrArg (fun m => SMap.get _ m _) hc).trans (h.cnts d j hm)

end

/-- A tag that is right counts the group before it as good. -/
theorem Forwards.tagGood {w : OtnPend} (h : Forwards s p i c a) (g : OtnIn) (hp : (s.chan c).rxPend = some w)
    (hh : w.held = none) (ht : takeSeal s c (g.oh.opuc.take 32) = wantedTag s c i w) (hk : w.slot = inCur s c)
    (hlow : inHighest s c < w.counter) (hmax : w.counter < 2 ^ 64) :
    ∃ t, Machine.exec (.otnGroupRx p i g) s = .next t ∧ pends t c cInOk = pends s c cInOk + 1 ∧
      ctx t (inHigh w.slot) c = w.counter ∧ ctx t Ctx.GOOD_RUN c = min 8 (ctx s Ctx.GOOD_RUN c + 1) ∧
      keepsRegs s t [(.PORT_EVT, p.val)] ∧ keepsCnts s t (rxCounts p) ∧
      keepsCtx s t c [inHigh w.slot, Ctx.GOOD_RUN, Ctx.REPLACING] := by
  have hv := groupTaken s p c g
  have hx := h.exec g
  revert hv hx
  generalize monitorLine (countGroup s p (p.val - 32) g) c g = v
  intro hv hx
  dsimp only at hx
  have hg : TagGood v (otnVerify v c p i (takeSeal s c (g.oh.opuc.take 32))) c w :=
    otnVerify_good (by rw [hv.chan]; exact hp) hh (by rw [hv.chan]; exact h.whole) (ht.trans (hv.wantedTag ..).symm)
      (hk.trans (hv.same.ctx ..).symm) ((hv.same.inHighest c).trans_lt hlow) hmax (hv.same.quiet h.quiet)
  revert hg hx
  generalize otnVerify v c p i (takeSeal s c (g.oh.opuc.take 32)) = u
  intro hx hg
  have hpass : ctxBit u Ctx.OTN_HOLD c = false := by
    rw [ctxBit, hg.keeps.ctx (by rw [hg.frame]; rfl) (apart_tagNotes (by decide) (by decide) w.slot)]
    exact (congrArg (· != 0) (hv.same.ctx ..)).trans h.passing
  have ht := carried_groupServed hpass p i g (u.chan c).rxReplace
  have hclear : ((groupServed u c p i g (u.chan c).rxReplace).chan c).rxClear = false := by
    rw [ht.clear, hg.clear, hv.chan]
    exact h.uncleared
  rw [replacementEnds_none hclear] at hx
  obtain ⟨hr, hc, hk⟩ := hv.kept (rs := []) (fun r j _ => by rw [hg.frame]; rfl) (by rw [hg.frame]) hg.keeps ht
  refine ⟨_, hx, ?_, ?_, ?_, hr, hc, hk⟩
  · rw [ht.held _ (by decide), hg.count, hv.pends]
  · rw [ht.ctx, hg.high]
  · rw [ht.ctx, hg.run]
    exact congrArg (fun n => min 8 (n + 1)) (hv.same.ctx ..)

/-- A tag that is wrong raises SEAL_AUTH and begins a replacement. -/
theorem Forwards.tagBad {w : OtnPend} (h : Forwards s p i c a) (g : OtnIn) (hp : (s.chan c).rxPend = some w)
    (hh : w.held = none) (ht : takeSeal s c (g.oh.opuc.take 32) ≠ wantedTag s c i w) :
    ∃ t, Machine.exec (.otnGroupRx p i g) s = .next t ∧ pends t c cInDropAuth = pends s c cInDropAuth + 1 ∧
      t.fb CH_EVT.SEAL_AUTH c = true ∧ ctxBit t Ctx.REPLACING c = true ∧ ctx t Ctx.GOOD_RUN c = 0 ∧
      (t.chan c).rxReplace = true ∧ keepsCtx s t c [Ctx.GOOD_RUN, Ctx.REPLACING] ∧
      keepsRegs s t [(.CH_EVT, c), (.PORT_EVT, p.val)] ∧ keepsCnts s t (rxCounts p) := by
  have hv := groupTaken s p c g
  have hx := h.exec g
  revert hv hx
  generalize monitorLine (countGroup s p (p.val - 32) g) c g = v
  intro hv hx
  dsimp only at hx
  have hg : TagBad v (otnVerify v c p i (takeSeal s c (g.oh.opuc.take 32))) c :=
    otnVerify_bad (by rw [hv.chan]; exact hp) hh (by rw [hv.wantedTag]; exact ht) (hv.same.quiet h.quiet)
  revert hg hx
  generalize otnVerify v c p i (takeSeal s c (g.oh.opuc.take 32)) = u
  intro hx hg
  have hslot : u.f CH_REMAP.SLOT c = v.f CH_REMAP.SLOT c := by
    rw [State.f, hg.regs _ _ (by simp [CH_REMAP.SLOT]), State.f]
  have hpass : ctxBit u Ctx.OTN_HOLD c = false := by
    rw [ctxBit, hg.keeps.ctx hslot (by decide)]
    exact (congrArg (· != 0) (hv.same.ctx ..)).trans h.passing
  have ht := carried_groupServed hpass p i g (u.chan c).rxReplace
  have hclear : ((groupServed u c p i g (u.chan c).rxReplace).chan c).rxClear = false := ht.clear.trans hg.clear
  rw [replacementEnds_none hclear] at hx
  obtain ⟨hr, hc, hk⟩ := hv.kept (rs := [(.CH_EVT, c)]) hg.regs (by rw [hg.frame]) hg.keeps ht
  refine ⟨_, hx, ?_, ?_, ?_, ?_, ht.replace.trans hg.replace, hk, hr, hc⟩
  · rw [ht.held _ (by decide), hg.count, hv.pends]
  · rw [State.fb, State.f, State.reg, ht.regs]
    exact hg.event
  · rw [ctxBit, ht.ctx, hg.replacing]
    rfl
  · rw [ht.ctx, hg.run]

end

end Sys2Proof.Machine
end

section
/-! OTN groups sent: the next counter, the seal, the way to the line (R47, R107–R112). -/

namespace Sys2Proof.Machine

/-! ### A unit to an egress engine -/

theorem giveEgress_frame (s : State) (p : Nat) (us : List (BusVal × List Byte)) :
    giveEgress s p us = fedBy s (giveEgress s p us).engs (giveEgress s p us).ports := by
  unfold giveEgress takeEngine
  cases nextSlice (egressSlices s p) (s.port p).engNext <;> rfl

/-- The engines and ports after a unit follow from those before it and from the slices that take units. -/
theorem giveEgress_congr {s t : State} {p : Nat} (hs : egressSlices t p = egressSlices s p) (hp : t.ports = s.ports)
    (he : t.engs = s.engs) (us : List (BusVal × List Byte)) :
    (giveEgress t p us).engs = (giveEgress s p us).engs ∧ (giveEgress t p us).ports = (giveEgress s p us).ports := by
  have hport : t.port p = s.port p := congrArg (SMap.get _ · p) hp
  unfold giveEgress takeEngine
  rw [hs, hport]
  cases nextSlice (egressSlices s p) (s.port p).engNext with
  | none => exact ⟨he, hp⟩
  | some sl =>
    simp only [Option.map_some]
    unfold State.updEng State.setEng State.eng State.setPort
    exact ⟨by simp only [he], by simp only [hp]⟩

/-! ### The counter of the next group (R109, R140) -/

section
variable {s t : State} {c : Nat}

theorem egValid_clean (h : noErrors s) (c k : Nat) : egValid s c k = bitAt (ctx s Ctx.VALID c) k := by
  unfold egValid egHeadBad
  simp only [ctxPoisoned_clean h, Bool.not_false, Bool.and_true]

theorem seqLineBad_clean (h : noErrors s) (c : Nat) : seqLineBad s c = false :=
  List.any_eq_false.2 fun w _ => Bool.eq_false_iff.1 (poisoned_clean h ctxCtl w)

/-- What a sequencer decides is seen through the contexts, the registers but those of ports, the key and the clock, and through
what the channel waits for; not through its monitors. -/
theorem seqDecide_monitored {m : OtnMon} (h : SameIngress s { t with chans := s.chans }) (hn : noErrors s)
    (hc : t.chan c = { s.chan c with mon := m }) (hk : t.keys = s.keys) (hr : t.rtc = s.rtc) (blocks : Nat) :
    seqDecide t c blocks = seqDecide s c blocks := by
  have hx : ∀ x d, ctx t x d = ctx s x d := fun x d => h.ctx x d
  have hf : ∀ (x : Fld) (i : Nat), x.reg ∉ portNotes → t.f x i = s.f x i := h.field
  have hnt : noErrors t := h.noErrors hn
  have hkey : t.key c = s.key c := congrArg (SMap.get _ · c) hk
  have hframing : chFraming t c = chFraming s c := h.chFraming c
  unfold seqDecide switchDue egNextReady egNext egCur atLimit nextNumber seqLimit reserved isXpn baleV1 ctxBit State.fb
  simp only [egValid_clean hn, egValid_clean hnt, seqLineBad_clean hn, seqLineBad_clean hnt, hx, hkey, hframing, hc, hr,
    hf CH_STATUS.STARVED c (by decide), hf TWN_STATUS.ROLE 0 (by decide)]

/-- The fields that a group's counter writes. -/
abbrev groupFields : List CtxF := [Ctx.OTN_GROUP, Ctx.EPOCH_BLOCKS]

/-- The counter and the blocks of a channel advance for a group. -/
def groupNumbered (s : State) (c : Nat) : State :=
  ctxD (ctxD s Ctx.EPOCH_BLOCKS c (ctx s Ctx.EPOCH_BLOCKS c + otnBlocks)) Ctx.OTN_GROUP c (ctx s Ctx.OTN_GROUP c + 1)

theorem groupNumbered_quiet (h : memQuiet s ctxCtl) (hn : ctx s Ctx.OTN_GROUP c < 2 ^ 63) :
    ctxOnly s (groupNumbered s c) c groupFields ∧ ctx (groupNumbered s c) Ctx.OTN_GROUP c = ctx s Ctx.OTN_GROUP c + 1 := by
  obtain ⟨-, o1⟩ := ctxSet_quiet (x := Ctx.EPOCH_BLOCKS) h (by decide) c (ctx s Ctx.EPOCH_BLOCKS c + otnBlocks) codeData
  obtain ⟨hs, o2⟩ := ctxSet_quiet (x := Ctx.OTN_GROUP) (o1.frame.quiet h) (by decide) c (ctx s Ctx.OTN_GROUP c + 1) codeData
  refine ⟨(o1.mono (by simp)).trans (o2.mono (by simp)), hs.trans (Nat.mod_eq_of_lt ?_)⟩
  show _ < 2 ^ 64
  omega

/-- A group that stays under the current slot takes the next counter. -/
theorem sequence_group (h : memQuiet s ctxCtl) (ho : chFraming s c = frOtn) (hr : s.f TWN_STATUS.ROLE 0 ≠ 1)
    (hd : seqDecide s c otnBlocks = .stay) :
    sequence s c otnBlocks = (some (egCur s c, ctx s Ctx.OTN_GROUP c), groupNumbered s c) ∧ ctx s Ctx.OTN_GROUP c < 2 ^ 63 := by
  have hnum : nextNumber s c = ctx s Ctx.OTN_GROUP c := if_pos ho
  have hlt : ctx s Ctx.OTN_GROUP c < 2 ^ 63 := by
    have := of_decide_eq_false (atLimit_of_stay hd)
    have := seqLimit_le s c
    omega
  refine ⟨?_, hlt⟩
  have ob : ctxOnly s (ctxD s Ctx.EPOCH_BLOCKS c (ctx s Ctx.EPOCH_BLOCKS c + otnBlocks)) c [Ctx.EPOCH_BLOCKS] :=
    (ctxSet_quiet h (by decide) c _ codeData).2
  have hf : chFraming (ctxD s Ctx.EPOCH_BLOCKS c (ctx s Ctx.EPOCH_BLOCKS c + otnBlocks)) c = frOtn := by
    rw [(ctxOnly.sealSame (ob.mono (by simp))).chFraming]
    exact ho
  have on := (groupNumbered_quiet h hlt).1
  have hpass : reserveEval (groupNumbered s c) c = groupNumbered s c :=
    reserveEval_passive (by rw [on.frame.f]; exact hr) c
  have hlook : egLook s c = s := ctxLook_clean h.1 ..
  have hcur : egCur (groupNumbered s c) c = egCur s c := on.ctx (by decide)
  unfold sequence
  simp only [hlook, hd, reduceCtorEq, if_false, hnum, if_pos hf]
  rw [← groupNumbered, hpass, hcur]

/-- The group that follows, as the sequencer announces it. -/
def nextGroup (s : State) (c : Nat) : OtnUnit :=
  let e := ctx s (egEpoch (egCur s c)) c
  ⟨ctx s Ctx.OTN_GROUP c, egCur s c, e, otnDesc s c (ctx s Ctx.OTN_GROUP c) e⟩

theorem otnAssign_stay (h : memQuiet s ctxCtl) (ho : chFraming s c = frOtn) (hr : s.f TWN_STATUS.ROLE 0 ≠ 1)
    (hd : seqDecide s c otnBlocks = .stay) : otnAssign s c = (some (nextGroup s c), groupNumbered s c) := by
  obtain ⟨hseq, hlt⟩ := sequence_group h ho hr hd
  have on := (groupNumbered_quiet h hlt).1
  have he : ∀ k, ctx (groupNumbered s c) (egEpoch k) c = ctx s (egEpoch k) c := fun k => on.ctx (by unfold egEpoch; split <;> decide)
  have hh : ctx (groupNumbered s c) Ctx.OTN_HOLD c = ctx s Ctx.OTN_HOLD c := on.ctx (by decide)
  unfold otnAssign nextGroup otnDesc ctxBit
  rw [hseq]
  simp only [he, hh]

end

/-! ### A group sealed and sent (R47, R110–R112) -/

section
variable {s : State} {c lp i : Nat} {u : OtnUnit}

/-- Ciphertext and tag of a group. -/
abbrev groupCt (s : State) (c : Nat) (u : OtnUnit) (payload : List Byte) : List Byte :=
  otnCrypt s c false (egMat s c u.slot) u.counter payload
abbrev groupTag (s : State) (c i : Nat) (u : OtnUnit) (payload : List Byte) : List Byte :=
  otnTag s c false (egMat s c u.slot) u.counter i u.desc (groupCt s c u payload)

/-- A sealed group leaves its tag for the next one, the announcement and the counts. -/
def groupSealed (s : State) (c : Nat) (tag : List Byte) (v : OtnUnit) (len : Nat) : State :=
  chCount (chCount (s.setChan c { s.chan c with otnTag := tag, otnNext := some v }) c cOutOk 1) c cOutOctets len

theorem otnSeal_stay {payload : List Byte} (h : memQuiet s ctxCtl) (hl : chLine s c = lp) (ho : framing s lp = frOtn)
    (hr : s.f TWN_STATUS.ROLE 0 ≠ 1) (hd : seqDecide s c otnBlocks = .stay) :
    let w := giveEgress s lp (groupUnits u.counter u.slot c payload)
    otnSeal s c i u payload = (groupCt s c u payload, (s.chan c).otnTag ++ (nextGroup s c).desc,
      groupSealed (groupNumbered w c) c (groupTag s c i u payload) (nextGroup s c) payload.length) := by
  intro w
  obtain ⟨engs, ports, hw⟩ : ∃ engs ports, w = fedBy s engs ports := ⟨_, _, giveEgress_frame ..⟩
  have hasg : otnAssign w c = (some (nextGroup s c), groupNumbered w c) := by
    rw [hw]
    exact otnAssign_stay (s := fedBy s engs ports) h (by unfold chFraming; exact (congrArg (framing s) hl).trans ho) hr hd
  have hchan : w.chan c = s.chan c := by rw [hw]; rfl
  unfold otnSeal
  dsimp only
  rw [hl, show giveEgress s lp (groupUnits u.counter u.slot c payload) = w from rfl, hasg, hchan]
  rfl

/-- A group leaves on the line, with its overhead made anew. -/
def sentToLine (s : State) (c lp i : Nat) (payload opuc oduc : List Byte) : State :=
  let m := (s.chan c).mon
  let r := regenerate lp i m.lineOut opuc oduc payload 8
  (s.setChan c { s.chan c with mon := { m with lineOut := r.2 } }).emit (.otn lp i payload r.1)

theorem otnSend_sent {ct sb : List Byte} {oh : OtnOh} (hb : s.f PORT_CTL.LPBK lp = 0) :
    otnSend s c lp i u ct sb oh = sentToLine s c lp i ct (putSeal s c oh.opuc sb) oh.oduc := by
  have hf : ∀ v, (s.setChan c v).f PORT_CTL.LPBK lp = 0 := fun v => hb
  have hf' : ∀ v o, ((s.setChan c v).emit o).f PORT_CTL.LPBK lp = 0 := fun v o => hb
  unfold otnSend otnToLine otnNear
  simp only [hf, hf', if_true, Nat.reduceEqDiff, if_false, false_and, Bool.false_eq_true]
  rfl

/-- A channel after a group: the tag for the next one, the announcement, the overhead held. -/
abbrev chanSent (x : Chan) (tag : List Byte) (v : OtnUnit) (held : List Byte) : Chan :=
  { x with otnTag := tag, otnNext := some v, mon := { x.mon with lineOut := held } }

/-- A sealed group that left on the line. -/
structure LeftSealed (s t : State) (c lp i : Nat) (tag : List Byte) (v : OtnUnit) (len : Nat) (ct : List Byte)
    (oh : OtnOh × List Byte) : Prop where
  sent : t.out = s.out ++ [.otn lp i ct oh.1]
  chan : ∀ d, t.chan d = if d = c then chanSent (s.chan c) tag v oh.2 else s.chan d
  ok : pends t c cOutOk = pends s c cOutOk + 1
  octets : pends t c cOutOctets = pends s c cOutOctets + len
  frame : t = { s with out := t.out, chans := t.chans, cntPend := t.cntPend }

theorem leftSealed (s : State) (c lp i : Nat) (tag : List Byte) (v : OtnUnit) (len : Nat) (ct opuc oduc : List Byte) :
    LeftSealed s (sentToLine (groupSealed s c tag v len) c lp i ct opuc oduc) c lp i tag v len ct
      (regenerate lp i (s.chan c).mon.lineOut opuc oduc ct 8) := by
  have hne : cOutOctets ≠ cOutOk := by decide
  have hchan : ∀ d, (groupSealed s c tag v len).chan d =
      if d = c then { s.chan c with otnTag := tag, otnNext := some v } else s.chan d := fun d => State.chan_setChan ..
  have hmon : ((groupSealed s c tag v len).chan c).mon = (s.chan c).mon := by rw [hchan, if_pos rfl]
  have hok : pends (groupSealed s c tag v len) c cOutOk = pends s c cOutOk + 1 := by
    rw [groupSealed, pends_chCount, if_neg (by omega), pends_chCount_self]
    rfl
  have hoctets : pends (groupSealed s c tag v len) c cOutOctets = pends s c cOutOctets + len := by
    rw [groupSealed, pends_chCount_self, pends_chCount, if_neg (by omega)]
    rfl
  have hframe : groupSealed s c tag v len = { s with
      chans := (groupSealed s c tag v len).chans, cntPend := (groupSealed s c tag v len).cntPend } := rfl
  unfold sentToLine
  rw [hmon]
  dsimp only
  revert hchan hok hoctets hframe
  generalize regenerate lp i (s.chan c).mon.lineOut opuc oduc ct 8 = r
  generalize groupSealed s c tag v len = t
  intro hchan hok hoctets hframe
  have hout : t.out = s.out := (congrArg State.out hframe).trans rfl
  refine ⟨congrArg (· ++ [Out.otn lp i ct r.1]) hout, fun d => (State.chan_setChan ..).trans ?_, hok, hoctets, ?_⟩
  · rw [hchan, hchan, if_pos rfl]
    by_cases hd : d = c
    · rw [if_pos hd, if_pos hd]
    · rw [if_neg hd, if_neg hd, if_neg hd]
  · rw [hframe]
    rfl

end

/-! ### A group from the client (R47, R107–R112) -/

section
variable {s v : State} {p : Fin 64} {i : Fin 16} {g : OtnIn} {c : Nat} {u : OtnUnit}

/-- Counters that a group sent on a line port touches: those of its client port's receiver and of its own transmitter. -/
abbrev txCounts (p : Fin 64) : List (Ctr × Nat) := [(.PORT_RX_FRAMES, p.val - 32), (.PORT_TX_FRAMES, p.val)] ++ fecCnts (p.val - 32)

theorem countGroup_tx (g : OtnIn) (hb : s.f PORT_CTL.LPBK p ≠ 1) :
    onlyRegs s (countGroup s (p.val - 32) p g) [(.PORT_EVT, p.val - 32)] (txCounts p) :=
  countGroup_only (List.subset_append_right ..) (by simp) (by simp) fun h => absurd h hb

/-- A client monitor after a group. -/
abbrev clientMon (m : OtnMon) (g : OtnIn) : OtnMon :=
  let r := checkBips m.clientIn g
  { m with clientIn := r.2.2, pmErrs := m.pmErrs + r.1, smErrs := m.smErrs + r.2.1 }

/-- The group was counted, and its client monitor took it. -/
abbrev GroupGiven (s v : State) (p : Fin 64) (c : Nat) (g : OtnIn) : Prop :=
  Monitored s v (p.val - 32) c (clientMon (s.chan c).mon g) (txCounts p)

theorem groupGiven (hb : s.f PORT_CTL.LPBK p ≠ 1) (c : Nat) (g : OtnIn) :
    GroupGiven s (monitorClient (countGroup s (p.val - 32) p g) c g) p c g := by
  have ho := countGroup_tx g hb
  have ht := tallied_countGroup ho
  have hm := ht.monitored ho.2.2 c (clientMon ((countGroup s (p.val - 32) p g).chan c).mon g)
  rw [ht.sameIngress.chan] at hm
  unfold monitorClient
  rw [ht.sameIngress.chan]
  exact hm

/-- Without a far-end loopback on the client port, what a group counts is all that goes before it is sent. -/
theorem otnGroupTx_counted (hs : otnSends s p i = true) (hb : s.f PORT_CTL.LPBK p ≠ 1)
    (hfar : s.f PORT_CTL.LPBK (p.val - 32) ≠ 2) :
    let t := countGroup s (p.val - 32) p g
    otnSends t p i = true ∧ farEnd t (p.val - 32) (.otn (p.val - 32) i g.payload g.oh) = t ∧
      isLine p = true ∧ framing s p = frOtn ∧ Tallied s t (p.val - 32) := by
  intro t
  have ht : Tallied s t (p.val - 32) := tallied_countGroup (countGroup_tx g hb)
  have hports : isLine p = true ∧ framing s p = frOtn := by
    simp only [otnSends, Bool.and_eq_true, beq_iff_eq] at hs
    tauto
  refine ⟨(ht.otnSends ..).trans hs, ?_, hports.1, hports.2, ht⟩
  have hf : ¬ t.f PORT_CTL.LPBK (p.val - 32) = 2 := by rw [ht.f (by decide)]; exact hfar
  unfold farEnd
  rw [if_neg fun h => hf h.1]

/-- An OPUC that no channel carries. -/
theorem otnGroupTx_oci (hs : otnSends s p i = true) (hc : otnCarries s p = false) (hb : s.f PORT_CTL.LPBK p ≠ 1)
    (hfar : s.f PORT_CTL.LPBK (p.val - 32) ≠ 2) :
    exec (.otnGroupTx p i g) s = .next ((countGroup s (p.val - 32) p g).emit (.oci p)) := by
  obtain ⟨hsend, hfe, hline, hframing, ht⟩ := otnGroupTx_counted (g := g) hs hb hfar
  show execOtnGroupTx p i g s = _
  unfold execOtnGroupTx
  rw [hline, hframing, if_neg (by decide), hfe]
  dsimp only
  rw [hsend, ht.otnCarries, hc, if_neg (by decide), if_pos (by simp), ht.f (by decide), if_neg hb]

/-- Channel whose transmitter sends a group that was announced, under the current slot. -/
structure Sends (s : State) (p : Fin 64) (i : Fin 16) (c : Nat) (g : OtnIn) (u : OtnUnit) : Prop where
  sends : otnSends s p i = true
  carries : otnCarries s p = true
  engines : otnEngines s p = true
  chan : otnChan s p i = some c
  receives : receiving s (p.val - 32) = true
  line : s.f PORT_CTL.LPBK p = 0
  client : s.f PORT_CTL.LPBK (p.val - 32) = 0
  whole : g.payload.length = otnGroupBytes
  next : (s.chan c).otnNext = some u
  stays : seqDecide s c otnBlocks = .stay
  passive : s.f TWN_STATUS.ROLE 0 ≠ 1
  quiet : memQuiet s ctxCtl

theorem chLine_of_otnChan {q j : Nat} (h : otnChan s q j = some c) : chLine s c = q := by
  have hm : c ∈ portChans s q := List.mem_of_find?_eq_some h
  simpa using (Bool.and_eq_true _ _ ▸ (List.mem_filter.1 hm).2 : chRuns s c = true ∧ (chLine s c == q) = true).2

/-- A group of such a channel is sealed and sent. -/
theorem Sends.exec (h : Sends s p i c g u) :
    let v := monitorClient (countGroup s (p.val - 32) p g) c g
    let x := otnSeal v c i u g.payload
    exec (.otnGroupTx p i g) s = .next (otnSend x.2.2 c p i u x.1 x.2.1 g.oh) := by
  have hb : s.f PORT_CTL.LPBK p ≠ 1 := by rw [h.line]; decide
  obtain ⟨hsend, hfe, hline, hframing, ht⟩ := otnGroupTx_counted (g := g) h.sends hb (by rw [h.client]; decide)
  have hv := groupGiven hb c g
  have hslice : sliceAt g.payload 0 otnGroupBytes = g.payload :=
    sliceAt_mid (a := []) (c := []) (by simp) rfl h.whole.symm
  have hfrom : otnFromClient (countGroup s (p.val - 32) p g) c p g = (g, monitorClient (countGroup s (p.val - 32) p g) c g) := by
    unfold otnFromClient
    simp only [ht.f (x := PORT_CTL.LPBK) (by decide), h.client, ht.receiving, h.receives, if_true]
  intro v x
  have hnext : (v.chan c).otnNext = some u := by rw [hv.chan]; exact h.next
  show execOtnGroupTx p i g s = _
  unfold execOtnGroupTx
  rw [hline, hframing, if_neg (by decide), hfe]
  dsimp only
  rw [hsend, ht.otnCarries, h.carries, ht.otnEngines, h.engines, if_neg (by decide), if_neg (by decide), ht.otnChan, h.chan]
  dsimp only
  rw [hfrom]
  dsimp only
  rw [show monitorClient (countGroup s (p.val - 32) p g) c g = v from rfl, hnext]
  dsimp only
  rw [hslice]

/-! ### What a sent group leaves -/

theorem SameIngress.egMat {t : State} (h : SameIngress s t) (c k : Nat) : egMat t c k = egMat s c k := by
  unfold Sys2Proof.Machine.egMat
  rw [h.ctxBytes, h.ctxBytes, h.ctxBytes, h.ctx]

theorem SameIngress.nextGroup {t : State} (h : SameIngress s t) (c : Nat) : nextGroup t c = nextGroup s c := by
  unfold Sys2Proof.Machine.nextGroup otnDesc egCur ctxBit
  simp only [h.ctx]

/-- A group that left sealed, with the announcement of the next one. -/
structure GroupSent (s t : State) (p : Fin 64) (i : Fin 16) (c : Nat) (g : OtnIn) (u : OtnUnit) (oh : OtnOh × List Byte) :
    Prop where
  sent : t.out = s.out ++ [.otn p i (groupCt s c u g.payload) oh.1]
  engs : t.engs = (giveEgress s p (groupUnits u.counter u.slot c g.payload)).engs
  ports : t.ports = (giveEgress s p (groupUnits u.counter u.slot c g.payload)).ports
  chan : t.chan c = { s.chan c with
    otnTag := groupTag s c i u g.payload, otnNext := some (nextGroup s c),
    mon := { clientMon (s.chan c).mon g with lineOut := oh.2 } }
  others : keepsChans s t c
  counter : ctx t Ctx.OTN_GROUP c = ctx s Ctx.OTN_GROUP c + 1
  ok : pends t c cOutOk = pends s c cOutOk + 1
  octets : pends t c cOutOctets = pends s c cOutOctets + g.payload.length
  keeps : keepsCtx s t c groupFields
  regs : keepsRegs s t [(.PORT_EVT, p.val - 32)]
  cnts : keepsCnts s t (txCounts p)
  frame : t = { s with out := t.out, regs := t.regs, cnts := t.cnts, chans := t.chans, cntPend := t.cntPend, rams := t.rams,
                       valid := t.valid, memCtl := t.memCtl, engs := t.engs, ports := t.ports }

/-- Overhead of a group that leaves: the tag of the group before, the descriptor of the next one, both BIP-8 made anew. -/
abbrev groupOh (s : State) (p : Fin 64) (i : Fin 16) (c : Nat) (g : OtnIn) (u : OtnUnit) : OtnOh × List Byte :=
  regenerate p i (s.chan c).mon.lineOut (putSeal s c g.oh.opuc ((s.chan c).otnTag ++ (nextGroup s c).desc)) g.oh.oduc
    (groupCt s c u g.payload) 8

/-- What is sent once the engine has the group and the next counter is taken. -/
theorem Monitored.groupSent {w n t : State} (hv : GroupGiven s v p c g)
    (hw : w = giveEgress v p (groupUnits u.counter u.slot c g.payload)) (hn : ctxOnly w n c groupFields)
    (hc : ctx n Ctx.OTN_GROUP c = ctx s Ctx.OTN_GROUP c + 1)
    (ht : LeftSealed n t c p i (groupTag s c i u g.payload) (nextGroup s c) g.payload.length (groupCt s c u g.payload)
      (groupOh s p i c g u)) : GroupSent s t p i c g u (groupOh s p i c g u) := by
  obtain ⟨hengs, hports⟩ := giveEgress_congr (hv.egress p) ((congrArg State.ports hv.frame).trans rfl)
    ((congrArg State.engs hv.frame).trans rfl) (groupUnits u.counter u.slot c g.payload)
  obtain ⟨engs, ports, hfed⟩ : ∃ engs ports, w = fedBy v engs ports := ⟨_, _, hw.trans (giveEgress_frame ..)⟩
  rw [← hw, hfed] at hengs hports
  have hframe : n = { fedBy v engs ports with rams := n.rams, valid := n.valid, memCtl := n.memCtl } := by rw [← hfed]; exact hn.frame
  have hchan : ∀ d, n.chan d = v.chan d := fun d => (chan_of_chans hn.frame.chans d).trans (by rw [hfed]; rfl)
  have hheld : n.cntPend = s.cntPend := (congrArg State.cntPend hframe).trans ((congrArg State.cntPend hv.frame).trans rfl)
  have hmem : Machine.keepsCtx v n c groupFields := by
    have hk : Machine.keepsCtx w n c groupFields := hn.keeps
    rw [hfed] at hk
    exact hk
  have hkeep : keepsMem n t (groupFields.map (fieldRange s c)) := fun k a _ => memByte_congr (by rw [ht.frame]) (by rw [ht.frame]) k a
  refine ⟨?_, ?_, ?_, ?_, fun d hd => ?_, ?_, ?_, ?_, (hv.keepsCtx hmem).trans hkeep, fun r j hm => ?_, fun d j hm => ?_, ?_⟩
  · rw [ht.sent, hframe]
    exact congrArg (· ++ _) ((congrArg State.out hv.frame).trans rfl)
  · rw [ht.frame, hframe]
    exact hengs
  · rw [ht.frame, hframe]
    exact hports
  · rw [ht.chan, if_pos rfl, hchan, hv.chan]
  · rw [ht.chan, if_neg hd, hchan]
    exact hv.others d hd
  · rw [← hc, ht.frame]
    rfl
  · rw [ht.ok, pends_of_held hheld]
  · rw [ht.octets, pends_of_held hheld]
  · rw [ht.frame, hframe]
    exact hv.regs r j hm
  · rw [ht.frame, hframe]
    exact hv.cnts d j hm
  · rw [ht.frame, hframe, hv.frame]
    rfl

/-- A group that was announced leaves sealed, and the next one is announced. -/
theorem Sends.sent (h : Sends s p i c g u) :
    ∃ t, Machine.exec (.otnGroupTx p i g) s = .next t ∧ GroupSent s t p i c g u (groupOh s p i c g u) := by
  have hx := h.exec
  have hv := groupGiven (s := s) (p := p) (by rw [h.line]; decide) c g
  revert hv hx
  dsimp only
  generalize monitorClient (countGroup s (p.val - 32) p g) c g = v
  intro hx hv
  have hq : memQuiet v ctxCtl := hv.same.quiet h.quiet
  have hline : chLine v c = p := (hv.same.ctx ..).trans (chLine_of_otnChan h.chan)
  have hframing : framing v p = frOtn := by
    refine (hv.same.field _ _ (by decide)).trans ?_
    have := h.sends
    simp only [otnSends, Bool.and_eq_true, beq_iff_eq, framing] at this
    tauto
  have hpassive : v.f TWN_STATUS.ROLE 0 ≠ 1 := by
    rw [show v.f TWN_STATUS.ROLE 0 = s.f TWN_STATUS.ROLE 0 from hv.same.field _ _ (by decide)]
    exact h.passive
  have hstay : seqDecide v c otnBlocks = .stay :=
    (seqDecide_monitored hv.same h.quiet.1 hv.chan (by rw [hv.frame]) (by rw [hv.frame]) _).trans h.stays
  have hmat : egMat v c u.slot = egMat s c u.slot := hv.same.egMat ..
  have hct : groupCt v c u g.payload = groupCt s c u g.payload := (hv.same.otnCrypt ..).trans (by rw [hmat])
  have htag : groupTag v c i u g.payload = groupTag s c i u g.payload := (hv.same.otnTag ..).trans (by rw [hmat, hct])
  have hnext : nextGroup v c = nextGroup s c := hv.same.nextGroup c
  have hprev : (v.chan c).otnTag = (s.chan c).otnTag := by rw [hv.chan]
  rw [otnSeal_stay hq hline hframing hpassive hstay, hct, htag, hnext, hprev] at hx
  dsimp only at hx
  obtain ⟨engs, ports, hfed⟩ : ∃ engs ports, giveEgress v p (groupUnits u.counter u.slot c g.payload) = fedBy v engs ports :=
    ⟨_, _, giveEgress_frame ..⟩
  have hlow := (sequence_group hq ((congrArg (framing v) hline).trans hframing) hpassive hstay).2
  obtain ⟨hn, hc⟩ := groupNumbered_quiet (s := fedBy v engs ports) hq hlow
  have hcount : ctx (fedBy v engs ports) Ctx.OTN_GROUP c = ctx s Ctx.OTN_GROUP c := hv.same.ctx ..
  rw [hcount] at hc
  rw [hfed] at hx
  revert hx hn hc
  generalize groupNumbered (fedBy v engs ports) c = n
  intro hx hn hc
  have hmon : (n.chan c).mon.lineOut = (s.chan c).mon.lineOut := by
    rw [chan_of_chans hn.frame.chans c, show (fedBy v engs ports).chan c = v.chan c from rfl, hv.chan]
  obtain ⟨t, ht⟩ : ∃ t, t = groupSealed n c (groupTag s c i u g.payload) (nextGroup s c) g.payload.length := ⟨_, rfl⟩
  have hslot : ∀ d, ctx t Ctx.SEAL_POS d = ctx n Ctx.SEAL_POS d := fun d => by rw [ht]; rfl
  have hput : putSeal t c g.oh.opuc ((s.chan c).otnTag ++ (nextGroup s c).desc) =
      putSeal s c g.oh.opuc ((s.chan c).otnTag ++ (nextGroup s c).desc) := by
    unfold putSeal
    rw [hslot, hn.ctx (by decide), show ctx (fedBy v engs ports) Ctx.SEAL_POS c = ctx s Ctx.SEAL_POS c from hv.same.ctx ..]
  have hfree : t.f PORT_CTL.LPBK p = 0 := by
    rw [ht, show (groupSealed n c _ _ _).f PORT_CTL.LPBK p = n.f PORT_CTL.LPBK p from rfl, hn.frame.f]
    exact (hv.same.field _ _ (by decide)).trans h.line
  rw [← ht, otnSend_sent hfree, hput, ht] at hx
  refine ⟨_, hx, hv.groupSent hfed.symm hn hc ?_⟩
  have hleft := leftSealed n c p i (groupTag s c i u g.payload) (nextGroup s c) g.payload.length (groupCt s c u g.payload)
    (putSeal s c g.oh.opuc ((s.chan c).otnTag ++ (nextGroup s c).desc)) g.oh.oduc
  rw [hmon] at hleft
  exact hleft

end

end Sys2Proof.Machine
end

section
/-! O27: OTN Seal, its descriptors, the groups received and the groups sent. -/

namespace Sys2Proof.Machine

/-- Settles O27. A descriptor moves the receiver along its states; a group received is counted, judged by the tag that follows it
and forwarded as it stands then; a group sent leaves under the counter that was announced, and announces the next. -/
theorem groupsLockOpenAndAreSealed : Obligations.GroupsLockOpenAndAreSealed := by
  unfold Obligations.GroupsLockOpenAndAreSealed
  refine ⟨fun s p i opuc c k a hh hc hq => ?_, fun s p i g c k a w => ?_, fun s p i g c u => ?_⟩
  · intro d slot full ann went
    have hx := otnDescriptorRx_eq (opuc := opuc) hh hc
    have hwent : ∀ {t st e l}, descriptorRx s c d = t → Went s t c st e l → went st e l := fun {t st e l} ht h =>
      ⟨t, hx.trans (congrArg _ ht), h.state, h.expects, h.others, h.keeps, h.frame, h.silent, h.lost⟩
    refine ⟨fun hok hs hst => ?_, fun hok hs hst ha hnext hhigh => ?_, fun hok hs hst hlow => ?_, fun hok hst hbad => ?_⟩
    · exact hwent (descriptorRx_hunt hok hs hst) (went_announced hq c (by decide) (by decide) _)
    · exact hwent (descriptorRx_follows hok hs hst ha hnext hhigh) (went_announced_cleared hq c _)
    · exact hwent (descriptorRx_stays hok hs hst hlow) (went_announced hq c (by decide) (by decide) _)
    · exact hwent (descriptorRx_bad hok hst hbad) (went_lost hq hst)
  · intro lp m pt oh chk tag want fed counts hh heng hcar hc hq hl ha hkept hwhole hclear hpass
    have h : Forwards s p i c a := ⟨hh, heng, hcar, hc, hq, hl, ha, hkept, hwhole, hclear, hpass⟩
    refine ⟨fun hs hp hb => ?_, fun hp hheld ht hk hlow hmax => ?_, fun hp hheld ht => ?_⟩
    · obtain ⟨t, hx, hf⟩ := h.unpended g hs hp hb
      exact ⟨t, hx, hf.sent, ⟨hf.engs, hf.ports⟩, hf.chan, hf.others, hf.frame, hf.regs, hf.cnts⟩
    · exact h.tagGood g hp hheld ht hk hlow hmax
    · exact h.tagBad g hp hheld ht
  · intro cp x m ct n e v oh chk counts
    refine ⟨fun hsend hcar heng hc hrec hb hcl hlen hnext hstay hrole hq => ?_, fun hsend hcar hb hfar => ?_⟩
    · obtain ⟨t, hx, h⟩ := Sends.sent ⟨hsend, hcar, heng, hc, hrec, hb, hcl, hlen, hnext, hstay, hrole, hq⟩
      exact ⟨t, hx, h.sent, ⟨h.engs, h.ports⟩, h.chan, h.others, h.counter, h.ok, h.octets.trans (congrArg _ hlen), h.keeps, h.regs,
        h.cnts, h.frame⟩
    · obtain ⟨hframe, hregs, hcnts⟩ := countGroup_tx g hb
      refine ⟨_, otnGroupTx_oci hsend hcar hb hfar, ?_, ?_, hregs, hcnts⟩
      · exact congrArg (· ++ [Out.oci p]) ((congrArg State.out hframe).trans rfl)
      · rw [State.emit, hframe]

end Sys2Proof.Machine
end

section
/-! # What contexts, keys, sessions and jobs are seen through -/

namespace Sys2Proof.Machine

/-! ### What a context is seen through -/

/-- The contexts of channels are as they were: context memory and the places of the channels in it. -/
structure ContextsKept (s t : State) : Prop where
  rams : t.rams = s.rams
  blank : t.ctxBlank = s.ctxBlank
  slot : ∀ c, slotOf t c = slotOf s c

section
variable {s t u : State}

theorem contextsKept_refl (s : State) : ContextsKept s s := ⟨rfl, rfl, fun _ => rfl⟩

theorem ContextsKept.trans (h : ContextsKept s t) (h' : ContextsKept t u) : ContextsKept s u :=
  ⟨h'.rams.trans h.rams, h'.blank.trans h.blank, fun c => (h'.slot c).trans (h.slot c)⟩

theorem contextsKept_of_eq (hm : t.rams = s.rams) (hb : t.ctxBlank = s.ctxBlank) (hr : t.regs = s.regs) : ContextsKept s t :=
  ⟨hm, hb, fun _ => by unfold slotOf State.f State.reg; rw [hr]⟩

theorem contextsKept_setReg {r : Reg} (hr : r ≠ .CH_REMAP) (s : State) (i : Nat) (v : Word) : ContextsKept s (s.setReg r i v) :=
  ⟨rfl, rfl, fun _ => State.f_setReg_ne fun h => hr h.1.symm⟩

theorem contextsKept_mirror (s : State) (r : MirrorRec) : ContextsKept s (mirror s r) := by
  rw [mirror_frame]
  exact contextsKept_of_eq rfl rfl rfl

theorem onlyRegs.contextsKept {rs : List (Reg × Nat)} {cs : List (Ctr × Nat)} (h : onlyRegs s t rs cs)
    (hrs : ∀ x ∈ rs, x.1 ≠ .CH_REMAP) : ContextsKept s t :=
  ⟨(congrArg State.rams h.1).trans rfl, (congrArg State.ctxBlank h.1).trans rfl, fun _ => h.f fun hx => hrs _ hx rfl⟩

variable (h : ContextsKept s t)
include h

theorem ContextsKept.fieldRead (x : CtxF) (c : Nat) : fieldRead t x c = fieldRead s x c := by
  unfold Sys2Proof.Machine.fieldRead ctxAddr
  rw [h.slot]
  exact ramBytes_congr fun _ _ => memByte_congr h.rams h.blank _ _

theorem ContextsKept.ctx (x : CtxF) (c : Nat) : ctx t x c = ctx s x c := by rw [ctx_eq, ctx_eq, h.fieldRead]

theorem ContextsKept.ctxBit (x : CtxF) (c : Nat) : ctxBit t x c = ctxBit s x c := by
  rw [Sys2Proof.Machine.ctxBit, h.ctx, Sys2Proof.Machine.ctxBit]

theorem ContextsKept.ctxBytes (x : CtxF) (c : Nat) : ctxBytes t x c = ctxBytes s x c := by
  unfold Sys2Proof.Machine.ctxBytes ctxAddr
  rw [h.slot]
  exact ramBytes_congr fun _ _ => memByte_congr h.rams h.blank _ _

theorem ContextsKept.keepsCtx {u v : State} {c : Nat} {fs : List CtxF} (hk : keepsCtx t u c fs) (h' : ContextsKept u v) :
    keepsCtx s v c fs := by
  have hr : fieldRange t c = fieldRange s c := funext fun x => by
    unfold fieldRange ctxAddr
    rw [h.slot]
  intro k a ha
  rw [← hr] at ha
  exact (memByte_congr h'.rams h'.blank k a).trans <| (hk k a ha).trans (memByte_congr h.rams h.blank k a)

end

/-! ### Keys and sessions of channels -/

theorem State.key_setKey (s : State) (c d : Nat) (v : ChanKey) : (s.setKey c v).key d = if d = c then v else s.key d :=
  SMap.get_set

@[simp] theorem State.key_setKey_self (s : State) (c : Nat) (v : ChanKey) : (s.setKey c v).key c = v := SMap.get_set_self

theorem key_of_keys {s t : State} (h : t.keys = s.keys) (c : Nat) : t.key c = s.key c := congrArg (SMap.get _ · c) h

theorem session_of_sessions {s t : State} (h : t.sessions = s.sessions) (c : Nat) : t.session c = s.session c := by
  rw [State.session, h, State.session]

theorem find?_insert {α : Type} {k : Nat} {v : α} {m : SMap α} (h : ∀ e ∈ m, e.1 ≠ k) :
    (SMap.insert k v m).find? (fun e => e.1 == k) = some (k, v) := by
  induction m with
  | nil => simp [SMap.insert]
  | cons e m ih =>
    have he : (e.1 == k) = false := beq_eq_false_iff_ne.2 (h e List.mem_cons_self)
    rw [SMap.insert]
    split
    · simp
    · rw [List.find?_cons, he]
      exact ih fun x hx => h x (List.mem_cons_of_mem _ hx)

theorem State.session_setSession (s : State) (c : Nat) {v : Session} (h : v.initiator = true) :
    (s.setSession c v).session c = some v := by
  have hne : v ≠ Session.none := by
    rintro rfl
    cases h
  have hfind := find?_insert (v := v) fun e he => (SMap.mem_erase (m := s.sessions) (k := c).1 he).2
  rw [State.session, State.setSession, SMap.set, if_neg hne, hfind]
  rfl

theorem session_erased (s : State) (c : Nat) : (s.dropSession c).session c = none := by
  have hnone : (SMap.erase s.sessions c).find? (fun e => e.1 == c) = none :=
    List.find?_eq_none.2 fun e he => by simpa using (SMap.mem_erase.1 he).2
  rw [State.session, State.dropSession, hnone]
  rfl

/-! ### Jobs of the Silo (R172, R511) -/

/-- Jobs were queued, handed out or changed: of the Silo and of the key engines nothing else differs. -/
structure JobsMoved (s t : State) : Prop where
  frame : t = { s with silo := t.silo, engs := t.engs }
  jobs : onlyJobs s t

section
variable {s t u : State}

theorem jobsMoved_refl (s : State) : JobsMoved s s := ⟨rfl, rfl, fun _ _ => rfl⟩

theorem onlyJobs.trans (h : onlyJobs s t) (h' : onlyJobs t u) : onlyJobs s u :=
  ⟨by rw [h'.1, h.1], fun e he => (h'.2 e he).trans (h.2 e he)⟩

theorem JobsMoved.trans (h : JobsMoved s t) (h' : JobsMoved t u) : JobsMoved s u :=
  ⟨by rw [h'.frame, h.frame], h.jobs.trans h'.jobs⟩

theorem jobsMoved_ite {p : Prop} [Decidable p] (ht : JobsMoved s t) (hu : JobsMoved s u) : JobsMoved s (if p then t else u) := by
  split <;> assumption

theorem jobsMoved_updEng {e : Nat} (he : 64 ≤ e ∧ e < 68) (s : State) (f : Eng → Eng) : JobsMoved s (s.updEng e f) :=
  ⟨rfl, rfl, fun k hk => by rw [State.eng_updEng, if_neg (by omega)]⟩

/-- What is done with each key engine in turn. -/
theorem jobsMoved_keyEngines {f : State → Nat → State} (h : ∀ s e, 64 ≤ e ∧ e < 68 → JobsMoved s (f s e)) (s : State) :
    JobsMoved s ([64, 65, 66, 67].foldl f s) :=
  (h _ 64 (by decide)).trans <| (h _ 65 (by decide)).trans <| (h _ 66 (by decide)).trans (h _ 67 (by decide))

theorem jobsMoved_dispatchJobs (s : State) : JobsMoved s (dispatchJobs s) := by
  refine jobsMoved_keyEngines (fun s e he => ?_) s
  split
  · next j rest _ =>
    have hleft : JobsMoved s { s with silo := { s.silo with jobs := rest } } := ⟨rfl, rfl, fun _ _ => rfl⟩
    exact jobsMoved_ite (hleft.trans (jobsMoved_updEng he ..)) (jobsMoved_refl s)
  · exact jobsMoved_refl s

/-- Jobs are queued once the kclk PLL runs (R33). -/
theorem jobsMoved_queueJobs (s : State) (rank : Nat) (owner : JobOwner) (c dir : Nat) (l : List (Nat × List (List Byte))) :
    JobsMoved { s with pllRun := setAt s.pllRun 1 true } (queueJobs s rank owner c dir l) := by
  have hput : ∀ (t : State) (p : Nat × List (List Byte)), JobsMoved t (putJob t rank owner c dir p.1 p.2) :=
    fun _ _ => ⟨rfl, rfl, fun _ _ => rfl⟩
  exact (foldl_rel_of_step jobsMoved_refl (fun _ _ _ => JobsMoved.trans) hput l _).trans (jobsMoved_dispatchJobs _)

theorem jobsMoved_eraseZ (s : State) (own : JobOwner → Bool) : JobsMoved s (eraseZ s own) := by
  unfold eraseZ
  extract_lets silo s1
  have hwipe : JobsMoved s s1 := ⟨rfl, rfl, fun _ _ => rfl⟩
  refine hwipe.trans (jobsMoved_keyEngines (fun s e he => ?_) s1)
  split
  · exact jobsMoved_ite (jobsMoved_updEng he ..) (jobsMoved_refl s)
  · exact jobsMoved_refl s

theorem onlyJobs.hsWork (h : onlyJobs s t) : hsWork s t := by
  obtain ⟨hsilo, heng⟩ := h
  exact ⟨by rw [hsilo], by rw [hsilo], heng⟩

end

end Sys2Proof.Machine
end

section
/-! # The selectors CH_SEL and ENG_SEL of each master (R122, R288) -/

namespace Sys2Proof.Machine

theorem masterIdx_inj {m k : Master} (h : masterIdx m = masterIdx k) : m = k := by
  revert h
  cases m <;> cases k <;> decide

/-- A selector register and its first bit: CH_SEL and ENG_SEL stand first in their blocks. -/
theorem regAt_selector {sel : SelBlock} (h : sel = .ch ∨ sel = .eng) :
    regAt (selBlk sel) 0 = some ((selField sel).1.reg, 0) ∧ blkSel (selBlk sel) = some sel ∧
      inWindowRange (selBlk sel) 0 = false := by
  rcases h with rfl | rfl <;> decide

/-- What a master's write puts into its selector: the host's view 1 has channel numbers of 12 bits. -/
def selWritten (s : State) (m : Master) (sel : SelBlock) (v : Word) : Word :=
  if sel = .ch ∧ m = .host ∧ hostView s = 1 then v &&& 0xFFF else maskedWrite (selField sel).1.reg v

/-- A write of a selector sets the writing master's copy and nothing else (R122, R288). -/
theorem regWrite_selector {s : State} {m : Master} {sel : SelBlock} {a : Nat} (h : sel = .ch ∨ sel = .eng)
    (hplace : placeOf s m a = .at (selBlk sel) 0) (v : Word) :
    (regWrite s m a v).2 = s.setReg (selField sel).1.reg (masterIdx m) (selWritten s m sel v) := by
  obtain ⟨hreg, hsel, hwin⟩ := regAt_selector h
  have hlands : lands s m a (selBlk sel) 0 0 := ⟨hplace, by rw [hsel]; simp [hwin]⟩
  rw [regWrite_register hlands hreg]
  rcases h with rfl | rfl
  · show s.setReg .CH_SEL (masterIdx m) (if m = .host ∧ hostView s = 1 then v &&& 0xFFF else maskedWrite .CH_SEL v) = _
    simp [selWritten, selField, CH_SEL.CH]
  · show s.setReg .ENG_SEL (masterIdx m) (maskedWrite .ENG_SEL v) = _
    simp [selWritten, selField, ENG_SEL.ENG]

/-- A master's selection does not depend on another master's copy of a register (R122). -/
theorem selected_setReg_ne {s : State} {m k : Master} (hk : k ≠ m) (r : Reg) (v : Word) (b : SelBlock) :
    selected (s.setReg r (masterIdx m) v) b k = selected s b k := by
  have hf : (s.setReg r (masterIdx m) v).f (selField b).1 (masterIdx k) = s.f (selField b).1 (masterIdx k) :=
    State.f_setReg_ne fun h => hk (masterIdx_inj h.2)
  unfold selected
  rw [hf]
  cases b <;> rfl

theorem f_selWritten {s : State} {m : Master} {sel : SelBlock} (h : sel = .ch ∨ sel = .eng)
    (hview : m ≠ .host ∨ hostView s ≠ 1) (v : Word) :
    (s.setReg (selField sel).1.reg (masterIdx m) (selWritten s m sel v)).f (selField sel).1 (masterIdx m) =
      v.toNat % 2 ^ (if sel = .ch then 16 else 7) := by
  have hnot : ¬ (sel = .ch ∧ m = .host ∧ hostView s = 1) := fun hc => hview.elim (· hc.2.1) (· hc.2.2)
  rw [State.f, State.reg_setReg_self, selWritten, if_neg hnot, maskedWrite, BitVec.toNat_and]
  rcases h with rfl | rfl
  · show (v.toNat &&& (2 ^ 16 - 1)) / 2 ^ 0 % 2 ^ 16 = v.toNat % 2 ^ 16
    rw [Nat.and_two_pow_sub_one_eq_mod]
    omega
  · show (v.toNat &&& (2 ^ 7 - 1)) / 2 ^ 0 % 2 ^ 7 = v.toNat % 2 ^ 7
    rw [Nat.and_two_pow_sub_one_eq_mod]
    omega

/-- The numbers that map no window (R122, R288). -/
theorem selected_eq_none_iff {s : State} {m : Master} {sel : SelBlock} (h : sel = .ch ∨ sel = .eng) :
    let n := s.f (selField sel).1 (masterIdx m)
    selected s sel m = none ↔
      (sel = .ch ∧ 16384 ≤ n) ∨ (sel = .eng ∧ (69 < n ∨ (s.isHA = true ∧ 32 ≤ n ∧ n < 64))) := by
  intro n
  have hmaps : selected s sel m = none ↔ selMaps s sel n = false := by
    rw [selected]
    cases selMaps s sel n <;> simp
  rw [hmaps]
  rcases h with rfl | rfl
  · simp [selMaps]
  · cases hha : s.isHA <;> simp [selMaps, hha] <;> omega

/-- Through a selector that maps no window a read and a write do nothing but set the error bit (R536). -/
theorem window_unmapped {s : State} {m : Master} {sel : SelBlock} {a off : Nat} (hsel : blkSel (selBlk sel) = some sel)
    (hplace : placeOf s m a = .at (selBlk sel) off) (hwin : inWindowRange (selBlk sel) off = true)
    (hnone : selected s sel m = none) (v : Word) :
    let missed := s.setF (selField sel).2 (masterIdx m) 1
    regRead s m a = (0, rOkay, missed) ∧ regWrite s m a v = (rOkay, missed) := by
  simp [regRead, blockRead, regWrite, blockWrite, hplace, hsel, hwin, hnone]

/-- Settles O19. Each selector register has a copy for each master, and a write reaches the writer's copy alone; which numbers
map a window is read off `selMaps`. -/
theorem selectorsBelongToTheirMaster : Obligations.SelectorsBelongToTheirMaster := by
  intro s m sel a v off hsel hplace n missed
  have hwrite : a.toNat % 4 = 0 → exec (.registerWrite m a v) s = .next (regWrite s m a.toNat v).2 := fun h4 =>
    congrArg Host.Outcome.next (if_pos h4)
  refine ⟨fun h4 h0 => ?_, selected_eq_none_iff hsel, fun hnone hlow hhigh => ?_⟩
  · subst h0
    rw [hwrite h4, regWrite_selector hsel hplace]
    exact ⟨_, rfl, fun k hk b => selected_setReg_ne hk _ _ b, fun hview => f_selWritten hsel hview v⟩
  · have hwin : inWindowRange (selBlk sel) off = true := by
      rcases hsel with rfl | rfl <;> simp [inWindowRange, selBlk] at hhigh ⊢ <;> omega
    obtain ⟨hread, hmiss⟩ := window_unmapped (regAt_selector hsel).2.1 hplace hwin hnone v
    exact ⟨hread, fun h4 => (hwrite h4).trans (congrArg (Host.Outcome.next ·.2) hmiss)⟩

end Sys2Proof.Machine
end

section
/-! # Channel counters cleared (R165) -/

namespace Sys2Proof.Machine

/-- Counters of a channel set to zero one after another: they read as zero, and nothing else of the context differs. -/
theorem zeroCounters_quiet {s : State} (h : memQuiet s ctxCtl) (c : Nat) (l : List Nat) (hl : ∀ i ∈ l, i < 16) (hn : l.Nodup) :
    let t := l.foldl (fun s i => ctxD s (chCounter i) c 0) s
    ctxOnly s t c (l.map chCounter) ∧ ∀ i ∈ l, ctx t (chCounter i) c = 0 := by
  induction l generalizing s with
  | nil => exact ⟨⟨rfl, keepsMem_refl s _⟩, fun _ hi => absurd hi List.not_mem_nil⟩
  | cons i l ih =>
    obtain ⟨hi, hn⟩ := List.nodup_cons.1 hn
    have hl' : ∀ j ∈ l, j < 16 := fun j hj => hl j (List.mem_cons_of_mem _ hj)
    obtain ⟨hv, ho⟩ := ctxSet_quiet h (chCounter_off i) c 0 codeData
    obtain ⟨ho', hz⟩ := ih (ho.frame.quiet h) hl' hn
    refine ⟨(ho.mono (by simp)).trans (ho'.mono (by simp)), fun j hj => ?_⟩
    rcases List.mem_cons.1 hj with rfl | hj
    · have hapart : (l.map chCounter).all (apart (chCounter j)) = true := by
        rw [List.all_map, List.all_eq_true]
        exact fun k hk => apart_chCounter (hl j List.mem_cons_self) (hl' k hk) fun e => hi (e ▸ hk)
      exact (ho'.ctx hapart).trans (hv.trans (Nat.zero_mod _))
    · exact hz j hj

/-- Settles O34. The sixteen counters are set to zero one by one, which leaves the increments that the engines hold; the flush
then adds them to zero. -/
theorem clearedCountersStartFromZero : Obligations.ClearedCountersStartFromZero := by
  intro s m c v hreach hq hv
  have hbit : bitAt v.toNat 0 = true := by simpa [bitAt] using hv
  obtain ⟨ho, hz⟩ := zeroCounters_quiet hq c (List.range 16) (fun i hi => List.mem_range.1 hi) List.nodup_range
  have hrun : exec (.chCntClr m v) s = .next ((List.range 16).foldl (fun s i => ctxD s (chCounter i) c 0) s) :=
    congrArg Host.Outcome.next <| (onChannel_reaches hreach fun c s => chCntClr s c v.toNat).trans (if_pos hbit)
  revert ho hz hrun
  generalize (List.range 16).foldl (fun s i => ctxD s (chCounter i) c 0) s = t
  intro ho hz hrun
  have hflush := flushCounters_quiet (ho.frame.quiet hq) c
  have hpends : ∀ i, pends t c i = pends s c i := fun i => by rw [pends, ho.frame.cntPend, pends]
  refine ⟨t, _, hrun, rfl, fun i hi => ?_⟩
  have hmem := List.mem_range.2 hi
  exact ⟨hz i hmem, hpends i, by rw [hflush.count i hmem, hz i hmem, hpends]⟩

end Sys2Proof.Machine
end

section
/-! # The context window (R124, R126, R138) -/

namespace Sys2Proof.Machine

/-! ### Bits of a context -/

theorem testBit_leNat (l : List Byte) (i : Nat) : (leNat l).testBit i = (l.getD (i / 8) 0).toNat.testBit (i % 8) := by
  induction l generalizing i with
  | nil => simp [leNat]
  | cons b l ih =>
    have hb : b.toNat < 2 ^ 8 := b.isLt
    rw [leNat, show b.toNat + 256 * leNat l = 2 ^ 8 * leNat l + b.toNat by ring, Nat.testBit_two_pow_mul_add _ hb]
    rcases Nat.lt_or_ge i 8 with h | h
    · rw [if_pos h, Nat.div_eq_of_lt h, Nat.mod_eq_of_lt h]
      rfl
    · rw [if_neg (by omega), ih, show i / 8 = (i - 8) / 8 + 1 by omega, show (i - 8) % 8 = i % 8 by omega]
      rfl

/-- Bit `p` of a channel's window, counted from the window's first byte: what context memory holds there. -/
def windowBit (s : State) (c p : Nat) : Bool :=
  (memByte s ctxCtl (1024 * slotOf s c + slotOff (p / 8))).toNat.testBit (p % 8)

/-- The first bit of a field in its window. -/
abbrev CtxF.bit (x : CtxF) : Nat := x.off * 8 + x.lo

theorem testBit_ramBytes (s : State) {k a n i : Nat} (h : i < 8 * n) :
    (leNat (ramBytes s k a n)).testBit i = (memByte s k (a + i / 8)).toNat.testBit (i % 8) := by
  rw [testBit_leNat, List.getD_eq_getElem?_getD, getElem?_ramBytes s (by omega)]
  rfl

theorem testBit_ctxWord (s : State) {c w i : Nat} (hw : 0x200 ≤ w) (h : i < 32) :
    (ctxWord s c w).testBit i = windowBit s c (8 * w + i) := by
  have haddr : ctxAddr s c w + i / 8 = 1024 * slotOf s c + slotOff ((8 * w + i) / 8) := by
    unfold ctxAddr slotOff
    omega
  rw [ctxWord, testBit_ramBytes s (by omega), haddr, windowBit, show (8 * w + i) % 8 = i % 8 by omega]

theorem testBit_ctx (s : State) {c i : Nat} {x : CtxF} (hx : 0x200 ≤ x.off) (h : i < x.len) :
    (ctx s x c).testBit i = windowBit s c (x.bit + i) := by
  have hlen := le_fieldBytes x
  have haddr : ctxAddr s c x.off + fieldFirst x + (x.lo % 8 + i) / 8 = 1024 * slotOf s c + slotOff ((x.bit + i) / 8) := by
    unfold ctxAddr slotOff fieldFirst CtxF.bit
    omega
  rw [ctx, testBit_bitsOf, decide_eq_true h, Bool.true_and, testBit_ramBytes s (by omega), haddr, windowBit,
    show (x.bit + i) % 8 = (x.lo % 8 + i) % 8 by unfold CtxF.bit; omega]

/-- A field whose bits hold what they held reads as before. -/
theorem ctx_eq_of_windowBit {s t : State} {c : Nat} {x : CtxF} (hx : 0x200 ≤ x.off)
    (h : ∀ i, i < x.len → windowBit t c (x.bit + i) = windowBit s c (x.bit + i)) : ctx t x c = ctx s x c := by
  apply Nat.eq_of_testBit_eq
  intro i
  by_cases hi : i < x.len
  · rw [testBit_ctx t hx hi, testBit_ctx s hx hi, h i hi]
  · have hp : 2 ^ x.len ≤ 2 ^ i := Nat.pow_le_pow_right (by omega) (by omega)
    rw [Nat.testBit_lt_two_pow ((ctx_lt t x c).trans_le hp), Nat.testBit_lt_two_pow ((ctx_lt s x c).trans_le hp)]

theorem ContextsKept.windowBit {s t : State} (h : ContextsKept s t) (c p : Nat) : windowBit t c p = windowBit s c p := by
  unfold Sys2Proof.Machine.windowBit
  rw [h.slot, memByte_congr h.rams h.blank]

/-! ### Masks of fields (R124) -/

theorem testBit_fieldMask (x : CtxF) (w : Nat) {j : Nat} (hj : j < 32) :
    (fieldMask x w).testBit j = decide (x.bit ≤ 8 * w + j ∧ 8 * w + j < x.bit + x.len) := by
  unfold fieldMask CtxF.bit
  dsimp only
  split
  · rw [Nat.testBit_mul_two_pow, Nat.testBit_two_pow_sub_one]
    rw [← Bool.decide_and, decide_eq_decide]
    omega
  · rw [Nat.zero_testBit, eq_comm, decide_eq_false_iff_not]
    omega

theorem fieldMask_lt (x : CtxF) (w : Nat) : fieldMask x w < 2 ^ 32 := by
  apply Nat.lt_pow_two_of_testBit
  intro j hj
  unfold fieldMask
  dsimp only
  split
  · rw [Nat.testBit_mul_two_pow, Nat.testBit_two_pow_sub_one, ← Bool.decide_and, decide_eq_false_iff_not]
    omega
  · exact Nat.zero_testBit j

/-- The bits that some fields have of the word at a window offset. -/
def fieldsMask (l : List CtxF) (w : Nat) : Nat := l.foldl (fun n x => n ||| fieldMask x w) 0

theorem testBit_fieldsMask (l : List CtxF) (w j : Nat) : (fieldsMask l w).testBit j = l.any fun x => (fieldMask x w).testBit j := by
  have hfold : ∀ n, (l.foldl (fun n x => n ||| fieldMask x w) n).testBit j =
      (n.testBit j || l.any fun x => (fieldMask x w).testBit j) := by
    induction l with
    | nil => simp
    | cons x l ih => intro n; rw [List.foldl_cons, ih, Nat.testBit_or, List.any_cons, Bool.or_assoc]
  rw [fieldsMask, hfold, Nat.zero_testBit, Bool.false_or]

theorem fieldsMask_lt (l : List CtxF) (w : Nat) : fieldsMask l w < 2 ^ 32 := by
  apply Nat.lt_pow_two_of_testBit
  intro j hj
  rw [testBit_fieldsMask, List.any_eq_false]
  intro x _
  rw [Nat.testBit_lt_two_pow ((fieldMask_lt x w).trans_le (Nat.pow_le_pow_right (by omega) hj))]
  decide

theorem secretMask_eq (w : Nat) : secretMask w = fieldsMask (ctxFields.filter fun x => x.cls = .k) w := by
  rw [fieldsMask, List.foldl_filter, secretMask]
  simp only [decide_eq_true_eq]

/-- Two fields share no bit. -/
def bitApart (x y : CtxF) : Bool := decide (x.bit + x.len ≤ y.bit) || decide (y.bit + y.len ≤ x.bit)

theorem ctxFields_bitApart : (ctxFields.all fun x => ctxFields.all fun y => x == y || bitApart x y) = true := by decide +kernel

theorem ctxFields_off : ∀ x ∈ ctxFields, 0x200 ≤ x.off := by decide +kernel

/-! ### Writes through the window (R124, R138) -/

/-- The bits that a master's write of a context word may change. -/
def writeMask (m : Master) (w : Nat) : Nat :=
  fieldsMask ((ctxFields.filter fun x => x.cls == .m && fieldMask x w != 0).filter (mayWrite m)) w

/-- The bits of a field that a master may not write are none of those that its write changes. -/
theorem writeMask_bit {m : Master} {x : CtxF} (hx : x ∈ ctxFields) (hm : mayWrite m x = false) (w : Nat) {j : Nat} (hj : j < 32)
    (hlow : x.bit ≤ 8 * w + j) (hhigh : 8 * w + j < x.bit + x.len) : (writeMask m w).testBit j = false := by
  rw [writeMask, testBit_fieldsMask, List.any_eq_false]
  intro y hy hbit
  obtain ⟨hmem, hmay⟩ := List.mem_filter.1 hy
  have hne : (x == y) = false := by
    rw [beq_eq_false_iff_ne]
    rintro rfl
    exact Bool.false_ne_true (hm.symm.trans hmay)
  have hap := List.all_eq_true.1 (List.all_eq_true.1 ctxFields_bitApart x hx) y (List.mem_filter.1 hmem).1
  rw [hne, Bool.false_or, bitApart, Bool.or_eq_true, decide_eq_true_iff, decide_eq_true_iff] at hap
  rw [testBit_fieldMask y w hj, decide_eq_true_iff] at hbit
  omega

/-- A plain write of the bits of a mask in a context word: it is not refused, and every other bit holds what it held. -/
theorem ctxStoreAns_quiet {s : State} (h : memQuiet s ctxCtl) {c w mask : Nat} (hw : 0x200 ≤ w) (hmask : mask < 2 ^ 32)
    (v code : Nat) :
    (ctxStoreAns s c w mask v code).1 = false ∧ onlyRams s (ctxStoreAns s c w mask v code).2 ∧
      ∀ p, 0x200 ≤ p / 8 → (8 * w ≤ p → p < 8 * w + 32 → mask.testBit (p - 8 * w) = false) →
        windowBit (ctxStoreAns s c w mask v code).2 c p = windowBit s c p := by
  unfold ctxStoreAns
  extract_lets old new lanes
  obtain ⟨hno, hst⟩ := memWrite_quiet h (ctxAddr s c w) lanes code
  refine ⟨hno, hst.frame, fun p hp hclear => ?_⟩
  have hbyte := hst.byte ctxCtl (1024 * slotOf s c + slotOff (p / 8))
  rw [windowBit, hst.frame.slotOf, hbyte]
  by_cases hin : 8 * w ≤ p ∧ p < 8 * w + 32
  · obtain ⟨hlow, hhigh⟩ := hin
    have hbit := hclear hlow hhigh
    have haddr : ctxAddr s c w ≤ 1024 * slotOf s c + slotOff (p / 8) := by
      unfold ctxAddr slotOff; omega
    have hidx : 1024 * slotOf s c + slotOff (p / 8) - ctxAddr s c w = p / 8 - w := by
      unfold ctxAddr slotOff; omega
    have hlane : lanes[p / 8 - w]? = some (if mask / 2 ^ (8 * (p / 8 - w)) % 256 = 0 then none
        else some (BitVec.ofNat 8 (new / 2 ^ (8 * (p / 8 - w))))) := by
      rw [List.getElem?_map, List.getElem?_range (by omega)]
      rfl
    rw [if_pos ⟨rfl, haddr⟩, hidx, hlane]
    split
    · rfl
    · have hj : p - 8 * w < 32 := by omega
      have hnew : new.testBit (p - 8 * w) = windowBit s c p := by
        rw [Nat.testBit_or, Nat.testBit_and, Nat.testBit_and, hbit, show 2 ^ 32 - 1 - mask = 2 ^ 32 - (mask + 1) by omega,
          Nat.testBit_two_pow_sub_succ hmask, hbit, decide_eq_true hj, testBit_ctxWord s hw hj,
          show 8 * w + (p - 8 * w) = p by omega]
        simp
      show (BitVec.ofNat 8 (new / 2 ^ (8 * (p / 8 - w)))).toNat.testBit (p % 8) = windowBit s c p
      rw [BitVec.toNat_ofNat, Nat.testBit_mod_two_pow, Nat.testBit_div_two_pow, ← hnew,
        show p % 8 + 8 * (p / 8 - w) = p - 8 * w by omega, decide_eq_true (Nat.mod_lt _ (by decide)), Bool.true_and]
  · have hout : ¬ (ctxAddr s c w ≤ 1024 * slotOf s c + slotOff (p / 8) ∧
        1024 * slotOf s c + slotOff (p / 8) < ctxAddr s c w + 4) := by
      unfold ctxAddr slotOff; omega
    split
    · next hle =>
      rw [List.getElem?_eq_none (by simp [lanes]; omega)]
      rfl
    · rfl

/-! ### A master's write of a context word -/

section
variable {s : State} {m : Master} {c w : Nat}

/-- A check ends with an acceptance and the effect, or with a refusal. -/
theorem checked_cases (s : State) (chk : Reg) (m : Master) (inst : Nat) (codes : List Nat) (effect : State → State) :
    checked s chk m inst codes effect = effect (acceptCheck s chk m) ∨
      ∃ n, checked s chk m inst codes effect = refuseCheck s chk m inst n := by
  unfold checked
  split
  · exact .inl rfl
  · exact .inr ⟨_, rfl⟩

/-- A context word stored and mirrored. -/
def windowStored (s : State) (m : Master) (c w v : Nat) : State :=
  mirror (ctxStoreAns s c w (writeMask m w) v (masterCode m)).2 (fieldRec c w (writeMask m w) v)

/-- What a write of a context word does: nothing, the refusal of its check, or the store, after an acceptance where a check was
made. -/
theorem ctxWindowWrite_cases (h : memQuiet s ctxCtl) (hw : 0x200 ≤ w) (v : Nat) :
    let t := (ctxWindowWrite s m c w v).2
    t = s ∨ t = windowStored s m c w v ∨ t = windowStored (acceptCheck s .CH_CHECK m) m c w v ∨
      ∃ n, t = refuseCheck s .CH_CHECK m c n := by
  have hput : ∀ u : State, memQuiet u ctxCtl → (ctxStoreAns u c w (writeMask m w) v (masterCode m)).1 = false := fun u hu =>
    (ctxStoreAns_quiet hu hw (fieldsMask_lt ..) v _).1
  have hacc : memQuiet (acceptCheck s .CH_CHECK m) ctxCtl := ⟨h.1, (State.f_setReg_ne fun hx => by cases hx.1).trans h.2⟩
  intro t
  unfold t ctxWindowWrite
  extract_lets fs mask old changed put store tests causes
  have hmask : mask = writeMask m w := rfl
  clear_value mask
  subst hmask
  have hstore : ∀ u : State, memQuiet u ctxCtl → store u = windowStored u m c w v := fun u hu => by
    unfold store windowStored
    dsimp only
    rw [hput u hu, if_neg (by decide)]
  have hput : put.1 = false := hput s h
  clear_value store put causes
  split
  · rw [hput]
    exact .inl rfl
  · split
    · exact .inr (.inl (hstore s h))
    · rcases checked_cases s .CH_CHECK m c causes store with he | ⟨n, he⟩
      · exact .inr (.inr (.inl (he.trans (hstore _ hacc))))
      · exact .inr (.inr (.inr ⟨n, he⟩))

theorem contextsKept_refuseCheck (s : State) (m : Master) (c n : Nat) : ContextsKept s (refuseCheck s .CH_CHECK m c n) := by
  obtain ⟨-, -, -, -, -, -, -, honly⟩ := refusedWith_refuseCheck s m c n (chk := .CH_CHECK) (by decide)
  exact honly.contextsKept (by simp)

/-- The store leaves every field that is not the master's to write. -/
theorem windowBit_windowStored (h : memQuiet s ctxCtl) (hw : 0x200 ≤ w) (v : Nat) {x : CtxF} (hx : x ∈ ctxFields)
    (hm : mayWrite m x = false) {i : Nat} (hi : i < x.len) :
    windowBit (windowStored s m c w v) c (x.bit + i) = windowBit s c (x.bit + i) := by
  have hoff := ctxFields_off x hx
  rw [windowStored, (contextsKept_mirror ..).windowBit]
  refine (ctxStoreAns_quiet h hw (fieldsMask_lt ..) v _).2.2 _ (by unfold CtxF.bit; omega) fun hlow hhigh => ?_
  exact writeMask_bit hx hm w (by omega) (by omega) (by omega)

/-- A master's write of a context word keeps every field that is not its to write. -/
theorem ctx_ctxWindowWrite (h : memQuiet s ctxCtl) (hw : 0x200 ≤ w) (v : Nat) {x : CtxF} (hx : x ∈ ctxFields)
    (hm : mayWrite m x = false) : ctx (ctxWindowWrite s m c w v).2 x c = ctx s x c := by
  have hacc : memQuiet (acceptCheck s .CH_CHECK m) ctxCtl := ⟨h.1, (State.f_setReg_ne fun hx => by cases hx.1).trans h.2⟩
  have hsame : ContextsKept s (acceptCheck s .CH_CHECK m) := contextsKept_setReg (by decide) ..
  refine ctx_eq_of_windowBit (ctxFields_off x hx) fun i hi => ?_
  rcases ctxWindowWrite_cases (m := m) (c := c) h hw v with he | he | he | ⟨n, he⟩ <;> rw [he]
  · exact windowBit_windowStored h hw v hx hm hi
  · rw [windowBit_windowStored hacc hw v hx hm hi, hsame.windowBit]
  · exact (contextsKept_refuseCheck s m c n).windowBit ..

end

/-! ### A master's read of a context word (R126) -/

/-- The words of key fields hold no counter. -/
theorem ctxCounterAt_key {x : CtxF} (hx : x ∈ ctxFields) (hk : x.cls = .k) {i : Nat} (hi : i < x.len) :
    ctxCounterAt ((x.bit + i) / 32 * 4) = none := by
  have hplaces : ∀ x ∈ ctxFields, x.cls = .k → x.bit + x.len ≤ 8 * 0x340 ∨
      8 * 0x380 ≤ x.bit ∧ x.bit + x.len ≤ 8 * 0x540 := by decide +kernel
  have hplace := hplaces x hx hk
  unfold ctxCounterAt
  rw [if_neg (by omega), if_neg (by omega)]

/-- The bits of key fields are among those that no read shows. -/
theorem secretMask_key {x : CtxF} (hx : x ∈ ctxFields) (hk : x.cls = .k) {i : Nat} (hi : i < x.len) :
    (secretMask ((x.bit + i) / 32 * 4)).testBit ((x.bit + i) % 32) = true := by
  rw [secretMask_eq, testBit_fieldsMask, List.any_eq_true]
  refine ⟨x, List.mem_filter.2 ⟨hx, decide_eq_true hk⟩, ?_⟩
  rw [testBit_fieldMask x _ (Nat.mod_lt _ (by decide)), decide_eq_true_iff]
  omega

theorem ctxWindowRead_key {s : State} (h : noErrors s) (m : Master) (c : Nat) {x : CtxF} (hx : x ∈ ctxFields) (hk : x.cls = .k)
    {i : Nat} (hi : i < x.len) :
    (ctxWindowRead s m c ((x.bit + i) / 32 * 4)).1.testBit ((x.bit + i) % 32) = false := by
  have hsecret := secretMask_key hx hk hi
  have hlt : secretMask ((x.bit + i) / 32 * 4) < 2 ^ 32 := by rw [secretMask_eq]; exact fieldsMask_lt ..
  rw [ctxWindowRead, memRead_clean h, ctxCounterAt_key hx hk hi]
  show (leNat _ &&& (2 ^ 32 - 1 - secretMask ((x.bit + i) / 32 * 4))).testBit ((x.bit + i) % 32) = false
  rw [Nat.testBit_and, show ∀ n, 2 ^ 32 - 1 - n = 2 ^ 32 - (n + 1) by omega, Nat.testBit_two_pow_sub_succ hlt, hsecret]
  simp

/-- Settles O35. A write changes bits of the fields that the master may write alone, and fields share no bit; a read passes the
mask of the key fields. -/
theorem theContextWindowHidesAndKeepsKeys : Obligations.TheContextWindowHidesAndKeepsKeys := by
  intro s m c off v hreach hq
  refine ⟨?_, fun x hx hk i hi => ctxWindowRead_key hq.1 m c hx hk hi⟩
  let w := off.toNat / 4 * 4
  let written := if 0x200 ≤ w ∧ w < 0x600 then (ctxWindowWrite s m c w v.toNat).2 else s
  have hrun : exec (.chContextWrite m off v) s = .next written :=
    congrArg Host.Outcome.next (onChannel_reaches hreach fun c s =>
      if 0x200 ≤ w ∧ w < 0x600 then (ctxWindowWrite s m c w v.toNat).2 else s)
  refine ⟨written, hrun, fun x hx hm => ?_⟩
  unfold written
  split
  · next hw => exact ctx_ctxWindowWrite hq hw.1 _ hx hm
  · rfl

end Sys2Proof.Machine
end

section
/-! # Handshake timers: a message sent again (R193) -/

namespace Sys2Proof.Machine

/-! ### A message is sent again (R193) -/

theorem hsSend_frame (s : State) (c : Nat) (b : List Byte) :
    hsSend s c b = { s with links := (hsSend s c b).links, cnts := (hsSend s c b).cnts, msgId := (hsSend s c b).msgId,
                            fab := (hsSend s c b).fab } := by
  unfold hsSend titheSend titheQueue
  split
  · dsimp only
    split <;> rfl
  · rfl

/-- A session's message leaves once more. -/
def sentAgain (s : State) (c : Nat) (x : Session) (b : List Byte) : State :=
  hsSend (s.setSession c { x with sends := x.sends + 1 }) c b

theorem sentAgain_session {x : Session} (h : x.initiator = true) (s : State) (c : Nat) (b : List Byte) :
    (sentAgain s c x b).session c = some { x with sends := x.sends + 1 } := by
  rw [sentAgain, session_of_sessions ((congrArg State.sessions (hsSend_frame ..)).trans rfl)]
  exact State.session_setSession s c h

theorem sentAgain_frame (s : State) (c : Nat) (x : Session) (b : List Byte) :
    let t := sentAgain s c x b
    t = { s with sessions := t.sessions, links := t.links, cnts := t.cnts, msgId := t.msgId, fab := t.fab } := by
  intro t
  unfold t sentAgain
  rw [hsSend_frame]
  rfl

/-! ### The end of a session (R197, R198) -/

/-- A session has ended and is counted under a reason. -/
def sessionEnded (s : State) (c r : Nat) : State := countReason (endSession s c) r

/-- The failure of a handshake shows at its channel. -/
def failureShown (s : State) (c r : Nat) : State := (s.setF CH_STATUS.HS_REASON c r).raise CH_EVT.HS_FAIL c

/-- A re-root that failed is due again, with twice the interval, while its root lasts (R145, R198). -/
def rerootAgain (s : State) (c : Nat) : State :=
  if ctxBit s Ctx.ROOT_EXP c then s.setF CH_STATUS.REKEYING c 0
  else (s.setKey c { s.key c with due := true, retry := if (s.key c).retry = 0 then 1 else min 32 (2 * (s.key c).retry) }).setF
    CH_STATUS.REKEYING c 1

theorem hsFail_eq (s : State) (c r : Nat) (reroot : Bool) : hsFail s c r reroot =
    failureShown (if reroot then rerootAgain (sessionEnded s c r) c else finishChannel (sessionEnded s c r) c) c r := rfl

section
variable (s : State) (c r : Nat)

theorem sessionEnded_frame :
    let u := sessionEnded s c r
    u = { s with cnts := u.cnts, sessions := SMap.erase s.sessions c, silo := u.silo, engs := u.engs } :=
  congrArg (fun t : State => { t with cnts := (sessionEnded s c r).cnts })
    (jobsMoved_eraseZ (s.dropSession c) (ofChannel c)).frame

theorem counted_sessionEnded : counted s (sessionEnded s c r) .SILO_HS (r - 1) := by
  have hcnts : (endSession s c).cnts = s.cnts :=
    (congrArg State.cnts (jobsMoved_eraseZ (s.dropSession c) (ofChannel c)).frame).trans rfl
  rw [counted, sessionEnded, countReason, State.cnt_inc, State.cnt, hcnts, State.cnt]

theorem onlyJobs_sessionEnded : onlyJobs s (sessionEnded s c r) := (jobsMoved_eraseZ (s.dropSession c) (ofChannel c)).jobs

theorem session_sessionEnded : (sessionEnded s c r).session c = none := by
  rw [session_of_sessions ((congrArg State.sessions (sessionEnded_frame s c r)).trans rfl)]
  exact session_erased s c

end

/-! ### What the end of a channel leaves alone (R129) -/

/-- Sessions and what waits for one, keys, the count of failed handshakes and CH_STATUS are as they were. -/
structure KeysKept (s t : State) : Prop where
  sessions : t.sessions = s.sessions
  waiting : t.keyWait = s.keyWait
  keys : t.keys = s.keys
  status : ∀ i, t.reg .CH_STATUS i = s.reg .CH_STATUS i
  failures : ∀ i, t.cnt .SILO_HS i = s.cnt .SILO_HS i

section
variable {s t u : State}

theorem keysKept_refl (s : State) : KeysKept s s := ⟨rfl, rfl, rfl, fun _ => rfl, fun _ => rfl⟩

theorem KeysKept.trans (h : KeysKept s t) (h' : KeysKept t u) : KeysKept s u where
  sessions := h'.sessions.trans h.sessions
  waiting := h'.waiting.trans h.waiting
  keys := h'.keys.trans h.keys
  status := fun i => (h'.status i).trans (h.status i)
  failures := fun i => (h'.failures i).trans (h.failures i)

theorem keysKept_ite {p : Prop} [Decidable p] (ht : KeysKept s t) (hu : KeysKept s u) : KeysKept s (if p then t else u) := by
  split <;> assumption

theorem keysKept_of_eq (hs : t.sessions = s.sessions) (hw : t.keyWait = s.keyWait) (hk : t.keys = s.keys) (hr : t.regs = s.regs)
    (hc : t.cnts = s.cnts) : KeysKept s t :=
  ⟨hs, hw, hk, fun _ => by rw [State.reg, hr, State.reg], fun _ => by rw [State.cnt, hc, State.cnt]⟩

theorem keysKept_setReg {r : Reg} (hr : r ≠ .CH_STATUS) (s : State) (i : Nat) (v : Word) : KeysKept s (s.setReg r i v) :=
  ⟨rfl, rfl, rfl, fun _ => State.reg_setReg_ne hr.symm, fun _ => State.cnt_setReg⟩

theorem keysKept_setF {x : Fld} (hx : x.reg ≠ .CH_STATUS) (s : State) (i n : Nat) : KeysKept s (s.setF x i n) :=
  keysKept_setReg hx ..

theorem memOnly.keysKept (h : memOnly s t) : KeysKept s t where
  sessions := (congrArg State.sessions h.1).trans rfl
  waiting := (congrArg State.keyWait h.1).trans rfl
  keys := (congrArg State.keys h.1).trans rfl
  status := fun i => h.2.1 _ i (by decide)
  failures := fun i => h.2.2 _ i (by decide)

theorem keysKept_mirror (s : State) (r : MirrorRec) : KeysKept s (mirror s r) where
  sessions := (congrArg State.sessions (mirror_frame s r)).trans rfl
  waiting := (congrArg State.keyWait (mirror_frame s r)).trans rfl
  keys := (congrArg State.keys (mirror_frame s r)).trans rfl
  status := fun i => (told_mirror s r).regs _ i (by simp)
  failures := fun i => (told_mirror s r).cnts _ i (by simp)

theorem keysKept_ctxWriteBytes (s : State) (c w : Nat) (bs : List (Option Byte)) (code : Nat) :
    KeysKept s (ctxWriteBytes s c w bs code) := by
  have hmem := (memOnly_memWrite s ctxCtl (ctxAddr s c w) bs code).keysKept
  exact keysKept_ite (hmem.trans (keysKept_setF (x := CH_EVT.CTX_POISON) (by decide) ..)) hmem

theorem keysKept_zeroise (s : State) (c : Nat) : KeysKept s (zeroise s c) :=
  (keysKept_ctxWriteBytes ..).trans <| (keysKept_ctxWriteBytes ..).trans <| (keysKept_ctxWriteBytes ..).trans
    (keysKept_ctxWriteBytes ..)

theorem keysKept_takeoverTime (s : State) : KeysKept s (takeoverTime s) := by
  unfold takeoverTime
  split
  · exact keysKept_refl s
  · exact keysKept_ite (keysKept_refl s) ((keysKept_setF (by decide) ..).trans (keysKept_of_eq rfl rfl rfl rfl rfl))

theorem keysKept_kclkEval (s : State) : KeysKept s (kclkEval s) :=
  keysKept_ite ((keysKept_setF (x := CLK_STATUS.K_LOCK) (by decide) s 0 0).trans (keysKept_of_eq rfl rfl rfl rfl rfl))
    (keysKept_refl s)

end

theorem KeysKept.chState {s t : State} (h : KeysKept s t) (c : Nat) : chState t c = chState s c := by
  unfold Sys2Proof.Machine.chState State.f
  rw [show t.reg CH_STATUS.STATE.reg c = s.reg CH_STATUS.STATE.reg c from h.status c]

theorem key_of_erased {s t : State} {c : Nat} (h : t.keys = SMap.erase s.keys c) : t.key c = ChanKey.reset := by
  rw [State.key, h, SMap.get_erase, if_pos rfl]

/-- A channel without a session ends: it is DISABLED, holds no keys and waits for no session; other sessions and the count of
failures stay. -/
theorem finishChannel_keys {s : State} {c : Nat} (h : s.session c = none) :
    let t := finishChannel s c
    chState t c = stDisabled ∧ t.key c = ChanKey.reset ∧ t.sessions = s.sessions ∧ t.keyWait = s.keyWait.filter (· != c) ∧
      ∀ i, t.cnt .SILO_HS i = s.cnt .SILO_HS i := by
  have habandon : abandon s c = s := by rw [abandon, h]
  unfold finishChannel
  extract_lets s1 s2 s3 s4 ch s5 tw s6
  have h1 : KeysKept s s1 := by
    unfold s1
    rw [habandon]
    exact keysKept_zeroise s c
  clear_value s1
  have herased : s3.keys = SMap.erase s1.keys c := rfl
  have hsess : s3.sessions = s1.sessions := rfl
  have hwait : s3.keyWait = s1.keyWait.filter (· != c) := rfl
  have hcnts : s3.cnts = s1.cnts := rfl
  clear_value s3
  have h6 : KeysKept s3 s6 := (keysKept_ctxWriteBytes ..).trans (keysKept_of_eq rfl rfl rfl rfl rfl)
  clear_value s6
  have hend : KeysKept (setChState s6 c stDisabled) (kclkEval (takeoverTime (chEnter s6 c stDisabled))) :=
    (keysKept_mirror ..).trans <| (keysKept_takeoverTime _).trans (keysKept_kclkEval _)
  have hstate : chState (setChState s6 c stDisabled) c = stDisabled := by
    rw [chState, setChState, State.f_setF (by decide)]
    rfl
  refine ⟨?_, ?_, ?_, ?_, fun i => ?_⟩
  · rw [hend.chState, hstate]
  · exact (key_of_keys (hend.keys.trans h6.keys) c).trans (key_of_erased herased)
  · exact hend.sessions.trans <| h6.sessions.trans <| hsess.trans h1.sessions
  · exact hend.waiting.trans <| h6.waiting.trans <| hwait.trans (congrArg (List.filter (· != c)) h1.waiting)
  · have h3 : s3.cnt .SILO_HS i = s1.cnt .SILO_HS i := by rw [State.cnt, hcnts, State.cnt]
    have hset : (setChState s6 c stDisabled).cnt .SILO_HS i = s6.cnt .SILO_HS i := State.cnt_setReg
    exact (hend.failures i).trans <| hset.trans <| (h6.failures i).trans <| h3.trans (h1.failures i)

/-! ### A handshake fails (R197, R198) -/

theorem failureShown_keyWait (u : State) (c r : Nat) : (failureShown u c r).keyWait = u.keyWait := rfl
theorem failureShown_key (u : State) (c r d : Nat) : (failureShown u c r).key d = u.key d := rfl

theorem failureShown_cnt (u : State) (c r : Nat) (k : Ctr) (i : Nat) : (failureShown u c r).cnt k i = u.cnt k i := by
  rw [failureShown, State.cnt_raise, State.setF, State.cnt_setReg]

/-- What the failure of a handshake tells: no session, its count, HS_REASON and HS_FAIL. -/
structure Failed (s t : State) (c r : Nat) : Prop where
  session : t.session c = none
  reason : t.f CH_STATUS.HS_REASON c = r
  event : t.fb CH_EVT.HS_FAIL c = true
  count : counted s t .SILO_HS (r - 1)

theorem failed_failureShown {s u : State} {c r : Nat} (hr : r < 256) (hs : u.session c = none)
    (hc : counted s u .SILO_HS (r - 1)) : Failed s (failureShown u c r) c r where
  session := hs
  reason := by
    rw [failureShown, State.f_raise_ne (by decide) (.inl (by decide)), State.f_setF (by decide)]
    exact Nat.mod_eq_of_lt hr
  event := State.fb_raise (by decide) rfl
  count := by rw [counted, failureShown_cnt, hc]

theorem chState_failureShown (u : State) (c r : Nat) : chState (failureShown u c r) c = chState u c := by
  rw [chState, failureShown, State.f_raise_ne (by decide) (.inl (by decide)),
    State.f_setF_ne (by decide) (.inr (.inr (by decide))), chState]

theorem rerootAgain_kept (s : State) (c : Nat) : (rerootAgain s c).sessions = s.sessions ∧ (rerootAgain s c).cnts = s.cnts ∧
    (rerootAgain s c).keyWait = s.keyWait := by
  unfold rerootAgain
  split
  · exact ⟨State.setF_sessions .., State.setF_cnts .., State.setF_keyWait ..⟩
  · exact ⟨(State.setF_sessions ..).trans (State.setKey_sessions ..), (State.setF_cnts ..).trans (State.setKey_cnts ..),
      (State.setF_keyWait ..).trans (State.setKey_keyWait ..)⟩

theorem failed_hsFail (s : State) (c : Nat) {r : Nat} (hr : r < 256) (reroot : Bool) :
    Failed s (hsFail s c r reroot) c r ∧ (s.keyWait = [] → (hsFail s c r reroot).keyWait = []) := by
  have hnone := session_sessionEnded s c r
  have hcount := counted_sessionEnded s c r
  have hwait : (sessionEnded s c r).keyWait = s.keyWait := (congrArg State.keyWait (sessionEnded_frame s c r)).trans rfl
  rw [hsFail_eq]
  cases reroot with
  | false =>
    obtain ⟨-, -, hsess, hkw, hcnt⟩ := finishChannel_keys hnone
    rw [if_neg (by decide)]
    refine ⟨failed_failureShown hr ((session_of_sessions hsess c).trans hnone) ((hcnt _).trans hcount), fun h => ?_⟩
    rw [failureShown_keyWait, hkw, hwait, h]
    rfl
  | true =>
    obtain ⟨hsess, hcnts, hkw⟩ := rerootAgain_kept (sessionEnded s c r) c
    rw [if_pos rfl]
    refine ⟨failed_failureShown hr ((session_of_sessions hsess c).trans hnone) ?_, fun h => ?_⟩
    · rw [counted, State.cnt, hcnts]
      exact hcount
    · rw [failureShown_keyWait, hkw, hwait, h]

/-- A KEY handshake that failed returns its channel to DISABLED, without keys (R134, R198). -/
theorem hsFail_key (s : State) (c r : Nat) :
    chState (hsFail s c r false) c = stDisabled ∧ (hsFail s c r false).key c = ChanKey.reset := by
  obtain ⟨hstate, hkey, -⟩ := finishChannel_keys (session_sessionEnded s c r)
  rw [hsFail_eq]
  rw [if_neg (by decide), chState_failureShown, failureShown_key]
  exact ⟨hstate, hkey⟩

end Sys2Proof.Machine
end

section
/-! # Handshake timers: failures and the start of a re-root (R145, R198) -/

namespace Sys2Proof.Machine

/-! ### A re-root fails (R145, R198) -/

theorem failureShown_only (u : State) (c r : Nat) : onlyRegs u (failureShown u c r) [(.CH_STATUS, c), (.CH_EVT, c)] [] :=
  (onlyRegs_setF ..).trans (onlyRegs_raise ..)

theorem fb_REKEYING_failureShown (u : State) (c r : Nat) :
    (failureShown u c r).fb CH_STATUS.REKEYING c = u.fb CH_STATUS.REKEYING c := by
  rw [failureShown, State.fb_raise_ne (by decide) (.inl (by decide)), State.fb_setF_ne (by decide) (.inr (.inr (by decide)))]

/-- What a failed re-root finds next: due again, with twice the interval, while its root lasts. -/
structure RerootAgain (s t : State) (c : Nat) : Prop where
  frame : t = { s with regs := t.regs, keys := t.keys }
  regs : keepsRegs s t [(.CH_STATUS, c)]
  lasts : ctxBit s Ctx.ROOT_EXP c = false → t.fb CH_STATUS.REKEYING c = true ∧ t.key c = { s.key c with
    due := true, retry := if (s.key c).retry = 0 then 1 else min 32 (2 * (s.key c).retry) }
  expired : ctxBit s Ctx.ROOT_EXP c = true → t.fb CH_STATUS.REKEYING c = false ∧ t.keys = s.keys

theorem rerootAgain_again (s : State) (c : Nat) : RerootAgain s (rerootAgain s c) c := by
  have hset : ∀ (u : State) (n : Nat), setsRegs u (u.setF CH_STATUS.REKEYING c n) [(.CH_STATUS, c)] := fun u n => setsRegs_setF ..
  unfold rerootAgain
  split
  · next hexp =>
    refine ⟨?_, (hset s 0).2, fun h => absurd (hexp.symm.trans h) (by decide), fun _ => ⟨?_, State.setF_keys ..⟩⟩
    · rw [State.setF_keys]
      exact (hset s 0).1
    · rw [State.fb_setF (by decide)]
      rfl
  · next hexp =>
    refine ⟨?_, (hset _ 1).2, fun _ => ⟨?_, ?_⟩, fun h => absurd h hexp⟩
    · rw [State.setF_keys]
      exact (hset _ 1).1
    · rw [State.fb_setF (by decide)]
      rfl
    · rw [key_of_keys (State.setF_keys ..), State.key_setKey_self]

section
variable {s : State} {c r : Nat}

theorem hsFail_reroot (s : State) (c r : Nat) :
    let t := hsFail s c r true
    hsWork s t ∧
    t = { s with regs := t.regs, cnts := t.cnts, sessions := t.sessions, keys := t.keys, silo := t.silo, engs := t.engs } ∧
      keepsRegs s t [(.CH_STATUS, c), (.CH_EVT, c)] ∧
      (ctxBit s Ctx.ROOT_EXP c = false → t.fb CH_STATUS.REKEYING c = true ∧ t.key c = { s.key c with
        due := true, retry := if (s.key c).retry = 0 then 1 else min 32 (2 * (s.key c).retry) }) ∧
      (ctxBit s Ctx.ROOT_EXP c = true → t.fb CH_STATUS.REKEYING c = false ∧ t.keys = s.keys) := by
  intro t
  have hu := sessionEnded_frame s c r
  have hjobs := onlyJobs_sessionEnded s c r
  have hagain := rerootAgain_again (sessionEnded s c r) c
  have hshown := failureShown_only (rerootAgain (sessionEnded s c r) c) c r
  have hkeying := fb_REKEYING_failureShown (rerootAgain (sessionEnded s c r) c) c r
  have ht : t = failureShown (rerootAgain (sessionEnded s c r) c) c r := (hsFail_eq s c r true).trans (by rw [if_pos rfl])
  clear_value t
  rw [← ht] at hshown hkeying
  clear ht
  generalize rerootAgain (sessionEnded s c r) c = v at hagain hshown hkeying
  generalize sessionEnded s c r = u at hu hjobs hagain
  have hctx : ctxBit u Ctx.ROOT_EXP c = ctxBit s Ctx.ROOT_EXP c :=
    (contextsKept_of_eq (by rw [hu]) (by rw [hu]) (by rw [hu])).ctxBit ..
  have hkeys : u.keys = s.keys := by rw [hu]
  have hregs : u.regs = s.regs := by rw [hu]
  have hkeyt : t.keys = v.keys := by rw [hshown.1]
  have hsilo : t.silo = u.silo := by rw [hshown.1, hagain.frame]
  have hengs : t.engs = u.engs := by rw [hshown.1, hagain.frame]
  refine ⟨onlyJobs.hsWork ⟨by rw [hsilo]; exact hjobs.1, fun e he => ?_⟩, ?_, fun x i hx => ?_, fun h => ?_, fun h => ?_⟩
  · rw [State.eng, hengs]
    exact hjobs.2 e he
  · rw [hshown.1, hagain.frame, hu]
  · rw [hshown.2.1 x i hx, hagain.regs x i fun hm => hx (List.mem_cons.2 (.inl (List.mem_singleton.1 hm))), State.reg,
      hregs, State.reg]
  · obtain ⟨hset, hkey⟩ := hagain.lasts (hctx.trans h)
    exact ⟨hkeying.trans hset, by rw [key_of_keys hkeyt, hkey, key_of_keys hkeys]⟩
  · obtain ⟨hset, hkey⟩ := hagain.expired (hctx.trans h)
    exact ⟨hkeying.trans hset, hkeyt.trans (hkey.trans hkeys)⟩

end

/-! ### A re-root starts (R145, R183, R200) -/

theorem siloReseed_frame (s : State) :
    siloReseed s = { s with silo := (siloReseed s).silo, freeCtr := (siloReseed s).freeCtr } := by
  unfold siloReseed
  split
  · next h =>
    unfold siloSeed at h
    dsimp only at h
    split at h
    · split at h
      · cases h
      · cases h
        rfl
    · cases h
  · rfl

theorem siloRandom_frame (s : State) (n : Nat) :
    (siloRandom s n).2 = { s with silo := (siloRandom s n).2.silo, freeCtr := (siloRandom s n).2.freeCtr } := by
  unfold siloRandom
  split
  · rfl
  · dsimp only
    split
    · rw [siloReseed_frame]
    · rfl

/-- Only the Silo, the key engines and the source of free values worked. -/
def siloWorked (s t : State) : Prop := t = { s with silo := t.silo, freeCtr := t.freeCtr, engs := t.engs, pllRun := t.pllRun }

theorem siloWorked.trans {s t u : State} (h : siloWorked s t) (h' : siloWorked t u) : siloWorked s u := by
  unfold siloWorked at *; rw [h', h]

theorem siloWorked_siloRandom (s : State) (n : Nat) : siloWorked s (siloRandom s n).2 := by
  have h := siloRandom_frame s n
  generalize (siloRandom s n).2 = t at h
  unfold siloWorked
  rw [h]

theorem siloWorked_hsJobs (s : State) (own : JobOwner) (c : Nat) (reroot : Bool) (l : List (Nat × List (List Byte))) :
    siloWorked s (hsJobs s own c reroot l) := by
  have h := (jobsMoved_queueJobs s (if own = .twin then 2 ^ 65 else hsRank s c reroot) own c 0 l).frame
  unfold siloWorked hsJobs
  generalize queueJobs s _ own c 0 l = t at h
  rw [h]

theorem siloWorked_helloBuild (s : State) (peer : W64) (w : HelloFlow) : siloWorked s (helloBuild s peer w).2 := by
  unfold helloBuild
  dsimp only
  exact (siloWorked_siloRandom s 4).trans <| (siloWorked_siloRandom _ 32).trans <| (siloWorked_siloRandom _ 48).trans <|
    (siloWorked_siloRandom _ 64).trans (siloWorked_hsJobs ..)

theorem helloBuild_session (s : State) (peer : W64) (w : HelloFlow) :
    let x := (helloBuild s peer w).1
    x.initiator = true ∧ x.reroot = w.reroot ∧ x.fI2R = w.fI2R ∧ x.fR2I = w.fR2I := by
  unfold helloBuild
  exact ⟨rfl, rfl, rfl, rfl⟩

/-- Nothing keeps a channel's HELLO from leaving: its flow is labelled, its peer pinned, and the Silo has identity, random numbers
and a suite to offer (R179, R204, R210, R217). -/
structure CanHello (s : State) (c : Nat) : Prop where
  bar : requestBar s c = none
  identity : s.silo.identity = true
  random : randomFor s helloDraws = true
  suites : ownSuites s ≠ []

/-- Contexts, the Silo and the sheaf are all that a HELLO looks at. -/
theorem CanHello.of_kept {s t : State} {c : Nat} (h : CanHello s c) (hctx : ContextsKept s t) (hsilo : t.silo = s.silo)
    (hsheaf : t.sheaf = s.sheaf) : CanHello t c where
  bar := by
    rw [← h.bar, requestBar, hctx.ctxBytes, hctx.ctxBytes, peerNode, hctx.ctxBytes, State.pin, hsilo]
    rfl
  identity := by rw [hsilo, h.identity]
  random := by
    rw [← h.random]
    unfold randomFor randomOk healthySources
    rw [hsilo]
  suites := by
    have : ownSuites t = ownSuites s := by
      unfold ownSuites suiteUsable polSuites polSuiteFloor polByte
      rw [hsheaf]
    rw [this]
    exact h.suites

/-- What a re-root's HELLO says of its channel's flow. -/
def rerootFlow (s : State) (c : Nat) : HelloFlow :=
  ⟨false, c, true, ownSuites s, hsParams s c, ctxBytes s Ctx.TX_SCI c, ctxBytes s Ctx.RX_SCI c, proposeTx s c, floorRx s c,
    ctx s Ctx.ROOT_LIFE c⟩

/-- The session of a re-root as its HELLO leaves. -/
def rerootSession (s : State) (c : Nat) : Session := (helloBuild s (peerNode s c) (rerootFlow s c)).1

/-- A re-root whose HELLO is built: its epochs are proposed, REKEYING is set. -/
def rerootBuilt (s : State) (c : Nat) : State :=
  (capEpochs (helloBuild s (peerNode s c) (rerootFlow s c)).2 c (proposeTx s c) (floorRx s c)).setF CH_STATUS.REKEYING c 1

theorem hsStart_reroot {s : State} {c : Nat} (h : CanHello s c) :
    hsStart s c true =
      hsSend ((rerootBuilt s c).setSession c (rerootSession s c)) c (rerootSession s c).hello := by
  unfold hsStart
  rw [h.bar, h.identity, h.random]
  dsimp only
  rw [if_neg (by decide), if_neg h.suites]
  rfl

/-- What starts with a re-root: an initiator's session that proposes the epochs of the channel, due until it commits. -/
structure RerootStarted (s t : State) (c : Nat) : Prop where
  session : ∃ y, t.session c = some y ∧ y.initiator = true ∧ y.reroot = true ∧
    y.fI2R = proposeTx s c ∧ y.fR2I = floorRx s c
  due : (t.key c).due = true
  status : t.fb CH_STATUS.REKEYING c = true
  regs : keepsRegs s t [(.CH_STATUS, c)]

theorem rerootBuilt_kept (s : State) (c : Nat) :
    (rerootBuilt s c).fb CH_STATUS.REKEYING c = true ∧ ((rerootBuilt s c).key c).due = (s.key c).due ∧
      keepsRegs s (rerootBuilt s c) [(.CH_STATUS, c)] := by
  have hwork := siloWorked_helloBuild s (peerNode s c) (rerootFlow s c)
  unfold rerootBuilt
  generalize (helloBuild s (peerNode s c) (rerootFlow s c)).2 = v at hwork
  have hkeys : v.keys = s.keys := by rw [hwork]
  have hregs : v.regs = s.regs := by rw [hwork]
  have hcap : ∀ r i, (capEpochs v c (proposeTx s c) (floorRx s c)).reg r i = v.reg r i := fun r i => by
    rw [capEpochs, State.reg, State.setKey_regs, State.reg]
  refine ⟨?_, ?_, fun r i hr => ?_⟩
  · rw [State.fb_setF (by decide)]
    rfl
  · rw [key_of_keys (State.setF_keys ..), capEpochs, State.key_setKey_self, key_of_keys hkeys]
  · rw [(setsRegs_setF ..).2 r i hr, hcap, State.reg, hregs, State.reg]

theorem rerootStarted_hsStart {s : State} {c : Nat} (h : CanHello s c) (hmark : (s.key c).due = true) :
    RerootStarted s (hsStart s c true) c := by
  obtain ⟨hinit, hre, hi2r, hr2i⟩ := helloBuild_session s (peerNode s c) (rerootFlow s c)
  obtain ⟨hrekeying, hdue, hregs⟩ := rerootBuilt_kept s c
  rw [hsStart_reroot h]
  have hx : (rerootSession s c).initiator = true := hinit
  have hsession := State.session_setSession (rerootBuilt s c) c hx
  generalize hy : rerootSession s c = y at hsession
  have hsend := hsSend_frame ((rerootBuilt s c).setSession c y) c y.hello
  generalize hsSend ((rerootBuilt s c).setSession c y) c y.hello = t at hsend
  generalize rerootBuilt s c = u at hsend hsession hregs hdue hrekeying
  have hsess : t.sessions = (u.setSession c y).sessions := by rw [hsend]
  have hkeys : t.keys = u.keys := by rw [hsend]; rfl
  have hreg : ∀ r i, t.reg r i = u.reg r i := fun r i => by rw [State.reg, hsend]; rfl
  refine ⟨⟨y, (session_of_sessions hsess c).trans hsession, ?_⟩, ?_, ?_, fun r i hr => (hreg r i).trans (hregs r i hr)⟩
  · rw [← hy]
    exact ⟨hinit, hre, hi2r, hr2i⟩
  · rw [key_of_keys hkeys, hdue, hmark]
  · rw [← hrekeying]
    unfold State.fb State.f
    rw [hreg]

end Sys2Proof.Machine
end

section
/-! # Handshake timers (R145, R193, R194, R198) -/

namespace Sys2Proof.Machine

/-- A re-root is due, with its interval anew. -/
def rerootMarked (s : State) (c : Nat) : State :=
  (s.setKey c { s.key c with due := true, retry := 0 }).setF CH_STATUS.REKEYING c 1

/-- The mark leaves what a HELLO and its proposals look at. -/
structure MarkKept (s t : State) (c : Nat) : Prop where
  contexts : ContextsKept s t
  silo : t.silo = s.silo
  sheaf : t.sheaf = s.sheaf
  sessions : t.sessions = s.sessions ∧ t.kept = s.kept
  state : chState t c = chState s c
  key : t.key c = { s.key c with due := true, retry := 0 }
  regs : keepsRegs s t [(.CH_STATUS, c)]

theorem markKept_rerootMarked (s : State) (c : Nat) : MarkKept s (rerootMarked s c) c where
  contexts := ContextsKept.trans (contextsKept_of_eq (State.setKey_rams ..) (State.setKey_ctxBlank ..) (State.setKey_regs ..))
    (contextsKept_setReg (by decide) ..)
  silo := (State.setF_silo ..).trans (State.setKey_silo ..)
  sheaf := (State.setF_sheaf ..).trans (State.setKey_sheaf ..)
  sessions := ⟨(State.setF_sessions ..).trans (State.setKey_sessions ..), (State.setF_kept ..).trans (State.setKey_kept ..)⟩
  state := by
    rw [chState, rerootMarked, State.f_setF_ne (by decide) (.inr (.inr (by decide))), chState, State.f, State.reg,
      State.setKey_regs, State.f, State.reg]
  key := by rw [rerootMarked, key_of_keys (State.setF_keys ..), State.key_setKey_self]
  regs := fun r i hr => by
    rw [rerootMarked, (setsRegs_setF ..).2 r i hr, State.reg, State.setKey_regs, State.reg]

section
variable {s t u : State} {c : Nat} (h : MarkKept s t c)
include h

theorem MarkKept.proposeTx : proposeTx t c = proposeTx s c := by
  unfold Sys2Proof.Machine.proposeTx egCur egNext egCur
  rw [h.key, h.state]
  simp only [h.contexts.ctx]

theorem MarkKept.floorRx : floorRx t c = floorRx s c := by
  unfold Sys2Proof.Machine.floorRx
  simp only [h.contexts.ctx]

theorem MarkKept.sessionRoom : sessionRoom t = sessionRoom s := by
  rw [Sys2Proof.Machine.sessionRoom, h.sessions.1, h.sessions.2, Sys2Proof.Machine.sessionRoom]

/-- A re-root that starts from the mark. -/
theorem MarkKept.started (hu : RerootStarted t u c) : RerootStarted s u c where
  session := by
    obtain ⟨y, hy, hinit, hre, htx, hrx⟩ := hu.session
    exact ⟨y, hy, hinit, hre, htx.trans h.proposeTx, hrx.trans h.floorRx⟩
  due := hu.due
  status := hu.status
  regs := fun r i hr => (hu.regs r i hr).trans (h.regs r i hr)

end

/-! ### Timers (R145, R193, R194, R198) -/

theorem serveKeyWait_nil {s : State} (h : s.keyWait = []) : serveKeyWait s = s := by
  rw [serveKeyWait, h]
  rfl

section
variable {s : State} {c : Fin 16384} {x : Session} (h : s.session c = some x)
include h

theorem helloRetransmit_again (hi : x.initiator = true) (ha : x.accept = []) (hs : x.sends < 8) :
    exec (.helloRetransmit c) s = .next (sentAgain s c x x.hello) := by
  show execHelloRetransmit c s = _
  simp [execHelloRetransmit, h, hi, ha, hs, sentAgain]

theorem helloRetransmit_expired (hi : x.initiator = true) (ha : x.accept = []) (hs : 8 ≤ x.sends) :
    exec (.helloRetransmit c) s = .next (serveKeyWait (hsExpire s c x hsNoOffer)) := by
  show execHelloRetransmit c s = _
  simp [execHelloRetransmit, h, hi, ha, Nat.not_lt.2 hs]

theorem acceptRetransmit_again (hi : x.initiator = true) (ha : x.accept ≠ []) (hs : x.sends < 8) :
    exec (.acceptRetransmit c) s = .next (sentAgain s c x x.accept) := by
  show execAcceptRetransmit c s = _
  simp [execAcceptRetransmit, h, hi, ha, hs, sentAgain]

theorem acceptRetransmit_expired (hi : x.initiator = true) (ha : x.accept ≠ []) (hs : 8 ≤ x.sends) :
    exec (.acceptRetransmit c) s = .next (serveKeyWait (hsExpire s c x hsNoConfirm)) := by
  show execAcceptRetransmit c s = _
  simp [execAcceptRetransmit, h, hi, ha, Nat.not_lt.2 hs]

theorem responderSessionExpiry_expired (hk : ∀ e ∈ s.kept, e.1 ≠ c.val) (hi : x.initiator = false) :
    exec (.responderSessionExpiry c) s = .next (serveKeyWait (hsExpire s c x hsNoAccept)) := by
  have hnone : (s.kept.any fun e => e.1 == c.val) = false := List.any_eq_false.2 fun e he => by simpa using hk e he
  show execResponderSessionExpiry c s = _
  simp [execResponderSessionExpiry, hnone, h, hi]

end

/-- What a responder keeps of a session goes at its time; without any the expiry does nothing. -/
theorem responderSessionExpiry_kept {s : State} {c : Fin 16384} (h : (∃ e ∈ s.kept, e.1 = c.val) ∨ s.session c = none)
    (hw : s.keyWait = []) : exec (.responderSessionExpiry c) s = .next { s with kept := SMap.erase s.kept c } := by
  show execResponderSessionExpiry c s = _
  unfold execResponderSessionExpiry
  by_cases hk : ∃ e ∈ s.kept, e.1 = c.val
  · have hany : (s.kept.any fun e => e.1 == c.val) = true := by simpa using hk
    rw [if_pos hany]
    exact congrArg _ (serveKeyWait_nil hw)
  · have hany : (s.kept.any fun e => e.1 == c.val) = false := by
      rw [List.any_eq_false]
      exact fun e he => by simpa using fun hc => hk ⟨e, he, hc⟩
    have hnone := h.resolve_left hk
    have herase : SMap.erase s.kept c.val = s.kept := SMap.erase_eq_self fun e he hc => hk ⟨e, he, hc⟩
    rw [hany, hnone, herase, if_neg (by decide), serveKeyWait_nil hw]

/-- A session that its timers end: with the timer's reason where no message was rejected. -/
theorem hsExpire_reason {x : Session} (h : x.reason = 0) (s : State) (c timer : Nat) :
    hsExpire s c x timer = hsFail s c timer x.reroot := by
  rw [hsExpire, h]
  rfl

section
variable {s : State} {c : Fin 16384} (hopen : rerootOpen s c = true) (hroot : ctxBit s Ctx.ROOT_EXP c = false)
include hopen hroot

theorem rerootDue_begins : exec (.rerootDue c) s = .next (hsBegin (rerootMarked s c) c true) := by
  show execRerootDue c s = _
  unfold execRerootDue rerootStart
  rw [hopen, hroot, if_pos (by decide)]
  rfl

theorem rerootRetry_due (hdue : (s.key c).due = true) : exec (.rerootRetry c) s =
    .next (if linkUp s (chLine s c) then hsBegin s c true else s.setKey c { s.key c with waitLink := true }) := by
  show execRerootRetry c s = _
  unfold execRerootRetry
  rw [hdue, hopen, hroot, if_pos (by decide)]

end

theorem hsBegin_waits {s : State} {c : Nat} (h : sessionRoom s ≠ true) :
    c ∈ (hsBegin s c true).keyWait ∧ (hsBegin s c true).sessions = s.sessions := by
  rw [hsBegin, if_neg h]
  exact ⟨by simp [hsWait], rfl⟩

/-- Settles O37: a message is sent again up to its eighth transmission and `hsFail` fails the session after it; a re-root that
is due is marked in CH_STATUS, and its HELLO either goes out or waits for the Silo. -/
theorem handshakeTimersRetryAndFail : Obligations.HandshakeTimersRetryAndFail := by
  intro s c x again fails open_ room waits starts
  have hagain : ∀ ins b, x.initiator = true → exec ins s = .next (sentAgain s c x b) → ∃ t, exec ins s = .next t ∧
      t.session c = some { x with sends := x.sends + 1 } ∧
      t = { s with sessions := t.sessions, links := t.links, cnts := t.cnts, msgId := t.msgId, fab := t.fab } :=
    fun ins b hi hrun => ⟨_, hrun, sentAgain_session hi s c b, sentAgain_frame s c x b⟩
  have hfails : ∀ ins why, why < 256 → exec ins s = .next (serveKeyWait (hsExpire s c x why)) → fails ins why := by
    intro ins why hwhy hrun hr hw
    obtain ⟨⟨hsess, hreason, hev, hcount⟩, hkw⟩ := failed_hsFail s c hwhy x.reroot
    rw [hsExpire_reason hr, serveKeyWait_nil (hkw hw)] at hrun
    refine ⟨_, hrun, hsess, hreason, hev, hcount, fun hre => ?_, fun hre => ?_⟩
    · rw [hre]
      exact hsFail_key s c why
    · rw [hre]
      exact hsFail_reroot s c why
  have hhello : open_ → CanHello s c := fun ⟨_, _, htx, hrx, hres, hpin, hid, hrand, hsuites⟩ =>
    ⟨by rw [requestBar, if_neg (not_or.2 ⟨htx, hrx⟩), hres, Option.isNone_eq_false_iff.2 hpin]; rfl, hid, hrand, hsuites⟩
  have hstarts : ∀ ins t, exec ins s = .next t → RerootStarted s t c → starts ins := fun ins t hrun ht => by
    obtain ⟨y, hy, hinit, hre, htx, hrx⟩ := ht.session
    exact ⟨t, y, hrun, hy, hinit, hre, htx, hrx, ht.due, ht.status, ht.regs⟩
  have hmark := markKept_rerootMarked s c
  refine ⟨fun h hi ha hs => hagain _ _ hi (helloRetransmit_again h hi ha hs),
    fun h hi ha hs => hagain _ _ hi (acceptRetransmit_again h hi ha hs),
    fun h hi ha hs => hfails _ _ (by decide) (helloRetransmit_expired h hi ha hs),
    fun h hi ha hs => hfails _ _ (by decide) (acceptRetransmit_expired h hi ha hs),
    fun hk h hi => hfails _ _ (by decide) (responderSessionExpiry_expired h hk hi),
    responderSessionExpiry_kept, fun ho hr => ?_, fun ho hr => ?_, fun ho hr hdue hl => ?_, fun ho hdue hl => ?_⟩
  · have hbegin : hsBegin (rerootMarked s c) c true = hsStart (rerootMarked s c) c true :=
      if_pos (hmark.sessionRoom.trans hr)
    have hcan := (hhello ho).of_kept hmark.contexts hmark.silo hmark.sheaf
    exact hstarts _ _ ((rerootDue_begins ho.1 ho.2.1).trans (congrArg _ hbegin))
      (hmark.started (rerootStarted_hsStart hcan (by rw [hmark.key])))
  · obtain ⟨hwait, hsess⟩ := hsBegin_waits (c := c) (mt hmark.sessionRoom.symm.trans hr)
    exact ⟨_, rerootDue_begins ho.1 ho.2.1, hwait, hsess.trans hmark.sessions.1⟩
  · have hrun := rerootRetry_due ho.1 ho.2.1 hdue
    rw [if_pos hl, hsBegin, if_pos hr] at hrun
    exact hstarts _ _ hrun (rerootStarted_hsStart (hhello ho) hdue)
  · rw [rerootRetry_due ho.1 ho.2.1 hdue, hl, if_neg (by decide)]

end Sys2Proof.Machine
end

section
/-! # Key slots: what a mirror record and a derivation leave (R34, R144, R240) -/

namespace Sys2Proof.Machine

/-! ### Records of the mirror (R240) -/

section
variable {s t u : State}

theorem onlyMirrors_refl (s : State) : onlyMirrors s s := ⟨rfl, fun _ _ _ => rfl, fun _ => ⟨rfl, rfl, rfl⟩⟩

theorem onlyMirrors_sendRec (h : s.f TWN_STATUS.ROLE 0 = 1) (r : MirrorRec) : onlyMirrors s (sendRec s r) := by
  have htold := told_twinSend (s := s) (.inl h) ((setsRegs_refl s).mono (List.nil_subset _)) (mirKind r) (mirBody r)
  exact ⟨rfl, htold.cnts, fun hne => absurd h hne⟩

theorem onlyMirrors_mirror (s : State) (r : MirrorRec) : onlyMirrors s (mirror s r) := by
  unfold mirror
  split
  · next h => exact onlyMirrors_sendRec h r
  · exact onlyMirrors_refl s

theorem onlyMirrors_of_eq (ht : t.twin = s.twin) (ho : t.out = s.out) (hc : t.cnts = s.cnts) : onlyMirrors s t :=
  ⟨by rw [ht], fun c i _ => by rw [State.cnt, hc, State.cnt], fun _ => ⟨ht, ho, hc⟩⟩

theorem onlyMirrors.trans (h : onlyMirrors s t) (h' : onlyMirrors t u) (hr : t.f TWN_STATUS.ROLE 0 = s.f TWN_STATUS.ROLE 0) :
    onlyMirrors s u := by
  obtain ⟨htwin, hcnts, hsilent⟩ := h
  obtain ⟨htwin', hcnts', hsilent'⟩ := h'
  refine ⟨by rw [htwin', htwin], fun c i hc => (hcnts' c i hc).trans (hcnts c i hc), fun hne => ?_⟩
  obtain ⟨h1, h2, h3⟩ := hsilent hne
  obtain ⟨h4, h5, h6⟩ := hsilent' (by rw [hr]; exact hne)
  exact ⟨h4.trans h1, h5.trans h2, h6.trans h3⟩

end

/-! ### Derivations of epochs (R34, R144, R511) -/

/-- A derivation was started or ended: the jobs and the key record of one channel, which becomes `k`, alone differ. -/
structure Derived (s t : State) (c : Nat) (k : ChanKey) : Prop where
  frame : t = { s with keys := t.keys, silo := t.silo, engs := t.engs, pllRun := t.pllRun }
  jobs : onlyJobs s t
  key : t.key c = k
  others : ∀ d, d ≠ c → t.key d = s.key d

section
variable {s t : State} {c : Nat} {k : ChanKey}

theorem derived_refl (s : State) (c : Nat) : Derived s s c (s.key c) := ⟨rfl, ⟨rfl, fun _ _ => rfl⟩, rfl, fun _ _ => rfl⟩

theorem derived_setKey (s : State) (c : Nat) (k : ChanKey) : Derived s (s.setKey c k) c k :=
  ⟨rfl, ⟨rfl, fun _ _ => rfl⟩, State.key_setKey_self .., fun d hd => by rw [State.key_setKey, if_neg hd]⟩

theorem Derived.queued (h : Derived s t c k) (rank : Nat) (own : JobOwner) (d dir : Nat) (l : List (Nat × List (List Byte))) :
    Derived s (queueJobs t rank own d dir l) c k := by
  have hq := jobsMoved_queueJobs t rank own d dir l
  generalize queueJobs t rank own d dir l = u at hq
  obtain ⟨hframe, hsilo, heng⟩ := hq
  have hkeys : u.keys = t.keys := by rw [hframe]
  refine ⟨?_, h.jobs.trans ⟨hsilo, heng⟩, (key_of_keys hkeys c).trans h.key,
    fun d hd => (key_of_keys hkeys d).trans (h.others d hd)⟩
  rw [hframe, h.frame]

variable (h : Derived s t c k)
include h

theorem Derived.contextsKept : ContextsKept s t := contextsKept_of_eq (by rw [h.frame]) (by rw [h.frame]) (by rw [h.frame])

theorem Derived.onlyMirrors : onlyMirrors s t := onlyMirrors_of_eq (by rw [h.frame]) (by rw [h.frame]) (by rw [h.frame])

theorem Derived.pins : t.silo.pins = s.silo.pins := by rw [h.jobs.1]

end

theorem derived_startEpoch (s : State) (c : Nat) (r : Root) (tx : Bool) (e : Nat) : Derived s (startEpoch s c r tx e) c
    (if tx then { s.key c with jobTx := some e } else { s.key c with jobRx := some e }) := (derived_setKey s c _).queued ..

/-- The key record of a channel once a derivation has ended: the direction's job goes, where it was the epoch's. -/
def endedKey (k : ChanKey) (tx : Bool) (e : Nat) : ChanKey :=
  if (if tx then k.jobTx else k.jobRx) = some e then (if tx then { k with jobTx := none } else { k with jobRx := none }) else k

theorem derived_endEpoch (s : State) (c : Nat) (r : Root) (tx : Bool) (e : Nat) :
    Derived s (endEpoch s c r tx e) c (endedKey (s.key c) tx e) := by
  unfold endEpoch endedKey
  dsimp only
  by_cases h : (if tx then (s.key c).jobTx else (s.key c).jobRx) = some e
  · rw [if_pos h, if_pos h]
    exact derived_setKey ..
  · rw [if_neg h, if_neg h]
    exact (derived_refl s c).queued ..

theorem onlyDerives_deriveNext (s : State) (c : Nat) (tx : Bool) : ∃ k, Derived s (deriveNext s c tx) c k ∧
    onlyDerives s (deriveNext s c tx) c := by
  have hkeep : Derived s s c (s.key c) := derived_refl s c
  unfold deriveNext
  split
  · exact ⟨_, hkeep, hkeep.jobs, rfl, hkeep.others⟩
  · split
    · next r e _ =>
      have h := derived_startEpoch s c r tx e
      refine ⟨_, h, h.jobs, ?_, h.others⟩
      rw [h.key]
      cases tx <;> rfl
    · exact ⟨_, hkeep, hkeep.jobs, rfl, hkeep.others⟩

/-- The epoch that follows depends on the root, its bounds, the pins and ROOT_EXP, and not on the jobs under way. -/
theorem nextEpoch_congr {s t : State} {c : Nat} (hctx : ContextsKept s t) (hpins : t.silo.pins = s.silo.pins)
    (hkey : t.key c = { s.key c with jobTx := (t.key c).jobTx, jobRx := (t.key c).jobRx }) (cur : Nat) (tx : Bool) :
    nextEpoch t c cur tx = nextEpoch s c cur tx := by
  generalize (t.key c).jobTx = a at hkey
  generalize (t.key c).jobRx = b at hkey
  unfold nextEpoch rootPeerPinned State.pin
  rw [hkey, hctx.ctxBit, hpins]

theorem deriveNext_jobTx {s : State} {c e : Nat} {r : Root} (hn : nextEpoch s c (curEpoch s c true) true = some (r, e))
    (hi : ctxBit s Ctx.IMPORT c = false) (hs : shadows s = false) : ((deriveNext s c true).key c).jobTx = some e := by
  unfold deriveNext
  rw [hi, hs, if_neg (by decide), hn]
  exact congrArg ChanKey.jobTx (derived_startEpoch s c r true e).key

end Sys2Proof.Machine
end

section
/-! # Key slots: their material, and what work on them leaves (R139, R240, R511) -/

namespace Sys2Proof.Machine

/-! ### The material of a slot as bytes -/

theorem leNat_inj {a b : List Byte} (hl : a.length = b.length) (h : leNat a = leNat b) : a = b := by
  induction a generalizing b with
  | nil => exact (List.length_eq_zero_iff.1 hl.symm).symm
  | cons x a ih =>
    obtain _ | ⟨y, b⟩ := b
    · exact absurd hl (by simp)
    · have hx := x.isLt
      have hy := y.isLt
      rw [leNat, leNat] at h
      rw [BitVec.eq_of_toNat_eq (show x.toNat = y.toNat by omega), ih (by simpa using hl) (by omega)]

/-- A field of whole bytes that reads as the number of some bytes holds them. -/
theorem ctxBytes_of_ctx {s : State} {x : CtxF} {c : Nat} {bs : List Byte} (hx : wholeBytes x = true) (hl : bs.length = x.len / 8)
    (h : ctx s x c = leNat bs) : ctxBytes s x c = bs := by
  have hr : (ctxBytes s x c).length = x.len / 8 := length_ramBytes ..
  refine leNat_inj (hr.trans hl.symm) (Eq.trans ?_ h)
  have hlt := leNat_lt (ctxBytes s x c)
  rw [hr] at hlt
  obtain ⟨⟨h0, h8⟩, -⟩ := by simpa [wholeBytes] using hx
  rw [show 8 * (x.len / 8) = x.len by omega] at hlt
  rw [ctx_eq, ← ctxBytes_eq hx, h0, bitsOf, Nat.zero_mod, pow_zero, Nat.div_one, Nat.mod_eq_of_lt hlt]

/-- The fields of a slot: as the Silo key path writes them, with an epoch and a salt of 32 bits. -/
def slotFields (key aux epoch salt : CtxF) : Bool :=
  slotLayout key aux epoch salt && wholeBytes salt && salt.len == 32 && epoch.len == 32 && wholeBytes key && wholeBytes aux

theorem slotFields_eg (k : Nat) : slotFields (egKey k) (egAux k) (egEpoch k) (egSalt k) = true := by
  unfold egKey egAux egEpoch egSalt
  split <;> decide

theorem slotFields_in (k : Nat) : slotFields (inKey k) (inAux k) (inEpoch k) (inSalt k) = true := by
  unfold inKey inAux inEpoch inSalt
  split <;> decide

/-- The material of an ingress slot shares no byte with the VALID bits. -/
theorem apart_inValid (k : Nat) : [inKey k, inAux k, inEpoch k, inSalt k].all (apart Ctx.IN_VALID) = true := by
  unfold inKey inAux inEpoch inSalt
  split <;> decide

theorem apart_comm (x y : CtxF) : apart x y = apart y x := Bool.or_comm ..

/-- A slot holds the material of an epoch. -/
structure SlotHolds (t : State) (c : Nat) (key aux epoch salt : CtxF) (m : KeyMat) : Prop where
  key : ctxBytes t key c = m.key
  aux : ctxBytes t aux c = m.aux
  epoch : ctx t epoch c = m.epoch % 2 ^ 32
  salt : ctxBytes t salt c = m.salt

/-- The material has the sizes of its fields. -/
def KeyMat.sized (m : KeyMat) : Prop := m.key.length = 32 ∧ m.aux.length = 32 ∧ m.salt.length = 4

theorem epochKeys_epoch (s : State) (c : Nat) (r : Root) (tx : Bool) (e : Nat) : (epochKeys s c r tx e).epoch = e := by
  unfold epochKeys
  dsimp only
  split_ifs <;> rfl

theorem epochKeys_sized (s : State) (c : Nat) (r : Root) (tx : Bool) (e : Nat) : (epochKeys s c r tx e).sized := by
  unfold epochKeys KeyMat.sized
  dsimp only
  split_ifs <;> simp [zeros]

section
variable {s t : State} {c : Nat} {key aux epoch salt : CtxF} {m : KeyMat}

theorem writeSlot_quiet (h : memQuiet s ctxCtl) (hf : slotFields key aux epoch salt = true) (hm : m.sized) (c : Nat) :
    ctxOnly s (writeSlot s c key aux epoch salt m) c [key, aux, epoch, salt] ∧
      SlotHolds (writeSlot s c key aux epoch salt m) c key aux epoch salt m := by
  simp only [slotFields, Bool.and_eq_true, beq_iff_eq] at hf
  obtain ⟨⟨⟨⟨⟨hl, hw⟩, hn⟩, he⟩, -⟩, -⟩ := hf
  obtain ⟨hkey, haux, hsalt⟩ := hm
  obtain ⟨ho, h1, h2, h3, h4⟩ := putSlot_quiet h hl c hkey haux m.epoch (leNat m.salt)
  have hlt := leNat_lt m.salt
  rw [hsalt] at hlt
  rw [hn, Nat.mod_eq_of_lt hlt] at h4
  rw [he] at h3
  exact ⟨ho, h1, h2, h3, ctxBytes_of_ctx hw (by rw [hsalt, hn]) h4⟩

theorem SlotHolds.kept (h : SlotHolds s c key aux epoch salt m) (hk : ContextsKept s t) : SlotHolds t c key aux epoch salt m :=
  ⟨(hk.ctxBytes ..).trans h.key, (hk.ctxBytes ..).trans h.aux, (hk.ctx ..).trans h.epoch, (hk.ctxBytes ..).trans h.salt⟩

/-- A field apart from a slot's is written. -/
theorem SlotHolds.written (h : SlotHolds s c key aux epoch salt m) (hf : slotFields key aux epoch salt = true) {x : CtxF}
    (hx : [key, aux, epoch, salt].all (apart x) = true) (ho : ctxOnly s t c [x]) : SlotHolds t c key aux epoch salt m := by
  simp only [slotFields, Bool.and_eq_true, beq_iff_eq] at hf
  obtain ⟨⟨⟨⟨⟨-, hsalt⟩, -⟩, -⟩, hkey⟩, haux⟩ := hf
  have hap : ∀ y ∈ [key, aux, epoch, salt], [x].all (apart y) = true := fun y hy => by
    rw [List.all_cons, List.all_nil, Bool.and_true, apart_comm]
    exact List.all_eq_true.1 hx y hy
  exact ⟨(ho.ctxBytes hkey (hap _ (by simp))).trans h.key, (ho.ctxBytes haux (hap _ (by simp))).trans h.aux,
    (ho.ctx (hap _ (by simp))).trans h.epoch, (ho.ctxBytes hsalt (hap _ (by simp))).trans h.salt⟩

end

/-! ### What the work on a slot leaves (R139, R240, R511) -/

/-- Work on the slots of a channel: fields of its context and its key record, jobs, and records of the mirror. -/
structure SlotWork (s t : State) (c : Nat) (fs : List CtxF) (k : ChanKey) : Prop where
  frame : t = { s with rams := t.rams, valid := t.valid, memCtl := t.memCtl, silo := t.silo, engs := t.engs, pllRun := t.pllRun,
                       keys := t.keys, twin := t.twin, out := t.out, cnts := t.cnts }
  keeps : keepsCtx s t c fs
  jobs : onlyJobs s t
  mirrors : onlyMirrors s t
  key : t.key c = k
  others : ∀ d, d ≠ c → t.key d = s.key d

theorem onlyJobs_of_eq {s t : State} (hs : t.silo = s.silo) (he : t.engs = s.engs) : onlyJobs s t :=
  ⟨by rw [hs], fun e _ => by rw [State.eng, he, State.eng]⟩

section
variable {s t u : State} {c : Nat} {fs gs : List CtxF} {k k' : ChanKey}

theorem ctxOnly.slotWork (h : ctxOnly s t c fs) : SlotWork s t c fs (s.key c) := by
  obtain ⟨hframe, hkeeps⟩ := h
  refine ⟨?_, hkeeps, onlyJobs_of_eq ?_ ?_, onlyMirrors_of_eq ?_ ?_ hframe.cnts, key_of_keys hframe.keys c,
    fun d _ => key_of_keys hframe.keys d⟩
  all_goals rw [show t = _ from hframe]

theorem keepsCtx_of_contextsKept (h : ContextsKept s t) (c : Nat) (fs : List CtxF) : keepsCtx s t c fs :=
  (contextsKept_refl s).keepsCtx (keepsMem_refl s _) h

theorem Derived.slotWork (h : Derived s t c k) : SlotWork s t c fs k :=
  ⟨by rw [h.frame], keepsCtx_of_contextsKept h.contextsKept c fs, h.jobs, h.onlyMirrors, h.key, h.others⟩

theorem slotWork_mirror (s : State) (r : MirrorRec) : SlotWork s (mirror s r) c fs (s.key c) := by
  have hk := contextsKept_mirror s r
  have hm := onlyMirrors_mirror s r
  have hf := mirror_frame s r
  generalize mirror s r = t at hk hm hf
  have hkeys : t.keys = s.keys := by rw [hf]
  exact ⟨by rw [hf], keepsCtx_of_contextsKept hk c fs, onlyJobs_of_eq (by rw [hf]) (by rw [hf]), hm,
    key_of_keys hkeys c, fun d _ => key_of_keys hkeys d⟩

theorem SlotWork.mono (h : SlotWork s t c fs k) (hs : fs ⊆ gs) : SlotWork s t c gs k :=
  { h with keeps := h.keeps.mono (List.map_subset _ hs) }

section
variable (h : SlotWork s t c fs k)
include h

theorem SlotWork.regs : t.regs = s.regs := by rw [h.frame]

theorem SlotWork.f (x : Fld) (i : Nat) : t.f x i = s.f x i := by simp only [State.f, State.reg, h.regs]

theorem SlotWork.quiet {m : Nat} (hq : memQuiet s m) : memQuiet t m :=
  ⟨((congrArg State.errs h.frame).trans rfl).trans hq.1, (h.f ..).trans hq.2⟩

theorem SlotWork.fieldRange (d : Nat) : fieldRange t d = fieldRange s d := funext fun x => by
  unfold Sys2Proof.Machine.fieldRange ctxAddr slotOf
  rw [h.f]

theorem SlotWork.trans (h' : SlotWork t u c fs k') : SlotWork s u c fs k' := by
  refine ⟨by rw [h'.frame, h.frame], h.keeps.trans ?_, h.jobs.trans h'.jobs, h.mirrors.trans h'.mirrors (h.f ..), h'.key,
    fun d hd => (h'.others d hd).trans (h.others d hd)⟩
  have := h'.keeps
  rwa [keepsCtx, h.fieldRange] at this

end

end

end Sys2Proof.Machine
end

section
/-! # Key slots: the epoch key installed next, and a root that expires (R139, R144, R145, R192, R241) -/

namespace Sys2Proof.Machine

/-! ### Installs into the next slot (R139, R192, R241) -/

section
variable {s : State}

theorem egNext_lt (s : State) (c : Nat) : egNext s c < 2 := by unfold egNext; omega

theorem inNext_lt (s : State) (c : Nat) : inNext s c < 3 := Nat.mod_lt _ (by decide)

/-- A VALID bit that was set is set. -/
theorem bitAt_set (v : Nat) {k n : Nat} (hk : k < n) : bitAt (putBits v k 1 (b2n true) % 2 ^ n) k = true := by
  rw [bitAt, Nat.testBit_mod_two_pow, testBit_putBits, if_pos (by omega)]
  simp [b2n, hk]

/-- The key record of a channel whose next egress slot was filled: on an ACTIVE twin member it waits for the SHADOW. -/
def filledKey (s : State) (k : ChanKey) : ChanKey := if s.f TWN_STATUS.ROLE 0 = 1 then { k with waitAck := true } else k

theorem slotWork_setKey (s : State) (c : Nat) (fs : List CtxF) (k : ChanKey) : SlotWork s (s.setKey c k) c fs k :=
  (derived_setKey s c k).slotWork

theorem slotWork_sendRec (h : s.f TWN_STATUS.ROLE 0 = 1) (r : MirrorRec) (c : Nat) (fs : List CtxF) :
    SlotWork s (sendRec s r) c fs (s.key c) := by
  have hm := slotWork_mirror (c := c) (fs := fs) s r
  rwa [mirror, if_pos h] at hm

theorem contextsKept_sendRec (h : s.f TWN_STATUS.ROLE 0 = 1) (r : MirrorRec) : ContextsKept s (sendRec s r) := by
  have hm := contextsKept_mirror s r
  rwa [mirror, if_pos h] at hm

theorem inValid_clean (h : noErrors s) (c k : Nat) : inValid s c k = bitAt (ctx s Ctx.IN_VALID c) k := by
  unfold inValid inHeadBad
  simp only [ctxPoisoned_clean h, Bool.not_false, Bool.and_true]

/-- The fields that an install into an egress slot writes. -/
abbrev egFilled (k : Nat) : List CtxF := [egKey k, egAux k, egEpoch k, egSalt k, Ctx.VALID]

/-- The fields that an install into an ingress slot writes. -/
abbrev inFilled (k : Nat) : List CtxF := [inKey k, inAux k, inEpoch k, inSalt k, Ctx.IN_VALID]

/-- An install into the egress half. -/
theorem installEg_spec (h : memQuiet s ctxCtl) (c : Nat) {m : KeyMat} (hm : m.sized) :
    let k := egNext s c
    let t := installEg s c m
    SlotHolds t c (egKey k) (egAux k) (egEpoch k) (egSalt k) m ∧
      SlotWork s t c (egFilled k) (filledKey s (s.key c)) ∧
      (s.f TWN_STATUS.ROLE 0 ≠ 1 → egValid t c k = true) ∧
      (s.f TWN_STATUS.ROLE 0 = 1 → ctx t Ctx.VALID c = ctx s Ctx.VALID c) := by
  intro k t
  obtain ⟨ho, hmat⟩ := writeSlot_quiet h (slotFields_eg k) hm c
  have ht : t = if (writeSlot s c (egKey k) (egAux k) (egEpoch k) (egSalt k) m).f TWN_STATUS.ROLE 0 = 1 then
      sendRec ((writeSlot s c (egKey k) (egAux k) (egEpoch k) (egSalt k) m).setKey c
        { (writeSlot s c (egKey k) (egAux k) (egEpoch k) (egSalt k) m).key c with waitAck := true })
        (.install (chFin c) .egress (BitVec.ofNat 32 m.epoch))
      else setEgValid (writeSlot s c (egKey k) (egAux k) (egEpoch k) (egSalt k) m) c k true codeSilo := rfl
  generalize writeSlot s c (egKey k) (egAux k) (egEpoch k) (egSalt k) m = u at ho hmat ht
  clear_value t
  have hwork : SlotWork s u c (egFilled k) (s.key c) := (ho.mono (by simp)).slotWork
  rw [ho.frame.f] at ht
  rw [filledKey]
  by_cases hrole : s.f TWN_STATUS.ROLE 0 = 1
  · rw [if_pos hrole] at ht ⊢
    rw [hwork.key] at ht
    have hset := slotWork_setKey u c (egFilled k) { s.key c with waitAck := true }
    have hkept := contextsKept_of_eq (s := u) (t := u.setKey c { s.key c with waitAck := true }) rfl rfl rfl
    have hself := State.key_setKey_self u c { s.key c with waitAck := true }
    generalize u.setKey c { s.key c with waitAck := true } = v at hset hkept hself ht
    have hr : v.f TWN_STATUS.ROLE 0 = 1 := (hset.f ..).trans ((ho.frame.f ..).trans hrole)
    have hsend := slotWork_sendRec hr (.install (chFin c) .egress (BitVec.ofNat 32 m.epoch)) c (egFilled k)
    have hkept := hkept.trans (contextsKept_sendRec hr (.install (chFin c) .egress (BitVec.ofNat 32 m.epoch)))
    rw [← ht] at hsend hkept
    rw [hself] at hsend
    exact ⟨hmat.kept hkept, (hwork.trans hset).trans hsend, fun hne => absurd hrole hne,
      fun _ => (hkept.ctx ..).trans (ho.ctx (apart_valid k))⟩
  · rw [if_neg hrole] at ht ⊢
    obtain ⟨hv, ov⟩ := setEgValid_quiet (ho.frame.quiet h) c k true codeSilo
    rw [← ht] at hv ov
    have hset := (ov.mono (gs := (egFilled k)) (by simp)).slotWork
    rw [hwork.key] at hset
    refine ⟨hmat.written (slotFields_eg k) (apart_valid k) ov, hwork.trans hset, fun _ => ?_, fun hr => absurd hr hrole⟩
    rw [egValid_clean (ov.frame.quiet (ho.frame.quiet h)).1, hv]
    exact bitAt_set (n := 2) _ (egNext_lt s c)

/-- An install into the ingress half. -/
theorem installIn_spec (h : memQuiet s ctxCtl) (c : Nat) {m : KeyMat} (hm : m.sized) :
    let k := inNext s c
    let t := installIn s c m
    SlotHolds t c (inKey k) (inAux k) (inEpoch k) (inSalt k) m ∧
      SlotWork s t c (inFilled k) (s.key c) ∧ inValid t c k = true := by
  intro k t
  obtain ⟨ho, hmat⟩ := writeSlot_quiet h (slotFields_in k) hm c
  have ht : t = setInValid (mirror (writeSlot s c (inKey k) (inAux k) (inEpoch k) (inSalt k) m)
    (.install (chFin c) .ingress (BitVec.ofNat 32 m.epoch))) c k true codeSilo := rfl
  generalize writeSlot s c (inKey k) (inAux k) (inEpoch k) (inSalt k) m = u at ho hmat ht
  have hwork : SlotWork s u c (inFilled k) (s.key c) := (ho.mono (by simp)).slotWork
  have hkept := contextsKept_mirror u (.install (chFin c) .ingress (BitVec.ofNat 32 m.epoch))
  have hsend := hwork.trans (slotWork_mirror u (.install (chFin c) .ingress (BitVec.ofNat 32 m.epoch)))
  generalize mirror u (.install (chFin c) .ingress (BitVec.ofNat 32 m.epoch)) = v at hkept hsend ht
  obtain ⟨hv, ov⟩ := setInValid_quiet (hsend.quiet h) c k true codeSilo
  rw [← ht] at hv ov
  have hset := (ov.mono (gs := (inFilled k)) (by simp)).slotWork
  rw [hsend.key, hwork.key] at hset
  refine ⟨(hmat.kept hkept).written (slotFields_in k) (apart_inValid k) ov, hsend.trans hset, ?_⟩
  rw [inValid_clean (ov.frame.quiet (hsend.quiet h)).1, hv]
  exact bitAt_set (n := 3) _ (inNext_lt s c)

theorem endedKey_tx (k : ChanKey) (e : Nat) : endedKey k true e = { k with jobTx := (endedKey k true e).jobTx } := by
  simp only [endedKey, if_true]
  split <;> rfl

theorem endedKey_rx (k : ChanKey) (e : Nat) : endedKey k false e = { k with jobRx := (endedKey k false e).jobRx } := by
  simp only [endedKey, Bool.false_eq_true, if_false]
  split <;> rfl

theorem endedKey_old (k : ChanKey) (tx : Bool) (e : Nat) : (endedKey k tx e).old = k.old := by
  unfold endedKey
  split_ifs <;> rfl

end

/-- What the statement says of a slot that was filled for epoch `e`. -/
def slotFilled (s t : State) (c e : Nat) (key aux epoch salt : CtxF) (m : KeyMat) : Prop :=
  ctxBytes t key c = m.key ∧ ctxBytes t aux c = m.aux ∧ ctx t epoch c = e % 2 ^ 32 ∧ ctxBytes t salt c = m.salt ∧
  t = { s with rams := t.rams, valid := t.valid, memCtl := t.memCtl, silo := t.silo, engs := t.engs, pllRun := t.pllRun,
               keys := t.keys, twin := t.twin, out := t.out, cnts := t.cnts } ∧
  onlyJobs s t ∧ onlyMirrors s t ∧ ∀ d, d ≠ c → t.key d = s.key d

section
variable {s : State} {c e : Nat} {r : Root}

theorem SlotWork.filled {t : State} {fs : List CtxF} {k : ChanKey} {tx : Bool} {key aux epoch salt : CtxF}
    (h : SlotWork s t c fs k) (hm : SlotHolds t c key aux epoch salt (epochKeys s c r tx e)) :
    slotFilled s t c e key aux epoch salt (epochKeys s c r tx e) :=
  ⟨hm.key, hm.aux, hm.epoch.trans (by rw [epochKeys_epoch]), hm.salt, h.frame, h.jobs, h.mirrors, h.others⟩

/-- EPOCH_KEY_INSTALL of the egress half. -/
theorem installNext_egress (h : memQuiet s ctxCtl) (ho : (s.key c).old = none) (hi : ctxBit s Ctx.IMPORT c = false)
    (hst : stReady ≤ chState s c) (hv : bitAt (ctx s Ctx.VALID c) (egNext s c) = false) (hr : (s.chan c).retiring = false)
    (hw : (s.key c).waitAck = false) (hn : nextEpoch s c (ctx s (egEpoch (egCur s c)) c) true = some (r, e)) :
    let k := egNext s c
    let t := installNext s c .egress
    slotFilled s t c e (egKey k) (egAux k) (egEpoch k) (egSalt k) (epochKeys s c r true e) ∧
      SlotWork s t c (egFilled k) (filledKey s (endedKey (s.key c) true e)) ∧
      (s.f TWN_STATUS.ROLE 0 ≠ 1 → egValid t c k = true) ∧
      (s.f TWN_STATUS.ROLE 0 = 1 → ctx t Ctx.VALID c = ctx s Ctx.VALID c) := by
  intro k t
  have ht : t = releaseOld (installEg (endEpoch s c r true e) c (epochKeys s c r true e)) c := by
    show installNext s c .egress = _
    unfold installNext
    rw [hi, Bool.false_or, if_neg (by simpa using hst)]
    dsimp only
    rw [hv, hr, hw, if_neg (by decide), show curEpoch s c true = ctx s (egEpoch (egCur s c)) c from rfl, hn]
  clear_value t
  have hend := derived_endEpoch s c r true e
  generalize endEpoch s c r true e = u at hend ht
  have hwork := hend.slotWork (fs := egFilled k)
  have hk : egNext u c = k := by
    unfold egNext egCur
    rw [hend.contextsKept.ctx]
    rfl
  have hf : filledKey u (u.key c) = filledKey s (endedKey (s.key c) true e) := by
    rw [filledKey, hend.key, hwork.f, filledKey]
  obtain ⟨hmat, hins, hvalid, hwait⟩ := installEg_spec (hwork.quiet h) c (epochKeys_sized s c r true e)
  rw [hk] at hmat hins hvalid
  rw [hf] at hins
  generalize installEg u c (epochKeys s c r true e) = v at hmat hins hvalid hwait ht
  have hold : (v.key c).old = none := by
    rw [hins.key, filledKey]
    split
    · exact (endedKey_old ..).trans ho
    · exact (endedKey_old ..).trans ho
  rw [releaseOld_none hold] at ht
  subst ht
  have hall := hwork.trans hins
  refine ⟨hall.filled hmat, hall, fun hne => hvalid (by rwa [hwork.f]), fun heq => ?_⟩
  exact (hwait (by rwa [hwork.f])).trans (hend.contextsKept.ctx ..)

/-- EPOCH_KEY_INSTALL of the ingress half. -/
theorem installNext_ingress (h : memQuiet s ctxCtl) (ho : (s.key c).old = none) (hi : ctxBit s Ctx.IMPORT c = false)
    (hst : stReady ≤ chState s c) (hv : bitAt (ctx s Ctx.IN_VALID c) (inNext s c) = false)
    (hn : nextEpoch s c (ctx s (inEpoch (inCur s c)) c) false = some (r, e)) (hb : anBusy s c e = false) :
    let k := inNext s c
    let t := installNext s c .ingress
    slotFilled s t c e (inKey k) (inAux k) (inEpoch k) (inSalt k) (epochKeys s c r false e) ∧
      SlotWork s t c (inFilled k) (endedKey (s.key c) false e) ∧ inValid t c k = true := by
  intro k t
  have ht : t = releaseOld (installIn (endEpoch s c r false e) c (epochKeys s c r false e)) c := by
    show installNext s c .ingress = _
    unfold installNext
    rw [hi, Bool.false_or, if_neg (by simpa using hst)]
    dsimp only
    rw [hv, if_neg (by decide), show curEpoch s c false = ctx s (inEpoch (inCur s c)) c from rfl, hn]
    dsimp only
    rw [hb, if_neg (by decide)]
  clear_value t
  have hend := derived_endEpoch s c r false e
  generalize endEpoch s c r false e = u at hend ht
  have hwork := hend.slotWork (fs := inFilled k)
  have hk : inNext u c = k := by
    unfold inNext inCur
    rw [hend.contextsKept.ctx]
    rfl
  obtain ⟨hmat, hins, hvalid⟩ := installIn_spec (hwork.quiet h) c (epochKeys_sized s c r false e)
  rw [hk] at hmat hins hvalid
  rw [hend.key] at hins
  generalize installIn u c (epochKeys s c r false e) = v at hmat hins hvalid ht
  have hold : (v.key c).old = none := by
    rw [hins.key, endedKey_old]
    exact ho
  rw [releaseOld_none hold] at ht
  subst ht
  have hall := hwork.trans hins
  exact ⟨hall.filled hmat, hall, hvalid⟩

end

/-! ### A root expires (R145) -/

section
variable {s : State} {c : Nat}

theorem nextEpoch_expired (h : ctxBit s Ctx.ROOT_EXP c = true) (cur : Nat) (tx : Bool) : nextEpoch s c cur tx = none := by
  unfold nextEpoch
  dsimp only
  split
  · rfl
  · rw [h, Bool.true_or, Bool.true_or, if_pos rfl]

/-- What the registers show of a root that expired: the event, and no re-root unless a handshake still runs. -/
def expiryShown (s : State) (c : Nat) (idle : Bool) : State :=
  (if idle then s.setF CH_STATUS.REKEYING c 0 else s).raise CH_EVT.ROOT_EXPIRED c

theorem setsRegs_expiryShown (s : State) (c : Nat) (idle : Bool) :
    setsRegs s (expiryShown s c idle) [(.CH_EVT, c), (.CH_STATUS, c)] := by
  unfold expiryShown
  cases idle with
  | false => exact (setsRegs_raise ..).mono (by simp [CH_EVT.ROOT_EXPIRED])
  | true =>
    exact ((setsRegs_setF s CH_STATUS.REKEYING c 0).trans (setsRegs_raise ..)).mono
      (by simp [CH_EVT.ROOT_EXPIRED, CH_STATUS.REKEYING])

theorem fb_ROOT_EXPIRED_expiryShown (s : State) (c : Nat) (idle : Bool) :
    (expiryShown s c idle).fb CH_EVT.ROOT_EXPIRED c = true := State.fb_setF_set (by decide)

theorem fb_REKEYING_expiryShown (s : State) (c : Nat) : (expiryShown s c true).fb CH_STATUS.REKEYING c = false := by
  rw [expiryShown, State.fb_raise_ne (by decide) (.inl (by decide)), if_pos rfl]
  exact State.fb_setF_zero (by decide)

/-- ROOT_EXPIRY of a channel with a root. -/
theorem rootExpiry_spec {c : Fin 16384} (h : memQuiet s ctxCtl) (hok : ctxBit s Ctx.ROOT_OK c = true)
    (hi : ctxBit s Ctx.IMPORT c = false) : ∃ t, exec (.rootExpiry c) s = .next t ∧
      ctxBit t Ctx.ROOT_EXP c = true ∧ t.fb CH_EVT.ROOT_EXPIRED c = true ∧ (t.key c).due = false ∧
      (s.session c = none → t.fb CH_STATUS.REKEYING c = false) ∧
      (∀ cur tx, nextEpoch t c cur tx = none) ∧ keepsCtx s t c [Ctx.ROOT_EXP] ∧
      keepsRegs s t [(.CH_EVT, c), (.CH_STATUS, c)] ∧
      t = { s with regs := t.regs, keys := t.keys, rams := t.rams, valid := t.valid, memCtl := t.memCtl } := by
  obtain ⟨hv, ho⟩ := ctxSet_quiet (x := Ctx.ROOT_EXP) h (by decide) c 1 codeSilo
  have hx : exec (.rootExpiry c) s = .next (expiryShown
      ((ctxSet s Ctx.ROOT_EXP c 1 codeSilo).setKey c { s.key c with due := false, retry := 0, waitLink := false })
      c (s.session c).isNone) := by
    show execRootExpiry c s = _
    rw [execRootExpiry, hok, hi, if_pos (by decide)]
    rfl
  generalize ctxSet s Ctx.ROOT_EXP c 1 codeSilo = u at hv ho hx
  have hframe : u.setKey c { s.key c with due := false, retry := 0, waitLink := false } =
      { u with keys := (u.setKey c { s.key c with due := false, retry := 0, waitLink := false }).keys } := rfl
  have hkey := State.key_setKey_self u c { s.key c with due := false, retry := 0, waitLink := false }
  generalize u.setKey c { s.key c with due := false, retry := 0, waitLink := false } = v at hframe hkey hx
  have hshown := setsRegs_expiryShown v c (s.session c).isNone
  have hkept : ContextsKept u (expiryShown v c (s.session c).isNone) :=
    (contextsKept_of_eq (by rw [hframe]) (by rw [hframe]) (by rw [hframe])).trans (hshown.only.contextsKept (by simp))
  have hexp : ctxBit (expiryShown v c (s.session c).isNone) Ctx.ROOT_EXP c = true := by
    rw [hkept.ctxBit, ctxBit, hv]
    rfl
  refine ⟨_, hx, hexp, fb_ROOT_EXPIRED_expiryShown .., ?_, fun hnone => ?_, nextEpoch_expired hexp, ?_, ?_, ?_⟩
  · rw [State.key, hshown.1]
    exact congrArg ChanKey.due hkey
  · rw [hnone]
    exact fb_REKEYING_expiryShown v c
  · exact (contextsKept_refl s).keepsCtx ho.keeps hkept
  · intro r i hr
    rw [hshown.2 r i hr, State.reg, hframe]
    exact congrArg (SMap.get regResetAt · (r.key i)) ho.frame.regs
  · rw [hshown.1, hframe, show u = _ from ho.frame]

end

end Sys2Proof.Machine
end

section
/-! # Key slots: rotation (R142) -/

namespace Sys2Proof.Machine

/-! ### Rotation of the ingress slots (R142) -/

/-- The first half of a rotation: the next slot becomes current and the hold of the previous one starts. -/
def slotTurned (s : State) (c : Nat) : State :=
  let s := ctxD (ctxD s Ctx.IN_CUR c (inNext s c)) Ctx.PREV_LIVE c 1
  ctxD s Ctx.ROT_TIME c (s.rtc.toNat / 1000 % 2 ^ 32)

/-- The second half: slot `n`, which becomes next, is emptied. -/
def slotEmptied (s : State) (c n : Nat) : State :=
  zeroInSlot (ctxD (ctxD (setInValid s c n false codeData) (inHigh n) c 0) Ctx.REPLAY_MAP c 0) c n

/-- The fields of slot `k` beside its VALID bit. -/
abbrev inPlaces (k : Nat) : List CtxF := [inKey k, inAux k, inEpoch k, inSalt k, inHigh k]

/-- The fields that a rotation writes when slot `n` becomes next. -/
abbrev rotated (n : Nat) : List CtxF :=
  [Ctx.IN_CUR, Ctx.PREV_LIVE, Ctx.ROT_TIME, Ctx.IN_VALID, inHigh n, Ctx.REPLAY_MAP, inKey n, inAux n, inEpoch n, inSalt n]

/-- Of them, those that emptying the slot writes. -/
abbrev emptied (n : Nat) : List CtxF := [Ctx.IN_VALID, inHigh n, Ctx.REPLAY_MAP, inKey n, inAux n, inEpoch n, inSalt n]

theorem apart_emptied : ∀ n : Fin 3, [Ctx.PREV_LIVE, Ctx.ROT_TIME].all (fun x => (emptied n).all (apart x)) = true := by decide

/-- The fields of different slots share no byte, and none with the others that a rotation writes. -/
theorem apart_rotated : ∀ n k : Fin 3, n ≠ k → (inPlaces k).all (fun x => (rotated n).all (apart x)) = true := by decide

/-- The material of a slot shares no byte with its high mark or with the replay map. -/
theorem apart_inMaterial : ∀ n : Fin 3, [inHigh n, Ctx.REPLAY_MAP].all
    (fun x => [inKey n, inAux n, inEpoch n, inSalt n].all (apart x)) = true := by decide

section
variable {s : State}

theorem onlyRams.rtc {t : State} (h : onlyRams s t) : t.rtc = s.rtc := (congrArg State.rtc h).trans rfl

/-- Zeroed material of an ingress slot. -/
theorem zeroInSlot_quiet (h : memQuiet s ctxCtl) (c k : Nat) :
    let t := zeroInSlot s c k
    ctxOnly s t c [inKey k, inAux k, inEpoch k, inSalt k] ∧ ctxBytes t (inKey k) c = zeros 32 ∧
      ctxBytes t (inAux k) c = zeros 32 ∧ ctx t (inEpoch k) c = 0 ∧ ctx t (inSalt k) c = 0 := by
  have hl := slotFields_in k
  simp only [slotFields, Bool.and_eq_true] at hl
  obtain ⟨⟨⟨⟨⟨hl, -⟩, -⟩, -⟩, -⟩, -⟩ := hl
  obtain ⟨ho, hk, hx, he, hn⟩ := putSlot_quiet h hl c (k := zeros 32) (x := zeros 32) rfl rfl 0 0
  exact ⟨ho, hk, hx, he.trans (Nat.zero_mod _), hn.trans (Nat.zero_mod _)⟩

theorem rotate_eq (s : State) (c : Nat) : rotate s c =
    deriveNext (mirrorChan (slotEmptied (slotTurned s c) c (inNext (slotTurned s c) c)) c) c false := rfl

theorem slotTurned_quiet (h : memQuiet s ctxCtl) (c : Nat) :
    ctxOnly s (slotTurned s c) c [Ctx.IN_CUR, Ctx.PREV_LIVE, Ctx.ROT_TIME] ∧ inCur (slotTurned s c) c = inNext s c ∧
      ctxBit (slotTurned s c) Ctx.PREV_LIVE c = true ∧ ctx (slotTurned s c) Ctx.ROT_TIME c = s.rtc.toNat / 1000 % 2 ^ 32 ∧
      ctx (slotTurned s c) Ctx.IN_VALID c = ctx s Ctx.IN_VALID c := by
  unfold slotTurned ctxD
  dsimp only
  have hb := ctxSet_beside (x := Ctx.IN_CUR) (y := Ctx.IN_VALID) h (by decide) (by decide) c (inNext s c) codeData
  obtain ⟨v1, o1⟩ := ctxSet_quiet (x := Ctx.IN_CUR) h (by decide) c (inNext s c) codeData
  generalize ctxSet s Ctx.IN_CUR c (inNext s c) codeData = s1 at hb v1 o1
  obtain ⟨v2, o2⟩ := ctxSet_quiet (x := Ctx.PREV_LIVE) (o1.frame.quiet h) (by decide) c 1 codeData
  generalize ctxSet s1 Ctx.PREV_LIVE c 1 codeData = s2 at v2 o2
  have hrtc : s2.rtc = s.rtc := o2.frame.rtc.trans o1.frame.rtc
  rw [hrtc]
  obtain ⟨v3, o3⟩ := ctxSet_quiet (x := Ctx.ROT_TIME) (o2.frame.quiet (o1.frame.quiet h)) (by decide) c
    (s.rtc.toNat / 1000 % 2 ^ 32) codeData
  generalize ctxSet s2 Ctx.ROT_TIME c (s.rtc.toNat / 1000 % 2 ^ 32) codeData = s3 at v3 o3
  refine ⟨(o1.mono (by simp)).trans ((o2.mono (by simp)).trans (o3.mono (by simp))), ?_, ?_, ?_, ?_⟩
  · rw [inCur, o3.ctx (by decide), o2.ctx (by decide), v1]
    exact Nat.mod_eq_of_lt (Nat.lt_trans (inNext_lt s c) (by decide))
  · rw [ctxBit, o3.ctx (by decide), v2]
    rfl
  · exact v3.trans (Nat.mod_mod _ _)
  · rw [o3.ctx (by decide), o2.ctx (by decide), hb]

theorem slotEmptied_quiet (h : memQuiet s ctxCtl) (c : Nat) {n : Nat} (hn : n < 3) :
    ctxOnly s (slotEmptied s c n) c (emptied n) ∧
      ctx (slotEmptied s c n) Ctx.IN_VALID c = putBits (ctx s Ctx.IN_VALID c) n 1 (b2n false) % 8 ∧
      inCur (slotEmptied s c n) c = inCur s c ∧ ctx (slotEmptied s c n) (inHigh n) c = 0 ∧
      ctx (slotEmptied s c n) Ctx.REPLAY_MAP c = 0 ∧ ctxBytes (slotEmptied s c n) (inKey n) c = zeros 32 ∧
      ctxBytes (slotEmptied s c n) (inAux n) c = zeros 32 ∧ ctx (slotEmptied s c n) (inSalt n) c = 0 ∧
      ctx (slotEmptied s c n) (inEpoch n) c = 0 := by
  unfold slotEmptied ctxD
  have hap := List.all_eq_true.1 (apart_inMaterial ⟨n, hn⟩)
  have hcur : [inKey n, inAux n, inEpoch n, inSalt n].all (apart Ctx.IN_CUR) = true := apart_inValid n
  have hb := ctxSet_beside (x := Ctx.IN_VALID) (y := Ctx.IN_CUR) h (by decide) (by decide) c
    (putBits (ctx s Ctx.IN_VALID c) n 1 (b2n false)) codeData
  obtain ⟨v1, o1⟩ := setInValid_quiet h c n false codeData
  rw [← setInValid] at hb
  generalize setInValid s c n false codeData = s1 at hb v1 o1
  have q1 := o1.frame.quiet h
  obtain ⟨v2, o2⟩ := ctxSet_quiet q1 (inHigh_off n) c 0 codeData
  generalize ctxSet s1 (inHigh n) c 0 codeData = s2 at v2 o2
  have q2 := o2.frame.quiet q1
  obtain ⟨v3, o3⟩ := ctxSet_quiet (x := Ctx.REPLAY_MAP) q2 (by decide) c 0 codeData
  generalize ctxSet s2 Ctx.REPLAY_MAP c 0 codeData = s3 at v3 o3
  obtain ⟨o4, hk, hx, he, hs⟩ := zeroInSlot_quiet (o3.frame.quiet q2) c n
  generalize zeroInSlot s3 c n = s4 at o4 hk hx he hs
  refine ⟨(o1.mono (by simp)).trans ((o2.mono (by simp)).trans ((o3.mono (by simp)).trans (o4.mono (by simp)))), ?_, ?_, ?_, ?_,
    hk, hx, hs, he⟩
  · rw [o4.ctx (by exact apart_inValid n), o3.ctx (by decide), o2.ctx (by exact apart_inHigh (by decide) n), v1]
  · rw [inCur, o4.ctx hcur, o3.ctx (by decide), o2.ctx (by exact apart_inHigh (by decide) n), hb, inCur]
  · rw [o4.ctx (hap _ (by simp)), o3.ctx (apart_replayMap n), v2, Nat.zero_mod]
  · rw [o4.ctx (hap _ (by simp)), v3, Nat.zero_mod]

/-- The ingress half of a channel after a rotation that left slot `n` empty. -/
structure Rotated (s t : State) (c n : Nat) : Prop where
  cur : inCur t c = inNext s c
  prev : inPrev t c = inCur s c
  next : inNext t c = n
  live : ctxBit t Ctx.PREV_LIVE c = true
  time : ctx t Ctx.ROT_TIME c = s.rtc.toNat / 1000 % 2 ^ 32
  invalid : inValid t c n = false
  high : ctx t (inHigh n) c = 0
  key : ctxBytes t (inKey n) c = zeros 32
  aux : ctxBytes t (inAux n) c = zeros 32
  salt : ctx t (inSalt n) c = 0
  epoch : ctx t (inEpoch n) c = 0
  map : ctx t Ctx.REPLAY_MAP c = 0
  others : ∀ k : Nat, k ≤ 2 → k ≠ n →
    inValid t c k = inValid s c k ∧ inMat t c k = inMat s c k ∧ ctx t (inHigh k) c = ctx s (inHigh k) c

theorem Rotated.kept {t u : State} {c n : Nat} (h : Rotated s u c n) (hk : ContextsKept u t) (hu : noErrors u) (ht : noErrors t) :
    Rotated s t c n := by
  have hcur : inCur t c = inCur u c := hk.ctx ..
  have hvalid : ∀ k, inValid t c k = inValid u c k := fun k => by rw [inValid_clean ht, hk.ctx, inValid_clean hu]
  have hmat : ∀ k, inMat t c k = inMat u c k := fun k => by
    rw [inMat, hk.ctxBytes, hk.ctxBytes, hk.ctxBytes, hk.ctx, inMat]
  exact ⟨hcur.trans h.cur, by rw [inPrev, hcur, ← inPrev, h.prev], by rw [inNext, hcur, ← inNext, h.next],
    (hk.ctxBit ..).trans h.live, (hk.ctx ..).trans h.time, (hvalid n).trans h.invalid, (hk.ctx ..).trans h.high,
    (hk.ctxBytes ..).trans h.key, (hk.ctxBytes ..).trans h.aux, (hk.ctx ..).trans h.salt, (hk.ctx ..).trans h.epoch,
    (hk.ctx ..).trans h.map, fun k hle hne => by rw [hvalid, hmat, hk.ctx]; exact h.others k hle hne⟩

/-- The writes of a rotation, before its record and its derivation. -/
theorem rotate_writes (h : memQuiet s ctxCtl) {c : Nat} (hc : inCur s c ≤ 2) :
    let t := slotEmptied (slotTurned s c) c (inNext (slotTurned s c) c)
    let n := (inNext s c + 1) % 3
    ctxOnly s t c (rotated n) ∧ Rotated s t c n := by
  intro t n
  obtain ⟨ou, hcur, hlive, htime, hvalid⟩ := slotTurned_quiet h c
  have ht : t = slotEmptied (slotTurned s c) c (inNext (slotTurned s c) c) := rfl
  generalize slotTurned s c = u at ou hcur hlive htime hvalid ht
  have hn : n < 3 := Nat.mod_lt _ (by decide)
  rw [show inNext u c = n from by rw [inNext, hcur]] at ht
  obtain ⟨ot, hv, hcur', hhigh, hmap, hkey, haux, hsalt, hepoch⟩ := slotEmptied_quiet (ou.frame.quiet h) c hn
  rw [← ht] at ot hv hcur' hhigh hmap hkey haux hsalt hepoch
  clear_value t
  rw [hcur] at hcur'
  rw [hvalid] at hv
  have hq := ot.frame.quiet (ou.frame.quiet h)
  have hall : ctxOnly s t c (rotated n) := (ou.mono (by simp)).trans (ot.mono (by simp))
  refine ⟨hall, hcur', ?_, ?_, ?_, ?_, ?_, hhigh, hkey, haux, hsalt, hepoch, hmap, fun k hk hne => ?_⟩
  · rw [inPrev, hcur', inNext]
    omega
  · rw [inNext, hcur']
  · rw [ctxBit, ot.ctx (List.all_eq_true.1 (apart_emptied ⟨n, hn⟩) _ (by simp)), ← ctxBit, hlive]
  · rw [ot.ctx (List.all_eq_true.1 (apart_emptied ⟨n, hn⟩) _ (by simp)), htime]
  · rw [inValid_clean hq.1, hv]
    exact bitAt_cleared _ _ 3
  · have hap := List.all_eq_true.1 (apart_rotated ⟨n, hn⟩ ⟨k, by omega⟩ fun he => hne (congrArg Fin.val he).symm)
    refine ⟨?_, ?_, hall.ctx (hap _ (by simp))⟩
    · have hbit : (putBits (ctx s Ctx.IN_VALID c) n 1 (b2n false) % 2 ^ 3).testBit k = (ctx s Ctx.IN_VALID c).testBit k := by
        rw [Nat.testBit_mod_two_pow, testBit_putBits, if_neg (by omega), decide_eq_true (by omega), Bool.true_and]
      rw [inValid_clean hq.1, inValid_clean h.1, hv]
      exact hbit
    · have hw := slotFields_in k
      simp only [slotFields, Bool.and_eq_true] at hw
      obtain ⟨⟨⟨⟨⟨-, hsalt⟩, -⟩, -⟩, hkey⟩, haux⟩ := hw
      rw [inMat, hall.ctxBytes hkey (hap _ (by simp)), hall.ctxBytes haux (hap _ (by simp)), hall.ctxBytes hsalt (hap _ (by simp)),
        hall.ctx (hap _ (by simp)), inMat]

/-- A slot became current: its record goes out, and the derivation of the epoch that follows starts. -/
theorem slotTaken (s : State) (c : Nat) (tx : Bool) (fs : List CtxF) :
    let t := deriveNext (mirrorChan s c) c tx
    ContextsKept s t ∧ SlotWork s t c fs (t.key c) ∧ onlyDerives s t c := by
  intro t
  have hrec : SlotWork s (mirrorChan s c) c fs (s.key c) := slotWork_mirror ..
  have hkept : ContextsKept s (mirrorChan s c) := contextsKept_mirror ..
  obtain ⟨k, hd, hjobs, hkey, hothers⟩ := onlyDerives_deriveNext (mirrorChan s c) c tx
  rw [hrec.key] at hkey
  have hwork := hrec.trans hd.slotWork
  exact ⟨hkept.trans hd.contextsKept, hd.key.symm ▸ hwork, hwork.jobs, hkey, hwork.others⟩

/-- Rotation. -/
theorem rotate_spec (h : memQuiet s ctxCtl) {c : Nat} (hc : inCur s c ≤ 2) :
    let t := rotate s c
    let n := (inNext s c + 1) % 3
    Rotated s t c n ∧ SlotWork s t c (rotated n) (t.key c) ∧ onlyDerives s t c := by
  intro t n
  obtain ⟨ho, hrot⟩ := rotate_writes h hc
  have ht : t = deriveNext (mirrorChan (slotEmptied (slotTurned s c) c (inNext (slotTurned s c) c)) c) c false := rotate_eq s c
  generalize slotEmptied (slotTurned s c) c (inNext (slotTurned s c) c) = u at ho hrot ht
  obtain ⟨hkept, htaken, -, hkey, -⟩ := slotTaken u c false (rotated n)
  rw [← ht] at hkept htaken hkey
  clear_value t
  have hwork := ho.slotWork.trans htaken
  rw [key_of_keys ho.frame.keys] at hkey
  exact ⟨hrot.kept hkept (ho.frame.quiet h).1 (hwork.quiet h).1, hwork, hwork.jobs, hkey, hwork.others⟩

end

end Sys2Proof.Machine
end

section
/-! # Key slots: the switch, and all three together (R139, R141, R147) -/

namespace Sys2Proof.Machine

/-! ### The switch of the egress key (R139, R141, R147) -/

/-- What a switch notes of the channel: its old slot retires, and the limits of the epoch are those of the context (R127). -/
def switchNoted (s : State) (c old : Nat) : State :=
  s.setChan c { s.chan c with
    forced := false, importDue := false, sakStart := none, retiring := bitAt (ctx s Ctx.VALID c) old,
    epochBlk := ctx s Ctx.EPOCH_BLK c, epochTime := ctx s Ctx.EPOCH_TIME c }

/-- Slot `k` becomes current, and numbering, blocks and clock start anew. -/
def switchWritten (s : State) (c k : Nat) : State :=
  let s := ctxD (ctxD (ctxD s Ctx.CUR c k) Ctx.NEXT_SEQ c 1) Ctx.EPOCH_BLOCKS c 0
  ctxD s Ctx.EPOCH_START c s.rtc.toNat

/-- The fields that a switch writes. -/
abbrev switched : List CtxF := [Ctx.CUR, Ctx.NEXT_SEQ, Ctx.EPOCH_BLOCKS, Ctx.EPOCH_START]

/-- A number that has reached its limit is told. -/
def limitTold (s : State) (c : Nat) : State := if atLimit s c then s.raise CH_EVT.SEQ_LIMIT c else s

/-- The state of a switch before its record and its derivation. -/
def switchShown (s : State) (c : Nat) : State :=
  (chCount (switchWritten (switchNoted (limitTold s c) c (egCur s c)) c (1 - egCur s c)) c cEpochCount 1).setF CH_STATUS.STARVED c 0

section
variable {s : State} {c : Nat}

theorem epochSwitch_eq (h : noErrors s) (c : Nat) : epochSwitch s c = deriveNext (mirrorChan (switchShown s c) c) c true := by
  unfold epochSwitch
  simp only [seqLineBad_clean h, Bool.not_false, Bool.and_true, Bool.false_eq_true, if_false]
  rfl

theorem setsRegs_limitTold (s : State) (c : Nat) : setsRegs s (limitTold s c) [(.CH_EVT, c)] := by
  unfold limitTold
  split
  · exact setsRegs_raise ..
  · exact setsRegs_refl s

theorem switchWritten_quiet (h : memQuiet s ctxCtl) (c k : Nat) :
    ctxOnly s (switchWritten s c k) c switched ∧ egCur (switchWritten s c k) c = k % 2 ∧
      ctx (switchWritten s c k) Ctx.NEXT_SEQ c = 1 ∧ ctx (switchWritten s c k) Ctx.EPOCH_BLOCKS c = 0 ∧
      ctx (switchWritten s c k) Ctx.EPOCH_START c = s.rtc.toNat := by
  unfold switchWritten ctxD
  dsimp only
  obtain ⟨v1, o1⟩ := ctxSet_quiet (x := Ctx.CUR) h (by decide) c k codeData
  generalize ctxSet s Ctx.CUR c k codeData = s1 at v1 o1
  have q1 := o1.frame.quiet h
  obtain ⟨v2, o2⟩ := ctxSet_quiet (x := Ctx.NEXT_SEQ) q1 (by decide) c 1 codeData
  generalize ctxSet s1 Ctx.NEXT_SEQ c 1 codeData = s2 at v2 o2
  have q2 := o2.frame.quiet q1
  obtain ⟨v3, o3⟩ := ctxSet_quiet (x := Ctx.EPOCH_BLOCKS) q2 (by decide) c 0 codeData
  generalize ctxSet s2 Ctx.EPOCH_BLOCKS c 0 codeData = s3 at v3 o3
  obtain ⟨v4, o4⟩ := ctxSet_quiet (x := Ctx.EPOCH_START) (o3.frame.quiet q2) (by decide) c s3.rtc.toNat codeData
  generalize ctxSet s3 Ctx.EPOCH_START c s3.rtc.toNat codeData = s4 at v4 o4
  refine ⟨(o1.mono (by simp)).trans ((o2.mono (by simp)).trans ((o3.mono (by simp)).trans (o4.mono (by simp)))), ?_, ?_, ?_, ?_⟩
  · rw [egCur, o4.ctx (by decide), o3.ctx (by decide), o2.ctx (by decide), v1]
    rfl
  · rw [o4.ctx (by decide), o3.ctx (by decide), v2]
    rfl
  · rw [o4.ctx (by decide), v3, Nat.zero_mod]
  · rw [v4, o3.frame.rtc, o2.frame.rtc, o1.frame.rtc]
    exact Nat.mod_eq_of_lt s.rtc.isLt

/-- What a switch has done before its record and its derivation. -/
structure Switched (s t : State) (c : Nat) : Prop where
  frame : t = { s with regs := t.regs, chans := t.chans, cntPend := t.cntPend, rams := t.rams, valid := t.valid,
                       memCtl := t.memCtl }
  keeps : keepsCtx s t c switched
  regs : keepsRegs s t [(.CH_STATUS, c), (.CH_EVT, c)]
  chans : keepsChans s t c
  cur : egCur t c = 1 - egCur s c
  seq : ctx t Ctx.NEXT_SEQ c = 1
  blocks : ctx t Ctx.EPOCH_BLOCKS c = 0
  start : ctx t Ctx.EPOCH_START c = s.rtc.toNat
  imported : ctxBit t Ctx.IMPORT c = ctxBit s Ctx.IMPORT c
  count : pends t c cEpochCount = pends s c cEpochCount + 1
  starved : t.fb CH_STATUS.STARVED c = false
  forced : (t.chan c).forced = false
  retiring : (t.chan c).retiring = bitAt (ctx s Ctx.VALID c) (egCur s c)

/-- What a switch notes of its channel before it writes the context. -/
structure SwitchNote (s t : State) (c old : Nat) : Prop where
  frame : t = { s with regs := t.regs, chans := t.chans }
  regs : keepsRegs s t [(.CH_EVT, c)]
  chans : keepsChans s t c
  forced : (t.chan c).forced = false
  retiring : (t.chan c).retiring = bitAt (ctx s Ctx.VALID c) old

theorem switchNote_switchNoted (s : State) (c old : Nat) : SwitchNote s (switchNoted (limitTold s c) c old) c old := by
  have ha := setsRegs_limitTold s c
  generalize limitTold s c = a at ha
  have hkept : ContextsKept s a := ha.only.contextsKept (by simp)
  have hchans : a.chans = s.chans := (congrArg State.chans ha.1).trans rfl
  have hself : (switchNoted a c old).chan c = _ := State.chan_setChan_self ..
  refine ⟨?_, ha.2, fun d hd => (keepsChans_setChan a c _ d hd).trans (chan_of_chans hchans d), by rw [hself], ?_⟩
  · exact congrArg (fun x : State => { x with chans := (switchNoted a c old).chans }) ha.1
  · rw [hself]
    exact congrArg (bitAt · old) (hkept.ctx ..)

theorem SwitchNote.contextsKept {t : State} {old : Nat} (h : SwitchNote s t c old) : ContextsKept s t :=
  ⟨(congrArg State.rams h.frame).trans rfl, (congrArg State.ctxBlank h.frame).trans rfl, fun _ => by
    unfold slotOf State.f
    rw [h.regs _ _ (by simp [CH_REMAP.SLOT])]⟩

theorem SwitchNote.quiet {t : State} {old : Nat} (h : SwitchNote s t c old) (hq : memQuiet s ctxCtl) : memQuiet t ctxCtl := by
  refine ⟨((congrArg State.errs h.frame).trans rfl).trans hq.1, ?_⟩
  unfold State.f
  rw [h.regs _ _ (by simp [MEM_FLIPMASK.MODE])]
  exact hq.2

theorem switched_shown (h : memQuiet s ctxCtl) (c : Nat) : Switched s (switchShown s c) c := by
  have hn := switchNote_switchNoted s c (egCur s c)
  unfold switchShown
  generalize switchNoted (limitTold s c) c (egCur s c) = n at hn
  obtain ⟨hw, hcur, hseq, hblocks, hstart⟩ := switchWritten_quiet (hn.quiet h) c (1 - egCur s c)
  generalize switchWritten n c (1 - egCur s c) = w at hw hcur hseq hblocks hstart
  have hcount := pends_chCount_self w c cEpochCount 1
  have hd : chCount w c cEpochCount 1 = { w with cntPend := (chCount w c cEpochCount 1).cntPend } := rfl
  generalize chCount w c cEpochCount 1 = d at hd hcount
  have hstarved : (d.setF CH_STATUS.STARVED c 0).fb CH_STATUS.STARVED c = false := State.fb_setF_zero (by decide)
  have he := setsRegs_setF d CH_STATUS.STARVED c 0
  generalize d.setF CH_STATUS.STARVED c 0 = e at he hstarved
  have hkept : ContextsKept w e :=
    (contextsKept_of_eq (by rw [hd]) (by rw [hd]) (by rw [hd])).trans (he.only.contextsKept (by simp [CH_STATUS.STARVED]))
  have hchans : e.chans = n.chans := by rw [he.1, hd, show w = _ from hw.frame]
  have hpend : e.cntPend = d.cntPend := by rw [he.1]
  have hwpend : w.cntPend = s.cntPend := by rw [hw.frame.cntPend, hn.frame]
  refine ⟨?_, hn.contextsKept.keepsCtx hw.keeps hkept, fun r i hr => ?_, fun k hk => ?_, ?_, ?_, ?_, ?_, ?_, ?_,
    hstarved, ?_, ?_⟩
  · rw [he.1, hd, show w = _ from hw.frame, hn.frame]
  · have hr' : (r, i) ≠ (.CH_STATUS, c) ∧ (r, i) ≠ (.CH_EVT, c) := by simpa using hr
    rw [he.2 r i (by simpa [CH_STATUS.STARVED] using hr'.1), State.reg, hd, show w = _ from hw.frame]
    exact hn.regs r i (by simpa using hr'.2)
  · exact (chan_of_chans hchans k).trans (hn.chans k hk)
  · rw [egCur, hkept.ctx, ← egCur, hcur]
    omega
  · rw [hkept.ctx, hseq]
  · rw [hkept.ctx, hblocks]
  · rw [hkept.ctx, hstart, hn.frame]
  · rw [hkept.ctxBit, ctxBit, hw.ctx (by decide), ← ctxBit, hn.contextsKept.ctxBit]
  · rw [pends_of_held hpend, hcount, pends_of_held hwpend]
  · rw [chan_of_chans hchans, hn.forced]
  · rw [chan_of_chans hchans, hn.retiring]

theorem shadows_congr {t : State} (hm : t.f GLB_MODE.MODE 0 = s.f GLB_MODE.MODE 0)
    (hr : t.f TWN_STATUS.ROLE 0 = s.f TWN_STATUS.ROLE 0) : shadows t = shadows s := by
  unfold shadows State.mode
  rw [hm, hr]

theorem ContextsKept.curEpoch {t : State} (h : ContextsKept s t) (c : Nat) : curEpoch t c true = curEpoch s c true := by
  simp only [Sys2Proof.Machine.curEpoch, egCur, h.ctx, if_true]

/-- The derivation that an egress slot which became current starts (R34, R144). -/
theorem slotTaken_jobTx {r : Root} {e : Nat} (hi : ctxBit s Ctx.IMPORT c = false) (hs : shadows s = false)
    (hn : nextEpoch (deriveNext (mirrorChan s c) c true) c (curEpoch (deriveNext (mirrorChan s c) c true) c true) true =
      some (r, e)) :
    ((deriveNext (mirrorChan s c) c true).key c).jobTx = some e := by
  have hrec : SlotWork s (mirrorChan s c) c [] (s.key c) := slotWork_mirror ..
  have hkept : ContextsKept s (mirrorChan s c) := contextsKept_mirror ..
  generalize mirrorChan s c = w at hrec hkept hn
  obtain ⟨k, hd, -, hkey, -⟩ := onlyDerives_deriveNext w c true
  rw [nextEpoch_congr hd.contextsKept hd.pins hkey, hd.contextsKept.curEpoch] at hn
  exact deriveNext_jobTx hn ((hkept.ctxBit ..).trans hi) ((shadows_congr (hrec.f ..) (hrec.f ..)).trans hs)

section
variable {t : State} (h : Switched s t c)
include h

theorem Switched.field {x : Fld} (hx : x.reg ≠ .CH_STATUS ∧ x.reg ≠ .CH_EVT) (i : Nat) : t.f x i = s.f x i := by
  unfold State.f
  rw [h.regs _ _ (by simp [hx])]

theorem Switched.keys (d : Nat) : t.key d = s.key d := key_of_keys ((congrArg State.keys h.frame).trans rfl) d

theorem Switched.jobs : onlyJobs s t :=
  onlyJobs_of_eq ((congrArg State.silo h.frame).trans rfl) ((congrArg State.engs h.frame).trans rfl)

theorem Switched.mirrors : onlyMirrors s t := onlyMirrors_of_eq ((congrArg State.twin h.frame).trans rfl)
  ((congrArg State.out h.frame).trans rfl) ((congrArg State.cnts h.frame).trans rfl)

end

/-- The switch, whose record goes out and whose next epoch is derived. -/
theorem Switched.taken {t u : State} (hshown : Switched s u c) (ht : t = deriveNext (mirrorChan u c) c true) :
    egCur t c = 1 - egCur s c ∧ ctx t Ctx.NEXT_SEQ c = 1 ∧ ctx t Ctx.EPOCH_BLOCKS c = 0 ∧
      ctx t Ctx.EPOCH_START c = s.rtc.toNat ∧ pends t c cEpochCount = pends s c cEpochCount + 1 ∧
      t.fb CH_STATUS.STARVED c = false ∧ (t.chan c).forced = false ∧
      (t.chan c).retiring = bitAt (ctx s Ctx.VALID c) (egCur s c) ∧
      keepsCtx s t c switched ∧ keepsChans s t c ∧
      t = { s with regs := t.regs, chans := t.chans, cntPend := t.cntPend, rams := t.rams, valid := t.valid,
                   memCtl := t.memCtl, twin := t.twin, out := t.out, cnts := t.cnts, silo := t.silo, engs := t.engs,
                   pllRun := t.pllRun, keys := t.keys } ∧
      (∀ r e, nextEpoch t c (curEpoch t c true) true = some (r, e) → ctxBit s Ctx.IMPORT c = false → shadows s = false →
        (t.key c).jobTx = some e) ∧
      onlyDerives s t c ∧ onlyMirrors s t ∧ keepsRegs s t [(.CH_STATUS, c), (.CH_EVT, c)] := by
  obtain ⟨hkept, htaken, -, hkey, -⟩ := slotTaken u c true []
  have hderives : ∀ r e, nextEpoch t c (curEpoch t c true) true = some (r, e) → ctxBit s Ctx.IMPORT c = false →
      shadows s = false → (t.key c).jobTx = some e := by
    intro r e hn hi hs
    rw [ht] at hn ⊢
    exact slotTaken_jobTx (hshown.imported.trans hi)
      ((shadows_congr (hshown.field (by decide) 0) (hshown.field (by decide) 0)).trans hs) hn
  rw [← ht] at hkept htaken hkey
  clear ht
  have hchans : t.chans = u.chans := by rw [htaken.frame]
  have hpend : t.cntPend = u.cntPend := by rw [htaken.frame]
  have hrole : u.f TWN_STATUS.ROLE 0 = s.f TWN_STATUS.ROLE 0 := hshown.field (by decide) 0
  refine ⟨?_, ?_, ?_, ?_, ?_, ?_, ?_, ?_, ?_, ?_, ?_, hderives, ?_, ?_, ?_⟩
  · rw [egCur, hkept.ctx, ← egCur, hshown.cur]
  · rw [hkept.ctx, hshown.seq]
  · rw [hkept.ctx, hshown.blocks]
  · rw [hkept.ctx, hshown.start]
  · rw [pends_of_held hpend, hshown.count]
  · rw [State.fb, htaken.f, ← State.fb, hshown.starved]
  · rw [chan_of_chans hchans, hshown.forced]
  · rw [chan_of_chans hchans, hshown.retiring]
  · exact (contextsKept_refl s).keepsCtx hshown.keeps hkept
  · exact fun d hd => (chan_of_chans hchans d).trans (hshown.chans d hd)
  · rw [htaken.frame, hshown.frame]
  · rw [hshown.keys] at hkey
    exact ⟨hshown.jobs.trans htaken.jobs, hkey, fun d hd => (htaken.others d hd).trans (hshown.keys d)⟩
  · exact hshown.mirrors.trans htaken.mirrors hrole
  · intro r i hr
    rw [State.reg, htaken.regs]
    exact hshown.regs r i hr

end

/-! ### The statement -/

/-- Settles O23: the switch and the rotation are writes of the context, then a record and a derivation; an install ends its
derivation, fills the next slot and makes it valid; an expired root derives no more. -/
theorem slotsSwitchRotateAndFill : Obligations.SlotsSwitchRotateAndFill := by
  refine ⟨fun s c h => (switched_shown h c).taken (epochSwitch_eq h.1 c), fun s c h hc => ?_, ?_⟩
  · obtain ⟨hrot, hwork, hderives⟩ := rotate_spec h hc
    exact ⟨hrot.cur, hrot.prev, hrot.next, hrot.live, hrot.time, hrot.invalid, hrot.high, hrot.key, hrot.aux, hrot.salt,
      hrot.epoch, hrot.map, hrot.others, hwork.frame, hderives, hwork.mirrors, hwork.keeps⟩
  intro s c r e h ho free active holds
  refine ⟨fun ⟨hi, hst⟩ hv hr hw hn => ?_, fun ⟨hi, hst⟩ hc hv hn hb => ?_, rootExpiry_spec h⟩
  · obtain ⟨hfilled, hwork, hvalid, hwait⟩ := installNext_egress h ho hi hst hv hr hw hn
    refine ⟨_, rfl, hfilled, hwork.keeps, fun hne => ⟨hvalid hne, ?_⟩, fun heq => ⟨hwait heq, ?_⟩⟩
    · rw [hwork.key, filledKey, if_neg hne]
      exact endedKey_tx ..
    · rw [hwork.key, filledKey, if_pos heq, endedKey_tx]
  · obtain ⟨hfilled, hwork, hvalid⟩ := installNext_ingress h ho hi hst hv hn hb
    refine ⟨_, rfl, hvalid, ?_, hfilled, hwork.keeps⟩
    rw [hwork.key]
    exact endedKey_rx ..

end Sys2Proof.Machine
end
